-- ==== Sys2Proof/Word.lean ====
section
/-! DEFINITION. The word types of the CF9512 (chapter 0, Notation): the 64-bit data view of a word, the 72-bit
native word, and a byte. -/

namespace Sys2Proof

/-- The 64-bit data view of a word. -/
abbrev W := BitVec 64

/-- The native 72-bit word of the Hook engines and the Skein memory (R396). -/
abbrev W72 := BitVec 72

/-- One byte of a frame or of a parameter block. -/
abbrev Byte := BitVec 8

end Sys2Proof
end

