-- ==== Sys2Proof/Syntax.lean ====
section
/-! DEFINITION. The commands of the CF9512 modelled as a block: one constructor of `Instr` per row of
spec/opcode_table.json, with the types of their operands. -/

namespace Sys2Proof

/-- A command source (Table 13-5): a DRAVUA source with its SRC_DEVICE, a virtual function with its number. -/
inductive Source where
  | sideband
  | pf0
  | inband
  | pf1
  | dravua (dev : Nat)
  | vf (v : Nat)
deriving DecidableEq, Repr

/-- Where a reply goes beside its source: for an admin queue RESULT_ADDR and RESULT_MAX (Table 14-3), for a frame the receiving port and
its SMAC (R291). -/
structure ReplyTo where
  addr : Nat := 0
  max : Nat := 0
  port : Nat := 0
  smac : Nat := 0
deriving DecidableEq, Repr

/-- A command packet as it reaches the intake (R285): its source, the clock of its last byte (only compared for
equality, R300), header words and parameter words. `host` gives the words of host memory (or of
SPI NOR) that the command makes the part read (R146, R261, R431), by byte address; a word not listed reads as 0. `verified`
says whether the cryptographic checks of what the command carries pass: key hash and both signatures of an image or of a debug
token (R377, R388), integrity check of a wrapped key (R380). -/
structure Cmd where
  src : Source
  clock : Nat
  w0 : W
  w1 : W
  params : List W
  host : List (Nat × W) := []
  verified : Bool := true
  ret : ReplyTo := {}
deriving DecidableEq, Repr

/-- The paths to a register (R458, R73, R309): the PF0 BAR2 window, a command source, the debug TAP, a Hook cluster, the BAR0 of a
function, and a BAR write whose TLP is poisoned (R401). -/
inductive Path where
  | bar2
  | bar0 (fn : Nat)
  | cmd (s : Source)
  | tap
  | hook (cluster : Nat)
  | poisoned
deriving DecidableEq, Repr

/-- The width of a register access: 8 bytes, or one 4-byte half (R459). -/
inductive Half where
  | whole | low | high
deriving DecidableEq, Repr

/-- A frame as a port receives it: bytes without FCS, the 1/64-tick point of its message timestamp point (R20),
whether its FCS is good, and whether MACsec verified it. `line`, where it is not empty, gives the frame as the symbols of each physical
lane of the port instead, one list a lane, the symbol before the frame first; bytes and FCS are then what they decode to (R76 to R79). -/
structure RxFrame where
  bytes : List Byte
  sub : Nat
  fcsGood : Bool
  macsecOk : Bool
  line : List (List Nat) := []
deriving DecidableEq, Repr

/-- An image as a verifier reads it from SPI NOR or host memory (R420, R421): its bytes with the signature block, none where the
directory lists no image, whether the source could be read, and whether key hash and both signatures pass (R377). -/
structure SpiImage where
  bytes : List Byte := []
  readOk : Bool := true
  verified : Bool := true
deriving DecidableEq, Repr

/-- A ring whose entries the device fetches (R312, R328, R331). -/
inductive Ring where
  | admin (fn : Nat)
  | qp (q : Nat)
  | chan (c : Nat)
deriving DecidableEq, Repr

/-- A completion queue (R325): of a queue pair or of a DMA channel. -/
inductive CqRef where
  | qp (q : Nat)
  | chan (c : Nat)
deriving DecidableEq, Repr

/-- What the analogue side reports when a bring-up stage completes: for stage 5 the physical lane of each logical lane and the
measured skew of each lane in ns (R83), for stage 6 the lanes, as bits, on which training sets precoding in each direction (R77), for
stage 7 of a CPRI port the protocol version of its start-up (R94). -/
structure BringUp where
  laneMap : List Nat
  skew : List Nat
  txPre : Nat := 0
  rxPre : Nat := 0
  cpriVersion : Nat := 1
deriving DecidableEq, Repr

/-- What a receiver has seen on a lane, oldest first (Table 4-3): for each comma at one 10-bit boundary whether a code violation came
before it, sync headers at one position, for each codeword whether the decoder flags it uncorrectable, block markers at 5,808-bit
spacing, PATTERN and AM_COUNT where alignment markers belong; whether the machine of the standard that Table 4-3 names is in lock;
whether the marker of the training frames is found; whether the polarity found is inverted; and whether the lane has left its deskew. -/
structure Hunt where
  commas : List Bool := []
  headers : List Nat := []
  codewords : List Bool := []
  markers : List Nat := []
  ams : List (Nat × Nat) := []
  standard : Bool := false
  training : Bool := false
  inverted : Bool := false
  deskewLost : Bool := false
deriving DecidableEq, Repr

/-- A lane and what its receiver has seen on it. -/
structure LaneSeen where
  lane : Nat
  seen : Hunt
deriving DecidableEq, Repr

/-- A cell in flight to a Tile, by its place among those, and whether its plane found its header uncorrectable (R175). -/
structure CellIn where
  index : Nat
  hdrBad : Bool
deriving DecidableEq, Repr

/-- The commands, one per row of the table of operations and events. -/
inductive Instr where
  /-- NOP (R287). -/
  | nop (c : Cmd)
  /-- NEGOTIATE_VERSION (R298). -/
  | negotiateVersion (c : Cmd)
  /-- DEVICE_INFO (R287). -/
  | deviceInfo (c : Cmd)
  /-- CMD_CANCEL (R296). -/
  | cmdCancel (c : Cmd)
  /-- EVENT_SUBSCRIBE (R303). -/
  | eventSubscribe (c : Cmd)
  /-- EVENT_UNSUBSCRIBE (R303). -/
  | eventUnsubscribe (c : Cmd)
  /-- MGMT_RELAY (R304). -/
  | mgmtRelay (c : Cmd)
  /-- RELAY_REPLY (R304). -/
  | relayReply (relay : Nat) (w0 : W) (w1 : W) (result : List W)
  /-- RELAY_TIMEOUT (R304). -/
  | relayTimeout (relay : Nat)
  /-- REG_READ (R458). -/
  | regRead (c : Cmd)
  /-- REG_WRITE (R458). -/
  | regWrite (c : Cmd)
  /-- MAST_CONFIG (R469). -/
  | mastConfig (c : Cmd)
  /-- MAST_SET_TIME (R19). -/
  | mastSetTime (c : Cmd)
  /-- TIMELINE_SET (R56). -/
  | timelineSet (c : Cmd)
  /-- TIMELINE_APPLY (R56). -/
  | timelineApply (timeline : Nat)
  /-- RIGGING_WRITE_ENTRIES (R61). -/
  | riggingWriteEntries (c : Cmd)
  /-- RIGGING_WRITE_TARGET_SETS (R61). -/
  | riggingWriteTargetSets (c : Cmd)
  /-- RIGGING_READ (R302). -/
  | riggingRead (c : Cmd)
  /-- RIGGING_COMMIT (R62). -/
  | riggingCommit (c : Cmd)
  /-- RIGGING_CANCEL (R65). -/
  | riggingCancel (c : Cmd)
  /-- BANK_SWITCH (R63). -/
  | bankSwitch
  /-- RIGGING_EVALUATE (R12). -/
  | riggingEvaluate (bank : Nat) (entry : Nat)
  /-- GATE_OPEN (R186). -/
  | gateOpen (bank : Nat) (entry : Nat)
  /-- GATE_CLOSE (R187). -/
  | gateClose (bank : Nat) (entry : Nat)
  /-- SKEIN_CLOSE (R207). -/
  | skeinClose (bank : Nat) (entry : Nat)
  /-- LANE_SLEEP_RX (R98). -/
  | laneSleepRx (bank : Nat) (entry : Nat)
  /-- LANE_SLEEP_TX (R98). -/
  | laneSleepTx (bank : Nat) (entry : Nat)
  /-- LANE_WAKE_RX (R99). -/
  | laneWakeRx (bank : Nat) (entry : Nat)
  /-- LANE_WAKE_TX (R99). -/
  | laneWakeTx (bank : Nat) (entry : Nat)
  /-- OP_SET (R351). -/
  | opSet (bank : Nat) (entry : Nat)
  /-- OP_PHASE (R351). -/
  | opPhase (bank : Nat) (entry : Nat)
  /-- PREWARM (R359). -/
  | prewarm (bank : Nat) (entry : Nat)
  /-- RAMP_DOWN (R360). -/
  | rampDown (bank : Nat) (entry : Nat)
  /-- HOOK_POST (R66). -/
  | hookPost (bank : Nat) (entry : Nat)
  /-- SYMBOL_BOUNDARY (R55). -/
  | symbolBoundary (timeline : Nat)
  /-- STEP_APPLY (R68). -/
  | stepApply
  /-- RESOLVE_REPLAY (R69). -/
  | resolveReplay
  /-- PORT_ADMIN (R104). -/
  | portAdmin (c : Cmd)
  /-- LANE_DOZE_CONFIG (R105). -/
  | laneDozeConfig (c : Cmd)
  /-- CLASS_RULE_WRITE (R112). -/
  | classRuleWrite (c : Cmd)
  /-- CLASS_MODE (R114). -/
  | classMode (c : Cmd)
  /-- CLASS_BANK_SWAP (R115). -/
  | classBankSwap (c : Cmd)
  /-- CLASS_COUNTER_READ (R111). -/
  | classCounterRead (c : Cmd)
  /-- POLICER_SET (R131). -/
  | policerSet (c : Cmd)
  /-- INDIR_WRITE (R127). -/
  | indirWrite (c : Cmd)
  /-- CPU_CODE_WRITE (R128). -/
  | cpuCodeWrite (c : Cmd)
  /-- ENCAP_WRITE (R125). -/
  | encapWrite (c : Cmd)
  /-- PACKET_INGRESS (R118). -/
  | packetIngress (port : Nat) (frame : RxFrame)
  /-- INJECTION_ADMIT (R7). -/
  | injectionAdmit (tile : Nat)
  /-- LEARN_APPLY (R139). -/
  | learnApply (tile : Nat)
  /-- AGE_SWEEP_VISIT (R143). -/
  | ageSweepVisit (tile : Nat)
  /-- L2_ENTRY_WRITE (R142). -/
  | l2EntryWrite (c : Cmd)
  /-- L2_ENTRY_DELETE (R142). -/
  | l2EntryDelete (c : Cmd)
  /-- L2_FLUSH (R142). -/
  | l2Flush (c : Cmd)
  /-- L2_FLUSH_DONE (R142). -/
  | l2FlushDone (tile : Nat)
  /-- L2_DUMP (R146). -/
  | l2Dump (c : Cmd)
  /-- L2_RESEED (R146). -/
  | l2Reseed (c : Cmd)
  /-- RESEED_DONE (R147). -/
  | reseedDone (tile : Nat)
  /-- L2_REHASH_ACK (R145). -/
  | l2RehashAck (c : Cmd)
  /-- LPM_WRITE (R154). -/
  | lpmWrite (c : Cmd)
  /-- LPM_SYNC (R154). -/
  | lpmSync (c : Cmd)
  /-- FLOOD_SET_WRITE (R170). -/
  | floodSetWrite (c : Cmd)
  /-- BUF_QUEUE_CONFIG (R158). -/
  | bufQueueConfig (c : Cmd)
  /-- XBAR_PLANE_ENABLE (R177). -/
  | xbarPlaneEnable (c : Cmd)
  /-- PLANE_READMIT (R177). -/
  | planeReadmit (plane : Nat) (missed : Bool)
  /-- PLANE_FAULT (R176). -/
  | planeFault (plane : Nat) (cause : Nat)
  /-- GRANT_WINDOW (R164). -/
  | grantWindow
  /-- CELL_ARRIVAL (R168). -/
  | cellArrival (tile : Nat) (cell : CellIn)
  /-- RSQ_TIMEOUT (R168). -/
  | rsqTimeout (tile : Nat) (stream : Nat)
  /-- AUDIT_PASS_START (R173). -/
  | auditPassStart (slice : Nat)
  /-- AUDIT_PASS_END (R174). -/
  | auditPassEnd (slice : Nat)
  /-- QUEUE_SELECTION (R181). -/
  | queueSelection (port : Nat)
  /-- PULL (R163). -/
  | pull (slice : Nat)
  /-- EGRESS_HANDOFF (R272). -/
  | egressHandoff (port : Nat)
  /-- FRAME_TRANSMIT (R26). -/
  | frameTransmit (port : Nat)
  /-- TXTS_WORD1_READ (R29). -/
  | txtsWord1Read (port : Nat) (path : Path)
  /-- TM_QUEUE_CONFIG (R185). -/
  | tmQueueConfig (c : Cmd)
  /-- TM_PORT_CONFIG (R185). -/
  | tmPortConfig (c : Cmd)
  /-- SHAPER_SET (R193). -/
  | shaperSet (c : Cmd)
  /-- TM_COUNTER_READ (R478). -/
  | tmCounterRead (c : Cmd)
  /-- TIMED_COMMAND_APPLY (R295). -/
  | timedCommandApply (order : Nat)
  /-- SKEIN_CREATE (R198). -/
  | skeinCreate (c : Cmd)
  /-- SKEIN_MODIFY (R199). -/
  | skeinModify (c : Cmd)
  /-- SKEIN_DESTROY (R199). -/
  | skeinDestroy (c : Cmd)
  /-- SKEIN_MOVE (R199). -/
  | skeinMove (c : Cmd)
  /-- SKEIN_READ (R302). -/
  | skeinRead (c : Cmd)
  /-- SKEIN_FEED_PACKET (R200). -/
  | skeinFeedPacket (tile : Nat)
  /-- FEED_STALL_DROP (R254). -/
  | feedStallDrop (cluster : Nat)
  /-- SECTION_ADMIT (R201). -/
  | sectionAdmit (cluster : Nat)
  /-- WEIGHT_MESSAGE (R205). -/
  | weightMessage (cluster : Nat)
  /-- CLOSE_BACKSTOP (R207). -/
  | closeBackstop (skein : Nat)
  /-- INSTANCE_CLOSE (R208). -/
  | instanceClose (skein : Nat)
  /-- SKEIN_REHOME (R219). -/
  | skeinRehome (cluster : Nat)
  /-- EVENT_DISPATCH (R253). -/
  | eventDispatch (cluster : Nat)
  /-- PREEMPT (R255). -/
  | preempt (cluster : Nat)
  /-- MICRO_NOP (R246). -/
  | microNop (cluster : Nat) (engine : Nat)
  /-- ADD (R246). -/
  | microAdd (cluster : Nat) (engine : Nat)
  /-- SUB (R246). -/
  | microSub (cluster : Nat) (engine : Nat)
  /-- AND (R246). -/
  | microAnd (cluster : Nat) (engine : Nat)
  /-- OR (R246). -/
  | microOr (cluster : Nat) (engine : Nat)
  /-- XOR (R246). -/
  | microXor (cluster : Nat) (engine : Nat)
  /-- SHIFT (R246). -/
  | microShift (cluster : Nat) (engine : Nat)
  /-- SHIFTI (R246). -/
  | microShifti (cluster : Nat) (engine : Nat)
  /-- ADDI (R246). -/
  | microAddi (cluster : Nat) (engine : Nat)
  /-- MOVI (R246). -/
  | microMovi (cluster : Nat) (engine : Nat)
  /-- CATI (R246). -/
  | microCati (cluster : Nat) (engine : Nat)
  /-- MUL (R246). -/
  | microMul (cluster : Nat) (engine : Nat)
  /-- CMP (R246). -/
  | microCmp (cluster : Nat) (engine : Nat)
  /-- EXT (R246). -/
  | microExt (cluster : Nat) (engine : Nat)
  /-- INS (R246). -/
  | microIns (cluster : Nat) (engine : Nat)
  /-- MOV (R246). -/
  | microMov (cluster : Nat) (engine : Nat)
  /-- PAIR (R246). -/
  | microPair (cluster : Nat) (engine : Nat)
  /-- LD (R246). -/
  | microLd (cluster : Nat) (engine : Nat)
  /-- ST (R246). -/
  | microSt (cluster : Nat) (engine : Nat)
  /-- BZ (R246). -/
  | microBz (cluster : Nat) (engine : Nat)
  /-- BNZ (R246). -/
  | microBnz (cluster : Nat) (engine : Nat)
  /-- BNEG (R246). -/
  | microBneg (cluster : Nat) (engine : Nat)
  /-- BFLAG (R246). -/
  | microBflag (cluster : Nat) (engine : Nat)
  /-- JMP (R246). -/
  | microJmp (cluster : Nat) (engine : Nat)
  /-- CALL (R246). -/
  | microCall (cluster : Nat) (engine : Nat)
  /-- RET (R246). -/
  | microRet (cluster : Nat) (engine : Nat)
  /-- JR (R246). -/
  | microJr (cluster : Nat) (engine : Nat)
  /-- WAIT (R257). -/
  | microWait (cluster : Nat) (engine : Nat)
  /-- WAIT_END (R257). -/
  | waitEnd (cluster : Nat) (engine : Nat)
  /-- SIGNAL (R246). -/
  | microSignal (cluster : Nat) (engine : Nat)
  /-- END (R243). -/
  | microEnd (cluster : Nat) (engine : Nat)
  /-- TRAP (R258). -/
  | microTrap (cluster : Nat) (engine : Nat)
  /-- RETT (R259). -/
  | microRett (cluster : Nat) (engine : Nat)
  /-- POST (R246). -/
  | microPost (cluster : Nat) (engine : Nat)
  /-- TIME (R246). -/
  | microTime (cluster : Nat) (engine : Nat)
  /-- STITCH (R248). -/
  | microStitch (cluster : Nat) (engine : Nat)
  /-- RESCALE (R250). -/
  | microRescale (cluster : Nat) (engine : Nat)
  /-- PACK (R250). -/
  | microPack (cluster : Nat) (engine : Nat)
  /-- REPACK (R246). -/
  | microRepack (cluster : Nat) (engine : Nat)
  /-- DMOVE (R246). -/
  | microDmove (cluster : Nat) (engine : Nat)
  /-- CRC (R246). -/
  | microCrc (cluster : Nat) (engine : Nat)
  /-- SEND (R251). -/
  | microSend (cluster : Nat) (engine : Nat)
  /-- VECTOR_OP_DONE (R249). -/
  | vectorOpDone (cluster : Nat) (engine : Nat)
  /-- ILLEGAL_OP (R246). -/
  | illegalOp (cluster : Nat) (engine : Nat)
  /-- WATCHDOG (R256). -/
  | watchdog (cluster : Nat) (engine : Nat)
  /-- WATCHDOG_HANG (R267). -/
  | watchdogHang (cluster : Nat) (engine : Nat)
  /-- ENGINE_FAILURE (R268). -/
  | engineFailure (cluster : Nat) (engine : Nat) (cause : Nat)
  /-- SHARE_MOVE (R268). -/
  | shareMove (cluster : Nat)
  /-- HOOK_LOAD (R261). -/
  | hookLoad (c : Cmd)
  /-- HOOK_BANK_SWITCH (R262). -/
  | hookBankSwitch (c : Cmd)
  /-- HOOK_SWITCH_TICK (R262). -/
  | hookSwitchTick (cluster : Nat)
  /-- HOOK_DRAIN_END (R262). -/
  | hookDrainEnd (cluster : Nat)
  /-- DRAIN_TIMEOUT (R264). -/
  | drainTimeout (cluster : Nat)
  /-- HOOK_FORCE_SWAP (R264). -/
  | hookForceSwap (c : Cmd)
  /-- HOOK_DISPATCH_WRITE (R266). -/
  | hookDispatchWrite (c : Cmd)
  /-- HOOK_ENGINE_ENABLE (R269). -/
  | hookEngineEnable (c : Cmd)
  /-- ENGINE_SELFTEST_DONE (R269). -/
  | engineSelftestDone (cluster : Nat) (engine : Nat) (pass : Bool)
  /-- HOOK_SERVICE_CONFIG (R480). -/
  | hookServiceConfig (c : Cmd)
  /-- HOOK_CALL (R305). -/
  | hookCall (c : Cmd)
  /-- TELEM_CONFIG (R279). -/
  | telemConfig (c : Cmd)
  /-- TELEM_HIST_READ (R277). -/
  | telemHistRead (c : Cmd)
  /-- POSTCARD_FLUSH (R281). -/
  | postcardFlush (tile : Nat)
  /-- CAST_ON (R316). -/
  | castOn (c : Cmd)
  /-- BIND_OFF (R317). -/
  | bindOff (c : Cmd)
  /-- DMA_CHANNEL_CONFIG (R328). -/
  | dmaChannelConfig (c : Cmd)
  /-- POOL_CONFIG (R331). -/
  | poolConfig (c : Cmd)
  /-- LEGACY_MODE_SWITCH (R326). -/
  | legacyModeSwitch (c : Cmd)
  /-- LEGACY_QUEUE_CONFIG (R326). -/
  | legacyQueueConfig (c : Cmd)
  /-- ADMIN_SQ_DB (R311). -/
  | adminSqDb (fn : Nat) (value : W)
  /-- ADMIN_CQ_DB (R311). -/
  | adminCqDb (fn : Nat) (value : W)
  /-- QP_SQ_DB (R311). -/
  | qpSqDb (fn : Nat) (idx : Nat) (value : W)
  /-- QP_CQ_DB (R325). -/
  | qpCqDb (fn : Nat) (idx : Nat) (value : W)
  /-- POOL_DB (R311). -/
  | poolDb (fn : Nat) (pool : Nat) (value : W)
  /-- CHAN_DB (R311). -/
  | chanDb (fn : Nat) (chan : Nat) (value : W)
  /-- CHAN_CQ_DB (R325). -/
  | chanCqDb (fn : Nat) (chan : Nat) (value : W)
  /-- RING_FETCH_DONE (R312). An entry without words came in a poisoned TLP or an error completion (R401). -/
  | ringFetchDone (ring : Ring) (entries : List (List W))
  /-- RING_RESCAN (R312). -/
  | ringRescan (ring : Ring)
  /-- TX_CHAIN_START (R320). -/
  | txChainStart (qp : Nat) (data : List Byte)
  /-- TX_CHAIN_DONE (R322). -/
  | txChainDone (qp : Nat)
  /-- HOST_RX_DELIVER (R324). -/
  | hostRxDeliver (tile : Nat)
  /-- CQ_COAL_TIMEOUT (R325). -/
  | cqCoalTimeout (cq : CqRef)
  /-- DMA_CHAIN_START (R328). -/
  | dmaChainStart (chan : Nat) (data : List Byte)
  /-- DMA_CHAIN_DONE (R329). -/
  | dmaChainDone (chan : Nat) (error : Nat)
  /-- POOL_FETCH_DONE (R331); none for an entry that came in a poisoned TLP or an error completion (R401). -/
  | poolFetchDone (pool : Nat) (entries : List (Option W))
  /-- CHAN_DISABLE (R330). -/
  | chanDisable (fn : Nat) (chan : Nat)
  /-- CHAN_ENABLE (R330). -/
  | chanEnable (fn : Nat) (chan : Nat)
  /-- ADMIN_QUEUE_ENABLE (R313). -/
  | adminQueueEnable (fn : Nat) (value : W)
  /-- FN_QP_RANGE_WRITE (R315). -/
  | fnQpRangeWrite (fn : Nat) (value : W)
  /-- RES_ASSIGN_WRITE (R315). -/
  | resAssignWrite (addr : Nat) (value : W)
  /-- FUNCTION_LEVEL_RESET (R335). -/
  | functionLevelReset (fn : Nat)
  /-- PERST_N_ASSERT (R449). -/
  | perstNAssert
  /-- POWER_TOLERANCE (R341). -/
  | powerTolerance (c : Cmd)
  /-- OP_POINT_SET (R350). -/
  | opPointSet (c : Cmd)
  /-- POWER_CAP (R357). -/
  | powerCap (c : Cmd)
  /-- DOMAIN_FORCE (R346). -/
  | domainForce (c : Cmd)
  /-- DEVICE_WIDE_FORCE (R348). -/
  | deviceWideForce (c : Cmd)
  /-- DOMAIN_ENTER (R340). -/
  | domainEnter (domain : Nat) (target : Nat) (cells : Nat) (l1 : Bool)
  /-- DOMAIN_EXIT (R345). -/
  | domainExit (domain : Nat)
  /-- DOMAIN_EXIT_DONE (R414). -/
  | domainExitDone (domain : Nat)
  /-- ESTIMATION_INTERVAL (R356). -/
  | estimationInterval
  /-- AVS_FRAME_DONE (R354). -/
  | avsFrameDone
  /-- AVS_STEP_COMPLETE (R353). -/
  | avsStepComplete
  /-- AVS_SETTLE_EXPIRY (R353). -/
  | avsSettleExpiry
  /-- TILE_FREQ_DONE (R353). -/
  | tileFreqDone (tile : Nat)
  /-- AVS_FAULT (R354). -/
  | avsFault
  /-- AVS_FAULT_CLEAR (R354). -/
  | avsFaultClear (value : W)
  /-- PREWARM_HOLD_EXPIRY (R359). -/
  | prewarmHoldExpiry (domain : Nat)
  /-- DIDT_WINDOW (R361). -/
  | didtWindow (current : Nat)
  /-- CELL_SLEEP_SLEEP (R362). -/
  | cellSleepSleep (c : Cmd)
  /-- CELL_SLEEP_WAKE (R367). -/
  | cellSleepWake (c : Cmd)
  /-- SLEEP_PROPOSE_RESEND (R364). -/
  | sleepProposeResend (timeline : Nat)
  /-- SLEEP_ACCEPT (R364). -/
  | sleepAccept (port : Nat) (frame : List Byte)
  /-- SLEEP_REFUSE (R364). -/
  | sleepRefuse (port : Nat) (frame : List Byte)
  /-- CELL_WAKE (R367). -/
  | cellWake (port : Nat) (frame : List Byte)
  /-- SLEEP_COMMIT_POINT (R364). -/
  | sleepCommitPoint (timeline : Nat)
  /-- CELL_SLEEP_START (R365). -/
  | cellSleepStart (timeline : Nat)
  /-- CELL_WAKE_LEAD (R366). -/
  | cellWakeLead (timeline : Nat)
  /-- CELL_WAKE_FRAME (R366). -/
  | cellWakeFrame (timeline : Nat)
  /-- LIFECYCLE_ADVANCE (R374). -/
  | lifecycleAdvance (c : Cmd)
  /-- MACSEC_KEK_INSTALL (R380). -/
  | macsecKekInstall (c : Cmd)
  /-- MACSEC_TX_SAK_INSTALL (R380). -/
  | macsecTxSakInstall (c : Cmd)
  /-- MACSEC_RX_SAK_INSTALL (R380). -/
  | macsecRxSakInstall (c : Cmd)
  /-- MACSEC_PTP_KEY_INSTALL (R380). -/
  | macsecPtpKeyInstall (c : Cmd)
  /-- MACSEC_KEY_DELETE (R380). -/
  | macsecKeyDelete (c : Cmd)
  /-- ZEROIZE (R390). -/
  | zeroize (c : Cmd)
  /-- ZEROIZE_KEYS_CLEAR (R390). -/
  | zeroizeKeysClear
  /-- DEBUG_CHALLENGE (R387). -/
  | debugChallenge (c : Cmd)
  /-- DEBUG_PART (R387). -/
  | debugPart (c : Cmd)
  /-- DEBUG_OPEN (R388). -/
  | debugOpen (c : Cmd)
  /-- CHALLENGE_LAPSE (R387). -/
  | challengeLapse
  /-- DEBUG_CLOSE (R392). -/
  | debugClose (c : Cmd)
  /-- TAMPER (R385). -/
  | tamper (source : Nat)
  /-- TACK (R432). -/
  | tack (c : Cmd)
  /-- TACK_APPLY (R433). -/
  | tackApply
  /-- PROFILE_WRITE (R431). -/
  | profileWrite (c : Cmd)
  /-- PROFILE_READ (R431). -/
  | profileRead (c : Cmd)
  /-- FAULT_READ (R408). -/
  | faultRead (c : Cmd)
  /-- FAULT_ACK (R407). -/
  | faultAck (c : Cmd)
  /-- FAULT_CTL_ACK (R407). -/
  | faultCtlAck (block : Nat) (inst : Nat) (value : W)
  /-- FORCE_SET (R411). -/
  | forceSet (c : Cmd)
  /-- FAULT_FORCE_WRITE (R411). -/
  | faultForceWrite (path : Path) (block : Nat) (inst : Nat) (value : W)
  /-- FLIP_MASK_SET (R409). -/
  | flipMaskSet (c : Cmd)
  /-- FLIP_MASK_WRITE (R409). -/
  | flipMaskWrite (path : Path) (block : Nat) (inst : Nat) (high : Bool) (value : W)
  /-- SCRUB_READ (R397). -/
  | scrubRead (block : Nat) (inst : Nat) (memory : Nat)
  /-- CONTROL_STORE_REWRITE (R401). -/
  | controlStoreRewrite (cluster : Nat) (bank : Nat) (addr : Nat)
  /-- SERVO_SAMPLE (R32). -/
  | servoSample (value : W)
  /-- SOURCE_LOST (R471). -/
  | sourceLost (value : W)
  /-- SAMPLE_TIMEOUT (R47). -/
  | sampleTimeout
  /-- PPS_IN_EDGE (R36). -/
  | ppsInEdge (sub : Nat)
  /-- PPS_IN_LOSS (R37). -/
  | ppsInLoss
  /-- TOD_IN_MESSAGE (R40). -/
  | todInMessage (bytes : List Byte)
  /-- FREQ_GATE (R38). -/
  | freqGate (source : Nat) (measured : Int) (valid : Bool)
  /-- MAST_TICK (R16). -/
  | mastTick (count : Nat)
  /-- TOD_OUT_START (R39). -/
  | todOutStart
  /-- REPLICA_CHECK (R11). -/
  | replicaCheck
  /-- REFOSC_LOSS (R50). -/
  | refoscLoss
  /-- REFOSC_RESTORE (R50). -/
  | refoscRestore
  /-- MC_SNAP_TRIGGER (R4). -/
  | mcSnapTrigger (value : W)
  /-- SYNCE_OUT_CTL_WRITE (R41). -/
  | synceOutCtlWrite (value : W)
  /-- TL_POS_READ (R73). -/
  | tlPosRead (timeline : Nat) (path : Path)
  /-- TL_FRAME_CNT_READ (R73). -/
  | tlFrameCntRead (timeline : Nat) (path : Path)
  /-- LANE_SIGNAL_DETECT (R81). -/
  | laneSignalDetect (lane : Nat)
  /-- LANE_SIGNAL_LOSS (R87). -/
  | laneSignalLoss (lane : Nat)
  /-- CDR_LOCK (R81). -/
  | cdrLock (lane : Nat)
  /-- CDR_LOCK_LOSS (R84). -/
  | cdrLockLoss (lane : Nat)
  /-- ALIGN_LOCK (R80). -/
  | alignLock (lane : Nat) (seen : Hunt)
  /-- ALIGN_LOSS (R80). -/
  | alignLoss (loss : LaneSeen)
  /-- HI_SER (R87). -/
  | hiSer (port : Nat)
  /-- BRINGUP_STAGE_COMPLETE (R81). -/
  | bringupStageComplete (port : Nat) (info : BringUp)
  /-- DVAR_MEASURED (R23). -/
  | dvarMeasured (lane : Nat) (rx : Nat) (tx : Nat)
  /-- TRAIN_TIMER_EXPIRY (R85). -/
  | trainTimerExpiry (port : Nat)
  /-- BACKOFF_EXPIRY (R86). -/
  | backoffExpiry (port : Nat)
  /-- LINK_STABLE (R86). -/
  | linkStable (port : Nat)
  /-- PORT_RESTART (R86). -/
  | portRestart (port : Nat)
  /-- HELLO_PROBE_TIMER (R90). -/
  | helloProbeTimer (port : Nat)
  /-- HELLO_RX (R90). -/
  | helloRx (port : Nat) (frame : List Byte)
  /-- TOPSAIL_GO (R91). -/
  | topsailGo (port : Nat)
  /-- TOPSAIL_RETUNE (R91). -/
  | topsailRetune (port : Nat)
  /-- EPOCH_AGREE_TIMEOUT (R93). -/
  | epochAgreeTimeout (port : Nat)
  /-- CPRI_CAPTURE (R95). -/
  | cpriCapture (port : Nat) (control : Bool) (data : List Byte)
  /-- CPRI_TX_FRAME (R96). -/
  | cpriTxFrame (port : Nat)
  /-- LANE_DOZE_ENTERED (R98). -/
  | laneDozeEntered (lane : Nat)
  /-- WAKE_INSTANT (R99). -/
  | wakeInstant (lane : Nat)
  /-- WAKE_WINDOW_OPEN (R100). -/
  | wakeWindowOpen (lane : Nat) (active : Bool)
  /-- WAKE_SEQUENCE_SEEN (R99). -/
  | wakeSequenceSeen (lane : Nat)
  /-- WAKE_WINDOW_CLOSE (R100). -/
  | wakeWindowClose (lane : Nat)
  /-- WAKE_FAIL_TIMEOUT (R100). -/
  | wakeFailTimeout (lane : Nat)
  /-- WAKE_REQ_RX (R101). -/
  | wakeReqRx (lane : Nat)
  /-- FAST_RETRAIN_DONE (R101). -/
  | fastRetrainDone (lane : Nat)
  /-- LPI_REQUEST (R103). -/
  | lpiRequest (port : Nat) (enter : Bool) (tx : Bool)
  /-- EARLY_PRESENT_RISE (R370). -/
  | earlyPresentRise
  /-- REMOVAL_DECLARED (R371). -/
  | removalDeclared
  /-- REMOVAL_FLOAT (R371). -/
  | removalFloat
  /-- REINSERT_RESET (R372). -/
  | reinsertReset
  /-- OUTPUT_ENABLE (R369). -/
  | outputEnable
  /-- POWER_ON_RESET (R417). -/
  | powerOnReset
  /-- RESET_N_COLD_RESET (R417). -/
  | resetNColdReset
  /-- COLD_RESET_CMD (R418). -/
  | coldResetCmd (value : W)
  /-- WARM_RESET_CMD (R418). -/
  | warmResetCmd (value : W)
  /-- POWER_DOWN (R440). -/
  | powerDown
  /-- MAIN_POWER_LOSS (R441). -/
  | mainPowerLoss
  /-- THERMAL_THROTTLE (R451). -/
  | thermalThrottle (sensor : Nat) (reading : Nat)
  /-- THERM_TRIP (R452). -/
  | thermTrip
  /-- SIDEBAND_WAKE (R349). -/
  | sidebandWake
  /-- STAGE_FUSES (R423). -/
  | stageFuses (bootSel : Bool) (profileSel : Nat) (vbatFailed : Bool)
  /-- STAGE_BOOT_FW (R420). -/
  | stageBootFw (bootSel : Bool) (profileSel : Nat) (slotA : SpiImage) (slotB : SpiImage)
  /-- STAGE_FOLOLMANE (R424). -/
  | stageFololmane (slotA : SpiImage) (slotB : SpiImage)
  /-- STAGE_DOMAINS (R423). -/
  | stageDomains (record : List Byte)
  /-- STAGE_PROFILE (R429). -/
  | stageProfile (readOk : Bool) (verified : Bool)
  /-- STAGE_HOOK (R423). -/
  | stageHook (slotA : SpiImage) (slotB : SpiImage)
  /-- STAGE_PORTS (R425). -/
  | stagePorts
  /-- TIME_VALID_SET (R425). -/
  | timeValidSet
  /-- TIME_WAIT_EXPIRY (R425). -/
  | timeWaitExpiry
  /-- STAGE_SCHEDULE (R426). -/
  | stageSchedule
  /-- STAGE_READY (R423). -/
  | stageReady
  /-- BOOT_MBOX_GO (R421). -/
  | bootMboxGo (value : W) (image : SpiImage)
  /-- MGMT_PORT_CFG_WRITE (R292). -/
  | mgmtPortCfgWrite (path : Path) (allow : Bool) (value : W)
  /-- RC_REGISTER_READ (R4). -/
  | rcRegisterRead (path : Path) (addr : Nat)
  /-- RW1C_REGISTER_WRITE (R4). -/
  | rw1cRegisterWrite (path : Path) (addr : Nat) (value : W)
  /-- REGISTER_WRITE (R4). -/
  | registerWrite (path : Path) (addr : Nat) (half : Half) (value : W)
  /-- EARLY_PRESENT_FALL (R370). -/
  | earlyPresentFall
  /-- SIGNAL_LOSS_EXPIRY (R87). -/
  | signalLossExpiry (lane : Nat)
  /-- WAKE_SEQUENCE_END (R99). -/
  | wakeSequenceEnd (lane : Nat)
  /-- PPS_UNLABELLED (R36). -/
  | ppsUnlabelled
  /-- THERMAL_RECOVER (R451). -/
  | thermalRecover
  /-- PERST_N_DEASSERT (R449). -/
  | perstNDeassert
  /-- I3C_BUS_RESET (R297). -/
  | i3cBusReset
deriving DecidableEq, Repr

end Sys2Proof
end

