-- ==== Sys2Proof/Config.lean ====
section
/-! DEFINITION. Configuration: what a part is fused with, and the free values that the manual leaves open. A constant
without a body stands for a value nobody may rely on. -/

namespace Sys2Proof.Config

/-- A value the manual leaves open, fresh for every value of the model's counter `freeCtr` (R5 and others). -/
opaque freeWord : Nat → BitVec 64

/-- Fused datapath latencies in units of 2^-16 ns above the least value of Table 2-16 (R474): 3c for receive, 3c + 1 for transmit, 3c + 2
for the egress hand-off to the balls, with line code c. The machine takes them modulo the table's range. -/
opaque dFixed : Nat → BitVec 32

/-- DEVICE_UID, from fuses (Table 16-13). -/
opaque deviceUid : BitVec 64

/-- The silicon revision of the part: 0x00 A0, 0x10 B0 (Table 11-12). -/
opaque revision : BitVec 8

/-- Code n of the fused maximum frequency 1,600 + 25n MHz of a Tile, and of the fabric core (R352, Table 15-11). -/
opaque fuseFmax : Nat → Fin 11
opaque fuseFfab : Fin 11

/-- Spare rows and columns in use for a fault source's domain, REPAIR_STATUS (R400). -/
opaque spareUse : Nat → BitVec 32

/-- The key that RFC 3394 unwraps from wrapped words under a key-encryption key (R380); the integrity check stands apart. -/
opaque unwrapKey : List (BitVec 64) → List (BitVec 64) → List (BitVec 64)

/-- The line bits of each of w lanes for a frame in a line code of IEEE 802.3 or CPRI (a row of Table 2-16 from 0 to 4); and the bytes with
FCS that received line bits carry, none where decoding fails, with the corrected symbols and the uncorrectable codewords of each lane.
The spec names these codes and does not give them (R76, R80). -/
opaque pcsSend : Nat → Nat → List Byte → List (List Bool)
opaque pcsReceive : Nat → List (List Bool) → Option (List Byte) × List (Nat × Nat)

/-- The parts of the Topsail stream that IEEE 802.3 gives (R78): the transcoded 257-bit blocks of a frame and back, the block of idle, the
300 parity bits of RS(544,514) for a message of 5,140 bits, and the message that a codeword decodes to
with the number of symbols corrected. -/
opaque transcode : List Byte → List (List Bool)
opaque untranscode : List (List Bool) → Option (List Byte)
opaque idleBlock : List Bool
opaque rsParity : List Bool → List Bool
opaque rsDecode : List Bool → Option (List Bool × Nat)

/-- Does the part ask its partner on a port to precode (PRECODE_REQ of the Hello, R89)? The spec says no more. -/
opaque precodeReq : Nat → Bool

/-- Bytes of a PRB record under a compression method that R226 and R227 do not lay out (log 81). -/
opaque foreignRecord : Nat → BitVec 8

end Sys2Proof.Config
end

