-- ==== Sys2Proof/Machine/Table.lean ====
section
/-! DEFINITION. Tables: every addressed memory, table and register file of the part is a list of (key, value) pairs
in one canonical form: keys strictly rising, no entry equal to what an unlisted key reads as. Also the bit-field
helpers over words. -/

namespace Sys2Proof.Machine

/-- A table of values by key. -/
abbrev Tbl (α : Type) := List (Nat × α)

/-- The value at a key; `d` is what an unlisted key reads as. -/
def tget {α : Type} (d : α) : Tbl α → Nat → α
  | [], _ => d
  | (k, v) :: r, a => if a = k then v else tget d r a

/-- A table without the entries of a key. -/
def terase {α : Type} : Tbl α → Nat → Tbl α
  | [], _ => []
  | (k, v) :: r, a => if a = k then terase r a else (k, v) :: terase r a

/-- Write a value at a key, keeping the canonical form. -/
def tset {α : Type} [DecidableEq α] (d : α) : Tbl α → Nat → α → Tbl α
  | [], a, v => if v = d then [] else [(a, v)]
  | (k, w) :: r, a, v =>
    if a < k then (if v = d then (k, w) :: terase r a else (a, v) :: (k, w) :: r)
    else if a = k then (if v = d then terase r a else (a, v) :: r)
    else (k, w) :: tset d r a v

/-- Change the value at a key. -/
def tmod {α : Type} [DecidableEq α] (d : α) (t : Tbl α) (a : Nat) (f : α → α) : Tbl α :=
  tset d t a (f (tget d t a))

/-- Change every listed value, keeping the canonical form. -/
def tmapv {α : Type} [DecidableEq α] (d : α) (f : Nat → α → α) (t : Tbl α) : Tbl α :=
  t.foldl (fun r x => tset d r x.1 (f x.1 x.2)) []

/-- Every key of a table lies above a bound. -/
def keysAbove {α : Type} (b : Nat) : Tbl α → Bool
  | [] => true
  | (k, _) :: r => b < k && keysAbove b r

/-- The canonical form: keys strictly rising, no entry equal to the default. -/
def Tbl.wf {α : Type} [DecidableEq α] (d : α) : Tbl α → Bool
  | [] => true
  | (k, v) :: r => v != d && keysAbove k r && Tbl.wf d r

/-- The canonical form of a table whose default depends on the key (the register store). -/
def Tbl.wfBy {α : Type} [DecidableEq α] (d : Nat → α) : Tbl α → Bool
  | [] => true
  | (k, v) :: r => v != d k && keysAbove k r && Tbl.wfBy d r

/-- Bits [hi:lo] of a number. -/
def nfld (n hi lo : Nat) : Nat := n / 2 ^ lo % 2 ^ (hi + 1 - lo)

/-- Bits [hi:lo] of a word, as a number. -/
def fld (w : W) (hi lo : Nat) : Nat := nfld w.toNat hi lo

/-- One bit of a word. -/
def bitAt (w : W) (i : Nat) : Bool := w.getLsbD i

/-- A word with the number v (taken modulo the field's width) in bits [hi:lo]. -/
def ins (w : W) (hi lo v : Nat) : W :=
  BitVec.ofNat 64 (w.toNat - fld w hi lo * 2 ^ lo + v % 2 ^ (hi + 1 - lo) * 2 ^ lo)

/-- A word whose bits [hi:lo] hold v and whose other bits are 0. -/
def mk (hi lo v : Nat) : W := ins 0 hi lo v

/-- A number read as a signed value of n bits. -/
def sgn (n v : Nat) : Int := if v % 2 ^ n < 2 ^ (n - 1) then (v % 2 ^ n : Int) else (v % 2 ^ n : Int) - 2 ^ n

/-- An integer as n bits of two's complement. -/
def twos (n : Nat) (v : Int) : Nat := (v % (2 ^ n : Int)).toNat

/-- A Boolean as a number. -/
def b2n (b : Bool) : Nat := if b then 1 else 0

/-- Saturating addition at 2^n - 1. -/
def satAdd (n a b : Nat) : Nat := min (a + b) (2 ^ n - 1)

/-- Clamp an integer to -l .. l. -/
def clampI (l x : Int) : Int := max (-l) (min l x)

/-- Round a quotient half to even (d > 0). -/
def roundHalfEven (n d : Int) : Int :=
  let q := n / d
  let r := n % d
  if 2 * r < d then q else if d < 2 * r then q + 1 else if q % 2 = 0 then q else q + 1

/-- The bytes of a number, most significant first, n of them. -/
def bytesBE : Nat → Nat → List Byte
  | 0, _ => []
  | n + 1, v => BitVec.ofNat 8 (v / 256 ^ n) :: bytesBE n v

/-- The number that bytes spell, most significant first. -/
def ofBytesBE (l : List Byte) : Nat := l.foldl (fun a b => a * 256 + b.toNat) 0

/-- Take n bytes from offset k, padded with 0 where the list ends. -/
def byteAt (l : List Byte) (k : Nat) : Nat := (l.getD k 0).toNat

/-- The number that n bytes from offset k spell. -/
def bytesNat (l : List Byte) (k n : Nat) : Nat :=
  ofBytesBE ((List.range n).map fun i => l.getD (k + i) 0)

/-- The low n bits of a number set, one for each index for which p holds. -/
def maskOf (n : Nat) (p : Nat → Bool) : Nat := (List.range n).foldl (fun a i => if p i then a + 2 ^ i else a) 0

/-- The set bit numbers of a mask below n, rising. -/
def bitsOf (n m : Nat) : List Nat := (List.range n).filter fun i => m.testBit i

end Sys2Proof.Machine
end

