-- ==== Sys2Proof/Machine/Arith.lean ====
section
/-! DEFINITION. Combining arithmetic (chapter 10): the reference procedure of R242 over integers, and the words that hold
accumulators and weights (Tables 10-1, 10-4, 10-5). -/

namespace Sys2Proof.Machine

/-- Bits [hi:lo] of a 72-bit word. -/
def fld72 (w : W72) (hi lo : Nat) : Nat := nfld w.toNat hi lo

/-- x / 2^k rounded half to even; a negative k is an exact left shift (R230, R242). -/
def rneShift (x k : Int) : Int := if k ≤ 0 then x * 2 ^ (-k).toNat else roundHalfEven x (2 ^ min k.toNat 40)

/-- Does the shift discard a non-zero bit (R242)? -/
def loses (x k : Int) : Bool := 0 < k && x % 2 ^ min k.toNat 40 != 0

/-- Mantissa width of a udCompHdr value: 0 means 16. -/
def compWidth (comp : Nat) : Nat := if comp / 16 % 16 = 0 then 16 else comp / 16 % 16

/-- Bytes of a PRB record (Table 10-3). -/
def recBytes (comp : Nat) : Nat := (if comp % 16 = 1 then 1 else 0) + 3 * compWidth comp

/-- Bytes of a PRB record by which the sections of a message are found (R201, R468): methods 0 and 1 as R227 lays records out; the
length that another method gives is not stated, a free value (log 81). -/
def walkBytes (comp : Nat) : Nat := if comp % 16 ≤ 1 then recBytes comp else (Config.foreignRecord comp).toNat

/-- COMP values accepted on input, OUT_COMP values accepted on output (R226). -/
def compIn (comp : Nat) : Bool := comp == 0 || comp == 1 || (comp % 16 == 1 && 6 ≤ comp / 16 && comp / 16 ≤ 15)
def compOut (comp : Nat) : Bool := comp == 0 || comp == 1 || (comp % 16 == 1 && 9 ≤ comp / 16 && comp / 16 ≤ 15)

/-- Decompress a PRB record: its 24 mantissas and its exponent (R227, R228). -/
def decompress (comp : Nat) (rec_ : List Byte) : List Int × Nat :=
  let w := compWidth comp
  let bfp := comp % 16 == 1
  let body := if bfp then rec_.drop 1 else rec_
  let n := bytesNat body 0 (3 * w)
  ((List.range 24).map fun j => sgn w (n / 2 ^ ((23 - j) * w) % 2 ^ w), if bfp then byteAt rec_ 0 % 16 else 0)

/-- The accumulator of one PRB of one instance: 24 components, exponent, TOUCHED, INEXACT (R234). -/
structure PrbAcc where
  a : List Int := List.replicate 24 0
  e : Nat := 0
  touched : Bool := false
  inexact : Bool := false
deriving DecidableEq, Repr

/-- The 24 product components of a PRB with a weight (R231). -/
def products (m : List Int) (wi wq : Int) : List Int :=
  (List.range 12).flatMap fun k =>
    let i := m.getD (2 * k) 0
    let q := m.getD (2 * k + 1) 0
    [i * wi - q * wq, i * wq + q * wi]

/-- The 24 trial sums at a target exponent (R232, step 2). -/
def trial (acc : PrbAcc) (p : List Int) (e en : Nat) : List Int :=
  (List.range 24).map fun j => rneShift (acc.a.getD j 0) (en - acc.e) + rneShift (p.getD j 0) (en - e)

/-- Does a component lie in the 36-bit range? -/
def fits36 (x : Int) : Bool := -(2 ^ 35) ≤ x && x < 2 ^ 35

/-- The Stitch of one PRB (R231, R232, R237, R242). -/
def stitchPrb (acc : PrbAcc) (m : List Int) (e : Nat) (wi wq : Int) : PrbAcc :=
  let p := products m wi wq
  let e0 := max acc.e e
  let en := if (trial acc p e e0).all fits36 then e0 else e0 + 1
  let lost := (List.range 24).any fun j => loses (acc.a.getD j 0) (en - acc.e) || loses (p.getD j 0) (en - e)
  { a := trial acc p e en, e := en, touched := true, inexact := acc.inexact || lost }

/-- Do all values lie in the range of a mantissa of w bits? -/
def fitsW (w : Nat) (v : Int) : Bool := -(2 ^ (w - 1)) ≤ v && v < 2 ^ (w - 1)

/-- The smallest output exponent from e up to 15 at which all 24 values fit, else 15 (R238). -/
def outExp (acc : PrbAcc) (w : Nat) : Nat → Nat → Nat
  | 0, e => e
  | f + 1, e => if (acc.a.all fun x => fitsW w (rneShift x (16 + e - acc.e))) then e else outExp acc w f (e + 1)

/-- Saturate to a mantissa of w bits. -/
def satW (w : Nat) (v : Int) : Int := max (-(2 ^ (w - 1))) (min (2 ^ (w - 1) - 1) v)

/-- Pack mantissas of w bits, most significant bit first (R227). -/
def packMant (w : Nat) (v : List Int) : List Byte :=
  bytesBE (3 * w) (v.foldl (fun (n : Nat) x => n * 2 ^ w + twos w x) 0)

/-- Recompress a PRB to an output format: its record and the number of saturated components (R238, R239, R242). -/
def recompress (acc : PrbAcc) (comp : Nat) : List Byte × Nat :=
  let w := compWidth comp
  let bfp := comp % 16 == 1
  let eo := if bfp then outExp acc w 15 0 else 0
  let v := acc.a.map fun x => rneShift x (16 + eo - acc.e)
  let sat := (v.filter fun x => !fitsW w x).length
  let body := packMant w (v.map (satW w))
  (if bfp then BitVec.ofNat 8 eo :: body else body, sat)

/-- The record of an empty PRB (R240). -/
def emptyRecord (comp : Nat) : List Byte := List.replicate (recBytes comp) 0

/-- An accumulator word (Table 10-4) of components I and Q. -/
def accWord (i q : Int) : W72 := BitVec.ofNat 72 (twos 36 i * 2 ^ 36 + twos 36 q)

/-- The components of an accumulator word. -/
def accOf (w : W72) : List Int := [sgn 36 (fld72 w 71 36), sgn 36 (fld72 w 35 0)]

/-- An exponent byte (Table 10-5). -/
def expByte (acc : PrbAcc) : Nat := b2n acc.touched * 128 + b2n acc.inexact * 64 + acc.e % 64

/-- Byte i of an 8-byte word, byte 0 in [63:56]. -/
def wordByte (w : W72) (i : Nat) : Nat := fld72 w (63 - 8 * i) (56 - 8 * i)

/-- A word with byte i replaced. -/
def setByte (w : W72) (i v : Nat) : W72 :=
  BitVec.ofNat 72 (w.toNat - wordByte w i * 2 ^ (56 - 8 * i) + v % 256 * 2 ^ (56 - 8 * i))

/-- A weight in Q2.16 (Table 10-1): I in [35:18] and Q in [17:0] of a weight field. -/
def weightOf (f : Nat) : Int × Int := (sgn 18 (nfld f 35 18), sgn 18 (nfld f 17 0))

/-- The weight field of 1.0 (R206). -/
def unity : Nat := 0x10000 * 2 ^ 18

end Sys2Proof.Machine
end

