-- ==== Sys2Proof/Machine/Regs.lean ====
section
/-! DEFINITION. The register space (chapter 20): one name per register of the register tables of chapters 2 to 18,
its byte address (R458, Table 20-1, R463), access code (Table 0-4), defined bits, stored bits and reset value.
BAR0 registers of function f (Table 14-12) stand outside that space; their store key is
0x1_0000_0000 + 0x100_0000 * f + offset (a key of the store, not an address of BAR2). -/

namespace Sys2Proof.Machine

/-- Access codes of Table 0-4. -/
inductive Access where
  | ro | rw | rw1c | rc | wo | rws
deriving DecidableEq, Repr

/-- One index of a register array: the first index, how many there are, and the stride in bytes. -/
structure RegDim where
  lo : Nat
  count : Nat
  stride : Nat
deriving DecidableEq, Repr

/-- What the register tables say of one register (or array of registers). `bits` are its defined bits (the others
are reserved, R5); `stored` are the bits a write stores. -/
structure RegDesc where
  base : Nat
  dims : List RegDim
  acc : Access
  bits : W
  stored : W
  reset : W
deriving DecidableEq, Repr

/-- The registers by name. -/
inductive RegId where
  /-- CMD_STATUS (Table 13-15). -/
  | cmdStatus
  /-- CMD_INT_STATUS (Table 13-14). -/
  | cmdIntStatus
  /-- CMD_INT_ENABLE. -/
  | cmdIntEnable
  /-- SOURCE_ALLOW. -/
  | sourceAllow
  /-- MGMT_PORT_CFG. -/
  | mgmtPortCfg
  /-- MGMT_MAC. -/
  | mgmtMac
  /-- CMD_SRC_CNT of source s. -/
  | cmdSrcCnt
  /-- CMD_REJECT_CNT. -/
  | cmdRejectCnt
  /-- EVENT_LOST_CNT. -/
  | eventLostCnt
  /-- CMD_VF_VER. -/
  | cmdVfVer
  /-- INT_ROUTE of block b (Table 20-3); its reset is 1 + b. -/
  | intRoute
  /-- INT_SUMMARY. -/
  | intSummary
  /-- INT_SIGNAL_CNT. -/
  | intSignalCnt
  /-- BOOT_STATUS (Table 18-8). -/
  | bootStatus
  /-- BOOT_INT_STATUS. -/
  | bootIntStatus
  /-- BOOT_INT_ENABLE. -/
  | bootIntEnable
  /-- DEV_RESET_CTL (KEY, COLD and WARM are write-only). -/
  | devResetCtl
  /-- RESET_CAUSE. -/
  | resetCause
  /-- PROFILE_STATUS (Table 18-9). -/
  | profileStatus
  /-- PROFILE_EPOCHS. -/
  | profileEpochs
  /-- PWR_STATUS (Table 15-12). -/
  | pwrStatus
  /-- PWR_INT_STATUS. -/
  | pwrIntStatus
  /-- PWR_INT_ENABLE. -/
  | pwrIntEnable
  /-- PWR_EST. -/
  | pwrEst
  /-- PWR_CAP. -/
  | pwrCap
  /-- DIDT_LIMIT. -/
  | didtLimit
  /-- AVS_CFG (AVS_SLEW 5, AVS_SETTLE 20). -/
  | avsCfg
  /-- PWR_CNT. -/
  | pwrCnt
  /-- PRESENCE_STATUS. -/
  | presenceStatus
  /-- FUSE_FMAX. -/
  | fuseFmax
  /-- FUSE_FFAB. -/
  | fuseFfab
  /-- DOMAIN_STATUS of domain d (Table 15-14). -/
  | domainStatus
  /-- OP_ENTRY k. -/
  | opEntry
  /-- TOLERANCE of group g. -/
  | tolerance
  /-- FILL_PROFILE k (Table 15-13). -/
  | fillProfile
  /-- CELL_SLEEP_STATUS of timeline t (Table 15-15). -/
  | cellSleepStatus
  /-- CELL_SLEEP_CNT of timeline t. -/
  | cellSleepCnt
  /-- SEC_STATUS (Table 16-14). -/
  | secStatus
  /-- SEC_INT_STATUS. -/
  | secIntStatus
  /-- SEC_INT_ENABLE. -/
  | secIntEnable
  /-- DEVICE_UID. -/
  | deviceUid
  /-- MONO_COUNT. -/
  | monoCount
  /-- TAMPER_STATUS. -/
  | tamperStatus
  /-- ROLLBACK_FLOOR. -/
  | rollbackFloor
  /-- FUSE_KEYS. -/
  | fuseKeys
  /-- SEC_CNT. -/
  | secCnt
  /-- LOCKER_RECORD r, word w (Table 16-7). -/
  | lockerRecord
  /-- HQ_STATUS. -/
  | hqStatus
  /-- HQ_INT_STATUS. -/
  | hqIntStatus
  /-- HQ_INT_ENABLE. -/
  | hqIntEnable
  /-- HQ_DROP_CNT of code k (Table 14-14). -/
  | hqDropCnt
  /-- FN_QP_RANGE of function f; its reset is BASE 64f, COUNT 64. -/
  | fnQpRange
  /-- FN_TX_CFG of function f. -/
  | fnTxCfg
  /-- CHAN_OWNER of channel c. -/
  | chanOwner
  /-- POOL_OWNER of pool p. -/
  | poolOwner
  /-- RIG_STATUS (Table 3-15). -/
  | rigStatus
  /-- RIG_INT_STATUS. -/
  | rigIntStatus
  /-- RIG_INT_ENABLE. -/
  | rigIntEnable
  /-- DISC_TIME_0. -/
  | discTime0
  /-- DISC_TIME_1. -/
  | discTime1
  /-- DISC_DELTA. -/
  | discDelta
  /-- RIG_COUNTERS. -/
  | rigCounters
  /-- TL_POS of timeline t (Table 3-16). -/
  | tlPos
  /-- TL_FRAME_CNT of timeline t. -/
  | tlFrameCnt
  /-- TEL_STATUS. -/
  | telStatus
  /-- TEL_INT_STATUS. -/
  | telIntStatus
  /-- TEL_INT_ENABLE. -/
  | telIntEnable
  /-- TEL_FLUSH. -/
  | telFlush
  /-- TEL_FIFO_STATUS. -/
  | telFifoStatus
  /-- TEL_CLASS_CFG of class c (Table 12-4). -/
  | telClassCfg
  /-- TEL_COLLECTOR k. -/
  | telCollector
  /-- TEL_WIN_CFG of timeline t. -/
  | telWinCfg
  /-- TEL_TILE_CNT of Tile t. -/
  | telTileCnt
  /-- TEL_INBAND_CNT of Tile t. -/
  | telInbandCnt
  /-- TEL_WIN_BAD. -/
  | telWinBad
  /-- TEL_PORT_CFG of port p. -/
  | telPortCfg
  /-- TEL_PORT_WIN_CNT of port p. -/
  | telPortWinCnt
  /-- MC_STATUS (Table 2-13). -/
  | mcStatus
  /-- MC_INT_STATUS. -/
  | mcIntStatus
  /-- MC_INT_ENABLE. -/
  | mcIntEnable
  /-- MC_SNAP_TRIGGER. -/
  | mcSnapTrigger
  /-- MC_SNAP_0. -/
  | mcSnap0
  /-- MC_SNAP_1. -/
  | mcSnap1
  /-- SERVO_SAMPLE (Table 2-10). -/
  | servoSample
  /-- FREQ_ADJ. -/
  | freqAdj
  /-- MC_TE_EST. -/
  | mcTeEst
  /-- SYNCE_OUT_CTL. -/
  | synceOutCtl
  /-- MC_COUNTERS. -/
  | mcCounters
  /-- PORT_TS_CFG of port p (Table 2-15). -/
  | portTsCfg
  /-- PORT_DLY_RX. -/
  | portDlyRx
  /-- PORT_DLY_TX. -/
  | portDlyTx
  /-- TXTS_WORD0. -/
  | txtsWord0
  /-- TXTS_WORD1. -/
  | txtsWord1
  /-- TXTS_STATUS. -/
  | txtsStatus
  /-- TXTS_DISCARD. -/
  | txtsDiscard
  /-- TS_COUNTERS. -/
  | tsCounters
  /-- HK_STATUS (Table 11-16). -/
  | hkStatus
  /-- HK_INT_STATUS. -/
  | hkIntStatus
  /-- HK_INT_ENABLE. -/
  | hkIntEnable
  /-- HK_FAULT. -/
  | hkFault
  /-- HK_DRAIN_LIMIT. -/
  | hkDrainLimit
  /-- HK_SHARE_MAP. -/
  | hkShareMap
  /-- HK_QUEUE_STATUS. -/
  | hkQueueStatus
  /-- HK_CNT_0. -/
  | hkCnt0
  /-- HK_CNT_1. -/
  | hkCnt1
  /-- HK_SHARE_MAP_n (0x0048 + 0x8(n - 1)). -/
  | hkShareMapN
  /-- HK_ENGINE_STATUS. -/
  | hkEngineStatus
  /-- HK_ENGINE_CNT. -/
  | hkEngineCnt
  /-- SK_STATUS (Table 9-14). -/
  | skStatus
  /-- SK_INT_STATUS. -/
  | skIntStatus
  /-- SK_INT_ENABLE. -/
  | skIntEnable
  /-- SK_CLOSE_CNT. -/
  | skCloseCnt
  /-- SK_DROP_CNT of code c (Table 9-15). -/
  | skDropCnt
  /-- SK_BIND_STATUS. -/
  | skBindStatus
  /-- LANE_STATUS (Table 4-14). -/
  | laneStatus
  /-- LANE_INT_STATUS. -/
  | laneIntStatus
  /-- LANE_INT_ENABLE. -/
  | laneIntEnable
  /-- LANE_GUARD. -/
  | laneGuard
  /-- LANE_DOZE_CNT. -/
  | laneDozeCnt
  /-- LANE_FEC_CNT. -/
  | laneFecCnt
  /-- PORT_STATUS (Table 4-15). -/
  | portStatus
  /-- PORT_INT_STATUS. -/
  | portIntStatus
  /-- PORT_INT_ENABLE. -/
  | portIntEnable
  /-- PORT_CTL (RESTART is write-only). -/
  | portCtl
  /-- PORT_LINK_CNT. -/
  | portLinkCnt
  /-- PORT_SKEW. -/
  | portSkew
  /-- CPRI_CNT. -/
  | cpriCnt
  /-- PIPE_INT_STATUS. -/
  | pipeIntStatus
  /-- PIPE_INT_ENABLE. -/
  | pipeIntEnable
  /-- CLASS_STATUS. -/
  | classStatus
  /-- PARSE_CFG. -/
  | parseCfg
  /-- DRAVUA_ETYPE. -/
  | dravuaEtype
  /-- RECIRC_STATUS. -/
  | recircStatus
  /-- PIPE_DROP_CNT of code c (Table 5-12). -/
  | pipeDropCnt
  /-- MIRROR_SESSION m. -/
  | mirrorSession
  /-- STAGE_W k. -/
  | stageW
  /-- HASH_MASK, profile p, word k. -/
  | hashMask
  /-- HASH_SEED, profile p. -/
  | hashSeed
  /-- PORT_KEY_SEL (Table 5-14). -/
  | portKeySel
  /-- PORT_QOS (Table 5-15). -/
  | portQos
  /-- PORT_DEFAULT_NOMATCH. -/
  | portDefaultNomatch
  /-- PORT_DEFAULT_PARSEFAIL. -/
  | portDefaultParsefail
  /-- PORT_PARSE_CNT. -/
  | portParseCnt
  /-- PORT_PARSE_LAST. -/
  | portParseLast
  /-- FT_INT_STATUS. -/
  | ftIntStatus
  /-- FT_INT_ENABLE. -/
  | ftIntEnable
  /-- L2_CFG. -/
  | l2Cfg
  /-- L2_MOVE_CFG. -/
  | l2MoveCfg
  /-- L2_STATUS. -/
  | l2Status
  /-- L2_CNT_0. -/
  | l2Cnt0
  /-- L2_CNT_1. -/
  | l2Cnt1
  /-- L2_CNT_2. -/
  | l2Cnt2
  /-- LPM_STATUS. -/
  | lpmStatus
  /-- LPM_CNT. -/
  | lpmCnt
  /-- ROUTER_MAC m. -/
  | routerMac
  /-- L2_PORT_CFG. -/
  | l2PortCfg
  /-- BUF_SLICE_STATUS (Table 7-4). -/
  | bufSliceStatus
  /-- BUF_SLICE_CFG. -/
  | bufSliceCfg
  /-- BUF_INT_STATUS. -/
  | bufIntStatus
  /-- BUF_INT_ENABLE. -/
  | bufIntEnable
  /-- AUDIT_CTL. -/
  | auditCtl
  /-- AUDIT_STATUS. -/
  | auditStatus
  /-- AUDIT_CNT. -/
  | auditCnt
  /-- MC_COPY_DROP. -/
  | mcCopyDrop
  /-- BUF_DROP_CNT of code c (Table 7-2). -/
  | bufDropCnt
  /-- XBAR_STATUS (Table 7-5). -/
  | xbarStatus
  /-- XBAR_INT_STATUS. -/
  | xbarIntStatus
  /-- XBAR_INT_ENABLE. -/
  | xbarIntEnable
  /-- XBAR_CLASS_MAP. -/
  | xbarClassMap
  /-- RSQ_TIMEOUT. -/
  | rsqTimeout
  /-- ADM_PROFILE k (Table 7-6). -/
  | admProfile
  /-- XBAR_PLANE_CAUSE. -/
  | xbarPlaneCause
  /-- XBAR_PLANE_CNT. -/
  | xbarPlaneCnt
  /-- XBAR_IDLE_GRANT. -/
  | xbarIdleGrant
  /-- RSQ_CNT. -/
  | rsqCnt
  /-- RSQ_STATUS. -/
  | rsqStatus
  /-- PULL_STATUS. -/
  | pullStatus
  /-- TM_INT_STATUS. -/
  | tmIntStatus
  /-- TM_INT_ENABLE. -/
  | tmIntEnable
  /-- TM_LFSR_SEED. -/
  | tmLfsrSeed
  /-- TM_PORT_CFG (Table 8-3). -/
  | tmPortCfg
  /-- TM_PORT_STATUS (Table 8-6). -/
  | tmPortStatus
  /-- TM_PORT_SHAPER. -/
  | tmPortShaper
  /-- TM_DROP_CNT. -/
  | tmDropCnt
  /-- TM_PORT_CNT. -/
  | tmPortCnt
  /-- TM_QUEUE_CFG (Table 8-2). -/
  | tmQueueCfg
  /-- TM_QUEUE_STATUS (Table 8-7). -/
  | tmQueueStatus
  /-- FAULT_REC_w of a fault source (Tables 17-4, 17-5). -/
  | faultRec
  /-- FAULT_CTL (Table 17-7). -/
  | faultCtl
  /-- FAULT_FORCE. -/
  | faultForce
  /-- FLIP_SEL. -/
  | flipSel
  /-- FLIP_MASK_LO. -/
  | flipMaskLo
  /-- FLIP_MASK_HI. -/
  | flipMaskHi
  /-- FLIP_LAST. -/
  | flipLast
  /-- FAULT_CNT of class c. -/
  | faultCnt
  /-- SCRUB_STATUS. -/
  | scrubStatus
  /-- REPAIR_STATUS. -/
  | repairStatus
  /-- FN_STATUS (BAR0). -/
  | fnStatus
  /-- FN_INT_STATUS (BAR0). -/
  | fnIntStatus
  /-- FN_INT_ENABLE (BAR0). -/
  | fnIntEnable
  /-- FN_CNT (BAR0). -/
  | fnCnt
  /-- ADMIN_SQ_BASE (BAR0). -/
  | adminSqBase
  /-- ADMIN_CQ_BASE (BAR0). -/
  | adminCqBase
  /-- ADMIN_CFG (BAR0). -/
  | adminCfg
  /-- ADMIN_SQ_DB (BAR0). -/
  | adminSqDb
  /-- ADMIN_CQ_DB (BAR0). -/
  | adminCqDb
  /-- BOOT_MBOX_ADDR (BAR0 of PF0). -/
  | bootMboxAddr
  /-- BOOT_MBOX_CTL (BAR0 of PF0). -/
  | bootMboxCtl
  /-- BOOT_MBOX_STATUS (BAR0 of PF0). -/
  | bootMboxStatus
  /-- POOL_DB (BAR0). -/
  | poolDb
  /-- POOL_STATUS (BAR0). -/
  | poolStatus
  /-- CHAN_CTL (BAR0). -/
  | chanCtl
  /-- CHAN_DB (BAR0). -/
  | chanDb
  /-- CHAN_CQ_DB (BAR0). -/
  | chanCqDb
  /-- CHAN_STATUS (BAR0). -/
  | chanStatus
  /-- QP_SQ_DB (BAR0). -/
  | qpSqDb
  /-- QP_CQ_DB (BAR0). -/
  | qpCqDb
deriving DecidableEq, Repr

/-- The register tables: address, access code, defined bits, stored bits, reset. -/
def regDesc : RegId → RegDesc
  | .cmdStatus => ⟨0, [], .ro, 0xFFFFFFF800000000, 0, 0⟩
  | .cmdIntStatus => ⟨8, [], .rw1c, 0x1F, 0, 0⟩
  | .cmdIntEnable => ⟨0x10, [], .rw, 0x1F, 0x1F, 0⟩
  | .sourceAllow => ⟨0x18, [], .rw, 0xFFFFFFFFFFFF, 0xFFFFFFFFFFFF, 0x7FFF7FFF0A01⟩
  | .mgmtPortCfg => ⟨0x20, [], .rw, 0x381FF, 0x381FF, 0⟩
  | .mgmtMac => ⟨0x28, [], .rw, 0xFFFFFFFFFFFF, 0xFFFFFFFFFFFF, 0⟩
  | .cmdSrcCnt => ⟨0x30, [⟨0, 6, 8⟩], .rc, 0xFFFFFFFFFFFFFFFF, 0, 0⟩
  | .cmdRejectCnt => ⟨0x60, [], .rc, 0xFFFFFFFFFFFF, 0, 0⟩
  | .eventLostCnt => ⟨0x68, [], .rc, 0xFFFFFFFFFFFF, 0, 0⟩
  | .cmdVfVer => ⟨0x70, [⟨0, 2, 8⟩], .ro, 0xFFFFFFFFFFFFFFFF, 0, 0⟩
  | .intRoute => ⟨0x800, [⟨0, 15, 8⟩], .rw, 0xC0000000000001FF, 0xC0000000000001FF, 0⟩
  | .intSummary => ⟨0x900, [], .ro, 0x7FFF, 0, 0⟩
  | .intSignalCnt => ⟨0x908, [], .rc, 0xFFFFFFFFFFFFFFFF, 0, 0⟩
  | .bootStatus => ⟨0x1000, [], .ro, 0xFFFFE00000000000, 0, 0⟩
  | .bootIntStatus => ⟨0x1008, [], .rw1c, 0x3F, 0, 0⟩
  | .bootIntEnable => ⟨0x1010, [], .rw, 0x3F, 0x3F, 0⟩
  | .devResetCtl => ⟨0x1018, [], .rws, 0xFFFF000000000703, 0x700, 0⟩
  | .resetCause => ⟨0x1020, [], .rws, 0xFFFF0007, 0xFFFF0007, 0⟩
  | .profileStatus => ⟨0x1028, [], .ro, 0xFF80FFFFFFFFFFFF, 0, 0⟩
  | .profileEpochs => ⟨0x1030, [], .ro, 0xFFFFFFFFFFFFFFFF, 0, 0⟩
  | .pwrStatus => ⟨0x2000, [], .ro, 0xFFE003FF00000000, 0, 0⟩
  | .pwrIntStatus => ⟨0x2008, [], .rw1c, 0x7F, 0, 0⟩
  | .pwrIntEnable => ⟨0x2010, [], .rw, 0x7F, 0x7F, 0⟩
  | .pwrEst => ⟨0x2018, [], .ro, 0xFFFFFFFFFFFFFFFF, 0, 0⟩
  | .pwrCap => ⟨0x2020, [], .ro, 0x7FF, 0, 0⟩
  | .didtLimit => ⟨0x2028, [], .rw, 0xFFFF, 0xFFFF, 0x320⟩
  | .avsCfg => ⟨0x2030, [], .rw, 0x1FF0F, 0xFF0F, 0x1405⟩
  | .pwrCnt => ⟨0x2038, [], .rc, 0xFFFFFFFFFFFFFFFF, 0, 0⟩
  | .presenceStatus => ⟨0x2040, [], .ro, 0xF00000000000FFFF, 0, 0⟩
  | .fuseFmax => ⟨0x2048, [], .ro, 0xFFFFFFFFFFFFFFFF, 0, 0⟩
  | .fuseFfab => ⟨0x2050, [], .ro, 0xF, 0, 0⟩
  | .domainStatus => ⟨0x2100, [⟨0, 40, 8⟩], .ro, 0xFFFFFFFFFFFFFFFF, 0, 0⟩
  | .opEntry => ⟨0x2300, [⟨0, 8, 8⟩], .ro, 0xFFFFFFF000000000, 0, 0⟩
  | .tolerance => ⟨0x2380, [⟨0, 8, 8⟩], .ro, 0xFFFFFFFF, 0, 0⟩
  | .fillProfile => ⟨0x2400, [⟨0, 16, 8⟩], .rw, 0xFFFFFFC000000000, 0xFFFFFFC000000000, 0⟩
  | .cellSleepStatus => ⟨0x2500, [⟨0, 8, 0x10⟩], .ro, 0xFFFFFFFFFFFFFF80, 0, 0⟩
  | .cellSleepCnt => ⟨0x2508, [⟨0, 8, 0x10⟩], .rc, 0xFFFFFFFFFFFFFFFF, 0, 0⟩
  | .secStatus => ⟨0x3000, [], .ro, 0xFFFFFC0000000000, 0, 0⟩
  | .secIntStatus => ⟨0x3008, [], .rw1c, 0x1FF, 0, 0⟩
  | .secIntEnable => ⟨0x3010, [], .rw, 0x1FF, 0x1FF, 0⟩
  | .deviceUid => ⟨0x3018, [], .ro, 0xFFFFFFFFFFFFFFFF, 0, 0⟩
  | .monoCount => ⟨0x3020, [], .ro, 0xFFFFFFFFFFFFFFFF, 0, 0⟩
  | .tamperStatus => ⟨0x3028, [], .ro, 0x1F, 0, 0⟩
  | .rollbackFloor => ⟨0x3030, [], .ro, 0xFFFFFFFFFFFFFFFF, 0, 0⟩
  | .fuseKeys => ⟨0x3038, [], .ro, 0xFFFFFF0FFF, 0, 0⟩
  | .secCnt => ⟨0x3040, [], .rc, 0xFFFFFFFFFFFFFFFF, 0, 0⟩
  | .lockerRecord => ⟨0x3100, [⟨0, 32, 0x20⟩, ⟨0, 4, 8⟩], .ro, 0xFFFFFFFFFFFFFFFF, 0, 0⟩
  | .hqStatus => ⟨0x4000, [], .ro, 0xFFFF1FFF, 0, 0⟩
  | .hqIntStatus => ⟨0x4008, [], .rw1c, 0xF, 0, 0⟩
  | .hqIntEnable => ⟨0x4010, [], .rw, 0xF, 0xF, 0⟩
  | .hqDropCnt => ⟨0x4018, [⟨1, 5, 8⟩], .rc, 0xFFFFFFFFFFFF, 0, 0⟩
  | .fnQpRange => ⟨0x4100, [⟨0, 64, 8⟩], .rw, 0xFFF1FFF, 0xFFF1FFF, 0x40⟩
  | .fnTxCfg => ⟨0x4300, [⟨0, 64, 8⟩], .rw, 0xFF01FF, 0xFF01FF, 0x100000⟩
  | .chanOwner => ⟨0x4500, [⟨0, 32, 8⟩], .rw, 0x800000000001033F, 0x800000000001033F, 0⟩
  | .poolOwner => ⟨0x4600, [⟨0, 8, 8⟩], .rw, 0x3F, 0x3F, 0⟩
  | .rigStatus => ⟨0x5000, [], .ro, 0xFFFFFFFFFFFFFFFF, 0, 0⟩
  | .rigIntStatus => ⟨0x5008, [], .rw1c, 0x1F, 0, 0⟩
  | .rigIntEnable => ⟨0x5010, [], .rw, 0x1F, 0x1F, 0⟩
  | .discTime0 => ⟨0x5018, [], .ro, 0xFFFFFFFFFFFFFFFF, 0, 0⟩
  | .discTime1 => ⟨0x5020, [], .ro, 0xFFFFFFFF00000003, 0, 0⟩
  | .discDelta => ⟨0x5028, [], .ro, 0xFFFFFFFFFFFFFFFF, 0, 0⟩
  | .rigCounters => ⟨0x5030, [], .rc, 0xFFFFFFFFFFFFFFFF, 0, 0⟩
  | .tlPos => ⟨0x5100, [⟨0, 8, 0x10⟩], .ro, 0xFFFFFFFFFFE00000, 0, 0⟩
  | .tlFrameCnt => ⟨0x5108, [⟨0, 8, 0x10⟩], .ro, 0xFFFFFFFFFFFFFFFF, 0, 0⟩
  | .telStatus => ⟨0x8000, [], .ro, 0x8000000000000000, 0, 0⟩
  | .telIntStatus => ⟨0x8008, [], .rw1c, 0xF, 0, 0⟩
  | .telIntEnable => ⟨0x8010, [], .rw, 0xF, 0xF, 0⟩
  | .telFlush => ⟨0x8018, [], .rw, 0x3FF, 0x3FF, 0xA⟩
  | .telFifoStatus => ⟨0x8020, [], .ro, 0xFFFFFFFFFFFFFFFF, 0, 0⟩
  | .telClassCfg => ⟨0x8100, [⟨0, 8, 8⟩], .rw, 0xFFFFF80000000000, 0xFFFFF80000000000, 0x3FFFC00000000000⟩
  | .telCollector => ⟨0x8200, [⟨0, 8, 8⟩], .rw, 0xFFFFFF8000000000, 0xFFFFFF8000000000, 0⟩
  | .telWinCfg => ⟨0x8300, [⟨0, 8, 8⟩], .rw, 0xFFFFFF8000000000, 0xFFFFFF8000000000, 0⟩
  | .telTileCnt => ⟨0x8400, [⟨0, 16, 8⟩], .rc, 0xFFFFFFFFFFFFFFFF, 0, 0⟩
  | .telInbandCnt => ⟨0x8500, [⟨0, 16, 8⟩], .rc, 0xFFFFFFFFFFFFFFFF, 0, 0⟩
  | .telWinBad => ⟨0x8580, [], .rc, 0xFFFFFFFFFFFF, 0, 0⟩
  | .telPortCfg => ⟨0x9000, [⟨0, 512, 0x10⟩], .rw, 0xF800000000000000, 0xF800000000000000, 0⟩
  | .telPortWinCnt => ⟨0x9008, [⟨0, 512, 0x10⟩], .rc, 0xFFFFFFFFFFFFFFFF, 0, 0⟩
  | .mcStatus => ⟨0x10000, [], .ro, 0xFFFF, 0, 0⟩
  | .mcIntStatus => ⟨0x10008, [], .rw1c, 0x7FF, 0, 0⟩
  | .mcIntEnable => ⟨0x10010, [], .rw, 0x7FF, 0x7FF, 0⟩
  | .mcSnapTrigger => ⟨0x10018, [], .wo, 1, 0, 0⟩
  | .mcSnap0 => ⟨0x10020, [], .ro, 0xFFFFFFFFFFFFFFFF, 0, 0⟩
  | .mcSnap1 => ⟨0x10028, [], .ro, 0xFFFFFFFF00000000, 0, 0⟩
  | .servoSample => ⟨0x10030, [], .wo, 0xF000FFFFFFFFFFFF, 0, 0⟩
  | .freqAdj => ⟨0x10038, [], .ro, 0xFFFFFFFFFFFFFFFF, 0, 0⟩
  | .mcTeEst => ⟨0x10040, [], .ro, 0xFFFFFFFF, 0, 0⟩
  | .synceOutCtl => ⟨0x10048, [], .rw, 0xFFFFFFFFFFFFFFFF, 0xFFFFFFFFFFFFFFFF, 0⟩
  | .mcCounters => ⟨0x10050, [], .rc, 0xFFFFFFFFFFFFFFFF, 0, 0⟩
  | .portTsCfg => ⟨0x11000, [⟨0, 512, 0x40⟩], .rw, 0x1FFFFFFFFFFF, 0x1FFFFFFFFFFF, 0⟩
  | .portDlyRx => ⟨0x11008, [⟨0, 512, 0x40⟩], .ro, 0xFFFFFFFFFFFFFFFF, 0, 0⟩
  | .portDlyTx => ⟨0x11010, [⟨0, 512, 0x40⟩], .ro, 0xFFFFFFFFFFFFFFFF, 0, 0⟩
  | .txtsWord0 => ⟨0x11018, [⟨0, 512, 0x40⟩], .ro, 0xFC00FFFFFFFFFFFF, 0, 0⟩
  | .txtsWord1 => ⟨0x11020, [⟨0, 512, 0x40⟩], .rc, 0xFFFFFFFFFFFFFFFF, 0, 0⟩
  | .txtsStatus => ⟨0x11028, [⟨0, 512, 0x40⟩], .rw1c, 0x800000000000001F, 0, 0⟩
  | .txtsDiscard => ⟨0x11030, [⟨0, 512, 0x40⟩], .rc, 0xFFFFFFFF, 0, 0⟩
  | .tsCounters => ⟨0x11038, [⟨0, 512, 0x40⟩], .rc, 0xFFFFFFFFFFFFFFFF, 0, 0⟩
  | .hkStatus => ⟨0x20000, [⟨0, 4, 0x1000⟩], .ro, 0xFFFFFFFFFFFFF800, 0, 0⟩
  | .hkIntStatus => ⟨0x20008, [⟨0, 4, 0x1000⟩], .rw1c, 0x7F, 0, 0⟩
  | .hkIntEnable => ⟨0x20010, [⟨0, 4, 0x1000⟩], .rw, 0x7F, 0x7F, 0⟩
  | .hkFault => ⟨0x20018, [⟨0, 4, 0x1000⟩], .ro, 0xFFFFFF, 0, 0⟩
  | .hkDrainLimit => ⟨0x20020, [⟨0, 4, 0x1000⟩], .rw, 0xFFFFFF, 0xFFFFFF, 0x2710⟩
  | .hkShareMap => ⟨0x20028, [⟨0, 4, 0x1000⟩], .ro, 0xFFFFFFFFFFFFFFFF, 0, 0⟩
  | .hkQueueStatus => ⟨0x20030, [⟨0, 4, 0x1000⟩], .ro, 0x3FFF3FFF3FFF3FFF, 0, 0⟩
  | .hkCnt0 => ⟨0x20038, [⟨0, 4, 0x1000⟩], .rc, 0xFFFFFFFFFFFFFFFF, 0, 0⟩
  | .hkCnt1 => ⟨0x20040, [⟨0, 4, 0x1000⟩], .rc, 0xFFFFFFFFFFFFFFFF, 0, 0⟩
  | .hkShareMapN => ⟨0x20040, [⟨0, 4, 0x1000⟩, ⟨1, 3, 8⟩], .ro, 0xFFFFFFFFFFFFFFFF, 0, 0⟩
  | .hkEngineStatus => ⟨0x20100, [⟨0, 4, 0x1000⟩, ⟨0, 16, 0x10⟩], .ro, 0xF000FFFF000000FF, 0, 0⟩
  | .hkEngineCnt => ⟨0x20108, [⟨0, 4, 0x1000⟩, ⟨0, 16, 0x10⟩], .rc, 0xFFFFFFFFFFFFFFFF, 0, 0⟩
  | .skStatus => ⟨0x30000, [⟨0, 4, 0x1000⟩], .ro, 0xFFFFFFFFFFFFFFE0, 0, 0⟩
  | .skIntStatus => ⟨0x30008, [⟨0, 4, 0x1000⟩], .rw1c, 0x7F, 0, 0⟩
  | .skIntEnable => ⟨0x30010, [⟨0, 4, 0x1000⟩], .rw, 0x7F, 0x7F, 0⟩
  | .skCloseCnt => ⟨0x30018, [⟨0, 4, 0x1000⟩], .rc, 0xFFFFFFFFFFFFFFFF, 0, 0⟩
  | .skDropCnt => ⟨0x30020, [⟨0, 4, 0x1000⟩, ⟨1, 17, 8⟩], .rc, 0xFFFFFFFFFFFF, 0, 0⟩
  | .skBindStatus => ⟨0x38000, [], .ro, 0x3FFFF000FFFFF, 0, 0⟩
  | .laneStatus => ⟨0x50000, [⟨0, 512, 0x40⟩], .ro, 0xFFFE000000000000, 0, 0⟩
  | .laneIntStatus => ⟨0x50008, [⟨0, 512, 0x40⟩], .rw1c, 0x7F, 0, 0⟩
  | .laneIntEnable => ⟨0x50010, [⟨0, 512, 0x40⟩], .rw, 0x7F, 0x7F, 0⟩
  | .laneGuard => ⟨0x50018, [⟨0, 512, 0x40⟩], .ro, 0xFFFFFFFF, 0, 0⟩
  | .laneDozeCnt => ⟨0x50020, [⟨0, 512, 0x40⟩], .rc, 0xFFFFFFFFFFFFFFFF, 0, 0⟩
  | .laneFecCnt => ⟨0x50028, [⟨0, 512, 0x40⟩], .rc, 0xFFFFFFFFFFFFFFFF, 0, 0⟩
  | .portStatus => ⟨0x60000, [⟨0, 512, 0x40⟩], .ro, 0xFFFFFFFFFFFFFF80, 0, 0⟩
  | .portIntStatus => ⟨0x60008, [⟨0, 512, 0x40⟩], .rw1c, 0x3F, 0, 0⟩
  | .portIntEnable => ⟨0x60010, [⟨0, 512, 0x40⟩], .rw, 0x3F, 0x3F, 0⟩
  | .portCtl => ⟨0x60018, [⟨0, 512, 0x40⟩], .rw, 3, 1, 0⟩
  | .portLinkCnt => ⟨0x60020, [⟨0, 512, 0x40⟩], .rc, 0xFFFFFFFFFFFFFFFF, 0, 0⟩
  | .portSkew => ⟨0x60028, [⟨0, 512, 0x40⟩], .ro, 0xFFFFFFFFFFFFFFFF, 0, 0⟩
  | .cpriCnt => ⟨0x60030, [⟨0, 512, 0x40⟩], .rc, 0xFFFFFFFFFFFFFFFF, 0, 0⟩
  | .pipeIntStatus => ⟨0x80000, [⟨0, 16, 0x1000⟩], .rw1c, 0x7F, 0, 0⟩
  | .pipeIntEnable => ⟨0x80008, [⟨0, 16, 0x1000⟩], .rw, 0x7F, 0x7F, 0⟩
  | .classStatus => ⟨0x80010, [⟨0, 16, 0x1000⟩], .ro, 0xC000FFFFFFFF0000, 0, 0⟩
  | .parseCfg => ⟨0x80018, [⟨0, 16, 0x1000⟩], .rw, 0xFFFFFFFFFFFFFFFF, 0xFFFFFFFFFFFFFFFF, 0⟩
  | .dravuaEtype => ⟨0x80020, [⟨0, 16, 0x1000⟩], .rw, 0xFFFF, 0xFFFF, 0x88B5⟩
  | .recircStatus => ⟨0x80028, [⟨0, 16, 0x1000⟩], .ro, 0x1FFFF, 0, 0⟩
  | .pipeDropCnt => ⟨0x80030, [⟨0, 16, 0x1000⟩, ⟨1, 16, 8⟩], .rc, 0xFFFFFFFFFFFF, 0, 0⟩
  | .mirrorSession => ⟨0x80100, [⟨0, 16, 0x1000⟩, ⟨1, 15, 8⟩], .rw, 0xFFFFFFFF00000000, 0xFFFFFFFF00000000, 0⟩
  | .stageW => ⟨0x80200, [⟨0, 16, 0x1000⟩, ⟨0, 8, 8⟩], .ro, 0xFFFFFFFFFFFFFFFF, 0, 0⟩
  | .hashMask => ⟨0x80400, [⟨0, 16, 0x1000⟩, ⟨0, 8, 0x28⟩, ⟨0, 4, 8⟩], .rw, 0xFFFFFFFFFFFFFFFF, 0xFFFFFFFFFFFFFFFF, 0xFFFFFFFFFFFFFFFF⟩
  | .hashSeed => ⟨0x80420, [⟨0, 16, 0x1000⟩, ⟨0, 8, 0x28⟩], .rw, 0xFFFFFFFF, 0xFFFFFFFF, 0⟩
  | .portKeySel => ⟨0x80800, [⟨0, 16, 0x1000⟩, ⟨0, 32, 0x40⟩], .rw, 0x7FFFFFFF, 0x7FFFFFFF, 0x25392D⟩
  | .portQos => ⟨0x80808, [⟨0, 16, 0x1000⟩, ⟨0, 32, 0x40⟩], .rw, 0xFFFFF000FFFFFFFF, 0xFFFFF000FFFFFFFF, 0x76543210⟩
  | .portDefaultNomatch => ⟨0x80810, [⟨0, 16, 0x1000⟩, ⟨0, 32, 0x40⟩], .rw, 0xFFFFFFFFFFFFFFFF, 0xFFFFFFFFFFFFFFFF, 0⟩
  | .portDefaultParsefail => ⟨0x80818, [⟨0, 16, 0x1000⟩, ⟨0, 32, 0x40⟩], .rw, 0xFFFFFFFFFFFFFFFF, 0xFFFFFFFFFFFFFFFF, 0x600000000000000⟩
  | .portParseCnt => ⟨0x80820, [⟨0, 16, 0x1000⟩, ⟨0, 32, 0x40⟩], .rc, 0xFFFFFFFFFFFFFFFF, 0, 0⟩
  | .portParseLast => ⟨0x80828, [⟨0, 16, 0x1000⟩, ⟨0, 32, 0x40⟩], .ro, 0xFF0F, 0, 0⟩
  | .ftIntStatus => ⟨0x90000, [⟨0, 16, 0x1000⟩], .rw1c, 0x7F, 0, 0⟩
  | .ftIntEnable => ⟨0x90008, [⟨0, 16, 0x1000⟩], .rw, 0x7F, 0x7F, 0⟩
  | .l2Cfg => ⟨0x90010, [⟨0, 16, 0x1000⟩], .rw, 0xFFFFFFFFFFFFFC00, 0xFFFFFC00, 0x960000⟩
  | .l2MoveCfg => ⟨0x90018, [⟨0, 16, 0x1000⟩], .rw, 0xFFFF, 0xFFFF, 1⟩
  | .l2Status => ⟨0x90020, [⟨0, 16, 0x1000⟩], .ro, 0xFFFFFFFF0003FFFF, 0, 0⟩
  | .l2Cnt0 => ⟨0x90028, [⟨0, 16, 0x1000⟩], .rc, 0xFFFFFFFFFFFFFFFF, 0, 0⟩
  | .l2Cnt1 => ⟨0x90030, [⟨0, 16, 0x1000⟩], .rc, 0xFFFFFFFFFFFFFFFF, 0, 0⟩
  | .l2Cnt2 => ⟨0x90038, [⟨0, 16, 0x1000⟩], .rc, 0xFFFFFFFFFFFFFFFF, 0, 0⟩
  | .lpmStatus => ⟨0x90040, [⟨0, 16, 0x1000⟩], .ro, 0xFFFF8000FFFFFFFF, 0, 0⟩
  | .lpmCnt => ⟨0x90048, [⟨0, 16, 0x1000⟩], .rc, 0xFFFFFFFFFFFFFFFF, 0, 0⟩
  | .routerMac => ⟨0x90100, [⟨0, 16, 0x1000⟩, ⟨0, 16, 8⟩], .rw, 0xFFFFFFFFFFFF, 0xFFFFFFFFFFFF, 0⟩
  | .l2PortCfg => ⟨0x90800, [⟨0, 16, 0x1000⟩, ⟨0, 32, 8⟩], .rw, 0x8000000000000FFF, 0x8000000000000FFF, 0⟩
  | .bufSliceStatus => ⟨0xC0000, [⟨0, 16, 0x1000⟩], .ro, 0xFFFFFFFFFFFFFFFF, 0, 0⟩
  | .bufSliceCfg => ⟨0xC0008, [⟨0, 16, 0x1000⟩], .rw, 0x1FFFF0001FFFF, 0x1FFFF0001FFFF, 0x800⟩
  | .bufIntStatus => ⟨0xC0010, [⟨0, 16, 0x1000⟩], .rw1c, 0xF, 0, 0⟩
  | .bufIntEnable => ⟨0xC0018, [⟨0, 16, 0x1000⟩], .rw, 0xF, 0xF, 0⟩
  | .auditCtl => ⟨0xC0020, [⟨0, 16, 0x1000⟩], .rw, 0x1FFFF, 0x1FFFF, 0x3E8⟩
  | .auditStatus => ⟨0xC0028, [⟨0, 16, 0x1000⟩], .ro, 0xFFFFFF03FFFFFFFF, 0, 0⟩
  | .auditCnt => ⟨0xC0030, [⟨0, 16, 0x1000⟩], .rc, 0xFFFFFFFFFFFFFFFF, 0, 0⟩
  | .mcCopyDrop => ⟨0xC0038, [⟨0, 16, 0x1000⟩], .rc, 0xFFFFFFFFFFFF, 0, 0⟩
  | .bufDropCnt => ⟨0xC0040, [⟨0, 16, 0x1000⟩, ⟨1, 6, 8⟩], .rc, 0xFFFFFFFFFFFF, 0, 0⟩
  | .xbarStatus => ⟨0xD0000, [], .ro, 0xFFFFFFFFFFFC0000, 0, 0⟩
  | .xbarIntStatus => ⟨0xD0008, [], .rw1c, 7, 0, 0⟩
  | .xbarIntEnable => ⟨0xD0010, [], .rw, 7, 7, 0⟩
  | .xbarClassMap => ⟨0xD0018, [], .rw, 0xFFFFFFFF, 0xFFFFFFFF, 0xFFAA5500⟩
  | .rsqTimeout => ⟨0xD0020, [], .rw, 0xFFFF, 0xFFFF, 0xC8⟩
  | .admProfile => ⟨0xD0100, [⟨0, 16, 8⟩], .rw, 0xFFFFFFF00000, 0xFFFFFFF00000, 0x868600000⟩
  | .xbarPlaneCause => ⟨0xE0000, [⟨0, 12, 0x100⟩], .ro, 7, 0, 0⟩
  | .xbarPlaneCnt => ⟨0xE0008, [⟨0, 12, 0x100⟩], .rc, 0xFFFFFFFFFFFFFFFF, 0, 0⟩
  | .xbarIdleGrant => ⟨0xE0010, [⟨0, 12, 0x100⟩], .rc, 0xFFFFFFFFFFFF, 0, 0⟩
  | .rsqCnt => ⟨0xF0000, [⟨0, 16, 0x100⟩], .rc, 0xFFFFFFFFFFFFFFFF, 0, 0⟩
  | .rsqStatus => ⟨0xF0008, [⟨0, 16, 0x100⟩], .ro, 0x3FFF0000FFFF, 0, 0⟩
  | .pullStatus => ⟨0xF0010, [⟨0, 16, 0x100⟩], .ro, 0x3FFF, 0, 0⟩
  | .tmIntStatus => ⟨0x100000, [⟨0, 16, 0x8000⟩], .rw1c, 7, 0, 0⟩
  | .tmIntEnable => ⟨0x100008, [⟨0, 16, 0x8000⟩], .rw, 7, 7, 0⟩
  | .tmLfsrSeed => ⟨0x100010, [⟨0, 16, 0x8000⟩], .rw, 0xFFFF, 0xFFFF, 0xACE1⟩
  | .tmPortCfg => ⟨0x100800, [⟨0, 16, 0x8000⟩, ⟨0, 32, 0x40⟩], .ro, 0xFFFFFFFFFFFFFFFF, 0, 0⟩
  | .tmPortStatus => ⟨0x100808, [⟨0, 16, 0x8000⟩, ⟨0, 32, 0x40⟩], .ro, 0xFFFFFFFFFFFFFFFF, 0, 0⟩
  | .tmPortShaper => ⟨0x100810, [⟨0, 16, 0x8000⟩, ⟨0, 32, 0x40⟩], .ro, 0xFFFFFFFFFFFFFFFF, 0, 0⟩
  | .tmDropCnt => ⟨0x100818, [⟨0, 16, 0x8000⟩, ⟨0, 32, 0x40⟩], .rc, 0xFFFFFFFFFFFFFFFF, 0, 0⟩
  | .tmPortCnt => ⟨0x100820, [⟨0, 16, 0x8000⟩, ⟨0, 32, 0x40⟩], .rc, 0xFFFFFFFFFFFFFFFF, 0, 0⟩
  | .tmQueueCfg => ⟨0x102000, [⟨0, 16, 0x8000⟩, ⟨0, 512, 0x10⟩], .ro, 0xFFFFFFFFFFFFFFFF, 0, 0⟩
  | .tmQueueStatus => ⟨0x102008, [⟨0, 16, 0x8000⟩, ⟨0, 512, 0x10⟩], .ro, 0xFFFFFFFFFFFFFFFF, 0, 0⟩
  | .faultRec => ⟨0xC00000, [⟨0, 15, 0x4000⟩, ⟨0, 64, 0x100⟩, ⟨0, 4, 8⟩], .ro, 0xFFFFFFFFFFFFFFFF, 0, 0⟩
  | .faultCtl => ⟨0xC00020, [⟨0, 15, 0x4000⟩, ⟨0, 64, 0x100⟩], .rw, 0x700000000000FFFF, 0x100000000000FFFF, 0x100000000000DFFC⟩
  | .faultForce => ⟨0xC00028, [⟨0, 15, 0x4000⟩, ⟨0, 64, 0x100⟩], .rw, 0xFFFFFF, 0, 0⟩
  | .flipSel => ⟨0xC00030, [⟨0, 15, 0x4000⟩, ⟨0, 64, 0x100⟩], .rw, 0xFF, 0xFF, 0⟩
  | .flipMaskLo => ⟨0xC00038, [⟨0, 15, 0x4000⟩, ⟨0, 64, 0x100⟩], .rw, 0xFFFFFFFFFFFFFFFF, 0, 0⟩
  | .flipMaskHi => ⟨0xC00040, [⟨0, 15, 0x4000⟩, ⟨0, 64, 0x100⟩], .rw, 0xFFFF, 0, 0⟩
  | .flipLast => ⟨0xC00048, [⟨0, 15, 0x4000⟩, ⟨0, 64, 0x100⟩], .rw1c, 0x80FF00FFFFFFFFFF, 0, 0⟩
  | .faultCnt => ⟨0xC00050, [⟨0, 15, 0x4000⟩, ⟨0, 64, 0x100⟩, ⟨0, 16, 8⟩], .rc, 0xFFFFFFFFFFFFFFFF, 0, 0⟩
  | .scrubStatus => ⟨0xC000D0, [⟨0, 15, 0x4000⟩, ⟨0, 64, 0x100⟩], .rw1c, 0x8000FFFFFFFFFFFF, 0, 0⟩
  | .repairStatus => ⟨0xC000D8, [⟨0, 15, 0x4000⟩, ⟨0, 64, 0x100⟩], .ro, 0xFFFFFFFF, 0, 0⟩
  | .fnStatus => ⟨0x100000000, [⟨0, 64, 0x1000000⟩], .ro, 0x7F80FFFFFFFF1FFF, 0, 0⟩
  | .fnIntStatus => ⟨0x100000008, [⟨0, 64, 0x1000000⟩], .rw1c, 0x1F, 0, 0⟩
  | .fnIntEnable => ⟨0x100000010, [⟨0, 64, 0x1000000⟩], .rw, 0x1F, 0x1F, 0⟩
  | .fnCnt => ⟨0x100000018, [⟨0, 64, 0x1000000⟩], .rc, 0xFFFFFFFFFFFFFFFF, 0, 0⟩
  | .adminSqBase => ⟨0x100000100, [⟨0, 64, 0x1000000⟩], .rw, 0xFFFFFFFFFFFFFFFF, 0xFFFFFFFFFFFFFFFF, 0⟩
  | .adminCqBase => ⟨0x100000108, [⟨0, 64, 0x1000000⟩], .rw, 0xFFFFFFFFFFFFFFFF, 0xFFFFFFFFFFFFFFFF, 0⟩
  | .adminCfg => ⟨0x100000110, [⟨0, 64, 0x1000000⟩], .rw, 0x8000000000000F0F, 0x8000000000000F0F, 0⟩
  | .adminSqDb => ⟨0x100000118, [⟨0, 64, 0x1000000⟩], .wo, 0xFFFFFFFFFFFFFFFF, 0, 0⟩
  | .adminCqDb => ⟨0x100000120, [⟨0, 64, 0x1000000⟩], .wo, 0xFFFFFFFFFFFFFFFF, 0, 0⟩
  | .bootMboxAddr => ⟨0x100000200, [], .rw, 0xFFFFFFFFFFFFFFFF, 0xFFFFFFFFFFFFFFFF, 0⟩
  | .bootMboxCtl => ⟨0x100000208, [], .wo, 0x83000000FFFFFFFF, 0, 0⟩
  | .bootMboxStatus => ⟨0x100000210, [], .ro, 0x43F0000000000000, 0, 0⟩
  | .poolDb => ⟨0x100000400, [⟨0, 64, 0x1000000⟩, ⟨0, 8, 0x10⟩], .wo, 0xFFFFFFFFFFFFFFFF, 0, 0⟩
  | .poolStatus => ⟨0x100000408, [⟨0, 64, 0x1000000⟩, ⟨0, 8, 0x10⟩], .ro, 0xFFFF80FF0000FFFF, 0, 0⟩
  | .chanCtl => ⟨0x100000800, [⟨0, 64, 0x1000000⟩, ⟨0, 32, 0x20⟩], .rw, 1, 1, 1⟩
  | .chanDb => ⟨0x100000808, [⟨0, 64, 0x1000000⟩, ⟨0, 32, 0x20⟩], .wo, 0xFFFFFFFFFFFFFFFF, 0, 0⟩
  | .chanCqDb => ⟨0x100000810, [⟨0, 64, 0x1000000⟩, ⟨0, 32, 0x20⟩], .wo, 0xFFFFFFFFFFFFFFFF, 0, 0⟩
  | .chanStatus => ⟨0x100000818, [⟨0, 64, 0x1000000⟩, ⟨0, 32, 0x20⟩], .ro, 0xFFFFFFFFFFFFFFFF, 0, 0⟩
  | .qpSqDb => ⟨0x100010000, [⟨0, 64, 0x1000000⟩, ⟨0, 4096, 0x10⟩], .wo, 0xFFFFFFFFFFFFFFFF, 0, 0⟩
  | .qpCqDb => ⟨0x100010008, [⟨0, 64, 0x1000000⟩, ⟨0, 4096, 0x10⟩], .wo, 0xFFFFFFFFFFFFFFFF, 0, 0⟩

/-- Registers by name, part 0. -/
def regNames0 : List RegId :=
  [.cmdStatus, .cmdIntStatus, .cmdIntEnable, .sourceAllow, .mgmtPortCfg, .mgmtMac, .cmdSrcCnt, .cmdRejectCnt,
   .eventLostCnt, .cmdVfVer, .intRoute, .intSummary, .intSignalCnt, .bootStatus, .bootIntStatus, .bootIntEnable,
   .devResetCtl, .resetCause, .profileStatus, .profileEpochs, .pwrStatus, .pwrIntStatus, .pwrIntEnable, .pwrEst,
   .pwrCap, .didtLimit, .avsCfg, .pwrCnt, .presenceStatus, .fuseFmax, .fuseFfab, .domainStatus, .opEntry,
   .tolerance, .fillProfile, .cellSleepStatus, .cellSleepCnt, .secStatus, .secIntStatus, .secIntEnable,
   .deviceUid, .monoCount, .tamperStatus, .rollbackFloor, .fuseKeys, .secCnt, .lockerRecord, .hqStatus,
   .hqIntStatus, .hqIntEnable]

/-- Registers by name, part 1. -/
def regNames1 : List RegId :=
  [.hqDropCnt, .fnQpRange, .fnTxCfg, .chanOwner, .poolOwner, .rigStatus, .rigIntStatus, .rigIntEnable,
   .discTime0, .discTime1, .discDelta, .rigCounters, .tlPos, .tlFrameCnt, .telStatus, .telIntStatus,
   .telIntEnable, .telFlush, .telFifoStatus, .telClassCfg, .telCollector, .telWinCfg, .telTileCnt, .telInbandCnt,
   .telWinBad, .telPortCfg, .telPortWinCnt, .mcStatus, .mcIntStatus, .mcIntEnable, .mcSnapTrigger, .mcSnap0,
   .mcSnap1, .servoSample, .freqAdj, .mcTeEst, .synceOutCtl, .mcCounters, .portTsCfg, .portDlyRx, .portDlyTx,
   .txtsWord0, .txtsWord1, .txtsStatus, .txtsDiscard, .tsCounters, .hkStatus, .hkIntStatus, .hkIntEnable,
   .hkFault]

/-- Registers by name, part 2. -/
def regNames2 : List RegId :=
  [.hkDrainLimit, .hkShareMap, .hkQueueStatus, .hkCnt0, .hkCnt1, .hkShareMapN, .hkEngineStatus, .hkEngineCnt,
   .skStatus, .skIntStatus, .skIntEnable, .skCloseCnt, .skDropCnt, .skBindStatus, .laneStatus, .laneIntStatus,
   .laneIntEnable, .laneGuard, .laneDozeCnt, .laneFecCnt, .portStatus, .portIntStatus, .portIntEnable, .portCtl,
   .portLinkCnt, .portSkew, .cpriCnt, .pipeIntStatus, .pipeIntEnable, .classStatus, .parseCfg, .dravuaEtype,
   .recircStatus, .pipeDropCnt, .mirrorSession, .stageW, .hashMask, .hashSeed, .portKeySel, .portQos,
   .portDefaultNomatch, .portDefaultParsefail, .portParseCnt, .portParseLast, .ftIntStatus, .ftIntEnable, .l2Cfg,
   .l2MoveCfg, .l2Status, .l2Cnt0]

/-- Registers by name, part 3. -/
def regNames3 : List RegId :=
  [.l2Cnt1, .l2Cnt2, .lpmStatus, .lpmCnt, .routerMac, .l2PortCfg, .bufSliceStatus, .bufSliceCfg, .bufIntStatus,
   .bufIntEnable, .auditCtl, .auditStatus, .auditCnt, .mcCopyDrop, .bufDropCnt, .xbarStatus, .xbarIntStatus,
   .xbarIntEnable, .xbarClassMap, .rsqTimeout, .admProfile, .xbarPlaneCause, .xbarPlaneCnt, .xbarIdleGrant,
   .rsqCnt, .rsqStatus, .pullStatus, .tmIntStatus, .tmIntEnable, .tmLfsrSeed, .tmPortCfg, .tmPortStatus,
   .tmPortShaper, .tmDropCnt, .tmPortCnt, .tmQueueCfg, .tmQueueStatus, .faultRec, .faultCtl, .faultForce,
   .flipSel, .flipMaskLo, .flipMaskHi, .flipLast, .faultCnt, .scrubStatus, .repairStatus, .fnStatus,
   .fnIntStatus, .fnIntEnable]

/-- Registers by name, part 4. -/
def regNames4 : List RegId :=
  [.fnCnt, .adminSqBase, .adminCqBase, .adminCfg, .adminSqDb, .adminCqDb, .bootMboxAddr, .bootMboxCtl,
   .bootMboxStatus, .poolDb, .poolStatus, .chanCtl, .chanDb, .chanCqDb, .chanStatus, .qpSqDb, .qpCqDb]

/-- Every register name, in the order of the blocks. -/
def regNames : List RegId :=
  regNames0 ++ regNames1 ++ regNames2 ++ regNames3 ++ regNames4

/-- Byte address of a register for given indices: base plus index times stride (R458). -/
def dimAddr : List RegDim → List Nat → Nat
  | d :: ds, i :: is => i * d.stride + dimAddr ds is
  | _, _ => 0

/-- The key of a register in the store. -/
def regAddr (r : RegId) (ix : List Nat) : Nat :=
  (regDesc r).base + dimAddr (regDesc r).dims ix

/-- The indices an offset spells in an array of registers, none when it lies on no register of the array. -/
def dimIndex : List RegDim → Nat → Option (List Nat)
  | [], off => if off = 0 then some [] else none
  | d :: ds, off =>
    let i := off / d.stride
    if d.lo ≤ i ∧ i < d.lo + d.count then (dimIndex ds (off % d.stride)).map (i :: ·) else none

/-- Fault-source instances of block b (Table 20-1). -/
def faultInstance (b n : Nat) : Bool :=
  match b with
  | 7 => n < 21
  | 8 => n < 4
  | 9 => n < 5
  | 10 => n < 64
  | 11 => n < 16
  | 12 => n < 16
  | 13 => n < 28 || (32 ≤ n && n < 48)
  | 14 => n < 16
  | _ => b < 7 && n == 0

/-- A fault-register set of an instance that Table 20-1 does not list is unoccupied (R463). -/
def regExists (r : RegId) (ix : List Nat) : Bool :=
  match r with
  | .faultRec | .faultCtl | .faultForce | .flipSel | .flipMaskLo | .flipMaskHi | .flipLast | .faultCnt
  | .scrubStatus | .repairStatus => faultInstance (ix.getD 0 0) (ix.getD 1 0)
  | _ => true

/-- The register a byte address names, with its indices; none where no register lies. -/
def regAtIn (a : Nat) : List RegId → Option (RegId × List Nat)
  | [] => none
  | r :: rs =>
    if (regDesc r).base ≤ a then
      match dimIndex (regDesc r).dims (a - (regDesc r).base) with
      | some ix => if regExists r ix then some (r, ix) else regAtIn a rs
      | none => regAtIn a rs
    else regAtIn a rs

/-- The register at a byte address of the register space (R458). -/
def regAt (a : Nat) : Option (RegId × List Nat) := regAtIn a regNames

/-- Blocks of Table 20-1: base and size by identifier. -/
def blockRegion : Nat → Nat × Nat
  | 0 => (0x0, 0x1000) | 1 => (0x1000, 0x1000) | 2 => (0x2000, 0x1000) | 3 => (0x3000, 0x1000)
  | 4 => (0x4000, 0x1000) | 5 => (0x5000, 0x1000) | 6 => (0x8000, 0x4000) | 7 => (0x10000, 0x10000)
  | 8 => (0x20000, 0x4000) | 9 => (0x30000, 0x10000) | 10 => (0x40000, 0x40000) | 11 => (0x80000, 0x10000)
  | 12 => (0x90000, 0x10000) | 13 => (0xC0000, 0x40000) | 14 => (0x100000, 0x80000)
  | _ => (0, 0)

/-- The block whose region (or fault-register sets, R463) holds a byte address; none outside every region. -/
def blockOf (a : Nat) : Option Nat :=
  match (List.range 15).find? fun b => (blockRegion b).1 ≤ a && a < (blockRegion b).1 + (blockRegion b).2 with
  | some b => some b
  | none => if 0xC00000 ≤ a ∧ a < 0xC00000 + 0x4000 * 15 then some ((a - 0xC00000) / 0x4000) else none

/-- The reset value of a register. A register whose table gives none holds 0 (DESIGN CHOICE, log 2). INT_ROUTE
resets to VECTOR 1 + b (Table 20-3) and FN_QP_RANGE to BASE 64f, COUNT 64 (Table 14-13). -/
def regResetOf (r : RegId) (ix : List Nat) : W :=
  match r, ix with
  | .intRoute, [b] => BitVec.ofNat 64 (1 + b)
  | .fnQpRange, [f] => BitVec.ofNat 64 (64 * f * 65536 + 64)
  | r, _ => (regDesc r).reset

/-- The reset value at a store key: what an unlisted key of the register store reads as. -/
def regReset (a : Nat) : W :=
  match regAt a with
  | some (r, ix) => regResetOf r ix
  | none => 0

end Sys2Proof.Machine
end

