-- ==== Sys2Proof/Machine/State/Base.lean ====
section
/-! DEFINITION. State of the command interface (chapter 13), of interrupts (chapter 20), of the fault sources and
the check bits (chapter 17), and the part's outputs as an outside party sees them. -/

namespace Sys2Proof.Machine

/-- A reply (R286, Tables 13-3 and 13-4) on its way to the issuer. -/
structure Reply where
  src : Source
  w0 : W
  w1 : W
  result : List W
deriving DecidableEq, Repr

/-- A pending timed command (R294): the packet, its opcode, the frame start in Mast time (2^-16 ns) that its switch
tick is the boundary tick of, and its place in acceptance order; `own` for the Rigging commit of start-up stage 9, which nobody issued. -/
structure TimedCmd where
  cmd : Cmd
  opcode : Nat
  at16 : Int
  order : Nat
  own : Bool := false
deriving DecidableEq, Repr

/-- An event message in a subscriber's queue (R303). -/
structure EventMsg where
  code : Nat
  params : List W
  tag : Nat
  detail : Nat
deriving DecidableEq, Repr

/-- A subscriber's queue of events, its sequence number, the events discarded since the last one queued, and for INBAND the
address that its subscription came from. -/
structure Subscriber where
  mac : Nat := 0
  queue : List EventMsg := []
  seq : Nat := 0
  discarded : Nat := 0
deriving DecidableEq, Repr

/-- An outstanding relay (R304): the relay command, the inner header's word 0, port, elapsed tick of its timeout, whether the inner
command is timed, and whether the first remote reply has come. -/
structure Relay where
  id : Nat
  cmd : Cmd
  inner : W
  port : Nat
  dueTick : Nat
  timed : Bool
  answered : Bool
deriving DecidableEq, Repr

/-- Objects that a command names (R299): the kind, the object that holds them, and `count` of them from index `first` on. -/
structure ObjKey where
  kind : Nat
  obj : Nat
  first : Nat := 0
  count : Nat := 1
deriving DecidableEq, Repr

/-- A command seen at the intake in the present clock (R300): source, conflict keys, and whether it applied. -/
structure Intake where
  src : Source
  keys : List ObjKey
deriving DecidableEq, Repr

/-- A command that waits for its AUTO domain to leave its sleep (R347). -/
structure WaitingCmd where
  cmd : Cmd
  opcode : Nat
  domain : Nat
deriving DecidableEq, Repr

/-- An accepted command whose final reply is still to come: its packet, its opcode and the object it waits on. -/
structure OpenCmd where
  cmd : Cmd
  kind : Nat
  key : Nat
deriving DecidableEq, Repr

/-- The command interface. `version` and the queues are keyed by `srcKey`. `early` holds the commands of the queue that were taken
before their turn in it, since they came in the same clock as one of a source of higher code (R300). -/
structure CmdState where
  version : Tbl Nat := []
  timed : List TimedCmd := []
  nextOrder : Nat := 0
  intakeClock : Nat := 0
  intake : List Intake := []
  early : List Cmd := []
  route : Tbl (Option Source) := []
  subs : Tbl Subscriber := []
  relays : List Relay := []
  nextRelay : Nat := 0
  waiting : List WaitingCmd := []
  opened : List OpenCmd := []
  msixOff : List Nat := []
deriving DecidableEq, Repr

/-- A frame that leaves a port: the bytes, the Mast time of its message timestamp point in 2^-16 ns, and, for a frame that the port block
sends, the symbols of each lane, bits on NRZ lanes and levels on PAM4 lanes. -/
structure OutFrame where
  port : Nat
  bytes : List Byte
  at16 : Int
  aborted : Bool := false
  line : List (List Nat) := []
deriving DecidableEq, Repr

/-- A write of the device into host memory: function, host address, bytes; `poison` for the EP attribute, `relaxed` for Relaxed Ordering
(R324). -/
structure HostWrite where
  fn : Nat
  addr : Nat
  bytes : List Byte
  poison : Bool := false
  relaxed : Bool := false
deriving DecidableEq, Repr

/-- A signal to a host or to the board controller (R466, R325): MSI-X of a function, or the data byte of an I3C
in-band interrupt. -/
inductive Signal where
  | msix (fn vector : Nat)
  | ibi (byte : Nat)
deriving DecidableEq, Repr

/-- An edge on an output pin: pin name by number (0 PPS_OUT, 1 SYNCE_CLK, 2 10 MHz, 3 outputs enabled or floating,
4 THERM_TRIP_N, 16 + i output i of SYNCE_CLK), the new
level, the elapsed tick. -/
structure Edge where
  pin : Nat
  level : Bool
  tick : Nat
  note : Nat := 0
deriving DecidableEq, Repr

/-- What has left the part, in order, and `mgmtTx`: the frames that the management controller has sent to a port and that still wait
at the injection input of the port's Tile. -/
structure Out where
  replies : List Reply := []
  mgmtTx : List (Nat × List Byte) := []
  frames : List OutFrame := []
  linkMsgs : List (Nat × List Byte) := []
  hostWrites : List HostWrite := []
  signals : List Signal := []
  tod : List (List Byte) := []
  edges : List Edge := []
  avs : List (Nat × Nat) := []
  readData : List W := []
deriving DecidableEq, Repr

/-- A fault source (R402 to R412): record words, VALID, FAULT_PENDING, SEQ, counters are registers; here the record,
armed force bits with their memory, and armed flip-masks by memory code; the scrubbers' positions and the ticks at which their
passes began, by memory code. -/
structure FaultSrc where
  valid : Bool := false
  w0 : W := 0
  w1 : W := 0
  w2 : W := 0
  w3 : W := 0
  seq : Nat := 0
  pending : Bool := false
  denied : Bool := false
  forced : Nat := 0
  forceMem : Nat := 0
  flips : Tbl Nat := []
  flipDone : Bool := false
  flipMem : Nat := 0
  flipAddr : Nat := 0
  posted : Bool := true
  scrubPos : Tbl Nat := []
  scrubStart : Tbl Nat := []
  scrubPasses : Nat := 0
  scrubLate : Bool := false
deriving DecidableEq, Repr

/-- Fault reporting: sources by 64 * block + instance; error patterns of stored words by
(source, memory, address) packed into a key (R394: the syndrome is linear in the flipped bits); the address of the last word that took
a flip-mask, by key. -/
structure FaultState where
  srcs : Tbl FaultSrc := []
  ecc : Tbl Nat := []
  flipped : List Nat := []
deriving DecidableEq, Repr

/-- The epoch registry (R413): epoch and CHANGED by object key. -/
structure EpochEntry where
  epoch : Nat := 0
  changed : Bool := false
deriving DecidableEq, Repr

end Sys2Proof.Machine
end

