-- ==== Sys2Proof/Machine/State/Boot.lean ====
section
/-! DEFINITION. State of start-up, resets and profiles (chapter 18). -/

namespace Sys2Proof.Machine

/-- A stored profile (R431): its image as words, and the slot epoch. An empty image: no profile stored. -/
structure ProfileSlot where
  image : List W := []
  epoch : Nat := 0
deriving DecidableEq, Repr

/-- Start-up, resets and profiles (Tables 18-8, 18-9). -/
structure Boot where
  stage : Nat := 1
  failStage : Nat := 0
  failCause : Nat := 0
  bootSrc : Nat := 0
  bfwSlot : Nat := 0
  folSlot : Nat := 0
  hookSlot : Nat := 0
  recovery : Bool := false
  boardRecBad : Bool := false
  ready : Bool := false
  bootSel : Nat := 0
  profileSel : Nat := 0
  warm : Bool := false
  slots : Tbl ProfileSlot := []
  running : List W := []
  staged : List W := []
  stepHeld : Bool := false
  activeProfile : Nat := 4
  activeEpoch : Nat := 0
  selectedBy : Nat := 0
  selected : Nat := 4
  profileFail : Nat := 0
  skipTime : Bool := false
  timeWaitTick : Nat := 0
  mboxWant : Nat := 0
  mboxResult : Nat := 0
  refoscFreq : Nat := 0
  imgBoot : Nat := 0
  imgFol : Nat := 0
deriving DecidableEq, Repr

end Sys2Proof.Machine
end

