-- ==== Sys2Proof/Machine/State/Hook.lean ====
section
/-! DEFINITION. State of the Hook-engine clusters (chapter 11). -/

namespace Sys2Proof.Machine

/-- An event in a dispatch queue: the record (Table 11-6) with its packet, its priority, whether it is a fixed event
of HARDWARE source, for Skein events the admission number that orders Stitches (R248), its place in arrival order, and whether a
forced swap queued it again ahead of its priority (R265). -/
structure HkEvent where
  w0 : W
  w1 : W := 0
  w2 : W := 0
  w3 : W := 0
  pkt : List Byte := []
  prio : Nat := 0
  hard : Bool := false
  order : Nat := 0
  seq : Nat := 0
  front : Bool := false
deriving DecidableEq, Repr

/-- A packet that the feed crossbar brought to a cluster: 0 sections, 1 a weight message, 2 a capture; the tick from which it
waits; of a packet whose sections a full dispatch queue holds up (R254), those not yet taken (Skein, Strand slot, section number) and
the Skeins for which it has been wrapped. -/
structure FeedItem where
  kind : Nat
  bytes : List Byte
  inPort : Nat
  w2 : W
  w3 : W
  rx16 : Int
  rxTick : Nat
  since : Nat
  left : Option (List (Nat × Nat × Nat)) := none
  sent : List Nat := []
deriving DecidableEq, Repr

/-- A vector operation in progress (R249): its microaddress, the register of its status, the status, COMMIT and ASYNC, whether it is
a Stitch (computed when the ordering unit lets it go), the MEM_UE that it ends with (cause word), MORE, and whether its routine
has been preempted since. -/
structure VecOp where
  pc : Nat
  dreg : Nat
  status : W72
  commit : Bool
  async : Bool
  stitch : Bool := false
  ue : Option Nat := none
  more : Bool := false
  below : Bool := false
deriving DecidableEq, Repr

/-- A wait (R257): condition, operand, status register, the tick of its timeout, the occurrence that a STRAND wait watches, and the
payload or tag that satisfied it (a RIGGING post, a DMA completion), the TS_EPOCH of a step that ends it, and whether its channel was stopped. -/
structure WaitOn where
  cond : Nat
  arg : W
  dreg : Nat
  deadline : Option Nat := none
  watch : Option Int := none
  met : Option Nat := none
  disc : Option Nat := none
  gone : Bool := false
deriving DecidableEq, Repr

/-- A routine of an engine: its event, the dispatch entry's SERVICE, BUDGET and RESTART, bank, priority, whether its event has
committed, the clocks run up to the tick `since` (none: the count stands), whether WATCHDOG has fired, the wait and the link stack that a
trap or a preemption found (R259), whether a forced swap has settled its event (R265), whether it has executed a SEND, and of a preempted
routine the MEM_UE trap of its vector operation that waits (R258): cause, microaddress, MORE. -/
structure Routine where
  event : HkEvent
  bank : Nat
  service : Nat
  budget : Nat
  restart : Bool
  prio : Nat
  committed : Bool := false
  clocks : Nat := 0
  since : Option Nat := none
  barked : Bool := false
  wait : Option WaitOn := none
  links : List Nat := []
  settled : Bool := false
  sent : Bool := false
  trap : Option (Nat × Nat × Bool) := none
deriving DecidableEq, Repr

/-- A Hook engine: registers W1 to W31, flags, link stack (newest first), LOCAL (unlisted words read as 0, or as free values after
`lost`, the free-value counter when the engine last lost them), TXBUF, the next microaddress, its routine (none: idle), the
routine it preempted (R255), the class of the trap whose handler runs and the tick of the trap, its wait, a vector operation in
progress, signals set, a forced swap that waits (R264), failed, in self-test since a tick, busy clocks not yet counted. -/
structure Engine where
  regs : Tbl W72 := []
  z : Bool := false
  n : Bool := false
  c : Bool := false
  v : Bool := false
  links : List Nat := []
  scratch : Tbl (Option W72) := []
  lost : Option Nat := none
  txbuf : Tbl W72 := []
  pc : Nat := 0
  routine : Option Routine := none
  under : Option Routine := none
  handler : Option Nat := none
  trapTick : Nat := 0
  wait : Option WaitOn := none
  vec : Option VecOp := none
  signals : Nat := 0
  swap : Bool := false
  failed : Bool := false
  selftest : Option Nat := none
  busy : Nat := 0
deriving DecidableEq, Repr

/-- A service share whose engine failed (R268): service, share, old engine, the tick of the fault. -/
structure ShareWait where
  service : Nat
  share : Nat
  old : Nat
  tick : Nat
deriving DecidableEq, Repr

/-- A cluster: dispatch table by 256 * bank + entry, active bank, dispatch queue in arrival order with the next arrival number,
control stores by 16384 * bank + word, image epoch, version and words of each bank, service entries by 16 * bank + service, share map by
4 * service + share, cluster memory, feed input, the draining bank with its switch tick, engines by number, the share moves that
wait, the last engine fault (HK_FAULT [7:0]) and the faults since reset; of the export service, by Tile, EXPORT_SEQ and the postcards
dropped since the last message (R281). -/
structure Cluster where
  disp : Tbl W := []
  active : Nat := 0
  queue : List HkEvent := []
  nextSeq : Nat := 0
  store : Tbl W72 := []
  epochs : Tbl Nat := []
  versions : Tbl Nat := []
  words : Tbl Nat := []
  services : Tbl W := []
  shares : Tbl Nat := []
  mem : Tbl W72 := []
  feed : List FeedItem := []
  draining : Option Nat := none
  drainTick : Nat := 0
  engines : Tbl Engine := []
  moves : List ShareWait := []
  lastFault : Nat := 0
  faults : Nat := 0
  exportSeq : Tbl Nat := []
  cardDrops : Tbl Nat := []
deriving DecidableEq, Repr

/-- The Hook engines. -/
structure Hook where
  clusters : Tbl Cluster := []
deriving DecidableEq, Repr

end Sys2Proof.Machine
end

