-- ==== Sys2Proof/Machine/State/Host.lean ====
section
/-! DEFINITION. State of the host side (chapter 14): admin queues, queue pairs, DMA channels, buffer pools, the share table. -/

namespace Sys2Proof.Machine

/-- A host-filled ring (R310 to R312): base address, log2 of its entries, H, D, and the tick of a break after which it rescans. -/
structure HRing where
  base : Nat := 0
  log : Nat := 0
  h : Nat := 0
  d : Nat := 0
  miss : Option Nat := none
deriving DecidableEq, Repr

/-- A completion ring (R314, R325): base address, log2 of its entries, index of the next entry, index up to which the host has
consumed; for a CQ armed, the ticks at which its unsignalled entries were written, oldest first, COAL_COUNT, COAL_TIME and MSIX; entries
that wait for space (word 0 without PHASE). -/
structure CRing where
  base : Nat := 0
  log : Nat := 0
  tail : Nat := 0
  head : Nat := 0
  armed : Bool := true
  unsig : List Nat := []
  count : Nat := 1
  time : Nat := 0
  vector : Nat := 0
  waiting : List (List W) := []
deriving DecidableEq, Repr

/-- A chain of descriptors or jobs with their ring indices, oldest first, and the status of Table 14-9 found so far. -/
structure Chain where
  items : List (Nat × List W) := []
  status : Nat := 0
deriving DecidableEq, Repr

/-- A queue pair (R316): its rings, POOL_MASK, the chain being taken, chains ready, the chains that enter their Tiles, oldest first, each
with the frame's bytes; in legacy mode WEIGHT, BURST and ENABLE (R326), and the credit of R327. -/
structure QPair where
  live : Bool := false
  sq : HRing := {}
  cq : CRing := {}
  pools : Nat := 0
  taking : Option Chain := none
  ready : List Chain := []
  running : List (Chain × List Byte) := []
  weight : Nat := 1
  burst : Nat := 1
  enable : Bool := true
  credit : Nat := 0
deriving DecidableEq, Repr

/-- A DMA channel (R328): enabled, configured, its rings, the chain being taken, chains ready, the chain that runs with the bytes
its host reads returned, completed jobs and bytes moved; `stopped` is the free-value counter of the last stop while CHAN_STATUS counts
are undefined (R330). -/
structure Chan where
  enabled : Bool := false
  config : Bool := false
  ring : HRing := {}
  cq : CRing := {}
  taking : Option Chain := none
  ready : List Chain := []
  running : Option (Chain × List Byte) := none
  jobs : Nat := 0
  bytes : Nat := 0
  stopped : Option Nat := none
deriving DecidableEq, Repr

/-- A buffer pool (Table 14-11): size as log2, base, count, free ring, ENABLE, the cache oldest first. -/
structure Pool where
  size : Nat := 8
  base : Nat := 0
  count : Nat := 0
  ring : HRing := {}
  enabled : Bool := false
  cache : List Nat := []
deriving DecidableEq, Repr

/-- An entry of the share table (R333): the requesters of its references (4,096 + channel, or queue pair), LAST_OWNER, and
whether the owner's RETURN waits for the count to reach zero. -/
structure Share where
  addr : Nat
  refs : List Nat
  owner : Nat
  ret : Bool := false
deriving DecidableEq, Repr

/-- A function: its admin queue, ENABLE, MODE, STATE_LOST, the commands that the admin ring waits with, turns of its queue pairs
(R323, R327: the next queue pair and what is left of a burst), the deficit of its transmit bandwidth. -/
structure Fn where
  enabled : Bool := false
  sq : HRing := {}
  cq : CRing := {}
  legacy : Bool := false
  lost : Bool := false
  next : Nat := 0
  burst : Nat := 0
  deficit : Nat := 0
deriving DecidableEq, Repr

/-- The host side: functions, queue pairs, channels, pools, share table, the function whose turn it is. -/
structure HostSide where
  fns : Tbl Fn := []
  qps : Tbl QPair := []
  chans : Tbl Chan := []
  pools : Tbl Pool := []
  shares : List Share := []
  turn : Nat := 0
  onTurn : Bool := false
deriving DecidableEq, Repr

end Sys2Proof.Machine
end

