-- ==== Sys2Proof/Machine/State/Mast.lean ====
section
/-! DEFINITION. State of the Mast clock (chapter 2) and of the Rigging (chapter 3). -/

namespace Sys2Proof.Machine

/-- Mast time in the format of Table 2-1, with the hidden 32-bit sub-fraction register of R16/R17. -/
structure MTime where
  sec : Nat := 0
  ns : Nat := 0
  frac : Nat := 0
  sub : Nat := 0
deriving DecidableEq, Repr

/-- A time replica (R11, R17). -/
structure Replica where
  t : MTime := {}
deriving DecidableEq, Repr

/-- The counters of Mast time: the master and the 20 replicas (Tiles 0-15, then clusters 0-3). -/
structure TimeState where
  master : MTime := {}
  replicas : List Replica := List.replicate 20 {}
deriving DecidableEq, Repr

/-- Servo states of Table 2-6. -/
inductive ServoState where
  | freerun | acquire | locked | holdover | stepPending
deriving DecidableEq, Repr

/-- The 30 words of MAST_CONFIG (Table 2-5 in the coding of Table 2-14), at their defaults. -/
structure MastParams where
  servoSrc : Nat := 0
  freqSrc : Nat := 0
  kpM : Nat := 19333
  kpSh : Nat := 12
  kiM : Nat := 8690
  kiSh : Nat := 16
  lockThresh : Nat := 50
  lockCount : Nat := 16
  outlierLimit : Nat := 500
  outlierRun : Nat := 4
  sampleTimeout : Nat := 16
  stepThreshold : Nat := 1000
  stepEn : Nat := 0
  stepConfirm : Nat := 4
  stepAgree : Nat := 100
  slewMax : Nat := 50
  hoAvgWin : Nat := 128
  oscClass : Nat := 1
  hoSpec : Nat := 1500
  teBase : Nat := 10
  servoDomain : Nat := 0
  freqInit : Int := 0
  hoY0 : Nat := 0
  hoD : Nat := 0
  ppsOutComp : Int := 0
  ppsWidth : Nat := 100000
  ppsInDelay : Nat := 0
  todInEn : Nat := 0
  todBaud : Nat := 2
  todDelay : Nat := 10
deriving DecidableEq, Repr

/-- The servo (chapter 2, "The servo"). -/
structure Servo where
  state : ServoState := .freerun
  integ : Int := 0
  freqAdj : Int := 0
  everAccepted : Bool := false
  lockRun : Nat := 0
  rejects : Nat := 0
  lastAccept : Nat := 0
  window : List Int := []
  lastE : List Int := []
  sinceLeft : Nat := 0
  delta : Int := 0
  heldClass : Nat := 248
  hoEntryTick : Nat := 0
  hoEntrySum : Int := 0
  hoEntryCnt : Nat := 0
  lockedSegs : List (Int × Nat) := []
  lockedTotal : Nat := 0
deriving DecidableEq, Repr

/-- A stretch of ticks at one increment: the elapsed tick it starts at, Mast time there in units of 2^-48 ns, and
the increment in those units. The extrapolation of R12 and R53 reads them. -/
structure RateSeg where
  start : Nat
  at48 : Int
  inc : Int
deriving DecidableEq, Repr

/-- An edge of PPS_IN that waits for its ToD label (R36): its time in 2^-16 ns and the elapsed tick. -/
structure PpsEdge where
  time16 : Int
  tick : Nat
deriving DecidableEq, Repr

/-- One SYNCE_CLK output (R41): the elapsed tick until which it is held low after a source change, and squelch. -/
structure SyncEOut where
  holdUntil : Nat := 0
  squelched : Bool := true
deriving DecidableEq, Repr

/-- Per-port transmit-timestamp queue: entries (word 0, word 1) oldest first (Tables 2-3, 2-4); `head` is the slot of the
oldest. -/
structure TxTs where
  head : Nat := 0
  entries : List (W × W) := []
deriving DecidableEq, Repr

/-- What an Announce message that the boundary-clock service has been sent says (R470): the grandmaster's clockClass, currentUtcOffset
and the leap flags. -/
structure Announce where
  cls : Nat
  utc : Int
  leap61 : Bool
  leap59 : Bool
deriving DecidableEq, Repr

/-- The Mast clock apart from its counters. `tick` counts the time clock's ticks since power-on (elapsed time);
`running` from stage 4 of the start-up that follows a power-on or cold reset; `ppsComp` is the compensation of the last rising edge of
PPS_OUT; `announces` are Announce messages sent to the boundary-clock service, oldest first; `tenHigh` and `tenResume` are, after a step,
the tick at which a high half-cycle of the 10 MHz output ends and the new time of its next rising edge (R38). -/
structure Mast where
  tick : Nat := 0
  running : Bool := false
  rates : List RateSeg := []
  params : MastParams := {}
  servo : Servo := {}
  tsEpoch : Nat := 0
  timeValid : Bool := false
  refoscOk : Bool := false
  snap : MTime := {}
  freqValid : Bool := false
  freqMeasured : Int := 0
  ppsLevel : Bool := false
  ppsLast : Option Nat := none
  ppsFallAt : Option Nat := none
  ppsComp : Nat := 0
  ppsStepFlag : Bool := false
  ppsIntervalStep : Bool := false
  ppsSec : Nat := 0
  todDue : Option Nat := none
  ppsInOk : Bool := false
  ppsInLast : Nat := 0
  ppsInWaiting : List PpsEdge := []
  todInTick : Option Nat := none
  utcOffset : Int := 0
  leap61 : Bool := false
  leap59 : Bool := false
  parentClass : Nat := 248
  todClass : Nat := 248
  bcRunning : Bool := false
  announces : List Announce := []
  tenHigh : Option Nat := none
  tenResume : Option Int := none
  synce : List SyncEOut := List.replicate 4 {}
  txts : Tbl TxTs := []
deriving DecidableEq, Repr

/-- One air-interface timeline (Tables 3-2, 3-3, 3-5): descriptor words, eight special-slot formats, slot codes. -/
structure Timeline where
  w0 : W := 0
  w1 : W := 0
  formats : List Nat := []
  slots : List Nat := []
deriving DecidableEq, Repr

/-- An accepted TIMELINE_SET that waits for its frame boundary (R56): the new description, the tick of acceptance
and the earliest tick it may apply at (moved by a step). -/
structure TlPending where
  desc : Timeline
  accepted : Nat
  notBefore : Nat
deriving DecidableEq, Repr

/-- A Rigging bank: entries (word 0, word 1) and target sets of eight words (R57, R59). -/
structure RigBank where
  entries : Tbl (W × W) := []
  sets : Tbl (List W) := []
  epoch : Nat := 0
deriving DecidableEq, Repr

/-- An evaluated event on the event bus (R12): its bank, entry, anchor symbol and scheduled tick. -/
structure RigEvent where
  bank : Nat
  entry : Nat
  anchor : Int
  sched : Nat
deriving DecidableEq, Repr

/-- The frame count latched by a read of TL_POS for a timeline and a path (R73). -/
structure PosLatch where
  timeline : Nat
  path : Nat
  frame : Int
deriving DecidableEq, Repr

/-- The Rigging (chapter 3). -/
structure Rig where
  timelines : Tbl Timeline := []
  tlPending : Tbl (Option TlPending) := []
  bank0 : RigBank := {}
  bank1 : RigBank := {}
  active : Nat := 0
  evaluated : List RigEvent := []
  lastAnchor : Tbl (Option Int) := []
  symbol : Tbl (Option Int) := []
  stepTick : Option Nat := none
  notBefore : Nat := 0
  discTime : MTime := {}
  discEpoch : Nat := 0
  discDelta : Int := 0
  posLatch : List PosLatch := []
deriving DecidableEq, Repr

end Sys2Proof.Machine
end

