-- ==== Sys2Proof/Machine/State/Packet.lean ====
section
/-! DEFINITION. State of the packet path: the pipeline's and the forwarding tables of each Tile (chapters 5 and 6), the
buffer slices, the crossbar and the resequencers (chapter 7), the traffic managers (chapter 8), telemetry (chapter 12). -/

namespace Sys2Proof.Machine

/-- A packet inside the part: bytes from the DMAC without FCS, and its metadata (R21, R122, R270). `queue` is the egress
queue 0 to 15, `eport` the egress port, `route` the DMAC and router MAC index that a route hit writes (R152), `met` the
METADATA key field of the next pass; `flags` are the PARSE_FLAGS, `cpu` the CPU code that chose a host queue pair, `cells` the cells that crossed
and whose pull credit the packet holds. `capture` marks a CPRI capture on a feed link (R95). -/
structure Pkt where
  bytes : List Byte := []
  inPort : Nat := 0
  tile : Nat := 0
  rx16 : Int := 0
  rxTick : Nat := 0
  tsEpoch : Nat := 0
  hold : Bool := false
  uncal : Bool := false
  second : Bool := false
  injected : Bool := false
  mirror : Bool := false
  macsec : Bool := false
  host : Bool := false
  hostTsId : Nat := 0
  mgmt : Bool := false
  met : Nat := 0
  queue : Nat := 0
  eport : Nat := 0
  ts : Option Nat := none
  encap : Nat := 0
  flow : Nat := 0
  yellow : Bool := false
  hash0 : Nat := 0
  ctl : Bool := false
  route : Option (Nat × Nat) := none
  occ : Nat := 0
  winClass : Nat := 3
  arrival : Int := 0
  plane : Nat := 15
  mark : Bool := false
  flags : Nat := 0
  cpu : Nat := 0
  cells : Nat := 0
  capture : Bool := false
deriving DecidableEq, Repr

/-- A policer (Table 5-11, R129): its parameters and its two buckets in units of 2^-15 byte. -/
structure Policer where
  mode : Nat := 0
  aware : Nat := 0
  cir : Nat := 0
  cbs : Nat := 0
  eir : Nat := 0
  ebs : Nat := 0
  lenAdj : Int := 0
  yellow : Nat := 0
  tc : Nat := 0
  te : Nat := 0
  last : Nat := 0
deriving DecidableEq, Repr

/-- An encapsulation entry (R125). -/
structure Encap where
  typ : Nat := 0
  tmpl : List Byte := []
deriving DecidableEq, Repr

/-- A request in a learn queue (R138, R142): 0 a learn, 1 a host write, 2 a host delete; the two words in the layout of
Tables 6-1 and 6-2 hold the key and the port. -/
structure LearnReq where
  kind : Nat
  w0 : W
  w1 : W
  tick : Nat
deriving DecidableEq, Repr

/-- A flush in progress (R142). -/
structure Flush where
  byPort : Bool
  byVid : Bool
  port : Nat
  vid : Nat
  start : Nat
deriving DecidableEq, Repr

/-- A reseed in progress (R147): the new seed and epoch, the image by entry, the start tick, the sets written so far. -/
structure Reseed where
  seed : Nat
  epoch : Nat
  image : Tbl (W × W)
  start : Nat
  written : Nat := 0
deriving DecidableEq, Repr

/-- A postcard (Table 12-5) with its collector and the tick at which it entered the FIFO. -/
structure Postcard where
  collector : Nat
  bytes : List Byte
  tick : Nat
deriving DecidableEq, Repr

/-- The tables and queues of one Tile. Route words are keyed by structure code * 2^32 + word address. -/
structure TileState where
  rules : Tbl (List W) := []
  hits : Tbl Nat := []
  staged : Bool := false
  active : Nat := 0
  stage : List W := List.replicate 8 0
  policers : Tbl Policer := []
  indir : Tbl W := []
  encap : Tbl Encap := []
  l2 : Tbl (W × W) := []
  l2Seed : Nat := 0
  l2Epoch : Nat := 0
  rehash : Bool := false
  learnQ : List LearnReq := []
  filter : List (W × W) := []
  lastLearn : Nat := 0
  sweepPos : Nat := 0
  sweepTick : Nat := 0
  flush : Option Flush := none
  reseed : Option Reseed := none
  lpm : Tbl W := []
  lpmEpoch : Nat := 0
  lpmValid : Bool := false
  emSeed : Nat := 0
  floodSets : Tbl (List W) := []
  vlanFlood : Tbl Nat := []
  recirc : List (Nat × Pkt) := []
  inject : List (Nat × Pkt) := []
  feed : List Pkt := []
  hostRx : List Pkt := []
  egress : List Pkt := []
  credit : Nat := 0
  lfsr : Nat := 0xACE1
  postcards : List Postcard := []
  samples : List Nat := List.replicate 8 0
deriving DecidableEq, Repr

/-- A reference to a stored packet in a virtual output queue or in a list of pulled packets: the packet, the cells it
sends, the length it sends, how many cells it has launched, the ECN mark and the OCC of its record. -/
structure Ref where
  id : Nat
  port : Nat
  queue : Nat
  cells : Nat
  len : Nat
  mirror : Bool
  next : Nat := 0
  mark : Bool := false
  occ : Nat := 0
deriving DecidableEq, Repr

/-- A stored packet: its chain of cells with, for each, whether it came from the reserve pool and how many references
have still to launch it. `first` is the queue whose U_s the reserve cells count in; `poison` marks a packet
in which the scrubber met an uncorrectable word (R397). -/
structure Stored where
  pkt : Pkt := {}
  cells : List (Nat × Bool × Nat) := []
  first : Nat := 0
  poison : Bool := false
deriving DecidableEq, Repr

/-- A buffer slice: stored packets, virtual output queues by queue index 16 * port + queue, pulled packets by
4 * egress Tile + class, leaked cells, those leaked when the running audit pass began, the candidates of the last pass,
the cells already reported. -/
structure Slice where
  stored : Tbl Stored := []
  voq : Tbl (List Ref) := []
  pulled : Tbl (List Ref) := []
  leaked : List Nat := []
  snap : List Nat := []
  cands : List Nat := []
  reported : List Nat := []
  passStart : Option Nat := none
  passes : Nat := 0
  nextPass : Nat := 0
  diff : Int := 0
  firstLeak : Nat := 0
deriving DecidableEq, Repr

/-- A pull on its way to a slice (R163, R189). -/
structure Pull where
  slice : Nat
  ref : Ref
  discard : Bool
deriving DecidableEq, Repr

/-- A cell on a plane or held in a resequencer (Table 7-1). `meta` is the packet's metadata, carried by the FIRST cell. -/
structure Cell where
  src : Nat
  dst : Nat
  cls : Nat
  seq : Nat
  pktSeq : Nat
  first : Bool
  last : Bool
  port : Nat
  data : List Byte
  md : Pkt
  plane : Nat
  arrive : Nat
deriving DecidableEq, Repr

/-- A plane: fault, cause of the last fault, the tick at which the heartbeat windows before readmission began, the cause of a fault that
has been detected and is declared at the next window boundary (0: none), and the ticks of the uncorrectable headers of the last 1 ms. -/
structure Plane where
  fault : Bool := false
  cause : Nat := 0
  windows : Option Nat := none
  detected : Nat := 0
  hdrErrs : List Nat := []
deriving DecidableEq, Repr

/-- A resequencer stream (R168). -/
structure Stream where
  e : Nat := 0
  p : Nat := 0
  gap : Bool := false
  held : List (Nat × Cell) := []
  open_ : List Byte := []
  md : Option Pkt := none
  openCells : Nat := 0
deriving DecidableEq, Repr

/-- The crossbar: planes, pointers (none: at their reset value), requests of the last window by slice and the planes that they went to,
accepts for the next window (plane, slice, Tile), SEQ and PKT_SEQ by stream, cells in flight, lost cells (stream, SEQ, port, the
timestamp identifier of the packet that the cell opens). Streams
are keyed by 64 * egress Tile + 4 * source + class. -/
structure Xbar where
  planes : Tbl Plane := []
  g : Tbl (Option Nat) := []
  a : Tbl (Option Nat) := []
  requests : List (List Nat) := []
  asked : List Nat := []
  accepts : List (Nat × Nat × Nat) := []
  seq : Tbl Nat := []
  pktSeq : Tbl Nat := []
  flight : List Cell := []
  lost : List (Nat × Nat × Nat × Option Nat) := []
  streams : Tbl Stream := []
  window : Nat := 0
  qd : Tbl Nat := []
  fd : Nat := 16 * 96256
deriving DecidableEq, Repr

/-- A shaper (R191). -/
structure Shaper where
  en : Bool := false
  cir : Nat := 0
  cbs : Nat := 0
  eir : Nat := 0
  ebs : Nat := 0
  ctok : Int := 0
  etok : Int := 0
  last : Nat := 0
deriving DecidableEq, Repr

/-- An egress queue of the traffic manager: `shaperNext` is a shaper that a SHAPER_SET set for a tick still to come
(R193). -/
structure TmQueue where
  cfg : W := 0x0020000000000000
  gate : Bool := true
  deficit : Nat := 0
  profile : Nat := 0
  shaper : Shaper := {}
  shaperNext : Option Shaper := none
  rr : Nat := 0
  pulled : Nat := 0
  bytes : Nat := 0
  marked : Nat := 0
  discarded : Nat := 0
deriving DecidableEq, Repr

/-- An egress port of the traffic manager: `out` is its pull credit in use, `shaperNext` as for a queue. -/
structure TmPort where
  cfg : W := 0x0140000000000000
  rr : Nat := 0
  onTurn : Bool := false
  shaper : Shaper := {}
  shaperNext : Option Shaper := none
  out : Nat := 0
  pullLimit : Nat := 0
deriving DecidableEq, Repr

/-- Turns of an octal (R184): the port of the last turn, the tick of the last selections and how many it had. -/
structure OctTurn where
  last : Nat := 7
  tick : Nat := 0
  count : Nat := 0
deriving DecidableEq, Repr

/-- Telemetry (chapter 12): latency histograms by 8 * Tile + class, window histograms by 8 * Tile + timeline (bins as
keys of the inner table; bin 255 holds LAT_MAX), HIST_RESET. -/
structure Telem where
  lat : Tbl (Tbl Nat) := []
  win : Tbl (Tbl Nat) := []
  histReset : Bool := false
deriving DecidableEq, Repr

/-- The packet path of the part. -/
structure Packets where
  tiles : Tbl TileState := []
  cpu : Tbl W := []
  slices : Tbl Slice := []
  pulls : List Pull := []
  xbar : Xbar := {}
  queues : Tbl TmQueue := []
  tports : Tbl TmPort := []
  turns : Tbl OctTurn := []
  telem : Telem := {}
deriving DecidableEq, Repr

end Sys2Proof.Machine
end

