-- ==== Sys2Proof/Machine/State/Port.lean ====
section
/-! DEFINITION. State of the lanes and ports (chapter 4) and of the timestamp units (chapter 2). -/

namespace Sys2Proof.Machine

/-- A lane (Tables 4-1, 4-11, 4-14). `stage` is 1 to 4 while bring-up runs on the lane and 5 when stage 4 is complete.
Wake bookkeeping: W of the last scheduled wake of each direction, the ticks of the wake sequence, and the end of a WAKE_REQ burst. -/
structure Lane where
  sig : Bool := false
  sigTick : Nat := 0
  sigLost : Option Nat := none
  cdr : Bool := false
  aligned : Bool := false
  inverted : Bool := false
  txPre : Bool := false
  rxPre : Bool := false
  mode : Nat := 0
  stage : Nat := 1
  txDoze : Nat := 0
  rxDoze : Nat := 0
  rxDozeTick : Nat := 0
  txSleepDue : Nat := 0
  uncal : Bool := true
  dvarRx : Nat := 0
  dvarTx : Nat := 0
  guard : Nat := 200
  guardCeil : Nat := 1600
  suspended : Bool := false
  missRun : Nat := 0
  wakeRx : Nat := 0
  wakeTx : Nat := 0
  wakeG : Nat := 200
  txDozeTick : Nat := 0
  window : Nat := 0
  seqTx : Option Nat := none
  seqRx : Option Nat := none
  reqUntil : Option Nat := none
  burstUntil : Option Nat := none
deriving DecidableEq, Repr

/-- A frame that the port block is sending: bytes without FCS, the
identifier of its timestamp action, its receive time and epoch for the transparent clock, and the tick in which the egress pipeline handed
over its first byte (R272). -/
structure TxFrame where
  bytes : List Byte := []
  tsId : Option Nat := none
  rx16 : Int := 0
  rxEpoch : Nat := 0
  rxKnown : Bool := false
  handTick : Nat := 0
deriving DecidableEq, Repr

/-- A port by its lowest lane. The first part is the profile's port entry (Table 18-5), then what PORT_ADMIN and
LANE_DOZE_CONFIG set, what the running attempt took, bring-up, the Hello, Topsail and CPRI: captures and control words to send, the group
code of transmit and of receive captures, the protocol version of the start-up, the pointer of fast C&M and the alarms last received. -/
structure Port where
  formed : Bool := false
  entry : W := 0
  adminUp : Bool := false
  rxInvert : Nat := 0
  trainTimer : Nat := 0
  fallback : Bool := false
  schedDoze : Bool := false
  lpiEn : Bool := false
  linkDelay : Nat := 0
  curInvert : Nat := 0
  curTimer : Nat := 0
  curFallback : Bool := false
  state : Nat := 0
  stage : Nat := 0
  cause : Nat := 0
  backoff : Nat := 0
  topsail : Bool := false
  ver : Nat := 0
  missing : Nat := 0
  laneMap : List Nat := []
  skew : List Nat := []
  startTick : Nat := 0
  absentTick : Nat := 0
  absentLow : Bool := false
  upTick : Nat := 0
  helloTick : Nat := 0
  helloSeq : Nat := 0
  partnerCaps : Nat := 0
  partnerDev : Nat := 0
  partnerEpoch : Nat := 0
  goSent : Option Nat := none
  goRx : Option Nat := none
  idleTick : Option Nat := none
  topsailFails : Nat := 0
  topsailEnded : Bool := false
  epochOld : Bool := false
  epochDue : Option Nat := none
  macsec : Bool := false
  inFlight : Option TxFrame := none
  txBusy16 : Int := 0
  cpriTx : List (Nat × List Byte) := []
  cpriCtrl : List Byte := []
  cpriNext : Option Int := none
  cpriGroup : Nat := 0
  cpriTimeline : Nat := 0
  cpriOffset : Int := 0
  cpriRxGroup : Nat := 0
  cpriVersion : Nat := 1
  cmPointer : Nat := 20
  cpriAlarms : Nat := 0
deriving DecidableEq, Repr

/-- The lanes and ports of the part. -/
structure Ports where
  lanes : Tbl Lane := []
  ports : Tbl Port := []
deriving DecidableEq, Repr

end Sys2Proof.Machine
end

