-- ==== Sys2Proof/Machine/State/Power.lean ====
section
/-! DEFINITION. State of power control, operating points, cell sleep and live insertion (chapters 15 and 19). -/

namespace Sys2Proof.Machine

/-- The filler controller of a domain (R359, R360): kind (0 none, 1 PREWARM, 2 RAMP_DOWN), the profile in force, the LEVEL that it
works to, and the elapsed tick from which HOLD counts. -/
structure Filler where
  kind : Nat := 0
  profile : Nat := 0
  level : Nat := 0
  since : Nat := 0
deriving DecidableEq, Repr

/-- A stateful event recorded for a domain deeper than PS1 (R66): action code, timeline, target element, argument. -/
structure Recorded where
  action : Nat
  timeline : Nat
  element : Nat
  arg : Nat
deriving DecidableEq, Repr

/-- A power domain (Table 15-14, R340 to R351). FORCE: 0 AUTO, 1 + n forced PSn. `slots` holds one operating-point
slot per timeline, 0 empty, 1 + k entry k; `idleSince` the elapsed ticks from which the idle conditions of PS1 to PS4 have held. -/
structure Domain where
  state : Nat := 0
  exiting : Bool := false
  force : Nat := 0
  maxState : Nat := 1
  groupMask : Nat := 1
  idleHold : Nat := 100
  xbarLow : Nat := 30
  entries : Nat := 0
  idleSince : List Nat := List.replicate 4 0
  slots : List Nat := List.replicate 8 0
  recorded : List Recorded := []
  filler : Filler := {}
deriving DecidableEq, Repr

/-- An operating-point entry (Table 15-5). -/
structure OpEntry where
  vcore : Nat := 820
  freq : Nat := 1600
  serdes : Nat := 0
deriving DecidableEq, Repr

/-- Cell sleep of one timeline (R362 to R368, Table 15-15): STATE; the agreement number and frames; participants as a target set and
as masks of ports that have answered; frame starts in 2^-16 ns (`wakeAt` none: until a wake request); WAKE_NOTICE and WAKE_GRID in
frames, WAKE_LEAD in ticks. -/
structure CellSleep where
  state : Nat := 0
  agreement : Nat := 0
  sleepSfn : Nat := 0
  commitSfn : Nat := 0
  wakeSfn : Nat := 1024
  wakeFixed : Bool := false
  cause : Nat := 0
  accepts : Nat := 0
  answered : Nat := 0
  refused : Bool := false
  parts : List W := []
  sleepFrame : Int := 0
  commitFrame : Int := 0
  wakeAt : Option Int := none
  lead : Nat := 80000
  notice : Nat := 2
  grid : Nat := 1
  lastSend : Nat := 0
deriving DecidableEq, Repr

/-- A step of VDD_CORE in progress (R353, R354): from, to, phase (0 frame being sent, 1 slewing, 2 settling, 3 the hold frame of a
removal), and the elapsed ticks at which the phase begins and ends. -/
structure AvsStep where
  src : Nat
  dst : Nat
  phase : Nat
  start : Nat
  due : Nat
deriving DecidableEq, Repr

/-- The power controller (chapter 15) and the board's presence and supply pins (chapters 15, 19). `prefer` holds the preferred entry of
each phase; `history` is P in mW, newest first; `hot` while R451 holds the cap loop. Pins are levels:
`earlyN` high means that the board is not inserted. -/
structure Power where
  domains : Tbl Domain := []
  tolerance : Tbl Nat := []
  entries : Tbl OpEntry := []
  prefer : Tbl Nat := []
  cap : Nat := 1250
  history : List Nat := []
  ceil : Nat := 7
  throttle : Nat := 0
  lowRun : Nat := 0
  intervals : Nat := 0
  vcoreTarget : Nat := 820
  vcore : Nat := 820
  avs : Option AvsStep := none
  avsFault : Bool := false
  avsHold : Bool := false
  tileFreq : Tbl Nat := []
  tileFreqNext : Tbl (Option Nat) := []
  deviceForce : Nat := 0
  cellSleep : Tbl CellSleep := []
  didtCurrent : Nat := 0
  earlyN : Bool := false
  lateN : Bool := true
  pwrGood : Bool := true
  earlySince : Option Nat := none
  removing : Option Nat := none
  removed : Bool := false
  seatSince : Option Nat := none
  goodSince : Nat := 0
  glitch : Nat := 0
  floating : Bool := true
  mainPower : Bool := true
  hot : Bool := false
  thermTripN : Bool := true
  perstN : Bool := true
deriving DecidableEq, Repr

end Sys2Proof.Machine
end

