-- ==== Sys2Proof/Machine/State/Security.lean ====
section
/-! DEFINITION. State of security (chapter 16): lifecycle fuses, key sets, MACsec associations, the Sail locker, the debug
level, a running zeroization. -/

namespace Sys2Proof.Machine

/-- A secure association (Table 16-5): SCI, SSCI, salt, next or lowest packet number, key words. -/
structure Sa where
  sci : W := 0
  ssci : Nat := 0
  salt : Nat := 0
  pn : Nat := 0
  key : List W := []
deriving DecidableEq, Repr

/-- A live debug challenge (R387): its source, level, nonce, MONO_COUNT, the tick it was drawn; whether an OPEN has used it (R388). -/
structure Challenge where
  src : Source
  level : Nat
  nonce : List W
  mono : Nat
  tick : Nat
  used : Bool := false
deriving DecidableEq, Repr

/-- What the debug port reports of its last DBG_ACCESS (Table 16-11): BUSY while a domain leaves PS2, DOMAIN_OFF in PS3 and PS4. -/
structure TapStatus where
  busy : Bool := false
  domainOff : Bool := false
deriving DecidableEq, Repr

/-- A running zeroization (R390): its cause (0 OPEN, 1 ZEROIZE, 2 tamper, 3 advance to RETIRED), the level of an OPEN, the
domains woken for it, the forced ones among them with the state they stood in, tamper or removal during it. -/
structure Zeroizing where
  cause : Nat
  level : Nat := 0
  woken : List Nat := []
  forced : List (Nat × Nat) := []
  tampered : Bool := false
  removal : Bool := false
deriving DecidableEq, Repr

/-- The security block. Transmit associations by 4 * port + AN with the AN that transmits; receive associations by
32 * port + 4 * SC + AN; PTP keys by entry; KEK slots; the locker's records by number, the next one, LOW; key hashes fused as
six words each; revoked key indices by set (0 RILLEOC, 1 OWNER, 2 DEBUG) as masks; programmed floor slots by image type; the power
domains whose repair map in fuses fails its CRC (R400). -/
structure Security where
  lifecycle : Nat := 0
  level : Nat := 0
  ownerHash : List W := []
  debugHash : List W := []
  burned : List W := []
  revoked : Tbl Nat := []
  floors : Tbl (List Nat) := []
  floorFull : Bool := false
  badMaps : List Nat := []
  txSa : Tbl Sa := []
  txAn : Tbl (Option Nat) := []
  rxSa : Tbl Sa := []
  ptpKeys : Tbl (List W) := []
  kek : Tbl (List W) := []
  records : Tbl (List W) := []
  recHead : Nat := 0
  low : Nat := 0
  loss : Nat := 0
  suspect : Bool := false
  lockerLost : Bool := false
  tamper : Nat := 0
  challenge : Option Challenge := none
  staging : Tbl W := []
  zero : Option Zeroizing := none
  keysBlocked : Bool := false
  secFault : Bool := false
  tap : TapStatus := {}
deriving DecidableEq, Repr

end Sys2Proof.Machine
end

