-- ==== Sys2Proof/Machine/State/Skein.lean ====
section
/-! DEFINITION. State of the Skeins (chapter 9): descriptors, instances, Strand states, weight pages, the accumulator memory. -/

namespace Sys2Proof.Machine

/-- The state of a Strand (R217): 0 ACTIVE, 1 ABSENT, 2 PROBE; MISS_RUN; the occurrence awaited in PROBE; the first
occurrence from which a Strand that proved itself is ACTIVE. -/
structure StrandState where
  st : Nat := 0
  miss : Nat := 0
  await : Int := 0
  from_ : Option Int := none
deriving DecidableEq, Repr

/-- What an instance keeps of a Strand that has stitched a section: NEXT_PRB counted from START_PRB, GAP, the contributor bits
that it owns, the INCOMPLETE bits that its own sums carried. -/
structure Contrib where
  next : Nat := 0
  gap : Bool := false
  bits : Nat := 0
  incomplete : Nat := 0
deriving DecidableEq, Repr

/-- An admitted Stitch that has not completed: its admission number, Strand slot, first PRB and PRB count. -/
structure Outstanding where
  order : Nat
  slot : Nat
  first : Nat
  nprb : Nat
deriving DecidableEq, Repr

/-- An instance (R196): its place 0 or 1 in the footprint (2: no accumulators, an occurrence that no section opened), its
occurrence as a global symbol number of the timeline, the copies of words 1 and 2 and EPOCH taken at open, the weight page
it is bound to, Strands, flags, and from the close tick on the close source. `bad` are PRBs that a memory error touched. An instance that
an engine fault marked holds the tick of the fault, and the source and flag of a close that waits for the symbol boundary (R219). -/
structure Instance where
  ix : Nat
  occ : Int
  w1 : W
  w2 : W
  epoch : Nat
  page : Option Nat := none
  strands : Tbl Contrib := []
  carried : Nat := 0
  dup : Bool := false
  fault : Bool := false
  faultAt : Nat := 0
  deferred : Option (Nat × Bool) := none
  memErr : Bool := false
  bad : List Nat := []
  outstanding : List Outstanding := []
  trace : List (Nat × Nat × Nat) := []
  closing : Bool := false
  closeTick : Nat := 0
  closeSrc : Nat := 0
  noEvent : Bool := false
  disc : Bool := false
  hold : Bool := false
  posted : Bool := false
deriving DecidableEq, Repr

/-- The record of a close (R216): occurrence, close tick, word 1 of the copy taken at open, whether a section had opened it: else the
descriptor's current word 1 governs late sections of it. -/
structure Closed where
  occ : Int
  tick : Nat
  w1 : W
  opened : Bool := true
deriving DecidableEq, Repr

/-- A Skein: descriptor words 0 to 2 (HOME in word 0), EPOCH, its footprint, and what the cluster keeps for it. `w0` = 0: no
Skein. `pages` are the slots (global) that tag the weight pages. `unbound` from the acceptance of a Tack to its switch tick (R432). `since` is the first symbol whose occurrence can close with
no section. `floor16`: after a step, the start time from which sections are admitted, with tick S. -/
structure Skein where
  w0 : W := 0
  w1 : W := 0
  w2 : W := 0
  epoch : Nat := 0
  qbase : Nat := 0
  footprint : Nat := 0
  insts : List Instance := []
  page0 : Option Int := none
  page1 : Option Int := none
  strandSt : Tbl StrandState := []
  closed : List Closed := []
  since : Int := 0
  floor16 : Option (Int × Nat) := none
  destroying : Bool := false
  unbound : Bool := false
  move : Option (Nat × Nat) := none
  rehomeAfter : Option (Nat × W × W) := none
  seq : Nat := 0
  counts : Tbl Nat := []
  weightNone : Nat := 0
  inexact : Nat := 0
  sat : Nat := 0
deriving DecidableEq, Repr

/-- The Skeins of the part: descriptors by index, the Strand table, the memory quarters by 2^22 * quarter + word address,
output header templates (bytes from the DMAC to the last VLAN tag), the next admission number. -/
structure Skeins where
  descs : Tbl Skein := []
  strands : Tbl W := []
  quarter : Tbl W72 := []
  templates : Tbl (List Byte) := []
  nextOrder : Nat := 0
deriving DecidableEq, Repr

end Sys2Proof.Machine
end

