-- ==== Sys2Proof/Machine/State.lean ====
section
/-! DEFINITION. The state of the CF9512, plain data. Each part of it is a structure of the folder State/. -/

namespace Sys2Proof.Machine

/-- The whole state. `pending` is the queue of waiting commands; `regs` holds every register that has no other home,
by store key (Regs.lean); `freeCtr` is the model's own counter behind the free values of Config. -/
structure State where
  pending : List Instr := []
  time : TimeState := {}
  mast : Mast := {}
  rig : Rig := {}
  port : Ports := {}
  pk : Packets := {}
  hk : Hook := {}
  sk : Skeins := {}
  host : HostSide := {}
  cmd : CmdState := {}
  out : Out := {}
  flt : FaultState := {}
  epochs : Tbl EpochEntry := []
  regs : Tbl W := []
  power : Power := {}
  sec : Security := {}
  boot : Boot := {}
  deviceId : Nat := 0
  freeCtr : Nat := 0
deriving DecidableEq, Repr

/-- No command of the model stops the machine: this type has one constructor, which nothing raises (safe). -/
inductive Fault where
  /-- Raised by nothing. -/
  | none
deriving DecidableEq, Repr

/-- Reasons for which the model refuses a command. -/
inductive Refusal where
  /-- The command named by its mnemonic has no meaning yet. Raised by the dispatch only; safe. -/
  | notModelled (mnemonic : String)
deriving DecidableEq, Repr

/-- The machine right after power-on reset (R417): every field at the value the spec gives, or at the value that a
log entry names. The command queue is empty. -/
def State.reset : State := {}

end Sys2Proof.Machine
end

