-- ==== Sys2Proof/Machine/Time.lean ====
section
/-! DEFINITION. Mast time arithmetic (R16, R17, R12, R53) and the symbol arithmetic of a timeline (R51 to R53,
R475, R58). Instants are integers in units of 2^-16 ns (`16`) or 2^-48 ns (`48`). -/

namespace Sys2Proof.Machine

/-- One second in units of 2^-16 ns. -/
def sec16 : Int := 65536000000000

/-- One nanosecond in units of 2^-16 ns. -/
def ns16 : Int := 65536

/-- One millisecond in ticks of 1.25 ns. -/
def msTicks : Nat := 800000

/-- One microsecond in ticks. -/
def usTicks : Nat := 800

/-- One second in ticks. -/
def secTicks : Nat := 800000000

/-- The nominal increment 81,920 x 2^32 of R16, in units of 2^-48 ns. -/
def nominalInc : Int := 351843720888320

/-- Mast time in units of 2^-48 ns. -/
def MTime.to48 (t : MTime) : Int :=
  (((t.sec : Int) * 1000000000 + t.ns) * 65536 + t.frac) * 4294967296 + t.sub

/-- Mast time in units of 2^-16 ns (the 96-bit value as a count). -/
def MTime.to16 (t : MTime) : Int := ((t.sec : Int) * 1000000000 + t.ns) * 65536 + t.frac

/-- The Mast time a count of 2^-48 ns names: NS below 10^9, SECONDS modulo 2^48 (R16). -/
def MTime.of48 (x : Int) : MTime :=
  let u := x / 4294967296
  let n := u / 65536
  { sec := (n / 1000000000 % 281474976710656).toNat
    ns := (n % 1000000000).toNat
    frac := (u % 65536).toNat
    sub := (x % 4294967296).toNat }

/-- The Mast time a count of 2^-16 ns names. -/
def MTime.of16 (x : Int) : MTime := MTime.of48 (x * 4294967296)

/-- A time is legal when every field lies in its range (Table 2-1, R16). -/
def MTime.legal (t : MTime) : Bool :=
  t.sec < 281474976710656 && t.ns < 1000000000 && t.frac < 65536 && t.sub < 4294967296

/-- Bits [95:32] of a Mast time (Table 2-1). -/
def MTime.hi (t : MTime) : W := BitVec.ofNat 64 (t.sec * 65536 + t.ns / 65536)

/-- Bits [31:0] of a Mast time, placed in [63:32]. -/
def MTime.lo (t : MTime) : W := BitVec.ofNat 64 ((t.ns % 65536 * 65536 + t.frac) * 4294967296)

/-- Add a count of 2^-48 ns (R16). -/
def MTime.add48 (t : MTime) (d : Int) : MTime := MTime.of48 (t.to48 + d)

/-- The increment in force: nominal plus FREQ_ADJ (R16). -/
def State.inc48 (s : State) : Int := nominalInc + s.mast.servo.freqAdj

/-- Mast time now, in 2^-16 ns. -/
def State.now16 (s : State) : Int := s.time.master.to16

/-- The elapsed ticks. -/
def State.tick (s : State) : Nat := s.mast.tick

/-- Mast time at an elapsed tick of the past, by the recorded stretches of increments (newest first). -/
def rateAt (x : Int) : List RateSeg → Option Int
  | [] => none
  | [r] => some (r.at48 + (x - r.start) * r.inc)
  | r :: rs => if (r.start : Int) ≤ x then some (r.at48 + (x - r.start) * r.inc) else rateAt x rs

/-- Mast time at any elapsed tick, in 2^-48 ns: extrapolated at the present increment for the future (R12), by the
recorded stretches for the past. -/
def State.mastAt (s : State) (x : Int) : Int :=
  if (s.tick : Int) ≤ x then s.time.master.to48 + (x - s.tick) * s.inc48
  else (rateAt x s.mast.rates).getD (s.time.master.to48 + (x - s.tick) * s.inc48)

/-- The first tick at or after a stretch's start at which Mast time reaches b48 at increment inc. -/
def ceilDivI (a b : Int) : Int := -((-a) / b)

/-- The boundary tick in the past of an instant, by the recorded stretches (newest first). -/
def pastTick (b48 : Int) : List RateSeg → Option Int
  | [] => none
  | [r] => some (r.start + ceilDivI (b48 - r.at48) r.inc)
  | r :: rs => if r.at48 < b48 then some (r.start + ceilDivI (b48 - r.at48) r.inc) else pastTick b48 rs

/-- The boundary tick (R53) of an instant given in 2^-16 ns: the first tick in which Mast time is equal to or later
than it, as it stands now (R12). -/
def State.boundaryTick (s : State) (b16 : Int) : Int :=
  let b48 := b16 * 4294967296
  if s.time.master.to48 < b48 then s.tick + ceilDivI (b48 - s.time.master.to48) s.inc48
  else if s.time.master.to48 = b48 then
    (pastTick b48 s.mast.rates).getD (s.tick : Int)
  else (pastTick b48 s.mast.rates).getD (s.tick + ceilDivI (b48 - s.time.master.to48) s.inc48)

/-- Has Mast time reached an instant? -/
def State.reached (s : State) (b16 : Int) : Bool := b16 ≤ s.now16

/-- The timestamp holdover flag: servo in HOLDOVER or FREERUN, or REFOSC_OK clear (R42, R50). -/
def State.holdoverMark (s : State) : Bool :=
  s.mast.servo.state == .holdover || s.mast.servo.state == .freerun || !s.mast.refoscOk

/-! ### Timelines -/

/-- Timeline t. -/
def State.timeline (s : State) (t : Nat) : Timeline := tget {} s.rig.timelines t

/-- MODE of a timeline: 0 OFF, 1 ACTIVE, 2 IDLE (Table 3-2). -/
def Timeline.mode (d : Timeline) : Nat := fld d.w0 50 49

/-- A timeline is configured when its MODE is not OFF, whatever VALID says: DESIGN CHOICE (log 68), the spec names no effect of VALID = 0
beside another MODE. -/
def Timeline.configured (d : Timeline) : Bool := d.mode != 0

/-- Numerology. -/
def Timeline.mu (d : Timeline) : Nat := fld d.w0 62 60

/-- Extended cyclic prefix. -/
def Timeline.cpExt (d : Timeline) : Bool := bitAt d.w0 59

/-- FRAME_OFFSET, signed, in Tc. -/
def Timeline.frameOffset (d : Timeline) : Int := sgn 25 (fld d.w0 48 24)

/-- Symbols per slot (R52). -/
def Timeline.symsPerSlot (d : Timeline) : Nat := if d.cpExt then 12 else 14

/-- Slots per subframe. -/
def Timeline.slotsPerSub (d : Timeline) : Nat := if d.cpExt then 4 else 2 ^ d.mu

/-- Symbols per subframe. -/
def Timeline.symsPerSub (d : Timeline) : Nat := d.slotsPerSub * d.symsPerSlot

/-- Slots per frame. -/
def Timeline.slotsPerFrame (d : Timeline) : Nat := 10 * d.slotsPerSub

/-- Length of a pattern period in units of 0.125 ms (Table 3-4). -/
def periodLen : Nat → Nat
  | 1 => 4 | 2 => 5 | 3 => 8 | 4 => 10 | 5 => 16 | 6 => 20 | 7 => 24 | 8 => 32 | 9 => 40 | 10 => 80
  | _ => 0

/-- P1 and P2 codes. -/
def Timeline.p1 (d : Timeline) : Nat := fld d.w0 58 55
def Timeline.p2 (d : Timeline) : Nat := fld d.w0 54 51

/-- Slots in a period code at this numerology. -/
def Timeline.periodSlots (d : Timeline) (c : Nat) : Nat := periodLen c * d.slotsPerSub / 8

/-- Pattern slots in P1 + P2. -/
def Timeline.patternSlots (d : Timeline) : Nat := d.periodSlots d.p1 + d.periodSlots d.p2

/-- Start in Tc, within a subframe, of symbol l (R52). -/
def Timeline.symStart (d : Timeline) (l : Nat) : Nat :=
  if d.cpExt then l * 40960
  else l * (140288 / 2 ^ d.mu) + (if 0 < l then 1024 else 0) + (if 7 * 2 ^ d.mu < l then 1024 else 0)

/-- Boundary of global symbol n (counted from T0), in 2^-16 ns, truncated (R51, R53). -/
def Timeline.bound16 (d : Timeline) (n : Int) : Int :=
  let k := n / d.symsPerSub
  let l := (n % d.symsPerSub).toNat
  let tc := d.frameOffset + k * 1966080 + d.symStart l
  315964819 * sec16 + tc * (3125 * 65536) / 6144

/-- The first estimate of the symbol at an instant by the procedure before R475, as a global symbol number. -/
def Timeline.symEst (d : Timeline) (t16 : Int) : Int :=
  let e := (t16 - 315964819 * sec16) * 6144 / (3125 * 65536) - d.frameOffset
  let k := e / 1966080
  let q := (e % 1966080).toNat
  let l :=
    if d.cpExt then q / 40960
    else
      let len := 140288 / 2 ^ d.mu
      let half := q / 983040
      let qh := q % 983040
      let l0 := if qh < len + 1024 then 0 else 1 + (qh - len - 1024) / len
      half * (7 * 2 ^ d.mu) + l0
  k * d.symsPerSub + l

/-- The symbol an instant lies in: the latest whose computed boundary lies at or before it (R475). -/
def Timeline.symAt (d : Timeline) (t16 : Int) : Int :=
  let n := d.symEst t16
  if d.bound16 (n + 1) ≤ t16 then n + 1 else if d.bound16 n ≤ t16 then n else n - 1

/-- A position on a timeline: frame count, subframe, slot within the subframe, symbol, pattern slot. -/
structure Position where
  frame : Int
  subframe : Nat
  slot : Nat
  symbol : Nat
  pslot : Nat
deriving DecidableEq, Repr

/-- The position of a global symbol. -/
def Timeline.posOf (d : Timeline) (n : Int) : Position :=
  let g := n / d.symsPerSlot
  { frame := g / d.slotsPerFrame
    subframe := (g % d.slotsPerFrame).toNat / d.slotsPerSub
    slot := (g % d.slotsPerFrame).toNat % d.slotsPerSub
    symbol := (n % d.symsPerSlot).toNat
    pslot := (g % (2 * d.slotsPerFrame)).toNat % (max 1 d.patternSlots) }

/-- The global symbol of (frame, slot within the frame, symbol). -/
def Timeline.symOf (d : Timeline) (f : Int) (slot sym : Nat) : Int :=
  (f * d.slotsPerFrame + slot) * d.symsPerSlot + sym

/-- The symbol code of a symbol (Table 3-5): 0 D, 1 U, 2 F, 3 X. -/
def Timeline.symCode (d : Timeline) (pslot sym : Nat) : Nat :=
  let c := d.slots.getD pslot 3
  if c < 4 then c else nfld (d.formats.getD (c - 8) 0) (2 * sym + 1) (2 * sym)

/-- The phase at a position (R55): 0 DL, 1 UL, 2 GUARD, 3 IDLE. -/
def Timeline.phase (d : Timeline) (p : Position) : Nat :=
  if d.mode = 1 then d.symCode p.pslot p.symbol else 3

/-- The start of frame F in 2^-16 ns. -/
def Timeline.frame16 (d : Timeline) (f : Int) : Int := d.bound16 (f * (10 * d.symsPerSub))

/-- The frame that an instant lies in. -/
def Timeline.frameAt (d : Timeline) (t16 : Int) : Int := d.symAt t16 / (10 * d.symsPerSub)

/-- The SFN of a frame (R51). -/
def sfnOf (f : Int) : Nat := (f % 1024).toNat

/-- The first frame with a given SFN whose start lies at or after an instant. -/
def Timeline.nextFrame (d : Timeline) (sfn : Nat) (t16 : Int) : Int :=
  let f0 := d.frameAt t16
  let f := f0 + (sfn - f0) % 1024
  if d.frame16 f < t16 then f + 1024 else f

/-- The first frame whose start lies at or after an instant. -/
def Timeline.nextAny (d : Timeline) (t16 : Int) : Int :=
  let f0 := d.frameAt t16
  if d.frame16 f0 < t16 then f0 + 1 else f0

/-- The frame start of the switch tick (R63, R294): the next start of a frame with that SFN at least 1 ms after
now, in 2^-16 ns of Mast time. -/
def State.switch16 (s : State) (t sfn : Nat) : Int :=
  let d := s.timeline t
  let lim := s.mastAt ((s.tick : Int) + msTicks) / 4294967296
  let f := d.nextFrame sfn lim
  if (s.tick : Int) + msTicks ≤ s.boundaryTick (d.frame16 f) then d.frame16 f else d.frame16 (f + 1024)

/-! ### Rigging entries -/

/-- Fields of a Rigging entry (Tables 3-6, 3-7). -/
def entValid (e : W × W) : Bool := bitAt e.1 63
def entTimeline (e : W × W) : Nat := fld e.1 62 60
def entSlot (e : W × W) : Nat := fld e.1 59 49
def entSymbol (e : W × W) : Nat := fld e.1 48 45
def entAnchor (e : W × W) : Nat := fld e.1 44 44
def entOffset (e : W × W) : Int := sgn 21 (fld e.1 43 23)
def entMod (e : W × W) : Nat := fld e.1 22 19
def entPhase (e : W × W) : Nat := fld e.1 18 9
def entAction (e : W × W) : Nat := fld e.1 7 0
def entSet (e : W × W) : Nat := fld e.2 63 54
def entArg (e : W × W) : Nat := fld e.2 47 0

/-- The anchor symbol of an entry in global slot g: the symbol itself or the one after it (R58). -/
def entSym (d : Timeline) (e : W × W) (g : Int) : Int := g * d.symsPerSlot + entSymbol e + entAnchor e

/-- The scheduled tick of an entry's occurrence in global slot g (R58). -/
def State.entTick (s : State) (d : Timeline) (e : W × W) (g : Int) : Int :=
  s.boundaryTick (d.bound16 (entSym d e g)) + entOffset e

/-- The latest global slot of frame f, at or before slot gmax, whose pattern slot is the entry's. -/
def entIn (d : Timeline) (e : W × W) (f gmax : Int) : Option Int :=
  let p : Int := max 1 d.patternSlots
  let g1 := min gmax ((f + 1) * d.slotsPerFrame - 1)
  let g := g1 - (g1 - entSlot e) % p
  if f * d.slotsPerFrame ≤ g then some g else none

/-- The latest occurrence of an entry at or before global slot gmax that its frame mask admits (R58, R69): the
search looks back as far as FRAME_MOD requires. -/
def entLatest (d : Timeline) (e : W × W) (gmax : Int) : Option Int :=
  let m : Int := 2 ^ entMod e
  let f0 := gmax / d.slotsPerFrame
  let f := f0 - (f0 - entPhase e) % m
  match entIn d e f gmax with
  | some g => some g
  | none => match entIn d e (f - m) gmax with
    | some g => some g
    | none => entIn d e (f - 2 * m) gmax

/-- Does the frame mask admit the frame of global slot g? -/
def entFrameOk (d : Timeline) (e : W × W) (g : Int) : Bool :=
  (g / d.slotsPerFrame) % (2 ^ entMod e : Int) == (entPhase e : Int)

/-- The latest global slot whose anchor symbol's scheduled tick lies at or before tick x. -/
def State.entSlotBefore (s : State) (d : Timeline) (e : W × W) (x : Int) : Int :=
  let t16 := s.mastAt (x - entOffset e) / 4294967296
  let n := d.symAt t16
  (n - entSymbol e - entAnchor e) / d.symsPerSlot

end Sys2Proof.Machine
end

