-- ==== Sys2Proof/Machine/Ops.lean ====
section
/-! DEFINITION. The named operations over state that every family uses: how a command ends, free values, the register
store, block interrupts (R464 to R466), event messages (R303), fault records (R402 to R406), power domains as other
blocks see them (R345), the epoch registry (R413), and what leaves the part. -/

namespace Sys2Proof.Machine

/-- The part takes no action: PWR_GOOD is low or main power absent (R440, R441), REMOVED is set (R372), or a thermal trip stopped every
clock (R452). -/
def State.halted (s : State) : Bool :=
  s.power.removed || !s.power.thermTripN || !s.power.pwrGood || !s.power.mainPower

/-- A command ends: the next state is `t` with the queue that the command was taken from (`s` holds its rest). A halted part takes no
action. -/
def finish (s t : State) : Host.Outcome State Fault Refusal := if s.halted then .next s else .next { t with pending := s.pending }

/-- The counters of Mast time after a command that does not move them: as they were, or at 0 where a reset stopped the Mast clock
until stage 4 of the start-up (R17, Table 18-2). -/
def timeAfter (s t : State) : TimeState := if t.mast.running then s.time else {}

/-- A command that is no command of Mast time ends. A halted part takes no action. -/
def keep (s t : State) : Host.Outcome State Fault Refusal :=
  if s.halted then .next s else .next { t with pending := s.pending, time := timeAfter s t }

/-- As `keep`, for what the pins, the always-on domain and the Sail locker do even when the rest is halted. -/
def keepOn (s t : State) : Host.Outcome State Fault Refusal := .next { t with pending := s.pending, time := timeAfter s t }

/-- The counters of Mast time after a row that may carry a command MAST_SET_TIME (R19): as the row left them, every one legal. -/
def timeTaken (s t : State) : TimeState :=
  if t.mast.running && t.time.master.legal && t.time.replicas.length == s.time.replicas.length && t.time.replicas.all (fun r => r.t.legal)
  then t.time else timeAfter s t

/-- A row that may carry any command ends. A halted part takes no action. -/
def keepTaken (s t : State) : Host.Outcome State Fault Refusal :=
  if s.halted then .next s else .next { t with pending := s.pending, time := timeTaken s t }

/-- Do f when the condition holds. -/
def when (c : Bool) (f : State → State) (s : State) : State := if c then f s else s

/-- Take a free value: a word nobody may rely on, fresh at each call. -/
def takeFree (s : State) : W × State := (Config.freeWord s.freeCtr, { s with freeCtr := s.freeCtr + 1 })

/-- A free 72-bit word. -/
def free72 (s : State) : W72 × State :=
  let a := takeFree s
  let b := takeFree a.2
  (BitVec.ofNat 72 (a.1.toNat + 2 ^ 64 * b.1.toNat), b.2)

/-! ### The register store -/

/-- The stored value of a register. -/
def State.rg (s : State) (r : RegId) (ix : List Nat := []) : W := tget (regResetOf r ix) s.regs (regAddr r ix)

/-- Store a register. -/
def State.setRg (s : State) (r : RegId) (ix : List Nat) (v : W) : State :=
  { s with regs := tset (regResetOf r ix) s.regs (regAddr r ix) v }

/-- A field of a register. -/
def State.rgf (s : State) (r : RegId) (ix : List Nat) (hi lo : Nat) : Nat := fld (s.rg r ix) hi lo

/-- Set a field of a register. -/
def State.setRgf (s : State) (r : RegId) (ix : List Nat) (hi lo v : Nat) : State :=
  s.setRg r ix (ins (s.rg r ix) hi lo v)

/-- Count n in a field of a counter register, saturating. -/
def State.bump (s : State) (r : RegId) (ix : List Nat) (hi lo : Nat) (n : Nat := 1) : State :=
  s.setRgf r ix hi lo (satAdd (hi + 1 - lo) (s.rgf r ix hi lo) n)

/-! ### Power domains (Table 15-1) as seen by the other blocks -/

/-- Power domain d. -/
def State.domain (s : State) (d : Nat) : Domain := tget {} s.power.domains d

/-- Set power domain d. -/
def State.setDomain (s : State) (d : Nat) (v : Domain) : State :=
  { s with power := { s.power with domains := tset {} s.power.domains d v } }

/-- Domain numbers of Table 15-1. -/
def domTile (t : Nat) : Nat := t
def domSerdes (lane : Nat) : Nat := 16 + lane / 64
def domCluster (q : Nat) : Nat := 24 + q
def domQuarter (q : Nat) : Nat := 28 + q
def domXbar (p : Nat) : Nat := 32 + p / 6
def domMgmt : Nat := 34
def domMast : Nat := 35
def domPcie : Nat := 36
def domTelemetry : Nat := 37

/-- Is a domain no deeper than PS1? -/
def State.awake (s : State) (d : Nat) : Bool := (s.domain d).state ≤ 1

/-- Exit latency in ns of a domain from a state (Table 15-1); none where the state does not exist for it. -/
def exitLatency (d st : Nat) : Option Nat :=
  match (if d < 16 then 0 else if d < 24 then 1 else if d < 28 then 2 else if d < 32 then 3 else if d < 34 then 4
         else d - 29), st with
  | _, 0 => some 0
  | 0, 1 => some 200 | 0, 2 => some 20000 | 0, 3 => some 40000000 | 0, 4 => some 3000000000
  | 1, 1 => some 250 | 1, 2 => some 24000 | 1, 3 => some 45000000 | 1, 4 => some 3000000000
  | 2, 1 => some 100 | 2, 2 => some 15000 | 2, 3 => some 45000000 | 2, 4 => some 3500000000
  | 3, 1 => some 100 | 3, 2 => some 10000 | 3, 3 => some 20000000
  | 4, 2 => some 20000 | 4, 3 => some 30000000
  | 5, 1 => some 200 | 5, 2 => some 25000 | 5, 3 => some 50000000 | 5, 4 => some 4000000000
  | 6, 3 => some 50000000 | 6, 4 => some 4000000000
  | 7, 1 => some 300 | 7, 2 => some 25000 | 7, 3 => some 50000000 | 7, 4 => some 4000000000
  | 8, 1 => some 100 | 8, 2 => some 10000 | 8, 3 => some 10000000
  | _, _ => none

/-- Ticks of a span of ns, rounded up. -/
def nsTicks (n : Nat) : Nat := (n * 4 + 4) / 5

/-! ### Interrupts -/

/-- The INT_STATUS arrays of a block: base, stride, count; INT_ENABLE lies 8 bytes after INT_STATUS. -/
def intArrays : Nat → List (Nat × Nat × Nat)
  | 0 => [(0x8, 8, 1)] | 1 => [(0x1008, 8, 1)] | 2 => [(0x2008, 8, 1)] | 3 => [(0x3008, 8, 1)]
  | 4 => [(0x4008, 8, 1)] | 5 => [(0x5008, 8, 1)] | 6 => [(0x8008, 8, 1)] | 7 => [(0x10008, 8, 1)]
  | 8 => [(0x20008, 0x1000, 4)] | 9 => [(0x30008, 0x1000, 4)]
  | 10 => [(0x50008, 0x40, 512), (0x60008, 0x40, 512)] | 11 => [(0x80000, 0x1000, 16)]
  | 12 => [(0x90000, 0x1000, 16)] | 13 => [(0xC0010, 0x1000, 16), (0xD0008, 8, 1)] | 14 => [(0x100000, 0x8000, 16)]
  | _ => []

/-- Is a store key the INT_STATUS of some instance in one of these arrays? -/
def inArrays (a : Nat) (l : List (Nat × Nat × Nat)) : Bool :=
  l.any fun x => x.1 ≤ a && (a - x.1) % x.2.1 == 0 && (a - x.1) / x.2.1 < x.2.2

/-- A fault source by block and instance (R461). -/
def State.fault (s : State) (b n : Nat) : FaultSrc := tget {} s.flt.srcs (64 * b + n)

/-- Set a fault source. -/
def State.setFault (s : State) (b n : Nat) (v : FaultSrc) : State :=
  { s with flt := { s.flt with srcs := tset {} s.flt.srcs (64 * b + n) v } }

/-- Some fault source of block b has FAULT_PENDING with INT_EN (R465). -/
def State.faultPending (s : State) (b : Nat) : Bool :=
  s.flt.srcs.any fun x => x.1 / 64 == b && x.2.pending && x.2.posted && bitAt (s.rg .faultCtl [b, x.1 % 64]) 60

/-- The summary bits of MC_INT_STATUS (R464): TIME_REPLICA_FAULT while a replica's fault record is unacknowledged,
TXTS_OVF while any port's TXTS_OVF stands. -/
def State.mcSummary (s : State) : W :=
  (if s.flt.srcs.any fun x => 64 * 7 < x.1 && x.1 < 64 * 8 && x.2.pending then 0x100 else 0) |||
  (if s.regs.any fun x => inArrays x.1 [(0x11028, 0x40, 512)] && bitAt x.2 63 then 0x200 else 0)

/-- The block's interrupt is pending (R465). -/
def State.blockPending (s : State) (b : Nat) : Bool :=
  (s.regs.any fun x => inArrays x.1 (intArrays b) && (x.2 &&& tget 0 s.regs (x.1 + 8)) != 0)
  || (b == 7 && (s.mcSummary &&& s.rg .mcIntEnable) != 0)
  || s.faultPending b

/-- Append a signal to what has left the part. -/
def State.signal (s : State) (x : Signal) : State := { s with out := { s.out with signals := s.out.signals ++ [x] } }

/-- Is a function's MSI-X table enabled? (A function-level reset disables it, R466.) -/
def State.msixOn (s : State) (fn : Nat) : Bool := !s.cmd.msixOff.contains fn

/-- Send block b's interrupt signal to the target that INT_ROUTE names (R466). -/
def signalBlock (b : Nat) (s : State) : State :=
  match s.rgf .intRoute [b] 63 62 with
  | 2 => (s.signal (.ibi 0x33)).bump .intSignalCnt [] 63 32
  | 3 => s
  | fn =>
    if s.msixOn fn then (s.signal (.msix fn (s.rgf .intRoute [b] 8 0))).bump .intSignalCnt [] 63 32
    else s.bump .intSignalCnt [] 31 0

/-- Do f, and send the block's signal when its pending rises (R466, Raising). -/
def intEdge (b : Nat) (f : State → State) (s : State) : State :=
  let t := f s
  if !s.blockPending b && t.blockPending b then signalBlock b t else t

/-- Hardware sets bits of an INT_STATUS register. -/
def raiseInt (b : Nat) (r : RegId) (ix : List Nat) (bit : Nat) (s : State) : State :=
  intEdge b (fun s => s.setRg r ix (s.rg r ix ||| BitVec.ofNat 64 (2 ^ bit))) s

/-! ### Completion rings (R314, R325) -/

/-- Write bytes into host memory. -/
def hostWrite (fn addr : Nat) (b : List Byte) (poison : Bool) (s : State) (relaxed : Bool := false) : State :=
  let w : HostWrite := { fn := fn, addr := addr, bytes := b, poison := poison, relaxed := relaxed }
  { s with out := { s.out with hostWrites := s.out.hostWrites ++ [w] } }

/-- The bytes of a word, most significant first (R285). -/
def wordBytes (w : W) : List Byte := bytesBE 8 w.toNat

/-- Function f. -/
def State.fn (s : State) (f : Nat) : Fn := tget {} s.host.fns f

/-- Set function f. -/
def State.setFn (s : State) (f : Nat) (v : Fn) : State := { s with host := { s.host with fns := tset {} s.host.fns f v } }

/-- Send an MSI-X message of a function; it is lost while the function's table is disabled. -/
def fnSignal (f v : Nat) (s : State) : State := if s.msixOn f then s.signal (.msix f v) else s

/-- Set a bit of FN_INT_STATUS: vector 0 serves the summary (R309). -/
def raiseFn (f bit : Nat) (s : State) : State :=
  let on := fun (s : State) => (s.rg .fnIntStatus [f] &&& s.rg .fnIntEnable [f]) != 0
  let t := s.setRg .fnIntStatus [f] (s.rg .fnIntStatus [f] ||| BitVec.ofNat 64 (2 ^ bit))
  if !on s && on t then fnSignal f 0 t else t

/-- Is a ring filled by the device full? -/
def CRing.full (c : CRing) : Bool := 2 ^ c.log ≤ (c.tail + 65536 - c.head) % 65536

/-- The lap of index i of a ring. -/
def lapOf (log i : Nat) : Nat := i / 2 ^ log % 2

/-- The bytes of an entry at the ring's tail: PHASE in word 0 [63] is the lap XOR 1. -/
def CRing.stamp (c : CRing) (e : List W) : List W :=
  match e with
  | w :: r => ins w 63 63 (1 - lapOf c.log c.tail) :: r
  | [] => []

/-- The number of a function as a source of commands (R306). -/
def srcFn : Source → Option Nat
  | .pf0 => some 0 | .pf1 => some 1 | .vf v => some (2 + v) | _ => none

/-- Write what waits into a function's admin completion ring while slots are free (R314). -/
def pumpAdmin (f : Nat) : Nat → State → State
  | 0, s => s
  | n + 1, s =>
    let x := s.fn f
    match x.cq.waiting with
    | [] => s
    | e :: rest =>
      if !x.enabled || x.cq.full then s
      else
        let e' := match e with | w :: r => ins w 15 0 x.sq.h :: r | [] => []
        let s := hostWrite f (x.cq.base + 64 * (x.cq.tail % 2 ^ x.cq.log)) ((x.cq.stamp e').flatMap wordBytes) false s
        pumpAdmin f n (raiseFn f 4 (s.setFn f { x with cq := { x.cq with tail := (x.cq.tail + 1) % 65536, waiting := rest } }))

/-- Give a function's admin completion ring an entry. -/
def adminEntry (f : Nat) (e : List W) (s : State) : State :=
  let x := s.fn f
  let s := s.setFn f { x with cq := { x.cq with waiting := x.cq.waiting ++ [e] } }
  pumpAdmin f (x.cq.waiting.length + 1) s

/-! ### Events (R303) -/

/-- Key of a source in the command tables. -/
def srcKey : Source → Nat
  | .sideband => 0
  | .pf0 => 1
  | .inband => 2
  | .pf1 => 3
  | .dravua d => 0x1000 + d
  | .vf v => 0x100 + v

/-- Code of a source (Table 13-5): also its precedence rank. -/
def srcCode : Source → Nat
  | .sideband => 0 | .pf0 => 1 | .inband => 2 | .pf1 => 3 | .dravua _ => 4 | .vf _ => 5

/-- The subscriber of an event code 0xF000 + k: PF0 at reset (R303). -/
def State.routeOf (s : State) (k : Nat) : Option Source := tget (some .pf0) s.cmd.route k

/-- A subscriber's queue. -/
def State.sub (s : State) (src : Source) : Subscriber := tget {} s.cmd.subs (srcKey src)

/-- Set a subscriber's queue. -/
def State.setSub (s : State) (src : Source) (v : Subscriber) : State :=
  { s with cmd := { s.cmd with subs := tset {} s.cmd.subs (srcKey src) v } }

/-- One bit of CRC-16/CCITT-FALSE. -/
def crc16Bit (c : Nat) (b : Bool) : Nat :=
  let top := (c / 32768 % 2 == 1) != b
  let c := c * 2 % 65536
  if top then c ^^^ 0x1021 else c

/-- CRC-16/CCITT-FALSE over bytes (initial value 0xFFFF, polynomial 0x1021). -/
def crc16 (l : List Byte) : Nat :=
  l.foldl (fun c b => (List.range 8).foldl (fun c i => crc16Bit c (b.getLsbD (7 - i))) c) 0xFFFF

/-- HDR_CRC of a reply or an event to a source: over header bytes 0 to 13 on the sideband, 0 elsewhere (Table 13-4). -/
def replyCrc (src : Source) (w0 w1 : W) : Nat := if src = .sideband then crc16 (wordBytes w0 ++ (wordBytes w1).take 6) else 0

/-- The header words of an event message: the reply layout with FINAL = 1 (R303). -/
def eventHeader (s : State) (src : Source) (m : EventMsg) : W × W :=
  let w0 : W := BitVec.ofNat 64 (m.code * 2 ^ 48 + tget 1 s.cmd.version (srcKey src) % 4 * 2 ^ 46 + 2 ^ 45 + m.tag % 65536 * 2 ^ 16
     + 8 * m.params.length % 65536)
  let n := m.detail % 65536 * 2 ^ 32 + s.deviceId % 4096 * 2 ^ 20
  (w0, BitVec.ofNat 64 (n + replyCrc src w0 (BitVec.ofNat 64 n)))

/-- The admin completion entries of an event: its block in pieces of up to five words (R314). -/
def eventEntries (h : W × W) : Nat → List W → List (List W)
  | 0, _ => []
  | n + 1, ps =>
    let more := decide (5 < ps.length)
    let w0 : W := mk 62 62 1 ||| mk 61 61 (b2n more) ||| mk 34 32 (min 5 ps.length)
    let e := [w0, h.1, h.2] ++ (List.range 5).map fun i => ps.getD i 0
    e :: if more then eventEntries h n (ps.drop 5) else []

/-- The management controller sends a frame on a port. Like every packet bound for a port it is buffered and crosses the crossbar (R9,
07_switch_core.md); DESIGN CHOICE (log 76): it enters through the injection input of the port's Tile. -/
def mgmtSend (port : Nat) (b : List Byte) (s : State) : State :=
  { s with out := { s.out with mgmtTx := s.out.mgmtTx ++ [(port, b)] } }

/-- A command frame of Table 13-6 on a port. -/
def mgmtFrameOut (typ port dmac : Nat) (words : List W) (s : State) : State :=
  let b := bytesBE 6 dmac ++ bytesBE 6 (s.rg .mgmtMac).toNat ++ bytesBE 2 (s.rg .dravuaEtype [port / 32]).toNat
    ++ bytesBE 4 (typ * 2 ^ 24 + 0x10000) ++ bytesBE 2 (s.deviceId % 4096) ++ bytesBE 2 0 ++ words.flatMap wordBytes
  mgmtSend port (b ++ List.replicate (60 - b.length) 0) s

/-- Deliver what a subscriber's queue holds where its transport takes it: a frame for INBAND (R303), admin completion entries while
their ring has space (R314), for SIDEBAND an in-band interrupt 0x32 and the private read that follows it (R290). DESIGN CHOICE (log 85):
the board controller reads at once. -/
def pumpEvents (src : Source) : Nat → State → State
  | 0, s => s
  | n + 1, s =>
    let q := s.sub src
    match q.queue with
    | [] => s
    | m :: rest =>
      let h := eventHeader s src m
      let s' := s.setSub src { q with queue := rest }
      match src, srcFn src with
      | .sideband, _ =>
        let r : Reply := { src := src, w0 := h.1, w1 := h.2, result := m.params }
        let t := s'.signal (.ibi 0x32)
        pumpEvents src n { t with out := { t.out with replies := t.out.replies ++ [r] } }
      | .inband, _ => pumpEvents src n (mgmtFrameOut 0x32 (s.rgf .mgmtPortCfg [] 8 0) q.mac ([h.1, h.2] ++ m.params) s')
      | _, some f =>
        let x := s.fn f
        if x.enabled && x.cq.waiting.isEmpty && !x.cq.full then
          pumpEvents src n ((eventEntries h 8 m.params).foldl (fun s e => adminEntry f e s) s')
        else s
      | _, none => s

/-- Queue an event message for the event's subscriber, or count it lost (R303). -/
def postEvent (k : Nat) (params : List W) (s : State) : State :=
  match s.routeOf k with
  | none => raiseInt 0 .cmdIntStatus [] 2 (s.bump .eventLostCnt [] 47 0)
  | some src =>
    let q := s.sub src
    if 1024 ≤ q.queue.length then
      raiseInt 0 .cmdIntStatus [] 2 ((s.setSub src { q with discarded := satAdd 16 q.discarded 1 }).bump .eventLostCnt [] 47 0)
    else
      let m : EventMsg := { code := 0xF000 + k, params := params, tag := q.seq, detail := q.discarded }
      let s := s.setSub src { q with queue := q.queue ++ [m], seq := (q.seq + 1) % 65536, discarded := 0 }
      pumpEvents src (q.queue.length + 1) s

/-! ### Work for a sleeping domain -/

/-- The interrupt DOMAIN_CHANGE of the power block. -/
def domainChange (s : State) : State := raiseInt 2 .pwrIntStatus [] 0 s

/-- A domain begins its exit from PS1 to PS4 (R345). -/
def beginExit (d : Nat) (s : State) : State :=
  let x := s.domain d
  if 0 < x.state && !x.exiting then s.setDomain d { x with exiting := true } else s

/-- Domains that may not stay in their state when domain d leaves its own (R343): a Skein quarter with its cluster, the Tiles of
a SerDes group that leaves PS2 or deeper. -/
def State.followers (s : State) (d : Nat) : List Nat :=
  if 24 ≤ d ∧ d < 28 then [d + 4]
  else if 16 ≤ d ∧ d < 24 ∧ 2 ≤ (s.domain d).state then
    [2 * (d - 16), 2 * (d - 16) + 1].filter fun t => 2 ≤ (s.domain t).state
  else []

/-- A domain begins its exit, and with it the domains that depend on it. -/
def startExit (d : Nat) (s : State) : State :=
  (s.followers d).foldl (fun s k => if (s.domain k).force = 0 then beginExit k s else s) (beginExit d s)

/-- The state that a domain comes to: PS0, or the shallower state that a force names. -/
def State.exitState (s : State) (d : Nat) : Nat :=
  let woken := match s.sec.zero with
    | some z => z.woken.contains d
    | none => false
  if woken then 0 else (s.domain d).force - 1

/-- The state that a domain holds, or comes to when it exits. -/
def State.heading (s : State) (d : Nat) : Nat := if (s.domain d).exiting then s.exitState d else (s.domain d).state

/-- The domain that a Skein's placement in cluster q waits for: the quarter while it stands deeper than the cluster (R8), else the
cluster. -/
def State.skeinHome (s : State) (q : Nat) : Nat :=
  if (s.domain (domCluster q)).state < (s.domain (domQuarter q)).state then domQuarter q else domCluster q

/-- Must a command wait for a domain to leave its state: one deeper than PS1 (R347), or a quarter deeper than its cluster (R8)? -/
def State.mustLeave (s : State) (d : Nat) : Bool :=
  1 < (s.domain d).state || (decide (28 ≤ d ∧ d < 32) && decide ((s.domain (d - 4)).state < (s.domain d).state))

/-- Work addressed to a domain begins its exit when its policy is AUTO (R345, R346). -/
def wakeDomain (d : Nat) (s : State) : State := if (s.domain d).force = 0 then startExit d s else s

/-! ### Fault records (R402 to R406) -/

/-- An error as its fault source reports it (R402): class of Table 17-3, severity, requester, and for a memory the code,
address, syndrome and corrected bit. -/
structure FaultInfo where
  block : Nat
  inst : Nat
  cls : Nat
  sev : Nat := 1
  req : Nat := 9
  mem : Nat := 255
  addr : Nat := 0
  synd : Nat := 0
  bit : Nat := 127
  forced : Bool := false
  flipped : Bool := false
deriving DecidableEq, Repr

/-- Word 0 of the record that captures an error (Table 17-4). -/
def faultWord0 (f : FaultInfo) (seq : Nat) : W :=
  BitVec.ofNat 64 (2 ^ 63 + b2n f.forced * 2 ^ 62 + b2n f.flipped * 2 ^ 61 + f.sev % 4 * 2 ^ 59 + f.cls % 16 * 2 ^ 55
    + f.req % 16 * 2 ^ 51 + seq % 65536 * 2 ^ 32 + f.block % 256 * 2 ^ 24 + f.inst % 256 * 2 ^ 16
    + f.mem % 256 * 2 ^ 8 + f.synd % 256)

/-- The deferred posting of a captured record's event (R406). -/
def postRecord (b n : Nat) (s : State) : State :=
  let f := s.fault b n
  postEvent 11 [f.w0, f.w1, f.w2, f.w3] s

/-- The management domain is in PS0 and Fololmane takes commands (R406, R424). -/
def State.intakeOpen (s : State) : Bool := (s.domain domMgmt).state == 0 && 4 ≤ s.boot.stage

/-- A fault source detects an error: count it (R405), capture it (R403) or merge it (R404). The management source
keeps its event and signal back while the management domain is not in PS0 or intake is closed, and wakes the domain (R406). -/
def reportFault (f : FaultInfo) (s : State) : State :=
  let s := s.setRg .faultCnt [f.block, f.inst, f.cls] (s.rg .faultCnt [f.block, f.inst, f.cls] + 1)
  if !(s.rg .faultCtl [f.block, f.inst]).getLsbD f.cls then s
  else
    let src := s.fault f.block f.inst
    if src.valid then
      let merged := satAdd 16 (fld src.w3 31 16) 1
      let w3 := ins src.w3 31 16 merged ||| BitVec.ofNat 64 (2 ^ f.cls)
      s.setFault f.block f.inst { src with w3 := w3 }
    else
      let seq := (src.seq + 1) % 65536
      let post := f.block != 0 || s.intakeOpen
      let rec1 : FaultSrc := { src with
        valid := true, pending := true, seq := seq, posted := post
        w0 := faultWord0 f seq
        w1 := BitVec.ofNat 64 (f.bit % 128 * 2 ^ 57 + f.addr % 2 ^ 40)
        w2 := s.time.master.hi
        w3 := s.time.master.lo }
      let s := intEdge f.block (fun s => s.setFault f.block f.inst rec1) s
      if post then postRecord f.block f.inst s else wakeDomain domMgmt s

/-- The repair map of a domain fails its CRC: its macros are unusable (R400). -/
def repairFails (d : Nat) (s : State) : State := reportFault { block := 0, inst := 0, cls := 4, sev := 2, addr := d } s

/-- A poisoned TLP or an error completion arrives (Tables 17-2 and 17-3); `req`: the requester, 5 host, 6 DMA. -/
def pcieError (req : Nat) (s : State) : State := reportFault { block := 4, inst := 0, cls := 11, req := req } s

/-- The management source's record, held back, is posted once the domain is in PS0 and intake is open (R406). -/
def postHeld (s : State) : State :=
  let f := s.fault 0 0
  if f.valid && !f.posted && s.intakeOpen then
    postRecord 0 0 (intEdge 0 (fun s => s.setFault 0 0 { f with posted := true }) s)
  else s

/-! ### The epoch registry (R413) -/

/-- Keys of the registry: timelines 0-7, Rigging banks 8-9, classifier banks 16.., L2 replicas 64.., LPM replicas 80..,
crossbar 96, clusters 100.., channels 128.., pools 192.., queue pairs 0x1000.., Skeins 0x10000.. -/
def ekTimeline (t : Nat) : Nat := t
def ekBank (b : Nat) : Nat := 8 + b
def ekClass (t b : Nat) : Nat := 16 + 2 * t + b
def ekL2 (t : Nat) : Nat := 64 + t
def ekLpm (t : Nat) : Nat := 80 + t
def ekXbar : Nat := 96
def ekCluster (q : Nat) : Nat := 100 + q
def ekHook (q b : Nat) : Nat := 104 + 2 * q + b
def ekChan (c : Nat) : Nat := 128 + c
def ekPool (p : Nat) : Nat := 192 + p
def ekAdmin (f : Nat) : Nat := 256 + f
def ekLane (l : Nat) : Nat := 512 + l
def ekQp (q : Nat) : Nat := 0x1000 + q
def ekSkein (k : Nat) : Nat := 0x10000 + k

/-- The current epoch of an object. -/
def State.epoch (s : State) (k : Nat) : Nat := (tget {} s.epochs k).epoch

/-- Set an object's epoch. -/
def State.setEpoch (s : State) (k v : Nat) : State :=
  { s with epochs := tset {} s.epochs k { tget {} s.epochs k with epoch := v % 65536 } }

/-- Advance an object's epoch by one; CHANGED is set while its holder's domain is out of PS0 and PS1 (R413). -/
def bumpEpoch (k dom : Nat) (s : State) : State :=
  let e := tget {} s.epochs k
  let v : EpochEntry := { epoch := (e.epoch + 1) % 65536, changed := e.changed || 1 < (s.domain dom).state }
  { s with epochs := tset {} s.epochs k v }

/-! ### What leaves the part -/

/-- Send a link message (Hello, WAKE_REQ, ordered sets) on a port, outside the queues. -/
def sendLink (port : Nat) (b : List Byte) (s : State) : State :=
  { s with out := { s.out with linkMsgs := s.out.linkMsgs ++ [(port, b)] } }

/-- An edge on an output pin. -/
def pinEdge (pin : Nat) (level : Bool) (note : Nat) (s : State) : State :=
  { s with out := { s.out with edges := s.out.edges ++ [{ pin := pin, level := level, tick := s.tick, note := note }] } }

/-- Data returned by a register read of the host, the TAP or an engine. -/
def readOut (w : W) (s : State) : State := { s with out := { s.out with readData := s.out.readData ++ [w] } }

/-! ### Checksums -/

/-- One reflected CRC byte step with polynomial p. -/
def crcReflByte (p c : Nat) (b : Byte) : Nat :=
  (List.range 8).foldl (fun c _ => if c % 2 = 1 then (c / 2) ^^^ p else c / 2) (c ^^^ b.toNat)

/-- CRC-32C (Castagnoli), reflected, initial and final complement. -/
def crc32c (l : List Byte) : Nat := (l.foldl (crcReflByte 0x82F63B78) 0xFFFFFFFF) ^^^ 0xFFFFFFFF

/-- CRC-32 of IEEE 802.3, reflected, initial and final complement (the FCS). -/
def crc32 (l : List Byte) : Nat := (l.foldl (crcReflByte 0xEDB88320) 0xFFFFFFFF) ^^^ 0xFFFFFFFF

/-- The words that bytes spell, most significant byte first; a short tail is padded with 0. -/
def wordsOf : Nat → List Byte → List W
  | 0, _ => []
  | n + 1, l => BitVec.ofNat 64 (bytesNat l 0 8) :: wordsOf n (l.drop 8)

/-- Tile t. -/
def State.tl (s : State) (t : Nat) : TileState := tget {} s.pk.tiles t

/-- Set Tile t. -/
def State.setTl (s : State) (t : Nat) (v : TileState) : State := { s with pk := { s.pk with tiles := tset {} s.pk.tiles t v } }

/-- Change Tile t. -/
def State.modTl (s : State) (t : Nat) (f : TileState → TileState) : State := s.setTl t (f (s.tl t))

end Sys2Proof.Machine
end

