-- ==== Sys2Proof/Machine/Ecc.lean ====
section
/-! DEFINITION. Check bits (R394 to R396), functional accesses to protected memories, flip-masks and force bits at
those accesses (R409 to R411). The stored data of a word stands in its own table; `flt.ecc` holds the pattern of
flipped bits by which the stored codeword differs from the good one (the code is linear). -/

namespace Sys2Proof.Machine

/-- The number of 1 bits below n. -/
def popcount (n v : Nat) : Nat := (bitsOf n v).length

/-- The columns h(0) to h(71) of R394. -/
def eccColumns : List Nat :=
  ((List.range 256).filter fun v => popcount 8 v = 3) ++ ((List.range 256).filter fun v => popcount 8 v = 5).take 16

/-- The syndrome of a pattern of flipped bits over a word of w data bits and 8 check bits (R394). -/
def eccSyndrome (w p : Nat) : Nat :=
  (bitsOf w p).foldl (fun x j => x ^^^ eccColumns.getD j 0) (p / 2 ^ w % 256)

/-- What a decoded syndrome says (R395). -/
inductive EccOutcome where
  | none | data (j : Nat) | check (i : Nat) | uncorrectable
deriving DecidableEq, Repr

/-- Decode a syndrome (R395). -/
def eccDecode (w syn : Nat) : EccOutcome :=
  if syn = 0 then .none
  else match (eccColumns.take w).findIdx? (· == syn) with
    | some j => .data j
    | Option.none => match bitsOf 8 syn with
      | [i] => .check i
      | _ => .uncorrectable

/-- Fault sources of a block (Table 20-1). -/
def sourcesOf (b : Nat) : Nat := ([1, 1, 1, 1, 1, 1, 1, 21, 4, 5, 64, 16, 16, 48, 16] : List Nat).getD b 0

/-- The power domain of a fault source (Tables 15-1 and 20-1); the management source stands in the always-on domain (R406), and so do
the controllers that Table 15-1 places nowhere else. -/
def srcDomain (b n : Nat) : Nat :=
  match b with
  | 4 => domPcie
  | 5 | 7 => domMast
  | 6 => domTelemetry
  | 8 => domCluster n
  | 9 => if n < 4 then domQuarter n else 38
  | 10 => domTile (n / 4)
  | 11 | 12 | 14 => domTile n
  | 13 => if n < 16 then domTile n else if n < 28 then domXbar (n - 16) else if n < 32 then 38 else domTile (n - 32)
  | _ => 38

/-- The power domain of the register space of a block at an offset in its region (Tables 15-1 and 20-1). -/
def blockDomain (b off : Nat) : Nat :=
  match b with
  | 4 => domPcie
  | 5 => domMast
  | 6 => if 0x1000 ≤ off ∧ off < 0x3000 then domTile ((off - 0x1000) / 0x10 / 32) else domTelemetry
  | 7 => if 0x1000 ≤ off ∧ off < 0x9000 then domTile ((off - 0x1000) / 0x40 / 32) else domMast
  | 8 => domCluster (off / 0x1000)
  | 9 => if off < 0x4000 then domCluster (off / 0x1000) else 38
  | 10 => if off < 0x20000 then domSerdes (off % 0x10000 / 0x40 % 512) else domTile (off % 0x10000 / 0x40 % 512 / 32)
  | 11 | 12 => domTile (off / 0x1000)
  | 13 =>
    if off < 0x10000 then domTile (off / 0x1000)
    else if off < 0x20000 then 38
    else if off < 0x30000 then domXbar (off % 0x10000 / 0x100 % 12)
    else domTile (off % 0x10000 / 0x100 % 16)
  | 14 => domTile (off / 0x8000)
  | _ => domMgmt

/-- The power domain of a store key. The fault registers of the management source stand in the always-on domain (R406). -/
def keyDomain (a : Nat) : Nat :=
  if 0x100000000 ≤ a then domPcie
  else if 0xC00000 ≤ a then srcDomain ((a - 0xC00000) / 0x4000) ((a - 0xC00000) % 0x4000 / 0x100)
  else match blockOf a with
    | some b => blockDomain b (a - (blockRegion b).1)
    | none => 38

/-- Memories of a source with their word counts; `true` where they are scrubbed (Tables 17-1 and 20-2). Where no chapter counts a
memory's words, the count is the model's own layout of them. -/
def memsOf (b n : Nat) : List (Nat × Nat × Bool) :=
  match b with
  | 0 => [(0, 65536, false), (1, 262144, false)]
  | 3 => [(0, 512, false), (1, 128, false), (2, 1024, false)]
  | 4 => [(0, 65536, false), (1, 65536, false), (2, 65536, false)]
  | 5 => [(0, 32768, true), (1, 32768, true), (2, 8192, true), (3, 8192, true)]
  | 6 => [(0, 65536, false), (1, 65536, false)]
  | 8 => [(0, 16384, true), (1, 16384, true), (2, 512, true), (3, 65536, true), (4, 32768, false), (5, 32768, false),
          (6, 65536, false), (7, 1024, false)]
  | 9 => if n < 4 then [(0, 3145728, true)] else [(1, 262144, true), (2, 524288, true), (3, 524288, true)]
  | 10 => [(0, 8192, false), (1, 256, false)]
  | 11 => [(0, 65536, true), (1, 262144, true), (2, 512, true), (3, 4096, true), (5, 65536, false)]
          ++ if n = 0 then [(4, 4096, true)] else []
  | 12 => [(0, 262144, true), (1, 262144, true), (2, 524288, true), (3, 524288, true), (4, 131072, true), (5, 131072, true),
           (6, 131072, true), (7, 196608, true), (8, 131072, true), (9, 4096, true), (10, 36864, true)]
  | 13 => if n < 16 then [(0, 3145728, true), (1, 98304, true), (2, 98304, true)]
          else if n < 28 then [(4, 1024, false)] else if n < 32 then [] else [(3, 65536, false)]
  | 14 => [(0, 8192, false), (1, 4096, false)]
  | _ => []

/-- A fault source exists. -/
def srcOk (b n : Nat) : Bool := decide (n < sourcesOf b) && !(b == 13 && 28 ≤ n && n < 32)

/-- The classes that a source can detect (Table 17-3), as a mask: the memory classes of its memories, and those that its chapter
names. -/
def detects (b n : Nat) : Nat :=
  let m := memsOf b n
  (if m.isEmpty then 0 else 5) + (if m.any (fun x => x.2.2) then 10 else 0)
    + match b with
      | 0 => 2 ^ 4 + 2 ^ 14
      | 3 => 2 ^ 12
      | 4 => 2 ^ 11 + 2 ^ 13
      | 5 => 2 ^ 13
      | 7 => 2 ^ 10
      | 8 => 2 ^ 7 + 2 ^ 8 + 2 ^ 13
      | 9 | 11 | 12 => 2 ^ 13
      | 10 => 2 ^ 13
      | 13 => if n < 16 then 2 ^ 9 else if n < 28 then 2 ^ 5 + 2 ^ 6 + 2 ^ 13 else 0
      | _ => 0

/-- A domain that enters PS3 or PS4 loses its armed flip-masks (R410). -/
def dropFlips (d : Nat) (s : State) : State :=
  let clear := fun (k : Nat) (x : FaultSrc) => if srcDomain (k / 64) (k % 64) == d then { x with flips := [] } else x
  { s with flt := { s.flt with srcs := tmapv {} clear s.flt.srcs } }

/-- Key of a protected word: block, instance, memory code (Table 20-2), word address. -/
def eccKey (b n mem addr : Nat) : Nat := ((b * 64 + n) * 256 + mem) * 2 ^ 40 + addr % 2 ^ 40

/-- Data bits of a word of a memory (R396): 72 in the Hook memories and the Skein memory quarters, else 64. -/
def eccWidth (b n mem : Nat) : Nat :=
  if b = 8 then (if mem = 2 ∨ mem = 4 then 64 else 72) else if b = 9 ∧ n < 4 then 72 else 64

/-- Set the pattern of a word. -/
def setPattern (k p : Nat) (s : State) : State := { s with flt := { s.flt with ecc := tset 0 s.flt.ecc k p } }

/-- A write that takes no flip-mask (R410): the stored word is a codeword. -/
def memClear (b n mem addr : Nat) (s : State) : State :=
  if s.flt.ecc = [] then s else setPattern (eccKey b n mem addr) 0 s

/-- A functional write (R409): it takes an armed flip-mask, else the word becomes a codeword. -/
def memWrite (b n mem addr : Nat) (s : State) : State :=
  let src := s.fault b n
  let m := tget 0 src.flips mem
  if m = 0 then memClear b n mem addr s
  else
    let k := eccKey b n mem addr
    let s := setPattern k m s
    let s := s.setFault b n { src with
      flips := tset 0 src.flips mem 0, flipDone := true, flipMem := mem, flipAddr := addr }
    { s with flt := { s.flt with
      flipped := k :: s.flt.flipped.filter fun x => x / 2 ^ 48 != b * 64 + n } }

/-- What a read of a protected word gives: whether the word may be used, the bits by which the data read differs from the
data stored (not 0 only after a miscorrection), and the state with the error reported. -/
structure EccRead where
  ok : Bool
  diff : Nat
  st : State

/-- Is a force bit of a class armed for a memory? -/
def forcedFor (src : FaultSrc) (cls mem : Nat) : Bool := src.forced.testBit cls && nfld src.forceMem (8 * cls + 7) (8 * cls) == mem

/-- Disarm a force bit. -/
def unforce (b n cls : Nat) (s : State) : State :=
  let src := s.fault b n
  if src.forced.testBit cls then s.setFault b n { src with forced := src.forced - 2 ^ cls } else s

/-- The severity of an uncorrectable word: FAILED where it takes a crossbar plane out of service (R175, R402), else UNCORRECTED. -/
def ueSeverity (b mem : Nat) : Nat := if b = 13 ∧ mem = 4 then 2 else 1

/-- Report a memory error of a class, and a forced one after it (R411). -/
def memFault (b n mem addr req cls : Nat) (out : EccOutcome) (syn : Nat) (s : State) : State :=
  let w := eccWidth b n mem
  reportFault
    { block := b, inst := n, cls := cls, sev := if cls < 2 then 0 else ueSeverity b mem, req := req, mem := mem, addr := addr
      synd := syn, bit := match out with | .data j => j | .check i => w + i | _ => 127
      flipped := s.flt.flipped.contains (eccKey b n mem addr) } s

/-- Report what a read decoded: class ue for an uncorrectable word, ce for a corrected one. -/
def eccReport (ce ue b n mem addr req : Nat) (out : EccOutcome) (syn : Nat) (s : State) : State :=
  match out with
  | .none => s
  | .uncorrectable => memFault b n mem addr req ue out syn s
  | _ => memFault b n mem addr req ce out syn s

/-- A force bit of a memory class acts at a read: it clears, and the error is reported as a forced one (R411). -/
def forcedReport (cls sev b n mem addr req : Nat) (s : State) : State :=
  reportFault { block := b, inst := n, cls := cls, sev := sev, req := req, mem := mem, addr := addr, forced := true } (unforce b n cls s)

/-- Decode a read of a word; classes ce and ue are those of a functional read (0, 2) or of the scrubber (1, 3). -/
def eccReadAs (ce ue b n mem addr req : Nat) (s : State) : EccRead :=
  let src := s.fault b n
  let p := tget 0 s.flt.ecc (eccKey b n mem addr)
  let w := eccWidth b n mem
  let syn := eccSyndrome w p
  let out := if p = 0 then EccOutcome.none else eccDecode w syn
  { ok := out != .uncorrectable && !forcedFor src ue mem
    diff := match out with
      | .data j => (p % 2 ^ w) ^^^ 2 ^ j
      | _ => p % 2 ^ w
    st := when (forcedFor src ue mem) (forcedReport ue (ueSeverity b mem) b n mem addr req)
      (when (forcedFor src ce mem) (forcedReport ce 0 b n mem addr req) (eccReport ce ue b n mem addr req out syn s)) }

/-- A functional read of a word by a requester (Table 17-4). -/
def memRead (b n mem addr req : Nat) (s : State) : EccRead := eccReadAs 0 2 b n mem addr req s

/-- A functional read of a run of words: none may be uncorrectable; the first such ends the reading. -/
def memReadN (b n mem addr req : Nat) : Nat → State → Bool × State
  | 0, s => (true, s)
  | k + 1, s =>
    let r := memRead b n mem addr req s
    if r.ok then memReadN b n mem (addr + 1) req k r.st else (false, r.st)

/-- Functional writes of a run of words. -/
def memWriteN (b n mem addr : Nat) : Nat → State → State
  | 0, s => s
  | k + 1, s => memWriteN b n mem (addr + 1) k (memWrite b n mem addr s)

/-- A run of words cleared without taking a flip-mask. -/
def memClearWhere (p : Nat → Bool) (s : State) : State :=
  { s with flt := { s.flt with ecc := s.flt.ecc.filter fun x => !p x.1 } }

/-- Sets loaded by a reseed in progress: one per clock (R147). -/
def Reseed.loaded (r : Reseed) (now : Nat) : Nat := min 32768 (2 * (now - r.start))

/-- A reseed has reached more sets: each of their eight words is written (R147), the first of them under a flip-mask armed since the
last set (R409). -/
def l2Load (t : Nat) (s : State) : State :=
  match (s.tl t).reseed with
  | none => s
  | some r =>
    let n := r.loaded s.tick
    if n ≤ r.written then s
    else
      let lo := eccKey 12 t 0 (8 * r.written)
      let s := memWrite 12 t 0 (8 * r.written)
        (memClearWhere (fun k => decide (lo ≤ k) && decide (k < lo + 8 * (n - r.written))) s)
      s.modTl t fun tl => { tl with reseed := some { r with written := n } }

/-- The reseeds of every Tile go on as time passes. -/
def loadSets (s : State) : State := (List.range 16).foldl (fun s t => l2Load t s) s

/-- Data as a functional read sees it: stored bits altered by a miscorrection. -/
def EccRead.data (r : EccRead) (w : W) : W := w ^^^ BitVec.ofNat 64 r.diff

end Sys2Proof.Machine
end

