-- ==== Sys2Proof/Machine/Command.lean ====
section
/-! DEFINITION. Command packets (chapter 13): the header (R285), its checks (R287), sources and permissions (R289,
R292), versions (R297), conflicts (R299 to R301), timed commit (R294 to R296), replies (R286). A family gives each
opcode its body; `runCommand` does all the rest. -/

namespace Sys2Proof

open Machine

/-- Header fields (Tables 13-1 and 13-2). -/
def Cmd.opcode (c : Cmd) : Nat := fld c.w0 63 48
def Cmd.group (c : Cmd) : Nat := fld c.w0 63 56
def Cmd.version (c : Cmd) : Nat := fld c.w0 47 46
def Cmd.timed (c : Cmd) : Bool := bitAt c.w0 45
def Cmd.timeline (c : Cmd) : Nat := fld c.w0 44 42
def Cmd.sfn (c : Cmd) : Nat := fld c.w0 41 32
def Cmd.tag (c : Cmd) : Nat := fld c.w0 31 16
def Cmd.paramBytes (c : Cmd) : Nat := fld c.w0 15 0
def Cmd.dest (c : Cmd) : Nat := fld c.w1 63 52
def Cmd.hdrCrc (c : Cmd) : Nat := fld c.w1 15 0

/-- Parameter word k. -/
def Cmd.p (c : Cmd) (k : Nat) : W := c.params.getD k 0

/-- Parameter word k as a number. -/
def Cmd.n (c : Cmd) (k : Nat) : Nat := (c.p k).toNat

end Sys2Proof

namespace Sys2Proof.Machine

/-- Status codes of Table 13-9 with their code values. -/
inductive Status where
  | ok | pending | badHeader | badLength | badOpcode | badVersion | wrongDevice | notPermitted | conflictSuperseded
  | timingUnsupported | timedFull | tooLate | discontinuityCancelled | cancelled | busyTimeline | busyRigging
  | busyActiveBank | busyPending | busyQueue | targetAsleep | paramInvalid | riggingInvalid | epochStale | skeinInvalid
  | skeinNoSpace | indexConflict | bindFull | imageInvalid | dispatchRefused | internalError | relayTimeout
deriving DecidableEq, Repr

/-- The code of a status (Table 13-9). -/
def Status.code : Status → Nat
  | .ok => 0 | .pending => 1 | .badHeader => 0x101 | .badLength => 0x102 | .badOpcode => 0x103 | .badVersion => 0x104
  | .wrongDevice => 0x105 | .notPermitted => 0x201 | .conflictSuperseded => 0x202 | .timingUnsupported => 0x301
  | .timedFull => 0x302 | .tooLate => 0x303 | .discontinuityCancelled => 0x304 | .cancelled => 0x305
  | .busyTimeline => 0x401 | .busyRigging => 0x402 | .busyActiveBank => 0x403 | .busyPending => 0x404
  | .busyQueue => 0x405 | .targetAsleep => 0x406 | .paramInvalid => 0x501 | .riggingInvalid => 0x502
  | .epochStale => 0x503 | .skeinInvalid => 0x504 | .skeinNoSpace => 0x505 | .indexConflict => 0x506
  | .bindFull => 0x507 | .imageInvalid => 0x508 | .dispatchRefused => 0x509 | .internalError => 0x601
  | .relayTimeout => 0x602

/-- How a command's body ends: refused with a status and its DETAIL, nothing changed; done with a result block;
done with a status other than OK although it had an effect; accepted with the final reply still to come; or done by a reset, which
comes after the final reply. -/
inductive CmdResult where
  | refuse (st : Status) (detail : Nat)
  | done (result : List W) (s : State)
  | doneWith (st : Status) (detail : Nat) (s : State)
  | failed (st : Status) (detail : Nat) (s : State)
  | later (s : State)
  | reset (f : State → State)

/-- The body of an opcode: its own checks and effect on a packet that passed R287. -/
abbrev CmdBody := Cmd → State → CmdResult

/-- Refuse with PARAM_INVALID, DETAIL the index of the first bad parameter word. -/
def bad (k : Nat) : CmdResult := .refuse .paramInvalid k

/-- The first index for which a check of a list fails. -/
def firstBad (l : List (Nat × Bool)) : Option Nat := (l.find? fun x => !x.2).map (·.1)

/-- Run a continuation when every parameter word is in range, else refuse with the first bad index. -/
def checked (l : List (Nat × Bool)) (k : Unit → CmdResult) : CmdResult :=
  match firstBad l with
  | some i => bad i
  | none => k ()

/-- Who may issue an opcode (column Sources of Table 13-7): all; all but DRAVUA; the four masters; all but VF; 0-4
with Allow; functions for their own objects; SIDEBAND and PF0. -/
inductive Issuers where
  | all | notDravua | masters | notVf | allow | functions | owners
deriving DecidableEq, Repr

/-- The Timed column: No, Yes, Required. -/
inductive Timing where
  | no | yes | required
deriving DecidableEq, Repr

/-- A row of Table 13-7. -/
structure OpRow where
  code : Nat
  since : Nat
  timing : Timing
  who : Issuers
deriving DecidableEq, Repr

/-- Table 13-7, groups 0x00 to 0x06. -/
def opRowsA : List OpRow :=
  [⟨0x0000, 1, .no, .all⟩, ⟨0x0001, 1, .no, .notDravua⟩, ⟨0x0002, 1, .no, .all⟩, ⟨0x0003, 2, .no, .all⟩,
   ⟨0x0004, 2, .no, .masters⟩, ⟨0x0005, 3, .no, .masters⟩, ⟨0x0006, 1, .no, .notVf⟩, ⟨0x0007, 1, .yes, .notVf⟩,
   ⟨0x0100, 2, .no, .allow⟩, ⟨0x0101, 2, .no, .allow⟩, ⟨0x0102, 2, .no, .allow⟩, ⟨0x0200, 2, .no, .allow⟩,
   ⟨0x0201, 2, .no, .allow⟩, ⟨0x0202, 2, .required, .allow⟩, ⟨0x0203, 2, .no, .allow⟩, ⟨0x0300, 1, .yes, .allow⟩,
   ⟨0x0301, 3, .yes, .allow⟩, ⟨0x0400, 1, .yes, .allow⟩, ⟨0x0401, 1, .no, .allow⟩, ⟨0x0402, 2, .yes, .allow⟩,
   ⟨0x0403, 1, .no, .allow⟩, ⟨0x0404, 1, .yes, .allow⟩, ⟨0x0405, 1, .yes, .allow⟩, ⟨0x0406, 1, .yes, .allow⟩,
   ⟨0x0407, 2, .yes, .allow⟩, ⟨0x0500, 1, .no, .allow⟩, ⟨0x0501, 1, .no, .allow⟩, ⟨0x0502, 1, .no, .allow⟩,
   ⟨0x0503, 1, .no, .allow⟩, ⟨0x0504, 2, .no, .allow⟩, ⟨0x0505, 2, .no, .allow⟩, ⟨0x0506, 1, .no, .allow⟩,
   ⟨0x0507, 1, .no, .allow⟩, ⟨0x0508, 1, .no, .allow⟩, ⟨0x0600, 1, .yes, .allow⟩, ⟨0x0601, 2, .no, .allow⟩,
   ⟨0x0602, 1, .yes, .allow⟩, ⟨0x0603, 1, .yes, .allow⟩, ⟨0x0604, 1, .yes, .allow⟩, ⟨0x0605, 1, .no, .allow⟩]

/-- Table 13-7, groups 0x07 to 0x0E. -/
def opRowsB : List OpRow :=
  [⟨0x0700, 2, .yes, .allow⟩, ⟨0x0701, 2, .yes, .allow⟩, ⟨0x0702, 2, .yes, .allow⟩, ⟨0x0703, 2, .yes, .allow⟩,
   ⟨0x0704, 2, .no, .allow⟩, ⟨0x0800, 2, .no, .allow⟩, ⟨0x0801, 2, .yes, .allow⟩, ⟨0x0802, 2, .no, .allow⟩,
   ⟨0x0803, 2, .no, .allow⟩, ⟨0x0804, 2, .no, .allow⟩, ⟨0x0805, 2, .yes, .allow⟩, ⟨0x0806, 2, .yes, .allow⟩,
   ⟨0x0900, 2, .yes, .allow⟩, ⟨0x0901, 2, .no, .allow⟩, ⟨0x0A00, 2, .no, .functions⟩, ⟨0x0A01, 2, .no, .functions⟩,
   ⟨0x0A02, 1, .no, .functions⟩, ⟨0x0A03, 1, .no, .functions⟩, ⟨0x0A04, 1, .no, .functions⟩,
   ⟨0x0B00, 2, .yes, .allow⟩, ⟨0x0B01, 2, .yes, .allow⟩, ⟨0x0B02, 2, .no, .allow⟩, ⟨0x0B03, 3, .yes, .allow⟩,
   ⟨0x0B04, 3, .no, .allow⟩, ⟨0x0C00, 2, .no, .owners⟩, ⟨0x0C01, 2, .no, .owners⟩, ⟨0x0C02, 2, .no, .owners⟩,
   ⟨0x0C03, 3, .no, .owners⟩, ⟨0x0C04, 3, .no, .owners⟩, ⟨0x0D00, 2, .required, .allow⟩, ⟨0x0D01, 2, .no, .allow⟩,
   ⟨0x0D02, 2, .no, .allow⟩, ⟨0x0E00, 1, .no, .notVf⟩, ⟨0x0E01, 1, .no, .notVf⟩, ⟨0x0E02, 2, .no, .owners⟩,
   ⟨0x0E03, 2, .no, .owners⟩]

/-- The row of an opcode. -/
def opRow (code : Nat) : Option OpRow := (opRowsA ++ opRowsB).find? fun r => r.code == code

/-- The largest PARAM_BYTES of a source's transport (Table 13-5). -/
def maxBytes : Source → Nat
  | .sideband => 240 | .pf0 => 65528 | .inband => 8192 | .pf1 => 65528 | .dravua _ => 8192 | .vf _ => 4096

/-- Outstanding commands a source may hold (Table 13-5). -/
def maxOutstanding : Source → Nat
  | .sideband => 1 | .vf _ => 4 | _ => 16

/-- The command version that a Hello's link version gives a DRAVUA source (R297); other sources keep the version last
negotiated, 1 at reset. -/
def State.cmdVersion (s : State) (src : Source) : Nat := tget 1 s.cmd.version (srcKey src)

/-- Set a source's command version. -/
def State.setVersion (s : State) (src : Source) (v : Nat) : State :=
  { s with cmd := { s.cmd with version := tset 1 s.cmd.version (srcKey src) v } }

/-- May a source issue an opcode (R292)? -/
def State.permitted (s : State) (src : Source) (r : OpRow) : Bool :=
  let g := r.code / 256
  let allow := s.rg .sourceAllow
  let gate := match src with
    | .inband => bitAt allow (32 + g)
    | .pf1 => bitAt allow (16 + g)
    | .dravua _ => bitAt allow g
    | _ => true
  match r.who, src with
  | .all, _ => true
  | .notDravua, .dravua _ => false
  | .notDravua, _ => true
  | .masters, .dravua _ => false
  | .masters, .vf _ => false
  | .masters, _ => true
  | .notVf, .vf _ => false
  | .notVf, _ => true
  | .allow, .vf _ => false
  | .allow, _ => gate
  | .functions, .pf0 => true
  | .functions, .pf1 => true
  | .functions, .vf _ => true
  | .functions, _ => false
  | .owners, .sideband => true
  | .owners, .pf0 => true
  | .owners, _ => false

/-- Lengths in words that an opcode's parameter block may have, given its words (Tables 13-7, 13-11, 13-12, R288): least
and largest. -/
def paramWords (code : Nat) (c : Cmd) : Nat × Nat :=
  match code with
  | 0x0000 => (0, 0) | 0x0001 => (1, 1) | 0x0002 => (0, 0) | 0x0003 => (1, 1) | 0x0004 => (1, 1) | 0x0005 => (3, 8191)
  | 0x0006 => (1, 1) | 0x0007 => (2, 2) | 0x0100 => (30, 30) | 0x0101 => (2, 2) 
  | 0x0102 =>
    let d : Timeline := { w0 := c.p 1 }
    let n := 11 + (d.patternSlots + 15) / 16
    if d.p1 < 11 ∧ d.p2 < 11 ∧ n ≤ 91 then (n, n) else (11, 91)
  | 0x0200 => let k := if fld (c.p 0) 63 62 = 0 then 2 else 8
              (1 + k * fld (c.p 0) 47 32, 1 + k * fld (c.p 0) 47 32)
  | 0x0201 => (1, 1) | 0x0202 => (1, 1) | 0x0203 => (0, 0) | 0x0300 => (6, 6) | 0x0301 => (7, 7)
  | 0x0400 => (9, 9) | 0x0401 => (1, 1) | 0x0402 => (1, 1) | 0x0403 => (1, 1) | 0x0404 => (10, 10) | 0x0405 => (2, 2)
  | 0x0406 => (2, 2) | 0x0407 => (2, 14) | 0x0500 => (3, 3) | 0x0501 => (2, 2) | 0x0502 => (1, 1) | 0x0503 => (1, 1)
  | 0x0504 => (3, 8191) | 0x0505 => (1, 1) | 0x0506 => (2, 8191) | 0x0507 => (0, 1) | 0x0508 => (2, 9)
  | 0x0600 => (2, 2) | 0x0601 => (1, 1) | 0x0602 => (2, 2) | 0x0603 => (2, 2) | 0x0604 => (7, 7) | 0x0605 => (1, 1)
  | 0x0700 => (5 + fld (c.p 1) 30 22, 5 + fld (c.p 1) 30 22) | 0x0701 => (4, 4) | 0x0702 => (1, 1) | 0x0703 => (1, 1)
  | 0x0704 => (1, 1) | 0x0800 => (2, 2) | 0x0801 => (1, 1) | 0x0802 => (1, 1) | 0x0803 => (2, 2) | 0x0804 => (1, 1)
  | 0x0805 => (2, 2) | 0x0806 => (1, 1) | 0x0900 => (2, 2) | 0x0901 => (1, 1) | 0x0A00 => (9, 9) | 0x0A01 => (1, 1)
  | 0x0A02 => (8, 8) | 0x0A03 => (7, 7) | 0x0A04 => if bitAt (c.p 0) 63 then (12, 12) else (1, 1) | 0x0B00 => (2, 2) | 0x0B01 => (5, 5) | 0x0B02 => (1, 1)
  | 0x0B03 => (6, 6) | 0x0B04 => (9, 9) | 0x0C00 => if fld (c.p 0) 2 0 = 2 then (49, 49) else (1, 1)
  | 0x0C01 => (10, 10) | 0x0C02 => (0, 0) | 0x0C03 => (1, 936) | 0x0C04 => (0, 0) | 0x0D00 => (1, 1) | 0x0D01 => (2, 8191) | 0x0D02 => (1, 1) | 0x0E00 => (1, 1) | 0x0E01 => (1, 1)
  | 0x0E02 => (1, 1) | 0x0E03 => (3, 3)
  | _ => (0, 0)

/-! ### Replies (R286, Tables 13-3 and 13-4) -/

/-- Deliver a reply by the command's transport: an in-band interrupt, an admin completion entry with the result block at
RESULT_ADDR, or a frame of type 0x31 (R290, R291, R313, R314). -/
def deliverReply (c : Cmd) (w0 w1 : W) (result : List W) (s : State) : State :=
  match c.src, srcFn c.src with
  | .sideband, _ => s.signal (.ibi 0x31)
  | _, some f =>
    if !(s.fn f).enabled then s
    else
      let n := min (8 * result.length) c.ret.max
      let s := if n = 0 then s else hostWrite f c.ret.addr ((result.flatMap wordBytes).take n) false s
      let e0 : W := mk 60 60 (b2n (n < 8 * result.length))
      adminEntry f [e0, w0, w1, 0, 0, 0, 0, 0] s
  | _, none => mgmtFrameOut 0x31 c.ret.port c.ret.smac ([w0, w1] ++ result) s

/-- Build and send a reply to a command. Its VERSION is the command's; a NEGOTIATE_VERSION that is done answers with the version it
selected (Table 13-3, R298). -/
def sendReply (c : Cmd) (final : Bool) (st : Status) (detail : Nat) (result : List W) (s : State) : State :=
  let ver := if c.opcode = 1 ∧ st = .ok then s.cmdVersion c.src else c.version
  let w0 := BitVec.ofNat 64 (c.opcode * 2 ^ 48 + ver % 4 * 2 ^ 46 + b2n final * 2 ^ 45 + c.tag * 2 ^ 16
    + 8 * result.length % 65536)
  let w1n := st.code * 2 ^ 48 + detail % 65536 * 2 ^ 32 + s.deviceId % 4096 * 2 ^ 20
  let w1 : W := BitVec.ofNat 64 w1n
  let r : Reply := { src := c.src, w0 := w0, w1 := BitVec.ofNat 64 (w1n + replyCrc c.src w0 w1), result := result }
  deliverReply c r.w0 r.w1 result { s with out := { s.out with replies := s.out.replies ++ [r] } }

/-- Count a command in CMD_SRC_CNT: accepted [63:32], refused [31:16], superseded [15:0]. -/
def cntAccepted (c : Cmd) (s : State) : State := s.bump .cmdSrcCnt [srcCode c.src] 63 32
def cntRefused (c : Cmd) (s : State) : State := s.bump .cmdSrcCnt [srcCode c.src] 31 16
def cntSuperseded (c : Cmd) (s : State) : State := s.bump .cmdSrcCnt [srcCode c.src] 15 0

/-- Refuse a command: a final reply and nothing else (R287). -/
def refuse (c : Cmd) (st : Status) (detail : Nat) (s : State) : State :=
  sendReply c true st detail [] (cntRefused c s)

/-- End a command that another source's prevailed over (R301). -/
def supersede (c : Cmd) (winner : Source) (s : State) : State :=
  raiseInt 0 .cmdIntStatus [] 0 (sendReply c true .conflictSuperseded (srcCode winner) [] (cntSuperseded c s))

/-- The pending timed commands that a source issued; start-up's own commit has no issuer (R426). -/
def State.timedOf (s : State) (src : Source) : List TimedCmd := s.cmd.timed.filter fun t => t.cmd.src = src && !t.own

/-- Commands of a source that have no final reply yet (R289): its pending timed commands, its relays,
and its commands that wait for a domain (R347). -/
def State.outstanding (s : State) (src : Source) : Nat :=
  (s.timedOf src).length + (s.cmd.relays.filter fun r => r.cmd.src = src).length
    + (s.cmd.waiting.filter fun w => w.cmd.src = src).length + (s.cmd.opened.filter fun o => o.cmd.src = src).length

/-- An accepted command waits for its final reply. -/
def openCmd (kind key : Nat) (c : Cmd) (s : State) : State :=
  { s with cmd := { s.cmd with opened := s.cmd.opened ++ [{ cmd := c, kind := kind, key := key }] } }

/-- The final reply of the commands that wait on an object. -/
def closeCmd (kind key : Nat) (st : Status) (detail : Nat) (result : List W) (s : State) : State :=
  let mine := fun (o : OpenCmd) => o.kind == kind && o.key == key
  let l := s.cmd.opened.filter mine
  let s := { s with cmd := { s.cmd with opened := s.cmd.opened.filter fun o => !mine o } }
  l.foldl (fun s o => sendReply o.cmd true st detail result s) s

/-! ### Conflict keys (R299) -/

/-- Keys for each Tile that a TILES mask names: `n` objects from `first` on. -/
def tileKeys (kind : Nat) (mask first : Nat) (n : Nat := 1) : List ObjKey := (bitsOf 16 mask).map fun t => ⟨kind, t, first, n⟩

/-- The objects a command names. Kinds: 0 event route, 1 register, 2 Mast clock, 3 timeline, 4 shadow bank, 5 Rigging,
6 port, 7 lane pair, 8 rule, 9 classifier, 10 policer, 11 indirection entry, 12 CPU code, 13 encapsulation entry,
14 L2 entry, 15 Tile L2, 16 LPM word, 17 flood set, 18 queue, 19 plane, 20 shaper, 21 Skein, 22 Hook bank, 23 Hook
cluster, 24 dispatch entry, 25 engine, 26 service, 27 flow class, 28 queue pair, 29 channel, 30 pool, 31 function,
32 class group, 33 operating point, 34 power cap, 35 domain, 37 lifecycle, 38 MACsec, 39 locker, 40 debug,
41 profile (TACK), 42 stored profile, 43 fault record, 44 force bit, 45 flip memory. -/
def keysOf (c : Cmd) : List ObjKey :=
  match c.opcode with
  | 0x0004 => (bitsOf 12 (c.n 0)).map fun k => ⟨0, k, 0, 1⟩
  | 0x0007 => [⟨1, c.n 0, 0, 1⟩]
  | 0x0100 | 0x0101 => [⟨2, 0, 0, 1⟩]
  | 0x0102 => [⟨3, c.n 0 % 8, 0, 1⟩]
  | 0x0200 => [⟨4, 0, 0, 1⟩]
  | 0x0202 | 0x0203 => [⟨5, 0, 0, 1⟩]
  | 0x0300 => [⟨6, c.n 0, 0, 1⟩]
  | 0x0301 => [⟨7, c.n 0, 0, 1⟩]
  | 0x0400 => tileKeys 8 (fld (c.p 0) 63 48) (fld (c.p 0) 12 0)
  | 0x0401 => tileKeys 9 (fld (c.p 0) 63 48) 0
  | 0x0402 => [⟨9, fld (c.p 0) 63 60, 0, 1⟩]
  | 0x0404 => [⟨10, c.n 0, c.n 1, 1⟩]
  | 0x0405 => tileKeys 11 (fld (c.p 0) 63 48) (fld (c.p 0) 8 0)
  | 0x0406 => [⟨12, fld (c.p 0) 11 0, 0, 1⟩]
  | 0x0407 => tileKeys 13 (fld (c.p 0) 63 48) (fld (c.p 0) 7 0)
  | 0x0500 => tileKeys 14 (fld (c.p 0) 63 48) (fld (c.p 1) 46 35 * 2 ^ 48 + fld (c.p 2) 47 0)
  | 0x0501 => tileKeys 14 (fld (c.p 0) 63 48) (fld (c.p 1) 59 0)
  | 0x0502 => tileKeys 15 (fld (c.p 0) 63 48) 0
  | 0x0504 | 0x0505 => [⟨15, fld (c.p 0) 63 60, 0, 1⟩]
  | 0x0506 => tileKeys 16 (fld (c.p 0) 63 48) (fld (c.p 0) 31 0) (max 1 (c.params.length - 2))
  | 0x0508 => tileKeys 17 (fld (c.p 0) 63 48) (fld (c.p 0) 31 31 * 65536 + fld (c.p 0) 11 0)
  | 0x0600 | 0x0602 => [⟨18, c.n 0, 0, 1⟩]
  | 0x0601 => [⟨19, fld (c.p 0) 3 0, 0, 1⟩]
  | 0x0603 => [⟨6, c.n 0, 0, 1⟩]
  | 0x0604 => [⟨20, c.n 0, 0, 1⟩]
  | 0x0700 | 0x0701 | 0x0702 | 0x0703 => [⟨21, fld (c.p 0) 15 0, 0, 1⟩]
  | 0x0800 => (bitsOf 4 (fld (c.p 0) 3 0)).map fun q => ⟨22, q, fld (c.p 0) 4 4, 1⟩
  | 0x0801 | 0x0802 => (bitsOf 4 (fld (c.p 0) 3 0)).map fun q => ⟨23, q, 0, 1⟩
  | 0x0803 => [⟨24, fld (c.p 0) 9 8, fld (c.p 0) 10 10 * 256 + fld (c.p 0) 7 0, 1⟩]
  | 0x0804 => [⟨25, fld (c.p 0) 5 4, fld (c.p 0) 3 0, 1⟩]
  | 0x0805 => [⟨26, fld (c.p 0) 17 16, fld (c.p 0) 3 0, 1⟩]
  | 0x0900 => [⟨27, c.n 0, 0, 1⟩]
  | 0x0A00 => [⟨28, (srcFn c.src).getD 0, c.n 0, 1⟩]
  | 0x0A01 => [⟨28, (srcFn c.src).getD 0, fld (c.p 0) 11 0, 1⟩]
  | 0x0A02 => [⟨29, c.n 0, 0, 1⟩]
  | 0x0A03 => [⟨30, c.n 0, 0, 1⟩]
  | 0x0A04 => [⟨31, (srcFn c.src).getD 0, 0, 1⟩]
  | 0x0B00 => if c.n 0 = 255 then (List.range 8).map fun g => ⟨32, g, 0, 1⟩ else [⟨32, c.n 0, 0, 1⟩]
  | 0x0B01 => [⟨33, c.n 0, 0, 1⟩]
  | 0x0B02 => [⟨34, 0, 0, 1⟩]
  | 0x0B03 => if c.n 0 = 255 then (List.range 38).map fun d => ⟨35, d, 0, 1⟩ else [⟨35, c.n 0, 0, 1⟩]
  | 0x0B04 => [⟨3, c.n 0 % 8, 0, 1⟩]
  | 0x0C00 => [⟨37, 0, 0, 1⟩]
  | 0x0C01 => [⟨38, fld (c.p 0) 31 16, fld (c.p 0) 37 32, 1⟩]
  | 0x0C02 => [⟨39, 0, 0, 1⟩]
  | 0x0C03 | 0x0C04 => [⟨40, 0, 0, 1⟩]
  | 0x0D00 => [⟨41, 0, 0, 1⟩]
  | 0x0D01 => [⟨42, fld (c.p 0) 1 0, 0, 1⟩]
  | 0x0E01 => [⟨43, fld (c.p 0) 31 16, 0, 1⟩]
  | 0x0E02 => [⟨44, fld (c.p 0) 31 16, fld (c.p 0) 3 0, 1⟩]
  | 0x0E03 => [⟨45, fld (c.p 0) 31 16, fld (c.p 0) 15 8, 1⟩]
  | _ => []

/-- Is an opcode of a group that TACK overlaps (R299)? -/
def tackGroup (c : Cmd) : Bool := [2, 6, 7, 0xB].contains c.group && !(keysOf c).isEmpty

/-- Do two keys name a common object? -/
def ObjKey.meets (a b : ObjKey) : Bool :=
  a.kind == b.kind && a.obj == b.obj && decide (a.first < b.first + b.count) && decide (b.first < a.first + a.count)

/-- Two commands overlap when they name a common object; TACK overlaps groups 0x02, 0x06, 0x07 and 0x0B (R299). -/
def overlaps (a b : Cmd) : Bool :=
  (keysOf a).any (fun k => (keysOf b).any k.meets)
  || (a.opcode == 0xD00 && tackGroup b) || (b.opcode == 0xD00 && tackGroup a)

/-- Rank of a source: lower prevails (R300). -/
def rank : Source → Nat
  | .dravua d => 4 + d
  | .vf v => 0x10000 + v
  | s => srcCode s

/-- Sources between which conflicts exist: VF commands never conflict, nor two commands of one source. -/
def mayConflict (a b : Source) : Bool := a != b && srcCode a != 5 && srcCode b != 5

/-- The commands waiting in the queue, as the intake sees them. -/
def cmdOfInstr : Instr → Option Cmd
  | .nop c => some c | .negotiateVersion c => some c | .deviceInfo c => some c | .cmdCancel c => some c
  | .eventSubscribe c => some c | .eventUnsubscribe c => some c | .mgmtRelay c => some c | .regRead c => some c
  | .regWrite c => some c | .mastConfig c => some c | .mastSetTime c => some c | .timelineSet c => some c
  | .riggingWriteEntries c => some c | .riggingWriteTargetSets c => some c | .riggingRead c => some c
  | .riggingCommit c => some c | .riggingCancel c => some c | .portAdmin c => some c | .laneDozeConfig c => some c
  | .classRuleWrite c => some c | .classMode c => some c | .classBankSwap c => some c
  | .classCounterRead c => some c | .policerSet c => some c | .indirWrite c => some c | .cpuCodeWrite c => some c
  | .encapWrite c => some c | .l2EntryWrite c => some c | .l2EntryDelete c => some c | .l2Flush c => some c
  | .l2Dump c => some c | .l2Reseed c => some c | .l2RehashAck c => some c | .lpmWrite c => some c
  | .lpmSync c => some c | .floodSetWrite c => some c | .bufQueueConfig c => some c | .xbarPlaneEnable c => some c
  | .tmQueueConfig c => some c | .tmPortConfig c => some c | .shaperSet c => some c | .tmCounterRead c => some c
  | .skeinCreate c => some c | .skeinModify c => some c | .skeinDestroy c => some c | .skeinMove c => some c
  | .skeinRead c => some c | .hookLoad c => some c | .hookBankSwitch c => some c | .hookForceSwap c => some c
  | .hookDispatchWrite c => some c | .hookEngineEnable c => some c | .hookServiceConfig c => some c
  | .hookCall c => some c | .telemConfig c => some c | .telemHistRead c => some c | .castOn c => some c
  | .bindOff c => some c | .dmaChannelConfig c => some c | .poolConfig c => some c | .legacyModeSwitch c => some c
  | .legacyQueueConfig c => some c | .powerTolerance c => some c | .opPointSet c => some c | .powerCap c => some c
  | .domainForce c => some c | .deviceWideForce c => some c | .cellSleepSleep c => some c
  | .cellSleepWake c => some c | .lifecycleAdvance c => some c | .macsecKekInstall c => some c
  | .macsecTxSakInstall c => some c | .macsecRxSakInstall c => some c | .macsecPtpKeyInstall c => some c
  | .macsecKeyDelete c => some c | .zeroize c => some c | .debugChallenge c => some c | .debugPart c => some c
  | .debugOpen c => some c | .debugClose c => some c | .tack c => some c | .profileWrite c => some c
  | .profileRead c => some c | .faultRead c => some c | .faultAck c => some c | .forceSet c => some c
  | .flipMaskSet c => some c
  | _ => none

/-- The immediate commands of the same clock that wait behind an immediate one although their sources have a lower code: they apply
before it (R300). -/
def State.ahead (s : State) (c : Cmd) : List Cmd :=
  if c.timed then []
  else
    let peers := (s.pending.filterMap cmdOfInstr).filter fun d => d.clock == c.clock && !d.timed && !s.cmd.early.contains d
    (List.range (srcCode c.src)).flatMap fun k => peers.filter fun d => srcCode d.src == k

/-- The source of the lowest rank, which prevails (R300). -/
def lowest : List Source → Option Source
  | [] => none
  | a :: l => match lowest l with
    | some b => if rank b < rank a then some b else some a
    | none => some a

/-- A queued command of the same clock that prevails over an immediate command (R300). -/
def queuedWinner (c : Cmd) (l : List Instr) : Option Source :=
  lowest (((l.filterMap cmdOfInstr).filter fun d => d.clock == c.clock && !d.timed && mayConflict c.src d.src
    && decide (rank d.src < rank c.src) && overlaps c d).map (·.src))

/-- A command that already passed the intake in the same clock and prevails (R300). -/
def intakeWinner (c : Cmd) (s : State) : Option Source :=
  if s.cmd.intakeClock = c.clock then
    lowest ((s.cmd.intake.filter fun i => mayConflict c.src i.src && decide (rank i.src < rank c.src)
      && (keysOf c).any (fun k => i.keys.any k.meets)).map (·.src))
  else none

/-- Remember a command at the intake of its clock. -/
def noteIntake (c : Cmd) (s : State) : State :=
  let i : Intake := { src := c.src, keys := keysOf c }
  if s.cmd.intakeClock = c.clock then { s with cmd := { s.cmd with intake := s.cmd.intake ++ [i] } }
  else { s with cmd := { s.cmd with intakeClock := c.clock, intake := [i] } }

/-! ### Header checks (R287) -/

/-- HDR_CRC of a command over header bytes 0 to 13. -/
def hdrCrcOf (c : Cmd) : Nat := crc16 (wordBytes c.w0 ++ (wordBytes c.w1).take 6)

/-- The first refusal of R287 that applies to a packet carried as opcode `code`, none when it passes. -/
def headerCheck (code : Nat) (c : Cmd) (s : State) : Option (Status × Nat) :=
  let cur := s.cmdVersion c.src
  let onLink := match c.src with | .inband => true | .dravua _ => true | _ => false
  if (c.src = .sideband && hdrCrcOf c != c.hdrCrc) || fld c.w1 51 16 != 0 || c.paramBytes % 8 != 0
      || (c.version = 1 && fld c.w0 45 32 != 0) then some (.badHeader, 0)
  else if onLink && c.dest != s.deviceId && c.dest != 0xFFF then some (.wrongDevice, s.deviceId)
  else if code != 1 && c.version != cur then some (.badVersion, cur)
  else match opRow code with
    | none => some (.badOpcode, 0)
    | some r =>
      if cur < r.since then some (.badOpcode, 0)
      else if !s.permitted c.src r then some (.notPermitted, 0)
      else
        let n := c.paramBytes / 8
        let lim := min (paramWords code c).2 (maxBytes c.src / 8)
        if maxBytes c.src < c.paramBytes || n < (paramWords code c).1 || (paramWords code c).2 < n then
          some (.badLength, lim)
        else if (c.timed && r.timing = .no) || (!c.timed && r.timing = .required) then some (.timingUnsupported, 0)
        else none

/-- Opcodes that Fololmane takes before READY (R424). -/
def earlyOpcode (code : Nat) : Bool := [0x0000, 0x0001, 0x0002, 0x0006, 0x0007, 0x0E00, 0x0E01, 0x0D02].contains code

/-- A command waits until a domain has left its sleep (R345, R347); the domain begins its exit. -/
def awaitDomain (code d : Nat) (c : Cmd) (s : State) : State :=
  let t := wakeDomain d s
  { t with cmd := { t.cmd with waiting := t.cmd.waiting ++ [{ cmd := c, opcode := code, domain := d }] } }

/-! ### Timed commands (R294 to R296, R300, R301) -/

/-- The switch tick of a pending timed command: the boundary tick of its frame start. -/
def State.switchTick (s : State) (t : TimedCmd) : Int := s.boundaryTick t.at16

/-- The preparation of a Tack that ends without applying is withdrawn: its staged profile and the new Skeins (R432). -/
def unstage (s : State) : State :=
  let gone := s.sk.descs.filter fun x => x.2.unbound
  let theirs := fun (n : Nat) => gone.any fun x => fld x.2.w0 18 0 ≤ n && n < fld x.2.w0 18 0 + fld x.2.w0 30 22
  { s with
    boot := { s.boot with staged := [] }
    sk := { s.sk with
      descs := s.sk.descs.filter fun x => !x.2.unbound
      strands := s.sk.strands.filter fun e => !theirs e.1 } }

/-- The events that were evaluated for the bank a switch would have made active leave the event bus (R63). -/
def dropShadow (s : State) : State :=
  { s with rig := { s.rig with evaluated := s.rig.evaluated.filter fun v => v.bank == s.rig.active } }

/-- A pending bank switch or Tack that ends without applying sets SWITCH_CANCELLED (R65), and its bank fires nothing. -/
def switchLost (t : TimedCmd) (s : State) : State :=
  when (t.opcode == 0x202 || t.opcode == 0xD00) (fun s => raiseInt 5 .rigIntStatus [] 2 (dropShadow s))
    (when (t.opcode == 0xD00) unstage s)

/-- The final reply of a pending timed command; start-up's own commit has no issuer (R426). -/
def timedReply (t : TimedCmd) (st : Status) (detail : Nat) (result : List W) (s : State) : State :=
  if t.own then s else sendReply t.cmd true st detail result s

/-- End pending commands with a status, each with its final reply. -/
def endTimed (st : Status) (detail : Nat) (p : TimedCmd → Bool) (s : State) : State :=
  let ended := s.cmd.timed.filter p
  let s := { s with cmd := { s.cmd with timed := s.cmd.timed.filter fun t => !p t } }
  let s := ended.foldl (fun s t => switchLost t (timedReply t st detail [] s)) s
  when (!ended.isEmpty) (raiseInt 0 .cmdIntStatus [] 1) s

/-- The pending commands that an arriving timed command ends (R301): lower-ranked, overlapping, of the same switch tick. -/
def State.losesTo (s : State) (c : Cmd) (t : TimedCmd) : Bool :=
  s.switchTick t == s.boundaryTick (s.switch16 c.timeline c.sfn) && mayConflict c.src t.cmd.src
    && decide (rank c.src < rank t.cmd.src) && overlaps c t.cmd

/-- The state against which an arriving timed command is checked at acceptance: without the pending commands that it ends. -/
def State.without (s : State) (c : Cmd) : State :=
  { s with cmd := { s.cmd with timed := s.cmd.timed.filter fun t => !s.losesTo c t } }

/-- Hold a timed command that passed its checks at acceptance: interim reply PENDING, pending list, and lower-ranked
overlapping commands of the same switch tick ended (R301). -/
def holdTimed (code : Nat) (c : Cmd) (s : State) : State :=
  let at16 := s.switch16 c.timeline c.sfn
  let losers := s.cmd.timed.filter (s.losesTo c)
  let s := losers.foldl (fun s t => switchLost t (supersede t.cmd c.src s)) (s.without c)
  let t : TimedCmd := { cmd := c, opcode := code, at16 := at16, order := s.cmd.nextOrder }
  let s := { s with cmd := { s.cmd with timed := s.cmd.timed ++ [t], nextOrder := s.cmd.nextOrder + 1 } }
  let n := (s.timedOf c.src).length
  sendReply c false .pending n [] (cntAccepted c s)

/-- The refusal that a timed command meets at acceptance (R294, R301). -/
def timedRefusal (c : Cmd) (s : State) : Option (Status × Nat) :=
  if !(s.timeline c.timeline).configured then some (.busyTimeline, c.timeline)
  else if 256 ≤ s.cmd.timed.length || 64 ≤ (s.timedOf c.src).length then
    some (.timedFull, 0)
  else
    let tick := s.boundaryTick (s.switch16 c.timeline c.sfn)
    match s.cmd.timed.find? fun t => s.switchTick t == tick && mayConflict c.src t.cmd.src
        && rank t.cmd.src < rank c.src && overlaps c t.cmd with
    | some t => some (.conflictSuperseded, srcCode t.cmd.src)
    | none => none

/-- Answer a command by its body's result. -/
def answer (c : Cmd) (r : CmdResult) (s : State) : State :=
  match r with
  | .refuse st d => refuse c st d s
  | .done res t => sendReply c true .ok 0 res (cntAccepted c t)
  | .doneWith st d t => sendReply c true st d [] (cntAccepted c t)
  | .failed st d t => refuse c st d t
  | .later t => cntAccepted c t
  | .reset f => f (sendReply c true .ok 0 [] (cntAccepted c s))

/-- An immediate command of the source waits for a domain: the next one waits behind it, for the source's commands apply and are
answered in the order in which they came (R292). -/
def State.queuesBehind (s : State) (c : Cmd) : Option WaitingCmd :=
  if c.timed then none else s.cmd.waiting.find? fun w => w.cmd.src == c.src && !w.cmd.timed

/-- Take a command packet as opcode `code` (R285 to R301, R347, R424): the intake's limits, the header checks, the
conflicts, then the body at once, or at acceptance for a timed command (R295: it is checked now, applied later).
`domain` is the power domain of its target, none where no sleeping domain can refuse it. -/
def runCommand (code : Nat) (domain : Cmd → State → Option Nat) (body : CmdBody) (c : Cmd) (s : State) : State :=
  if s.boot.stage < 4 then s
  else if (s.domain domMgmt).state != 0 then
    if c.src = .sideband then wakeDomain domMgmt s else awaitDomain code domMgmt c s
  else if maxOutstanding c.src ≤ s.outstanding c.src then
    when (c.src = .sideband) (raiseInt 0 .cmdIntStatus [] 3) s
  else match s.queuesBehind c with
  | some w => { s with cmd := { s.cmd with waiting := s.cmd.waiting ++ [{ cmd := c, opcode := code, domain := w.domain }] } }
  | none =>
    match headerCheck code c s with
    | some (st, d) =>
      when (c.src = .sideband && hdrCrcOf c != c.hdrCrc) (raiseInt 0 .cmdIntStatus [] 4) (refuse c st d s)
    | none =>
      if !s.boot.ready && !earlyOpcode code then refuse c .busyPending 0 s
      else
        let asleep := match domain c s with
          | some d => if s.mustLeave d then some d else none
          | none => none
        match asleep with
        | some d =>
          if (s.domain d).force = 0 then awaitDomain code d c s
          else refuse c .targetAsleep d s
        | none =>
          if c.timed then
            match timedRefusal c s with
            | some (.conflictSuperseded, _) =>
              match s.cmd.timed.find? fun t => s.switchTick t == s.boundaryTick (s.switch16 c.timeline c.sfn)
                  && mayConflict c.src t.cmd.src && rank t.cmd.src < rank c.src && overlaps c t.cmd with
              | some t => supersede c t.cmd.src s
              | none => s
            | some (st, d) => refuse c st d s
            | none =>
              match body c (s.without c) with
              | .refuse st d => refuse c st d s
              | .failed st d t => refuse c st d { t with cmd := { t.cmd with timed := s.cmd.timed } }
              | _ => holdTimed code c s
          else
            match intakeWinner c s with
            | some w => supersede c w s
            | none => match queuedWinner c s.pending with
              | some w => supersede c w s
              | none => let s := noteIntake c s; answer c (body c s) s

/-- A pending timed command comes to apply (R295): it leaves the list, its body runs with its second check, and its final reply goes
to its issuer. -/
def applyTimed (body : CmdBody) (t : TimedCmd) (s : State) : State :=
  let s := { s with cmd := { s.cmd with timed := s.cmd.timed.erase t } }
  match body t.cmd s with
  | .refuse st d => switchLost t (timedReply t st d [] s)
  | .done res u => timedReply t .ok 0 res u
  | .doneWith st d u => timedReply t st d [] u
  | .failed st d u => switchLost t (timedReply t st d [] u)
  | .later u => u
  | .reset f => f (timedReply t .ok 0 [] s)

/-- Is a pending timed command due: has its switch tick come? -/
def State.timedDue (s : State) (t : TimedCmd) : Bool := decide (s.switchTick t ≤ s.tick)

/-- The management controller reads a run of protected words for a command; an uncorrectable one fails the command with
INTERNAL_ERROR and DETAIL the block (Table 17-2). -/
def mgmtReads (b n mem addr k : Nat) (s : State) (f : State → CmdResult) : CmdResult :=
  match memReadN b n mem addr 7 k s with
  | (true, t) => f t
  | (false, t) => .failed .internalError b t

/-- No sleeping domain refuses the command. -/
def noDomain : Cmd → State → Option Nat := fun _ _ => none

end Sys2Proof.Machine
end

