-- ==== Sys2Proof/Machine/Events.lean ====
section
/-! DEFINITION. Posting of events to a cluster's dispatch queue (R252 to R254), used by every block that has work for the
Hook engines. -/

namespace Sys2Proof.Machine

/-- Cluster q. -/
def State.cluster (s : State) (q : Nat) : Cluster := tget {} s.hk.clusters q

/-- Set cluster q. -/
def State.setCluster (s : State) (q : Nat) (v : Cluster) : State :=
  { s with hk := { s.hk with clusters := tset {} s.hk.clusters q v } }

/-- Fields of an event record. -/
def HkEvent.opcode (e : HkEvent) : Nat := fld e.w0 63 56
def HkEvent.source (e : HkEvent) : Nat := fld e.w0 55 53
def HkEvent.payload (e : HkEvent) : Nat := fld e.w0 31 0
def HkEvent.skein (e : HkEvent) : Nat := fld e.w1 63 48
def HkEvent.port (e : HkEvent) : Nat := fld e.w3 31 23

/-- Word 0 of an event record. -/
def evWord0 (opcode source bytes payload : Nat) : W :=
  BitVec.ofNat 64 (opcode % 256 * 2 ^ 56 + source % 8 * 2 ^ 53 + bytes % 32768 * 2 ^ 38 + payload % 2 ^ 32)

/-- Words 2 and 3 of the record of an event that carries a packet. -/
def evTime (p : Pkt) : W × W :=
  let t := MTime.of16 p.rx16
  (t.hi, t.lo ||| BitVec.ofNat 64 (p.inPort % 512 * 2 ^ 23 + b2n p.hold * 2 ^ 22 + p.tsEpoch % 4 * 2 ^ 20 + b2n p.uncal * 2 ^ 19))

/-- The dispatch entry of an opcode in the active bank. -/
def Cluster.entry (c : Cluster) (bank op : Nat) : W := tget 0 c.disp (256 * bank + op)

/-- A domain has work: an AUTO domain begins its exit (R345) and its idle time starts anew. -/
def work (d : Nat) (s : State) : State :=
  let s := wakeDomain d s
  s.setDomain d { s.domain d with idleSince := List.replicate 4 s.tick }

/-- Post an event to cluster q (R252, R254): dropped and counted when its opcode or its dispatch entry is invalid, or
when the queue of 8,192 events is full and the event is no fixed event of HARDWARE source. -/
def postHook (q : Nat) (e : HkEvent) (s : State) : State :=
  let soft := e.source == 1 || e.source == 2 || e.source == 3 || e.source == 5
  let r := memRead 8 q 2 (2 * e.opcode + (s.cluster q).active) 4 s
  let s := r.st
  let c := s.cluster q
  let ent := r.data (c.entry c.active e.opcode)
  if (soft && (e.opcode < 0x10 || 0xF7 < e.opcode)) || !r.ok || !bitAt ent 63 then s.bump .hkCnt0 [q] 63 48
  else if 8192 ≤ c.queue.length && !e.hard then
    raiseInt 8 .hkIntStatus [q] 4 (s.bump .hkCnt0 [q] 47 32)
  else
    let e' : HkEvent := { e with prio := fld ent 60 59, seq := c.nextSeq }
    work (domCluster q) (s.setCluster q { c with queue := c.queue ++ [e'], nextSeq := c.nextSeq + 1 })

/-- Mark waits of one engine, those that a trap or a preemption interrupted too. -/
def Engine.markWaits (n : Engine) (f : WaitOn → WaitOn) : Engine :=
  { n with wait := n.wait.map f, routine := n.routine.map fun r => { r with wait := r.wait.map f }
           under := n.under.map fun r => { r with wait := r.wait.map f } }

/-- Mark waits of every engine of a cluster. -/
def markWaits (q : Nat) (f : WaitOn → WaitOn) (s : State) : State :=
  let c := s.cluster q
  s.setCluster q { c with engines := c.engines.map fun x => (x.1, x.2.markWaits f) }

end Sys2Proof.Machine
end

