-- ==== Sys2Proof/Machine/Parser.lean ====
section
/-! DEFINITION. The ingress parser (R106 to R109, R477) and the lookup keys (R110). Pure functions of the frame's bytes
(from its DMAC, without its FCS) and the Tile's parser settings. -/

namespace Sys2Proof.Machine

/-- Settings the parser reads: PARSE_CFG, DRAVUA_ETYPE, INNER_KEY. -/
structure ParseCfg where
  ecpriPort : Nat := 0
  vxlanPort : Nat := 0
  genevePort : Nat := 0
  tpid : Nat := 0
  dravua : Nat := 0x88B5
  inner : Bool := false
deriving DecidableEq, Repr

/-- What the parser has read. `fail` is a code of Table 5-2 (0: none) and `at` the offset of the header it stopped in. The
fields down to `sub` are those of the key; `tagEnd` is the offset of the EtherType after the outer tags, `ipOff` that of the
outermost IP header, `ipKind` 4 or 6 for the key's IP header. -/
structure Parse where
  off : Nat := 0
  cnt : Nat := 0
  fail : Nat := 0
  vlans : Nat := 0
  mpls : Nat := 0
  tagged : Bool := false
  opcp : Nat := 0
  dei : Bool := false
  ovid : Nat := 0
  ivid : Nat := 0
  dmac : Nat := 0
  smac : Nat := 0
  etype : Nat := 0
  ipKind : Nat := 0
  sip : Nat := 0
  dip : Nat := 0
  proto : Nat := 0
  dscp : Nat := 0
  ecn : Nat := 0
  frag : Bool := false
  ipExt : Bool := false
  ttlExp : Bool := false
  csumBad : Bool := false
  l4src : Nat := 0
  l4dst : Nat := 0
  tcpFlags : Nat := 0
  tunnel : Bool := false
  tunnelId : Nat := 0
  isInner : Bool := false
  ecpri : Bool := false
  transport : Nat := 0
  msg : Nat := 0
  eaxc : Nat := 0
  dir : Nat := 0
  filter : Nat := 0
  frame : Nat := 0
  subframe : Nat := 0
  slot : Nat := 0
  symbol : Nat := 0
  sectionType : Nat := 0
  sectionId : Nat := 0
  startPrb : Nat := 0
  numPrb : Nat := 0
  ptp : Bool := false
  ptpMsg : Nat := 0
  ptpDomain : Nat := 0
  ptpSeq : Nat := 0
  dravua : Bool := false
  dravuaType : Nat := 0
  dravuaSrc : Nat := 0
  tagEnd : Nat := 12
  ipOff : Nat := 0
  shim : Bool := false
  ecpriOff : Nat := 0
deriving DecidableEq, Repr

/-- What the parser reads next. -/
inductive Next where
  | eth | ethertype (t : Nat) | mpls | ipv4 | ipv6 | v6ext (nh : Nat) | proto (p : Nat) | udp | tcp | icmp | gre | vxlan | geneve
  | ecpri | app | sect (off : Nat) | ptp | dravua | done
deriving DecidableEq, Repr

/-- Stop with a parse-failure code. -/
def Parse.stop (p : Parse) (code : Nat) : Parse × Next := ({ p with fail := code }, .done)

/-- A header of n needed bytes may be read: the limits of R106 and R477 (13th header, bytes past 255, end of frame). DESIGN CHOICE (log
79): Table 5-2 gives a 13th header that is also too long or truncated no one code; the model declares DEPTH_HEADERS first. -/
def Parse.need (p : Parse) (len n : Nat) (first : Bool) : Option Nat :=
  if first ∧ 12 ≤ p.cnt then some 3 else if 256 < p.off + n then some 2 else if len < p.off + n then some 1 else none

/-- Read a header when its needed bytes are there, else stop. -/
def Parse.reading (p : Parse) (len n : Nat) (k : Parse → Parse × Next) : Parse × Next :=
  match p.need len n true with
  | some c => p.stop c
  | none => k { p with cnt := p.cnt + 1 }

/-- The ones' complement sum of the 16-bit words of n bytes. -/
def onesSum (b : List Byte) (off n : Nat) : Nat :=
  (List.range (n / 2)).foldl (fun a i =>
    let s := a + bytesNat b (off + 2 * i) 2
    if 65536 ≤ s then s - 65535 else s) 0

/-- Enter the inner packet of a tunnel, or end the parse there when the key uses the outer headers (R109). Where the tunnel carries no
inner header that Table 5-1 lists, parsing ends with every inner field zero. -/
def Parse.enter (c : ParseCfg) (p : Parse) (next : Next) (eth : Bool) : Parse × Next :=
  if !c.inner then (p, .done)
  else
    let q : Parse := { p with
      isInner := true, vlans := 0, mpls := 0, transport := 0, ivid := 0, dmac := 0, smac := 0, etype := 0, ipKind := 0, sip := 0, dip := 0
      proto := 0, dscp := 0, ecn := 0, ipExt := false, ttlExp := false, csumBad := false, l4src := 0, l4dst := 0, tcpFlags := 0 }
    (if eth then q else { q with vlans := 0 }, next)

/-- A VLAN tag protocol identifier (Table 5-1). -/
def isTpid (c : ParseCfg) (t : Nat) : Bool := t == 0x8100 || t == 0x88A8 || t == 0x9100 || (c.tpid != 0 && t == c.tpid)

/-- Ethernet header. -/
def parseEth (b : List Byte) (p : Parse) : Parse × Next :=
  p.reading b.length 14 fun p =>
    let t := bytesNat b (p.off + 12) 2
    ({ p with dmac := bytesNat b p.off 6, smac := bytesNat b (p.off + 6) 6, etype := t, off := p.off + 14
              tagEnd := if p.isInner then p.tagEnd else p.off + 12 }, .ethertype t)

/-- A VLAN tag. -/
def parseVlan (b : List Byte) (p : Parse) : Parse × Next :=
  if p.vlans = 4 then p.stop 4
  else p.reading b.length 4 fun p =>
    let tci := bytesNat b p.off 2
    let t := bytesNat b (p.off + 2) 2
    let vid := tci % 4096
    let q := { p with vlans := p.vlans + 1, off := p.off + 4, etype := t, tagEnd := if p.isInner then p.tagEnd else p.off + 2 }
    let q :=
      if p.isInner then (if p.vlans = 0 then { q with ivid := vid } else q)
      else if p.vlans = 0 then { q with tagged := true, opcp := tci / 8192, dei := tci / 4096 % 2 == 1, ovid := vid }
      else if p.vlans = 1 then { q with ivid := vid } else q
    (q, .ethertype t)

/-- The bytes of a frame that the parser reads: the first 256 (R106). -/
def window (b : List Byte) : List Byte := b.take 256

/-- An MPLS label; at the bottom of the stack the first nibble decides. Where the frame or byte 255 ends before it, parsing ends there:
DESIGN CHOICE (log 79), no needed bytes of R477 hold the nibble. -/
def parseMpls (b : List Byte) (p : Parse) : Parse × Next :=
  p.reading b.length 4 fun p =>
    let bottom := byteAt b (p.off + 2) % 2 == 1
    let q := { p with mpls := p.mpls + 1, off := p.off + 4 }
    if bottom then
      let n := if q.off < (window b).length then byteAt b q.off / 16 else 0
      (q, if n = 4 then .ipv4 else if n = 6 then .ipv6 else .done)
    else if q.mpls = 8 then q.stop 5
    else (q, .mpls)

/-- IPv4 header (R107, R108). -/
def parseIpv4 (b : List Byte) (p : Parse) : Parse × Next :=
  match p.need b.length 1 true with
  | some c => p.stop c
  | none =>
    let ihl := byteAt b p.off % 16 * 4
    if byteAt b p.off / 16 ≠ 4 ∨ ihl < 20 then p.stop 6
    else p.reading b.length ihl fun p =>
      let total := bytesNat b (p.off + 2) 2
      if total < ihl ∨ b.length < p.off + total then p.stop 6
      else
        let fr := bytesNat b (p.off + 6) 2
        let frag := fr / 8192 % 2 == 1 || fr % 8192 != 0
        let pr := byteAt b (p.off + 9)
        let q := { p with
          ipKind := 4, sip := bytesNat b (p.off + 12) 4, dip := bytesNat b (p.off + 16) 4, proto := pr
          dscp := byteAt b (p.off + 1) / 4, ecn := byteAt b (p.off + 1) % 4, ttlExp := byteAt b (p.off + 8) ≤ 1
          ipExt := p.ipExt || 20 < ihl, csumBad := onesSum b p.off ihl != 65535, frag := p.frag || frag, off := p.off + ihl
          ipOff := if p.ipOff = 0 then p.off else p.ipOff }
        (q, if frag then .done else .proto pr)

/-- The walked IPv6 extension headers. -/
def isV6Ext (nh : Nat) : Bool := nh == 0 || nh == 43 || nh == 60 || nh == 44

/-- IPv6 fixed header. -/
def parseIpv6 (b : List Byte) (p : Parse) : Parse × Next :=
  match p.need b.length 1 true with
  | some c => p.stop c
  | none =>
    if byteAt b p.off / 16 ≠ 6 then p.stop 7
    else p.reading b.length 40 fun p =>
      if b.length < p.off + 40 + bytesNat b (p.off + 4) 2 then p.stop 7
      else
        let tc := bytesNat b p.off 2 / 16 % 256
        let nh := byteAt b (p.off + 6)
        let q := { p with
          ipKind := 6, sip := bytesNat b (p.off + 8) 16, dip := bytesNat b (p.off + 24) 16, proto := nh, dscp := tc / 4
          ecn := tc % 4, ttlExp := byteAt b (p.off + 7) ≤ 1, off := p.off + 40, ipOff := if p.ipOff = 0 then p.off else p.ipOff }
        (q, if isV6Ext nh then .v6ext nh else .proto nh)

/-- An IPv6 extension header; a Fragment header ends parsing (R108). -/
def parseV6Ext (b : List Byte) (nh : Nat) (p : Parse) : Parse × Next :=
  if nh = 44 then
    p.reading b.length 8 fun p =>
      ({ p with proto := byteAt b p.off, ipExt := true, frag := true, off := p.off + 8 }, .done)
  else
    match p.need b.length 2 true with
    | some c => p.stop c
    | none =>
      p.reading b.length (8 * (byteAt b (p.off + 1) + 1)) fun p =>
        let n := byteAt b p.off
        let q := { p with proto := n, ipExt := true, off := p.off + 8 * (byteAt b (p.off + 1) + 1) }
        (q, if isV6Ext n then .v6ext n else .proto n)

/-- Dispatch on an IP protocol number; no tunnel is read inside an inner packet (R109). -/
def parseProto (c : ParseCfg) (pr : Nat) (p : Parse) : Parse × Next :=
  if pr = 17 then (p, .udp) else if pr = 6 then (p, .tcp)
  else if pr = 1 ∨ pr = 58 then (p, .icmp)
  else if p.isInner then (p, .done)
  else if pr = 47 then (p, .gre)
  else if pr = 4 then Parse.enter c { p with tunnel := true } .ipv4 false
  else if pr = 41 then Parse.enter c { p with tunnel := true } .ipv6 false
  else (p, .done)

/-- UDP header and what its destination port names. -/
def parseUdp (c : ParseCfg) (b : List Byte) (p : Parse) : Parse × Next :=
  p.reading b.length 8 fun p =>
    let d := bytesNat b (p.off + 2) 2
    let q := { p with l4src := bytesNat b p.off 2, l4dst := d, off := p.off + 8, transport := if p.ipKind = 6 then 2 else 1 }
    let vx := d == 4789 || d == c.vxlanPort
    let gn := d == 6081 || d == c.genevePort
    if vx then (q, if p.isInner then .done else .vxlan)
    else if gn then (q, if p.isInner then .done else .geneve)
    else if c.ecpriPort ≠ 0 ∧ d = c.ecpriPort then (q, .ecpri)
    else if d = 319 ∨ d = 320 then (q, .ptp)
    else (q, .done)

/-- GRE header. -/
def parseGre (c : ParseCfg) (b : List Byte) (p : Parse) : Parse × Next :=
  match p.need b.length 4 true with
  | some e => p.stop e
  | none =>
    let f := byteAt b p.off
    if byteAt b (p.off + 1) % 8 ≠ 0 then p.stop 9
    else
      let n := 4 + 4 * (f / 128 + f / 32 % 2 + f / 16 % 2)
      p.reading b.length n fun p =>
        let key := bytesNat b (p.off + 4 + 4 * (f / 128)) 4
        let pr := bytesNat b (p.off + 2) 2
        let q := { p with tunnel := true, tunnelId := if f / 32 % 2 = 1 then key / 256 else p.tunnelId, off := p.off + n }
        match pr with
        | 0x6558 => Parse.enter c q .eth true
        | 0x0800 => Parse.enter c q .ipv4 false
        | 0x86DD => Parse.enter c q .ipv6 false
        | _ => Parse.enter c q .done false

/-- VXLAN header. -/
def parseVxlan (c : ParseCfg) (b : List Byte) (p : Parse) : Parse × Next :=
  p.reading b.length 8 fun p =>
    Parse.enter c { p with tunnel := true, tunnelId := bytesNat b (p.off + 4) 3, off := p.off + 8 } .eth true

/-- GENEVE header: its options are needed only when an inner Ethernet header is read. -/
def parseGeneve (c : ParseCfg) (b : List Byte) (p : Parse) : Parse × Next :=
  match p.need b.length 8 true with
  | some e => p.stop e
  | none =>
    let eth := bytesNat b (p.off + 2) 2 == 0x6558
    let n := 8 + if c.inner && eth then byteAt b p.off % 64 * 4 else 0
    p.reading b.length n fun p =>
      let q := { p with tunnel := true, tunnelId := bytesNat b (p.off + 4) 3, off := p.off + n }
      if eth then Parse.enter c q .eth true else Parse.enter c q .done false

/-- eCPRI common header; the eAxC behind it is read within the first 256 bytes (R106). -/
def parseEcpri (b : List Byte) (p : Parse) : Parse × Next :=
  p.reading b.length 4 fun p =>
    if byteAt b p.off / 16 ≠ 1 ∨ b.length < p.off + 4 + bytesNat b (p.off + 2) 2 then p.stop 8
    else
      let m := byteAt b (p.off + 1)
      let q := { p with ecpri := true, msg := m, eaxc := if m ≤ 2 then bytesNat (window b) (p.off + 4) 2 else 0, ecpriOff := p.off
                        off := p.off + 4 }
      (q, if m = 0 ∨ m = 2 then .app else .done)

/-- O-RAN application header, after the 4 bytes of PC_ID or RTC_ID and SEQ_ID. -/
def parseApp (b : List Byte) (p : Parse) : Parse × Next :=
  let p := { p with off := p.off + 4 }
  let go := fun (n : Nat) => p.reading b.length n fun p =>
    let w := bytesNat b (p.off + 2) 2
    ({ p with
       dir := byteAt b p.off / 128, filter := byteAt b p.off % 16, frame := byteAt b (p.off + 1), subframe := w / 4096
       slot := w / 64 % 64, symbol := w % 64, sectionType := if p.msg = 2 then byteAt b (p.off + 5) else 0, off := p.off + n }, .sect 0)
  if p.msg = 0 then go 4
  else match p.need b.length 6 true with
    | some c => p.stop c
    | none => let st := byteAt b (p.off + 5); go (if st = 0 ∨ st = 3 then 12 else 8)

/-- The first O-RAN section header. -/
def parseSect (b : List Byte) (p : Parse) : Parse × Next :=
  p.reading b.length 4 fun p =>
    let w := bytesNat b p.off 4
    ({ p with sectionId := w / 2 ^ 20, startPrb := w / 256 % 1024, numPrb := w % 256, off := p.off + 4 }, .done)

/-- PTP header. -/
def parsePtp (b : List Byte) (p : Parse) : Parse × Next :=
  p.reading b.length 34 fun p =>
    ({ p with ptp := true, ptpMsg := byteAt b p.off % 16, ptpDomain := byteAt b (p.off + 4), ptpSeq := bytesNat b (p.off + 30) 2
              off := p.off + 34 }, .done)

/-- Dravua header; type 0x21 is a shim (R284): 10 + 20 × HOPS bytes from its message type, the last two of them the original EtherType
that its NEXT_ETYPE repeats. -/
def parseDravua (b : List Byte) (p : Parse) : Parse × Next :=
  match p.need b.length 6 true with
  | some c => p.stop c
  | none =>
    if byteAt b p.off = 0x21 then
      let n := 10 + 20 * byteAt b (p.off + 2)
      p.reading b.length n fun p =>
        let t := bytesNat b (p.off + 6) 2
        ({ p with etype := t, shim := p.shim || !p.isInner, off := p.off + n }, .ethertype t)
    else p.reading b.length 6 fun p =>
      ({ p with dravua := true, dravuaType := byteAt b p.off, dravuaSrc := bytesNat b (p.off + 4) 2 % 4096, off := p.off + 6 }, .done)

/-- Dispatch on an EtherType. -/
def parseEthertype (c : ParseCfg) (b : List Byte) (t : Nat) (p : Parse) : Parse × Next :=
  if isTpid c t then parseVlan b p
  else if t = 0x8847 ∨ t = 0x8848 then (p, .mpls)
  else if t = 0x0800 then (p, .ipv4)
  else if t = 0x86DD then (p, .ipv6)
  else if t = 0xAEFE then ({ p with transport := 0 }, .ecpri)
  else if t = 0x88F7 then ({ p with transport := 0 }, .ptp)
  else if t = c.dravua then ({ p with transport := 0 }, .dravua)
  else (p, .done)

/-- One step of the parser. -/
def parseNext (c : ParseCfg) (b : List Byte) (n : Next) (p : Parse) : Parse × Next :=
  match n with
  | .eth => parseEth b p
  | .ethertype t => parseEthertype c b t p
  | .mpls => parseMpls b p
  | .ipv4 => parseIpv4 b p
  | .ipv6 => parseIpv6 b p
  | .v6ext nh => parseV6Ext b nh p
  | .proto pr => parseProto c pr p
  | .udp => parseUdp c b p
  | .tcp => p.reading b.length 20 fun p =>
      ({ p with l4src := bytesNat b p.off 2, l4dst := bytesNat b (p.off + 2) 2, tcpFlags := byteAt b (p.off + 13), off := p.off + 20 }, .done)
  | .icmp => p.reading b.length 4 fun p => ({ p with l4src := bytesNat b p.off 2, l4dst := 0, off := p.off + 4 }, .done)
  | .gre => parseGre c b p
  | .vxlan => parseVxlan c b p
  | .geneve => parseGeneve c b p
  | .ecpri => parseEcpri b p
  | .app => parseApp b p
  | .sect _ => parseSect b p
  | .ptp => parsePtp b p
  | .dravua => parseDravua b p
  | .done => (p, .done)

/-- The parser runs until it is done; 48 steps cover 12 headers and their dispatches. -/
def parseLoop (c : ParseCfg) (b : List Byte) : Nat → Next → Parse → Parse
  | 0, _, p => p
  | k + 1, n, p =>
    let r := parseNext c b n p
    if r.2 = .done then r.1 else parseLoop c b k r.2 r.1

/-- Parse a frame (R106 to R109). -/
def parse (c : ParseCfg) (b : List Byte) : Parse := parseLoop c b 48 .eth {}

/-- Classes of a packet for key selection: 0 NON_IP, 1 IPV4, 2 IPV6, 3 RADIO, 4 CONTROL. -/
def Parse.cls (p : Parse) : Nat :=
  if p.ecpri then 3 else if p.ptp || p.dravua then 4 else if p.ipKind = 4 then 1 else if p.ipKind = 6 then 2 else 0

/-- PARSE_FLAGS (Table 5-3). -/
def Parse.flags (p : Parse) (second macsec : Bool) : Nat :=
  b2n p.frag * 2 ^ 15 + p.vlans * 2 ^ 12 + p.mpls * 2 ^ 8 + b2n p.tunnel * 2 ^ 7 + b2n p.isInner * 2 ^ 6 + b2n p.ipExt * 2 ^ 5
    + b2n p.ttlExp * 2 ^ 4 + b2n second * 8 + b2n macsec * 4 + b2n p.csumBad * 2

/-- The common fields of a key. -/
def keyCommon (inPort flags metadata : Nat) : Nat := inPort % 512 * 2 ^ 215 + flags % 65536 * 2 ^ 199 + metadata % 65536 * 2 ^ 183

/-- The key of a format (Table 5-4); format 7 has the common fields only. DESIGN CHOICE (log 79): an address of the other IP version is
no field that the packet carries in formats 1 to 3. -/
def Parse.key (p : Parse) (fmt inPort metadata : Nat) (second macsec : Bool) : Nat :=
  let v4 := p.ipKind == 4
  let v6 := p.ipKind == 6
  keyCommon inPort (p.flags second macsec) metadata +
  match fmt with
  | 0 => p.dmac * 2 ^ 135 + p.smac * 2 ^ 87 + p.etype * 2 ^ 71 + p.opcp * 2 ^ 68 + p.ovid * 2 ^ 56 + p.ivid * 2 ^ 44
  | 1 =>
    let k := fun (x : Nat) => if v4 then x else 0
    p.ovid * 2 ^ 171 + k p.sip * 2 ^ 139 + k p.dip * 2 ^ 107 + p.proto * 2 ^ 99 + p.dscp * 2 ^ 93 + p.ecn * 2 ^ 91
      + p.l4src * 2 ^ 75 + p.l4dst * 2 ^ 59 + p.tcpFlags * 2 ^ 51 + p.tunnelId * 2 ^ 27
  | 2 | 3 =>
    let k := fun (x : Nat) => if v6 then x else 0
    k (if fmt = 2 then p.dip else p.sip) * 2 ^ 55 + p.proto * 2 ^ 47 + p.dscp * 2 ^ 41 + p.ecn * 2 ^ 39 + p.l4dst * 2 ^ 23
      + p.l4src * 2 ^ 7
  | 4 =>
    p.ovid * 2 ^ 171 + p.opcp * 2 ^ 168 + p.transport * 2 ^ 166 + p.msg * 2 ^ 158 + p.eaxc * 2 ^ 142 + p.dir * 2 ^ 141
      + p.filter * 2 ^ 137 + p.frame * 2 ^ 129 + p.subframe * 2 ^ 125 + p.slot * 2 ^ 119 + p.symbol * 2 ^ 113
      + p.sectionType * 2 ^ 105 + p.sectionId * 2 ^ 93 + p.startPrb * 2 ^ 83 + p.numPrb * 2 ^ 75 + p.smac * 2 ^ 27
  | 5 => p.dmac * 2 ^ 135 + p.etype * 2 ^ 119 + p.ovid * 2 ^ 107
      + p.transport * 2 ^ 105 + p.dravuaType * 2 ^ 97 + p.dravuaSrc * 2 ^ 85
      + p.ptpMsg * 2 ^ 81 + p.ptpDomain * 2 ^ 73
  | _ => 0

/-- The key format that PORT_KEY_SEL names for a class and pass (Table 5-14). -/
def keyFormat (sel : W) (cls : Nat) (second : Bool) : Nat :=
  let i := match cls with | 0 => 4 | 1 => 3 | 2 => 2 | 3 => 1 | _ => 0
  if second then fld sel (6 * i + 2) (6 * i) else fld sel (6 * i + 5) (6 * i + 3)

/-- crc32c of R467 with a seed, over bytes. -/
def crc32cSeed (seed : Nat) (d : List Byte) : Nat :=
  (d.foldl (fun c b => (List.range 8).foldl (fun c _ => if c % 2 = 1 then (c / 2) ^^^ 0x82F63B78 else c / 2) (c ^^^ b.toNat))
    (seed ^^^ 0xFFFFFFFF)) ^^^ 0xFFFFFFFF

end Sys2Proof.Machine
end

