-- ==== Sys2Proof/Machine/Pipeline.lean ====
section
/-! DEFINITION. The tables of the ingress pipeline and the commands that write them (chapter 5): classifier, policers,
indirection, CPU codes, encapsulation; and their lookups. Memory codes are those of block 11 in Table 20-2. -/

namespace Sys2Proof.Machine

/-- The Tiles of a TILES mask in word 0 [63:48]. -/
def tilesOf (c : Cmd) : List Nat := bitsOf 16 (fld (c.p 0) 63 48)

/-- Do f for each Tile in ascending order. -/
def eachTile (l : List Nat) (f : Nat → State → State) (s : State) : State := l.foldl (fun s t => f t s) s

/-- The first Tile of a command's mask that sleeps deeper than PS1, for R347. -/
def maskDomain (c : Cmd) (s : State) : Option Nat := (tilesOf c).find? fun t => !s.awake (domTile t)

/-- The domain of the Tile in word 0 [63:60]. -/
def tileDomain (c : Cmd) (_ : State) : Option Nat := some (domTile (fld (c.p 0) 63 60))

/-! ### Actions (Table 5-5) -/

/-- Fields of a word-0 action. -/
def actDisp (w : W) : Nat := fld w 59 57
def actDest (w : W) : Nat := fld w 56 45
def actSpread (w : W) : Nat := fld w 44 41
def actHash (w : W) : Nat := fld w 40 38
def actQueue (w : W) : Option Nat := if bitAt w 37 then some (fld w 36 33) else none
def actMirror (w : W) : Nat := fld w 32 29
def actPolice (w : W) : Option Nat := if bitAt w 28 then some (fld w 27 12) else none
def actTs (w : W) : Bool := bitAt w 11
def actEncap (w : W) : Nat := fld w 10 3
def actFlow (w : W) : Nat := fld w 2 0

/-- Is an action one that the CF9512 takes in a rule or default: no reserved disposition (Table 5-7), and with SPREAD a
base that R126 allows? -/
def actionOk (w : W) : Bool :=
  actDisp w != 7 &&
  (actSpread w == 0 ||
    (decide (actSpread w ≤ 10) && fld w 53 45 % 2 ^ (actSpread w - 1) == 0
      && decide (fld w 53 45 + 2 ^ (actSpread w - 1) ≤ 512)))

/-- May a default action stand in PORT_DEFAULT_NOMATCH or, for a parse failure, in PORT_DEFAULT_PARSEFAIL (R124)? -/
def defaultOk (parseFail : Bool) (w : W) : Bool := actionOk w && !(parseFail && (actDisp w == 5 || actDisp w == 6))

/-! ### The classifier -/

/-- The bank of a rule index. -/
def ruleBank (i : Nat) : Nat := i / 4096

/-- A rule's match (R111): VALID, FORMAT, and every masked bit of words 1 to 7. -/
def ruleMatches (ws : List W) (fmt key : Nat) : Bool :=
  bitAt (ws.getD 0 0) 63 && fld (ws.getD 0 0) 62 60 == fmt &&
  (List.range 7).all fun k =>
    let w := ws.getD (k + 1) 0
    (nfld key (223 - 32 * k) (192 - 32 * k) ^^^ fld w 63 32) &&& fld w 31 0 == 0

/-- The rule with the lowest index that matches, among those that are live (R111, R114). -/
def TileState.lookup (t : TileState) (fmt key : Nat) : Option (Nat × List W) :=
  t.rules.find? fun x => (t.staged || ruleBank x.1 == t.active) && ruleMatches x.2 fmt key

/-- The index and the words of a CLASS_RULE_WRITE. -/
def ruleIndex (c : Cmd) : Nat := fld (c.p 0) 12 0
def ruleWords (c : Cmd) : List W := (List.range 8).map fun k => c.p (k + 1)

/-- One Tile's commit of a rule: through staging (R112), or into the inactive bank (R114, R116). -/
def commitRule (i : Nat) (ws : List W) (t : Nat) (s : State) : State :=
  let tl := s.tl t
  let s := memWriteN 11 t 0 (8 * i) 8 s
  let v : TileState := { tl with
    rules := tset [] tl.rules i (if ws.all (· == 0) then [] else ws)
    hits := tset 0 tl.hits i 0
    stage := if tl.staged then ws else tl.stage }
  let s := s.setTl t v
  if tl.staged then raiseInt 11 .pipeIntStatus [t] 6 s else bumpEpoch (ekClass t (ruleBank i)) (domTile t) s

/-- Result word of R116 for a Tile. -/
def ruleResult (s : State) (t : Nat) : W :=
  let tl := s.tl t
  BitVec.ofNat 64 (t * 2 ^ 60 + (if tl.staged then 0 else 2 ^ 59 + s.epoch (ekClass t (1 - tl.active))))

/-- CLASS_RULE_WRITE (R111 to R116). -/
def classRuleWriteBody : CmdBody := fun c s =>
  let i := ruleIndex c
  let ws := ruleWords c
  let w0 := ws.getD 0 0
  checked [(0, fld (c.p 0) 31 13 == 0 && fld (c.p 0) 63 48 != 0),
           (1, !bitAt w0 63 || (decide (fld w0 62 60 < 6) && actionOk w0))] fun _ =>
    if (tilesOf c).any fun t => !(s.tl t).staged && ruleBank i == (s.tl t).active then
      .refuse .busyActiveBank (ruleBank i)
    else
      let s' := eachTile (tilesOf c) (commitRule i ws) s
      .done (if (tilesOf c).all fun t => (s.tl t).staged then [] else (tilesOf c).map (ruleResult s')) s'

/-- One Tile's switch of classifier mode (R114, R116). -/
def switchMode (banked : Bool) (t : Nat) (s : State) : State :=
  let tl := s.tl t
  if banked = !tl.staged then s
  else if banked then
    bumpEpoch (ekClass t 1) (domTile t) (s.setTl t { tl with staged := false, active := 0 })
  else
    let clear := fun (x : Nat × List W) =>
      if ruleBank x.1 = tl.active then x else (x.1, (ins (x.2.getD 0 0) 63 63 0) :: x.2.drop 1)
    let rules := (tl.rules.map clear).filter fun x => !(x.2.all (· == 0))
    s.setTl t { tl with staged := true, rules := rules }

/-- CLASS_MODE (R114). -/
def classModeBody : CmdBody := fun c s =>
  checked [(0, fld (c.p 0) 63 48 != 0 && fld (c.p 0) 47 1 == 0)] fun _ =>
    let banked := bitAt (c.p 0) 0
    if banked && (tilesOf c).any (fun t => (s.tl t).staged
        && (s.tl t).rules.any fun x => decide (4096 ≤ x.1) && bitAt (x.2.getD 0 0) 63) then .refuse .busyActiveBank 1
    else .done [] (eachTile (tilesOf c) (switchMode banked) s)

/-- A Tile's other classifier bank becomes the active one (R115). -/
def swapBank (t : Nat) (s : State) : State :=
  let tl := s.tl t
  bumpEpoch (ekClass t tl.active) (domTile t) (s.setTl t { tl with active := 1 - tl.active })

/-- CLASS_BANK_SWAP (R115). -/
def classBankSwapBody : CmdBody := fun c s =>
  let t := fld (c.p 0) 63 60
  let tl := s.tl t
  checked [(0, !tl.staged && fld (c.p 0) 59 16 == 0)] fun _ =>
    let cur := s.epoch (ekClass t (1 - tl.active))
    if cur != fld (c.p 0) 15 0 then .refuse .epochStale cur
    else .done [] (swapBank t s)

/-- FIRST and COUNT of a read command: word 0 [31:0] and [47:32]. -/
def readFirst (c : Cmd) : Nat := fld (c.p 0) 31 0
def readCount (c : Cmd) : Nat := fld (c.p 0) 47 32

/-- CLASS_COUNTER_READ (R111). -/
def classCounterReadBody : CmdBody := fun c s =>
  let tl := s.tl (fld (c.p 0) 63 60)
  checked [(0, decide (0 < readCount c) && decide (readFirst c + readCount c ≤ 8192) && decide (readCount c < 8192)
      && fld (c.p 0) 59 48 == 0)] fun _ =>
    .done ((List.range (readCount c)).map fun k => BitVec.ofNat 64 (tget 0 tl.hits (readFirst c + k))) s

/-! ### Policers -/

/-- The policer that the parameters of Table 5-11 give at words 2 to 9, with full buckets (R131). -/
def policerOf (c : Cmd) (now : Nat) : Policer :=
  { mode := c.n 2, aware := c.n 3, cir := c.n 4, cbs := c.n 5, eir := c.n 6, ebs := c.n 7, lenAdj := (c.p 8).toInt
    yellow := c.n 9, tc := c.n 5 * 32768, te := c.n 7 * 32768, last := now }

/-- POLICER_SET (R131). -/
def policerSetBody : CmdBody := fun c s =>
  checked [(0, decide (c.n 0 < 16)), (1, decide (c.n 1 < 65536)), (2, decide (c.n 2 < 2)), (3, decide (c.n 3 < 2)),
           (4, decide (c.n 4 < 33554432)), (5, decide (c.n 5 < 16777216)), (6, decide (c.n 6 < 33554432)),
           (7, decide (c.n 7 < 16777216)), (8, decide (-32 ≤ (c.p 8).toInt) && decide ((c.p 8).toInt ≤ 31)),
           (9, decide (c.n 9 < 3))] fun _ =>
    let t := c.n 0
    let s := memWriteN 11 t 1 (4 * c.n 1) 4 s
    .done [] (s.modTl t fun tl => { tl with policers := tset {} tl.policers (c.n 1) (policerOf c s.tick) })

/-- The domain of the Tile in word 0. -/
def word0Tile (c : Cmd) (_ : State) : Option Nat := if c.n 0 < 16 then some (domTile (c.n 0)) else none

/-- Colours of a packet: 0 green, 1 yellow, 2 red. The refresh of R129. -/
def Policer.refresh (p : Policer) (now : Nat) : Policer :=
  let dt := now - p.last
  let a := p.tc + dt * p.cir
  let tc := min a (p.cbs * 32768)
  let te := min (p.te + (if p.mode = 0 then a - tc else dt * p.eir)) (p.ebs * 32768)
  { p with tc := tc, te := te, last := now }

/-- Meter a packet of n bytes that arrives with colour `c` (R129). -/
def Policer.meter (p : Policer) (now n c : Nat) : Nat × Policer :=
  let p := p.refresh now
  let need := n * 32768
  if p.mode = 0 then
    if c = 0 ∧ need ≤ p.tc then (0, { p with tc := p.tc - need })
    else if c ≠ 2 ∧ need ≤ p.te then (1, { p with te := p.te - need })
    else (2, p)
  else if c = 2 ∨ p.te < need then (2, p)
  else if c = 1 ∨ p.tc < need then (1, { p with te := p.te - need })
  else (0, { p with te := p.te - need, tc := p.tc - need })

/-! ### Indirection, CPU codes, encapsulation -/

/-- INDIR_WRITE (R127). -/
def indirWriteBody : CmdBody := fun c s =>
  let i := readFirst c
  checked [(0, fld (c.p 0) 63 48 != 0 && decide (i < 512) && fld (c.p 0) 47 32 == 0)] fun _ =>
    .done [] (eachTile (tilesOf c) (fun t s =>
      (memWrite 11 t 2 i s).modTl t fun tl => { tl with indir := tset 0 tl.indir i (c.p 1) }) s)

/-- CPU_CODE_WRITE (R128). -/
def cpuCodeWriteBody : CmdBody := fun c s =>
  checked [(0, decide (c.n 0 < 4096)), (1, !(bitAt (c.p 1) 63 && bitAt (c.p 1) 62 && fld (c.p 1) 49 46 == 0))] fun _ =>
    let s := memWrite 11 0 4 (c.n 0) s
    .done [] { s with pk := { s.pk with cpu := tset 0 s.pk.cpu (c.n 0) (c.p 1) } }

/-- ENCAP_WRITE (R125, Table 5-8). -/
def encapWriteBody : CmdBody := fun c s =>
  let i := readFirst c
  let typ := fld (c.p 1) 63 56
  let len := fld (c.p 1) 7 0
  checked [(0, fld (c.p 0) 63 48 != 0 && decide (1 ≤ i) && decide (i < 256) && fld (c.p 0) 47 32 == 0),
           (1, decide (1 ≤ typ) && decide (typ ≤ 8) && decide (len ≤ 96) && decide (c.params.length = 2 + (len + 7) / 8))]
    fun _ =>
    let e : Encap := { typ := typ, tmpl := ((c.params.drop 2).flatMap wordBytes).take len }
    .done [] (eachTile (tilesOf c) (fun t s =>
      (memWriteN 11 t 3 (16 * i) 13 s).modTl t fun tl => { tl with encap := tset {} tl.encap i e }) s)

/-! ### Hashes, drops -/

/-- HASH_MASK of profile k: 224 bits. -/
def State.hashMask (s : State) (t k : Nat) : Nat :=
  (s.rg .hashMask [t, k, 0]).toNat + (s.rg .hashMask [t, k, 1]).toNat * 2 ^ 64 + (s.rg .hashMask [t, k, 2]).toNat * 2 ^ 128
    + s.rgf .hashMask [t, k, 3] 31 0 * 2 ^ 192

/-- The packet hash under a profile (R126). -/
def State.pktHash (s : State) (t k key : Nat) : Nat :=
  crc32cSeed (s.rgf .hashSeed [t, k] 31 0) (bytesBE 28 (key &&& s.hashMask t k))

/-- Count a packet dropped under a code of Table 5-12 (R132). -/
def pipeDrop (t code : Nat) (s : State) : State := s.bump .pipeDropCnt [t, code] 47 0

/-- The parser settings of a port. -/
def State.parseCfgOf (s : State) (t port : Nat) : ParseCfg :=
  let w := s.rg .parseCfg [t]
  { ecpriPort := fld w 63 48, vxlanPort := fld w 47 32, genevePort := fld w 31 16, tpid := fld w 15 0
    dravua := s.rgf .dravuaEtype [t] 15 0, inner := bitAt (s.rg .portKeySel [t, port % 32]) 30 }

/-- Where the pipeline sends a packet: to a code of Table 5-12, a port, a flood set, a host queue pair, a cluster's
service, the Skein feed, or a second pass in an octal. -/
inductive Dest where
  | drop (code : Nat)
  | port (p : Nat)
  | flood (ports : Nat)
  | host (qp cpu : Nat)
  | service (q op cpu : Nat)
  | feed
  | recirc (octal : Nat)
deriving DecidableEq, Repr

/-- The destination of a CPU code (R128). -/
def cpuDest (t code : Nat) (s : State) : Dest × State :=
  let r := memRead 11 0 4 code 1 s
  let e := r.data (tget 0 s.pk.cpu code)
  if !r.ok then (.drop 13, raiseInt 11 .pipeIntStatus [t] 3 r.st)
  else if !bitAt e 63 then (.drop 9, r.st)
  else if !bitAt e 62 then (.host (fld e 61 50) code, r.st)
  else
    let mask := fld e 49 46
    match (bitsOf 4 mask).find? fun q => r.st.awake (domCluster q) with
    | some q => (.service q (fld e 45 38) code, r.st)
    | none =>
      match (bitsOf 4 mask).find? fun q => (r.st.domain (domCluster q)).force == 0 with
      | some q => (.drop 16, wakeDomain (domCluster q) r.st)
      | none => (.drop 16, r.st)

/-- The indirection entry that a hash selects (R126, R127): target, queue override. `kind` 0 ports, 1 CPU codes. -/
def spread (t kind key : Nat) (w : W) (s : State) : (Except Nat (Nat × Option Nat)) × State :=
  let h := s.pktHash t (actHash w) key
  let i := (fld w 53 45 + h % 2 ^ (actSpread w - 1)) % 512
  let r := memRead 11 t 2 i 1 s
  let e := r.data (tget 0 (s.tl t).indir i)
  if !r.ok then (.error 12, raiseInt 11 .pipeIntStatus [t] 2 r.st)
  else if !bitAt e 63 || fld e 62 62 != kind then (.error 6, raiseInt 11 .pipeIntStatus [t] 5 r.st)
  else (.ok (if kind = 0 then fld e 58 50 else fld e 61 50, if bitAt e 49 then some (fld e 48 45) else none), r.st)

end Sys2Proof.Machine
end

