-- ==== Sys2Proof/Machine/Forwarding.lean ====
section
/-! DEFINITION. The L2 table, learning, ageing and reseeding, the route table and flood sets (chapter 6, R170).
Memory codes are those of block 12 in Table 20-2. -/

namespace Sys2Proof.Machine

/-! ### L2 entries (Tables 6-1 and 6-2) -/

/-- Fields of an L2 entry. -/
def l2Valid (e : W × W) : Bool := bitAt e.1 63
def l2Static (e : W × W) : Bool := bitAt e.1 62
def l2Pinned (e : W × W) : Bool := bitAt e.1 61
def l2Hit (e : W × W) : Bool := bitAt e.1 60
def l2Mark (e : W × W) : Bool := bitAt e.1 59
def l2Vid (e : W × W) : Nat := fld e.1 46 35
def l2Port (e : W × W) : Nat := fld e.1 34 26
def l2Mac (e : W × W) : Nat := fld e.2 47 0

/-- The two words that name a key and a port, in the layout of Tables 6-1 and 6-2. -/
def l2Key (vid mac port : Nat) : W × W :=
  (BitVec.ofNat 64 (vid % 4096 * 2 ^ 35 + port % 512 * 2 ^ 26), BitVec.ofNat 64 (mac % 2 ^ 48))

/-- The set of a key under a seed (R133). -/
def l2Set (seed vid mac : Nat) : Nat := crc32cSeed seed (bytesBE 8 (vid % 4096 * 2 ^ 48 + mac % 2 ^ 48)) % 32768

/-- The entry at set and way, as a lookup or a dump sees it while a reseed may run (R147). -/
def State.l2At (s : State) (t set way : Nat) : W × W :=
  let tl := s.tl t
  match tl.reseed with
  | some r => if set < r.loaded s.tick then tget (0, 0) r.image (4 * set + way) else tget (0, 0) tl.l2 (4 * set + way)
  | none => tget (0, 0) tl.l2 (4 * set + way)

/-- The set that a lookup of a key searches (R133, R147); none where a reseed leaves it a miss. -/
def State.l2SetOf (s : State) (t vid mac : Nat) : Option Nat :=
  let tl := s.tl t
  let old := l2Set tl.l2Seed vid mac
  match tl.reseed with
  | some r =>
    let new := l2Set r.seed vid mac
    if new < r.loaded s.tick then some new else if r.loaded s.tick ≤ old then some old else none
  | none => some old

/-- The way of a key in a set: an entry with an uncorrectable error is absent (R156). -/
def l2Way (t set vid mac : Nat) : List Nat → State → Option Nat × State
  | [], s => (none, s)
  | w :: ws, s =>
    let e := s.l2At t set w
    if l2Valid e then
      let r := memReadN 12 t 0 (2 * (4 * set + w)) 1 2 s
      let s := when (!r.1) (raiseInt 12 .ftIntStatus [t] 5) r.2
      if r.1 && l2Vid e == vid && l2Mac e == mac then (some w, s) else l2Way t set vid mac ws s
    else l2Way t set vid mac ws s

/-- Look up a key: set, way and entry. -/
def l2Find (t vid mac : Nat) (s : State) : Option (Nat × Nat × (W × W)) × State :=
  match s.l2SetOf t vid mac with
  | none => (none, s)
  | some set =>
    match l2Way t set vid mac [0, 1, 2, 3] s with
    | (some w, s) => (some (set, w, s.l2At t set w), s)
    | (none, s) => (none, s)

/-- Write the entry at set and way of the table (not while a reseed runs). -/
def l2Put (t set way : Nat) (e : W × W) (s : State) : State :=
  (memWriteN 12 t 0 (2 * (4 * set + way)) 2 s).modTl t fun tl => { tl with l2 := tset (0, 0) tl.l2 (4 * set + way) e }

/-- The learn engine invalidates the entries of a set that hold uncorrectable errors at its next write to it (R156). -/
def l2Purge (t set : Nat) (s : State) : State :=
  [0, 1, 2, 3].foldl (fun s w =>
    let bad := [0, 1].any fun k =>
      let a := 2 * (4 * set + w) + k
      eccDecode 64 (eccSyndrome 64 (tget 0 s.flt.ecc (eccKey 12 t 0 a))) == .uncorrectable
    when bad (l2Put t set w (0, 0)) s) s

/-- Parameter words of the events L2_FLAP, L2_AGE and L2_LEARN. -/
def l2Event (t vid mac old new : Nat) : List W :=
  [BitVec.ofNat 64 (t * 2 ^ 60 + vid * 2 ^ 48 + mac), BitVec.ofNat 64 (old * 512 + new)]

/-! ### The source lookup and the learn queue (R137, R138) -/

/-- Host requests in a learn queue. -/
def TileState.hostReqs (tl : TileState) : Nat := (tl.learnQ.filter fun r => r.kind != 0).length

/-- Post a learn request (R138). -/
def postLearn (t vid mac port : Nat) (s : State) : State :=
  let tl := s.tl t
  let k := l2Key vid mac port
  if tl.filter.contains k then s
  else if 4032 ≤ tl.learnQ.length - tl.hostReqs then
    raiseInt 12 .ftIntStatus [t] 2 (s.bump .l2Cnt1 [t] 31 16)
  else
    let r : LearnReq := { kind := 0, w0 := k.1, w1 := k.2, tick := s.tick }
    s.setTl t { tl with learnQ := tl.learnQ ++ [r], filter := (tl.filter ++ [k]).drop (tl.filter.length + 1 - 64) }

/-- The source lookup of a first-pass packet that the pipeline did not drop (R137). -/
def sourceLookup (t vid mac port : Nat) (s : State) : State :=
  if !bitAt (s.rg .l2PortCfg [t, port % 32]) 63 || mac == 0 || mac / 2 ^ 40 % 2 == 1 then s
  else
    match l2Find t vid mac s with
    | (none, s) => postLearn t vid mac port s
    | (some (set, w, e), s) =>
      if l2Port e = port then
        (match (s.tl t).reseed with
         | some r => if set < r.loaded s.tick then s
                     else s.modTl t fun tl => { tl with l2 := tset (0, 0) tl.l2 (4 * set + w) (ins e.1 60 60 1, e.2) }
         | none => s.modTl t fun tl => { tl with l2 := tset (0, 0) tl.l2 (4 * set + w) (ins e.1 60 60 1, e.2) })
      else if l2Static e then s.bump .l2Cnt2 [t] 63 48
      else postLearn t vid mac port s

/-! ### The learn engine (R139, R140, R145) -/

/-- The current move window number, modulo 256 (R140). -/
def State.moveWindow (s : State) (t : Nat) : Nat := s.tick / (max 1 (s.rgf .l2MoveCfg [t] 15 0) * msTicks) % 256

/-- An insertion failure (R145, Table 6-4). -/
def insertFail (t set : Nat) (k : W × W) (s : State) : State :=
  let s := s.bump .l2Cnt1 [t] 15 0
  let tl := s.tl t
  if tl.rehash then s
  else
    let w0 := BitVec.ofNat 64 (t * 2 ^ 60 + set * 2 ^ 32 + tl.l2Seed)
    let w1 := BitVec.ofNat 64 (tl.l2Epoch * 2 ^ 48 + s.rgf .l2Cnt1 [t] 15 0)
    let es := [0, 1, 2, 3].flatMap fun w => let e := s.l2At t set w; [e.1, e.2]
    let s := s.setTl t { tl with rehash := true }
    raiseInt 12 .ftIntStatus [t] 1 (postEvent 3 ([w0, w1] ++ es ++ [k.1, k.2]) s)

/-- The lowest-numbered free way of a set. -/
def State.freeWay (s : State) (t set : Nat) : Option Nat := [0, 1, 2, 3].find? fun w => !l2Valid (s.l2At t set w)

/-- Tell LEARN_NOTIFY's event (Table 6-8). -/
def learnNotify (t vid mac old new : Nat) (s : State) : State :=
  when (bitAt (s.rg .l2Cfg [t]) 10) (postEvent 6 (l2Event t vid mac old new)) s

/-- Move an entry to another port (R139, R140). -/
def moveEntry (t set way : Nat) (e : W × W) (port : Nat) (s : State) : State :=
  let win := s.moveWindow t
  let same := fld e.1 54 47 == win
  let n := if same then min 15 (fld e.1 58 55 + 1) else 1
  let lim := s.rgf .l2Cfg [t] 15 12
  let pin := lim != 0 && decide (lim ≤ n)
  let w0 := ins (ins (ins (ins (ins (ins e.1 34 26 port) 60 60 1) 59 59 0) 58 55 n) 54 47 win) 61 61 (b2n pin)
  let s := (l2Put t set way (w0, e.2) s).bump .l2Cnt0 [t] 31 0
  let s := learnNotify t (l2Vid e) (l2Mac e) (l2Port e) port s
  when pin (fun s => raiseInt 12 .ftIntStatus [t] 0 (postEvent 4 (l2Event t (l2Vid e) (l2Mac e) (l2Port e) port) s)) s

/-- Apply a learn request (R139). -/
def applyLearn (t : Nat) (r : LearnReq) (s : State) : State :=
  let k := (r.w0, r.w1)
  let vid := l2Vid k
  let mac := l2Mac k
  let port := l2Port k
  let set := l2Set (s.tl t).l2Seed vid mac
  match l2Way t set vid mac [0, 1, 2, 3] s with
  | (some w, s) =>
    let e := s.l2At t set w
    if l2Port e = port then l2Put t set w (ins e.1 60 60 1, e.2) (l2Purge t set s)
    else if l2Static e then s.bump .l2Cnt2 [t] 63 48
    else if l2Pinned e then s.bump .l2Cnt2 [t] 47 32
    else moveEntry t set w e port (l2Purge t set s)
  | (none, s) =>
    let s := l2Purge t set s
    match s.freeWay t set with
    | some w =>
      let s := (l2Put t set w (r.w0 ||| mk 63 63 1 ||| mk 60 60 1, r.w1) s).bump .l2Cnt0 [t] 63 32
      learnNotify t vid mac 0 port s
    | none => insertFail t set k s

/-- Apply a host write or delete (R142). -/
def applyHostReq (t : Nat) (r : LearnReq) (s : State) : State :=
  let k := (r.w0, r.w1)
  let set := l2Set (s.tl t).l2Seed (l2Vid k) (l2Mac k)
  match l2Way t set (l2Vid k) (l2Mac k) [0, 1, 2, 3] s with
  | (some w, s) => l2Put t set w (if r.kind = 1 ∧ l2Valid k then k else (0, 0)) (l2Purge t set s)
  | (none, s) =>
    if r.kind = 1 && l2Valid k then
      let s := l2Purge t set s
      match s.freeWay t set with
      | some w => l2Put t set w k s
      | none => insertFail t set (ins r.w0 63 63 0, r.w1) s
    else s

/-- The learn engine applies the request at the head of the queue (R139): not during a reseed, not earlier than four
clocks after it was posted, at most one in two clocks. The request leaves the filter, unless a newer one displaced it there: then
an identical request may wait behind it, and the entry of the filter is that one's (R138). -/
def learnApply (t : Nat) (s : State) : State :=
  let tl := s.tl t
  match tl.learnQ with
  | [] => s
  | r :: rest =>
    if tl.reseed.isSome || s.tick < r.tick + 2 || s.tick < tl.lastLearn + 1 || !s.awake (domTile t) then s
    else
      let newer := rest.any fun q => q.kind == 0 && q.w0 == r.w0 && q.w1 == r.w1
      let f := if r.kind = 0 && !newer then tl.filter.erase (r.w0, r.w1) else tl.filter
      let s := s.setTl t { tl with learnQ := rest, filter := f, lastLearn := s.tick }
      if r.kind = 0 then applyLearn t r s else applyHostReq t r s

def execLearnApply (tile : Nat) (s : State) : Host.Outcome State Fault Refusal := keep s (learnApply (tile % 16) s)

/-! ### Ageing (R143) -/

/-- The sweeper visits one entry. -/
def sweepEntry (t set w : Nat) (s : State) : State :=
  let e := s.l2At t set w
  if !l2Valid e || l2Static e then s
  else
    let put := fun (w0 : W) (s : State) =>
      s.modTl t fun tl => { tl with l2 := tset (0, 0) tl.l2 (4 * set + w) (w0, e.2) }
    if l2Hit e then put (ins (ins e.1 60 60 0) 59 59 0) s
    else if !l2Mark e then put (ins e.1 59 59 1) s
    else
      let s := (l2Put t set w (0, 0) s).bump .l2Cnt1 [t] 63 32
      when (bitAt (s.rg .l2Cfg [t]) 11) (postEvent 5 (l2Event t (l2Vid e) (l2Mac e) (l2Port e) (l2Port e))) s

/-- The sweeper visits its next set when AGE_PERIOD / 32,768 has passed since its last visit; one second over 32,768 is
390,625 sixteenths of a tick. -/
def ageSweep (t : Nat) (s : State) : State :=
  let tl := s.tl t
  let due := tl.sweepTick + s.rgf .l2Cfg [t] 31 16 * 390625
  if s.rgf .l2Cfg [t] 31 16 = 0 || tl.reseed.isSome || 16 * s.tick < due || !s.awake (domTile t) then s
  else
    let s := [0, 1, 2, 3].foldl (fun s w => sweepEntry t tl.sweepPos w s) s
    s.modTl t fun tl => { tl with sweepPos := (tl.sweepPos + 1) % 32768, sweepTick := due }

def execAgeSweepVisit (tile : Nat) (s : State) : Host.Outcome State Fault Refusal := keep s (ageSweep (tile % 16) s)

/-! ### Host commands on the L2 table -/

/-- Queue a host request in each named Tile (R142). -/
def hostReqBody (kind : Nat) : CmdBody := fun c s =>
  checked [(0, fld (c.p 0) 63 48 != 0 && fld (c.p 0) 47 0 == 0)] fun _ =>
    if (tilesOf c).any fun t => 64 ≤ (s.tl t).hostReqs then .refuse .busyPending 0
    else
      let k := if kind = 1 then (ins (c.p 1) 25 0 0, ins (c.p 2) 63 48 0)
               else l2Key (fld (c.p 1) 59 48) (fld (c.p 1) 47 0) 0
      let r : LearnReq := { kind := kind, w0 := k.1, w1 := k.2, tick := s.tick }
      .done [] (eachTile (tilesOf c) (fun t s => s.modTl t fun tl => { tl with learnQ := tl.learnQ ++ [r] }) s)

/-- L2_FLUSH begins (R142); its final reply comes when every named Tile is done. -/
def l2FlushBody : CmdBody := fun c s =>
  let byPort := bitAt (c.p 0) 31
  let byVid := bitAt (c.p 0) 30
  checked [(0, fld (c.p 0) 63 48 != 0 && (byPort || byVid))] fun _ =>
    if (tilesOf c).any fun t => (s.tl t).flush.isSome then .refuse .busyPending 0
    else
      let f : Flush := { byPort := byPort, byVid := byVid, port := fld (c.p 0) 20 12, vid := fld (c.p 0) 11 0, start := s.tick }
      .later (openCmd 0x0502 (fld (c.p 0) 63 48) c
        (eachTile (tilesOf c) (fun t s => s.modTl t fun tl => { tl with flush := some f }) s))

/-- Does a flush remove an entry? -/
def Flush.removes (f : Flush) (e : W × W) : Bool :=
  l2Valid e && !l2Static e && (!f.byPort || l2Port e == f.port) && (!f.byVid || l2Vid e == f.vid)

/-- A flush has visited every set: 32,768 clocks after its start at the earliest (R142). It removes from the table, and from the sets
that a reseed has loaded. -/
def l2FlushDone (t : Nat) (s : State) : State :=
  let tl := s.tl t
  match tl.flush with
  | none => s
  | some f =>
    if s.tick < f.start + 16384 then s
    else
      let n := match tl.reseed with | some r => 4 * r.loaded s.tick | none => 0
      let keep := fun (x : Nat × W × W) => !f.removes x.2
      let kept := fun (r : Reseed) => { r with image := r.image.filter fun x => decide (n ≤ x.1) || keep x }
      let gone := (tl.l2.filter fun x => decide (n ≤ x.1) && !keep x)
        ++ (match tl.reseed with | some r => r.image.filter fun x => decide (x.1 < n) && !keep x | none => [])
      let s := gone.foldl (fun s x => memWriteN 12 t 0 (2 * x.1) 2 s) s
      let s := s.setTl t { tl with flush := none, l2 := tl.l2.filter keep, reseed := tl.reseed.map kept }
      let keys := (s.cmd.opened.filter fun o => o.kind == 0x0502).map (·.key)
      keys.foldl (fun s k =>
        if (bitsOf 16 k).all fun u => (s.tl u).flush.isNone then closeCmd 0x0502 k .ok 0 [] s else s) s

def execL2FlushDone (tile : Nat) (s : State) : Host.Outcome State Fault Refusal := keep s (l2FlushDone (tile % 16) s)

/-- L2_DUMP: eight words for each set, way 0 first (R146). -/
def l2DumpBody : CmdBody := fun c s =>
  let t := fld (c.p 0) 63 60
  let n := readCount c
  checked [(0, decide (0 < n) && decide (n ≤ 1023) && decide (readFirst c + n ≤ 32768) && fld (c.p 0) 59 48 == 0)] fun _ =>
    mgmtReads 12 t 0 (8 * readFirst c) (8 * n) s fun s =>
      .done ((List.range (4 * n)).flatMap fun i =>
        let e := s.l2At t (readFirst c + i / 4) (i % 4)
        [e.1, e.2]) s

/-- The valid entries of a table image in host memory (R146), by entry number, as the load writes them (R147). -/
def imageOf (base : Nat) (host : List (Nat × W)) : Tbl (W × W) :=
  host.foldl (fun (m : Tbl (W × W)) x =>
    if base ≤ x.1 ∧ x.1 < base + 2097152 ∧ (x.1 - base) % 16 = 0 ∧ bitAt x.2 63 then
      let w1 := ((host.find? fun y => y.1 == x.1 + 8).map (·.2)).getD 0
      tset (0, 0) m ((x.1 - base) / 16) (ins (ins (ins x.2 60 60 1) 59 59 0) 58 55 0, w1)
    else m) []

/-- L2_RESEED (R146): every valid entry must lie in the set that the new seed gives its key. -/
def l2ReseedBody : CmdBody := fun c s =>
  let t := fld (c.p 0) 63 60
  let seed := fld (c.p 0) 31 0
  let img := imageOf (c.n 1) c.host
  checked [(0, fld (c.p 0) 59 48 == 0)] fun _ =>
    if (s.tl t).reseed.isSome then .refuse .busyPending 0
    else match img.find? fun x => l2Set seed (l2Vid x.2) (l2Mac x.2) != x.1 / 4 with
    | some x => .refuse .riggingInvalid x.1
    | none =>
      let r : Reseed := { seed := seed, epoch := fld (c.p 0) 47 32, image := img, start := s.tick }
      .later (openCmd 0x0504 t c (s.modTl t fun tl => { tl with reseed := some r, rehash := false }))

/-- The load of a reseed is complete (R147). -/
def reseedDone (t : Nat) (s : State) : State :=
  let tl := s.tl t
  match tl.reseed with
  | none => s
  | some r =>
    if r.loaded s.tick < 32768 then s
    else
      let s := s.setTl t { tl with reseed := none, l2 := r.image, l2Seed := r.seed, l2Epoch := r.epoch }
      raiseInt 12 .ftIntStatus [t] 3 (closeCmd 0x0504 t .ok 0 [] (bumpEpoch (ekL2 t) (domTile t) s))

def execReseedDone (tile : Nat) (s : State) : Host.Outcome State Fault Refusal := keep s (reseedDone (tile % 16) s)

/-- L2_REHASH_ACK (R145). -/
def l2RehashAckBody : CmdBody := fun c s =>
  checked [(0, fld (c.p 0) 59 0 == 0)] fun _ =>
    .done [] (s.modTl (fld (c.p 0) 63 60) fun tl => { tl with rehash := false })

/-! ### The route table -/

/-- Words of a route structure: 1 to 6 stages, 7 exact match, 8 next hops, 9 VRF_ROOT. -/
def lpmWords : Nat → Nat
  | 1 => 262144 | 2 => 524288 | 3 => 524288 | 4 => 131072 | 5 => 131072 | 6 => 131072 | 7 => 196608 | 8 => 131072 | 9 => 4096
  | _ => 0

/-- Key of a route word. -/
def lpmKey (st a : Nat) : Nat := st * 2 ^ 32 + a

/-- LPM_WRITE (R154, R155). -/
def lpmWriteBody : CmdBody := fun c s =>
  let st := fld (c.p 0) 31 28
  let first := fld (c.p 0) 27 0
  let data := c.params.drop 2
  checked [(0, fld (c.p 0) 63 48 != 0 && fld (c.p 0) 47 32 == 0 && decide (first + data.length ≤ lpmWords st))] fun _ =>
    .done [] (eachTile (tilesOf c) (fun t s =>
      let s := memWriteN 12 t st first data.length s
      let s := s.modTl t fun tl => { tl with
        lpm := (data.zipIdx).foldl (fun m x => tset 0 m (lpmKey st (first + x.2)) x.1) tl.lpm
        lpmEpoch := fld (c.p 1) 63 48, lpmValid := bitAt (c.p 1) 47, emSeed := fld (c.p 1) 31 0 }
      s.setEpoch (ekLpm t) (fld (c.p 1) 63 48)) s)

/-- LPM_SYNC (R154): a lookup is one step of the model, so none is in flight. -/
def lpmSyncBody : CmdBody := fun _ s => .done [] s

/-- Read a route word; none where it is uncorrectable (R156). -/
def lpmRead (t st a : Nat) (s : State) : Option W × State :=
  let r := memRead 12 t st a 1 s
  if r.ok then (some (r.data (tget 0 (s.tl t).lpm (lpmKey st a))), r.st)
  else (none, raiseInt 12 .ftIntStatus [t] 6 r.st)

/-- How a walk of the trie ends. -/
inductive Walk where
  | miss
  | bad
  | leaf (nh : Nat)
  | exact (nh : Nat)
deriving DecidableEq, Repr

/-- Walk the trie from stage to stage by the strides that remain (R149); `base` is the first entry of the block. -/
def walk (t : Nat) (v6 : Bool) : List (Nat × Nat) → Nat → State → Walk × State
  | [], _, s => (.bad, s)
  | (st, stride) :: rest, base, s =>
    let i := base + stride
    match lpmRead t st (i / 2) s with
    | (none, s) => (.miss, s)
    | (some w, s) =>
      let e := if i % 2 = 0 then fld w 31 0 else fld w 63 32
      match e / 2 ^ 30 with
      | 0 => (.miss, s)
      | 1 => (.leaf (e % 65536), s)
      | 2 => if rest.isEmpty then (.bad, s) else walk t v6 rest (e % 131072 * 256) s
      | _ => if v6 && st == 6 then (.exact (e % 65536), s) else (.bad, s)

/-- The strides of an address (Table 6-5). -/
def strides (v6 : Bool) (a : Nat) : List (Nat × Nat) :=
  if v6 then [(1, nfld a 127 112), (2, nfld a 111 96), (3, nfld a 95 88), (4, nfld a 87 80), (5, nfld a 79 72), (6, nfld a 71 64)]
  else [(1, nfld a 31 16), (2, nfld a 15 8), (3, nfld a 7 0)]

/-- Search the exact-match set of (root, address) (R151); an entry's third word holds VALID [63], root [18:16], NH [15:0]. -/
def exactWay (t root a set : Nat) : List Nat → State → Option (Option Nat) × State
  | [], s => (some none, s)
  | w :: ws, s =>
    let b := 3 * (4 * set + w)
    match lpmRead t 7 b s with
    | (none, s) => (none, s)
    | (some hi, s) => match lpmRead t 7 (b + 1) s with
      | (none, s) => (none, s)
      | (some lo, s) => match lpmRead t 7 (b + 2) s with
        | (none, s) => (none, s)
        | (some x, s) =>
          if bitAt x 63 && hi.toNat * 2 ^ 64 + lo.toNat == a && fld x 18 16 == root then (some (some (fld x 15 0)), s)
          else exactWay t root a set ws s

/-- What a route lookup gives: port, queue override, router MAC index, ENCAP, DMAC. -/
structure Hop where
  port : Nat
  queue : Option Nat
  smac : Nat
  encap : Nat
  dmac : Nat
deriving DecidableEq, Repr

/-- The hop that a next-hop index gives (R152). -/
def nextHop (t key nh : Nat) (s : State) : Option Hop × State :=
  let final := fun (i : Nat) (s : State) =>
    match lpmRead t 8 (2 * i) s with
    | (none, s) => ((none : Option Hop), s)
    | (some w, s) => match lpmRead t 8 (2 * i + 1) s with
      | (none, s) => (none, s)
      | (some d, s) =>
        if !bitAt w 63 || bitAt w 62 then (none, s)
        else (some { port := fld w 38 30, queue := if bitAt w 29 then some (fld w 28 25) else none, smac := fld w 24 21
                     encap := fld w 20 13, dmac := fld d 47 0 }, s)
  match lpmRead t 8 (2 * nh) s with
  | (none, s) => (none, s)
  | (some w, s) =>
    if !bitAt w 63 then (none, s)
    else if bitAt w 62 then
      let h := s.pktHash t (fld w 41 39) key
      final ((fld w 57 42 + h % 2 ^ fld w 61 58) % 65536) s
    else final nh s

/-- The route lookup of an address in a VRF (R148 to R153). -/
def routeLookup (t vrf : Nat) (v6 : Bool) (a key : Nat) (s : State) : Option Hop × State :=
  if !(s.tl t).lpmValid then (none, s.bump .lpmCnt [t] 31 0)
  else match lpmRead t 9 vrf s with
    | (none, s) => (none, s)
    | (some r, s) =>
      let has := if v6 then bitAt r 59 else bitAt r 63
      let root := if v6 then fld r 58 56 else fld r 62 60
      if !has then (none, s)
      else match walk t v6 (strides v6 a) (root * 65536) s with
        | (.miss, s) => (none, s)
        | (.bad, s) => (none, raiseInt 12 .ftIntStatus [t] 4 (s.bump .lpmCnt [t] 63 32))
        | (.leaf nh, s) => nextHop t key nh s
        | (.exact nh, s) =>
          let set := crc32cSeed (s.tl t).emSeed (bytesBE 1 root ++ bytesBE 16 a) % 16384
          match exactWay t root a set [0, 1, 2, 3] s with
          | (none, s) => (none, s)
          | (some (some x), s) => nextHop t key x s
          | (some none, s) => nextHop t key nh s

/-! ### Flood sets (R170) -/

/-- FLOOD_SET_WRITE: KIND 0 a flood set of eight words, KIND 1 the flood set of a VID. -/
def floodSetWriteBody : CmdBody := fun c s =>
  let i := fld (c.p 0) 11 0
  let vlan := bitAt (c.p 0) 31
  checked [(0, fld (c.p 0) 63 48 != 0 && fld (c.p 0) 47 32 == 0 && fld (c.p 0) 30 12 == 0
             && c.params.length == (if vlan then 2 else 9)),
           (1, !vlan || decide (c.n 1 < 4096))] fun _ =>
    .done [] (eachTile (tilesOf c) (fun t s =>
      if vlan then
        (memWrite 12 t 10 (32768 + i) s).modTl t fun tl => { tl with vlanFlood := tset 0 tl.vlanFlood i (c.n 1) }
      else
        (memWriteN 12 t 10 (8 * i) 8 s).modTl t fun tl => { tl with
          floodSets := tset (List.replicate 8 0) tl.floodSets i (c.params.drop 1) }) s)

/-- The ports of the flood set of a VID, as a mask of 512 bits; none where a word is uncorrectable. -/
def floodPorts (t vid : Nat) (s : State) : Option Nat × State :=
  let r := memRead 12 t 10 (32768 + vid) 1 s
  let set := tget 0 (s.tl t).vlanFlood vid
  let q := memReadN 12 t 10 (8 * set) 1 8 r.st
  if r.ok && q.1 then
    let ws := tget (List.replicate 8 0) (s.tl t).floodSets set
    (some (ws.zipIdx.foldl (fun m x => m + x.1.toNat * 2 ^ (64 * x.2)) 0), q.2)
  else (none, q.2)

end Sys2Proof.Machine
end

