-- ==== Sys2Proof/Machine/LineCode.lean ====
section
/-! DEFINITION. Line coding (chapter 4): PAM4 levels and precoding (R76, R77), Topsail blocks and alignment markers (R78, R79), and the
alignment methods (R80). Pure functions. Bits and levels stand in transmission order. The coding of IEEE 802.3 and CPRI, which the
spec names and does not give, is in Config. -/

namespace Sys2Proof.Machine

/-! ### PAM4 (R76, R77) -/

/-- The level of a pair of bits, the first-transmitted bit first (R76). -/
def grayLevel (a b : Bool) : Nat :=
  match a, b with
  | false, false => 0 | false, true => 1 | true, true => 2 | true, false => 3

/-- The pair of bits of a level: the inverse mapping (R76). -/
def grayBits (l : Nat) : List Bool :=
  match l with
  | 0 => [false, false] | 1 => [false, true] | 2 => [true, true] | _ => [true, false]

/-- The levels of a stream of bits. -/
def toLevels : List Bool → List Nat
  | a :: b :: r => grayLevel a b :: toLevels r
  | _ => []

/-- The bits of a stream of levels. -/
def toBits (l : List Nat) : List Bool := l.flatMap grayBits

/-- Precoding: P(j) = (G(j) - P(j-1)) mod 4 (R77). -/
def precode (prev : Nat) : List Nat → List Nat
  | [] => []
  | g :: r => let p := (g + 4 - prev % 4) % 4; p :: precode p r

/-- Removal of precoding: G(j) = (P(j) + P(j-1)) mod 4 (R77). -/
def deprecode (prev : Nat) : List Nat → List Nat
  | [] => []
  | p :: r => (p + prev) % 4 :: deprecode p r

/-! ### Topsail blocks (R78) -/

/-- The w low bits of a number, most significant first. -/
def msbBits (w n : Nat) : List Bool := (List.range w).map fun i => n.testBit (w - 1 - i)

/-- The number that bits spell, most significant first. -/
def bitsNat (l : List Bool) : Nat := l.foldl (fun n b => 2 * n + b2n b) 0

/-- One step of the remainder by the generator x^11 + x^2 + 1. -/
def hammingStep (r : Nat) (b : Bool) : Nat :=
  let x := 2 * r + b2n b
  if 2048 ≤ x then x ^^^ 2053 else x

/-- The remainder of a polynomial, its highest coefficient first. -/
def hammingRem (l : List Bool) : Nat := l.foldl hammingStep 0

/-- A segment: 170 bits and their 11 parity bits. -/
def segment (d : List Bool) : List Bool := d ++ msbBits 11 (hammingRem (d ++ List.replicate 11 false))

/-- The remainder of x^n. -/
def hammingPow (n : Nat) : Nat := hammingRem (true :: List.replicate n false)

/-- The receiver corrects one bit error of a segment and takes its 170 bits. -/
def fixSegment (w : List Bool) : List Bool :=
  let r := hammingRem w
  let w := if r = 0 then w else match (List.range 181).find? fun i => hammingPow (180 - i) == r with
    | some i => w.set i !(w.getD i false)
    | none => w
  w.take 170

/-- Cut a list into n pieces of a length. -/
def pieces {α : Type} (k : Nat) : Nat → List α → List (List α)
  | 0, _ => []
  | n + 1, l => l.take k :: pieces k n (l.drop k)

/-- The marker of block n. -/
def blockMarker (n : Nat) : Nat := if n % 2 = 0 then 0x3C5A else 0xC3A5

/-- Block n of a lane with a codeword of 5,440 bits: 5,808 bits. -/
def topsailBlock (n : Nat) (cw : List Bool) : List Bool := msbBits 16 (blockMarker n) ++ (pieces 170 32 cw).flatMap segment

/-- The codeword of a received block. -/
def blockCodeword (b : List Bool) : List Bool := (pieces 181 32 (b.drop 16)).flatMap fixSegment

/-! ### Alignment markers (R79) -/

/-- PATTERN of Table 4-2. -/
def amPattern : Nat := 0x5A4C93E71B2D

/-- The alignment marker of a lane position, a port width and a count (Table 4-2), bit 0 first. -/
def alignmentMarker (pos width count : Nat) : List Bool :=
  let w := amPattern * 2 + pos % 8 * 2 ^ 49 + Nat.log2 width % 4 * 2 ^ 52 + count % 256 * 2 ^ 54
  (List.range 257).map fun i => w.testBit i

/-- Does a transcoded block carry an alignment marker? -/
def isMarker (b : List Bool) : Bool := b.headD true == false && bitsNat ((b.drop 1).take 48).reverse == amPattern

/-- The marker with which codeword c of a port of w lanes begins: block 0 of every 8,192 of its lane. -/
def markerOf (w c : Nat) : Option (List Bool) :=
  if c / w % 8192 = 0 then some (alignmentMarker (c % w) w (c / w / 8192)) else none

/-- The messages of 20 transcoded blocks that a run of blocks fills from codeword c on, idle where the blocks have ended. A marker takes
the place of one block of idle. -/
def messages (w : Nat) (idle : List Bool) : Nat → Nat → List (List Bool) → List (List Bool)
  | 0, _, _ => []
  | n + 1, c, l =>
    if l.isEmpty then []
    else
      let m := (markerOf w c).toList
      let k := 20 - m.length
      let x := m ++ l.take k
      (x ++ List.replicate (20 - x.length) idle).flatten :: messages w idle n (c + 1) (l.drop k)

/-- The bits of lane i of w: the blocks of the codewords that fall on it, the first of which is codeword c (R78). -/
def laneBlocks (w i c : Nat) (cws : List (List Bool)) : List Bool :=
  (List.range cws.length).flatMap fun k => if (c + k) % w = i then topsailBlock ((c + k) / w) (cws.getD k []) else []

/-- The line bits of each lane of a Topsail port of w lanes for a frame that begins in codeword c. -/
def topsailSend (w c : Nat) (frame : List Byte) : List (List Bool) :=
  let l := Config.transcode frame
  let cws := (messages w Config.idleBlock (l.length + 1) c l).map fun m => m ++ Config.rsParity m
  (List.range w).map fun i => laneBlocks w i c cws

/-- The codewords that the line bits of the lanes of a Topsail port carry, from the first block of lane 0 on. -/
def laneCodewords (lanes : List (List Bool)) : List (List Bool) :=
  let w := max 1 lanes.length
  (List.range ((lanes.headD []).length / 5808 * w)).map fun k =>
    blockCodeword (((lanes.getD (k % w) []).drop (5808 * (k / w))).take 5808)

/-- Corrected symbols and uncorrectable codewords of lane i, from the decoded codewords of w lanes. -/
def laneFec (w i : Nat) (l : List (Option (List Bool × Nat))) : Nat × Nat :=
  ((List.range l.length).filter fun k => k % w == i).foldl (fun a k =>
    match l.getD k none with
    | some m => (a.1 + m.2, a.2)
    | none => (a.1, a.2 + 1)) (0, 0)

/-- The bytes, FCS included, that the line bits of the lanes of a Topsail port carry, none where RS decoding fails, with the corrected
symbols and the uncorrectable codewords of each lane. Alignment markers are taken out. -/
def topsailReceive (lanes : List (List Bool)) : Option (List Byte) × List (Nat × Nat) :=
  let l := (laneCodewords lanes).map Config.rsDecode
  let blocks := l.flatMap fun x => (pieces 257 20 (x.getD ([], 0)).1).filter fun b => !isMarker b
  (if l.all Option.isSome then Config.untranscode blocks else none,
   (List.range lanes.length).map fun i => laneFec (max 1 lanes.length) i l)

/-! ### Alignment (R80, Table 4-3) -/

/-- The last n of a list. -/
def lastN {α : Type} (n : Nat) (l : List α) : List α := l.drop (l.length - n)

/-- How many markers of a list differ from those of blocks n, n + 1, and so on. -/
def wrongMarkers : Nat → List Nat → Nat
  | _, [] => 0
  | n, m :: r => b2n (m != blockMarker n) + wrongMarkers (n + 1) r

/-- Two successive alignment markers: PATTERN correct, AM_COUNT incrementing. -/
def amsConfirm (l : List (Nat × Nat)) : Bool :=
  match lastN 2 l with
  | [a, b] => a.1 == amPattern && b.1 == amPattern && b.2 == (a.2 + 1) % 256
  | _ => false

/-- A sync header of 64b/66b is valid. -/
def headerOk (h : Nat) : Bool := h == 1 || h == 2

/-- Lock and confirm of Table 4-3 for a row of Table 2-16 (its line code); `cpri` on CPRI ports. -/
def huntLocks (h : Hunt) (row : Nat) (cpri : Bool) : Bool :=
  match row with
  | 0 => decide (3 ≤ h.commas.length) && (lastN 2 h.commas).all (!·) && h.standard
  | 1 => decide (64 ≤ h.headers.length) && (lastN 64 h.headers).all headerOk && (!cpri || h.standard)
  | 2 | 3 | 4 => h.standard && decide (64 ≤ h.codewords.length) && (lastN 64 h.codewords).all (!·)
  | 5 => decide (64 ≤ h.markers.length) && amsConfirm h.ams
      && (wrongMarkers 0 (lastN 64 h.markers) == 0 || wrongMarkers 1 (lastN 64 h.markers) == 0)
  | _ => false

/-- Loss of Table 4-3. -/
def huntLost (h : Hunt) (row : Nat) : Bool :=
  match row with
  | 1 => decide (16 ≤ ((lastN 64 h.headers).filter fun x => !headerOk x).length)
  | 5 => decide (16 ≤ min (wrongMarkers 0 (lastN 64 h.markers)) (wrongMarkers 1 (lastN 64 h.markers)))
      || (decide (2 ≤ h.ams.length) && (lastN 2 h.ams).all fun a => a.1 != amPattern)
  | _ => !h.standard

end Sys2Proof.Machine
end

