-- ==== Sys2Proof/Machine/SleepMsg.lean ====
section
/-! DEFINITION. Dravua frames that the part itself sends (chapters 4, 13, 15), and the end of a cell-sleep agreement that has not
committed (R364, R368). -/

namespace Sys2Proof.Machine

/-- The Tile of a port or lane. -/
def tileOf (port : Nat) : Nat := port / 32

/-- The link-local address of Dravua frames. -/
def dravuaMac : Nat := 0x0180C200000E

/-- A Dravua frame: addresses, the Dravua EtherType of the port's Tile, and the message padded to 46 bytes. -/
def dravuaFrame (port : Nat) (msg : List Byte) (s : State) : List Byte :=
  bytesBE 6 dravuaMac ++ bytesBE 6 (s.rg .mgmtMac).toNat ++ bytesBE 2 (s.rg .dravuaEtype [tileOf port]).toNat
    ++ msg ++ List.replicate (46 - msg.length) 0

/-- Lane n and port p. -/
def State.lane (s : State) (n : Nat) : Lane := tget {} s.port.lanes n
def State.prt (s : State) (p : Nat) : Port := tget {} s.port.ports p
def State.setLane (s : State) (n : Nat) (v : Lane) : State := { s with port := { s.port with lanes := tset {} s.port.lanes n v } }
def State.setPort (s : State) (p : Nat) (v : Port) : State := { s with port := { s.port with ports := tset {} s.port.ports p v } }

/-- Cell sleep of timeline t. -/
def State.sleepOf (s : State) (t : Nat) : CellSleep := tget {} s.power.cellSleep t
def State.setSleep (s : State) (t : Nat) (v : CellSleep) : State :=
  { s with power := { s.power with cellSleep := tset {} s.power.cellSleep t v } }

/-- The participants of an agreement: formed ports that the target set names. -/
def State.participants (s : State) (c : CellSleep) : List Nat :=
  (List.range 512).filter fun p => bitAt (c.parts.getD (p / 64) 0) (p % 64) && (s.prt p).formed

/-- A cell-sleep message (Table 15-8). -/
def sleepMsg (typ t cause wakeSfn : Nat) (c : CellSleep) (port : Nat) (s : State) : List Byte :=
  bytesBE 1 typ ++ bytesBE 1 1 ++ bytesBE 2 c.agreement ++ bytesBE 2 (s.deviceId % 4096) ++ bytesBE 1 t ++ bytesBE 1 cause
    ++ bytesBE 2 c.sleepSfn ++ bytesBE 2 c.commitSfn ++ bytesBE 2 wakeSfn ++ bytesBE 2 (s.epoch (ekLane port))

/-- WAKE_SFN of a message: the wake frame, 0xFFFF for none (an agreement carries 1,024 for none). -/
def CellSleep.wakeField (c : CellSleep) : Nat := if c.wakeSfn < 1024 then c.wakeSfn else 0xFFFF

/-- Send a cell-sleep message to one participant. -/
def sendSleep (typ t cause wakeSfn port : Nat) (s : State) : State :=
  mgmtSend port (dravuaFrame port (sleepMsg typ t cause wakeSfn (s.sleepOf t) port s) s) s

/-- The interrupt CELL_SLEEP_CHANGE. -/
def sleepChange (s : State) : State := raiseInt 2 .pwrIntStatus [] 5 s

/-- End an agreement that has not committed: SLEEP_CANCEL to every participant, the final reply, the cause and the
count (R364, R367, R368). -/
def cancelSleep (t cause : Nat) (st : Status) (detail : Nat) (s : State) : State :=
  let c := s.sleepOf t
  if c.state != 1 then s
  else
    let s := (s.participants c).foldl (fun s p => sendSleep 0x43 t cause c.wakeField p s) s
    let s := s.setSleep t { c with state := 0, cause := cause, wakeFixed := false }
    sleepChange (closeCmd 0xB04 t st detail [] (s.bump .cellSleepCnt [t] 47 32))

/-- A participant port that goes down before the commit point cancels the agreement with cause PORT_DOWN. -/
def cellPortDown (port : Nat) (s : State) : State :=
  (List.range 8).foldl (fun s t =>
    let c := s.sleepOf t
    if c.state = 1 ∧ (s.participants c).contains port then cancelSleep t 5 .cancelled 0 s else s) s

end Sys2Proof.Machine
end

