-- ==== Sys2Proof/Machine/Mast.lean ====
section
/-! DEFINITION. The Mast clock (chapter 2): the counter, the servo, 1PPS, ToD, 10 MHz, SYNCE_CLK (R41), frequency sources, holdover
and step confirmation. Chapter 3 applies the step (Rigging.lean). -/

namespace Sys2Proof.Machine

/-- Replace the servo. -/
def State.setServo (s : State) (v : Servo) : State := { s with mast := { s.mast with servo := v } }

/-- Keep the stretches that reach 2^21 ticks back, enough for every TICK_OFFSET. -/
def pruneRates (lim : Int) : List RateSeg → List RateSeg
  | [] => []
  | r :: rs => if (r.start : Int) ≤ lim then [r] else r :: pruneRates lim rs

/-- FREQ_ADJ takes a new value from the next tick on (R31, R33). -/
def setFreq (f : Int) (s : State) : State :=
  let old : RateSeg := { start := s.tick, at48 := s.time.master.to48, inc := s.inc48 }
  let new : RateSeg := { old with inc := nominalInc + f }
  let hist := if s.mast.rates = [] then [old] else pruneRates ((s.tick : Int) - 2097152) s.mast.rates
  { s with mast := { s.mast with servo := { s.mast.servo with freqAdj := f }, rates := new :: hist } }

/-- The master counter and every replica load a time (R19, R45). -/
def loadTime (t : MTime) (s : State) : State :=
  { s with
    time := { master := t, replicas := s.time.replicas.map fun r => { r with t := t } }
    mast := { s.mast with rates := [] } }

/-! ### Time-error estimate (R472) and status -/

/-- y0 in 10^-6 ppb and D in 10^-9 ppb/s of the oscillator class (Table 2-7). -/
def oscClass (s : State) : Nat × Nat :=
  if s.mast.freqValid && s.mast.params.freqSrc != 0 then (5000, 0)
  else match s.mast.params.oscClass with
    | 0 => (10000000, 10000000)
    | 1 => (100000, 1160)
    | 2 => (10000, 120)
    | _ => (s.mast.params.hoY0, s.mast.params.hoD)

/-- TE_BASE + |sum / cnt| + y0 t + D t^2 / 2 in ns, rounded up (R472); t in ticks. -/
def teExact (base : Nat) (sum : Int) (cnt : Nat) (y0 d t : Nat) : Nat :=
  let ka := max 1 cnt * 65536
  let kb := 800000000000000
  let kc := 1280000000000000000000000000
  let num := sum.natAbs * kb * kc + y0 * t * ka * kc + d * t * t * ka * kb
  base + (num + ka * kb * kc - 1) / (ka * kb * kc)

/-- The accepted samples that the mean of R472 covers outside HOLDOVER and FREERUN. -/
def teSamples (s : State) : List Int := s.mast.servo.lastE.take (min 64 s.mast.servo.sinceLeft)

/-- TE_EST in ns (R472). -/
def State.teEst (s : State) : Nat :=
  let v := s.mast.servo
  match v.state with
  | .freerun => 0xFFFFFFFF
  | .holdover => teExact s.mast.params.teBase v.hoEntrySum v.hoEntryCnt (oscClass s).1 (oscClass s).2 (s.tick - v.hoEntryTick)
  | _ => teExact s.mast.params.teBase ((teSamples s).foldl (· + ·) 0) (teSamples s).length 0 0 0

/-- HO_IN_SPEC: published TE_EST at most HO_SPEC (R42, R472). -/
def State.hoInSpec (s : State) : Bool := min s.teEst 0xFFFFFFFF ≤ s.mast.params.hoSpec

/-- The holdover average is valid after 64 s of LOCKED time (R33). -/
def State.hoValid (s : State) : Bool := 64 * secTicks ≤ s.mast.servo.lockedTotal

/-- A valid frequency source drives the integral path. -/
def State.freqAssist (s : State) : Bool := s.mast.freqValid && s.mast.params.freqSrc != 0

/-- Code of a servo state (Table 2-6). -/
def ServoState.code : ServoState → Nat
  | .freerun => 0 | .acquire => 1 | .locked => 2 | .holdover => 3 | .stepPending => 4

/-- Servo in HOLDOVER or FREERUN. -/
def State.servoHold (s : State) : Bool := s.mast.servo.state == .holdover || s.mast.servo.state == .freerun

/-- MC_STATUS (Table 2-13). -/
def State.mcStatusView (s : State) : W :=
  let v := s.mast.servo
  let run := s.mast.bcRunning
  let todOk := match s.mast.todInTick with | some t => s.tick - t ≤ 2 * secTicks | none => false
  BitVec.ofNat 64 (v.state.code * 8192 + b2n s.mast.timeValid * 4096 + b2n s.servoHold * 2048 + b2n s.hoInSpec * 1024
    + b2n s.freqAssist * 512 + b2n s.hoValid * 256 + s.mast.tsEpoch % 4 * 64 + b2n s.mast.refoscOk * 32
    + b2n s.mast.ppsInOk * 16 + b2n todOk * 8 + b2n (run && s.mast.leap61) * 4 + b2n (run && s.mast.leap59) * 2
    + b2n (v.state == .stepPending))

/-- clockClass of the boundary-clock service (R470). -/
def State.clockClass (s : State) : Nat :=
  if !s.mast.bcRunning then 248
  else match s.mast.servo.state with
    | .freerun => 248
    | .holdover => if s.hoInSpec then 135 else 165
    | .locked =>
      if s.mast.params.servoSrc = 0 then s.mast.parentClass
      else if s.mast.params.todInEn = 1 then s.mast.todClass else 248
    | _ => s.mast.servo.heldClass

/-! ### The servo -/

/-- The window of R33: the most recent ticks of LOCKED time, newest first, cut to a number of ticks. -/
def cutSegs : Nat → List (Int × Nat) → List (Int × Nat)
  | _, [] => []
  | n, (f, k) :: r => if n = 0 then [] else if k ≤ n then (f, k) :: cutSegs (n - k) r else [(f, n)]

/-- The holdover average: time-weighted mean of FREQ_ADJ over the window, rounded half to even (R33). -/
def State.hoAverage (s : State) : Int :=
  let w := cutSegs (s.mast.params.hoAvgWin * secTicks) s.mast.servo.lockedSegs
  let sum := w.foldl (fun (a : Int) x => a + x.1 * (x.2 : Int)) 0
  let n := w.foldl (fun (a : Int) x => a + (x.2 : Int)) 0
  if n = 0 then 0 else roundHalfEven sum n

/-- The boundary-clock service keeps what an Announce message of its parent says (R470). -/
def keepAnnounce (a : Announce) (s : State) : State :=
  { s with mast := { s.mast with parentClass := a.cls, utcOffset := a.utc, leap61 := a.leap61, leap59 := a.leap59 } }

/-- What the boundary-clock service has heard from its parent by now (R470). With SERVO_SRC = PTP it keeps the clockClass and the
timePropertiesDS of the last Announce of its parent that it has read. Which port is its parent, and how far its program has read, the
part does not fix: a free value picks one of the waiting messages, or none (log 20). Before the first one it has heard nothing. -/
def hearParent (s : State) : State :=
  if !s.mast.bcRunning || s.mast.params.servoSrc != 0 || s.mast.announces.isEmpty then s
  else
    let n := s.mast.announces.length
    let k := (takeFree s).1.toNat % (n + 1)
    let t := (takeFree s).2
    match t.mast.announces[k]? with
    | none => t
    | some a => keepAnnounce a { t with mast := { t.mast with announces := t.mast.announces.drop (k + 1) } }

/-- In HOLDOVER with no valid frequency source FREQ_ADJ holds the average (R33). -/
def holdAverage (s : State) : State := if s.mast.servo.state = .holdover then setFreq s.hoAverage s else s

/-- Interrupts and the event of a servo state change (R34). -/
def servoChanged (old : ServoState) (s : State) : State :=
  let new := s.mast.servo.state
  let s := raiseInt 7 .mcIntStatus [] 0 s
  let s := when (new == .holdover) (raiseInt 7 .mcIntStatus [] 1) s
  let s := when (old == .holdover) (raiseInt 7 .mcIntStatus [] 2) s
  postEvent 1 [s.mcStatusView] s

/-- The servo moves to another state (Table 2-6): what each entry sets, then R34. -/
def enterServo (new : ServoState) (s : State) : State :=
  let s := hearParent s
  let old := s.mast.servo.state
  let held := s.clockClass
  let v := s.mast.servo
  let s := match new with
    | .holdover =>
      let e := v.lastE.take 64
      let s := s.setServo { v with
        state := .holdover, window := [], lockRun := 0, hoEntryTick := s.tick
        hoEntrySum := e.foldl (· + ·) 0, hoEntryCnt := e.length }
      setFreq (if s.freqAssist then clampI 87960930222 (-s.mast.freqMeasured) else s.hoAverage) s
    | .freerun => s.setServo { v with state := .freerun, window := [], lockRun := 0 }
    | .locked => { s with mast := { s.mast with timeValid := true, servo := { v with state := .locked, rejects := 0 } } }
    | .acquire => s.setServo { v with state := .acquire, lockRun := 0, heldClass := held }
    | .stepPending => s.setServo { v with state := .stepPending, heldClass := held }
  servoChanged old s

/-- The loop of "Structure" for an accepted sample. -/
def servoLoop (e : Int) (s : State) : State :=
  let p := s.mast.params
  let v := s.mast.servo
  let prop : Int := e * p.kpM / (2 ^ p.kpSh : Int)
  let slew : Int := (p.slewMax * 35184372 + 50) / 100
  let clamped := slew < prop.natAbs
  let prop' := clampI slew prop
  let integ :=
    if s.freqAssist then s.mast.freqMeasured
    else if clamped then v.integ
    else clampI 87960930222 (v.integ + e * p.kiM / (2 ^ p.kiSh : Int))
  setFreq (clampI 87960930222 (-(prop' + integ))) (s.setServo { v with integ := integ })

/-- Count a rejected sample (R32, R48). -/
def rejectSample (s : State) : State := raiseInt 7 .mcIntStatus [] 5 (s.bump .mcCounters [] 63 48)

/-- Do the confirmation window's samples all lie within STEP_AGREE of their mean (R44)? -/
def windowAgrees (w : List Int) (agree16 : Int) : Bool :=
  let n : Int := w.length
  let sum := w.foldl (· + ·) 0
  w.all fun x => ((x * n - sum).natAbs : Int) ≤ agree16 * n

/-- What an accepted sample does (R43, R44, R47, Table 2-6). -/
def acceptSample (e : Int) (s : State) : State :=
  let p := s.mast.params
  let st := s.mast.servo.state
  let v := s.mast.servo
  let fresh := st == .freerun || st == .holdover
  let s := s.setServo { v with
    rejects := 0, everAccepted := true, lastAccept := s.tick, lastE := (e :: v.lastE).take 64
    sinceLeft := (if fresh then 0 else v.sinceLeft) + 1 }
  if st = .stepPending then s
  else if p.stepEn = 1 ∧ (p.stepThreshold : Int) * ns16 < e.natAbs then
    let w := (s.mast.servo.window ++ [e])
    let w := w.drop (w.length - p.stepConfirm)
    let s := s.setServo { s.mast.servo with window := w, lockRun := 0 }
    if w.length = p.stepConfirm ∧ windowAgrees w ((p.stepAgree : Int) * ns16) then
      let d := -roundHalfEven (w.foldl (· + ·) 0) w.length
      enterServo .stepPending (s.setServo { s.mast.servo with delta := d, window := [] })
    else when fresh (enterServo .acquire) s
  else
    let s := when fresh (enterServo .acquire) s
    let s := s.setServo { s.mast.servo with window := [] }
    let s := when ((p.stepThreshold : Int) * ns16 < e.natAbs) (raiseInt 7 .mcIntStatus [] 3) s
    let s := servoLoop e s
    if s.mast.servo.state = .acquire then
      let run := if (e.natAbs : Int) ≤ (p.lockThresh : Int) * ns16 then s.mast.servo.lockRun + 1 else 0
      let s := s.setServo { s.mast.servo with lockRun := run }
      when (p.lockCount ≤ run) (enterServo .locked) s
    else s

/-- Deliver a phase sample to the servo (R32). -/
def servoSample (e : Int) (s : State) : State :=
  let p := s.mast.params
  let v := s.mast.servo
  if v.state = .locked ∧ (p.outlierLimit : Int) * ns16 < e.natAbs then
    if v.rejects < p.outlierRun then rejectSample (s.setServo { v with rejects := v.rejects + 1 })
    else acceptSample e (enterServo .acquire s)
  else acceptSample e s

/-- A sample timeout (Table 2-6, R47, R471): HOLDOVER with a valid average, FREERUN without; a pending step is
cancelled. -/
def sampleTimeout (s : State) : State :=
  match s.mast.servo.state with
  | .freerun => s
  | .holdover => s
  | _ => enterServo (if s.hoValid then .holdover else .freerun) (s.setServo { s.mast.servo with delta := 0 })

/-- A write of SERVO_SAMPLE (Table 2-10, R48, R471). -/
def servoWrite (w : W) (s : State) : State :=
  let valid := bitAt w 63
  let lost := bitAt w 62
  if valid && lost then rejectSample s
  else if !valid && !lost then s
  else if fld w 61 60 != s.mast.params.servoDomain then s.bump .mcCounters [] 47 32
  else if lost then sampleTimeout s
  else when (s.mast.params.servoSrc == 0) (servoSample (sgn 48 (fld w 47 0))) s

def execServoSample (value : W) (s : State) : Host.Outcome State Fault Refusal := keep s (servoWrite value s)

def execSourceLost (value : W) (s : State) : Host.Outcome State Fault Refusal := keep s (servoWrite value s)

/-- SAMPLE_TIMEOUT has run out: this many ticks without an accepted sample, in units of 62.5 ms (Table 2-14). -/
def timeoutDue (s : State) : Bool := s.mast.servo.lastAccept + s.mast.params.sampleTimeout * 50000000 ≤ s.tick

def execSampleTimeout (s : State) : Host.Outcome State Fault Refusal := keep s (when (timeoutDue s) sampleTimeout s)

/-! ### 1PPS in, ToD in, frequency sources -/

/-- The Mast time at the k-th 64th of the present tick, rounded half to even to 2^-16 ns (R20). -/
def subTick16 (s : State) (k : Nat) : Int :=
  roundHalfEven (s.time.master.to48 * 64 + s.inc48 * k) (64 * 4294967296)

/-- PPS_IN_DELAY in 2^-16 ns. -/
def ppsInDelay16 (s : State) : Int := roundHalfEven ((s.mast.params.ppsInDelay : Int) * 65536) 1000

/-- The difference of a time to the nearest whole second, in (-0.5 s, 0.5 s] (R36). -/
def nearestSecond (t16 : Int) : Int := let r := t16 % sec16; if 2 * r ≤ sec16 then r else r - sec16

/-- A sample of the 1PPS phase detector reaches the servo when it is the phase source. -/
def ppsSample (e : Int) (s : State) : State := when (s.mast.params.servoSrc == 1) (servoSample e) s

/-- Mast time gone by, in 2^-48 ns, since the last edge of PPS_IN that came where one was expected. DESIGN CHOICE (log 61): the
predicted times of R37 run in Mast time without its steps. -/
def ppsInSince (s : State) : Int := s.time.master.to48 - s.mastAt (s.mast.ppsInLast : Int)

/-- One second and one microsecond in 2^-48 ns. -/
def sec48 : Int := sec16 * 4294967296
def us48 : Int := 1000 * ns16 * 4294967296

/-- An edge of PPS_IN comes where one is expected (R37): within 1 µs of a whole number of seconds after the last such edge. The first
edge, or the first after a loss, begins the prediction. -/
def ppsInExpected (s : State) : Bool :=
  let r := ppsInSince s % sec48
  !s.mast.ppsInOk || decide (r ≤ us48) || decide (sec48 - r ≤ us48)

/-- A rising edge of PPS_IN (R36, R37). -/
def ppsInEdge (sub : Nat) (s : State) : State :=
  let t := subTick16 s sub - ppsInDelay16 s
  let s := if ppsInExpected s then { s with mast := { s.mast with ppsInOk := true, ppsInLast := s.tick } } else s
  if s.mast.params.todInEn = 1 then
    { s with mast := { s.mast with ppsInWaiting := s.mast.ppsInWaiting ++ [{ time16 := t, tick := s.tick }] } }
  else ppsSample (nearestSecond t) s

def execPpsInEdge (sub : Nat) (s : State) : Host.Outcome State Fault Refusal := keep s (ppsInEdge sub s)

/-- Three consecutive expected edges are missing: the last of their windows has passed with no edge in one of them (R37). -/
def ppsLossDue (s : State) : Bool := s.mast.ppsInOk && decide (3 * sec48 + us48 < ppsInSince s)

def execPpsInLoss (s : State) : Host.Outcome State Fault Refusal :=
  keep s (when (ppsLossDue s)
    (fun s => raiseInt 7 .mcIntStatus [] 6 { s with mast := { s.mast with ppsInOk := false } }) s)

/-- The oldest waiting edge has waited 900 ms for its label (R36). -/
def unlabelledDue (s : State) : Bool :=
  match s.mast.ppsInWaiting with
  | e :: _ => s.mast.params.todInEn == 1 && e.tick + 900 * msTicks ≤ s.tick
  | [] => false

def execPpsUnlabelled (s : State) : Host.Outcome State Fault Refusal :=
  keep s (when (unlabelledDue s)
    (fun s => ({ s with mast := { s.mast with ppsInWaiting := s.mast.ppsInWaiting.drop 1 } }).bump .mcCounters [] 31 16) s)

/-- A ToD message is good: 16 bytes, SYNC, TYPE 0x01 and CRC over bytes 1 to 13 (Table 2-8, R40). DESIGN CHOICE (log 62): R40 names the
CRC and TYPE; a message of another length, or whose first byte is not 0xC5, is discarded and counted like them. -/
def todGood (b : List Byte) : Bool :=
  b.length == 16 && byteAt b 0 == 0xC5 && byteAt b 1 == 1 && crc16 ((b.drop 1).take 13) == bytesNat b 14 2

/-- A ToD input message (R36, R40, R470): it labels the last edge, not yet labelled and at most 900 ms old. -/
def todInMessage (b : List Byte) (s : State) : State :=
  if s.mast.params.todInEn != 1 then s
  else if !todGood b then s.bump .mcCounters [] 15 0
  else
    let fl := byteAt b 8
    let s := { s with mast := { s.mast with todInTick := some s.tick, todClass := byteAt b 11 } }
    let s := when (s.mast.params.servoSrc == 1) (fun s => { s with mast := { s.mast with
      utcOffset := sgn 16 (bytesNat b 9 2), leap61 := fl.testBit 2, leap59 := fl.testBit 3 } }) s
    match s.mast.ppsInWaiting.getLast? with
    | some e =>
      if s.tick ≤ e.tick + 900 * msTicks then
        ppsSample (e.time16 - (bytesNat b 2 6 : Int) * sec16)
          { s with mast := { s.mast with ppsInWaiting := s.mast.ppsInWaiting.dropLast } }
      else s
    | none => s

def execTodInMessage (bytes : List Byte) (s : State) : Host.Outcome State Fault Refusal := keep s (todInMessage bytes s)

/-- The end of a 1 s gate of the selected frequency source (R38, Table 2-6): the measured FREQ_ADJ, and whether the
source is valid. -/
def freqGate (source : Nat) (measured : Int) (valid : Bool) (s : State) : State :=
  if source = 0 ∨ source ≠ s.mast.params.freqSrc then s
  else
    let s := { s with mast := { s.mast with freqValid := valid, freqMeasured := measured } }
    if valid ∧ s.mast.servo.state = .holdover then
      setFreq (clampI 87960930222 (-measured)) (s.setServo { s.mast.servo with integ := measured })
    else if !valid then holdAverage s
    else s

def execFreqGate (source : Nat) (measured : Int) (valid : Bool) (s : State) : Host.Outcome State Fault Refusal :=
  keep s (freqGate source measured valid s)

/-! ### SYNCE_CLK (R41). Each output takes 16 bits of SYNCE_OUT_CTL: source lane [8:0], divider [9], software squelch [10] (DESIGN
CHOICE, log 12). -/

/-- The field of output i. -/
def synceField (v : W) (i : Nat) : Nat := fld v (16 * i + 15) (16 * i)

/-- The source lane of an output has a locked clock. -/
def State.synceLane (s : State) (i : Nat) : Bool :=
  let l := s.lane (synceField (s.rg .synceOutCtl) i % 512)
  l.sig && l.cdr && l.rxDoze == 0

/-- Software squelches an output. -/
def State.synceOff (s : State) (i : Nat) : Bool := (synceField (s.rg .synceOutCtl) i).testBit 10

/-- An output carries no clock: its lane has none, software squelches it, or a new source still holds it low. -/
def State.synceLow (s : State) (i : Nat) : Bool :=
  !s.synceLane i || s.synceOff i || decide (s.tick < (s.mast.synce.getD i {}).holdUntil)

/-- Squelch or release one output; the loss of its source's clock raises SYNCE_SQUELCH. -/
def synceOne (i : Nat) (s : State) : State :=
  let o := s.mast.synce.getD i {}
  let q := s.synceLow i
  if q = o.squelched then s
  else
    let s := { s with mast := { s.mast with synce := s.mast.synce.set i { o with squelched := q } } }
    pinEdge (16 + i) (!q) 0 (when (!s.synceLane i && !s.synceOff i) (raiseInt 7 .mcIntStatus [] 10) s)

/-- Squelch each output whose source lane has no locked clock. -/
def synceUpdate (s : State) : State := (List.range 4).foldl (fun s i => synceOne i s) s

/-- A write of SYNCE_OUT_CTL: a new source lane holds the output low for 10 µs. -/
def synceWrite (v : W) (s : State) : State :=
  let old := s.rg .synceOutCtl
  let s := s.setRg .synceOutCtl [] v
  synceUpdate ((List.range 4).foldl (fun s i =>
    if synceField old i % 512 = synceField v i % 512 then s
    else
      let o : SyncEOut := { s.mast.synce.getD i {} with holdUntil := s.tick + nsTicks 10000 }
      { s with mast := { s.mast with synce := s.mast.synce.set i o } }) s)

def execSynceOutCtlWrite (value : W) (s : State) : Host.Outcome State Fault Refusal := keep s (synceWrite value s)

/-! ### The tick -/

/-- PPS_OUT_COMP in steps of 19.53125 ps, rounded to the nearest (Table 2-5). -/
def ppsCompSteps (s : State) : Int := roundHalfEven (s.mast.params.ppsOutComp * 100000) 1953125

/-- PPS_OUT falls when its high time has run out by tick x; the delay line places both edges alike, so it stays high for PPS_WIDTH
(R35). -/
def ppsFall (x : Nat) (s : State) : State :=
  match s.mast.ppsFallAt with
  | some t => if t ≤ x then
      { s with
        mast := { s.mast with ppsFallAt := none, ppsLevel := false }
        out := { s.out with edges := s.out.edges ++ [{ pin := 0, level := false, tick := t, note := s.mast.ppsComp }] } }
    else s
  | none => s

/-- SECONDS increments in tick x to the value sec: PPS_OUT rises (R35) unless R46 suppresses the pulse. -/
def ppsOut (sec x : Nat) (s : State) : State :=
  let early := match s.mast.ppsLast with
    | some l => s.mast.ppsStepFlag && x < l + 400000000
    | none => false
  if early then s
  else
    let m := { s.mast with
      ppsLevel := true, ppsLast := some x, ppsFallAt := some (x + s.mast.params.ppsWidth * usTicks)
      ppsComp := twos 32 (ppsCompSteps s)
      ppsIntervalStep := s.mast.ppsStepFlag, ppsStepFlag := false, ppsSec := sec
      todDue := some (x + s.mast.params.todDelay * msTicks) }
    let s := { s with mast := m }
    { s with out := { s.out with edges := s.out.edges ++
      [{ pin := 0, level := true, tick := x, note := twos 32 (ppsCompSteps s) }] } }

/-! ### The 10 MHz output (R38) -/

/-- The level of the 10 MHz output: high in the first half of every 100 ns of Mast time. After a step it stands high until the
half-cycle that was running ends, then low until it resumes on a multiple of 100 ns of the new time. -/
def State.tenMhz (s : State) : Bool :=
  match s.mast.tenResume with
  | some r =>
    if s.now16 < r then (match s.mast.tenHigh with | some t => decide (s.tick < t) | none => false)
    else decide (s.now16 % (100 * ns16) < 50 * ns16)
  | none => decide (s.now16 % (100 * ns16) < 50 * ns16)

/-- The output has resumed: it follows Mast time again. -/
def tenRelease (s : State) : State :=
  match s.mast.tenResume with
  | some r => if r ≤ s.now16 then { s with mast := { s.mast with tenResume := none, tenHigh := none } } else s
  | none => s

/-- n consecutive ticks of the time clock in which nothing else happens (R16, R17): the increment is added n times to
the master counter and to every replica; LOCKED time enters the holdover window (R33), which keeps what the largest HO_AVG_WIN takes;
PPS_OUT follows SECONDS; a held SYNCE_CLK output is released (R41). -/
def mastTick (n : Nat) (s : State) : State :=
  let d := s.inc48 * n
  let old := s.time.master
  let t := s.time.master.add48 d
  let v := s.mast.servo
  let v' := if v.state = .locked then
      { v with
        lockedTotal := v.lockedTotal + n
        lockedSegs := match v.lockedSegs with
          | (f, k) :: r => if f = v.freqAdj then (f, k + n) :: r
            else (v.freqAdj, n) :: cutSegs (1024 * secTicks) v.lockedSegs
          | [] => [(v.freqAdj, n)] }
    else v
  let secs : List Nat := (List.range (t.sec - old.sec)).map fun k => old.sec + 1 + k
  let ticks : List (Nat × Nat) := secs.map fun x => (x, (s.boundaryTick ((x : Int) * sec16)).toNat)
  let s := { s with
    time := { master := t, replicas := s.time.replicas.map fun r => { t := r.t.add48 d } }
    mast := { s.mast with tick := s.mast.tick + n, servo := v' } }
  tenRelease (synceUpdate (ppsFall s.tick (ticks.foldl (fun s x => ppsOut x.1 x.2 (ppsFall x.2 s)) s)))

/-- Time passes while the Mast clock does not run: before stage 4 of a start-up that reset it (Table 18-2), in a halted part, and while
its domain is powered off (R348). -/
def idleTick (n : Nat) (s : State) : State := { s with mast := { s.mast with tick := s.mast.tick + n } }

/-- The ToD message that describes the last pulse (Table 2-8, R39, R42, R46, R470). -/
def todMessage (s : State) : List Byte :=
  let run := s.mast.bcRunning
  let fl := b2n s.servoHold + 2 * b2n s.mast.ppsIntervalStep + 4 * b2n (run && s.mast.leap61)
    + 8 * b2n (run && s.mast.leap59) + 16 * b2n s.mast.timeValid + 32 * b2n s.freqAssist
  let utc := if run then s.mast.utcOffset else 0
  let body := bytesBE 1 1 ++ bytesBE 6 s.mast.ppsSec ++ bytesBE 1 fl ++ bytesBE 2 (twos 16 utc)
    ++ bytesBE 1 s.clockClass ++ bytesBE 2 (min s.teEst 65535)
  bytesBE 1 0xC5 ++ body ++ bytesBE 2 (crc16 body)

/-- The ToD message of the last pulse is due (R39). -/
def todDueNow (s : State) : Bool := match s.mast.todDue with | some t => t ≤ s.tick | none => false

def execTodOutStart (s : State) : Host.Outcome State Fault Refusal :=
  keep s (when (todDueNow s) (fun s =>
    let s := hearParent s
    { s with out := { s.out with tod := s.out.tod ++ [todMessage s] }, mast := { s.mast with todDue := none } }) s)

/-! ### Replicas, reference oscillator, snapshot -/

/-- Domain of replica i: Tiles 0 to 15, then clusters 0 to 3. -/
def replicaDomain (i : Nat) : Nat := if i < 16 then domTile i else domCluster (i - 16)

/-- Check one replica against the check word (R11, R17): a mismatch is a TIME fault of its instance and reloads it. -/
def checkReplica (i : Nat) (s : State) : State :=
  match s.time.replicas[i]? with
  | none => s
  | some r =>
    let forced := (s.fault 7 (1 + i)).forced.testBit 10
    if (r.t = s.time.master ∧ !forced) ∨ !s.awake (replicaDomain i) then s
    else
      let s := unforce 7 (1 + i) 10 s
      let s := { s with time := { s.time with
        replicas := s.time.replicas.set i { t := s.time.master } } }
      reportFault { block := 7, inst := 1 + i, cls := 10, addr := 1 + i, forced := forced } s

/-- The check of every replica against the 96-bit word, sent every 1,024 ticks (R11). -/
def replicaCheck (s : State) : State := (List.range 20).foldl (fun s i => checkReplica i s) s

def execReplicaCheck (s : State) : Host.Outcome State Fault Refusal :=
  finish s (when (s.tick % 1024 == 0) replicaCheck s)

def execRefoscLoss (s : State) : Host.Outcome State Fault Refusal :=
  keep s (when s.mast.refoscOk (fun s =>
    reportFault { block := 7, inst := 0, cls := 10 }
      (raiseInt 7 .mcIntStatus [] 7 { s with mast := { s.mast with refoscOk := false } })) s)

def execRefoscRestore (s : State) : Host.Outcome State Fault Refusal :=
  keep s { s with mast := { s.mast with refoscOk := true } }

/-- A write of MC_SNAP_TRIGGER (Table 2-12): 1 latches master time. -/
def snapWrite (w : W) (s : State) : State := when (bitAt w 0) (fun s => { s with mast := { s.mast with snap := s.time.master } }) s

def execMcSnapTrigger (value : W) (s : State) : Host.Outcome State Fault Refusal := keep s (snapWrite value s)

/-! ### Commands of group 0x01 -/

/-- A MAST_CONFIG word lies in a range. -/
def inR (w : W) (lo hi : Nat) : Bool := lo ≤ w.toNat && w.toNat ≤ hi

/-- A signed MAST_CONFIG word lies in -m .. m. -/
def inS (w : W) (m : Nat) : Bool := w.toInt.natAbs ≤ m

/-- The range check of each word of MAST_CONFIG (Table 2-5 in the coding of Table 2-14, R469). -/
def mastRanges (c : Cmd) : List (Nat × Bool) :=
  let r := fun (k lo hi : Nat) => (k, inR (c.p k) lo hi)
  [r 0 0 1, r 1 0 5, r 2 0 65535, r 3 0 31, r 4 0 65535, r 5 0 31, r 6 1 65535, r 7 1 255, r 8 1 65535, r 9 0 15,
   r 10 1 256, r 11 100 1000000000, r 12 0 1, r 13 1 16, r 14 1 65535, r 15 1 100000, r 16 1 1024, r 17 0 3,
   r 18 1 65535, r 19 0 255, r 20 0 3, (21, inS (c.p 21) 87960930222), r 22 0 4294967295, r 23 0 4294967295,
   (24, inS (c.p 24) 1000000), r 25 1 400000, r 26 0 1000000, r 27 0 1, r 28 0 2, r 29 1 300]

/-- The parameters that the words of MAST_CONFIG spell. -/
def mastParamsOf (c : Cmd) : MastParams :=
  { servoSrc := c.n 0, freqSrc := c.n 1, kpM := c.n 2, kpSh := c.n 3, kiM := c.n 4, kiSh := c.n 5
    lockThresh := c.n 6, lockCount := c.n 7, outlierLimit := c.n 8, outlierRun := c.n 9, sampleTimeout := c.n 10
    stepThreshold := c.n 11, stepEn := c.n 12, stepConfirm := c.n 13, stepAgree := c.n 14, slewMax := c.n 15
    hoAvgWin := c.n 16, oscClass := c.n 17, hoSpec := c.n 18, teBase := c.n 19, servoDomain := c.n 20
    freqInit := (c.p 21).toInt, hoY0 := c.n 22, hoD := c.n 23, ppsOutComp := (c.p 24).toInt, ppsWidth := c.n 25
    ppsInDelay := c.n 26, todInEn := c.n 27, todBaud := c.n 28, todDelay := c.n 29 }

/-- Apply MAST_CONFIG parameters: a new FREQ_SRC has no gate yet; FREQ_INIT holds until the first accepted sample. -/
def setMastParams (p : MastParams) (s : State) : State :=
  let same := p.freqSrc = s.mast.params.freqSrc
  let lost := s.freqAssist && !same
  let s := { s with mast := { s.mast with params := p, freqValid := s.mast.freqValid && same } }
  let s := when lost holdAverage s
  if s.mast.servo.state = .freerun ∧ !s.mast.servo.everAccepted ∧ p.freqInit ≠ s.mast.servo.freqAdj then
    setFreq p.freqInit s
  else s

/-- MAST_CONFIG (R469). -/
def mastConfigBody : CmdBody := fun c s =>
  checked (mastRanges c) fun _ => .done [] (setMastParams (mastParamsOf c) s)

/-- The first configured timeline. -/
def firstConfigured (s : State) : Option Nat := (List.range 8).find? fun t => (s.timeline t).configured

/-- The time that MAST_SET_TIME carries: word 0 bits [95:32], word 1 [63:32] bits [31:0] (the layout of MC_SNAP;
DESIGN CHOICE, log 10). -/
def setTimeOf (c : Cmd) : MTime :=
  { sec := fld (c.p 0) 63 16, ns := fld (c.p 0) 15 0 * 65536 + fld (c.p 1) 63 48, frac := fld (c.p 1) 47 32, sub := 0 }

/-- MAST_SET_TIME (R19). -/
def mastSetTimeBody : CmdBody := fun c s =>
  match firstConfigured s with
  | some t => .refuse .busyTimeline t
  | none =>
    if 1000000000 ≤ (setTimeOf c).ns then bad 0
    else
      let s := loadTime (setTimeOf c) s
      .done [] { s with mast := { s.mast with timeValid := true } }

end Sys2Proof.Machine
end

