-- ==== Sys2Proof/Machine/Ports.lean ====
section
/-! DEFINITION. Lanes and ports (chapter 4): bring-up, the Dravua Hello and Topsail, lane doze; the
transmit-timestamp queues (R27 to R30). -/

namespace Sys2Proof.Machine

/-! ### The port map (R88, R430) -/

/-- Fields of a port entry (Table 18-5). -/
def entryPort (e : W) : Nat := fld e 63 55
def entrySpeed (e : W) : Nat := fld e 54 51
def entryWidth (e : W) : Nat := 2 ^ fld e 50 49
def entryOption (e : W) : Nat := fld e 48 45
def entryTrain (e : W) : Bool := bitAt e 43

/-- Number of lanes of a port. -/
def Port.lanes (p : Port) : Nat := entryWidth p.entry

/-- SPEED of a port. -/
def Port.speed (p : Port) : Nat := entrySpeed p.entry

/-- Configured for Topsail (Table 4-6). -/
def Port.forTopsail (p : Port) : Bool := [7, 9, 11, 12].contains p.speed

/-- A CPRI port. -/
def Port.isCpri (p : Port) : Bool := p.speed == 13

/-- Fast C&M runs on a CPRI port: its pointer names a subchannel from 20 to 63 (R94; the range is that of CPRI 7.0, log 75). -/
def Port.fastCm (x : Port) : Bool := 20 ≤ x.cmPointer && x.cmPointer ≤ 63

/-- The lane mode that a speed and a number of lanes give (Tables 4-1, 4-6); none where the table has no such port.
A Topsail port first comes up at PAM4-113 (R91). -/
def laneModeOf (speed lanes : Nat) : Option Nat :=
  match speed, lanes with
  | 0, 1 | 1, 1 | 2, 1 | 13, 1 | 4, 4 => some 1
  | 3, 1 | 4, 2 | 5, 4 | 6, 8 => some 2
  | 4, 1 | 5, 2 | 6, 4 | 8, 8 => some 3
  | 5, 1 | 6, 2 | 8, 4 | 10, 8 | 7, 1 | 9, 2 | 11, 4 | 12, 8 => some 4
  | _, _ => none

/-- The lanes of port p. -/
def State.lanesOf (s : State) (p : Nat) : List Nat := (List.range (s.prt p).lanes).map (p + ·)

/-- The formed port a lane belongs to. -/
def State.portOf (s : State) (lane : Nat) : Option Nat :=
  [1, 2, 4, 8].findSome? fun w =>
    let p := lane / w * w
    if (s.prt p).formed ∧ lane < p + (s.prt p).lanes then some p else none

/-- Change every lane of a port. -/
def State.modLanes (s : State) (p : Nat) (f : Lane → Lane) : State :=
  (s.lanesOf p).foldl (fun s n => s.setLane n (f (s.lane n))) s

/-- Change a port. -/
def State.modPort (s : State) (p : Nat) (f : Port → Port) : State := s.setPort p (f (s.prt p))

/-- Change a lane. -/
def State.modLane (s : State) (n : Nat) (f : Lane → Lane) : State := s.setLane n (f (s.lane n))

/-- LINK_UP. -/
def State.linkUp (s : State) (p : Nat) : Bool := (s.prt p).formed && (s.prt p).state == 2

/-- Every lane of the port is AWAKE in a direction (R97). -/
def State.txAwake (s : State) (p : Nat) : Bool := (s.lanesOf p).all fun n => (s.lane n).txDoze == 0
def State.rxAwake (s : State) (p : Nat) : Bool := (s.lanesOf p).all fun n => (s.lane n).rxDoze == 0

/-- The port carries only Hello until the partner's epoch is confirmed (R93). -/
def State.epochHeld (s : State) (p : Nat) : Bool := (s.prt p).epochOld || (s.prt p).epochDue.isSome

/-- Every timestamp of the port is UNCAL while a lane of it waits for its measurement (R23). -/
def State.uncal (s : State) (p : Nat) : Bool := (s.lanesOf p).any fun n => (s.lane n).uncal

/-- The latency that PORT_DLY_RX or PORT_DLY_TX reads waits for its measurement: receive takes the slowest lane, transmit lane 0 (R24). -/
def State.rxUncal (s : State) (p : Nat) : Bool := s.uncal p
def State.txUncal (s : State) (p : Nat) : Bool := (s.lane p).uncal

/-! ### Views -/

/-- LANE_STATUS (Table 4-14). -/
def State.laneStatusView (s : State) (n : Nat) : W :=
  let l := s.lane n
  BitVec.ofNat 64 (b2n l.sig * 2 ^ 63 + b2n l.cdr * 2 ^ 62 + b2n l.aligned * 2 ^ 61 + b2n l.inverted * 2 ^ 60
    + b2n l.txPre * 2 ^ 59 + b2n l.rxPre * 2 ^ 58 + l.mode % 8 * 2 ^ 55 + l.txDoze % 8 * 2 ^ 52 + l.rxDoze % 8 * 2 ^ 49)

/-- The stage of bring-up that runs on a lane: stage 1 completes when signal detect has held for 10 µs (Table 4-4). -/
def State.laneStageOf (s : State) (n : Nat) : Nat :=
  let l := s.lane n
  if l.stage = 1 ∧ l.sig ∧ l.sigTick + nsTicks 10000 ≤ s.tick then 2 else l.stage

/-- The stage in progress while the lane stages run: the least over the lanes. -/
def laneStage (p : Nat) (s : State) : Nat := (s.lanesOf p).foldl (fun a n => min a (s.laneStageOf n)) 5

/-- STAGE of a port: 1 to 7 in an attempt, else 0. -/
def State.stageOf (s : State) (p : Nat) : Nat :=
  let x := s.prt p
  if x.state = 1 ∧ x.stage < 5 ∧ x.idleTick = none then laneStage p s else x.stage

/-- PORT_STATUS (Table 4-15). -/
def State.portStatusView (s : State) (p : Nat) : W :=
  let x := s.prt p
  if !x.formed then 0
  else
    let map := (List.range 8).foldl (fun a k => a + x.laneMap.getD k 0 % 8 * 2 ^ (9 + 3 * k)) 0
    BitVec.ofNat 64 (b2n (x.state == 2) * 2 ^ 63 + x.state % 8 * 2 ^ 60 + s.stageOf p % 8 * 2 ^ 57 + x.cause % 16 * 2 ^ 53
      + x.backoff % 8 * 2 ^ 50 + x.speed * 2 ^ 46 + fld x.entry 50 49 * 2 ^ 44 + b2n x.topsail * 2 ^ 43 + x.ver % 4 * 2 ^ 41
      + x.missing % 256 * 2 ^ 33 + map + b2n (s.txAwake p) * 2 ^ 8 + b2n (s.rxAwake p) * 2 ^ 7)

/-- PORT_SKEW: each lane's skew, 8 bits per lane. -/
def State.portSkewView (s : State) (p : Nat) : W :=
  BitVec.ofNat 64 ((List.range 8).foldl (fun a k => a + min 255 ((s.prt p).skew.getD k 0) * 2 ^ (8 * k)) 0)

/-- The rows of Table 2-16 (R474): 0 NRZ with 8b/10b, 1 NRZ with 64b/66b, 2 NRZ with RS(528,514), 3 PAM4-26 and PAM4-53, 4 PAM4-113,
5 Topsail; 6 for a lane that is off. A port's row follows its lanes' mode and, on NRZ, its standard (Tables 4-1, 4-6, 4-9). -/
def latencyRow (x : Port) (mode : Nat) : Nat :=
  match mode with
  | 1 =>
    if x.speed = 0 then 0
    else if x.speed = 13 then (if entryOption x.entry ≤ 7 then 0 else 1)
    else if x.speed = 4 ∨ (x.speed = 2 ∧ bitAt x.entry 44) then 2 else 1
  | 2 | 3 => 3
  | 4 => 4
  | 5 => 5
  | _ => 6

/-- Table 2-16 in ns: for each row the least and greatest D_fixed on receive, D_fixed on transmit and hand-off time, then the greatest
D_var on receive and on transmit. -/
def latencyTable : List (List (Nat × Nat) × Nat × Nat) :=
  [([(150, 250), (100, 180), (250, 420)], 40, 20), ([(90, 150), (60, 110), (150, 260)], 15, 10),
   ([(160, 240), (90, 140), (220, 340)], 15, 10), ([(140, 220), (80, 130), (200, 310)], 10, 6),
   ([(120, 190), (70, 110), (180, 280)], 6, 4), ([(110, 170), (60, 100), (170, 260)], 4, 3)]

/-- Column k of a row of Table 2-16: the part's fused value in 2^-16 ns, within the row's range. -/
def fused (row k : Nat) : Nat :=
  let r := ((latencyTable.getD row ([], 0, 0)).1).getD k (0, 0)
  r.1 * 65536 + (Config.dFixed (3 * row + k)).toNat % ((r.2 - r.1) * 65536 + 1)

/-- The row of Table 2-16 of a port now. -/
def State.latency (s : State) (p : Nat) : Nat := latencyRow (s.prt p) (s.lane p).mode

/-- D_rx and D_tx in force (R24, R474): the largest receive latency of the lanes; lane 0 on transmit. D_fixed alone
before the measurement of R23 completes. -/
def State.dRx (s : State) (p : Nat) : Nat :=
  fused (s.latency p) 0 + (if s.rxUncal p then 0 else (s.lanesOf p).foldl (fun a n => max a (s.lane n).dvarRx) 0)
def State.dTx (s : State) (p : Nat) : Nat :=
  fused (s.latency p) 1 + (if s.txUncal p then 0 else (s.lane p).dvarTx)

/-- The time from the egress pipeline's hand-off of a frame's first byte to its message timestamp point at the balls (R474): 32 ns
longer on a MACsec port. -/
def State.handOff (s : State) (p : Nat) : Nat := fused (s.latency p) 2 + (if (s.prt p).macsec then 32 * 65536 else 0)

/-- PORT_DLY_RX and PORT_DLY_TX. -/
def State.dlyRxView (s : State) (p : Nat) : W := BitVec.ofNat 64 (b2n (!s.rxUncal p) * 2 ^ 63 + s.dRx p % 2 ^ 63)
def State.dlyTxView (s : State) (p : Nat) : W := BitVec.ofNat 64 (b2n (!s.txUncal p) * 2 ^ 63 + s.dTx p % 2 ^ 63)

/-! ### Transmit-timestamp queues (R27 to R30) -/

/-- The queue of port p. -/
def State.txts (s : State) (p : Nat) : TxTs := tget {} s.mast.txts p

/-- Word address of a slot of a port's queue in its octal's memory. -/
def txtsAddr (p slot : Nat) : Nat := p % 8 * 32 + slot % 16 * 2

/-- Words 0 and 1 of an entry (Tables 2-3, 2-4); `t16` none for an aborted frame. -/
def txtsWords (p id : Nat) (t16 : Option Int) (s : State) : W × W :=
  match t16 with
  | none => (BitVec.ofNat 64 (2 ^ 63 + 2 ^ 62 + id % 65536 * 65536), 0)
  | some x =>
    let t := MTime.of16 x
    (BitVec.ofNat 64 (2 ^ 63 + b2n s.holdoverMark * 2 ^ 61 + s.mast.tsEpoch % 4 * 2 ^ 59 + b2n (s.uncal p) * 2 ^ 58
        + t.sec / 2 ^ 32 * 2 ^ 32 + id % 65536 * 65536 + t.frac),
     BitVec.ofNat 64 (t.ns * 2 ^ 32 + t.sec % 2 ^ 32))

/-- Push an entry; a full queue discards it (R28). -/
def pushTxTs (p id : Nat) (t16 : Option Int) (s : State) : State :=
  let q := s.txts p
  if 16 ≤ q.entries.length then
    intEdge 7 (fun s => s.setRg .txtsStatus [p] (s.rg .txtsStatus [p] ||| BitVec.ofNat 64 (2 ^ 63)))
      (s.bump .txtsDiscard [p] 31 0)
  else
    let q' := { q with entries := q.entries ++ [txtsWords p id t16 s] }
    memWriteN 10 (p / 8) 1 (txtsAddr p (q.head + q.entries.length)) 2
      { s with mast := { s.mast with txts := tset {} s.mast.txts p q' } }

/-- The answer to a timestamp action whose frame is not sent (R27). -/
def abortTs (p : Nat) (ts : Option Nat) (s : State) : State :=
  match ts with
  | some id => pushTxTs p id none s
  | none => s

/-- The one reader of a port's queue (R30): 0 the host, 1 to 4 a cluster. -/
def State.txtsOwner (s : State) (p : Nat) : Nat := s.rgf .portTsCfg [p] 42 40

/-- Is a path the owner's? DESIGN CHOICE (log 66): "the host" of TXTS_OWNER = 0 is every path but a cluster's own reads. -/
def ownerPath (owner : Nat) : Path → Bool
  | .hook q => owner == q + 1
  | _ => owner == 0

/-- A read of word w of the head entry by a path (R29, R30): data and state. Bits [57:48] of word 0 are reserved (R5). -/
def txtsRead (p w : Nat) (path : Path) (s : State) : W × State :=
  if !ownerPath (s.txtsOwner p) path then (0, s.bump .tsCounters [p] 31 0)
  else
    let q := s.txts p
    match q.entries with
    | [] => (0, s)
    | e :: rest =>
      let r := memRead 10 (p / 8) 1 (txtsAddr p q.head + w) (match path with | .hook _ => 4 | .tap => 8 | .cmd _ => 7 | _ => 5) s
      let d : W × State := if r.ok then (r.data (if w = 0 then e.1 else e.2), r.st) else takeFree r.st
      if w = 0 then
        let f := takeFree d.2
        (ins d.1 57 48 (fld f.1 57 48), f.2)
      else
        let q' : TxTs := { head := (q.head + 1) % 16, entries := rest }
        (d.1, { d.2 with mast := { d.2.mast with txts := tset {} d.2.mast.txts p q' } })

def execTxtsWord1Read (port : Nat) (path : Path) (s : State) : Host.Outcome State Fault Refusal :=
  let r := txtsRead (port % 512) 1 path s
  keep s (readOut r.1 r.2)

/-! ### Link state -/

/-- The event LINK_CHANGE. -/
def linkChange (p : Nat) (s : State) : State := postEvent 2 [BitVec.ofNat 64 p, s.portStatusView p] s

/-- The frame in transmission is discarded; its timestamp is reported ABORTED (R27, R87). -/
def abortTx (p : Nat) (s : State) : State :=
  match (s.prt p).inFlight with
  | none => s
  | some f =>
    let s := s.modPort p fun x => { x with inFlight := none }
    let o : OutFrame := { port := p, bytes := f.bytes, at16 := s.now16, aborted := true }
    abortTs p f.tsId { s with out := { s.out with frames := s.out.frames ++ [o] } }

/-- A new attempt starts (R81, R85): every lane returns to stage 1. On a Topsail port the Hellos have set precoding (R77, R91). -/
def startAttempt (p : Nat) (s : State) : State :=
  let x := s.prt p
  let mode := if x.topsail then 5 else (laneModeOf x.speed x.lanes).getD 0
  let s := s.setPort p { x with
    state := 1, stage := 1, startTick := s.tick, curInvert := x.rxInvert, curTimer := x.trainTimer
    curFallback := x.fallback, ver := 0, goSent := none, goRx := none, idleTick := none
    epochOld := false, epochDue := none, helloTick := 0, cpriNext := none, cpriTx := [] }
  let s := s.modLanes p fun l => { l with
    mode := mode, cdr := false, aligned := false, stage := 1, uncal := true, txDoze := 0, rxDoze := 0
    seqTx := none, seqRx := none, reqUntil := none, burstUntil := none
    txPre := x.topsail && x.partnerCaps.testBit 1, rxPre := x.topsail && Config.precodeReq p }
  synceUpdate (s.bump .portLinkCnt [p] 31 0)

/-- What every end of LINK_UP does, whatever state follows (R87): the frame in transmission is lost, counters, interrupt,
event, and a cell-sleep agreement in progress is cancelled. -/
def leaveLink (p cause : Nat) (s : State) : State :=
  let s := abortTx p s
  let s := s.modPort p fun x => { x with state := 1, cause := cause }
  let s := raiseInt 10 .portIntStatus [p] 1 (s.bump .portLinkCnt [p] 63 32)
  cellPortDown p s

/-- Take a LINK_UP port down with a cause and start a new attempt at once (R87). -/
def linkDown (p cause : Nat) (s : State) : State :=
  if !s.linkUp p then s
  else linkChange p (startAttempt p ((leaveLink p cause s).modPort p fun x => { x with topsail := false }))

/-- Enter LINK_ABSENT (R85, R86). -/
def goAbsent (p cause missing : Nat) (s : State) : State :=
  let low := (s.lanesOf p).any fun n => !(s.lane n).sig
  let s := s.modPort p fun x => { x with
    state := 3, stage := 0, cause := cause, missing := missing, absentTick := s.tick, absentLow := low, topsail := false }
  raiseInt 10 .portIntStatus [p] 2 s

/-- The wait of LINK_ABSENT ends: a new attempt, and BACKOFF_STEP counts up to 7 (R86). -/
def endAbsent (p : Nat) (s : State) : State :=
  startAttempt p (s.modPort p fun x => { x with backoff := min 7 (x.backoff + 1) })

/-- A port becomes LINK_UP (R81): it starts AWAKE in both directions (R98). -/
def enterLink (p : Nat) (s : State) : State :=
  let s := s.modPort p fun x => { x with state := 2, stage := 0, upTick := s.tick, cause := 0, missing := 0 }
  let s := s.modLanes p fun l => { l with txDoze := 0, rxDoze := 0 }
  linkChange p (raiseInt 10 .portIntStatus [p] 0 s)

/-- Bring the port's stage up to date in an attempt: 5 applies to two or more lanes, 6 with TRAIN_EN; a stage that does not
apply completes at once (R81). -/
def stageUpdate (p : Nat) (s : State) : State :=
  let x := s.prt p
  if x.state != 1 then s
  else
    let st := laneStage p s
    if st < 5 then s.setPort p { x with stage := st }
    else if x.stage < 5 then
      s.setPort p { x with stage := if 1 < x.lanes then 5 else if entryTrain x.entry then 6 else 7 }
    else s

/-- A lane loses what it had (R84): in lane stages it returns to stage 1 alone, later the whole port does. -/
def laneBack (n p : Nat) (s : State) : State :=
  let x := s.prt p
  let reset := fun (l : Lane) => { l with cdr := false, aligned := false, stage := 1, uncal := true }
  let s := if 5 ≤ x.stage then s.modLanes p reset else s.modLane n reset
  stageUpdate p (synceUpdate (s.modPort p fun x => { x with stage := 1 }))

/-! ### Lane events -/

/-- Signal detect rises on a lane. -/
def signalDetect (n : Nat) (s : State) : State :=
  let s := if (s.lane n).sig then s.modLane n fun l => { l with sigLost := none }
    else s.modLane n fun l => { l with sig := true, sigTick := s.tick, sigLost := none }
  let s := synceUpdate s
  match s.portOf n with
  | some p =>
    if (s.prt p).state = 3 ∧ (s.prt p).absentLow ∧ (s.lanesOf p).all (fun k => (s.lane k).sig) then endAbsent p s else s
  | none => s

def execLaneSignalDetect (lane : Nat) (s : State) : Host.Outcome State Fault Refusal := keep s (signalDetect (lane % 512) s)

/-- Signal detect falls on a lane (R84, R87): on a LINK_UP lane that is awake the 1 µs begins. -/
def signalLoss (n : Nat) (s : State) : State :=
  if !(s.lane n).sig then s
  else
    let s := raiseInt 10 .laneIntStatus [n] 0 (s.modLane n fun l => { l with sig := false })
    let s := synceUpdate s
    match s.portOf n with
    | some p =>
      match (s.prt p).state with
      | 1 => laneBack n p s
      | 2 => if (s.lane n).rxDoze = 0 then s.modLane n fun l => { l with sigLost := some s.tick } else s
      | 3 => s.modPort p fun x => { x with absentLow := true }
      | _ => s
    | none => s

def execLaneSignalLoss (lane : Nat) (s : State) : Host.Outcome State Fault Refusal := keep s (signalLoss (lane % 512) s)

/-- A loss of signal detect on a LINK_UP lane has lasted more than 1 µs: the port goes down, unless the lane dozes by now (R87). -/
def signalLossExpiry (n : Nat) (s : State) : State :=
  match s.portOf n, (s.lane n).sigLost with
  | some p, some t =>
    if (s.prt p).state = 2 ∧ !(s.lane n).sig ∧ (s.lane n).rxDoze = 0 ∧ t + usTicks < s.tick then
      linkDown p 1 (s.modLane n fun l => { l with sigLost := none, cdr := false, aligned := false, uncal := true })
    else s
  | _, _ => s

def execSignalLossExpiry (lane : Nat) (s : State) : Host.Outcome State Fault Refusal :=
  keep s (signalLossExpiry (lane % 512) s)

/-- Clock-and-data recovery locks: stage 2 completes once signal detect has held for 10 µs; a lane that applies RX_INVERT
passes stage 3 at once (R81, R82, Table 4-4). DESIGN CHOICE (log 70): the logical order is resolved in stage 5 only, so bit k inverts
the lane at physical place k of the port. -/
def cdrLock (n : Nat) (s : State) : State :=
  match s.portOf n with
  | none => s
  | some p =>
    let l := s.lane n
    if !l.sig then s
    else if (s.prt p).state = 1 then
      if l.sigTick + nsTicks 10000 ≤ s.tick ∧ l.stage ≤ 2 then
        let known := entryTrain (s.prt p).entry || (s.prt p).topsail
        let inv := (s.prt p).curInvert.testBit (n - p)
        let s := s.setLane n { l with cdr := true, stage := if known then 3 else 4, inverted := if known then l.inverted else inv }
        stageUpdate p (synceUpdate s)
      else s
    else synceUpdate (s.setLane n { l with cdr := true })

def execCdrLock (lane : Nat) (s : State) : Host.Outcome State Fault Refusal := keep s (cdrLock (lane % 512) s)

/-- CDR lock is lost: timestamps are UNCAL (R23); a LINK_UP port goes down (R87). -/
def cdrLoss (n : Nat) (s : State) : State :=
  if !(s.lane n).cdr then s
  else
    let s := raiseInt 10 .laneIntStatus [n] 1 (s.modLane n fun l => { l with cdr := false, uncal := true })
    let s := synceUpdate s
    match s.portOf n with
    | some p =>
      match (s.prt p).state with
      | 1 => laneBack n p s
      | 2 => if (s.lane n).rxDoze = 0 then linkDown p 9 s else s
      | _ => s
    | none => s

def execCdrLockLoss (lane : Nat) (s : State) : Host.Outcome State Fault Refusal := keep s (cdrLoss (lane % 512) s)

/-- What the receiver of a lane has seen completes stage 4: the training-frame marker on a trained lane, else lock and confirm of
Table 4-3 for its line code (R80, Table 4-4). -/
def State.alignsBy (s : State) (n p : Nat) (h : Hunt) : Bool :=
  if entryTrain (s.prt p).entry then h.training else huntLocks h (latencyRow (s.prt p) (s.lane n).mode) (s.prt p).isCpri

/-- Alignment locks and confirms (stage 4, R80); on trained and Topsail lanes the polarity is the one found (R82). -/
def alignLock (n : Nat) (h : Hunt) (s : State) : State :=
  match s.portOf n with
  | none => s
  | some p =>
    let l := s.lane n
    if (s.prt p).state = 1 ∧ l.cdr ∧ (l.stage = 3 ∨ l.stage = 4) ∧ s.alignsBy n p h then
      let known := entryTrain (s.prt p).entry || (s.prt p).topsail
      stageUpdate p (s.setLane n { l with aligned := true, stage := 5, inverted := if known then h.inverted else l.inverted })
    else s

def execAlignLock (lane : Nat) (seen : Hunt) (s : State) : Host.Outcome State Fault Refusal :=
  keep s (alignLock (lane % 512) seen s)

/-- What the receiver of a lane has seen is a loss of Table 4-3. -/
def State.lostBy (s : State) (n : Nat) (h : Hunt) : Bool :=
  huntLost h (latencyRow (s.prt ((s.portOf n).getD n)) (s.lane n).mode)

/-- A lane leaves its deskew: stage 5 runs again, or a LINK_UP port goes down (R87). -/
def deskewLoss (n : Nat) (s : State) : State :=
  match s.portOf n with
  | none => s
  | some p =>
    match (s.prt p).state with
    | 1 => if 5 < (s.prt p).stage ∧ 1 < (s.prt p).lanes then s.modPort p fun x => { x with stage := 5 } else s
    | 2 => if (s.lane n).rxDoze = 0 then linkDown p 9 s else s
    | _ => s

/-- Alignment is lost (R80): stage 4 runs again, or a LINK_UP port goes down (R87). -/
def alignLoss (n : Nat) (h : Hunt) (s : State) : State :=
  if !(s.lane n).aligned then s
  else if !s.lostBy n h then when h.deskewLost (deskewLoss n) s
  else
    let s := raiseInt 10 .laneIntStatus [n] 2 (s.modLane n fun l => { l with aligned := false, uncal := true })
    match s.portOf n with
    | some p =>
      let s := when (s.prt p).isCpri (fun s => s.bump .cpriCnt [p] 31 0) s
      match (s.prt p).state with
      | 1 => stageUpdate p ((s.modLane n fun l => { l with stage := 4 }).modPort p fun x => { x with stage := 4 })
      | 2 => if (s.lane n).rxDoze = 0 then linkDown p 9 s else s
      | _ => s
    | none => s

def execAlignLoss (loss : LaneSeen) (s : State) : Host.Outcome State Fault Refusal :=
  keep s (alignLoss (loss.lane % 512) loss.seen s)

/-- The standard's high symbol-error condition on a LINK_UP port (R87). -/
def execHiSer (port : Nat) (s : State) : Host.Outcome State Fault Refusal := keep s (linkDown (port % 512) 10 s)

/-- The greatest D_var of a lane in 2^-16 ns, receive and transmit (Table 2-16). -/
def dvarMax (n : Nat) (s : State) : Nat × Nat :=
  let r := latencyTable.getD (latencyRow (s.prt ((s.portOf n).getD n)) (s.lane n).mode) ([], 40, 20)
  (r.2.1 * 65536, r.2.2 * 65536)

/-- A measurement of D_var completes (R23); the values are in 2^-16 ns, within Table 2-16 (R474). -/
def dvarMeasured (n rx tx : Nat) (s : State) : State :=
  let m := dvarMax n s
  if (s.lane n).aligned then s.modLane n fun l => { l with dvarRx := min m.1 rx, dvarTx := min m.2 tx, uncal := false } else s

def execDvarMeasured (lane rx tx : Nat) (s : State) : Host.Outcome State Fault Refusal :=
  keep s (dvarMeasured (lane % 512) rx tx s)

/-! ### Attempt timers -/

/-- TRAIN_TIMER of the running attempt in ms (R85). -/
def attemptMs (x : Port) : Nat :=
  if x.curTimer != 0 then x.curTimer
  else if x.forTopsail then 3000
  else if !entryTrain x.entry then 100
  else if laneModeOf x.speed x.lanes = some 4 then 3000 else 500

/-- Cause of an attempt that runs out (R85, Table 4-5). -/
def expiryCause (p : Nat) (s : State) : Nat :=
  let x := s.prt p
  let some4 := (s.lanesOf p).any fun n => (s.lane n).aligned
  let all4 := (s.lanesOf p).all fun n => (s.lane n).aligned
  if some4 && !all4 then 8
  else match s.stageOf p with
    | 1 => 1 | 2 => 2 | 3 => 3 | 4 => 3 | 5 => 4 | 6 => 5 | _ => 6

/-- A failed Topsail attempt counts; the third in a row ends Topsail negotiation until RESTART (R91). -/
def topsailFailed (p : Nat) (s : State) : State :=
  let x := s.prt p
  if !x.topsail then s
  else
    let ended := 3 ≤ x.topsailFails + 1
    let s := s.setPort p { x with topsailFails := x.topsailFails + 1, topsailEnded := x.topsailEnded || ended }
    when (ended && x.curFallback) (raiseInt 10 .portIntStatus [p] 3) s

/-- An attempt fails with a cause: LINK_ABSENT, with NEGOTIATE where Topsail negotiation has ended and no fallback is allowed (R91). -/
def attemptFails (p cause missing : Nat) (s : State) : State :=
  let s := topsailFailed p s
  let x := s.prt p
  goAbsent p (if x.topsailEnded ∧ !x.curFallback then 6 else cause) missing s

/-- TRAIN_TIMER expires (R85); it does not run in the electrical idle between two attempts (R91). -/
def trainExpiry (p : Nat) (s : State) : State :=
  let x := s.prt p
  if x.formed ∧ x.state = 1 ∧ x.idleTick = none ∧ x.startTick + attemptMs x * msTicks ≤ s.tick then
    attemptFails p (expiryCause p s) (maskOf x.lanes fun k => !(s.lane (p + k)).aligned) s
  else s

def execTrainTimerExpiry (port : Nat) (s : State) : Host.Outcome State Fault Refusal := keep s (trainExpiry (port % 512) s)

/-- The wait of LINK_ABSENT is over (R86). -/
def backoffExpiry (p : Nat) (s : State) : State :=
  let x := s.prt p
  if x.formed ∧ x.state = 3 ∧ x.absentTick + 10 * msTicks * 2 ^ x.backoff ≤ s.tick then endAbsent p s else s

def execBackoffExpiry (port : Nat) (s : State) : Host.Outcome State Fault Refusal := keep s (backoffExpiry (port % 512) s)

/-- LINK_UP for 1 s: BACKOFF_STEP returns to 0 (R86). -/
def linkStable (p : Nat) (s : State) : State :=
  if s.linkUp p ∧ (s.prt p).upTick + secTicks ≤ s.tick then s.modPort p fun x => { x with backoff := 0 } else s

def execLinkStable (port : Nat) (s : State) : Host.Outcome State Fault Refusal := keep s (linkStable (port % 512) s)

/-- RESTART (R86, R91, R104): clears BACKOFF_STEP and the count of failed Topsail attempts, and starts the attempt again
unless the port is administratively down. -/
def portRestart (p : Nat) (s : State) : State :=
  if !(s.prt p).formed then s
  else
    let s := s.modPort p fun x => { x with backoff := 0, topsailFails := 0, topsailEnded := false }
    match (s.prt p).state with
    | 1 => startAttempt p (s.modPort p fun x => { x with topsail := false })
    | 2 => linkDown p 14 s
    | 3 => startAttempt p s
    | _ => s

def execPortRestart (port : Nat) (s : State) : Host.Outcome State Fault Refusal := keep s (portRestart (port % 512) s)

/-! ### The Dravua Hello (R89 to R93) -/

/-- Our CAPS: TOPSAIL while it is still negotiated, PRECODE_REQ, SCHED_DOZE, MACSEC. When the part asks for precoding the spec does not
say: a constant of Config (log 73). -/
def helloCaps (p : Nat) (x : Port) : Nat :=
  b2n (x.forTopsail && !x.topsailEnded) + 2 * b2n (Config.precodeReq p) + 4 * b2n x.schedDoze + 8 * b2n x.macsec

/-- Send a Hello of a state (0 PROBE, 1 AGREE, 2 TOPSAIL_GO, 3 GOODBYE). GUARD is that of the lowest lane pair: DESIGN CHOICE (log 72), the
lane pairs of a port may hold different guards. -/
def sendHello (st sel cause p : Nat) (s : State) : State :=
  let x := s.prt p
  let msg := bytesBE 1 1 ++ bytesBE 1 1 ++ bytesBE 1 3 ++ bytesBE 1 st ++ bytesBE 2 (s.deviceId % 4096) ++ bytesBE 2 p
    ++ bytesBE 1 (helloCaps p x) ++ bytesBE 1 sel ++ bytesBE 2 ((s.lane p).guard / 10) ++ bytesBE 2 (s.epoch (ekLane p))
    ++ bytesBE 1 cause ++ bytesBE 4 x.helloSeq
  let s := s.setPort p { x with helloSeq := (x.helloSeq + 1) % 2 ^ 32 }
  sendLink p (dravuaFrame p msg s) s

/-- PROBE every 1 ms in stage 7, AGREE every 100 ms on a LINK_UP Dravua port (R90) whose transmitters are AWAKE (R97). -/
def helloTimer (p : Nat) (s : State) : State :=
  let x := s.prt p
  let t := s.modPort p fun x => { x with helloTick := s.tick }
  if !x.formed ∨ x.isCpri then s
  else if x.state = 1 ∧ x.stage = 7 ∧ x.helloTick + msTicks ≤ s.tick then sendHello 0 0 0 p t
  else if x.state = 2 ∧ x.ver ≠ 0 ∧ s.txAwake p ∧ x.helloTick + 100 * msTicks ≤ s.tick then sendHello 1 x.ver 0 p t
  else s

def execHelloProbeTimer (port : Nat) (s : State) : Host.Outcome State Fault Refusal := keep s (helloTimer (port % 512) s)

/-- A frame is a Dravua Hello for this port's Tile (R89). -/
def helloGood (p : Nat) (b : List Byte) (s : State) : Bool :=
  33 ≤ b.length && bytesNat b 0 6 == dravuaMac && bytesNat b 12 2 == s.rgf .dravuaEtype [tileOf p] 15 0
    && byteAt b 14 == 1 && byteAt b 15 == 1

/-- Each side adopts the larger GUARD (R90). -/
def adoptGuard (p g : Nat) (s : State) : State := s.modLanes p fun l => { l with guard := max l.guard (10 * g) }

/-- Scheduled doze runs on a port: by configuration, and on a Dravua port only when the partner carries SCHED_DOZE (R103). -/
def State.dozeOn (s : State) (p : Nat) : Bool :=
  (s.prt p).schedDoze && ((s.prt p).ver == 0 || (s.prt p).partnerCaps.testBit 2)

/-- Topsail is negotiated next: configured, both CAPS, not ended, not yet running (R91). -/
def State.topsailNext (s : State) (p : Nat) : Bool :=
  let x := s.prt p
  x.forTopsail && !x.topsailEnded && !x.topsail && x.partnerCaps.testBit 0

/-- Stage 7 may complete: a Topsail port without fallback whose negotiation has ended stays down (R91). -/
def State.mayLink (s : State) (p : Nat) : Bool := !((s.prt p).topsailEnded && !(s.prt p).curFallback)

/-- Stage 7 completes by agreement: LINK_UP, and TOPSAIL_GO where Topsail comes next. -/
def helloAgreed (p ver : Nat) (s : State) : State :=
  let s := s.modPort p fun x => { x with ver := ver }
  let s := s.setVersion (.dravua (s.prt p).partnerDev) (ver + 1)
  let s := enterLink p s
  let s := when (s.prt p).topsail (fun s => s.modPort p fun x => { x with topsailFails := 0 }) s
  if s.topsailNext p then sendHello 2 ver 0 p (s.modPort p fun x => { x with goSent := some s.tick }) else s

/-- Receipt of a Hello (R90 to R93); a receive direction that is not AWAKE loses it (R101). DESIGN CHOICE (log 69): a PROBE that arrives in
LINK_UP is not answered, R90 gives the answer to stage 7. -/
def helloRx (p : Nat) (b : List Byte) (s : State) : State :=
  if !(s.prt p).formed ∨ (s.prt p).isCpri ∨ !helloGood p b s ∨ !s.rxAwake p then s
  else
    let m := b.drop 14
    let versions := byteAt m 2 % 4
    let ver := if versions / 2 = 1 then 2 else versions % 2
    let st := byteAt m 3
    let epoch := bytesNat m 12 2
    let x := s.prt p
    if st = 3 then linkDown p 13 s
    else if st = 2 then s.setPort p { x with goRx := some s.tick }
    else
      let s := s.setPort p { x with partnerCaps := byteAt m 8, partnerDev := bytesNat m 4 2 % 4096 }
      if x.state = 1 ∧ x.stage = 7 then
        if ver = 0 then raiseInt 10 .portIntStatus [p] 4 (attemptFails p 7 0 s)
        else
          let s := sendHello 1 ver 0 p s
          if st = 1 ∧ byteAt m 9 = ver ∧ s.mayLink p then
            helloAgreed p ver (adoptGuard p (bytesNat m 10 2) (s.modPort p fun x => { x with partnerEpoch := epoch }))
          else s
      else if x.state = 2 ∧ x.ver ≠ 0 ∧ st = 1 then
        let s := adoptGuard p (bytesNat m 10 2) s
        if s.epochHeld p then
          if epoch = x.partnerEpoch then s.modPort p fun x => { x with epochOld := false, epochDue := none }
          else linkDown p 15 (raiseInt 10 .portIntStatus [p] 4 s)
        else s
      else s

def execHelloRx (port : Nat) (frame : List Byte) (s : State) : Host.Outcome State Fault Refusal :=
  keep s (helloRx (port % 512) frame s)

/-- 100 µs after TOPSAIL_GO was both sent and received: the transmitters go into electrical idle (R91). -/
def topsailGo (p : Nat) (s : State) : State :=
  let x := s.prt p
  match x.goSent, x.goRx with
  | some a, some b =>
    if s.linkUp p ∧ x.idleTick = none ∧ max a b + 100 * usTicks ≤ s.tick then
      linkChange p ((leaveLink p 0 s).modPort p fun x => { x with stage := 1, idleTick := some s.tick })
    else s
  | _, _ => s

def execTopsailGo (port : Nat) (s : State) : Host.Outcome State Fault Refusal := keep s (topsailGo (port % 512) s)

/-- The 100 µs of idle end: retune to 226.875 GBd and run stages 1 to 7 again (R91). -/
def topsailRetune (p : Nat) (s : State) : State :=
  let x := s.prt p
  match x.idleTick with
  | some t => if x.state = 1 ∧ t + 100 * usTicks ≤ s.tick then startAttempt p (s.setPort p { x with topsail := true }) else s
  | none => s

def execTopsailRetune (port : Nat) (s : State) : Host.Outcome State Fault Refusal := keep s (topsailRetune (port % 512) s)

/-- No matching AGREE within 10 ms after a long doze: EPOCH_STALE (R93). -/
def epochTimeout (p : Nat) (s : State) : State :=
  match (s.prt p).epochDue with
  | some t => if t ≤ s.tick then linkDown p 15 s else s
  | none => s

def execEpochAgreeTimeout (port : Nat) (s : State) : Host.Outcome State Fault Refusal := keep s (epochTimeout (port % 512) s)

/-- A lane map is a permutation of the port's lanes (R83). -/
def mapOk (k : Nat) (m : List Nat) : Bool := m.length == k && (List.range k).all fun i => m.contains i

/-- A port stage completes: deskew within 256 ns (R83), training, which sets precoding (R77), negotiation (R81), on a CPRI port with a
protocol version of R94. -/
def stageComplete (p : Nat) (i : BringUp) (s : State) : State :=
  let x := s.prt p
  if !x.formed ∨ x.state ≠ 1 then s
  else match x.stage with
    | 5 =>
      if mapOk x.lanes i.laneMap ∧ i.skew.all (· ≤ 256) then
        s.setPort p { x with laneMap := i.laneMap, skew := i.skew, stage := if entryTrain x.entry then 6 else 7 }
      else s
    | 6 =>
      let s := if x.topsail then s else (s.lanesOf p).foldl (fun s n =>
        s.modLane n fun l => { l with txPre := i.txPre.testBit (n - p), rxPre := i.rxPre.testBit (n - p) }) s
      s.setPort p { x with stage := 7 }
    | 7 => if x.isCpri then (if i.cpriVersion = 1 ∨ i.cpriVersion = 2 then
          enterLink p (s.setPort p { x with cpriVersion := i.cpriVersion, cpriAlarms := 0 }) else s)
      else if (x.forTopsail && !x.topsailEnded) || !s.mayLink p then s else enterLink p s
    | _ => s

def execBringupStageComplete (port : Nat) (info : BringUp) (s : State) : Host.Outcome State Fault Refusal :=
  keep s (stageComplete (port % 512) info s)

/-! ### Lane doze (R97 to R103) -/

/-- Fast retrain time of a lane in ns (R100). -/
def retrainNs (l : Lane) : Nat := if l.mode = 5 then 4000 else 2000

/-- Times of a scheduled receive wake: window opening, closing, and the 10 µs after it. -/
def windowOpenTick (x : Port) (l : Lane) : Nat := l.wakeRx + nsTicks (100 + x.linkDelay)
def windowCloseTick (x : Port) (l : Lane) : Nat := l.wakeRx + nsTicks (2 * l.wakeG + 100 + x.linkDelay)
def wakeFailTick (x : Port) (l : Lane) : Nat := l.wakeRx + nsTicks (2 * l.wakeG + 10100 + x.linkDelay)

/-- A doze of more than 1 s has ended: an AGREE is due as soon as the lanes are awake (R93). -/
def afterDoze (p since : Nat) (s : State) : State :=
  let s := when ((s.prt p).ver != 0 && since + secTicks < s.tick) (fun s => s.modPort p fun x => { x with epochOld := true }) s
  if (s.prt p).epochOld ∧ s.txAwake p ∧ s.rxAwake p then
    sendHello 1 (s.prt p).ver 0 p (s.modPort p fun x => { x with epochOld := false, epochDue := some (s.tick + 10 * msTicks) })
  else s

/-- A lane's guard doubles, up to its ceiling; it never narrows (R102): one adopted above the ceiling (R90) stays. -/
def widenGuard (n : Nat) (s : State) : State := s.modLane n fun l => { l with guard := max l.guard (min l.guardCeil (2 * l.guard)) }

/-- A lane action of the Rigging (R98, R99) with its scheduled tick: 0x30 SLEEP_RX, 0x31 SLEEP_TX, 0x32 WAKE_RX, 0x33 WAKE_TX. -/
def laneAction (a n sched : Nat) (s : State) : State :=
  match s.portOf n with
  | none => s.bump .laneDozeCnt [n] 15 0
  | some p =>
    let l := s.lane n
    if !s.linkUp p || !s.dozeOn p || l.suspended then s.bump .laneDozeCnt [n] 15 0
    else match a with
      | 0x30 =>
        if l.rxDoze = 2 then s
        else synceUpdate (s.setLane n { l with
          rxDoze := 2, rxDozeTick := s.tick, sigLost := none, seqRx := none, window := 0 })
      | 0x31 =>
        if l.txDoze = 1 ∨ l.txDoze = 2 then s
        else
          let busy := s.boundaryTick (s.prt p).txBusy16
          s.setLane n { l with
            txDoze := 1, txSleepDue := max s.tick busy.toNat + nsTicks 64, txDozeTick := s.tick, seqTx := none, reqUntil := none }
      | 0x32 =>
        if l.rxDoze = 2 then s.setLane n { l with rxDoze := 3, wakeRx := sched, wakeG := l.guard, window := 0, seqRx := none } else s
      | _ =>
        if l.txDoze = 2 ∨ l.txDoze = 1 then s.setLane n { l with txDoze := 3, wakeTx := sched, wakeG := l.guard, seqTx := none }
        else s

/-- The transmitter has sent its sleep sequence and enters DOZING (R98). -/
def dozeEntered (n : Nat) (s : State) : State :=
  let l := s.lane n
  if l.txDoze = 1 ∧ l.txSleepDue ≤ s.tick then s.setLane n { l with txDoze := 2, txDozeTick := s.tick } else s

def execLaneDozeEntered (lane : Nat) (s : State) : Host.Outcome State Fault Refusal := keep s (dozeEntered (lane % 512) s)

/-- The burst of a WAKE_REQ still runs on a lane. -/
def bursting (l : Lane) (s : State) : Bool := match l.burstUntil with | some t => decide (s.tick < t) | none => false

/-- The wake instant E = W + G + 100 ns of a transmitter: the wake sequence starts (R99), after a WAKE_REQ burst that still runs (R100). -/
def wakeInstant (n : Nat) (s : State) : State :=
  let l := s.lane n
  if l.txDoze = 3 ∧ l.seqTx = none ∧ l.wakeTx + nsTicks (l.wakeG + 100) ≤ s.tick ∧ !bursting l s then
    s.setLane n { l with seqTx := some s.tick, burstUntil := none }
  else s

def execWakeInstant (lane : Nat) (s : State) : Host.Outcome State Fault Refusal := keep s (wakeInstant (lane % 512) s)

/-- The receiver sends WAKE_REQ on the paired transmit lane: a Dravua frame of type 0x02 when that direction is AWAKE, else the
out-of-band burst of 200 ns, which carries no bytes (R100). -/
def sendWakeReq (n p : Nat) (s : State) : State :=
  if (s.lane n).txDoze = 0 then sendLink p (dravuaFrame p [2] s) s
  else sendLink p [] (s.modLane n fun l => { l with burstUntil := some (s.tick + nsTicks 200) })

/-- The doze of a lane pair is suspended (R102): it is kept AWAKE, so a transmitter that sleeps wakes now. -/
def suspendDoze (n : Nat) (s : State) : State :=
  raiseInt 10 .laneIntStatus [n] 6 (s.modLane n fun l =>
    if l.txDoze = 1 ∨ l.txDoze = 2 then
      { l with suspended := true, txDoze := 3, wakeTx := s.tick, wakeG := l.guard, seqTx := none }
    else { l with suspended := true })

/-- A missed wake (R100, R102): the 16th in a row at the ceiling suspends the lane pair's doze. -/
def wakeMiss (n p : Nat) (s : State) : State :=
  let l := s.lane n
  let run := if l.guardCeil ≤ l.guard then l.missRun + 1 else 0
  let s := s.setLane n { l with rxDoze := 4, uncal := true, missRun := run, seqRx := none }
  let s := raiseInt 10 .laneIntStatus [n] 3 (s.bump .laneDozeCnt [n] 63 48)
  let s := sendWakeReq n p (widenGuard n s)
  if 16 ≤ run then suspendDoze n s else s

/-- The listening window opens; the line is active already when the partner is early (R100). -/
def windowOpen (n : Nat) (active : Bool) (s : State) : State :=
  match s.portOf n with
  | none => s
  | some p =>
    let l := s.lane n
    if l.rxDoze = 3 ∧ l.window = 0 ∧ windowOpenTick (s.prt p) l ≤ s.tick then
      if active then wakeMiss n p (s.setLane n { l with window := 1 }) else s.setLane n { l with window := 1 }
    else s

def execWakeWindowOpen (lane : Nat) (active : Bool) (s : State) : Host.Outcome State Fault Refusal :=
  keep s (windowOpen (lane % 512) active s)

/-- A wake sequence is seen (R99, R100): in the window, late, or as the one on which a fast retrain starts. -/
def sequenceSeen (n : Nat) (s : State) : State :=
  match s.portOf n with
  | none => s
  | some p =>
    let l := s.lane n
    if l.rxDoze = 3 ∧ l.window ≠ 0 ∧ l.seqRx = none then
      let close := windowCloseTick (s.prt p) l
      let s := s.setLane n { l with seqRx := some s.tick, missRun := 0 }
      if s.tick ≤ close then s
      else
        let s := raiseInt 10 .laneIntStatus [n] 4 (s.bump .laneDozeCnt [n] 47 32)
        when (close + nsTicks l.wakeG < s.tick) (widenGuard n) s
    else if l.rxDoze = 4 ∧ l.seqRx = none then s.setLane n { l with seqRx := some s.tick }
    else s

def execWakeSequenceSeen (lane : Nat) (s : State) : Host.Outcome State Fault Refusal := keep s (sequenceSeen (lane % 512) s)

/-- The end of the 100 ns wake sequence: the transmitter sends data, the receiver enters AWAKE (R99). -/
def sequenceEnd (n : Nat) (s : State) : State :=
  match s.portOf n with
  | none => s
  | some p =>
    let l := s.lane n
    let past : Option Nat → Bool := fun t => match t with | some t => decide (t + nsTicks 100 ≤ s.tick) | none => false
    let s1 := if l.txDoze = 3 ∧ past l.seqTx then
        afterDoze p l.txDozeTick (s.setLane n { l with txDoze := 0, seqTx := none })
      else s
    let l1 := s1.lane n
    if l1.rxDoze = 3 ∧ past l1.seqRx then
      afterDoze p l1.rxDozeTick (synceUpdate (s1.setLane n { l1 with rxDoze := 0, seqRx := none, window := 0 }))
    else s1

def execWakeSequenceEnd (lane : Nat) (s : State) : Host.Outcome State Fault Refusal := keep s (sequenceEnd (lane % 512) s)

/-- The window closes with the line silent; the receiver keeps listening (R100). -/
def windowClose (n : Nat) (s : State) : State :=
  match s.portOf n with
  | none => s
  | some p =>
    let l := s.lane n
    if l.rxDoze = 3 ∧ l.window = 1 ∧ l.seqRx = none ∧ windowCloseTick (s.prt p) l ≤ s.tick then s.setLane n { l with window := 2 }
    else s

def execWakeWindowClose (lane : Nat) (s : State) : Host.Outcome State Fault Refusal := keep s (windowClose (lane % 512) s)

/-- No sequence 10 µs after the window closed: the port goes down with cause WAKE_FAIL (R100). -/
def wakeFail (n : Nat) (s : State) : State :=
  match s.portOf n with
  | none => s
  | some p =>
    let l := s.lane n
    if (l.rxDoze = 3 ∨ l.rxDoze = 4) ∧ l.seqRx = none ∧ wakeFailTick (s.prt p) l ≤ s.tick then linkDown p 11 s else s

def execWakeFailTimeout (lane : Nat) (s : State) : Host.Outcome State Fault Refusal := keep s (wakeFail (lane % 512) s)

/-- Ticks from the recognition of a WAKE_REQ to its end: a frame ends with it; a burst of 200 ns, which comes from a partner whose
transmitter is not AWAKE, is recognised within 50 ns of its start (Table 4-12). -/
def reqRest (l : Lane) : Nat := if l.rxDoze = 0 then 0 else nsTicks 150

/-- Receipt of WAKE_REQ (R101, R102): a wake sequence within 50 ns of the request's end, then idle for the fast retrain time. -/
def wakeReqRx (n : Nat) (s : State) : State :=
  match s.portOf n with
  | none => s
  | some p =>
    if !s.linkUp p then s
    else
      let s := raiseInt 10 .laneIntStatus [n] 5 (s.bump .laneDozeCnt [n] 31 16)
      let busy := s.boundaryTick (s.prt p).txBusy16
      widenGuard n (s.modLane n fun l => { l with
        txDoze := 4, reqUntil := some (max (s.tick + reqRest l) busy.toNat + nsTicks (150 + retrainNs l))
        txDozeTick := if l.txDoze = 0 then s.tick else l.txDozeTick, burstUntil := none })

def execWakeReqRx (lane : Nat) (s : State) : Host.Outcome State Fault Refusal := keep s (wakeReqRx (lane % 512) s)

/-- A fast retrain ends: the transmitter resumes data; a receiver that saw its sequence is AWAKE (R100, R101). -/
def retrainDone (n : Nat) (s : State) : State :=
  match s.portOf n with
  | none => s
  | some p =>
    let l := s.lane n
    let due : Bool := match l.reqUntil with | some t => decide (t ≤ s.tick) | none => false
    let s1 := if l.txDoze = 4 ∧ due then afterDoze p l.txDozeTick (s.setLane n { l with txDoze := 0, reqUntil := none }) else s
    let l1 := s1.lane n
    if l1.rxDoze = 4 ∧ l1.seqRx.isSome then
      afterDoze p l1.rxDozeTick (synceUpdate (s1.setLane n { l1 with rxDoze := 0, seqRx := none, window := 0 }))
    else s1

def execFastRetrainDone (lane : Nat) (s : State) : Host.Outcome State Fault Refusal := keep s (retrainDone (lane % 512) s)

/-- Low-power idle of IEEE 802.3 Clause 78 on a port that enables it (R103). -/
def lpiRequest (p : Nat) (enter tx : Bool) (s : State) : State :=
  if !s.linkUp p ∨ !(s.prt p).lpiEn then s
  else
    let a := if enter then 0 else 5
    let b := if enter then 5 else 0
    let l := s.lane p
    let t := synceUpdate (s.modLanes p fun l =>
      if tx then (if l.txDoze = a then { l with txDoze := b, txDozeTick := if enter then s.tick else l.txDozeTick } else l)
      else if l.rxDoze = a then { l with rxDoze := b, rxDozeTick := if enter then s.tick else l.rxDozeTick, sigLost := none } else l)
    if !enter && (if tx then l.txDoze else l.rxDoze) == 5 then afterDoze p (if tx then l.txDozeTick else l.rxDozeTick) t else t

def execLpiRequest (port : Nat) (enter tx : Bool) (s : State) : Host.Outcome State Fault Refusal :=
  keep s (lpiRequest (port % 512) enter tx s)

/-! ### PORT_ADMIN, LANE_DOZE_CONFIG (R104, R105) -/

/-- Administrative shutdown with a GOODBYE cause (R92, R104): GOODBYE on a LINK_UP Dravua port, then the port is down and held
in ADMIN_DOWN. -/
def portAdminDown (p cause : Nat) (s : State) : State :=
  let x := s.prt p
  let s := if s.linkUp p ∧ x.ver ≠ 0 then sendHello 3 0 cause p s else s
  let was := s.linkUp p
  let s := if was then leaveLink p cause s else s
  let s := s.modPort p fun x => { x with adminUp := false, state := 4, stage := 0, cause := cause, topsail := false }
  when was (linkChange p) s

/-- ADMIN_UP takes a value (R104): 0 shuts down, 1 starts a port that is ADMIN_DOWN. -/
def setAdmin (p : Nat) (up : Bool) (s : State) : State :=
  if !(s.prt p).formed then s
  else if !up then (if (s.prt p).state = 4 then s else portAdminDown p 14 s)
  else
    let was := (s.prt p).state
    let s := s.modPort p fun x => { x with adminUp := true }
    if was = 4 then startAttempt p (s.modPort p fun x => { x with backoff := 0 }) else s

/-- PORT_ADMIN (R104). -/
def portAdminBody : CmdBody := fun c s =>
  let p := c.n 0
  checked [(0, p < 512 && (s.prt p).formed), (1, c.n 1 ≤ 1), (2, c.n 2 ≤ 1), (3, c.n 3 < 256),
    (4, c.n 4 == 0 || (10 ≤ c.n 4 && c.n 4 ≤ 10000)), (5, c.n 5 ≤ 1)] fun _ =>
    let s := s.modPort p fun x => { x with rxInvert := c.n 3, trainTimer := c.n 4, fallback := c.n 5 == 1 }
    let s := setAdmin p (c.n 1 == 1) s
    .done [] (when (c.n 2 == 1) (portRestart p) s)

/-- The SerDes group of the named port. -/
def portDomain : Cmd → State → Option Nat := fun c _ => some (domSerdes (c.n 0 % 512))

/-- Low-power idle is available on the port's type (R103). -/
def lpiAvailable (x : Port) : Bool := x.speed == 1 || x.speed == 2 || (x.speed == 4 && x.lanes == 4)

/-- LANE_DOZE_CONFIG (R105): RESUME clears DOZE_SUSPENDED and the run count. -/
def laneDozeConfigBody : CmdBody := fun c s =>
  let p := c.n 0
  checked [(0, p < 512 && (s.prt p).formed), (1, c.n 1 ≤ 1),
    (2, c.n 2 ≤ 1 && !(c.n 2 == 1 && (c.n 1 == 1 || !lpiAvailable (s.prt p)))), (3, c.n 3 ≤ 65535),
    (4, 100 ≤ c.n 4 && c.n 4 ≤ 12800 && c.n 4 % 10 == 0 && c.n 4 ≤ c.n 5),
    (5, 200 ≤ c.n 5 && c.n 5 ≤ 12800 && c.n 5 % 10 == 0), (6, c.n 6 ≤ 1)] fun _ =>
    let s := s.modPort p fun x => { x with schedDoze := c.n 1 == 1, lpiEn := c.n 2 == 1, linkDelay := c.n 3 }
    let s := s.modLanes p fun l => { l with
      guard := c.n 4, guardCeil := c.n 5
      suspended := l.suspended && c.n 6 == 0, missRun := if c.n 6 = 1 then 0 else l.missRun }
    let s := when (c.n 6 == 1) (fun s => (s.lanesOf p).foldl (fun s n =>
      s.setRg .laneIntStatus [n] (s.rg .laneIntStatus [n] &&& ~~~64)) s) s
    .done [] (bumpEpoch (ekLane p) (domSerdes p) s)

/-! ### Forming ports from a profile (R88, R430, R74) -/

/-- A port entry that the map may hold on its own (R88). -/
def entryOk18 (e : W) : Bool :=
  entryPort e % entryWidth e == 0 && (laneModeOf (entrySpeed e) (entryWidth e)).isSome
    && (if entrySpeed e = 13 then 1 ≤ entryOption e && entryOption e ≤ 10 else entryOption e == 0)
    && (fld e 31 18 == 0 || (10 ≤ fld e 31 18 && fld e 31 18 ≤ 10000))

/-- Line rates of a port for R74, as codes: NRZ rates by standard or CPRI option, PAM4 and Topsail by symbol rate. -/
def entryRates (e : W) : List Nat :=
  match laneModeOf (entrySpeed e) (entryWidth e) with
  | some 1 =>
    if entrySpeed e = 13 then [100 + entryOption e]
    else if entrySpeed e = 0 then [1] else if entrySpeed e = 1 then [2] else [3]
  | some 2 => [4]
  | some 3 => [5]
  | some 4 => if [7, 9, 11, 12].contains (entrySpeed e) then [6, 7] else [6]
  | _ => []

/-- The first octal whose ports take more than two transmit rates (R74). -/
def badOctal (l : List W) : Option Nat :=
  (List.range 64).find? fun o =>
    2 < ((l.filter fun e => entryPort e / 8 == o).flatMap entryRates).eraseDups.length

/-- Two entries share a lane. -/
def entriesOverlap (a b : W) : Bool :=
  entryPort a < entryPort b + entryWidth b && entryPort b < entryPort a + entryWidth a

/-- The ports of a map are pairwise disjoint. -/
def disjointMap : List W → Bool
  | [] => true
  | e :: r => r.all (fun f => !entriesOverlap e f) && disjointMap r

/-- Form a port from its entry: an enabled port starts its first attempt, another is ADMIN_DOWN. -/
def formPort (e : W) (s : State) : State :=
  let p := entryPort e
  let x : Port := { formed := true, entry := e, adminUp := bitAt e 40, rxInvert := fld e 39 32, trainTimer := fld e 31 18
                    fallback := bitAt e 41, schedDoze := bitAt e 42, state := 4 }
  let s := (s.setPort p x).modLanes p fun l => { l with mode := (laneModeOf x.speed x.lanes).getD 0 }
  if x.adminUp then startAttempt p s else s

/-! ### Line symbols (R76 to R79) -/

/-- The physical lane of logical lane k: LANE_MAP, its own place before stage 5 has set it. -/
def Port.physical (x : Port) (k : Nat) : Nat := x.laneMap.getD k k

/-- The codeword at which a Topsail port would begin a frame now: blocks of 12.8 ns since the attempt began. DESIGN CHOICE (log 74): the
spec does not say where block 0 lies, nor how frames fall on codewords. -/
def State.codewordNow (s : State) (p : Nat) : Nat := (s.tick - (s.prt p).startTick) * 25 / 256 * (s.prt p).lanes

/-- The symbols of each lane for a frame that the port block sends: bits on NRZ lanes, levels on PAM4 and Topsail lanes (R76), precoded
where the direction precodes (R77). `prev` is the symbol that each lane sent before. -/
def State.txLine (s : State) (p prev : Nat) (frame : List Byte) : List (List Nat) :=
  let x := s.prt p
  let row := s.latency p
  let bits := if row = 5 then topsailSend x.lanes (s.codewordNow p) frame else Config.pcsSend row x.lanes frame
  (List.range x.lanes).map fun k =>
    let b := bits.getD k []
    if row < 3 then b.map b2n
    else if (s.lane (p + k)).txPre then precode (prev / 4 ^ k % 4) (toLevels b) else toLevels b

/-- The line bits of a received lane: polarity first, then precoding, then the inverse of the mapping (R76, R77). -/
def lineBits (row : Nat) (l : Lane) (sym : List Nat) : List Bool :=
  let top := if row < 3 then 1 else 3
  let v := if l.inverted then sym.map (top - ·) else sym
  if row < 3 then (v.drop 1).map (· == 1)
  else toBits (if l.rxPre then deprecode (v.headD 0) (v.drop 1) else v.drop 1)

/-- Count corrected symbols and uncorrectable codewords of a port's physical lanes (LANE_FEC_CNT). -/
def countFec (p : Nat) (l : List (Nat × Nat)) (s : State) : State :=
  (List.range l.length).foldl (fun s k =>
    let c := l.getD k (0, 0)
    let n := p + (s.prt p).physical k
    (s.bump .laneFecCnt [n] 63 32 c.1).bump .laneFecCnt [n] 31 0 c.2) s

/-- The frame that the line symbols of a port carry; none where decoding fails. A frame given as bytes is taken as it is. -/
def decodeFrame (p : Nat) (f : RxFrame) (s : State) : Option RxFrame × State :=
  if f.line.isEmpty then (some f, s)
  else
    let x := s.prt p
    let row := s.latency p
    let lanes := (List.range x.lanes).map fun k =>
      lineBits row (s.lane (p + x.physical k)) (f.line.getD (x.physical k) [])
    let r := if row = 5 then topsailReceive lanes else Config.pcsReceive row lanes
    (r.1.map fun b =>
      let n := b.length - 4
      { f with bytes := b.take n, fcsGood := crc32 (b.take n) == bytesNat (b.drop n).reverse 0 4, line := [] },
     countFec p r.2 s)

end Sys2Proof.Machine
end

