-- ==== Sys2Proof/Machine/Switch.lean ====
section
/-! DEFINITION. The shared buffer and the switch core (chapter 7): admission, stored packets, pulls, the crossbar's
scheduler, resequencing, the audit, plane faults. Memory codes are those of block 13 in Table 20-2. -/

namespace Sys2Proof.Machine

/-- Change the packet path. -/
def State.modPk (s : State) (f : Packets → Packets) : State := { s with pk := f s.pk }

/-- Slice i. -/
def State.slice (s : State) (i : Nat) : Slice := tget {} s.pk.slices i

/-- Set slice i. -/
def State.setSlice (s : State) (i : Nat) (v : Slice) : State := s.modPk fun k => { k with slices := tset {} k.slices i v }

/-- The crossbar. -/
def State.setXbar (s : State) (x : Xbar) : State := s.modPk fun k => { k with xbar := x }

/-- Queue of the traffic manager by its device-wide index 16 * port + queue. -/
def State.tmq (s : State) (q : Nat) : TmQueue := tget {} s.pk.queues q

/-- Set a queue. -/
def State.setTmq (s : State) (q : Nat) (v : TmQueue) : State := s.modPk fun k => { k with queues := tset {} k.queues q v }

/-- Egress port of the traffic manager. -/
def State.tmp (s : State) (p : Nat) : TmPort := tget {} s.pk.tports p

/-- Set an egress port. -/
def State.setTmp (s : State) (p : Nat) (v : TmPort) : State := s.modPk fun k => { k with tports := tset {} k.tports p v }

/-- Cells of a packet of n bytes. -/
def cellsOf (n : Nat) : Nat := (n + 255) / 256

/-- Stored length L of a packet: from the DMAC to the FCS. -/
def Pkt.len (p : Pkt) : Nat := p.bytes.length + 4

/-! ### Counts of a slice (chapter 7, Admission) -/

/-- The cells of stored packets that are in use. -/
def Slice.used (sl : Slice) : List (Nat × Bool × Nat) := sl.stored.flatMap fun x => x.2.cells.filter fun c => c.2.2 != 0

/-- Cells on the free list (Table 7-4). -/
def Slice.free (sl : Slice) : Nat := 98304 - sl.used.length - sl.leaked.length

/-- RSV_CELLS and HEADROOM. -/
def State.rsvCells (s : State) (i : Nat) : Nat := s.rgf .bufSliceCfg [i] 48 32
def State.headroom (s : State) (i : Nat) : Nat := s.rgf .bufSliceCfg [i] 16 0

/-- Free cells of the reserve pool and of the shared pool. -/
def State.freeRsv (s : State) (i : Nat) : Nat := s.rsvCells i - ((s.slice i).used.filter fun c => c.2.1).length
def State.freeShared (s : State) (i : Nat) : Nat :=
  98304 - s.rsvCells i - ((s.slice i).used.filter fun c => !c.2.1).length - (s.slice i).leaked.length

/-- F_s. -/
def State.fS (s : State) (i : Nat) : Nat := s.freeShared i - s.headroom i

/-- References of a slice to packets of a queue: in its virtual output queue, on their way, pulled. -/
def State.refsOf (s : State) (i q : Nat) : List Ref :=
  tget [] (s.slice i).voq q ++ ((s.pk.pulls.filter fun p => p.slice == i && 16 * p.ref.port + p.ref.queue == q).map (·.ref))
    ++ ((s.slice i).pulled.flatMap fun x => x.2.filter fun r => 16 * r.port + r.queue == q)

/-- Q_s of a queue: the cells that the queue's copies have still to launch (R171); reserve cells count in U_s of the
queue whose admission drew them. -/
def State.qS (s : State) (i q : Nat) : Nat :=
  ((s.refsOf i q).filter fun r => !r.mirror).foldl (fun n r =>
    let st := tget {} (s.slice i).stored r.id
    n + (((st.cells.take r.cells).drop r.next).filter fun c => !c.2.1 || st.first != q).length) 0

/-- U_s of a queue. -/
def State.uS (s : State) (i q : Nat) : Nat :=
  (s.slice i).stored.foldl (fun n x =>
    if x.2.first = q then n + (x.2.cells.filter fun c => c.2.1 && c.2.2 != 0).length else n) 0

/-- Q_d of a queue as the occupancy bus shows it (R162). -/
def State.qD (s : State) (q : Nat) : Nat := tget 0 s.pk.xbar.qd q

/-- The occupancy bus takes the slices' counts, once in a grant window (R162). -/
def occupancyBus (s : State) : State :=
  let qs := ((List.range 16).flatMap fun i => (s.slice i).stored.flatMap fun x =>
    if x.2.cells = [] then [] else (s.slice i).voq.map (·.1) ++ (s.slice i).pulled.flatMap fun y => y.2.map fun r => 16 * r.port + r.queue)
    ++ s.pk.pulls.map (fun p => 16 * p.ref.port + p.ref.queue)
  let qd : Tbl Nat := qs.foldl (fun m q => tset 0 m q ((List.range 16).foldl (fun n i => n + s.qS i q) 0)) []
  s.setXbar { s.pk.xbar with qd := qd, fd := (List.range 16).foldl (fun n i => n + s.fS i) 0 }

/-! ### Admission (R158 to R160, R171) -/

/-- The threshold test of R159. -/
def threshold (code q f : Nat) : Bool := code != 0 && decide ((q + 1) * 256 ≤ f * 2 ^ code)

/-- The pool that a queue's first cell comes from, none where the queue refuses the packet (R158): true for the reserve
pool. `taken` says that an earlier copy of the same packet already drew the cell, and from which pool. -/
def admitQueue (s : State) (i q : Nat) (yellow : Bool) (taken : Option Bool) : Option Bool :=
  let w := s.rg .admProfile [(s.tmq q).profile]
  let rsv := s.freeRsv i - (if taken = some true then 1 else 0)
  let f := s.fS i - (if taken = some false then 1 else 0)
  let fd := s.pk.xbar.fd
  if s.uS i q < fld w 47 36 && decide (0 < rsv) then some true
  else
    let dev := if yellow then fld w 31 28 else fld w 35 32
    let loc := if yellow then fld w 23 20 else fld w 27 24
    if threshold dev (s.qD q) fd && threshold loc (s.qS i q) f then some false else none

/-- Which member ports take a copy, in ascending order, and the pool of the first cell (R171). -/
def admitAll (s : State) (i queue : Nat) (yellow : Bool) : List Nat → Option Bool → List Nat × Option Bool
  | [], taken => ([], taken)
  | p :: ps, taken =>
    match admitQueue s i (16 * p + queue) yellow taken with
    | none => admitAll s i queue yellow ps taken
    | some pool =>
      let r := admitAll s i queue yellow ps (some (taken.getD pool))
      (p :: r.1, r.2)

/-- The lowest cell number from k that is not in use. -/
def freshCell (used : List Nat) : Nat → Nat → Nat
  | 0, k => k
  | n + 1, k => if used.contains k then freshCell used n (k + 1) else k

/-- Draw n cells (R160): from the reserve pool while U_s is below the minimum, else from the shared pool; none where both
are empty. `first` fixes the pool of the first cell. -/
def drawCells (min rsv shared : Nat) (used : List Nat) (u : Nat) (first : Option Bool) : Nat → Option (List (Nat × Bool))
  | 0 => some []
  | n + 1 =>
    let c := freshCell used (used.length + 1) 0
    let res := match first with
      | some b => b
      | none => decide (u < min) && decide (0 < rsv)
    if (res && rsv == 0) || (!res && shared == 0) then none
    else
      match drawCells min (if res then rsv - 1 else rsv) (if res then shared else shared - 1) (c :: used)
          (if res then u + 1 else u) none n with
      | some l => some ((c, res) :: l)
      | none => none

/-- Count a packet that a slice drops under a code of Table 7-2 (R178). -/
def bufDrop (i code : Nat) (s : State) : State :=
  let s := s.bump .bufDropCnt [i, code] 47 0
  if code = 3 then raiseInt 13 .bufIntStatus [i] 3 s else if code = 6 then raiseInt 13 .bufIntStatus [i] 2 s else s

/-- Write the words that a packet's cells hold. -/
def writeCells (i : Nat) (cells : List (Nat × Bool)) (len : Nat) (s : State) : State :=
  (cells.zipIdx).foldl (fun s x => memWriteN 13 i 0 (32 * x.1.1) ((min 256 (len - 256 * x.2) + 7) / 8) s) s

/-- A reference to one copy. -/
def refOf (s : State) (id port queue n len : Nat) (mir : Bool) : Ref :=
  { id := id, port := port, queue := queue, cells := n, len := len, mirror := mir, occ := s.qD (16 * port + queue) / 32 % 65536 }

/-- Store a packet whose copies go to `ports` (admission has still to decide them) and whose mirror copy, if any, goes to
(port, queue, length limit); FCS good or bad (R157 to R162, R170 to R172). -/
def storePkt (i : Nat) (p : Pkt) (ports : List Nat) (multicast : Bool) (mir : Option (Nat × Nat × Nat)) (fcs : Bool)
    (s : State) : State :=
  let only := ports.isEmpty && !multicast
  let adm := admitAll s i p.queue p.yellow ports none
  let s := when multicast (fun s => s.bump .mcCopyDrop [i] 47 0 (ports.length - adm.1.length)) s
  if !only && adm.1.isEmpty then bufDrop i (if p.yellow && !multicast then 2 else 1) s
  else
    let sl := s.slice i
    let q := match adm.1 with | x :: _ => 16 * x + p.queue | [] => 8192
    let n := cellsOf p.len
    let used := (sl.used.map (·.1)) ++ sl.leaked
    let minCells := if only then 0 else fld (s.rg .admProfile [(s.tmq q).profile]) 47 36
    match drawCells minCells (s.freeRsv i) (s.freeShared i) used (s.uS i q) (if only then some false else adm.2) (min n 64) with
    | none => bufDrop i 3 s
    | some cells =>
      if 64 < n then bufDrop i 4 s
      else if !fcs then bufDrop i 5 s
      else
        let id := freshCell (sl.stored.map (·.1)) (sl.stored.length + 1) 0
        let copies := adm.1.map fun x => refOf s id x p.queue n p.len false
        let mirs := match mir with
          | some (x, mq, lim) =>
            let len := if lim = 0 then p.len else min p.len lim
            [refOf s id x mq (cellsOf len) len true]
          | none => []
        let refs := copies ++ mirs
        let withRefs := (cells.zipIdx).map fun c => (c.1.1, c.1.2, (refs.filter fun r => decide (c.2 < r.cells)).length)
        let st : Stored := { pkt := p, cells := withRefs, first := q }
        let voq := refs.foldl (fun (v : Tbl (List Ref)) r =>
          tset [] v (16 * r.port + r.queue) (tget [] v (16 * r.port + r.queue) ++ [r])) sl.voq
        let s := memWrite 13 i 1 id (writeCells i cells p.len s)
        let s := s.setSlice i { sl with stored := tset {} sl.stored id st, voq := voq }
        refs.foldl (fun s r => work (domTile (tileOf r.port)) s) s

/-- Drop a reference's hold on the cells it has not launched; a packet without cells in use is forgotten. -/
def releaseCells (i : Nat) (r : Ref) (lo hi : Nat) (s : State) : State :=
  let sl := s.slice i
  let st := tget {} sl.stored r.id
  let cells := (st.cells.zipIdx).map fun c => if lo ≤ c.2 ∧ c.2 < hi then (c.1.1, c.1.2.1, c.1.2.2 - 1) else c.1
  let st' : Stored := if cells.all fun c => c.2.2 == 0 then {} else { st with cells := cells }
  s.setSlice i { sl with stored := tset {} sl.stored r.id st' }

/-- Return pull credit for n cells of a port (R163). -/
def returnCredit (port n : Nat) (s : State) : State :=
  let s := s.modTl (tileOf port) fun t => { t with credit := t.credit - n }
  s.setTmp port { s.tmp port with out := (s.tmp port).out - n }

/-! ### Pulls -/

/-- The crossbar class of a queue (R166). -/
def State.classOf (s : State) (q : Nat) : Nat := s.rgf .xbarClassMap [] (2 * q + 1) (2 * q)

/-- The oldest pull on its way to a slice arrives: a discard pull frees the packet's cells (R189), a pull queues them for
a crossbar request (R163). -/
def pullArrive (i : Nat) (s : State) : State :=
  match s.pk.pulls.find? fun p => p.slice == i with
  | none => s
  | some p =>
    let s := s.modPk fun k => { k with pulls := k.pulls.erase p }
    let s := work (domTile i) s
    if p.discard then releaseCells i p.ref p.ref.next p.ref.cells s
    else
      let sl := s.slice i
      let key := 4 * tileOf p.ref.port + s.classOf p.ref.queue
      s.setSlice i { sl with pulled := tset [] sl.pulled key (tget [] sl.pulled key ++ [p.ref]) }

def execPull (slice : Nat) (s : State) : Host.Outcome State Fault Refusal := keep s (pullArrive (slice % 16) s)

/-! ### The crossbar scheduler (R164 to R166) -/

/-- Plane p. -/
def State.plane (s : State) (p : Nat) : Plane := tget {} s.pk.xbar.planes p

/-- Set plane p. -/
def State.setPlane (s : State) (p : Nat) (v : Plane) : State :=
  s.setXbar { s.pk.xbar with planes := tset {} s.pk.xbar.planes p v }

/-- A plane in a half that power management has switched off (R177). -/
def State.planeOff (s : State) (p : Nat) : Bool := !s.awake (domXbar p)

/-- Is a plane in service? -/
def State.planeIn (s : State) (p : Nat) : Bool := !(s.plane p).fault && !s.planeOff p

/-- Planes in service. -/
def State.planesIn (s : State) : List Nat := (List.range 12).filter s.planeIn

/-- Grant pointer of egress Tile j and accept pointer of ingress Tile i on plane p (R165). -/
def State.gPtr (s : State) (p j : Nat) : Nat := (tget none s.pk.xbar.g (16 * p + j)).getD ((j + p) % 16)
def State.aPtr (s : State) (p i : Nat) : Nat := (tget none s.pk.xbar.a (16 * p + i)).getD ((i + p) % 16)

/-- The first of 0 to 15, at or after a start in ascending order modulo 16, for which a test holds. -/
def cyclic (start : Nat) (f : Nat → Bool) : Option Nat := ((List.range 16).map fun k => (start + k) % 16).find? f

/-- One iteration of request, grant, accept on a plane; `req i j` says that slice i requests Tile j. -/
def iterate (p : Nat) (req : Nat → Nat → Bool) (s : State) (m : List (Nat × Nat)) : List (Nat × Nat) :=
  let grants := (List.range 16).filterMap fun j =>
    if m.any fun x => x.2 == j then none
    else (cyclic (s.gPtr p j) fun i => !(m.any fun x => x.1 == i) && req i j).map fun i => (i, j)
  let accepts := (List.range 16).filterMap fun i =>
    if m.any fun x => x.1 == i then none
    else (cyclic (s.aPtr p i) fun j => grants.contains (i, j)).map fun j => (i, j)
  m ++ accepts

/-- The match of a plane for a window and the pointers after it. -/
def matchPlane (req : Nat → Nat → Bool) (p : Nat) (s : State) : List (Nat × Nat × Nat) × State :=
  -- the pointers that move are written into the plane's scheduler state
  let m1 := iterate p req s []
  let x := s.pk.xbar
  let x' : Xbar := { x with
    g := m1.foldl (fun (g : Tbl (Option Nat)) a => tset none g (16 * p + a.2) (some ((a.1 + 1) % 16))) x.g
    a := m1.foldl (fun (g : Tbl (Option Nat)) a => tset none g (16 * p + a.1) (some ((a.2 + 1) % 16))) x.a }
  let s' := m1.foldl (fun s a => memWrite 13 (16 + p) 4 (16 + a.1) (memWrite 13 (16 + p) 4 a.2 s)) (s.setXbar x')
  let m3 := iterate p req s' (iterate p req s' m1)
  (m3.map fun a => (p, a.1, a.2), s')

/-- The check of a plane's scheduler state in a window (R175): the grant pointers at words 0 to 15, the accept pointers at 16 to 31 (the
model's own layout of memory 4). -/
def schedRead (p : Nat) (s : State) : Bool × State :=
  if s.flt.ecc = [] ∧ (s.fault 13 (16 + p)).forced = 0 then (true, s) else memReadN 13 (16 + p) 4 0 9 32 s

/-- A plane fault is detected; it is declared at the next window boundary (R175). -/
def detectPlane (p cause : Nat) (s : State) : State := s.setPlane p { s.plane p with detected := cause }

/-- The class that a slice launches from toward a Tile: the highest that has a pulled packet. -/
def Slice.launchClass (sl : Slice) (j : Nat) : Option Nat := [3, 2, 1, 0].find? fun c => !(tget [] sl.pulled (4 * j + c)).isEmpty

/-- Read a packet into launch staging (R401): its descriptor, then every word of its cells. -/
def stageReads (i : Nat) (r : Ref) (s : State) : Nat × State :=
  let st := tget {} (s.slice i).stored r.id
  let d := memRead 13 i 1 r.id 2 s
  if !d.ok then (2, d.st)
  else
    let all := ((st.cells.take r.cells).zipIdx).foldl (fun (a : Bool × State) c =>
      let x := memReadN 13 i 0 (32 * c.1.1) 2 ((min 256 (r.len - 256 * c.2) + 7) / 8) a.2
      (a.1 && x.1, x.2)) (true, d.st)
    (if all.1 then 0 else 1, all.2)

/-- The identifier under which a copy of a stored packet answers its timestamp action; a mirror copy has none. -/
def State.refTs (s : State) (i : Nat) (r : Ref) : Option Nat := if r.mirror then none else (tget {} (s.slice i).stored r.id).pkt.ts

/-- The answer to the timestamp action of a copy that its egress queue accepted and that is dropped (R27). -/
def abortRef (i : Nat) (r : Ref) (s : State) : State := abortTs r.port (s.refTs i r) s

/-- A packet whose staging found an uncorrectable word leaves its slice without a launch (R401): the pull credit returns;
with a bad descriptor every copy goes and the cells leak. Each copy with the timestamp action gets its answer (R27). -/
def dropStaged (i : Nat) (r : Ref) (bad : Nat) (s : State) : State :=
  let s := abortRef i r (bufDrop i 6 (returnCredit r.port r.cells s))
  if bad = 1 then releaseCells i r r.next r.cells s
  else
    let sl := s.slice i
    let st := tget {} sl.stored r.id
    let gone := fun (l : List Ref) => l.filter fun x => x.id != r.id
    let others := sl.pulled.flatMap fun x => x.2.filter fun y => y.id == r.id
    let queued := sl.voq.flatMap fun x => x.2.filter fun y => y.id == r.id
    let s := others.foldl (fun s y => abortRef i y (returnCredit y.port (y.cells - y.next) s)) s
    let onWay := s.pk.pulls.filter fun p => p.slice == i && p.ref.id == r.id
    let s := onWay.foldl (fun s p => if p.discard then s else abortRef i p.ref (returnCredit p.ref.port p.ref.cells s)) s
    let s := queued.foldl (fun s y => abortRef i y s) s
    let s := s.modPk fun k => { k with pulls := k.pulls.filter fun p => !(p.slice == i && p.ref.id == r.id) }
    let clean := fun (t : Tbl (List Ref)) => (t.map fun x => (x.1, gone x.2)).filter fun x => !x.2.isEmpty
    s.setSlice i { sl with
      stored := tset {} sl.stored r.id {}, voq := clean sl.voq, pulled := clean sl.pulled
      leaked := sl.leaked ++ (st.cells.filter fun c => c.2.2 != 0).map (·.1) }

/-- Discard packets at the head of a class until one passes its staging, or none is left. -/
def stageHead (i key : Nat) : Nat → State → State
  | 0, s => s
  | n + 1, s =>
    match tget [] (s.slice i).pulled key with
    | [] => s
    | r :: rest =>
      if r.next ≠ 0 then s
      else
        let x := stageReads i r s
        if x.1 = 0 then x.2
        else
          let sl := x.2.slice i
          stageHead i key n (dropStaged i r x.1 (x.2.setSlice i { sl with pulled := tset [] sl.pulled key rest }))

/-- Launch the next cell of slice i toward Tile j on a plane in a slot (R157, R166); whether there was one. -/
def launchCell (i j p slot : Nat) (s : State) : Bool × State :=
  let s := [3, 2, 1, 0].foldl (fun s c => stageHead i (4 * j + c) (tget [] (s.slice i).pulled (4 * j + c)).length s) s
  match (s.slice i).launchClass j with
  | none => (false, s)
  | some cls =>
    let sl := s.slice i
    let key := 4 * j + cls
    match tget [] sl.pulled key with
    | [] => (false, s)
    | r :: rest =>
      let st := tget {} sl.stored r.id
      let x := s.pk.xbar
      let sk := 64 * j + 4 * i + cls
      let seq := tget 0 x.seq sk
      let pseq := tget 0 x.pktSeq sk
      let last := r.next + 1 == r.cells
      let data := st.pkt.bytes.take (if r.mirror then min r.len st.pkt.bytes.length else st.pkt.bytes.length)
      let base : Pkt := { st.pkt with
        bytes := [], eport := r.port, queue := r.queue, occ := r.occ, mark := r.mark, plane := p, cells := r.cells }
      let md : Pkt := if r.mirror then { base with mirror := true, ts := none, encap := 0, route := none } else base
      let cell : Cell := { src := i, dst := j, cls := cls, seq := seq, pktSeq := pseq, first := r.next == 0, last := last
                           port := r.port, data := (data.drop (256 * r.next)).take 256, md := if r.next = 0 then md else {}
                           plane := p, arrive := s.tick + slot + 20 }
      let s := s.setSlice i { sl with
        pulled := tset [] sl.pulled key (if last then rest else { r with next := r.next + 1 } :: rest) }
      let s := releaseCells i r r.next (r.next + 1) s
      let s := s.setXbar { x with
        seq := tset 0 x.seq sk ((seq + 1) % 16384)
        pktSeq := if last then tset 0 x.pktSeq sk ((pseq + 1) % 16384) else x.pktSeq
        flight := x.flight ++ [cell] }
      (true, s.bump .xbarPlaneCnt [p] 63 24)

/-- Launch the cells of a window: for each pair, slot by slot and within a slot in ascending plane order. A grant that carries nothing
counts in XBAR_IDLE_GRANT (R166). -/
def launchWindow (accepts : List (Nat × Nat × Nat)) (s : State) : State :=
  let pairs := (accepts.map (·.2)).dedup
  pairs.foldl (fun s ij =>
    let planes := (List.range 12).filter fun p => accepts.contains (p, ij.1, ij.2)
    let r := (List.range 8).foldl (fun a slot => planes.foldl (fun (a : List Nat × State) p =>
      let x := launchCell ij.1 ij.2 p slot a.2
      (if x.1 then p :: a.1 else a.1, x.2)) a) (([] : List Nat), s)
    planes.foldl (fun s p => if r.1.contains p then s else s.bump .xbarIdleGrant [p] 47 0) r.2) s

/-! ### Resequencing (R168, R169) -/

/-- Stream k of egress Tile t, keyed 64 * t + k. -/
def State.stream (s : State) (k : Nat) : Stream := tget {} s.pk.xbar.streams k

/-- Set a stream. -/
def State.setStream (s : State) (k : Nat) (v : Stream) : State :=
  s.setXbar { s.pk.xbar with streams := tset {} s.pk.xbar.streams k v }

/-- Distance of two 14-bit sequence numbers. -/
def dist14 (a b : Nat) : Nat := (a + 16384 - b) % 16384

/-- A lost cell as its stream's resequencer will skip it (R168), with the identifier of the packet that it opens. -/
def Cell.asLost (c : Cell) : Nat × Nat × Nat × Option Nat :=
  (64 * c.dst + 4 * c.src + c.cls, c.seq, c.port, if c.first then c.md.ts else none)

/-- Take a delivered cell into packet reassembly. -/
def deliverCell (k : Nat) (c : Cell) (s : State) : State :=
  let t := k / 64
  let st := s.stream k
  if st.gap && !c.first then returnCredit c.port 1 s
  else
    let opened := st.openCells
    let port := (st.md.map (·.eport)).getD c.port
    let s := when st.gap (fun s =>
      abortTs port (st.md.bind (·.ts)) (returnCredit port opened (s.bump .rsqCnt [t] 39 16 (dist14 c.pktSeq st.p)))) s
    let st : Stream := if st.gap then { st with gap := false, open_ := [], md := none, openCells := 0 } else st
    let md := if c.first then some c.md else st.md
    let bytes := if c.first then c.data else st.open_ ++ c.data
    let n := if c.first then 1 else st.openCells + 1
    if c.last then
      let s := s.setStream k { st with open_ := [], md := none, openCells := 0, p := (c.pktSeq + 1) % 16384 }
      match md with
      | some m => s.modTl t fun tl => { tl with egress := tl.egress ++ [{ m with bytes := bytes }] }
      | none => s
    else s.setStream k { st with open_ := bytes, md := md, openCells := n, p := c.pktSeq }

/-- Deliver held cells in order from E; a held cell that is uncorrectable is discarded as lost (R401). -/
def deliverHeld (k : Nat) : Nat → State → State
  | 0, s => s
  | n + 1, s =>
    let st := s.stream k
    match st.held.find? fun x => x.2.seq == st.e with
    | none => s
    | some x =>
      let r := memRead 13 (32 + k / 64) 3 st.e 3 s
      let s := r.st
      let st' : Stream := { st with e := (st.e + 1) % 16384, held := st.held.erase x, gap := st.gap || !r.ok }
      let s := s.setStream k st'
      let s := if r.ok then deliverCell k x.2 s
               else abortTs x.2.port x.2.asLost.2.2.2 (returnCredit x.2.port 1 (s.bump .rsqCnt [k / 64] 63 40))
      deliverHeld k n s

/-- A plane finds a cell's header uncorrectable (R175): that cell is lost and counts in PLANE_HDR_ERR; sixteen within 1 ms are a plane
fault, declared at the next window boundary. -/
def badHeader (c : Cell) (s : State) : State :=
  let p := c.plane
  let errs := (s.tick :: (s.plane p).hdrErrs).filter fun x => decide (s.tick < x + msTicks)
  let many := decide (16 ≤ errs.length)
  let s := s.setXbar { s.pk.xbar with flight := s.pk.xbar.flight.erase c, lost := s.pk.xbar.lost ++ [c.asLost] }
  let s := (s.setPlane p { s.plane p with hdrErrs := errs }).bump .xbarPlaneCnt [p] 23 0
  let s := reportFault { block := 13, inst := 16 + p, cls := 5, sev := if many then 2 else 1 } s
  when many (detectPlane p 4) s

/-- A cell arrives at the resequencer of its egress Tile (R168), unless its plane found its header uncorrectable. -/
def cellArrive (t : Nat) (x : CellIn) (s : State) : State :=
  let mine := s.pk.xbar.flight.filter fun c => c.dst == t
  match mine[x.index]? with
  | none => s
  | some c =>
    if s.tick < c.arrive then s
    else if x.hdrBad then badHeader c s
    else
      let k := 64 * t + 4 * c.src + c.cls
      let s := s.setXbar { s.pk.xbar with flight := s.pk.xbar.flight.erase c }
      let st := s.stream k
      if 8192 ≤ dist14 c.seq st.e then abortTs c.port c.asLost.2.2.2 (returnCredit c.port 1 (s.bump .rsqCnt [t] 15 0))
      else
        let s := (memWrite 13 (32 + t) 3 c.seq s).setStream k { st with held := st.held ++ [(s.tick, c)] }
        deliverHeld k (st.held.length + 1) s

def execCellArrival (tile : Nat) (cell : CellIn) (s : State) : Host.Outcome State Fault Refusal :=
  keep s (cellArrive (tile % 16) cell s)

/-- The oldest held cell of a stream has waited RSQ_TIMEOUT (R168): the gap is skipped and its credit returned (R169); a lost first cell
answers its packet's timestamp action (R27). -/
def rsqTimeout (t n : Nat) (s : State) : State :=
  let k := 64 * t + n
  let st := s.stream k
  match st.held with
  | [] => s
  | h :: _ =>
    let oldest := st.held.foldl (fun m x => min m x.1) h.1
    if s.tick < oldest + s.rgf .rsqTimeout [] 15 0 * 8 then s
    else
      let d := st.held.foldl (fun m x => min m (dist14 x.2.seq st.e)) (dist14 h.2.seq st.e)
      let skipped := fun (x : Nat × Nat × Nat × Option Nat) => x.1 == k && decide (dist14 x.2.1 st.e < d)
      let s := s.bump .rsqCnt [t] 63 40 d
      let s := (s.pk.xbar.lost.filter skipped).foldl (fun s x => abortTs x.2.2.1 x.2.2.2 (returnCredit x.2.2.1 1 s)) s
      let s := s.setXbar { s.pk.xbar with lost := s.pk.xbar.lost.filter fun x => !skipped x }
      let s := s.setStream k { st with e := (st.e + d) % 16384, gap := true }
      deliverHeld k st.held.length s

def execRsqTimeout (tile stream : Nat) (s : State) : Host.Outcome State Fault Refusal :=
  keep s (rsqTimeout (tile % 16) (stream % 64) s)

/-! ### The audit (R173, R174) -/

/-- A pass starts every AUDIT_PERIOD: the four counters must add up to 98,304. -/
def auditStart (i : Nat) (s : State) : State :=
  let sl := s.slice i
  let per := s.rgf .auditCtl [i] 15 0
  if per = 0 || sl.passStart.isSome || s.tick < sl.nextPass || !s.awake (domTile i) then s
  else
    let queued := (sl.used).length
    let diff : Int := (sl.free : Int) + queued - 98304
    let s := s.setSlice i { sl with
      passStart := some s.tick, nextPass := s.tick + per * msTicks, snap := sl.leaked, diff := if diff = 0 then sl.diff else diff }
    if diff = 0 then s
    else reportFault { block := 13, inst := i, cls := 9 } (raiseInt 13 .bufIntStatus [i] 0 s)

def execAuditPassStart (slice : Nat) (s : State) : Host.Outcome State Fault Refusal := keep s (auditStart (slice % 16) s)

/-- A pass ends: a cell unmarked in two consecutive passes is a leak. -/
def auditEnd (i : Nat) (s : State) : State :=
  let sl := s.slice i
  match sl.passStart with
  | none => s
  | some _ =>
    let unmarked := sl.snap.filter fun c => sl.leaked.contains c
    let found := unmarked.filter fun c => sl.cands.contains c && !sl.reported.contains c
    let reclaim := bitAt (s.rg .auditCtl [i]) 16
    let back := if reclaim then unmarked.filter fun c => sl.cands.contains c else []
    let s := s.setSlice i { sl with
      passStart := none, passes := (sl.passes + 1) % 131072, snap := [], cands := unmarked.filter fun c => !back.contains c
      leaked := sl.leaked.filter fun c => !back.contains c
      reported := (sl.reported ++ found).filter fun c => !back.contains c
      firstLeak := match found with | c :: _ => c | [] => sl.firstLeak }
    let s := s.bump .auditCnt [i] 31 0 back.length
    if found.isEmpty then s
    else reportFault { block := 13, inst := i, cls := 9 } (raiseInt 13 .bufIntStatus [i] 1 (s.bump .auditCnt [i] 63 32 found.length))

def execAuditPassEnd (slice : Nat) (s : State) : Host.Outcome State Fault Refusal := keep s (auditEnd (slice % 16) s)

/-! ### Plane faults (R175 to R177) -/

/-- XBAR_STATUS (Table 7-5). -/
def State.xbarStatusView (s : State) : W :=
  let faults := maskOf 12 fun p => (s.plane p).fault
  let off := maskOf 12 s.planeOff
  let n := s.planesIn.length
  BitVec.ofNat 64 (s.epoch ekXbar * 2 ^ 48 + faults * 2 ^ 36 + off * 2 ^ 24 + n * 2 ^ 20 + b2n (faults != 0) * 2 ^ 19
    + b2n (n == 0) * 2 ^ 18)

/-- The class under which a plane fault is reported, by its cause. -/
def planeClass : Nat → Nat
  | 2 => 2
  | 3 => 5
  | 4 => 5
  | _ => 6

/-- A plane is declared faulty (R176). A fault that the plane's own checks detected has been reported with its error. -/
def planeFault (p cause : Nat) (s : State) : State :=
  let x := s.pk.xbar
  let lostCells := x.flight.filter fun c => c.plane == p
  let s := s.setXbar { x with
    flight := x.flight.filter fun c => c.plane != p
    lost := x.lost ++ lostCells.map Cell.asLost
    accepts := x.accepts.filter fun a => a.1 != p }
  let reported := (s.plane p).detected != 0
  let s := s.setPlane p { s.plane p with fault := true, cause := cause, windows := none, detected := 0, hdrErrs := [] }
  let s := bumpEpoch ekXbar domMgmt s
  let cls := if cause = 5 ∧ !(s.fault 13 (16 + p)).forced.testBit 6 then 5 else planeClass cause
  let s := unforce 13 (16 + p) 6 (unforce 13 (16 + p) 5 s)
  let s := when (!reported) (reportFault { block := 13, inst := 16 + p, cls := cls, sev := 2, forced := cause == 5 }) s
  let s := raiseInt 13 .xbarIntStatus [] 0 s
  let s := when s.planesIn.isEmpty (raiseInt 13 .xbarIntStatus [] 1) s
  postEvent 7 [s.xbarStatusView, BitVec.ofNat 64 (p * 16 + cause)] s

/-- PLANE_FAULT with its cause (1 to 5); a forced fault needs the force bit (R175). -/
def execPlaneFault (plane cause : Nat) (s : State) : Host.Outcome State Fault Refusal :=
  let ok := plane < 12 && decide (1 ≤ cause) && decide (cause ≤ 5) && !(s.plane plane).fault && !s.planeOff plane
    && (cause != 5 || (s.fault 13 (16 + plane)).forced.testBit 6 || (s.fault 13 (16 + plane)).forced.testBit 5)
  keep s (when ok (planeFault plane cause) s)

/-- Faults that have been detected are declared at a window boundary (R175). -/
def declareDetected (s : State) : State :=
  (List.range 12).foldl (fun s p => when ((s.plane p).detected != 0 && !(s.plane p).fault) (planeFault p (s.plane p).detected) s) s

/-- The match of the planes for a window, and the state after it: a plane that was sent the requests checks its scheduler state, and
matches where that reads well (R164, R165, R175). -/
def matchPlanes (s : State) : List (Nat × Nat × Nat) × State :=
  let req := fun i j => (s.pk.xbar.requests.getD i []).contains j
  (s.pk.xbar.asked.filter s.planeIn).foldl (fun (a : List (Nat × Nat × Nat) × State) p =>
    match schedRead p a.2 with
    | (true, t) => let m := matchPlane req p t; (a.1 ++ m.1, m.2)
    | (false, t) => (a.1, detectPlane p 2 t)) ([], s)

/-- A grant window (R162, R164): detected faults are declared, cells of the accepts launch, the planes match the last requests, new
requests go out to every plane in service. -/
def grantWindow (s : State) : State :=
  if s.tick < s.pk.xbar.window + 8 then s
  else
    let s := declareDetected (s.setXbar { s.pk.xbar with window := s.tick })
    let s := launchWindow (s.pk.xbar.accepts.filter fun a => s.planeIn a.1) s
    let r := matchPlanes s
    let s := r.2
    let next := (List.range 16).map fun i => (List.range 16).filter fun j => ((s.slice i).launchClass j).isSome
    occupancyBus (s.setXbar { s.pk.xbar with accepts := r.1, requests := next, asked := s.planesIn })

def execGrantWindow (s : State) : Host.Outcome State Fault Refusal := keep s (grantWindow s)

/-- XBAR_PLANE_ENABLE (R177). -/
def xbarPlaneEnableBody : CmdBody := fun c s =>
  let p := fld (c.p 0) 3 0
  checked [(0, decide (p < 12) && fld (c.p 0) 15 4 == 0 && fld (c.p 0) 63 32 == 0)] fun _ =>
    if s.epoch ekXbar != fld (c.p 0) 31 16 then .refuse .epochStale (s.epoch ekXbar)
    else if !(s.plane p).fault then .done [] s
    else
      let x := s.pk.xbar
      let clear := fun (g : Tbl (Option Nat)) => g.filter fun y => y.1 / 16 != p
      .done [] ((s.setXbar { x with g := clear x.g, a := clear x.a }).setPlane p { s.plane p with windows := some s.tick })

/-- The end of 64 windows of heartbeats: the plane returns, or is recorded as faulty again (R177). The crossbar's epoch has advanced
since the plane's fault: the plane rejects what it holds as stale and takes it anew (R414, R415). -/
def planeReadmit (p : Nat) (missed : Bool) (s : State) : State :=
  match (s.plane p).windows with
  | none => s
  | some t0 =>
    if s.tick < t0 + 512 then s
    else if missed then planeFault p 1 s
    else
      let s := s.setPlane p { s.plane p with fault := false, windows := none }
      let s := reportFault { block := 13, inst := 16 + p, cls := 13, sev := 0 } s
      raiseInt 13 .xbarIntStatus [] 2 (bumpEpoch ekXbar domMgmt s)

def execPlaneReadmit (plane : Nat) (missed : Bool) (s : State) : Host.Outcome State Fault Refusal :=
  keep s (planeReadmit plane missed s)

/-- BUF_QUEUE_CONFIG: word 0 the queue, word 1 the admission profile. -/
def bufQueueConfigBody : CmdBody := fun c s =>
  checked [(0, decide (c.n 0 < 8192)), (1, decide (c.n 1 < 16))] fun _ =>
    .done [] (s.setTmq (c.n 0) { s.tmq (c.n 0) with profile := c.n 1 })

/-- The domain of the Tile of a queue in word 0. -/
def queueDomain (c : Cmd) (_ : State) : Option Nat := if c.n 0 < 8192 then some (domTile (c.n 0 / 512)) else none

end Sys2Proof.Machine
end

