-- ==== Sys2Proof/Machine/Ingress.lean ====
section
/-! DEFINITION. The ingress pipeline (R106 to R132), the receive windows (R273 to R276), the injection input (R7, R123) and
the paths into the buffer, the Skein feed, the host and the Hook engines. -/

namespace Sys2Proof.Machine

/-! ### Receive windows (R273, R274, R276) -/

/-- WIN_CLASS, ARRIVAL and whether the position was bad, of a packet received at a Mast time on a timeline. -/
def windowOf (s : State) (d : Timeline) (p : Parse) (rx16 : Int) : Nat × Int × Bool :=
  if d.slotsPerSub ≤ p.slot || d.symsPerSlot ≤ p.symbol || 10 ≤ p.subframe then (3, 0, true)
  else
    let f0 := d.frameAt rx16
    let base := f0 + (p.frame - f0) % 256
    let near := fun (f : Int) => (d.frame16 f - rx16).natAbs
    let f := if near base ≤ near (base - 256) then base else base - 256
    let start := d.bound16 (d.symOf f (p.subframe * d.slotsPerSub + p.slot) p.symbol)
    let o := s.boundaryTick start + fld d.w1 39 20
    let rxTick := s.boundaryTick (rx16 + 1) - 1
    let a := rxTick - o
    let w : Int := (fld d.w1 19 0 : Int) - fld d.w1 39 20
    (if a < 0 then 1 else if w ≤ a then 2 else 0, max (-1048576) (min 1048575 a), false)

/-- Count a record in its window histogram (R276, R278) and in its port's counters. -/
def countWindow (t port tlNo cls : Nat) (arr : Int) (s : State) : State :=
  let s := if cls = 1 then s.bump .telPortWinCnt [port] 63 32 else if cls = 2 then s.bump .telPortWinCnt [port] 31 0 else s
  if !s.awake domTelemetry then s
  else
    let w := s.rg .telWinCfg [tlNo]
    let d := arr - sgn 21 (fld w 63 43)
    let bin := if d < 0 then 0 else min 63 (1 + d.toNat / 2 ^ fld w 42 39)
    let k := 8 * t + tlNo
    let h := tget [] s.pk.telem.win k
    let h' := tset 0 h bin (satAdd 48 (tget 0 h bin) 1)
    s.modPk fun x => { x with telem := { x.telem with win := tset [] x.telem.win k h' } }

/-- Fill WIN_CLASS and ARRIVAL of a packet's record. -/
def measure (t : Nat) (p : Parse) (k : Pkt) (s : State) : Pkt × State :=
  let w := s.rg .telPortCfg [k.inPort]
  let tlNo := fld w 62 60
  let d := s.timeline tlNo
  if !p.ecpri || p.msg != 0 || !bitAt w 63 || !d.configured then (k, s)
  else
    let r := windowOf s d p k.rx16
    if r.2.2 then (k, raiseInt 6 .telIntStatus [] 3 (s.bump .telWinBad [] 47 0))
    else ({ k with winClass := r.1, arrival := r.2.1 }, countWindow t k.inPort tlNo r.1 r.2.1 s)

/-! ### The paths out of the pipeline -/

/-- Send a packet to the host (R324): it enters the Tile's receive FIFO of 256 KiB, or is dropped. -/
def toHost (t : Nat) (k : Pkt) (s : State) : State :=
  let tl := s.tl t
  let used := tl.hostRx.foldl (fun n x => n + x.bytes.length) 0
  if 262144 < used + k.bytes.length then raiseInt 4 .hqIntStatus [] 1 (s.bump .hqDropCnt [1] 47 0)
  else work domPcie (s.setTl t { tl with hostRx := tl.hostRx ++ [k] })

/-- The Announce message of a PTP frame (IEEE 1588-2019): clockClass, currentUtcOffset and the leap flags. -/
def announceOf (b : List Byte) (o : Nat) : Announce :=
  { cls := byteAt b (o + 48), utc := sgn 16 (bytesNat b (o + 44) 2), leap61 := (byteAt b (o + 7)).testBit 0
    leap59 := (byteAt b (o + 7)).testBit 1 }

/-- An Announce message goes to the boundary-clock service (R470; its opcodes by Table 11-13). -/
def noteAnnounce (op : Nat) (k : Pkt) (s : State) : State :=
  let p := parse { s.parseCfgOf k.tile k.inPort with inner := false } k.bytes
  if 0x10 ≤ op ∧ op ≤ 0x17 ∧ p.ptp ∧ p.ptpMsg = 11 ∧ p.off + 30 ≤ k.bytes.length then
    { s with mast := { s.mast with announces := s.mast.announces ++ [announceOf k.bytes (p.off - 34)] } }
  else s

/-- Send a packet to a cluster's service (R128, Table 11-6). -/
def toService (q op cpu : Nat) (k : Pkt) (s : State) : State :=
  let w := evTime k
  let s := noteAnnounce op k s
  postHook q { w0 := evWord0 op 2 k.bytes.length cpu, w2 := w.1, w3 := w.2, pkt := k.bytes } s

/-- Send a packet to its Tile's Skein feed link (R10). -/
def toFeed (t : Nat) (k : Pkt) (s : State) : State := s.modTl t fun tl => { tl with feed := tl.feed ++ [k] }

/-- Bytes in a Tile's recirculation queue (R123). -/
def TileState.recircBytes (tl : TileState) : Nat := tl.recirc.foldl (fun n x => n + x.2.bytes.length + 4) 0

/-- The recirculation queue of a Tile cannot take a packet (R123). -/
def State.recircFull (s : State) (t : Nat) (k : Pkt) : Bool := decide (65536 < (s.tl t).recircBytes + k.bytes.length + 4)

/-- Recirculate a packet to an octal of its Tile (R123). -/
def toRecirc (t octal : Nat) (k : Pkt) (fcs : Bool) (s : State) : State :=
  let tl := s.tl t
  if s.recircFull t k then raiseInt 11 .pipeIntStatus [t] 4 (pipeDrop t 8 s)
  else if !fcs then s
  else s.setTl t { tl with recirc := tl.recirc ++ [(octal, { k with second := true })] }

/-- A mirror copy (R120, R172): destination and limit of a session, none where no copy goes to a port. A copy for a CPU
code is sent at once. -/
def mirrorCopy (t : Nat) (k : Pkt) (session : Nat) (fcs : Bool) (s : State) : Option (Nat × Nat × Nat) × State :=
  if session = 0 then (none, s)
  else
    let w := s.rg .mirrorSession [t, session]
    if !bitAt w 63 then (none, s)
    else if !bitAt w 62 then (some (fld w 58 50, fld w 49 46, fld w 45 32), s)
    else
      let lim := fld w 45 32
      let k' : Pkt := { k with bytes := if lim = 0 then k.bytes else k.bytes.take lim, mirror := true, ts := none, encap := 0 }
      match cpuDest t (fld w 61 50) s with
      | (.host qp cpu, s) => (none, if fcs then toHost t { k' with queue := 0, eport := qp, cpu := cpu } s else s)
      | (.service q op cpu, s) => (none, if fcs then toService q op cpu k' s else s)
      | (.drop code, s) => (none, pipeDrop t code s)
      | (_, s) => (none, s)

/-! ### Actions (R118, R119) -/

/-- What a packet meets on its way: the drop code of a DROP disposition, whether a route miss may still fall to the
no-match default. -/
structure Ctx where
  tile : Nat
  parse : Parse
  key : Nat
  dropCode : Nat

/-- The destination of an action whose disposition is not FWD_ROUTE: queue override with it. -/
def plainDest (x : Ctx) (k : Pkt) (w : W) (s : State) : Dest × Option Nat × State :=
  let vid := if x.parse.tagged && x.parse.ovid != 0 then x.parse.ovid else s.rgf .l2PortCfg [x.tile, k.inPort % 32] 11 0
  match actDisp w with
  | 0 =>
    let dmac := bytesNat k.bytes 0 6
    let flood := fun (s : State) =>
      match floodPorts x.tile vid s with
      | (some m, s) => (Dest.flood m, (none : Option Nat), s)
      | (none, s) => (Dest.flood 0, none, raiseInt 12 .ftIntStatus [x.tile] 5 s)
    if dmac / 2 ^ 40 % 2 = 1 then flood s
    else match l2Find x.tile vid dmac s with
      | (none, s) => flood s
      | (some (_, _, e), s) =>
        if l2Port e = k.inPort then (.drop 3, none, s.bump .l2Cnt2 [x.tile] 31 0) else (.port (l2Port e), none, s)
  | 2 =>
    if actSpread w = 0 then (.port (fld w 53 45), none, s)
    else match spread x.tile 0 x.key w s with
      | (.ok (p, q), s) => (.port p, q, s)
      | (.error c, s) => (.drop c, none, s)
  | 4 =>
    if actSpread w = 0 then let r := cpuDest x.tile (actDest w) s; (r.1, none, r.2)
    else match spread x.tile 1 x.key w s with
      | (.ok (cpu, q), s) => let r := cpuDest x.tile cpu s; (r.1, q, r.2)
      | (.error c, s) => (.drop c, none, s)
  | 5 => (.feed, none, s)
  | 6 => if k.second then (.drop 7, none, s) else (.recirc (fld w 46 45), none, s)
  | _ => (.drop x.dropCode, none, s)

/-- What an action decides: destination, the action whose queue, TS, ENCAP and FLOW_CLASS apply, a queue override, the hop of
a route hit. -/
structure Fate where
  dest : Dest
  act : W
  queue : Option Nat
  hop : Option Hop

/-- The fate of a packet under its selected action, and under the no-match default where a route misses (R119, R153). -/
def fateOf (x : Ctx) (k : Pkt) (w : W) (s : State) : Fate × State :=
  let fallback := fun (code : Nat) (s : State) =>
    let d := s.rg .portDefaultNomatch [x.tile, k.inPort % 32]
    let r := if actDisp d = 1 then (Dest.drop code, none, s) else plainDest { x with dropCode := code } k d s
    (({ dest := r.1, act := d, queue := r.2.1, hop := none } : Fate), r.2.2)
  if actDisp w = 1 then
    if x.parse.ipKind = 0 then fallback 15 s
    else match routeLookup x.tile (actDest w) (x.parse.ipKind == 6) x.parse.dip x.key s with
      | (none, s) => fallback 15 s
      | (some h, s) =>
        if x.parse.ttlExp then fallback 2 s
        else ({ dest := .port h.port, act := w, queue := h.queue, hop := some h }, s)
  else
    let r := plainDest x k w s
    ({ dest := r.1, act := w, queue := r.2.1, hop := none }, r.2.2)

/-- The egress queue of R121. -/
def queueOf (s : State) (t : Nat) (k : Pkt) (p : Parse) (f : Fate) : Nat :=
  let qos := s.rg .portQos [t, k.inPort % 32]
  match f.queue with
  | some q => q
  | none => match actQueue f.act with
    | some q => q
    | none => if p.tagged then fld qos (4 * p.opcp + 3) (4 * p.opcp) else fld qos 47 44

/-- The offset of a frame's outermost IP header by its Ethernet tags, and its version; none where it has none. -/
def ipAt (s : State) (t port : Nat) (b : List Byte) : Option (Nat × Nat) :=
  let p := parse { s.parseCfgOf t port with inner := false } b
  if p.ipKind = 0 then none else some (p.ipOff, p.ipKind)

/-- The offset of the first header after a template's Ethernet header and tags (the TPIDs of Table 5-1). -/
def afterTags (c : ParseCfg) (b : List Byte) : Nat → Nat → Nat
  | 0, o => o + 2
  | n + 1, o =>
    let e := bytesNat b o 2
    if isTpid c e then afterTags c b n (o + 4) else o + 2

/-- The largest frame that leaves a port, without FCS (the part's limit of R157). -/
def maxFrame : Nat := 16380

/-- The length that an encapsulation gives a frame (R125, Table 5-8). -/
def encapLength (s : State) (t port : Nat) (e : Encap) (b : List Byte) : Nat :=
  match e.typ with
  | 8 => e.tmpl.length + b.length - match ipAt s t port b with | some (x, _) => x | none => afterTags (s.parseCfgOf t port) b 4 12
  | 0 => b.length
  | _ => e.tmpl.length + b.length

/-- The egress pipeline of a port will drop a packet with ENCAP_MTU (R125). -/
def State.encapDrops (s : State) (k : Pkt) (port : Nat) : Bool :=
  let t := tileOf port
  k.encap != 0 && decide (maxFrame < encapLength s t port (tget {} (s.tl t).encap k.encap) k.bytes)

/-- Attach what the action gives the egress side (R118 step 5, R122). A host packet carries its own identifier. -/
def dress (s : State) (t : Nat) (k : Pkt) (p : Parse) (f : Fate) : Pkt :=
  { k with
    queue := queueOf s t k p f
    ts := if actTs f.act then some (if k.host then k.hostTsId else if p.ptp then p.ptpSeq else (MTime.of16 k.rx16).ns % 65536) else k.ts
    encap := match f.hop with
      | some h => if h.encap = 0 then actEncap f.act else h.encap
      | none => actEncap f.act
    route := f.hop.map fun h => (h.dmac, h.smac)
    flow := if k.host then k.flow else actFlow f.act }

/-- Learn from a packet that the pipeline did not drop (R118, R137): one that recirculates in its second pass. A host packet is not
learned from (R320). -/
def learnFrom (t : Nat) (k : Pkt) (p : Parse) (s : State) : State :=
  if k.host then s
  else
    let vid := if p.tagged && p.ovid != 0 then p.ovid else s.rgf .l2PortCfg [t, k.inPort % 32] 11 0
    sourceLookup t vid (bytesNat k.bytes 6 6) k.inPort s

/-- Carry out a fate (R118 to R120, R170): the packet goes where the pipeline sends it, with its mirror copy. A packet that its egress
pipeline will drop with ENCAP_MTU in every copy is not learned from (R118). -/
def carryOut (t : Nat) (k : Pkt) (p : Parse) (f : Fate) (mir : Option (Nat × Nat × Nat)) (fcs : Bool) (s : State) : State :=
  let k' := dress s t k p f
  let alone := fun (s : State) => if mir.isSome then storePkt t k' [] false mir fcs s else s
  match f.dest with
  | .drop code => alone (pipeDrop t code s)
  | .port x => storePkt t k' [x] false mir fcs (if s.encapDrops k' x then s else learnFrom t k p s)
  | .flood m =>
    let ports := (bitsOf 512 m).filter fun x => x != k.inPort && s.linkUp x
    storePkt t k' ports true mir fcs (if !ports.isEmpty && ports.all (s.encapDrops k') then s else learnFrom t k p s)
  | .host qp cpu =>
    let s := learnFrom t k p s
    alone (if fcs then toHost t { k' with eport := qp, cpu := cpu } s else s)
  | .service q op cpu =>
    let s := learnFrom t k p s
    alone (if fcs then toService q op cpu k' s else s)
  | .feed =>
    let s := learnFrom t k p s
    alone (if fcs then toFeed t { k' with queue := 0 } s else s)
  | .recirc o => alone (toRecirc t o k fcs s)

/-- The selected action of a packet (R118 step 1): the word, the drop code of its DROP, the METADATA of a second pass; or the
code under which an uncorrectable rule drops it. -/
def selectAction (t : Nat) (k : Pkt) (p : Parse) (key : Nat) (s : State) : (Except Nat (W × Nat × Nat)) × State :=
  let j := k.inPort % 32
  if p.fail ≠ 0 then
    let s := (s.bump .portParseCnt [t, j] 63 32).setRg .portParseLast [t, j] (BitVec.ofNat 64 (min 255 p.off * 256 + p.fail))
    (.ok (s.rg .portDefaultParsefail [t, j], 1, 0xFFFF), s)
  else
    let noMatch := fun (s : State) =>
      (Except.ok (ε := Nat) (s.rg .portDefaultNomatch [t, j], 2, 0xFFFF), s.bump .portParseCnt [t, j] 31 0)
    let fmt := keyFormat (s.rg .portKeySel [t, j]) p.cls k.second
    if fmt = 7 then noMatch s
    else match (s.tl t).lookup fmt key with
      | none => noMatch s
      | some (i, ws) =>
        let r := memReadN 11 t 0 (8 * i) 1 8 s
        if !r.1 then (.error 10, raiseInt 11 .pipeIntStatus [t] 0 r.2)
        else
          let s := r.2.modTl t fun tl => { tl with hits := tset 0 tl.hits i ((tget 0 tl.hits i + 1) % 2 ^ 64) }
          (.ok (ws.getD 0 0, 3, i), s)

/-- The policer of an action (R118 step 3): a drop code, or whether the packet leaves marked yellow. -/
def police (t : Nat) (k : Pkt) (p : Parse) (w : W) (s : State) : (Except Nat Bool) × State :=
  match actPolice w with
  | none => (.ok false, s)
  | some i =>
    let r := memReadN 11 t 1 (4 * i) 1 4 s
    if !r.1 then (.error 11, raiseInt 11 .pipeIntStatus [t] 1 r.2)
    else
      let s := r.2
      let pol := tget {} (s.tl t).policers i
      let n := ((k.len : Int) + pol.lenAdj).toNat
      let m := pol.meter s.tick n (if pol.aware = 1 ∧ p.dei then 1 else 0)
      let s := (memWriteN 11 t 1 (4 * i) 4 s).modTl t fun tl => { tl with policers := tset {} tl.policers i m.2 }
      if m.1 = 2 then (.error 4, s) else if m.1 = 1 ∧ pol.yellow = 2 then (.error 5, s) else (.ok (m.1 == 1 && pol.yellow == 1), s)

/-- The ingress pipeline's work on a packet (R118). -/
def pipeline (t : Nat) (k : Pkt) (fcs : Bool) (s : State) : State :=
  let p := parse (s.parseCfgOf t k.inPort) k.bytes
  let met := if k.second then k.met else s.rgf .portQos [t, k.inPort % 32] 63 48
  let fmt := keyFormat (s.rg .portKeySel [t, k.inPort % 32]) p.cls k.second
  let key := p.key fmt k.inPort met k.second k.macsec
  let k : Pkt := { k with
    flags := p.flags k.second k.macsec, ctl := p.cls == 4, hash0 := s.pktHash t 0 key }
  match selectAction t k p key s with
  | (.error code, s) => pipeDrop t code s
  | (.ok (w, dropCode, next), s) =>
    let k : Pkt := if k.second then k else { k with met := next }
    let m := mirrorCopy t k (actMirror w) fcs s
    match police t k p w m.2 with
    | (.error code, s) =>
      let s := pipeDrop t code s
      if m.1.isSome then storePkt t k [] false m.1 fcs s else s
    | (.ok yellow, s) =>
      let f := fateOf { tile := t, parse := p, key := key, dropCode := dropCode } { k with yellow := yellow } w s
      let dropped := match f.1.dest with | .drop _ => true | _ => false
      let r := if k.second || dropped then ({ k with yellow := yellow }, f.2) else measure t p { k with yellow := yellow } f.2
      carryOut t r.1 p f.1 m.1 fcs r.2

/-- Where a Dravua message starts in a frame. -/
def Parse.msgOff (p : Parse) : Nat := p.off - 6

/-- What the pipeline does with a command frame in place of classification (R291): none for other frames, `some none` to
drop and count it, else the source that the frame's command has. -/
def mgmtFrame (s : State) (port : Nat) (p : Parse) (macsec : Bool) : Option (Option Source) :=
  if p.fail ≠ 0 ∨ !p.dravua ∨ p.dravuaType < 0x30 ∨ 0x32 < p.dravuaType then none
  else
    let cfg := s.rg .mgmtPortCfg
    if p.dravuaType = 0x30 ∧ port = fld cfg 8 0 ∧ bitAt cfg 15 ∧ p.dmac = s.rgf .mgmtMac [] 47 0 ∧ macsec then some (some .inband)
    else if p.dravuaType ≤ 0x31 ∧ p.dmac = dravuaMac ∧ s.linkUp port ∧ (s.prt port).ver ≠ 0 ∧ bitAt cfg 16
        ∧ (macsec ∨ !bitAt cfg 17) then some (some (.dravua p.dravuaSrc))
    else some none

/-- The command that a frame of Table 13-6 carries at offset `o`. -/
def cmdOfFrame (src : Source) (clock o port : Nat) (b : List Byte) : Cmd :=
  let w := fun (k : Nat) => BitVec.ofNat 64 (bytesNat b (o + 8 + 8 * k) 8)
  let w0 : W := w 0
  { src := src, clock := clock, w0 := w0, w1 := w 1, params := (List.range (min (fld w0 15 0 / 8) 1024)).map fun k => w (k + 2)
    ret := { port := port, smac := bytesNat b 6 6 } }

/-- The packet that a port received (R20, R21): its ingress timestamp is the message timestamp point less the receive
latency and the static asymmetry. -/
def receivedPkt (s : State) (port : Nat) (f : RxFrame) : Pkt :=
  { bytes := f.bytes, inPort := port, tile := tileOf port
    rx16 := subTick16 s f.sub - s.dRx port - sgn 40 (s.rgf .portTsCfg [port] 39 0)
    rxTick := s.tick, tsEpoch := s.mast.tsEpoch, hold := s.holdoverMark, uncal := s.uncal port
    macsec := f.macsecOk && (s.prt port).macsec }

/-- May a frame enter on a port: LINK_UP, awake in receive, not held for the epoch agreement of R93, verified where the port
runs MACsec (R379)? -/
def State.canReceive (s : State) (port : Nat) (f : RxFrame) : Bool :=
  s.linkUp port && s.rxAwake port && !s.epochHeld port && (!(s.prt port).isCpri || (s.prt port).fastCm)
    && (!(s.prt port).macsec || (f.macsecOk && !s.sec.keysBlocked && s.sec.rxSa.any fun x => x.1 / 32 == port))

/-- Is the key class of a frame CONTROL: a PTP or Dravua header is read on its way to a port? -/
def State.isControl (s : State) (t port : Nat) (b : List Byte) : Bool := (parse { s.parseCfgOf t port with inner := false } b).cls == 4

/-- A packet that stands at the injection input takes its telemetry record there (R271). -/
def atInjection (t : Nat) (k : Pkt) (s : State) : Pkt :=
  { k with
    ctl := s.isControl t k.eport k.bytes
    tile := t, rx16 := s.now16, rxTick := s.tick, tsEpoch := s.mast.tsEpoch, hold := s.holdoverMark, uncal := false }

/-- A frame of the management controller on its way to a port of Tile t enters the buffer, as R211 states for Skein sums. Its queue is
a free value: the spec names none (log 76). -/
def mgmtAdmit (t : Nat) (s : State) : State :=
  match s.out.mgmtTx.find? fun x => x.1 / 32 == t with
  | none => s
  | some x =>
    let f := takeFree { s with out := { s.out with mgmtTx := s.out.mgmtTx.erase x } }
    let k : Pkt := { bytes := x.2, eport := x.1, queue := f.1.toNat % 16, mgmt := true }
    storePkt t (atInjection t k s) [x.1] false none true f.2

/-- The admission of a packet from a Tile's injection input (R7): a Hook-engine packet goes to its port with no lookup
(R211), a recirculated one takes its second pass; a frame of the management controller comes last (log 76). -/
def injectionAdmit (t : Nat) (s : State) : State :=
  let tl := s.tl t
  if !s.awake (domTile t) then work (domTile t) s
  else match tl.inject with
  | (_, k) :: rest => storePkt t (atInjection t { k with injected := true } s) [k.eport] false none true (s.setTl t { tl with inject := rest })
  | [] => match tl.recirc with
    | (_, k) :: rest => pipeline t k true (s.setTl t { tl with recirc := rest })
    | [] => mgmtAdmit t s

def execInjectionAdmit (tile : Nat) (s : State) : Host.Outcome State Fault Refusal := keep s (injectionAdmit (tile % 16) s)

end Sys2Proof.Machine
end

