-- ==== Sys2Proof/Machine/Skein.lean ====
section
/-! DEFINITION. Skeins (chapter 9): descriptors and their commands, the footprint in a memory quarter, occurrences, binding of
Strands, weights. -/

namespace Sys2Proof.Machine

/-! ### Descriptor fields (Tables 9-1 to 9-5) -/

def Skein.valid (k : Skein) : Bool := bitAt k.w0 63
def Skein.tlNo (k : Skein) : Nat := fld k.w0 62 60
def Skein.cluster (k : Skein) : Nat := fld k.w0 59 58
def Skein.home (k : Skein) : Nat := fld k.w0 57 54
def Skein.startPrb (k : Skein) : Nat := fld k.w0 53 44
def Skein.numPrb (k : Skein) : Nat := fld k.w0 43 35
def Skein.prbGroup (k : Skein) : Nat := fld k.w0 34 31
def Skein.numStrands (k : Skein) : Nat := fld k.w0 30 22
def Skein.strandBase (k : Skein) : Nat := fld k.w0 18 0

/-- Fields of word 1, of the descriptor or of an instance's copy. -/
def symMask (w1 : W) : Nat := fld w1 63 50
def ulOnly (w1 : W) : Bool := bitAt w1 49
def closeSrc (w1 : W) : Nat := fld w1 48 48
def closeGroup (w1 : W) : Nat := fld w1 47 36
def closeLimit (w1 : W) : Nat := fld w1 35 16
def latePolicy (w1 : W) : Nat := fld w1 15 14
def emitEmpty (w1 : W) : Bool := bitAt w1 13
def orderTrace (w1 : W) : Bool := bitAt w1 12
def returnGap (w1 : W) : Nat := fld w1 11 4

/-- Fields of word 2. -/
def outPort (w2 : W) : Nat := fld w2 63 55
def outQueue (w2 : W) : Nat := fld w2 54 51
def outHdr (w2 : W) : Nat := fld w2 50 39
def streamId (w2 : W) : Nat := fld w2 38 23
def outComp (w2 : W) : Nat := fld w2 22 15
def outSplit (w2 : W) : Nat := fld w2 14 6
def outFlow (w2 : W) : Nat := fld w2 5 3

/-- Fields of a Strand entry. -/
def stValid (e : W) : Bool := bitAt e 63
def stPartial (e : W) : Bool := bitAt e 62
def stPort (e : W) : Nat := fld e 61 53
def stId (e : W) : Nat := fld e 52 37
def stDev (e : W) : Nat := fld e 36 25
def stIndex (e : W) : Nat := fld e 24 17
def stComp (e : W) : Nat := fld e 16 9
def stHdrComp (e : W) : Bool := bitAt e 8

/-- Skein k. -/
def State.skein (s : State) (k : Nat) : Skein := tget {} s.sk.descs k

/-- Set Skein k. -/
def State.setSkein (s : State) (k : Nat) (v : Skein) : State := { s with sk := { s.sk with descs := tset {} s.sk.descs k v } }

/-- Change Skein k. -/
def State.modSkein (s : State) (k : Nat) (f : Skein → Skein) : State := s.setSkein k (f (s.skein k))

/-- Strand entry of slot n of a Skein. -/
def State.strand (s : State) (k : Skein) (n : Nat) : W := tget 0 s.sk.strands (k.strandBase + n)

/-- Count under a code of Table 9-15, in the cluster and for codes 2 to 9 in the Skein (R224). -/
def skCount (q k code : Nat) (s : State) : State :=
  let s := s.bump .skDropCnt [q, code] 47 0
  if 2 ≤ code ∧ code ≤ 9 then s.modSkein k fun x => { x with counts := tmod 0 x.counts code fun n => satAdd 48 n 1 } else s

/-! ### The footprint (R198) and the quarter -/

/-- Weight groups of a Skein. -/
def Skein.groups (k : Skein) : Nat := (k.numPrb + k.prbGroup) / (k.prbGroup + 1)

/-- FOOTPRINT = 24 N + 2 ceil(N / 8) + 72 + S (1 + G). -/
def footprintOf (n st g : Nat) : Nat := 24 * n + 2 * ((n + 7) / 8) + 72 + st * (1 + g)

/-- Key of a quarter word. -/
def qKey (q a : Nat) : Nat := 4194304 * q + a % 4194304

/-- A quarter word. -/
def State.qword (s : State) (q a : Nat) : W72 := tget 0 s.sk.quarter (qKey q a)

/-- Store a quarter word: a functional write (R409). -/
def qwrite (q a : Nat) (v : W72) (s : State) : State :=
  let s := memWrite 9 q 0 a s
  { s with sk := { s.sk with quarter := tset 0 s.sk.quarter (qKey q a) v } }

/-- Word addresses in the footprint: accumulators of an instance, its exponent bytes, weights of the two pages. -/
def Skein.accAddr (k : Skein) (ix prb : Nat) : Nat := k.qbase + 12 * k.numPrb * ix + 12 * prb
def Skein.expAddr (k : Skein) (ix prb : Nat) : Nat := k.qbase + 24 * k.numPrb + (k.numPrb + 7) / 8 * ix + prb / 8
def Skein.weightAddr (k : Skein) (slot g : Nat) : Nat :=
  k.qbase + 24 * k.numPrb + 2 * ((k.numPrb + 7) / 8) + 72 + k.numStrands + slot * k.groups + g

/-- The weight field of a page in a weight word: page 0 in [71:36], page 1 in [35:0]. -/
def pageField (page : Nat) (w : W72) : Nat := if page = 0 then fld72 w 71 36 else fld72 w 35 0

/-- A weight word with a page's field replaced. -/
def setPageField (page v : Nat) (w : W72) : W72 :=
  if page = 0 then BitVec.ofNat 72 (v % 2 ^ 36 * 2 ^ 36 + fld72 w 35 0) else BitVec.ofNat 72 (fld72 w 71 36 * 2 ^ 36 + v % 2 ^ 36)

/-- Set quarter words to 0 without taking a flip-mask (R235, R410). -/
def qclear (q lo n : Nat) (s : State) : State :=
  let mine := fun (a : Nat) => qKey q lo ≤ a && a < qKey q lo + n
  let ek := eccKey 9 q 0 lo
  { s with
    sk := { s.sk with quarter := s.sk.quarter.filter fun x => !mine x.1 }
    flt := { s.flt with ecc := s.flt.ecc.filter fun x => !(ek ≤ x.1 && x.1 < ek + n) } }

/-- The used regions of a quarter: base and length, rising. -/
def State.regions (s : State) (q : Nat) : List (Nat × Nat) :=
  let own := s.sk.descs.filterMap fun x => if x.2.valid ∧ x.2.cluster = q then some (x.2.qbase, x.2.footprint) else none
  let held := s.sk.descs.filterMap fun x => match x.2.move with
    | some (c, b) => if c = q then some (b, x.2.footprint) else none
    | none => none
  (own ++ held).mergeSort fun a b => a.1 ≤ b.1

/-- The free regions between used ones: base and length. -/
def freeRegions : Nat → List (Nat × Nat) → List (Nat × Nat)
  | at_, [] => if at_ < 3145728 then [(at_, 3145728 - at_)] else []
  | at_, (b, n) :: r => (if at_ < b then [(at_, b - at_)] else []) ++ freeRegions (max at_ (b + n)) r

/-- The base of the lowest free region that holds n words. -/
def State.fit (s : State) (q n : Nat) : Option Nat := ((freeRegions 0 (s.regions q)).find? fun r => n ≤ r.2).map (·.1)

/-- The largest free region of a quarter. -/
def State.largestFree (s : State) (q : Nat) : Nat := (freeRegions 0 (s.regions q)).foldl (fun m r => max m r.2) 0

/-- Free words of a quarter (SK_STATUS). -/
def State.freeWords (s : State) (q : Nat) : Nat := 3145728 - (s.regions q).foldl (fun n r => n + r.2) 0

/-! ### Engines in service and homes (R199, R219) -/

/-- ENGINES_OK of a cluster. -/
def State.enginesOk (s : State) (q : Nat) : Nat := maskOf 16 fun e => !(tget {} (s.cluster q).engines e).failed

/-- Skeins homed on an engine. -/
def State.homed (s : State) (q e : Nat) : Nat :=
  (s.sk.descs.filter fun x => x.2.valid && x.2.cluster == q && x.2.home == e).length

/-- The engine in service with the fewest homed Skeins, the lowest number among equals. -/
def State.newHome (s : State) (q : Nat) : Nat :=
  ((bitsOf 16 (s.enginesOk q)).foldl (fun (best : Option Nat) e => match best with
    | none => some e
    | some b => if s.homed q e < s.homed q b then some e else some b) none).getD 0

/-! ### Binding (R200) -/

/-- The key of a Strand entry: kind, port, device (PARTIAL only), identifier. -/
def strandKey (e : W) : Nat × Nat × Nat × Nat := if stPartial e then (1, stPort e, stDev e, stId e) else (0, stPort e, 0, stId e)

/-- The pairs (Skein, Strand slot) of one Skein with their keys. -/
def State.pairsOf (s : State) (k : Nat) : List ((Nat × Nat × Nat × Nat) × Nat × Nat) :=
  let x := s.skein k
  (List.range x.numStrands).filterMap fun n => let e := s.strand x n; if stValid e then some (strandKey e, k, n) else none

/-- The whole binding index, by Skein index. -/
def State.bindings (s : State) : List ((Nat × Nat × Nat × Nat) × Nat × Nat) :=
  s.sk.descs.flatMap fun x => if x.2.valid && !x.2.unbound then s.pairsOf x.1 else []

/-- The pairs bound to a key. -/
def State.bound (s : State) (key : Nat × Nat × Nat × Nat) : List (Nat × Nat) :=
  s.bindings.filterMap fun x => if x.1 = key then some x.2 else none

/-- The distinct keys of the index. -/
def State.bindKeys (s : State) : List (Nat × Nat × Nat × Nat) := (s.bindings.map (·.1)).eraseDups

/-! ### Commands (R198, R199, Table 13-12) -/

/-- The first bad parameter word of a descriptor (Tables 9-1 to 9-3, R198, R226): words 1 to 3 of the block. -/
def descBad (d : Timeline) (x : Skein) : Option Nat :=
  firstBad [
    (1, x.valid && 1 ≤ x.numPrb && x.numPrb ≤ 273 && x.startPrb + x.numPrb ≤ 1024 && 1 ≤ x.numStrands && x.numStrands ≤ 256
      && x.strandBase + x.numStrands ≤ 524288),
    (2, 1 ≤ closeLimit x.w1 && latePolicy x.w1 ≤ 1
      && !(d.configured && d.cpExt && symMask x.w1 != 0 && symMask x.w1 % 4096 == 0)),
    (3, compOut (outComp x.w2) && outSplit x.w2 ≤ 273)]

/-- The Skein that a create's block describes. -/
def skeinOf (c : Cmd) : Skein :=
  { w0 := ins (c.p 1) 57 54 0, w1 := c.p 2, w2 := c.p 3, epoch := fld (c.p 4) 63 48 }

/-- A Strand entry with a field outside the range of Table 9-5 (R198, R226). -/
def strandBad (e : W) : Bool := !compIn (stComp e) || (!stPartial e && stDev e != 0)

/-- The first slot whose INDEX an earlier RAW Strand carries. -/
def indexClash (es : List W) : Option Nat :=
  (List.range es.length).find? fun i =>
    let e := es.getD i 0
    stValid e && !stPartial e && (es.take i).any fun f => stValid f && !stPartial f && stIndex f == stIndex e

/-- The first slot whose key the index cannot hold (R200). -/
def bindClash (s : State) (es : List W) : Option Nat :=
  let keys := s.bindings.map (·.1)
  let nkeys := s.bindKeys.length
  (List.range es.length).find? fun i =>
    let e := es.getD i 0
    let mine := (es.take i).filter stValid |>.map strandKey
    let all := keys ++ mine
    let fresh := (mine.filter fun k => !keys.contains k).eraseDups.length
    stValid e && (16 ≤ (all.filter fun k => k == strandKey e).length || 524288 ≤ all.length
      || (!all.contains (strandKey e) && 131072 ≤ nkeys + fresh))

/-- Put a Skein into its quarter: base, footprint, HOME by the other Skeins' homes; accumulators empty, weight pages empty (R199, R205). -/
def placeSkein (k q base : Nat) (s : State) : State :=
  let x := s.skein k
  let s := qclear q base x.footprint s
  let w0 := ins (ins x.w0 59 58 q) 57 54 ((s.setSkein k {}).newHome q)
  let d := s.timeline x.tlNo
  memWriteN 9 4 1 (4 * k) 4 (s.setSkein k { x with
    w0 := w0, qbase := base, page0 := none, page1 := none, strandSt := [], move := none, destroying := false, closed := []
    rehomeAfter := none
    floor16 := none, since := d.symAt s.now16 + 1 })

/-- SKEIN_CREATE (R197, R198). -/
def skeinCreateBody : CmdBody := fun c s =>
  let k := fld (c.p 0) 15 0
  let x := skeinOf c
  let d := s.timeline x.tlNo
  let es := (c.params.drop 5).take x.numStrands
  if (s.skein k).valid then .refuse .skeinInvalid 0
  else match descBad d x with
    | some i => .refuse .skeinInvalid i
    | none => match (List.range es.length).find? fun i => strandBad (es.getD i 0) with
      | some i => .refuse .skeinInvalid (5 + i)
      | none =>
        let n := footprintOf x.numPrb x.numStrands x.groups
        match s.fit x.cluster n with
        | none => .refuse .skeinNoSpace (s.largestFree x.cluster / 64)
        | some base => match indexClash es with
          | some i => .refuse .indexConflict i
          | none => match bindClash s es with
            | some i => .refuse .bindFull i
            | none =>
              if !d.configured then .refuse .busyTimeline x.tlNo
              else
                let s := s.setSkein k { x with footprint := n }
                let strands := (List.range es.length).foldl (fun (t : Tbl W) i => tset 0 t (x.strandBase + i) (es.getD i 0)) s.sk.strands
                let s := memWriteN 9 4 2 x.strandBase es.length { s with sk := { s.sk with strands := strands } }
                let s := placeSkein k x.cluster base s
                .done [(s.skein k).w0, mk 63 48 x.epoch ||| mk 47 26 base ||| mk 25 9 n] s

/-- The cluster of the Skein that a command names. -/
def skeinDomain (c : Cmd) (s : State) : Option Nat :=
  let x := s.skein (fld (c.p 0) 15 0)
  if x.valid then some (domCluster x.cluster) else none

def createDomain (c : Cmd) (s : State) : Option Nat := some (s.skeinHome (fld (c.p 1) 59 58))

/-- SKEIN_MODIFY (R199): words 1, 2 and EPOCH, for instances that open later. -/
def skeinModifyBody : CmdBody := fun c s =>
  let k := fld (c.p 0) 15 0
  let x := s.skein k
  let y : Skein := { x with w1 := c.p 1, w2 := c.p 2, epoch := fld (c.p 3) 63 48 }
  if !x.valid || x.destroying then .refuse .skeinInvalid 0
  else match descBad (s.timeline x.tlNo) y with
    | some i => .refuse .skeinInvalid (i - 1)
    | none => .done [] (memWriteN 9 4 1 (4 * k + 1) 3 (s.setSkein k y))

/-- Free a Skein: footprint and binding keys (R199). STRAND waits on it end with TARGET_GONE (R257): they find it gone. -/
def freeSkein (k : Nat) (s : State) : State :=
  let x := s.skein k
  let s := qclear x.cluster x.qbase x.footprint s
  let strands := s.sk.strands.filter fun e => !(x.strandBase ≤ e.1 && e.1 < x.strandBase + x.numStrands)
  memWriteN 9 4 1 (4 * k) 4 ({ s with sk := { s.sk with strands := strands } }.setSkein k {})

/-- What waits for a Skein's last instance is done: its destruction, or its move (R199). -/
def settleSkein (k : Nat) (s : State) : State :=
  let x := s.skein k
  if !x.insts.isEmpty then s
  else match x.move with
    | some (q, base) =>
      let s := qclear x.cluster x.qbase x.footprint s
      let s := placeSkein k q base s
      closeCmd 0x0703 k .ok 0 [(s.skein k).w0] s
    | none => if x.destroying then freeSkein k s else s

/-- SKEIN_DESTROY (R199). -/
def skeinDestroyBody : CmdBody := fun c s =>
  let k := fld (c.p 0) 15 0
  let x := s.skein k
  if !x.valid || x.destroying then .refuse .skeinInvalid 0
  else .done [] (settleSkein k (s.setSkein k { x with destroying := true }))

/-- SKEIN_MOVE (R199): a destroy, then a create in the other cluster that keeps index, Strands and EPOCH. The reply waits for
the last open instance. -/
def skeinMoveBody : CmdBody := fun c s =>
  let k := fld (c.p 0) 15 0
  let q := fld (c.p 0) 17 16
  let x := s.skein k
  if !x.valid || x.destroying then .refuse .skeinInvalid 0
  else match s.fit q x.footprint with
    | none => .refuse .skeinNoSpace (s.largestFree q / 64)
    | some base =>
      let s := s.setSkein k { x with destroying := true, move := some (q, base) }
      if x.insts.isEmpty then
        let s := settleSkein k s
        .done [(s.skein k).w0] s
      else .later (openCmd 0x0703 k c s)

def moveDomain (c : Cmd) (s : State) : Option Nat := some (s.skeinHome (fld (c.p 0) 17 16))

/-- SKEIN_READ (Table 13-12, R224, R241). -/
def skeinReadBody : CmdBody := fun c s =>
  let k := fld (c.p 0) 15 0
  let x := s.skein k
  mgmtReads 9 4 1 (4 * k) 4 s fun s =>
    let w3 := if x.valid then mk 63 48 x.epoch ||| mk 47 26 x.qbase ||| mk 25 9 x.footprint else 0
    let res := [x.w0, x.w1, x.w2, w3, BitVec.ofNat 64 x.seq]
      ++ ((List.range 8).map fun i => BitVec.ofNat 64 (tget 0 x.counts (i + 2)))
      ++ [BitVec.ofNat 64 x.weightNone, BitVec.ofNat 64 x.inexact, BitVec.ofNat 64 x.sat]
    .done res (when (bitAt (c.p 0) 63)
      (fun s => s.setSkein k { x with counts := [], weightNone := 0, inexact := 0, sat := 0 }) s)

/-! ### Occurrences (R195, R196) -/

/-- Is symbol n of a timeline an occurrence under a word 1 (R195)? -/
def isOcc (d : Timeline) (w1 : W) (n : Int) : Bool :=
  let p := d.posOf n
  d.mode == 1 && (symMask w1).testBit p.symbol && (!ulOnly w1 || d.phase p == 1)

/-- The first occurrence at or after symbol n, within `fuel` symbols. -/
def nextOcc (d : Timeline) (w1 : W) : Nat → Int → Option Int
  | 0, _ => none
  | f + 1, n => if isOcc d w1 n then some n else nextOcc d w1 f (n + 1)

/-- Symbols of two frames, after which the pattern repeats. -/
def occFuel (d : Timeline) : Nat := 20 * d.symsPerSub + 1

/-- The first occurrence at or after symbol n. -/
def occFrom (d : Timeline) (w1 : W) (n : Int) : Option Int := nextOcc d w1 (occFuel d) n

/-- The symbol that frame (modulo 256), subframe, slot and symbol name at an instant (R196): the nearest frame, the later of
two equally near; none when the position does not exist in the numerology. -/
def namedSymbol (d : Timeline) (now16 : Int) (frame sub slot sym : Nat) : Option Int :=
  if d.slotsPerSub ≤ slot || d.symsPerSlot ≤ sym || 10 ≤ sub then none
  else
    let f0 := d.frameAt now16
    let lo := f0 - (f0 - frame) % 256
    let f := if (d.frame16 (lo + 256) - now16).natAbs ≤ (d.frame16 lo - now16).natAbs then lo + 256 else lo
    some (d.symOf f (sub * d.slotsPerSub + slot) sym)

/-- Is an occurrence closed (R196, R221)? -/
def Skein.isClosed (x : Skein) (d : Timeline) (n : Int) : Bool :=
  (x.closed.any fun c => n ≤ c.occ) || (match x.floor16 with | some (f, _) => d.bound16 n < f | none => false)

/-- A new description of timeline t takes effect (R56, R195): occurrences of its Skeins come from it from the symbol that runs on; on a
new grid the record of closed occurrences starts anew, and earlier symbols are late. -/
def skeinTimeline (t : Nat) (old new : Timeline) (regrid : Bool) (s : State) : State :=
  if !regrid && old.mode == new.mode then s
  else
    let d := s.timeline t
    s.sk.descs.foldl (fun s x =>
      if !(s.skein x.1).valid || (s.skein x.1).tlNo != t then s
      else s.modSkein x.1 fun y =>
        let y : Skein := { y with since := d.symAt s.now16 }
        if regrid then { y with closed := [], floor16 := some (d.bound16 (d.symAt s.now16), s.tick) } else y) s

/-- The instance of an occurrence. -/
def Skein.instOf (x : Skein) (n : Int) : Option Instance := x.insts.find? fun i => i.occ == n

/-- Replace an instance, known by its occurrence. -/
def Skein.setInst (x : Skein) (i : Instance) : Skein :=
  { x with insts := x.insts.map fun j => if j.occ = i.occ then i else j }

/-- Change an instance of a Skein. -/
def State.modInst (s : State) (k : Nat) (n : Int) (f : Instance → Instance) : State :=
  s.modSkein k fun x => match x.instOf n with
    | some i => x.setInst (f i)
    | none => x

/-! ### Weights (R205, R206) -/

/-- The page that an instance in global slot g binds (R206). -/
def Skein.pageFor (x : Skein) (g : Int) : Option Nat :=
  let fits := fun (t : Option Int) => t.isSome && decide (t.getD 0 ≤ g)
  if fits x.page0 && (!fits x.page1 || x.page1.getD 0 ≤ x.page0.getD 0) then some 0
  else if fits x.page1 then some 1 else none

/-- Write one weight of a page. -/
def putWeight (k page slot g field : Nat) (s : State) : State :=
  let x := s.skein k
  let a := x.weightAddr slot g
  qwrite x.cluster a (setPageField page field (s.qword x.cluster a)) s

/-- All (Strand slot, group) pairs of a Skein. -/
def Skein.weightCells (x : Skein) : List (Nat × Nat) :=
  (List.range x.numStrands).flatMap fun n => (List.range x.groups).map fun g => (n, g)

/-- Prepare a page for a new tag: a copy of the other page, or unity weights when that is empty (R205). -/
def claimPage (k page : Nat) (m : Int) (s : State) : State :=
  let x := s.skein k
  let other := if page = 0 then x.page1 else x.page0
  let s := x.weightCells.foldl (fun s (n, g) =>
    let f := if other.isSome then pageField (1 - page) (s.qword x.cluster (x.weightAddr n g)) else unity
    putWeight k page n g f s) s
  s.modSkein k fun x => if page = 0 then { x with page0 := some m } else { x with page1 := some m }

/-- The page that a message for slot m writes (R205): the page with that tag, else a page to claim, none when both are busy. -/
def Skein.pageToWrite (x : Skein) (m : Int) : Option (Nat × Bool) :=
  let bound := fun (p : Nat) => x.insts.any fun i => i.page == some p
  if x.page0 = some m then some (0, false) else if x.page1 = some m then some (1, false)
  else if x.page0.isNone then some (0, true) else if x.page1.isNone then some (1, true)
  else
    let older := if x.page0.getD 0 ≤ x.page1.getD 0 then 0 else 1
    if bound older then none else some (older, true)

/-- Handle a weight message whose bytes start at `o` (Table 9-6, R205). -/
def weightMessage (q o : Nat) (b : List Byte) (s : State) : State :=
  let k := bytesNat b (o + 6) 2
  let x := s.skein k
  let d := s.timeline x.tlNo
  let first := byteAt b (o + 13)
  let n := byteAt b (o + 14) + 1
  let fg := bytesNat b (o + 16) 2
  let ng := bytesNat b (o + 18) 2
  let refuse := fun (code : Nat) => raiseInt 9 .skIntStatus [q] 5 (skCount q k code s)
  if bytesNat b (o + 8) 2 ≠ x.epoch then refuse 14
  else match namedSymbol d s.now16 (byteAt b (o + 10)) (byteAt b (o + 11) % 16) (byteAt b (o + 12) % 64) 0 with
    | none => refuse 17
    | some sym =>
      if x.numStrands < first + n || ng = 0 || x.groups < fg + ng || b.length < o + 20 + 5 * n * ng then refuse 17
      else
        let m := sym / d.symsPerSlot
        if x.insts.any fun i => i.ix < 2 && !i.closing && m ≤ i.occ / d.symsPerSlot then refuse 15
        else match x.pageToWrite m with
          | none => refuse 16
          | some (page, claim) =>
            let s := when claim (claimPage k page m) s
            (List.range (n * ng)).foldl (fun s i =>
              putWeight k page (first + i / ng) (fg + i % ng) (bytesNat b (o + 20 + 5 * i) 5 % 2 ^ 36) s) s

end Sys2Proof.Machine
end

