-- ==== Sys2Proof/Machine/Combine.lean ====
section
/-! DEFINITION. The work of the Skeins (chapter 9): the feed crossbar, the judgement of sections, the Stitch on the accumulator
memory, close ticks, the close of an instance and its output, new homes, steps, loss of a quarter. -/

namespace Sys2Proof.Machine

/-! ### Frames handed to an injection input (R211, R251) -/

/-- Hand a frame to the injection input of the Tile of a port: R7 admits it, R211 forwards it with no lookup. -/
def injectFrame (port queue flow : Nat) (ts : Option Nat) (b : List Byte) (s : State) : State :=
  let k : Pkt := { bytes := b, eport := port, queue := queue, flow := flow, ts := ts, injected := true }
  work (domTile (tileOf port)) (s.modTl (tileOf port) fun tl => { tl with inject := tl.inject ++ [(port / 8, k)] })

/-- The header of an output template (R211), with the DRAVUA_ETYPE of the output Tile. A template nobody has written holds
12 zero bytes. -/
def State.outHeader (s : State) (tmpl port : Nat) : List Byte :=
  tget (List.replicate 12 0) s.sk.templates tmpl ++ bytesBE 2 (s.rgf .dravuaEtype [tileOf port] 15 0)

/-! ### The feed crossbar (R200, R95) -/

/-- A packet of a feed link as it waits at a cluster. -/
def feedItem (kind : Nat) (k : Pkt) (now : Nat) : FeedItem :=
  let w := evTime k
  { kind := kind, bytes := k.bytes, inPort := k.inPort, w2 := w.1, w3 := w.2, rx16 := k.rx16, rxTick := k.rxTick, since := now }

/-- Put a packet at a cluster's feed input. -/
def toCluster (q kind : Nat) (k : Pkt) (s : State) : State :=
  let c := s.cluster q
  work (domCluster q) (s.setCluster q { c with feed := c.feed ++ [feedItem kind k s.tick] })

/-- The key of a steered packet (R200): RAW from its eCPRI message, PARTIAL from its Skein sum. -/
def feedKey (p : Parse) (port : Nat) (b : List Byte) : Option (Nat × Nat × Nat × Nat) :=
  if p.ecpri then some (0, port, 0, p.eaxc)
  else if p.dravua && p.dravuaType == 0x10 then some (1, port, p.dravuaSrc, bytesNat b (p.msgOff + 6) 2)
  else none

/-- The head of a Tile's feed link reaches the feed crossbar: captures and weight messages go to their cluster, a packet with
sections to each cluster that owns a Skein of its binding list, others are dropped as NO_BIND (R200, R95). -/
def feedPacket (t : Nat) (s : State) : State :=
  match (s.tl t).feed with
  | [] => s
  | k :: rest =>
    let s := s.modTl t fun tl => { tl with feed := rest }
    if k.capture then toCluster (t / 4) 2 k s
    else
      let p := parse (s.parseCfgOf t k.inPort) k.bytes
      if p.dravua && p.dravuaType == 0x11 then
        let x := s.skein (bytesNat k.bytes (p.msgOff + 6) 2)
        if x.valid then toCluster x.cluster 1 k s else s.bump .skDropCnt [0, 1] 47 0
      else match feedKey p k.inPort k.bytes with
        | none => s.bump .skDropCnt [0, 1] 47 0
        | some key =>
          let qs := ((s.bound key).map fun x => (s.skein x.1).cluster).eraseDups
          if qs.isEmpty then s.bump .skDropCnt [0, 1] 47 0 else qs.foldl (fun s q => toCluster q 0 k s) s

def execSkeinFeedPacket (tile : Nat) (s : State) : Host.Outcome State Fault Refusal := keep s (feedPacket (tile % 16) s)

/-- Is a cluster's dispatch queue full, so that it takes no sections (R254)? -/
def State.queueFull (s : State) (q : Nat) : Bool := 8192 ≤ (s.cluster q).queue.length

/-- Take the head of a cluster's feed input. -/
def dropFeed (q : Nat) (s : State) : State := let c := s.cluster q; s.setCluster q { c with feed := c.feed.drop 1 }

/-- The feed crossbar drops a packet that a full cluster made it hold for 2 µs (R254). -/
def feedStall (q : Nat) (s : State) : State :=
  match (s.cluster q).feed with
  | [] => s
  | f :: _ =>
    if s.queueFull q && f.since + 2 * usTicks ≤ s.tick then
      raiseInt 8 .hkIntStatus [q] 5 ((dropFeed q s).bump .hkCnt0 [q] 31 16)
    else s

def execFeedStallDrop (cluster : Nat) (s : State) : Host.Outcome State Fault Refusal := keep s (feedStall (cluster % 4) s)

/-! ### Sections (R201, R468) -/

/-- A section of a steered packet: whether its message passes R201's first check, its compression, position, PRB range, the
offset of its first record, and for a Skein sum its CONTRIB, INCOMPLETE and FLAGS. `whole` is false when it is cut short or its
records do not fit (R468). -/
structure Section where
  typeOk : Bool := true
  whole : Bool := true
  comp : Nat := 0
  frame : Nat := 0
  sub : Nat := 0
  slot : Nat := 0
  sym : Nat := 0
  start : Nat := 0
  nprb : Nat := 0
  off : Nat := 0
  contrib : Nat := 0
  incomplete : Nat := 0
  flags : Nat := 0
deriving DecidableEq, Repr

/-- The sections of one U-plane message from offset `o` to its end; `base` carries the message's position. -/
def sectionsFrom (b : List Byte) (hdr : Bool) (comp fin : Nat) (base : Section) : Nat → Nat → List Section
  | 0, _ => []
  | f + 1, o =>
    let hl := if hdr then 6 else 4
    if fin ≤ o then []
    else if fin < o + hl then [{ base with whole := false }]
    else
      let w := bytesNat b o 4
      let cmp := if hdr then byteAt b (o + 4) else comp
      let rl := walkBytes cmp
      let sec : Section := { base with comp := cmp, start := w / 256 % 1024, off := o + hl }
      if w % 256 = 0 then
        let left := fin - (o + hl)
        [{ sec with nprb := left / rl, whole := rl ≤ left && left % rl == 0 }]
      else
        let n := w % 256
        let nxt := o + hl + n * rl
        { sec with nprb := n, whole := decide (nxt ≤ fin) } :: sectionsFrom b hdr comp fin base f nxt

/-- The sections of every eCPRI message of a packet from offset `o` (R201). A message of another stream than the packet's key
fails the first check. -/
def messagesFrom (b : List Byte) (hdr : Bool) (comp eaxc : Nat) : Nat → Nat → List Section
  | 0, _ => []
  | f + 1, o =>
    if b.length < o + 12 then [{ typeOk := false }]
    else
      let size := bytesNat b (o + 2) 2
      let fin := min b.length (o + 4 + size)
      let w := bytesNat b (o + 10) 2
      let typeOk := byteAt b (o + 1) == 0 && byteAt b (o + 8) / 128 == 0 && bytesNat b (o + 4) 2 == eaxc
      let base : Section := { typeOk := typeOk, frame := byteAt b (o + 9), sub := w / 4096, slot := w / 64 % 64, sym := w % 64 }
      let mine := if byteAt b (o + 1) = 0 then sectionsFrom b hdr comp fin base (fin / 4 + 1) (o + 12) else [base]
      let more := byteAt b o % 2 == 1
      mine ++ (if more then messagesFrom b hdr comp eaxc f (o + (4 + size + 3) / 4 * 4) else [])

/-- A 256-bit map of bytes: bit b in byte b / 8, at bit b mod 8 (Table 9-7). -/
def bitmapAt (b : List Byte) (o : Nat) : Nat := (List.range 32).foldl (fun n i => n + byteAt b (o + i) * 256 ^ i) 0

/-- The bytes of a 256-bit map. -/
def bitmapBytes (n : Nat) : List Byte := (List.range 32).map fun i => BitVec.ofNat 8 (n / 256 ^ i)

/-- The section of a Skein sum whose bytes start at `o` (Table 9-7). -/
def sumSection (b : List Byte) (o : Nat) : Section :=
  let pos := bytesNat b (o + 13) 2
  let off := o + 8 * byteAt b (o + 1)
  let comp := byteAt b (o + 15)
  let n := bytesNat b (o + 18) 2
  let flags := byteAt b (o + 2)
  { typeOk := byteAt b o == 0x10 && (byteAt b (o + 1) == 8 || byteAt b (o + 1) == 12)
    whole := decide (o + 64 ≤ b.length) && decide (off + n * recBytes comp ≤ b.length)
    comp := comp, frame := byteAt b (o + 12)
    sub := pos / 4096, slot := pos / 64 % 64, sym := pos / 4 % 16, start := bytesNat b (o + 16) 2, nprb := n, off := off
    contrib := bitmapAt b (o + 24), incomplete := if flags.testBit 2 then bitmapAt b (o + 64) else 0, flags := flags }

/-- The sections of a packet as a Strand reads them. -/
def sectionsOf (p : Parse) (e : W) (b : List Byte) : List Section :=
  if stPartial e then [sumSection b p.msgOff] else messagesFrom b (stHdrComp e) (stComp e) (stId e) (b.length / 4 + 1) p.ecpriOff

/-! ### Judgement (R196, R201 to R203, R206, R216, R217) -/

/-- Open an instance (R196, R206): copies of words 1 and 2 and EPOCH, the weight page. -/
def openInstance (k : Nat) (n : Int) (s : State) : State :=
  let x := s.skein k
  let d := s.timeline x.tlNo
  let page := x.pageFor (n / d.symsPerSlot)
  let ix := if x.insts.any fun i => i.ix == 0 then 1 else 0
  let i : Instance := { ix := ix, occ := n, w1 := x.w1, w2 := x.w2, epoch := x.epoch, page := page }
  s.setSkein k { x with
    insts := x.insts ++ [i], weightNone := if page.isNone then satAdd 48 x.weightNone 1 else x.weightNone }

/-- The state of a Strand. -/
def Skein.strandState (x : Skein) (slot : Nat) : StrandState := tget {} x.strandSt slot

/-- Set the state of a Strand. -/
def setStrandState (k slot : Nat) (v : StrandState) (s : State) : State :=
  s.modSkein k fun x => { x with strandSt := tset {} x.strandSt slot v }

/-- The close tick of a late section's occurrence and the word 1 that governs it (R216): the copy taken at open, or the descriptor's
current one for an occurrence that never opened. -/
def Skein.lateOf (x : Skein) (d : Timeline) (n : Int) : Nat × W :=
  let c := x.closed.foldl (fun (a : Option Closed) c =>
    if n ≤ c.occ then match a with
      | some y => if c.occ < y.occ then some c else a
      | none => some c
    else a) none
  match c with
  | some c => (c.tick, if c.occ = n ∧ c.opened then c.w1 else x.w1)
  | none => match x.floor16 with
    | some (f, t) => (if d.bound16 n < f then t else 0, x.w1)
    | none => (0, x.w1)

/-- Wrap a late packet (R216): a Dravua message of type 0x12. -/
def lateFrame (s : State) (k slot : Nat) (ticks : Nat) (f : FeedItem) : List Byte :=
  let x := s.skein k
  s.outHeader (outHdr x.w2) (outPort x.w2)
    ++ bytesBE 4 (0x12010000 + x.tlNo) ++ bytesBE 2 (s.deviceId % 4096) ++ bytesBE 2 k ++ bytesBE 2 (streamId x.w2)
    ++ bytesBE 2 (slot * 256) ++ bytesBE 4 (ticks % 2 ^ 32) ++ f.bytes

/-- A late section (R216). `sent` says that this packet has been wrapped for the Skein already; the result says it for the next. -/
def lateSection (q k slot : Nat) (n : Int) (sent : Bool) (f : FeedItem) (s : State) : State × Bool :=
  let x := s.skein k
  let c := x.lateOf (s.timeline x.tlNo) n
  let ticks := s.tick - c.1
  let b := lateFrame s k slot ticks f
  if latePolicy c.2 = 1 ∧ (sent ∨ b.length + 4 ≤ 16384) then
    let s := skCount q k 6 s
    if sent then (s, true)
    else
      let s := injectFrame (outPort x.w2) (outQueue x.w2) (outFlow x.w2) none b s
      let v : HkEvent := {
        w0 := evWord0 3 0 f.bytes.length ticks, w1 := mk 63 48 k ||| mk 47 40 slot, w2 := f.w2, w3 := f.w3, pkt := f.bytes }
      (postHook q v s, true)
  else (raiseInt 9 .skIntStatus [q] 3 (skCount q k 5 s), sent)

/-- Did the packet arrive between RXWIN_OPEN and RXWIN_CLOSE of the section's symbol (R217, R274)? -/
def inWindow (s : State) (d : Timeline) (sec : Section) (f : FeedItem) : Bool :=
  (windowOf s d { frame := sec.frame, subframe := sec.sub, slot := sec.slot, symbol := sec.sym } f.rx16).1 == 0

/-- A section of a Strand that is not ACTIVE for occurrence n (Table 9-9): a match moves it on, a non-match throws it back. -/
def probation (q k slot : Nat) (n : Int) (ok : Bool) (s : State) : State :=
  let x := s.skein k
  let d := s.timeline x.tlNo
  let st := x.strandState slot
  let next := fun (m : Int) => (occFrom d x.w1 (m + 1)).getD (m + 1)
  if st.st = 1 then
    if ok then skCount q k 9 (setStrandState k slot { st with st := 2, await := next n } s) else skCount q k 3 s
  else if st.st = 2 ∧ n = st.await then
    if ok then skCount q k 9 (setStrandState k slot { st := 0, miss := 0, from_ := some (next n) } s)
    else skCount q k 3 (setStrandState k slot { st with st := 1 } s)
  else skCount q k 9 s

/-- The contributor bits that a section needs (R203). -/
def needBits (e : W) (sec : Section) : Nat := if stPartial e then sec.contrib else 2 ^ stIndex e

/-- A STITCH event of an admitted section (Table 11-6). -/
def stitchEvent (k slot : Nat) (i : Instance) (sec : Section) (p0 n rl start order : Nat) (f : FeedItem) : HkEvent :=
  { w0 := evWord0 0 0 f.bytes.length 0
    w1 := mk 63 48 k ||| mk 47 40 slot ||| mk 39 39 i.ix ||| mk 38 30 n ||| mk 29 16 (sec.off + (p0 - sec.start) * rl)
      ||| mk 15 7 (p0 - start)
    w2 := f.w2, w3 := f.w3, pkt := f.bytes, order := order }

/-- Coverage and ownership of a section in an instance, and its admission (R202, R203): the range p0 to p1, clipped. -/
def admitSection (q k slot : Nat) (e : W) (i : Instance) (sec : Section) (p0 p1 : Nat) (f : FeedItem) (s : State) : State :=
  let x := s.skein k
  let rel := p0 - x.startPrb
  let c := tget {} i.strands slot
  let have_ := i.strands.any fun y => y.1 == slot
  let need := needBits e sec
  let others := i.strands.any fun y => y.1 != slot && y.2.bits &&& need != 0
  if rel < c.next then skCount q k 8 s
  else if others || (have_ && stPartial e && c.bits != need) then
    raiseInt 9 .skIntStatus [q] 2 (skCount q k 7 (s.modInst k i.occ fun i => { i with dup := true }))
  else
    let o := s.sk.nextOrder
    let n := p1 + 1 - p0
    let before := (s.cluster q).queue.length
    let t := postHook q (stitchEvent k slot i sec p0 n (recBytes sec.comp) x.startPrb o f) s
    if (t.cluster q).queue.length = before then t
    else
      let c' : Contrib := { next := p1 + 1 - x.startPrb, gap := c.gap || decide (c.next < rel), bits := need, incomplete := c.incomplete ||| sec.incomplete }
      let out : Outstanding := { order := o, slot := slot, first := rel, nprb := n }
      let t := t.modInst k i.occ fun i => { i with
        strands := tset {} i.strands slot c', outstanding := i.outstanding ++ [out], trace := i.trace ++ [(slot, rel, n)]
        carried := i.carried ||| (sec.flags &&& 0xDB) }
      { t with sk := { t.sk with nextOrder := o + 1 } }

/-- Judge one section for one bound Skein (R201), with its Strand entry e. The result says whether the packet has been wrapped
for this Skein. -/
def judge (q k slot : Nat) (e : W) (sec : Section) (sent : Bool) (f : FeedItem) (s : State) : State × Bool :=
  let x := s.skein k
  let d := s.timeline x.tlNo
  let st := x.strandState slot
  let p0 := max sec.start x.startPrb
  let p1 := min (sec.start + sec.nprb) (x.startPrb + x.numPrb)
  let sym := namedSymbol d s.now16 sec.frame sec.sub sec.slot sec.sym
  if !sec.typeOk || !sec.whole || sec.comp != stComp e || p1 ≤ p0 then
    let back := st.st == 2 && sym == some st.await
    (skCount q k 3 (when back (setStrandState k slot { st with st := 1 }) s), sent)
  else if d.mode = 2 then (skCount q k 10 s, sent)
  else match sym with
    | none => (skCount q k 2 s, sent)
    | some n =>
      let cur := x.instOf n
      let begun := match cur with | some i => i.closing | none => x.isClosed d n
      let w1 := match cur with | some i => i.w1 | none => x.w1
      if !isOcc d w1 n then (skCount q k 2 s, sent)
      else if begun || x.isClosed d n then lateSection q k slot n sent f s
      else if cur.isNone && x.destroying then (skCount q k 2 s, sent)
      else if cur.isNone && 2 ≤ (x.insts.filter fun i => i.ix < 2).length then (skCount q k 4 s, sent)
      else
        let s := when cur.isNone (openInstance k n) s
        match (s.skein k).instOf n with
        | none => (s, sent)
        | some i =>
          if i.fault then (skCount q k 12 s, sent)
          else
            let early := match st.from_ with | some m => decide (n < m) | none => false
            if st.st ≠ 0 || early then (probation q k slot n (inWindow s d sec f) s, sent)
            else (admitSection q k slot e i sec p0 (p1 - 1) f s, sent)

/-- The Strands of cluster q that a packet of its feed input binds to, with the sections that each reads in it. -/
def packetSections (q : Nat) (f : FeedItem) (s : State) : List (Nat × Nat × W × List Section) :=
  let p := parse (s.parseCfgOf (tileOf f.inPort) f.inPort) f.bytes
  match feedKey p f.inPort f.bytes with
  | none => []
  | some key => ((s.bound key).filter fun x => (s.skein x.1).cluster == q).map fun x =>
      let e := s.strand (s.skein x.1) x.2
      (x.1, x.2, e, sectionsOf p e f.bytes)

/-- The sections of a packet in admission order (R204): section by section, and within one by Skein index. -/
def admissionOrder (secs : List (Nat × Nat × W × List Section)) : List (Nat × Nat × Nat) :=
  let most := secs.foldl (fun m x => max m x.2.2.2.length) 0
  (List.range most).flatMap fun j => secs.filterMap fun x => if j < x.2.2.2.length then some (x.1, x.2.1, j) else none

/-- The cluster takes the sections of the packet at the head of its feed input that are left, until its dispatch queue is full: then the
packet keeps the rest (R254). -/
def takeSections (q : Nat) (f : FeedItem) (secs : List (Nat × Nat × W × List Section)) : List (Nat × Nat × Nat) → List Nat → State → State
  | [], _, s => dropFeed q s
  | (k, slot, j) :: rest, sent, s =>
    if s.queueFull q then
      let c := s.cluster q
      s.setCluster q { c with feed := { f with left := some ((k, slot, j) :: rest), sent := sent } :: c.feed.drop 1 }
    else match secs.find? fun x => x.1 == k && x.2.1 == slot with
      | none => takeSections q f secs rest sent s
      | some x => match x.2.2.2[j]? with
        | none => takeSections q f secs rest sent s
        | some sec =>
          let r := judge q k slot x.2.2.1 sec (sent.contains k) f s
          takeSections q f secs rest (if r.2 then k :: sent else sent) r.1

/-- SECTION_ADMIT: the packet at the head of a cluster's feed input (R201, R204, R220, R222, R254). -/
def sectionAdmit (q : Nat) (s : State) : State :=
  match (s.cluster q).feed with
  | [] => s
  | f :: _ =>
    if f.kind = 1 then s
    else if !s.awake (domCluster q) then
      let n := if f.kind = 2 then 1 else (f.left.getD (admissionOrder (packetSections q f s))).length
      work (domCluster q) ((dropFeed q s).bump .skDropCnt [q, 11] 47 0 n)
    else if s.queueFull q then s
    else if f.kind = 2 then
      postHook q { w0 := evWord0 6 0 f.bytes.length 0, w2 := f.w2, w3 := f.w3, pkt := f.bytes } (dropFeed q s)
    else
      let secs := packetSections q f s
      let todo := f.left.getD (admissionOrder secs)
      if s.enginesOk q = 0 then todo.foldl (fun s x => skCount q x.1 12 s) (dropFeed q s)
      else takeSections q f secs todo f.sent s

def execSectionAdmit (cluster : Nat) (s : State) : Host.Outcome State Fault Refusal := keep s (sectionAdmit (cluster % 4) s)

/-- A weight message at the head of a cluster's feed input (R205, R222); the WEIGHT event of Table 11-7 is posted. -/
def weightArrives (q : Nat) (s : State) : State :=
  match (s.cluster q).feed with
  | [] => s
  | f :: _ =>
    if f.kind ≠ 1 then s
    else if !s.awake (domCluster q) then work (domCluster q) ((dropFeed q s).bump .skDropCnt [q, 11] 47 0)
    else
      let s := dropFeed q s
      let p := parse (s.parseCfgOf (tileOf f.inPort) f.inPort) f.bytes
      let k := bytesNat f.bytes (p.msgOff + 6) 2
      let s := if (s.skein k).valid then weightMessage q p.msgOff f.bytes s else s.bump .skDropCnt [0, 1] 47 0
      postHook q { w0 := evWord0 2 0 f.bytes.length 0, w1 := mk 63 48 k, w2 := f.w2, w3 := f.w3, pkt := f.bytes } s

def execWeightMessage (cluster : Nat) (s : State) : Host.Outcome State Fault Refusal := keep s (weightArrives (cluster % 4) s)

/-! ### The accumulator memory (R214, R229, R234) -/

/-- Read the accumulator of a PRB of an instance as an engine reads it: none when a word of it is uncorrectable, with its
address; a miscorrection alters the data. -/
def readPrb (k ix prb : Nat) (s : State) : Except Nat PrbAcc × State :=
  let x := s.skein k
  let q := x.cluster
  let a := x.accAddr ix prb
  let ea := x.expAddr ix prb
  let go := fun (st : Option Nat × List Int × State) (j : Nat) =>
    let r := memRead 9 q 0 (a + j) 4 st.2.2
    let w := s.qword q (a + j) ^^^ BitVec.ofNat 72 r.diff
    (if st.1.isNone ∧ !r.ok then some (a + j) else st.1, st.2.1 ++ accOf w, r.st)
  let r := (List.range 12).foldl go (none, [], s)
  let er := memRead 9 q 0 ea 4 r.2.2
  let eb := wordByte (s.qword q ea ^^^ BitVec.ofNat 72 er.diff) (prb % 8)
  match r.1 with
  | some a => (.error a, er.st)
  | none =>
    if !er.ok then (.error ea, er.st)
    else (.ok { a := r.2.1, e := eb % 64, touched := eb / 128 % 2 == 1, inexact := eb / 64 % 2 == 1 }, er.st)

/-- Write the accumulator of a PRB of an instance. -/
def writePrb (k ix prb : Nat) (v : PrbAcc) (s : State) : State :=
  let x := s.skein k
  let q := x.cluster
  let s := (List.range 12).foldl (fun s j =>
    qwrite q (x.accAddr ix prb + j) (accWord (v.a.getD (2 * j) 0) (v.a.getD (2 * j + 1) 0)) s) s
  let ea := x.expAddr ix prb
  qwrite q ea (setByte (s.qword q ea) (prb % 8) (expByte v)) s

/-- The weight of a Strand slot for a PRB from the page that the instance is bound to (R229): an error gives the address of an
uncorrectable weight word. -/
def weightFor (k slot prb : Nat) (page : Option Nat) (s : State) : Except Nat (Int × Int) × State :=
  match page with
  | none => (.ok (weightOf unity), s)
  | some pg =>
    let x := s.skein k
    let a := x.weightAddr slot (prb / (x.prbGroup + 1))
    let r := memRead 9 x.cluster 0 a 4 s
    if r.ok then (.ok (weightOf (pageField pg (s.qword x.cluster a ^^^ BitVec.ofNat 72 r.diff))), r.st) else (.error a, r.st)

/-- The Stitch of one PRB of a STITCH event: record at an offset of the packet. -/
def stitchOne (k slot ix prb comp : Nat) (page : Option Nat) (rec_ : List Byte) (s : State) : Option Nat × State :=
  match weightFor k slot prb page s with
  | (.error a, s) => (some a, s)
  | (.ok w, s) => match readPrb k ix prb s with
    | (.error a, s) => (some a, s)
    | (.ok acc, s) =>
      let m := decompress comp rec_
      (none, writePrb k ix prb (stitchPrb acc m.1 m.2 w.1 w.2) s)

/-- The first uncorrectable address of a run of PRBs, the PRBs that held one, and the state after the others were written. -/
structure StitchRun where
  ue : Option Nat := none
  bad : List Nat := []
  st : State

/-- The Stitch of a STITCH event over its range (R248, R242). -/
def stitchRun (e : HkEvent) (s : State) : StitchRun :=
  let k := e.skein
  let slot := fld e.w1 47 40
  let ix := fld e.w1 39 39
  let n := fld e.w1 38 30
  let off := fld e.w1 29 16
  let first := fld e.w1 15 7
  let x := s.skein k
  let comp := stComp (s.strand x slot)
  let page := match x.insts.find? fun i => i.ix == ix with | some i => i.page | none => none
  let rl := recBytes comp
  (List.range n).foldl (fun (a : StitchRun) j =>
    let r := stitchOne k slot ix (first + j) comp page ((e.pkt.drop (off + j * rl)).take rl) a.st
    match r.1 with
    | some w => { ue := match a.ue with | some u => some u | none => some w, bad := a.bad ++ [first + j], st := r.2 }
    | none => { a with st := r.2 }) { st := s }

/-- May a Stitch proceed past the ordering unit (R248): has every earlier Stitch of its PRBs written? -/
def State.stitchReady (s : State) (e : HkEvent) : Bool :=
  let ix := fld e.w1 39 39
  let first := fld e.w1 15 7
  let n := fld e.w1 38 30
  match (s.skein e.skein).insts.find? fun i => i.ix == ix with
  | none => true
  | some i => i.outstanding.all fun o => e.order ≤ o.order || o.first + o.nprb ≤ first || first + n ≤ o.first

/-! ### Close ticks (R207, R210) -/

/-- Post the CLOSE event of an instance whose close tick is reached once every admitted Stitch has committed (Table 11-7). -/
def postClose (k : Nat) (n : Int) (s : State) : State :=
  let x := s.skein k
  match x.instOf n with
  | none => s
  | some i =>
    if !i.closing || i.posted || !i.outstanding.isEmpty then s
    else
      let s := s.modInst k n fun i => { i with posted := true }
      postHook x.cluster { w0 := evWord0 1 4 0 i.closeSrc, w1 := mk 63 48 k ||| mk 39 39 i.ix, hard := true } s

/-- A Stitch of an instance has completed: it is no longer outstanding. `bad`: PRBs that an uncorrectable word kept from
it; the shipped handler records the first, or the whole range when there are more (R258). -/
def stitchDone (e : HkEvent) (bad : List Nat) (s : State) : State :=
  let k := e.skein
  let ix := fld e.w1 39 39
  match (s.skein k).insts.find? fun i => i.ix == ix && i.outstanding.any fun o => o.order == e.order with
  | none => s
  | some i =>
    let hurt := match bad with
      | [] => []
      | [p] => [p]
      | _ => (List.range (fld e.w1 38 30)).map fun j => fld e.w1 15 7 + j
    let s := s.modInst k i.occ fun i => { i with
      outstanding := i.outstanding.filter fun o => o.order != e.order
      bad := (i.bad ++ hurt).eraseDups, memErr := i.memErr || !hurt.isEmpty }
    let s := when (!hurt.isEmpty) (raiseInt 9 .skIntStatus [(s.skein k).cluster] 6) s
    postClose k i.occ s

/-- MISS_RUN and Strand states at a close of occurrence n that is no DISCONTINUITY close (R217). -/
def strandsAtClose (k : Nat) (n : Int) (w1 : W) (owners : List Nat) (s : State) : State :=
  let x := s.skein k
  (List.range x.numStrands).foldl (fun s slot =>
    let st := (s.skein k).strandState slot
    let proved := st.st = 0 && (match st.from_ with | some m => decide (n < m) | none => false)
    let miss := if owners.contains slot || proved then 0 else satAdd 32 st.miss 1
    let st' : StrandState :=
      if st.st = 0 ∧ returnGap w1 ≠ 0 ∧ returnGap w1 < miss then { st with st := 1, miss := miss, from_ := none }
      else if st.st = 2 ∧ st.await = n then { st with st := 1, miss := miss }
      else { st with miss := miss }
    setStrandState k slot st' s) s

/-- Count a closed instance (SK_CLOSE_CNT, INSTANCE_SEQ). -/
def countClose (k flags : Nat) (s : State) : State :=
  let q := (s.skein k).cluster
  let s := s.bump .skCloseCnt [q] 63 32
  let s := when (flags &&& 0x9A != 0) (fun s => s.bump .skCloseCnt [q] 31 0) s
  let s := when (flags.testBit 3) (raiseInt 9 .skIntStatus [q] 4) s
  s.modSkein k fun x => { x with seq := (x.seq + 1) % 2 ^ 32 }

/-- STRAND waits on a Strand that owns bits in an instance that closes have been satisfied (Table 11-9, R257). -/
def strandMet (k : Nat) (i : Instance) (w : WaitOn) : WaitOn :=
  if w.cond = 1 ∧ fld w.arg 63 48 = k ∧ w.met.isNone ∧ (tget {} i.strands (fld w.arg 47 40)).bits ≠ 0 then { w with met := some 0 } else w

/-- Begin the close of an open instance (R208 step 1). -/
def beginClose (k : Nat) (i : Instance) (tick src : Nat) (noEvent disc : Bool) (s : State) : State :=
  let s := (List.range 4).foldl (fun s q => markWaits q (strandMet k i) s) s
  let s := s.modInst k i.occ fun i => { i with
    closing := true, closeTick := tick, closeSrc := src, noEvent := noEvent, disc := disc
    hold := s.mast.servo.state == .holdover || s.mast.servo.state == .freerun }
  let s := when (!disc) (fun s => s.modSkein k fun x => { x with
    closed := { occ := i.occ, tick := tick, w1 := i.w1, opened := decide (i.ix < 2) } :: x.closed }) s
  postClose k i.occ s

/-- Close an occurrence that no section opened (R210): with EMIT_EMPTY an empty instance goes through the close; else it is only
counted. A cluster with no engine in service opens no instance (R220): the output that it does not emit counts FAULT_DROP (R224). -/
def closeEmpty (k : Nat) (n : Int) (tick src : Nat) (noEvent : Bool) (s : State) : State :=
  let x := s.skein k
  let up := decide (s.enginesOk x.cluster ≠ 0)
  if emitEmpty x.w1 && up then
    let i : Instance := { ix := 2, occ := n, w1 := x.w1, w2 := x.w2, epoch := x.epoch }
    beginClose k i tick src noEvent false (s.setSkein k { x with insts := x.insts ++ [i] })
  else
    let s := s.setSkein k { x with closed := { occ := n, tick := tick, w1 := x.w1, opened := false } :: x.closed }
    let s := strandsAtClose k n x.w1 [] s
    countClose k (0x20 + if noEvent then 8 else 0) (skCount x.cluster k (if emitEmpty x.w1 then 12 else 13) s)

/-- The tick of the first symbol boundary of a timeline after a tick. -/
def State.boundaryAfter (s : State) (t tick : Nat) : Int :=
  let d := s.timeline t
  s.boundaryTick (d.bound16 (d.symAt (s.mastAt tick / 4294967296) + 1))

/-- The symbol boundary before which no close of an instance begins (R219): of a marked one, the first after the fault. -/
def State.faultHold (s : State) (x : Skein) (i : Instance) : Int := if i.fault then s.boundaryAfter x.tlNo i.faultAt else 0

/-- A close tick of one occurrence. The close of a marked instance is deferred to the symbol boundary (R219). -/
def closeOne (k : Nat) (n : Int) (tick src : Nat) (noEvent : Bool) (s : State) : State :=
  let x := s.skein k
  match x.instOf n with
  | some i =>
    let how := i.deferred.getD (src, noEvent)
    if i.closing then s
    else if (tick : Int) < s.faultHold x i then s.modInst k n fun i => { i with deferred := some how }
    else beginClose k i tick how.1 how.2 false s
  | none => if x.destroying then s else closeEmpty k n tick src noEvent s

/-- The first symbol whose occurrence no close has reached. -/
def Skein.unclosedFrom (x : Skein) : Int := x.closed.foldl (fun m c => max m (c.occ + 1)) x.since

/-- Do occurrences of a Skein close with no section? -/
def State.closesEmpty (s : State) (x : Skein) : Bool := !x.destroying && !x.unbound && (s.timeline x.tlNo).mode == 1

/-- The occurrences before n whose close has not begun, rising: those of open instances, and those that no section opened. -/
def State.unclosedBefore (s : State) (x : Skein) (n : Int) : List Int :=
  let d := s.timeline x.tlNo
  let opened := (x.insts.filter fun i => !i.closing && decide (i.occ < n)).map (·.occ)
  let rest := if s.closesEmpty x then
      (List.range (n - x.unclosedFrom).toNat).map (fun j => x.unclosedFrom + (j : Int))
        |>.filter fun m => isOcc d x.w1 m && (x.instOf m).isNone && !x.isClosed d m
    else []
  (opened ++ rest).mergeSort fun a b => a ≤ b

/-- The close tick of occurrence n of a Skein is reached (R207): for earlier occurrences it is that of a later close. -/
def closeOccurrence (k : Nat) (n : Int) (tick src : Nat) (noEvent : Bool) (s : State) : State :=
  closeOne k n tick src noEvent ((s.unclosedBefore (s.skein k) n).foldl (fun s m => closeOne k m tick 1 true s) s)

/-- Does a SKEIN_CLOSE event of a group on a timeline close occurrence n of a Skein (R207)? -/
def State.eventCloses (s : State) (x : Skein) (g t : Nat) (n : Int) : Bool :=
  let d := s.timeline t
  let w1 := match x.instOf n with | some i => i.w1 | none => x.w1
  x.valid && !x.unbound && x.tlNo == t && closeSrc w1 == 0 && closeGroup w1 == g && isOcc d w1 n && !x.isClosed d n
    && (match x.instOf n with | some i => !i.closing | none => decide (x.since ≤ n))

/-- A SKEIN_CLOSE event in its scheduled tick, in the clusters that are awake (R66). -/
def closeGroupEvent (g t : Nat) (n : Int) (tick : Nat) (s : State) : State :=
  s.sk.descs.foldl (fun s x =>
    if s.eventCloses (s.skein x.1) g t n && s.awake (domCluster x.2.cluster) then closeOccurrence x.1 n tick 0 false s else s) s

/-- The first occurrence at or after symbol n that no section opened. -/
def Skein.nextUnopened (x : Skein) (d : Timeline) : Nat → Int → Option Int
  | 0, _ => none
  | f + 1, n => match occFrom d x.w1 n with
    | none => none
    | some m => if (x.instOf m).isNone then some m else x.nextUnopened d f (m + 1)

/-- The tick at which occurrence n closes with no event: CLOSE_LIMIT after its symbol's end, by the instance's copy or the descriptor;
of a marked instance not before its symbol boundary, and at that boundary when its close is deferred to it (R207, R219). -/
def State.closeDue (s : State) (x : Skein) (n : Int) : Int :=
  let stop := s.boundaryTick ((s.timeline x.tlNo).bound16 (n + 1))
  match x.instOf n with
  | some i => if i.deferred.isSome then s.faultHold x i else max (stop + closeLimit i.w1) (s.faultHold x i)
  | none => stop + closeLimit x.w1

/-- The occurrence of a Skein that closes next with no event: of the open instances and the first occurrence that none opened, the one
with the earliest tick. -/
def State.nextToClose (s : State) (x : Skein) : Option Int :=
  let opened := (x.insts.filter fun i => !i.closing).map (·.occ)
  let next := if s.closesEmpty x then (x.nextUnopened (s.timeline x.tlNo) (x.insts.length + 1) x.unclosedFrom).toList else []
  (opened ++ next).foldl (fun (a : Option Int) n => match a with
    | none => some n
    | some m => if s.closeDue x n < s.closeDue x m ∨ (s.closeDue x n = s.closeDue x m ∧ n < m) then some n else some m) none

/-- CLOSE_BACKSTOP: the occurrence that closes next has reached its tick (R207, R219). -/
def closeBackstop (k : Nat) (s : State) : State :=
  let x := s.skein k
  if !x.valid then s
  else match s.nextToClose x with
    | none => s
    | some n =>
      let w1 := match x.instOf n with | some i => i.w1 | none => x.w1
      let due := s.closeDue x n
      if (s.tick : Int) < due then s
      else closeOccurrence k n due.toNat (if closeSrc w1 = 0 then 1 else 2) (closeSrc w1 == 0) s

def execCloseBackstop (skein : Nat) (s : State) : Host.Outcome State Fault Refusal := keep s (closeBackstop (skein % 65536) s)

/-! ### The close of an instance (R208 to R215, R238 to R241) -/

/-- CONTRIB and INCOMPLETE of an instance (R212). -/
def Instance.contrib (i : Instance) : Nat := i.strands.foldl (fun n x => n ||| x.2.bits) 0
def Instance.incomplete (i : Instance) (x : Skein) : Nat :=
  i.strands.foldl (fun n y => n ||| y.2.incomplete ||| (if y.2.next = x.numPrb ∧ !y.2.gap then 0 else y.2.bits)) 0

/-- FLAGS of the output (Table 9-8). -/
def Instance.flags (i : Instance) (x : Skein) : Nat :=
  i.carried ||| b2n i.hold ||| b2n i.disc * 2 ||| (if i.incomplete x = 0 then 0 else 4) ||| b2n i.noEvent * 8 ||| b2n i.fault * 16
    ||| (if i.contrib = 0 then 32 else 0) ||| b2n i.dup * 64 ||| b2n i.memErr * 128

/-- The record of one PRB at the close, its saturated components, and the address of an uncorrectable word. -/
def closePrb (k : Nat) (i : Instance) (prb : Nat) (s : State) : (List Byte × Nat × Option Nat) × State :=
  let comp := outComp i.w2
  if i.ix = 2 then ((emptyRecord comp, 0, none), s)
  else match readPrb k i.ix prb s with
    | (.error a, s) => ((emptyRecord comp, 0, some a), s)
    | (.ok acc, s) =>
      if i.bad.contains prb || !acc.touched then ((emptyRecord comp, 0, none), s)
      else let r := recompress acc comp; ((r.1, r.2, none), s)

/-- The records of all PRBs, the saturated components, the uncorrectable words met. -/
def closePrbs (k : Nat) (i : Instance) (n : Nat) (s : State) : (List (List Byte) × Nat × List Nat) × State :=
  (List.range n).foldl (fun a prb =>
    let r := closePrb k i prb a.2
    ((a.1.1 ++ [r.1.1], a.1.2.1 + r.1.2.1, a.1.2.2 ++ r.1.2.2.toList), r.2)) (([], 0, []), s)

/-- The Skein sum header of packet j of m (Table 9-7), without the INCOMPLETE map. -/
def sumHeader (s : State) (k : Nat) (x : Skein) (i : Instance) (flags start n j m : Nat) : List Byte :=
  let d := s.timeline x.tlNo
  let p := d.posOf i.occ
  let part := flags.testBit 2
  [0x10, if part then 12 else 8, BitVec.ofNat 8 flags, BitVec.ofNat 8 (s.mast.tsEpoch % 4 * 64 + x.tlNo)]
    ++ bytesBE 2 (s.deviceId % 4096) ++ bytesBE 2 (streamId i.w2) ++ bytesBE 2 k ++ bytesBE 2 i.epoch
    ++ [BitVec.ofNat 8 (p.frame % 256).toNat] ++ bytesBE 2 (p.subframe * 4096 + p.slot * 64 + p.symbol * 4)
    ++ [BitVec.ofNat 8 (outComp i.w2)] ++ bytesBE 2 start ++ bytesBE 2 n ++ bytesBE 2 (popcount 256 i.contrib)
    ++ bytesBE 2 (popcount 256 (i.incomplete x)) ++ bitmapBytes i.contrib ++ bytesBE 4 x.seq
    ++ [BitVec.ofNat 8 j, BitVec.ofNat 8 m, 0, 0] ++ (if part then bitmapBytes (i.incomplete x) else [])

/-- Send the output packets of an instance (R211, R212). -/
def emitSum (k : Nat) (i : Instance) (flags : Nat) (recs : List (List Byte)) (s : State) : State :=
  let x := s.skein k
  let n := x.numPrb
  let size := if outSplit i.w2 = 0 then n else outSplit i.w2
  let m := (n + size - 1) / size
  (List.range m).foldl (fun s j =>
    let len := min size (n - j * size)
    let b := s.outHeader (outHdr i.w2) (outPort i.w2) ++ sumHeader s k x i flags (x.startPrb + j * size) len j m
      ++ ((recs.drop (j * size)).take len).flatten
    injectFrame (outPort i.w2) (outQueue i.w2) (outFlow i.w2) none b s) s

/-- Send the Skein trace (R215). -/
def emitTrace (k : Nat) (i : Instance) (s : State) : State :=
  let x := s.skein k
  let es := i.trace.take 1024
  let b := s.outHeader (outHdr i.w2) (outPort i.w2) ++ [0x13, 0x01, 0, 0] ++ bytesBE 2 (s.deviceId % 4096) ++ bytesBE 2 k
    ++ bytesBE 4 x.seq ++ bytesBE 2 es.length ++ [BitVec.ofNat 8 (b2n (1024 < i.trace.length)), 0]
    ++ es.flatMap fun e => bytesBE 4 (e.1 * 2 ^ 24 + e.2.1 * 2 ^ 15 + e.2.2 * 2 ^ 6)
  injectFrame (outPort i.w2) (outQueue i.w2) (outFlow i.w2) none b s

/-- The accumulators and exponent bytes of an instance become 0, and the instance is gone (R235). -/
def clearInstance (k : Nat) (i : Instance) (s : State) : State :=
  let x := s.skein k
  let nb := (x.numPrb + 7) / 8
  let s := when (i.ix < 2) (fun s => qclear x.cluster (x.qbase + 24 * x.numPrb + nb * i.ix) nb
    (qclear x.cluster (x.accAddr i.ix 0) (12 * x.numPrb) s)) s
  s.modSkein k fun x => { x with insts := x.insts.filter fun j => j.occ != i.occ }

/-- PRBs of an instance whose exponent byte holds INEXACT (R241). -/
def State.inexactPrbs (s : State) (x : Skein) (i : Instance) : Nat :=
  if i.ix < 2 then ((List.range x.numPrb).filter fun p => (wordByte (s.qword x.cluster (x.expAddr i.ix p)) (p % 8)).testBit 6).length else 0

/-- Free an instance (R208 step 6, R235): INEXACT_PRBS, accumulators and exponent bytes to 0, Strand states, INSTANCE_SEQ; what waited
for the last instance of the Skein happens. -/
def freeInstance (k : Nat) (i : Instance) (flags : Nat) (s : State) : State :=
  let n := s.inexactPrbs (s.skein k) i
  let s := clearInstance k i (s.modSkein k fun x => { x with inexact := satAdd 48 x.inexact n })
  let s := when (!i.disc) (strandsAtClose k i.occ i.w1 ((i.strands.filter fun y => y.2.bits != 0).map (·.1))) s
  settleSkein k (countClose k flags s)

/-- May the home engine run the close of an instance now (R208 step 2, R209, R219): every admitted Stitch complete, no close
of an earlier tick (or lower Skein index) of the same home waiting, the home in service, the cluster awake. -/
def State.closeReady (s : State) (k : Nat) (i : Instance) : Bool :=
  let x := s.skein k
  let earlier := s.sk.descs.any fun y => y.2.valid && y.2.cluster == x.cluster && y.2.home == x.home && y.2.insts.any fun j =>
    j.closing && (j.closeTick < i.closeTick || (j.closeTick == i.closeTick && (y.1 < k || (y.1 == k && j.occ < i.occ))))
  i.closing && i.outstanding.isEmpty && !earlier && x.rehomeAfter.isNone && (s.enginesOk x.cluster).testBit x.home
    && decide (s.faultHold x i ≤ s.tick)
    && s.awake (domCluster x.cluster)

/-- The instance of a Skein whose close comes first. -/
def Skein.firstClosing (x : Skein) : Option Instance :=
  x.insts.foldl (fun (a : Option Instance) i => if !i.closing then a else match a with
    | some b => if i.closeTick < b.closeTick || (i.closeTick == b.closeTick && i.occ < b.occ) then some i else a
    | none => some i) none

/-- The CLOSE event of an instance is done: it leaves the queue, or the home engine that runs it becomes idle. -/
def retireClose (k ix : Nat) (s : State) : State :=
  let x := s.skein k
  let q := x.cluster
  let c := s.cluster q
  let mine := fun (e : HkEvent) => e.opcode == 1 && e.hard && e.skein == k && fld e.w1 39 39 == ix % 2
  let en := tget {} c.engines x.home
  let running := match en.routine with | some r => mine r.event | none => false
  let s := s.setCluster q { c with
    queue := c.queue.filter fun e => !mine e
    engines := if running then tset {} c.engines x.home { en with routine := none, vec := none, handler := none } else c.engines }
  when (running || c.queue.any mine) (fun s => s.bump .hkEngineCnt [q, x.home] 63 32) s

/-! ### Steps, lost quarters, failed engines (R219 to R221, R223) -/

/-- At tick S of a step every open instance closes with DISCONTINUITY; the record of closed occurrences starts anew (R221). -/
def skeinStep (tick : Nat) (new16 : Int) (s : State) : State :=
  s.sk.descs.foldl (fun s x =>
    let live := x.2.insts.filter fun i => !i.closing
    let s := live.foldl (fun s i => beginClose x.1 i tick 3 false true s) s
    let d := s.timeline x.2.tlNo
    s.modSkein x.1 fun y => { y with
      closed := [], floor16 := some (new16, tick), since := if d.bound16 (d.symAt new16) = new16 then d.symAt new16 else d.symAt new16 + 1 }) s

/-- The contents of quarter q are lost (R223, R235): no instance, empty weight pages, every Strand ACTIVE. -/
def quarterLost (q : Nat) (s : State) : State :=
  let mem := s.sk.quarter.filter fun x => x.1 / 4194304 != q
  let s := memClearWhere (fun k => k / 2 ^ 48 == 9 * 64 + q) { s with sk := { s.sk with quarter := mem } }
  s.sk.descs.foldl (fun s x =>
    if x.2.valid ∧ x.2.cluster = q then
      settleSkein x.1 (s.modSkein x.1 fun y => { y with insts := [], page0 := none, page1 := none, strandSt := [] })
    else s) s

/-- The words that list 16-bit entries, entry i at [16i + 15 : 16i] (Table 9-10). -/
def packEntries : Nat → List Nat → List W
  | 0, _ => []
  | f + 1, l => if l.isEmpty then [] else BitVec.ofNat 64 ((List.range 4).foldl (fun n i => n + l.getD i 0 * 2 ^ (16 * i)) 0) :: packEntries f (l.drop 4)

/-- SKEIN_REASSIGNED (Table 9-10): the failed engine, the Mast time of the failure, the Skeins that it homed. -/
def postReassigned (q e : Nat) (hi lo : W) (ks : List Nat) (s : State) : State :=
  let w0 := mk 63 62 q ||| mk 61 58 e ||| mk 57 53 (popcount 16 (s.enginesOk q)) ||| mk 47 32 ks.length
  raiseInt 9 .skIntStatus [q] 0 (postEvent 8 ([w0, hi, lo] ++ packEntries (ks.length + 1) ks) s)

/-- Engine e of cluster q fails (R219): open instances of the Skeins homed on it, and the instance of a Stitch in progress on it,
are marked; the interrupted Strand is incomplete; the homes move later, and an engine that homed no Skein is reported at once. With no
engine left, open instances are lost (R220): their words are cleared, and each output not emitted counts FAULT_DROP (R224). -/
def skeinEngineFails (q e : Nat) (ev : Option HkEvent) (s : State) : State :=
  let hi := s.time.master.hi
  let lo := s.time.master.lo
  let s := when (s.homed q e == 0) (postReassigned q e hi lo []) s
  let s := s.sk.descs.foldl (fun s x =>
    if x.2.valid ∧ x.2.cluster = q ∧ x.2.home = e then s.modSkein x.1 fun y => { y with
      insts := y.insts.map (fun i => if i.ix < 2 then { i with fault := true, faultAt := s.tick } else i)
      rehomeAfter := some (s.tick, hi, lo) }
    else s) s
  let s : State := match ev with
    | some v =>
      if v.opcode = 0 then
        let ix := fld v.w1 39 39
        match (s.skein v.skein).insts.find? fun i => i.ix == ix && i.outstanding.any fun o => o.order == v.order with
        | some i =>
          let slot := fld v.w1 47 40
          let s := s.modInst v.skein i.occ fun i => { i with
            fault := true, faultAt := s.tick, strands := tset {} i.strands slot { tget {} i.strands slot with gap := true } }
          stitchDone v [] s
        | none => s
      else s
    | none => s
  if s.enginesOk q ≠ 0 then s
  else
    let s := raiseInt 9 .skIntStatus [q] 1 s
    s.sk.descs.foldl (fun s x =>
      if x.2.valid ∧ x.2.cluster = q then
        settleSkein x.1 (x.2.insts.foldl (fun s i => clearInstance x.1 i (skCount q x.1 12 s)) s)
      else s) s

/-- SKEIN_REHOME (R219): the Skeins of one failed engine of the cluster whose symbol boundary has come get new homes. -/
def skeinRehome (q : Nat) (s : State) : State :=
  let due := fun (x : Skein) => x.valid && x.cluster == q && match x.rehomeAfter with
    | some (t, _, _) => decide (s.boundaryAfter x.tlNo t ≤ s.tick)
    | none => false
  if s.enginesOk q = 0 then s
  else match s.sk.descs.find? fun x => due x.2 with
    | none => s
    | some (_, x0) =>
      let from_ := x0.home
      let mine := (s.sk.descs.filter fun x => due x.2 && x.2.home == from_).map (·.1)
      let t0 := x0.rehomeAfter.getD (0, 0, 0)
      let s := mine.foldl (fun s k =>
        let x := s.skein k
        let b := (s.boundaryAfter x.tlNo t0.1).toNat
        let s := memWrite 9 4 1 (4 * k) (s.setSkein k { x with
          w0 := ins x.w0 57 54 (s.newHome q), rehomeAfter := none
          insts := x.insts.map fun i => if i.fault && i.closing then { i with closeTick := max i.closeTick b } else i })
        (x.insts.filter fun i => i.deferred.isSome).foldl (fun s i => closeOne k i.occ b 0 false s) s) s
      postReassigned q from_ t0.2.1 t0.2.2 mine s

def execSkeinRehome (cluster : Nat) (s : State) : Host.Outcome State Fault Refusal := keep s (skeinRehome (cluster % 4) s)

end Sys2Proof.Machine
end

