-- ==== Sys2Proof/Machine/Security.lean ====
section
/-! DEFINITION. Security (chapter 16): lifecycle, image signatures and rollback floors, MACsec and PTP keys, the Sail locker,
tamper, zeroization, the debug level. -/

namespace Sys2Proof

open Machine

/-- A word of host memory that a command makes the part read. -/
def Cmd.hostWord (c : Cmd) (a : Nat) : W := ((c.host.find? fun x => x.1 == a).map (·.2)).getD 0

/-- The bytes of n words of host memory from an address. -/
def Cmd.hostBytes (c : Cmd) (a n : Nat) : List Byte := (List.range n).flatMap fun i => wordBytes (c.hostWord (a + 8 * i))

end Sys2Proof

namespace Sys2Proof.Machine

/-- Change the security block. -/
def State.modSec (s : State) (f : Security → Security) : State := { s with sec := f s.sec }

/-- Set a bit of SEC_INT_STATUS. -/
def secInt (bit : Nat) (s : State) : State := raiseInt 3 .secIntStatus [] bit s

/-! ### Keys and images (R375 to R378) -/

/-- Is key index i of a set usable (R375): a hash that is not zero (RILLEOC's stand in boot ROM) and not revoked? -/
def State.keyUsable (s : State) (set i : Nat) : Bool :=
  let hashes := if set = 1 then s.sec.ownerHash else s.sec.debugHash
  i < 4 && !(tget 0 s.sec.revoked set).testBit i
    && (set == 0 || ((List.range 6).any fun k => hashes.getD (6 * i + k) 0 != 0))

/-- Programmed floor slots of an image type, newest last. -/
def State.floorSlots (s : State) (typ : Nat) : List Nat := tget [] s.sec.floors typ

/-- The rollback floor of an image type (R378). -/
def State.floor (s : State) (typ : Nat) : Nat := (s.floorSlots typ).getLastD 0

/-- Is a key set accepted for an image type in the present lifecycle state (Table 16-1, R377)? -/
def State.setAccepted (s : State) (set typ : Nat) : Bool :=
  set == 0 || (set == 1 && (s.sec.lifecycle == 2 || s.sec.lifecycle == 3) && (typ == 2 || typ == 3))

/-- Words 0 and 1 of a signature block, which starts `len` bytes into an image. -/
def sigWord0 (b : List Byte) (len : Nat) : W := BitVec.ofNat 64 (bytesNat b len 8)
def sigWord1 (b : List Byte) (len : Nat) : W := BitVec.ofNat 64 (bytesNat b (len + 8) 8)

/-- Bytes of a signature block: 929 words. -/
def sigBytes : Nat := 7432

/-- The failure DETAIL of an image's signature block (R377, Table 13-8): 2 a block that does not match the image, 1 keys or signatures, 5
the floor; none when accepted.
`own` is the version in the image's own header, `ok` the outcome of the cryptography. -/
def State.sigCheck (s : State) (typ : Nat) (b : List Byte) (len : Nat) (own : Option Nat) (ok : Bool) : Option Nat :=
  let w0 := sigWord0 b len
  let w1 := sigWord1 b len
  let ver := fld w1 63 48
  if b.length < len + sigBytes || fld w0 63 32 != 0x5349474E || fld w0 31 24 != typ || fld w1 31 0 != len
      || (own.isSome && own != some ver) then some 2
  else if !s.setAccepted (fld w0 23 16) typ || !s.keyUsable (fld w0 23 16) (fld w0 15 8) || !ok then some 1
  else if ver < s.floor typ then some 5 else none

/-- Count a rejected image. -/
def imageReject (s : State) : State := secInt 5 (s.bump .secCnt [] 47 32)

/-- What the first successful load of an image does to floors and revocation bits in DEPLOYED (R378). -/
def imageLoaded (typ : Nat) (b : List Byte) (len : Nat) (s : State) : State :=
  let w0 := sigWord0 b len
  let ver := fld (sigWord1 b len) 63 48
  let set := fld w0 23 16
  let slots := s.floorSlots typ
  if s.sec.lifecycle ≠ 3 then s
  else
    let s :=
      if bitAt w0 0 && s.floor typ < ver then
        if slots.length < 32 then s.modSec fun k => { k with floors := tset [] k.floors typ (slots ++ [ver]) }
        else secInt 8 (s.modSec fun k => { k with floorFull := true })
      else s
    when (bitAt w0 1) (fun s => s.modSec fun k => { k with
      revoked := tmod 0 k.revoked set fun m => m ||| (2 ^ fld w0 15 8 - 1) }) s

/-! ### The Sail locker (R382 to R384) -/

/-- MONO_COUNT (R383). -/
def State.mono (s : State) : Nat := s.sec.loss * 2 ^ 48 + s.sec.low

/-- Increment LOW. -/
def monoStep (s : State) : State := s.modSec fun k => { k with low := (k.low + 1) % 2 ^ 48 }

/-- Write a locker record (Table 16-7): the ring's oldest is overwritten. -/
def lockerRecord (typ cause : Nat) (noTime : Bool) (s : State) : State :=
  let w0 : W := mk 63 56 typ ||| mk 55 48 cause ||| mk 47 47 (b2n noTime)
  let t := s.time.master
  let r := if noTime then [w0, 0, 0, BitVec.ofNat 64 s.mono] else [w0, t.hi, t.lo, BitVec.ofNat 64 s.mono]
  let n := s.sec.recHead
  let s := memWriteN 3 0 0 (264 + 4 * n) 4 s
  s.modSec fun k => { k with records := tset [] k.records n r, recHead := (n + 1) % 32 }

/-- Has Mast time no meaning for a record? -/
def State.noTime (s : State) : Bool := !s.mast.timeValid || !s.power.mainPower

/-- The locker SRAM is cleared: KEK slots and records (R390 step 2, R385); no flip-mask is taken (R410). -/
def lockerClear (s : State) : State :=
  memClearWhere (fun k => k / 2 ^ 40 == (3 * 64 + 0) * 256 + 0) (s.modSec fun k => { k with kek := [], records := [], recHead := 0 })

/-- May FORCE_SET, FLIP_MASK_SET (or the TAP) arm force bits and flip-masks (Table 16-10)? -/
def State.forceAllowed (s : State) (tap : Bool) : Bool :=
  if tap then s.sec.level == 2
  else match s.sec.lifecycle with
    | 2 => s.sec.level != 0
    | 3 => s.sec.level == 2
    | _ => true

/-- After a change of lifecycle or level that forbids them, every armed force bit and flip-mask is cleared (R412). -/
def settleForces (s : State) : State :=
  if s.forceAllowed false || s.forceAllowed true then s
  else { s with flt := { s.flt with srcs := tmapv {} (fun _ x => { x with forced := 0, flips := [] }) s.flt.srcs } }

/-! ### Zeroization (R390, R391) -/

/-- The domains that hold key state: Tiles whose ports hold associations, the management domain with its PTP key table. -/
def State.keyHolders (s : State) : List Nat :=
  ((List.range 16).filter fun t => (s.sec.txSa.any fun x => x.1 / 128 == t) || (s.sec.rxSa.any fun x => x.1 / 1024 == t)).map domTile
    ++ if s.sec.ptpKeys.isEmpty then [] else [domMgmt]

/-- Steps 1 and 2 of R390: keys blocked, domains in PS1 or PS2 that hold keys begin to wake, the locker is cleared, LOW rises, the
record is written. -/
def zeroStart (z : Zeroizing) (s : State) : State :=
  let asleep := s.keyHolders.filter fun d => (s.domain d).state == 1 || (s.domain d).state == 2
  let forced := asleep.filterMap fun d => if (s.domain d).force = 0 then none else some (d, (s.domain d).state)
  let s := s.modSec fun k => { k with keysBlocked := true, zero := some { z with woken := asleep, forced := forced } }
  let s := asleep.foldl (fun s d => startExit d s) s
  let s := monoStep (lockerClear s)
  let s := s.bump .secCnt [] 31 16
  match z.cause with
  | 0 => lockerRecord 3 z.level s.noTime s
  | 1 => lockerRecord 4 0 s.noTime s
  | 2 => lockerRecord 2 s.sec.tamper s.noTime s
  | _ => s

/-- Steps 3 to 5 of R390: associations, PTP keys, other key-derived state. -/
def keysClear (s : State) : State :=
  let s := s.modSec fun k => { k with txSa := [], txAn := [], rxSa := [], ptpKeys := [], challenge := none, staging := [] }
  memClearWhere (fun k => (10 * 64 ≤ k / 2 ^ 48 && k / 2 ^ 48 < 11 * 64 && k / 2 ^ 40 % 256 == 0) || (k / 2 ^ 48 == 3 * 64 && k / 2 ^ 40 % 256 != 0)) s

/-- The fault that a failed read-back reports. -/
def readbackFault (forced : Bool) : FaultInfo := { block := 3, inst := 0, cls := 12, sev := 2, forced := forced }

/-- An advance of the lifecycle takes effect (R374, R383, R384). -/
def advanceTo (l : Nat) (s : State) : State :=
  lockerRecord 5 l s.noTime (monoStep (settleForces (s.modSec fun k => { k with lifecycle := l })))

/-- Step 7 of R390 and the ends of R391. The read-back fails only where its force bit is armed (R411). -/
def zeroEnd (z : Zeroizing) (s : State) : State :=
  let s := s.modSec fun k => { k with zero := none }
  let s := z.forced.foldl (fun s d =>
    if (s.domain d.1).force = 0 then s else s.setDomain d.1 { s.domain d.1 with state := (s.domain d.1).force - 1, exiting := false }) s
  let s := secInt 1 s
  if (s.fault 3 0).forced.testBit 12 then
    let s := reportFault (readbackFault true) (unforce 3 0 12 s)
    let s := secInt 6 (s.modSec fun k => { k with secFault := true })
    let s := closeCmd 0x0C03 0 .notPermitted 0 [] s
    let s := closeCmd 0x0C02 0 .internalError 3 [] s
    if z.cause = 3 then closeCmd 0x0C00 0 .ok 0 [] (advanceTo 4 s) else s
  else match z.cause with
    | 0 =>
      if z.tampered || z.removal then
        closeCmd 0x0C03 0 .notPermitted 0 [] (settleForces (s.modSec fun k => { k with level := 0, keysBlocked := k.secFault }))
      else closeCmd 0x0C03 0 .ok 0 [] (secInt 2 (settleForces (s.modSec fun k => { k with level := z.level })))
    | 3 => closeCmd 0x0C00 0 .ok 0 [] (advanceTo 4 (s.modSec fun k => { k with keysBlocked := k.secFault || k.level != 0 }))
    | _ => closeCmd 0x0C02 0 .ok 0 [] (s.modSec fun k => { k with keysBlocked := k.secFault || k.level != 0 })

/-- ZEROIZE_KEYS_CLEAR: the sequence goes on once every woken domain is in PS0. -/
def zeroizeKeysClear (s : State) : State :=
  match s.sec.zero with
  | none => s
  | some z => if z.woken.all fun d => (s.domain d).state == 0 then zeroEnd z (keysClear s) else s

def execZeroizeKeysClear (s : State) : Host.Outcome State Fault Refusal := keep s (zeroizeKeysClear s)

/-- ZEROIZE: the reply follows the sequence; refused while one runs (R389). -/
def zeroizeBody : CmdBody := fun c s =>
  if s.sec.zero.isSome then .refuse .busyPending 0
  else .later (openCmd 0x0C02 0 c (zeroStart { cause := 1 } s))

/-- The tamper response (R385, R391): `source` is the bit of TAMPER_STATUS; VBAT (1) is one only while main power is absent. -/
def tamper (source : Nat) (s : State) : State :=
  if 5 ≤ source ∨ (source = 1 ∧ s.power.mainPower) then s
  else
    let s := s.modSec fun k => { k with tamper := 2 ^ source }
    if !s.power.mainPower then lockerRecord 2 (2 ^ source) true (monoStep (lockerClear s))
    else
      let s := when (s.sec.level != 0) (secInt 3) s
      let s := secInt 0 (settleForces (s.modSec fun k => { k with level := 0 }))
      match s.sec.zero with
      | some z => monoStep (s.modSec fun k => { k with zero := some { z with tampered := true } })
          |> lockerRecord 2 (2 ^ source) s.noTime
      | none => zeroStart { cause := 2 } s

/-- On VBAT alone the locker responds although the rest of the part has stopped (R385, R441). -/
def execTamper (source : Nat) (s : State) : Host.Outcome State Fault Refusal :=
  if s.power.mainPower then keep s (tamper source s) else keepOn s (tamper source s)

/-! ### LIFECYCLE_ADVANCE (R373, R374) -/

/-- The 48 hash words of an advance to PROVISIONED. -/
def hashWords (c : Cmd) : List W := (c.params.drop 1).take 48

/-- LIFECYCLE_ADVANCE. -/
def lifecycleAdvanceBody : CmdBody := fun c s =>
  let target := fld (c.p 0) 2 0
  let now := s.sec.lifecycle
  if now = 4 || !(target == now + 1 || target == 4) || fld (c.p 0) 63 32 != 0x4C435943 then bad 0
  else if s.sec.level ≠ 0 ∧ target ≠ 4 then .refuse .notPermitted 0
  else if s.sec.zero.isSome then .refuse .busyPending 0
  else if target = 4 then .later (openCmd 0x0C00 0 c (zeroStart { cause := 3 } s))
  else if target = 2 then
    let h := hashWords c
    match (List.range 48).find? fun i => !s.sec.burned.isEmpty && s.sec.burned.getD i 0 != h.getD i 0 with
    | some i => bad (i + 1)
    | none =>
      .done [] (advanceTo 2 (s.modSec fun k => { k with ownerHash := h.take 24, debugHash := h.drop 24, burned := h }))
  else .done [] (advanceTo target s)

/-! ### MACSEC_KEY_INSTALL (R380, R381) -/

/-- Fields of word 0 (Table 16-5). -/
def kiKind (c : Cmd) : Nat := fld (c.p 0) 63 61
def kiSlot (c : Cmd) : Nat := fld (c.p 0) 37 32
def kiPort (c : Cmd) : Nat := fld (c.p 0) 31 23
def kiSc (c : Cmd) : Nat := fld (c.p 0) 21 19
def kiAn (c : Cmd) : Nat := fld (c.p 0) 17 16

/-- The association that a block describes. -/
def saOf (c : Cmd) (key : List W) : Sa :=
  { sci := c.p 1, ssci := fld (c.p 2) 63 32, salt := fld (c.p 2) 31 0 * 2 ^ 64 + c.n 3, pn := c.n 4, key := key }

/-- SA memory is written: the words of an association of a port (address by kind, SC and AN). -/
def saWrite (port a : Nat) (s : State) : State := memWriteN 10 (port / 8) 0 (1024 * (port % 8) + 16 * a) 16 s

/-- A port runs MACsec from its first association on (R379). -/
def portKeyed (port : Nat) (s : State) : State := s.modPort port fun x => { x with macsec := true }

/-- The words of an association's memory, or of another run, read 0 and take no flip-mask (R410). -/
def keyWordsClear (b n mem a k : Nat) (s : State) : State := (List.range k).foldl (fun s i => memClear b n mem (a + i) s) s

/-- DELETE: a KEK slot (PORT 511, SC 7), a PTP entry (PORT 511 otherwise), else the receive association of (SC, AN) and, for
SC 0, the transmit association of AN. -/
def keyDelete (c : Cmd) (s : State) : State :=
  let p := kiPort c
  let sc := kiSc c
  let an := kiAn c
  if p = 511 ∧ sc = 7 then keyWordsClear 3 0 0 (8 + 4 * kiSlot c) 4 (s.modSec fun k => { k with kek := tset [] k.kek (kiSlot c) [] })
  else if p = 511 then
    keyWordsClear 3 0 1 (4 * (4 * sc + an)) 4 (s.modSec fun k => { k with ptpKeys := tset [] k.ptpKeys (4 * sc + an) [] })
  else
    let s := keyWordsClear 10 (p / 8) 0 (1024 * (p % 8) + 16 * (4 + 4 * sc + an)) 16 s
    let s := when (sc == 0) (keyWordsClear 10 (p / 8) 0 (1024 * (p % 8) + 16 * an) 16) s
    s.modSec fun k => { k with
    rxSa := tset {} k.rxSa (32 * p + 4 * sc + an) {}
    txSa := if sc = 0 then tset {} k.txSa (4 * p + an) {} else k.txSa
    txAn := if sc = 0 ∧ tget none k.txAn p = some an then tset none k.txAn p none else k.txAn }

/-- MACSEC_KEY_INSTALL of every kind. -/
def macsecBody : CmdBody := fun c s =>
  let l := s.sec.lifecycle
  if l = 0 || l = 4 || s.sec.level ≠ 0 || s.sec.keysBlocked then .refuse .notPermitted 0
  else match kiKind c with
    | 0 => .done [] (memWriteN 3 0 0 (8 + 4 * kiSlot c) 4 (s.modSec fun k => { k with
        kek := tset [] k.kek (kiSlot c) ((c.params.drop 5).take 4) }))
    | 4 => .done [] (keyDelete c s)
    | 1 | 2 | 3 =>
      let kek := tget [] s.sec.kek (kiSlot c)
      let p := kiPort c
      if kek.isEmpty then bad 0
      else if kiKind c ≠ 3 ∧ !(s.prt p).formed then bad 0
      else
        mgmtReads 3 0 0 (8 + 4 * kiSlot c) 4 s fun s =>
          if !c.verified then bad 5
          else
            let key := Config.unwrapKey kek ((c.params.drop 5).take 5)
            if kiKind c = 3 then
              .done [] (memWriteN 3 0 1 (4 * (4 * kiSc c + kiAn c)) 4 (s.modSec fun k => { k with
                ptpKeys := tset [] k.ptpKeys (4 * kiSc c + kiAn c) key }))
            else if kiKind c = 2 then
              let s := s.modSec fun k => { k with rxSa := tset {} k.rxSa (32 * p + 4 * kiSc c + kiAn c) (saOf c key) }
              .done [] (saWrite p (4 + 4 * kiSc c + kiAn c) (portKeyed p s))
            else
              let s := s.modSec fun k => { k with
                txSa := tset {} k.txSa (4 * p + kiAn c) (saOf c key)
                txAn := if bitAt (c.p 0) 40 then tset none k.txAn p (some (kiAn c)) else k.txAn }
              .done [] (saWrite p (kiAn c) (portKeyed p s))
    | _ => bad 0

/-- The domain of the port that an install names. -/
def macsecDomain (c : Cmd) (s : State) : Option Nat :=
  if (kiKind c = 1 ∨ kiKind c = 2 ∨ kiKind c = 4) ∧ (s.prt (kiPort c)).formed then some (domTile (tileOf (kiPort c))) else none

/-! ### Debug access (R386 to R389) -/

/-- CHALLENGE (R387): a nonce from the DRBG, free words. -/
def debugChallengeBody : CmdBody := fun c s =>
  let level := fld (c.p 0) 9 8
  if level ≠ 1 ∧ level ≠ 2 then bad 0
  else
    let r := (List.range 4).foldl (fun (a : List W × State) _ => let f := takeFree a.2; (a.1 ++ [f.1], f.2)) ([], s)
    let ch : Challenge := { src := c.src, level := level, nonce := r.1, mono := s.mono, tick := s.tick }
    .done ([Config.deviceUid] ++ r.1 ++ [BitVec.ofNat 64 s.mono, mk 2 0 s.sec.lifecycle ||| mk 9 8 s.sec.level])
      (r.2.modSec fun k => { k with challenge := some ch })

/-- Is the challenge live for a source? -/
def State.challengeFor (s : State) (src : Source) : Option Challenge :=
  match s.sec.challenge with
  | some ch => if ch.src = src then some ch else none
  | none => none

/-- PART (R387): words into the staging buffer. -/
def debugPartBody : CmdBody := fun c s =>
  let off := fld (c.p 0) 31 16
  let ws := c.params.drop 1
  if (s.challengeFor c.src).isNone then .refuse .notPermitted 0
  else if ws.isEmpty || 28 < ws.length || 1024 < off + ws.length then bad 0
  else
    let st := (List.range ws.length).foldl (fun (t : Tbl W) i => tset 0 t (off + i) (ws.getD i 0)) s.sec.staging
    .done [] (memWriteN 3 0 2 off ws.length (s.modSec fun k => { k with staging := st }))

/-- Does a token match its challenge and name a usable debug key (R388, Table 16-9)? -/
def State.tokenOk (s : State) (ch : Challenge) (t : List W) (ok : Bool) : Bool :=
  let w0 := t.getD 0 0
  t.length == 935 && fld w0 63 32 == 0x44424754 && fld w0 31 16 == 1 && fld w0 15 8 == ch.level && t.getD 1 0 == Config.deviceUid
    && (t.drop 2).take 4 == ch.nonce && (t.getD 6 0).toNat == ch.mono && s.keyUsable 2 (fld w0 7 0) && ok

/-- An OPEN that fails R388: the challenge ends, TOKEN_REJECT is counted. -/
def tokenReject (s : State) : State := secInt 4 ((s.modSec fun k => { k with challenge := none }).bump .secCnt [] 63 48)

/-- OPEN (R388 to R390): the reply follows the zeroization. A challenge serves its first OPEN only. -/
def debugOpenBody : CmdBody := fun c s =>
  if s.sec.zero.isSome then .refuse .busyPending 0
  else match s.challengeFor c.src with
    | none =>
      if s.sec.challenge.isNone ∧ (s.sec.lifecycle = 2 ∨ s.sec.lifecycle = 3) then .failed .notPermitted 0 (tokenReject s)
      else .refuse .notPermitted 0
    | some ch =>
      if ch.level ≤ s.sec.level then .failed .paramInvalid 0 (s.modSec fun k => { k with challenge := some { ch with used := true } })
      else
        let given := c.params.drop 1
        let token := if given.isEmpty then (List.range 935).map fun i => tget 0 s.sec.staging i else given
        let free := s.sec.lifecycle < 2 || s.sec.lifecycle == 4
        let go := fun (s : State) => CmdResult.later (openCmd 0x0C03 0 c
          (zeroStart { cause := 0, level := ch.level } (s.modSec fun k => { k with challenge := none })))
        if free then go s
        else mgmtReads 3 0 2 0 (if given.isEmpty then 935 else 0) s fun s =>
          if !ch.used && s.tokenOk ch token c.verified then go s else .failed .notPermitted 0 (tokenReject s)

/-- DEBUG_OPEN by its PHASE. -/
def debugBody : CmdBody := fun c s =>
  if s.sec.zero.isSome then .refuse .busyPending 0
  else match fld (c.p 0) 1 0 with
    | 0 => debugChallengeBody c s
    | 1 => debugPartBody c s
    | 2 => debugOpenBody c s
    | _ => bad 0

/-- A challenge lapses 60 s after it was drawn (R387). -/
def challengeLapse (s : State) : State :=
  match s.sec.challenge with
  | some ch => if ch.tick + 60 * secTicks ≤ s.tick then s.modSec fun k => { k with challenge := none } else s
  | none => s

def execChallengeLapse (s : State) : Host.Outcome State Fault Refusal := keep s (challengeLapse s)

/-- SEC_STATUS (Table 16-14). -/
def State.secStatusView (s : State) : W :=
  let k := s.sec
  Machine.mk 63 61 k.lifecycle ||| Machine.mk 60 59 k.level ||| Machine.mk 58 58 (b2n k.zero.isSome) ||| Machine.mk 57 57 (b2n k.keysBlocked)
    ||| Machine.mk 56 56 (b2n k.secFault) ||| Machine.mk 55 55 (b2n k.lockerLost) ||| Machine.mk 54 54 (b2n k.suspect)
    ||| Machine.mk 53 53 (b2n k.challenge.isSome) ||| Machine.mk 52 48 k.recHead ||| Machine.mk 47 43 k.loss ||| Machine.mk 42 42 (b2n k.floorFull)

/-- ROLLBACK_FLOOR and FUSE_KEYS (Table 16-13). -/
def State.rollbackView (s : State) : W :=
  Machine.mk 15 0 (s.floor 0) ||| Machine.mk 31 16 (s.floor 1) ||| Machine.mk 47 32 (s.floor 2) ||| Machine.mk 63 48 (s.floor 3)

def State.fuseKeysView (s : State) : W :=
  let keys := fun (set : Nat) => maskOf 4 fun i => s.keyUsable set i
  Machine.mk 3 0 (keys 0) ||| Machine.mk 7 4 (keys 1) ||| Machine.mk 11 8 (keys 2) ||| Machine.mk 21 16 (s.floorSlots 0).length ||| Machine.mk 27 22 (s.floorSlots 1).length
    ||| Machine.mk 33 28 (s.floorSlots 2).length ||| Machine.mk 39 34 (s.floorSlots 3).length

end Sys2Proof.Machine
end

