-- ==== Sys2Proof/Machine/Engines.lean ====
section
/-! DEFINITION. The Hook engines but for their microwords (chapter 11): registers and LOCAL, dispatch, traps, preemption, waits,
vector operations, watchdogs, failures, service shares. Memory codes of block 8 in Table 20-2: 0 and 1 control stores, 2 dispatch
table, 3 CLUSTER, 4 dispatch queue, 5 LOCAL, 6 TXBUF, 7 registers and link stacks. -/

namespace Sys2Proof.Machine

/-! ### Engines and what they hold (R243, Table 11-1) -/

/-- Engine e of cluster q. -/
def State.eng (s : State) (q e : Nat) : Engine := tget {} (s.cluster q).engines e

/-- Change engine e of cluster q. -/
def State.modEng (s : State) (q e : Nat) (f : Engine → Engine) : State :=
  let c := s.cluster q
  s.setCluster q { c with engines := tmod {} c.engines e f }

/-- A word of LOCAL: after a loss, words not written since are free values. -/
def Engine.local_ (n : Engine) (a : Nat) : W72 :=
  match tget none n.scratch a, n.lost with
  | some w, _ => w
  | none, none => 0
  | none, some k => BitVec.ofNat 72 ((Config.freeWord (k + 2 * a)).toNat + 2 ^ 64 * (Config.freeWord (k + 2 * a + 1)).toNat)

/-- Working register r: W0 reads 0. -/
def Engine.reg (n : Engine) (r : Nat) : W72 := if r = 0 then 0 else tget 0 n.regs r

/-- Write a working register: W0 ignores writes. -/
def Engine.setReg (n : Engine) (r : Nat) (v : W72) : Engine := if r = 0 then n else { n with regs := tset 0 n.regs r v }

/-- Address of a register or link-stack entry (32 + i) of engine e among the words of memory 7. -/
def regAddrOf (e i : Nat) : Nat := 64 * e + i

/-- Write a register of an engine, which may take a flip-mask. -/
def putReg (q e r : Nat) (v : W72) (s : State) : State :=
  if r = 0 then s else memWrite 8 q 7 (regAddrOf e r) (s.modEng q e fun n => n.setReg r v)

/-- Write a word of LOCAL. -/
def putLocal (q e a : Nat) (v : W72) (s : State) : State :=
  memWrite 8 q 5 (2048 * e + a) (s.modEng q e fun n => { n with scratch := tset none n.scratch a (some v) })

/-- The clocks of a routine at a tick: two per tick of the time clock while it runs (1.6 GHz against 800 MHz). -/
def Routine.count (r : Routine) (tick : Nat) : Nat := r.clocks + match r.since with | some t => 2 * (tick - t) | none => 0

/-- The count of a routine stands, or goes on. -/
def Routine.pause (r : Routine) (tick : Nat) : Routine := { r with clocks := r.count tick, since := none }
def Routine.resume (r : Routine) (tick : Nat) : Routine := if r.since.isSome then r else { r with since := some tick }

/-- Is an engine idle: in service and running nothing? -/
def Engine.idle (n : Engine) : Bool := n.routine.isNone && !n.failed && n.vec.isNone

/-- May an interrupt be taken (R260): no handler, no preempting routine; `whole` also waits for a vector operation of any kind
(a forced swap), else only for one that the engine waits for. -/
def Engine.interruptible (n : Engine) (whole : Bool) : Bool :=
  n.routine.isSome && !n.failed && n.handler.isNone && n.under.isNone
    && match n.vec with | none => true | some v => v.async && !whole

/-- Count the busy clocks of a routine that stops into HK_ENGINE_CNT (units of 1,024), and the routine as ended. -/
def countBusy (q e : Nat) (r : Routine) (ended : Bool) (s : State) : State :=
  let b := (s.eng q e).busy + r.count s.tick
  let s := (s.modEng q e fun n => { n with busy := b % 1024 }).bump .hkEngineCnt [q, e] 31 0 (b / 1024)
  when ended (fun s => s.bump .hkEngineCnt [q, e] 63 32) s

/-! ### Service shares (R480) -/

/-- Fields of a service entry (Table 11-17). -/
def svEngine (w : W) : Nat := fld w 63 60
def svMask (w : W) : Nat := fld w 59 44
def svShares (w : W) : Nat := fld w 43 42 + 1
def svBlocks (w : W) : Nat := fld w 14 0

/-- A service entry that R480 admits. -/
def svOk (w : W) : Bool := (svMask w).testBit (svEngine w) && svShares w ≤ popcount 16 (svMask w)

/-- The engine of share k of a service entry: the k-th engine of the mask counted upward from SHARE_ENGINE, wrapping. -/
def svHolder (w : W) (k : Nat) : Nat :=
  ((((List.range 16).map fun i => (svEngine w + i) % 16).filter fun e => e == svEngine w || (svMask w).testBit e)).getD k (svEngine w)

/-- The entry of a service in the active bank. -/
def Cluster.service (c : Cluster) (v : Nat) : W := tget 0 c.services (16 * c.active + v)

/-- The share map that the entries of the active bank give. -/
def Cluster.mapShares (c : Cluster) : Tbl Nat :=
  (List.range 16).foldl (fun m v => (List.range (svShares (c.service v))).foldl (fun m k =>
    tset 0 m (4 * v + k) (svHolder (c.service v) k)) m) []

/-- The engine of share k of a service: a service with fewer shares reads its share 0. -/
def Cluster.shareOf (c : Cluster) (v k : Nat) : Nat := tget 0 c.shares (4 * v + if k < svShares (c.service v) then k else 0)

/-- Does the boundary clock run: cluster 0 has an image and its service 1 a share? -/
def bcUpdate (s : State) : State :=
  let c := s.cluster 0
  { s with mast := { s.mast with bcRunning := tget 0 c.epochs c.active != 0 && svMask (c.service 1) != 0 } }

/-! ### Control stores (R245) -/

/-- Microaddress a of a bank: the microword, or none when its word is uncorrectable. -/
def fetchMicro (q bank a : Nat) (s : State) : Option Nat × State :=
  let r := memRead 8 q bank (a / 3) 4 s
  let w := tget 0 (s.cluster q).store (16384 * bank + a / 3) ^^^ BitVec.ofNat 72 r.diff
  (if r.ok then some (fld72 w (24 * (a % 3) + 23) (24 * (a % 3))) else none, r.st)

/-! ### Dispatch (R252, R253) -/

/-- Fields of a dispatch entry (Table 11-8). -/
def deValid (w : W) : Bool := bitAt w 63
def dePlace (w : W) : Nat := fld w 62 61
def dePreempt (w : W) : Bool := bitAt w 58
def deRestart (w : W) : Bool := bitAt w 57
def deEntry (w : W) : Nat := fld w 56 41
def deMask (w : W) : Nat := fld w 40 25
def deService (w : W) : Nat := fld w 24 21
def deBudget (w : W) : Nat := fld w 20 13

/-- The engines that an event may go to: the lowest first. -/
def State.targets (s : State) (q : Nat) (v : HkEvent) (ent : W) : List Nat :=
  let c := s.cluster q
  if dePlace ent = 1 then [(s.skein v.skein).home]
  else if dePlace ent = 2 then
    if v.opcode = 7 then [c.shareOf (v.payload % 16) (v.payload / 256 % 4)]
    else
      let key := if v.source = 0 ∨ v.source = 2 then v.port else v.payload % 256
      [c.shareOf (deService ent) (key % svShares (c.service (deService ent)))]
  else bitsOf 16 (deMask ent)

/-- The engine that takes an event now. -/
def State.dispatchTo (s : State) (q : Nat) (v : HkEvent) (ent : W) : Option Nat :=
  (s.targets q v ent).find? fun e => (s.eng q e).idle

/-- The events of a queue in the order of dispatch: highest priority first, then arrival. -/
def Cluster.ordered (c : Cluster) : List HkEvent := [3, 2, 1, 0].flatMap fun p => c.queue.filter fun v => v.prio == p

/-- May an event be dispatched by the order of Stitches: opcode 0x00 strictly in admission order? -/
def Cluster.inTurn (c : Cluster) (v : HkEvent) : Bool := v.opcode != 0 || c.queue.all fun w => w.opcode != 0 || v.order ≤ w.order

/-- An event leaves the queue. -/
def unqueue (q : Nat) (v : HkEvent) (s : State) : State := let c := s.cluster q; s.setCluster q { c with queue := c.queue.erase v }

/-- The routine of an event as its dispatch entry starts it. -/
def routineOf (v : HkEvent) (ent : W) (bank tick : Nat) : Routine :=
  { event := v, bank := bank, service := deService ent, budget := deBudget ent, restart := deRestart ent, prio := fld ent 60 59
    since := some tick }

/-- Start the routine of an event on an engine. -/
def startRoutine (q e : Nat) (v : HkEvent) (ent : W) (s : State) : State :=
  let bank := (s.cluster q).active
  s.modEng q e fun n => { n with
    links := [], pc := deEntry ent, routine := some (routineOf v ent bank s.tick), under := none, handler := none, wait := none }

/-- The next event that an idle engine can take goes to it; an event whose entry in the active bank is no longer valid is dropped
(R253, R252). -/
def eventDispatch (q : Nat) (s : State) : State :=
  let c := s.cluster q
  let ent := fun (v : HkEvent) => c.entry c.active v.opcode
  if !s.awake (domCluster q) then s
  else match c.ordered.find? fun v => c.inTurn v && (!deValid (ent v) || (s.dispatchTo q v (ent v)).isSome) with
    | none => s
    | some v =>
      let r := memRead 8 q 2 (2 * v.opcode + c.active) 4 (unqueue q v s)
      let w := r.data (ent v)
      let lost := fun (s : State) => when (v.opcode == 0) (stitchDone v []) (s.bump .hkCnt0 [q] 63 48)
      if !r.ok || !deValid w then lost r.st
      else match r.st.dispatchTo q v w with
        | some e => startRoutine q e v w r.st
        | none => let c := r.st.cluster q; r.st.setCluster q { c with queue := v :: c.queue }

def execEventDispatch (cluster : Nat) (s : State) : Host.Outcome State Fault Refusal := keep s (eventDispatch (cluster % 4) s)

/-! ### Engine failure (R267, R268) -/

/-- The fault class of a RESIDUE or a WATCHDOG_HANG (Table 17-3); the other causes of Table 11-14 have no class of their own or are
reported where they are found. -/
def causeClass (cause : Nat) : Nat := if cause = 4 then 7 else 8

/-- The events whose routines an engine loses: not committed, no Stitch. -/
def abandoned (n : Engine) : List HkEvent :=
  ((n.routine.toList ++ n.under.toList).filter fun r => !r.committed && r.event.opcode != 0).map (·.event)

/-- An engine fails (R267 to R269, R219). -/
def failEngine (q e cause : Nat) (s : State) : State :=
  let n := s.eng q e
  if n.failed then s
  else
    let lost := abandoned n
    let stitch := ((n.routine.toList ++ n.under.toList).find? fun r => !r.committed && r.event.opcode == 0).map (·.event)
    let s := match n.routine with | some r => countBusy q e r false s | none => s
    let s := s.modEng q e fun n => { n with
      failed := true, selftest := none, routine := none, under := none, handler := none, wait := none, vec := none, swap := false
      scratch := [], lost := some s.freeCtr }
    let s := { s with freeCtr := s.freeCtr + 4096 }
    let c := s.cluster q
    let held := c.shares.filter fun x => x.2 == e && x.1 % 4 < svShares (c.service (x.1 / 4))
    let zero := if e = 0 then ((List.range 64).filter fun k => k % 4 < svShares (c.service (k / 4)) && svMask (c.service (k / 4)) != 0
      && c.shareOf (k / 4) (k % 4) == 0) else []
    let ks := held.map (·.1) ++ zero
    let s := s.setCluster q { c with
      lastFault := e + 16 * cause, faults := satAdd 16 c.faults 1
      moves := c.moves ++ ks.map fun k => { service := k / 4, share := k % 4, old := e, tick := s.tick } }
    let s := s.bump .hkCnt1 [q] 63 48 lost.length
    let s := skeinEngineFails q e stitch s
    let s := bumpEpoch (ekCluster q) (domCluster q) s
    let s := postHook q { w0 := evWord0 5 4 0 (e + 16 * cause), hard := true } s
    let s := raiseInt 8 .hkIntStatus [q] 0 s
    let w := mk 63 62 q ||| mk 23 8 (s.cluster q).faults ||| mk 7 0 (e + 16 * cause)
    let s := postEvent 9 [w] s
    when (cause == 4 || cause == 5)
      (reportFault { block := 8, inst := q, cls := causeClass cause, sev := 2, req := 4 }) s

/-- A read of a register that must not be uncorrectable: else the engine fails with REGISTER_UE. The data as read, none after a
failure. -/
def getReg (q e r : Nat) (s : State) : Option W72 × State :=
  if r = 0 then (some 0, s)
  else
    let x := memRead 8 q 7 (regAddrOf e r) 4 s
    if x.ok then (some ((s.eng q e).reg r ^^^ BitVec.ofNat 72 x.diff), x.st) else (none, failEngine q e 2 x.st)

/-- A read of a word of LOCAL: an uncorrectable one fails the engine with LOCAL_UE. -/
def getLocal (q e a : Nat) (s : State) : Option W72 × State :=
  let x := memRead 8 q 5 (2048 * e + a) 4 s
  if x.ok then (some ((s.eng q e).local_ a ^^^ BitVec.ofNat 72 x.diff), x.st) else (none, failEngine q e 3 x.st)

/-! ### Micro-traps (R258 to R260, Table 11-11) -/

/-- Word 0 of the trap frame. -/
def frameWord (pc cls opcode bank : Nat) (n : Engine) (inWait more : Bool) : W72 :=
  BitVec.ofNat 72 (pc % 65536 * 2 ^ 48 + b2n n.z * 2 ^ 44 + b2n n.n * 2 ^ 45 + b2n n.c * 2 ^ 46 + b2n n.v * 2 ^ 47 + cls % 16 * 2 ^ 40
    + opcode % 256 * 2 ^ 32 + bank % 2 * 2 ^ 31 + b2n inWait * 2 ^ 30 + b2n more * 2 ^ 29)

/-- Save the trap frame of an engine: its class, cause, registers of a mask, the microaddress. -/
def saveFrame (q e cls cause mask pc : Nat) (more : Bool) (s : State) : State :=
  let n := s.eng q e
  match n.routine with
  | none => s
  | some r =>
    let m := mask / 2 * 2
    let s := putLocal q e 1984 (frameWord pc cls r.event.opcode r.bank n n.wait.isSome more) s
    let s := putLocal q e 1985 (BitVec.ofNat 72 (m % 2 ^ 32 * 2 ^ 32 + cause % 2 ^ 32)) s
    ((bitsOf 32 m).foldl (fun (a : Nat × State) k =>
      match getReg q e k a.2 with
      | (some w, s) => (a.1 + 1, putLocal q e (1986 + a.1) w s)
      | (none, s) => (a.1 + 1, s)) (0, s)).2

/-- The vector of a class in a bank: ENTRY and SAVE_MASK. An uncorrectable vector word is no vector: the trap is a DOUBLE_FAULT. -/
def readVector (q cls bank : Nat) (s : State) : Option (Nat × Nat) × State :=
  let c := s.cluster q
  let r := memRead 8 q 2 (2 * (0xF8 + cls) + bank) 4 s
  let w := r.data (c.entry bank (0xF8 + cls))
  (if r.ok then some (deEntry w, fld w 40 9) else none, r.st)

/-- Take a micro-trap of a class with its cause, at a microaddress; the handler runs in `bank`. A register that cannot be saved fails the
engine (R267). -/
def takeTrap (q e cls cause pc bank : Nat) (more : Bool) (s : State) : State :=
  let n := s.eng q e
  if n.routine.isNone then s
  else if n.handler.isSome then failEngine q e 1 s
  else match readVector q cls bank s with
    | (none, s) => failEngine q e 1 s
    | (some (entry, mask), s) =>
      let s := saveFrame q e cls cause mask pc more s
      if (s.eng q e).failed then s
      else s.modEng q e fun n => { n with
        pc := entry, handler := some cls, trapTick := s.tick, wait := none
        routine := n.routine.map fun r => { (r.resume s.tick) with wait := n.wait, links := n.links, bank := bank } }

/-- A fault trap at the microword being executed, which has written nothing. -/
def faultTrap (q e cls cause : Nat) (s : State) : State :=
  match (s.eng q e).routine with
  | none => s
  | some r => takeTrap q e cls cause (s.eng q e).pc r.bank false s

/-! ### Commit and end of a routine (R243, R265) -/

/-- A Stitch retired without its arithmetic, or a CLOSE event whose routine has ended, has done its work. -/
def retireEvent (v : HkEvent) (s : State) : State :=
  if v.opcode = 0 then stitchDone v [] s
  else if v.opcode = 1 then
    match (s.skein v.skein).insts.find? fun i => i.ix == fld v.w1 39 39 && i.closing && i.posted with
    | some i => freeInstance v.skein i (i.flags (s.skein v.skein)) s
    | none => s
  else s

/-- An old bank stops draining when no engine runs in it (R262 step 4). -/
def Cluster.runsIn (c : Cluster) (bank : Nat) : Bool :=
  c.engines.any fun x => (x.2.routine.any fun r => r.bank == bank) || (x.2.under.any fun r => r.bank == bank)

/-- A forced swap of an engine that still runs in the old bank (R264, R265): its event is retired, queued again or dropped, and
its FORCED_SWAP handler runs in the new bank; the handler's END finds the event settled. -/
def forcedSwap (q e : Nat) (s : State) : State :=
  match (s.eng q e).routine with
  | none => s
  | some r =>
    let c := s.cluster q
    let v := r.event
    let s : State :=
      if r.settled then s
      else if r.committed then retireEvent v s
      else if r.restart then
        let v' := { v with front := true }
        let ahead := c.queue.filter fun w => w.front && decide (w.seq < v.seq)
        let rest := c.queue.filter fun w => !(w.front && decide (w.seq < v.seq))
        s.setCluster q { c with queue := ahead ++ v' :: rest }
      else retireEvent v (s.bump .hkCnt0 [q] 15 0)
    let s := s.modEng q e fun n => { n with swap := false, routine := n.routine.map fun r => { r with committed := true, settled := true } }
    let s := raiseInt 8 .hkIntStatus [q] 3 s
    takeTrap q e 6 (tget 0 c.epochs c.active) (s.eng q e).pc c.active false s

/-- Force-swap an engine if it runs in a bank that is not active: at once, or when it may be interrupted. -/
def swapEngine (q e : Nat) (s : State) : State :=
  let n := s.eng q e
  let old := fun (r : Option Routine) => r.any fun r => r.bank != (s.cluster q).active
  if !old n.routine && !old n.under then s
  else if n.interruptible true then forcedSwap q e s
  else s.modEng q e fun n => { n with swap := true }

/-- A forced swap that waited is taken as soon as it may be. -/
def pendingSwap (q e : Nat) (s : State) : State :=
  let n := s.eng q e
  if n.swap && n.interruptible true then swapEngine q e (s.modEng q e fun n => { n with swap := false }) else s

/-- What the shipped export service does with an event of postcards (R281): the message of Table 12-6 through the collector's port, queue
and output header template. Its microcode is not in the spec: the effect comes at the END of a routine of service 4 for such an event
that has executed no SEND of its own; FLOW_CLASS is a free value (log 84). -/
def exportCards (q : Nat) (r : Routine) (s : State) : State :=
  let v := r.event
  if v.opcode ≠ 0x30 ∨ v.source ≠ 4 ∨ r.service ≠ 4 ∨ r.sent then s
  else
    let c := s.cluster q
    let t := v.payload % 16
    let n := v.pkt.length / 64
    let w := s.rg .telCollector [v.payload / 16 % 8]
    let port := fld w 63 55
    let b := s.outHeader (fld w 50 39) port ++ [0x20, 0x01] ++ bytesBE 1 n ++ [0] ++ bytesBE 2 (s.deviceId % 4096) ++ bytesBE 1 t ++ [0]
      ++ bytesBE 4 (tget 0 c.exportSeq t) ++ bytesBE 4 (tget 0 c.cardDrops t) ++ v.pkt
    let s := s.setCluster q { c with
      exportSeq := tmod 0 c.exportSeq t fun k => (k + n) % 2 ^ 32, cardDrops := tset 0 c.cardDrops t 0 }
    let f := takeFree s
    when (s.linkUp port) (injectFrame port (fld w 54 51) (fld f.1 2 0) none b) f.2

/-- `END`: the routine ends and its event commits. A preempting routine restores the frame and resumes the preempted routine; a
handler's END ends the trapped routine. -/
def endRoutine (q e : Nat) (s : State) : State :=
  match (s.eng q e).routine with
  | none => s
  | some r =>
    let s := countBusy q e r true s
    let s := s.modEng q e fun n => { n with routine := none, handler := none, wait := none, swap := n.swap && n.under.isSome }
    if r.settled then s else retireEvent r.event (exportCards q r s)

/-- Restore the registers, FLAGS and microaddress that a trap frame holds: the words of the frame, none when the engine failed. -/
def restoreFrame (q e : Nat) (s : State) : Option (W72 × W72) × State :=
  match getLocal q e 1984 s with
  | (none, s) => (none, s)
  | (some w, s) => match getLocal q e 1985 s with
    | (none, s) => (none, s)
    | (some m, s) =>
      let s := ((bitsOf 32 (fld72 m 63 33 * 2)).foldl (fun (a : Nat × State) k =>
        match getLocal q e (1986 + a.1) a.2 with
        | (some v, s) => (a.1 + 1, putReg q e k v s)
        | (none, s) => (a.1 + 1, s)) (0, s)).2
      if (s.eng q e).failed then (none, s)
      else
        let b := fun (i : Nat) => fld72 w i i == 1
        (some (w, m), s.modEng q e fun n => { n with z := b 44, n := b 45, c := b 46, v := b 47 })

/-! ### Preemption (R255) -/

/-- The engine that a preempting event takes: running the lowest-priority routine below 3, neither preempted nor in a handler, the
highest number among equals. -/
def State.preemptable (s : State) (q : Nat) (es : List Nat) : Option Nat :=
  es.foldl (fun (a : Option Nat) e =>
    match (s.eng q e).routine with
    | none => a
    | some r =>
      if 3 ≤ r.prio || (s.eng q e).under.isSome || (s.eng q e).handler.isSome || (s.eng q e).failed then a
      else match a with
        | none => some e
        | some b => match (s.eng q b).routine with
          | some rb => if r.prio ≤ rb.prio then some e else some b
          | none => some e) none

/-- A priority-3 event with PREEMPT = 1 that finds no eligible engine idle preempts one. Where the engine fails over its frame, the event
stays in the queue. -/
def preempt (q : Nat) (s : State) : State :=
  let c := s.cluster q
  let ent := fun (v : HkEvent) => c.entry c.active v.opcode
  let fits := fun (v : HkEvent) => v.prio == 3 && c.inTurn v && deValid (ent v) && dePreempt (ent v) && (s.dispatchTo q v (ent v)).isNone
    && (s.preemptable q (s.targets q v (ent v))).isSome
  if !s.awake (domCluster q) then s
  else match c.ordered.find? fits with
    | none => s
    | some v =>
      match s.preemptable q (s.targets q v (ent v)) with
      | none => s
      | some e =>
        if !(s.eng q e).interruptible false || (s.eng q e).swap then s
        else match readVector q 5 ((s.eng q e).routine.elim 0 (·.bank)) s with
          | (none, s) => failEngine q e 1 s
          | (some (_, mask), s) =>
            let s := saveFrame q e 5 v.opcode mask (s.eng q e).pc false s
            if (s.eng q e).failed then s
            else
            let s := (unqueue q v s).bump .hkCnt1 [q] 31 0
            s.modEng q e fun n => { n with
              under := n.routine.map fun r => { (r.pause s.tick) with wait := n.wait, links := n.links }
              routine := some (routineOf v (ent v) c.active s.tick), pc := deEntry (ent v), wait := none
              vec := n.vec.map fun x => { x with below := true } }

def execPreempt (cluster : Nat) (s : State) : Host.Outcome State Fault Refusal := keep s (preempt (cluster % 4) s)

/-- `END` of the routine that runs: of a preempting one, the preempted routine resumes, its wait too, and takes the MEM_UE trap of its
vector operation that ended meanwhile. -/
def runEnd (q e : Nat) (s : State) : State :=
  let under := (s.eng q e).under
  let s := endRoutine q e s
  match under with
  | none => s
  | some r => match restoreFrame q e s with
    | (none, s) => s
    | (some (w, _), s) =>
      let r' : Routine := if r.wait.isNone then r.resume s.tick else r
      let s := s.modEng q e fun n => { n with
        under := none, routine := some { r' with wait := none, links := [], trap := none }, wait := r.wait, links := r.links
        pc := fld72 w 63 48, vec := n.vec.map fun x => { x with below := false } }
      pendingSwap q e (match r.trap with
        | some (c, pc, more) => takeTrap q e 0 c pc r.bank more s
        | none => s)

/-! ### Waits (R257) -/

/-- Does the condition of a wait hold? The value for bits [31:0] of the status. -/
def State.waitMet (s : State) (q e : Nat) (w : WaitOn) : Option Nat :=
  match w.cond with
  | 0 =>
    let t := (s.time.replicas.getD (16 + q) {}).t
    let sec := fld w.arg 63 32 + t.sec / 4294967296 * 4294967296
    if sec < t.sec ∨ (sec = t.sec ∧ fld w.arg 31 0 ≤ t.ns) then some 0 else none
  | 1 =>
    let x := s.skein (fld w.arg 63 48)
    if x.insts.any fun i => !i.closing && (tget {} i.strands (fld w.arg 47 40)).bits != 0 then some 0 else w.met
  | 3 => if (tget {} s.mast.txts (fld w.arg 8 0)).entries.isEmpty then none else some 0
  | 5 => if (s.eng q e).signals.testBit (fld w.arg 4 0) then some 0 else none
  | _ => w.met

/-- Is the target of a STRAND or DMA wait gone? -/
def State.waitGone (s : State) (w : WaitOn) : Bool :=
  let x := s.skein (fld w.arg 63 48)
  w.gone || w.cond == 1 && (!x.valid || match w.watch with
    | some n => !(x.insts.any fun i => i.occ == n && !i.closing)
    | none => false)

/-- The status with which a wait ends now. -/
def State.waitStatus (s : State) (q e : Nat) (w : WaitOn) : Option W72 :=
  match s.waitMet q e w with
  | some v => some (BitVec.ofNat 72 (v % 2 ^ 32))
  | none => match w.disc with
    | some ep => some (BitVec.ofNat 72 (2 * 2 ^ 56 + ep % 4))
    | none =>
      if s.waitGone w then some (BitVec.ofNat 72 (3 * 2 ^ 56))
      else match w.deadline with
        | some d => if d ≤ s.tick then some (BitVec.ofNat 72 (2 ^ 56)) else none
        | none => none

/-- End of a wait: the status goes into D and the routine goes on. -/
def waitEnd (q e : Nat) (s : State) : State :=
  let n := s.eng q e
  match n.wait with
  | none => s
  | some w => match s.waitStatus q e w with
    | none => s
    | some v =>
      if !s.awake (domCluster q) || n.routine.isNone then s
      else
        let s := putReg q e w.dreg v s
        s.modEng q e fun n => { n with
          wait := none, routine := n.routine.map fun r => r.resume s.tick
          signals := if w.cond = 5 ∧ n.signals.testBit (fld w.arg 4 0) then n.signals - 2 ^ fld w.arg 4 0 else n.signals }

def execWaitEnd (cluster engine : Nat) (s : State) : Host.Outcome State Fault Refusal := keep s (waitEnd (cluster % 4) (engine % 16) s)

/-- Post an event as HOOK_POST does (R66): it ends the RIGGING waits on its opcode in the cluster, then it is queued. -/
def hookPostTo (q op payload src : Nat) (s : State) : State :=
  let s := markWaits q (fun w => if w.cond = 4 ∧ fld w.arg 7 0 = op then { w with met := some payload } else w) s
  postHook q { w0 := evWord0 op src 0 payload } s

/-- A completion of a DMA channel with a tag satisfies DMA waits (Table 11-9). -/
def dmaWaits (chan tag : Nat) (s : State) : State :=
  (List.range 4).foldl (fun s q =>
    markWaits q (fun w => if w.cond = 2 ∧ fld w.arg 4 0 = chan ∧ fld w.arg 31 16 = tag then { w with met := some tag } else w) s) s

/-- RIGGING waits end with DISCONTINUITY at a step; MAST_TIME waits go on against new time, and one whose time it has reached or passed
has met its condition (R71). -/
def stepWaits (epoch : Nat) (s : State) : State :=
  (List.range 4).foldl (fun s q =>
    markWaits q (fun w => if w.cond = 4 then { w with disc := some epoch } else w) s) s

/-! ### Vector operations (R248, R249) -/

/-- A vector operation completes: a Stitch that the ordering unit lets go computes; the status goes into D; COMMIT commits the
event; an uncorrectable word then traps with MEM_UE, in a preempted routine when it resumes. -/
def vectorOpDone (q e : Nat) (s : State) : State :=
  let n := s.eng q e
  match n.vec with
  | none => s
  | some v =>
    let owner := if v.below then n.under else n.routine
    let held := v.stitch && owner.any fun r => !s.stitchReady r.event
    if held || !s.awake (domCluster q) then s
    else
      let gone := s.modEng q e fun n => { n with vec := none }
      let r : StitchRun := match v.stitch, owner with
        | true, some r =>
          if (s.skein r.event.skein).insts.any fun i => i.outstanding.any fun o => o.order == r.event.order then stitchRun r.event gone
          else { st := gone }
        | _, _ => { st := gone }
      let s := match v.stitch, owner with
        | true, some o => stitchDone o.event r.bad r.st
        | _, _ => r.st
      let s := putReg q e v.dreg v.status s
      let ue := match r.ue with | some a => some (2 * 2 ^ 29 + a) | none => v.ue
      let more := v.more || decide (1 < r.bad.length)
      let s := s.modEng q e fun n =>
        if v.below then { n with
          under := n.under.map fun y => { y with committed := y.committed || v.commit, trap := ue.map fun c => (c, v.pc, more) } }
        else { n with
          routine := n.routine.map fun y => { (if n.wait.isNone then y.resume s.tick else y) with committed := y.committed || v.commit } }
      let s := match ue, (s.eng q e).routine with
        | some c, some y => if v.below then s else takeTrap q e 0 c v.pc y.bank more s
        | _, _ => s
      pendingSwap q e s

def execVectorOpDone (cluster engine : Nat) (s : State) : Host.Outcome State Fault Refusal :=
  keep s (vectorOpDone (cluster % 4) (engine % 16) s)

/-! ### The close of an instance (R208) -/

/-- The MEM_UE trap of the home engine at an uncorrectable word that the close meets (R214, R258): its frame lies in LOCAL. The microaddress,
FLAGS and registers of the shipped CLOSE routine are free values. -/
def closeTrap (q e cause : Nat) (more : Bool) (s : State) : State :=
  let c := s.cluster q
  if (s.eng q e).handler.isSome || (s.eng q e).under.isSome then s
  else match readVector q 0 c.active s with
    | (none, s) => failEngine q e 1 s
    | (some (_, mask), s) =>
      let f := takeFree s
      let b := fun (i : Nat) => bitAt f.1 i
      let s := putLocal q e 1984 (frameWord (fld f.1 15 0) 0 1 c.active { z := b 16, n := b 17, c := b 18, v := b 19 } false more) f.2
      let m := mask / 2 * 2
      let s := putLocal q e 1985 (BitVec.ofNat 72 (m % 2 ^ 32 * 2 ^ 32 + cause % 2 ^ 32)) s
      (List.range (popcount 32 m)).foldl (fun s j => let v := free72 s; putLocal q e (1986 + j) v.1 v.2) s

/-- The records and the rest of a close (R208 steps 3 to 6): emit, trace, free. -/
def finishClose (k : Nat) (i : Instance) (recs : List (List Byte)) (s : State) : State :=
  let x := s.skein k
  let flags := i.flags x
  let s :=
    if i.contrib = 0 ∧ !emitEmpty i.w1 then skCount x.cluster k 13 s
    else
      let s := emitSum k i flags recs s
      when (orderTrace i.w1) (emitTrace k i) s
  freeInstance k i flags (retireClose k i.ix s)

/-- The close of an instance (R208): round and recompress, emit, trace, free. An uncorrectable word traps (R214); without a vector
that can be read the home engine fails instead (R260). -/
def closeInstance (k : Nat) (i : Instance) (s : State) : State :=
  let x := s.skein k
  let r := closePrbs k i x.numPrb s
  let done := fun (i : Instance) (s : State) => finishClose k i r.1.1 (s.modSkein k fun x => { x with sat := satAdd 48 x.sat r.1.2.1 })
  match r.1.2.2 with
  | [] => done i r.2
  | a :: more =>
    let s := closeTrap x.cluster x.home (2 * 2 ^ 29 + a) (!more.isEmpty) (raiseInt 9 .skIntStatus [x.cluster] 6 r.2)
    if (s.eng x.cluster x.home).failed then s else done { i with memErr := true } s

/-- INSTANCE_CLOSE: the home engine runs the close of the Skein's first closing instance when it may. -/
def instanceClose (k : Nat) (s : State) : State :=
  match (s.skein k).firstClosing with
  | none => s
  | some i => if s.closeReady k i then closeInstance k i s else s

def execInstanceClose (skein : Nat) (s : State) : Host.Outcome State Fault Refusal := keep s (instanceClose (skein % 65536) s)

/-! ### Watchdogs, failures and shares (R256, R267 to R269) -/

/-- The WATCHDOG trap of a routine that has run past its BUDGET. -/
def watchdog (q e : Nat) (s : State) : State :=
  let n := s.eng q e
  match n.routine with
  | none => s
  | some r =>
    let k := r.count s.tick
    if r.budget = 0 || k ≤ r.budget * 1024 || r.barked || !n.interruptible false || n.swap then s
    else
      let s := s.modEng q e fun n => { n with routine := n.routine.map fun r => { r with barked := true } }
      takeTrap q e 4 (k / 1024) n.pc r.bank false (raiseInt 8 .hkIntStatus [q] 6 (s.bump .hkCnt1 [q] 47 32))

def execWatchdog (cluster engine : Nat) (s : State) : Host.Outcome State Fault Refusal := keep s (watchdog (cluster % 4) (engine % 16) s)

/-- A WATCHDOG handler that has not ended 65,536 clocks after the trap fails its engine. -/
def watchdogHang (q e : Nat) (s : State) : State :=
  let n := s.eng q e
  if n.handler = some 4 ∧ n.trapTick + 32768 ≤ s.tick then failEngine q e 5 s else s

def execWatchdogHang (cluster engine : Nat) (s : State) : Host.Outcome State Fault Refusal :=
  keep s (watchdogHang (cluster % 4) (engine % 16) s)

/-- A failure that the hardware detects outside a microword: REGISTER_UE, LOCAL_UE, RESIDUE; FORCED only with an armed force bit of
class RESIDUE or HANG of the cluster (R411), which it uses up. Which word of a memory was found bad is not commanded: a free value. -/
def engineFailure (q e cause : Nat) (s : State) : State :=
  if (s.eng q e).failed then s
  else if cause = 2 ∨ cause = 3 then
    let f := takeFree s
    let a := if cause = 2 then 64 * e + f.1.toNat % 64 else 2048 * e + f.1.toNat % 2048
    failEngine q e cause (reportFault { block := 8, inst := q, cls := 2, sev := 2, req := 4, mem := if cause = 2 then 7 else 5, addr := a } f.2)
  else if cause = 4 then failEngine q e 4 s
  else if cause = 6 then
    match [7, 8].find? fun k => (s.fault 8 q).forced.testBit k with
    | some k => reportFault { block := 8, inst := q, cls := k, sev := 2, req := 4, forced := true } (failEngine q e 6 (unforce 8 q k s))
    | none => s
  else s

def execEngineFailure (cluster engine cause : Nat) (s : State) : Host.Outcome State Fault Refusal :=
  keep s (engineFailure (cluster % 4) (engine % 16) cause s)

/-- Shares of any service that an engine holds. -/
def Cluster.sharesHeld (c : Cluster) (e : Nat) : Nat :=
  ((List.range 64).filter fun k => svMask (c.service (k / 4)) != 0 && k % 4 < svShares (c.service (k / 4)) && tget 0 c.shares k == e).length

/-- The engine in service in a mask that holds the fewest shares, the lowest number among equals. -/
def State.leastShares (s : State) (q mask : Nat) : Option Nat :=
  let c := s.cluster q
  (bitsOf 16 mask).foldl (fun (a : Option Nat) e =>
    if (s.eng q e).failed then a else match a with
      | none => some e
      | some b => if c.sharesHeld e < c.sharesHeld b then some e else some b) none

/-- Is a share's move due: the first symbol boundary of timeline 0 after the fault, 10 µs after it when timeline 0 is not
configured? -/
def State.moveDue (s : State) (m : ShareWait) : Bool :=
  if (s.timeline 0).configured then decide (s.boundaryAfter 0 m.tick ≤ s.tick) else decide (m.tick + 10 * usTicks ≤ s.tick)

/-- SHARE_MOVE: the first due share of the cluster moves. -/
def shareMove (q : Nat) (s : State) : State :=
  let c := s.cluster q
  match c.moves.find? fun m => s.moveDue m && (s.leastShares q (svMask (c.service m.service))).isSome with
  | none => s
  | some m => match s.leastShares q (svMask (c.service m.service)) with
    | none => s
    | some e =>
      let s := s.setCluster q { c with moves := c.moves.erase m, shares := tset 0 c.shares (4 * m.service + m.share) e }
      postHook q { w0 := evWord0 7 4 0 (m.service + 16 * m.old + 256 * m.share), hard := true } s

def execShareMove (cluster : Nat) (s : State) : Host.Outcome State Fault Refusal := keep s (shareMove (cluster % 4) s)

/-- ENGINE_SELFTEST_DONE: the end of the 4,096-clock self-test (R269). The cluster's epoch has advanced since the engine failed: what the
engine holds is stale and taken anew (R414, R415). -/
def selftestDone (q e : Nat) (pass : Bool) (s : State) : State :=
  let n := s.eng q e
  match n.selftest with
  | none => s
  | some t =>
    if s.tick < t + 2048 then s
    else
      let s := s.modEng q e fun n => { n with selftest := none, handler := none, failed := !pass && n.failed }
      let stale := reportFault { block := 8, inst := q, cls := 13, sev := 0 }
      when pass (fun s => bumpEpoch (ekCluster q) (domCluster q) (stale s)) s

def execEngineSelftestDone (cluster engine : Nat) (pass : Bool) (s : State) : Host.Outcome State Fault Refusal :=
  keep s (selftestDone (cluster % 4) (engine % 16) pass s)

end Sys2Proof.Machine
end

