-- ==== Sys2Proof/Machine/Traffic.lean ====
section
/-! DEFINITION. The egress traffic manager (chapter 8): gates, shapers, selection, pulls and discard pulls, and the
commands that configure queues, ports and shapers. -/

namespace Sys2Proof.Machine

/-! ### Configuration fields (Tables 8-2 and 8-3) -/

/-- QUANTUM, GATE_FORCE, DOZE_POLICY = DROP and the ECN fields of a queue. -/
def TmQueue.quantum (q : TmQueue) : Nat := fld q.cfg 63 48
def TmQueue.force (q : TmQueue) : Nat := fld q.cfg 47 46
def TmQueue.dozeDrop (q : TmQueue) : Bool := bitAt q.cfg 45
def TmQueue.ecnEn (q : TmQueue) : Bool := bitAt q.cfg 44
def TmQueue.ecnMin (q : TmQueue) : Nat := fld q.cfg 43 23
def TmQueue.ecnMax (q : TmQueue) : Nat := fld q.cfg 22 2

/-- DOWN_ACTION = HOLD, NUM_STRICT and LEN_ADJ of a port. -/
def TmPort.hold (p : TmPort) : Bool := bitAt p.cfg 63
def TmPort.strict (p : TmPort) : Nat := fld p.cfg 62 60
def TmPort.lenAdj (p : TmPort) : Int := sgn 8 (fld p.cfg 59 52)

/-- Is a queue's gate open (R186)? -/
def TmQueue.open (q : TmQueue) : Bool := match q.force with | 1 => true | 2 => false | _ => q.gate

/-! ### Shapers (R191, R192) -/

/-- Refresh both buckets. -/
def Shaper.refresh (h : Shaper) (now : Nat) : Shaper :=
  let dt := now - h.last
  { h with
    ctok := min (h.ctok + (dt * h.cir : Nat)) ((h.cbs * 32768 : Nat) : Int)
    etok := min (h.etok + (dt * h.eir : Nat)) ((h.ebs * 32768 : Nat) : Int)
    last := max now h.last }

/-- State of a shaper: 0 C, 1 E, 2 X. -/
def Shaper.state (h : Shaper) (now : Nat) : Nat :=
  if !h.en then 0
  else
    let r := h.refresh now
    if 0 < r.ctok then 0 else if 0 < r.etok then 1 else 2

/-- Charge n bytes to the committed bucket or to the excess bucket. -/
def Shaper.charge (h : Shaper) (now : Nat) (committed : Bool) (n : Int) : Shaper :=
  if !h.en then h
  else
    let r := h.refresh now
    if committed then { r with ctok := r.ctok - n * 32768 } else { r with etok := r.etok - n * 32768 }

/-- The shaper that SHAPER_SET leaves (R193): an immediate command applies in the next tick, a timed one in its switch
tick. -/
def shaperOf (c : Cmd) (now : Nat) : Shaper :=
  let full := c.n 6 == 0
  { en := c.n 1 == 1, cir := c.n 2, cbs := c.n 3, eir := c.n 4, ebs := c.n 5
    ctok := if full then ((c.n 3 * 32768 : Nat) : Int) else 0
    etok := if full then ((c.n 5 * 32768 : Nat) : Int) else 0
    last := if c.timed then now else now + 1 }

/-- The shaper in force: one that a SHAPER_SET set for a later tick replaces the old one in that tick (R193). -/
def shaperNow (h : Shaper) (next : Option Shaper) (now : Nat) : Shaper :=
  match next with
  | some x => if x.last ≤ now then x else h
  | none => h

/-- A shaper still to come once the one in force has been written back. -/
def shaperLeft (next : Option Shaper) (now : Nat) : Option Shaper := next.filter fun x => decide (now < x.last)

/-- The shapers in force of a queue and of a port. -/
def TmQueue.sh (q : TmQueue) (now : Nat) : Shaper := shaperNow q.shaper q.shaperNext now
def TmPort.sh (p : TmPort) (now : Nat) : Shaper := shaperNow p.shaper p.shaperNext now

/-! ### Commands -/

/-- CONFIG_APPLIED of a Tile. -/
def configApplied (t : Nat) (s : State) : State := raiseInt 14 .tmIntStatus [t] 2 s

/-- TM_QUEUE_CONFIG (R185, Table 8-2). -/
def tmQueueConfigBody : CmdBody := fun c s =>
  let w := c.p 1
  checked [(0, decide (c.n 0 < 8192)),
           (1, fld w 63 48 != 0 && fld w 47 46 != 3 && decide (fld w 43 23 ≤ 1572864) && decide (fld w 22 2 ≤ 1572864))] fun _ =>
    .done [] (configApplied (c.n 0 / 512) (s.setTmq (c.n 0) { s.tmq (c.n 0) with cfg := ins w 1 0 0 }))

/-- TM_PORT_CONFIG (R185, Table 8-3): queues that enter or leave the weighted group lose their deficit. -/
def tmPortConfigBody : CmdBody := fun c s =>
  let p := c.n 0
  let w := c.p 1
  checked [(0, decide (p < 512)), (1, decide (fld w 62 60 ≤ 4))] fun _ =>
    let old := (s.tmp p).strict
    let new := fld w 62 60
    let moved := (List.range 16).filter fun q => decide (16 - max old new ≤ q) && decide (q < 16 - min old new)
    let s := moved.foldl (fun s q => s.setTmq (16 * p + q) { s.tmq (16 * p + q) with deficit := 0 }) s
    .done [] (configApplied (tileOf p) (s.setTmp p { s.tmp p with cfg := ins w 51 0 0 }))

/-- The domain of the Tile of a port in word 0. -/
def tmPortDomain (c : Cmd) (_ : State) : Option Nat := if c.n 0 < 512 then some (domTile (tileOf (c.n 0))) else none

/-- SHAPER_SET (R193, Table 8-1): TARGET carries 1 in bit 63 for a port (R288). -/
def shaperSetBody : CmdBody := fun c s =>
  let port := bitAt (c.p 0) 63
  let i := fld (c.p 0) 62 0
  checked [(0, decide (i < if port then 512 else 8192)), (1, decide (c.n 1 < 2)), (2, decide (c.n 2 < 33554432)),
           (3, decide (c.n 3 < 16777216)), (4, decide (c.n 4 < 33554432)), (5, decide (c.n 5 < 16777216)),
           (6, decide (c.n 6 < 2))] fun _ =>
    let h := shaperOf c s.tick
    if port then
      .done [] (configApplied (tileOf i) (s.setTmp i { s.tmp i with shaper := (s.tmp i).sh s.tick, shaperNext := some h }))
    else .done [] (configApplied (i / 512) (s.setTmq i { s.tmq i with shaper := (s.tmq i).sh s.tick, shaperNext := some h }))

/-- The domain of SHAPER_SET's target. -/
def shaperDomain (c : Cmd) (_ : State) : Option Nat :=
  let i := fld (c.p 0) 62 0
  if bitAt (c.p 0) 63 then (if i < 512 then some (domTile (tileOf i)) else none)
  else if i < 8192 then some (domTile (i / 512)) else none

/-- TM_COUNTER_READ (R478). -/
def tmCounterReadBody : CmdBody := fun c s =>
  let i := fld (c.p 0) 12 0
  checked [(0, fld (c.p 0) 62 13 == 0)] fun _ =>
    let q := s.tmq i
    let res := [q.pulled, q.bytes, q.marked, q.discarded].map (BitVec.ofNat 64)
    .done res (if bitAt (c.p 0) 63 then s.setTmq i { q with pulled := 0, bytes := 0, marked := 0, discarded := 0 } else s)

/-- The domain of TM_COUNTER_READ's queue. -/
def counterDomain (c : Cmd) (_ : State) : Option Nat := some (domTile (fld (c.p 0) 12 0 / 512))

/-! ### Selection (R179 to R184) -/

/-- Speed of a port in Gb/s by its SPEED code (Table 4-6). -/
def speedGbps : Nat → Nat
  | 0 => 1 | 1 => 10 | 2 => 25 | 3 => 50 | 4 => 100 | 5 => 200 | 6 => 400 | 7 => 400 | 8 => 800 | 9 => 800 | 10 => 1600
  | 11 => 1600 | 12 => 3200 | _ => 25

/-- PORT_PULL_LIMIT: by default the cells that the port transmits in 500 ns, at least 64; else what host software has set, 4 to 8,192
(R163). The spec names no register or command that sets it (log 28). -/
def State.pullLimit (s : State) (p : Nat) : Nat :=
  let n := (s.tmp p).pullLimit
  if 4 ≤ n ∧ n ≤ 8192 then n else max 64 ((speedGbps (s.prt p).speed * 125 + 511) / 512)

/-- The slices whose part of queue q of port p holds an eligible packet. -/
def State.parts (s : State) (p q : Nat) : List Nat :=
  (List.range 16).filter fun i => !(tget [] (s.slice i).voq (16 * p + q)).isEmpty

/-- The slice of a queue's next turn and its oldest packet there (chapter 7, Pulls). -/
def State.head (s : State) (p q : Nat) : Option (Nat × Ref) :=
  match cyclic (s.tmq (16 * p + q)).rr fun i => !(tget [] (s.slice i).voq (16 * p + q)).isEmpty with
  | none => none
  | some i => match tget [] (s.slice i).voq (16 * p + q) with
    | r :: _ => some (i, r)
    | [] => none

/-- Is queue q of port p eligible, apart from the port's link and lanes (R180)? -/
def State.eligible (s : State) (p q : Nat) : Bool :=
  (s.head p q).isSome && (s.tmq (16 * p + q)).open && decide (((s.tmq (16 * p + q)).sh s.tick).state s.tick < 2)

/-- May the port send: LINK_UP and awake in transmit on every lane (R97, R180)? -/
def State.canSend (s : State) (p : Nat) : Bool := s.linkUp p && s.txAwake p && !s.epochHeld p

/-- The group queue after q (R182): the weighted group is queues 0 to 15 - NUM_STRICT. -/
def nextGroup (n q : Nat) : Nat := if q + 1 < 16 - n then q + 1 else 0

/-- Deficit round robin (R182): the queue chosen, with the deficits of the group, 24 bits each, and the turn. -/
def dwrr (n : Nat) (quantum len : Nat → Nat) (inS : Nat → Bool) : Nat → (Nat → Nat) → Nat → Bool → Option (Nat × (Nat → Nat) × Bool)
  | 0, _, _, _ => none
  | k + 1, def_, rr, onTurn =>
    if inS rr then
      let d := if onTurn then def_ rr else (def_ rr + quantum rr * 64) % 2 ^ 24
      let def' := fun q => if q = rr then d else def_ q
      if len rr ≤ d then some (rr, def', true) else dwrr n quantum len inS k def' (nextGroup n rr) false
    else dwrr n quantum len inS k def_ (nextGroup n rr) false

/-- What a selection chooses: the queue, whether the committed pass chose it, the group's deficits after the pick, whether the
group chose. -/
structure Pick where
  queue : Nat
  committed : Bool
  group : Bool
  deficits : List Nat

/-- One pass among the queues of a set: strict queues first, then the weighted group. -/
def State.pass (s : State) (p : Nat) (committed : Bool) (inS : Nat → Bool) : Option Pick :=
  let n := (s.tmp p).strict
  let stored := (List.range 16).map fun q => (s.tmq (16 * p + q)).deficit
  match ((List.range n).map fun k => 15 - k).find? inS with
  | some q => some { queue := q, committed := committed, group := false, deficits := stored }
  | none =>
    if (List.range (16 - n)).any inS then
      let len := fun q => match s.head p q with | some (_, r) => r.len | none => 0
      match dwrr n (fun q => (s.tmq (16 * p + q)).quantum) len (fun q => inS q && decide (q < 16 - n)) 4200
          (fun q => stored.getD q 0) (s.tmp p).rr (s.tmp p).onTurn with
      | some (q, d, _) => some { queue := q, committed := committed, group := true, deficits := (List.range 16).map d }
      | none => none
    else none

/-- The selection of a port: the committed pass, then the excess pass (R181), among the queues that a test admits. -/
def State.select (s : State) (p : Nat) (ok : Nat → Bool) : Option Pick :=
  let c := fun q => s.eligible p q && ok q && ((s.tmq (16 * p + q)).sh s.tick).state s.tick == 0
  let e := fun q => s.eligible p q && ok q && ((s.tmq (16 * p + q)).sh s.tick).state s.tick == 1
  if 2 ≤ ((s.tmp p).sh s.tick).state s.tick then none
  else match s.pass p true c with
    | some k => some k
    | none => s.pass p false e

/-- Does the pull credit of the Tile and of the port hold k cells (R163)? -/
def State.creditFor (s : State) (p k : Nat) : Bool :=
  let lim := s.pullLimit p
  let out := (s.tmp p).out
  decide ((s.tl (tileOf p)).credit + k ≤ 8192) && (if lim < k then out == 0 else decide (out + k ≤ lim))

/-- The queue that a drain of a port that is down serves next (R188): strict queues first, then the group's in turn. -/
def State.drainPick (s : State) (p : Nat) : Option Nat :=
  let n := (s.tmp p).strict
  match ((List.range n).map fun k => 15 - k).find? fun q => (s.head p q).isSome with
  | some q => some q
  | none =>
    let first := if (s.tmp p).rr < 16 - n then (s.tmp p).rr else 0
    ((List.range (16 - n)).map fun k => (first + k) % (16 - n)).find? fun q => (s.head p q).isSome

/-- Does the WAKE_REQ interval of R101 run on a lane of the port? -/
def State.wakeInterval (s : State) (p : Nat) : Bool := (s.lanesOf p).any fun n => (s.lane n).reqUntil.isSome

/-- What a port's traffic manager does next. -/
inductive Choice where
  | pull (k : Pick)
  | waits
  | drain (q : Nat)
  | doze (k : Pick)

/-- The choice of a port (R180, R183, R188, R190). -/
def State.choice (s : State) (p : Nat) : Option Choice :=
  if !s.linkUp p then (if (s.tmp p).hold then none else (s.drainPick p).map .drain)
  else if !s.canSend p then
    if s.wakeInterval p then (s.select p fun q => (s.tmq (16 * p + q)).dozeDrop).map .doze else none
  else match s.select p fun _ => true with
    | none => none
    | some k => match s.head p k.queue with
      | some (_, r) => if s.creditFor p r.cells then some (.pull k) else some .waits
      | none => none

/-- Would a port send something now? -/
def State.hasTurn (s : State) (p : Nat) : Bool :=
  match s.choice p with
  | none => false
  | some .waits => false
  | some _ => true

/-- Take the head reference of a queue out of its virtual output queue and send a pull or a discard pull for it. -/
def sendPull (p q : Nat) (i : Nat) (r : Ref) (discard : Bool) (s : State) : State :=
  let sl := s.slice i
  let key := 16 * p + q
  let s := s.setSlice i { sl with voq := tset [] sl.voq key ((tget [] sl.voq key).drop 1) }
  let s := s.modPk fun k => { k with pulls := k.pulls ++ [{ slice := i, ref := r, discard := discard }] }
  let s := work (domTile i) s
  s.setTmq key { s.tmq key with rr := (i + 1) % 16 }

/-- Discard the head packet of a queue (R189), counting under a code of Table 8-4; a packet with TS gets its entry. -/
def discardPull (p q : Nat) (down : Bool) (s : State) : State :=
  match s.head p q with
  | none => s
  | some (i, r) =>
    let ts := if r.mirror then none else (tget {} (s.slice i).stored r.id).pkt.ts
    let s := sendPull p q i r true s
    let k := 16 * p + q
    let s := s.setTmq k { s.tmq k with discarded := satAdd 64 (s.tmq k).discarded 1 }
    let s := if down then s.bump .tmDropCnt [tileOf p, p % 32] 63 32 else s.bump .tmDropCnt [tileOf p, p % 32] 31 0
    let s := raiseInt 14 .tmIntStatus [tileOf p] (if down then 0 else 1) s
    match ts with
    | some id => pushTxTs p id none s
    | none => s

/-- A selection of a poisoned packet becomes a discard pull, counted as BUF_ECC (R397, R478). -/
def poisonPull (p q : Nat) (s : State) : State :=
  match s.head p q with
  | none => s
  | some (i, r) =>
    let ts := if r.mirror then none else (tget {} (s.slice i).stored r.id).pkt.ts
    let s := bufDrop i 6 (sendPull p q i r true s)
    let s := s.setTmq (16 * p + q) { s.tmq (16 * p + q) with discarded := satAdd 64 (s.tmq (16 * p + q)).discarded 1 }
    match ts with
    | some id => pushTxTs p id none s
    | none => s

/-- The head packet of a queue is poisoned. -/
def State.poisoned (s : State) (p q : Nat) : Bool :=
  match s.head p q with
  | some (i, r) => (tget {} (s.slice i).stored r.id).poison
  | none => false

/-- The next value of the LFSR x^16 + x^14 + x^13 + x^11 + 1. -/
def lfsrNext (l : Nat) : Nat :=
  let b := (l ^^^ l / 4 ^^^ l / 8 ^^^ l / 32) % 2
  l / 2 + b * 32768

/-- The congestion decision at a pull (R194). -/
def ecnDecision (p q : Nat) (s : State) : Bool × State :=
  let k := s.tmq (16 * p + q)
  let occ := s.qD (16 * p + q)
  if !k.ecnEn || occ ≤ k.ecnMin then (false, s)
  else if k.ecnMax ≤ occ then (true, s)
  else
    let t := tileOf p
    let r := lfsrNext (s.tl t).lfsr
    (decide (r * (k.ecnMax - k.ecnMin) < (occ - k.ecnMin) * 65536), s.modTl t fun tl => { tl with lfsr := r })

/-- Pull the packet that a selection chose: credit, deficit, shapers, counters (R163, R182, R192, R478). -/
def pullChosen (p : Nat) (k : Pick) (s : State) : State :=
  match s.head p k.queue with
  | none => s
  | some (i, r) =>
    let key := 16 * p + k.queue
    let pst := ((s.tmp p).sh s.tick).state s.tick
    let e := ecnDecision p k.queue s
    let s := sendPull p k.queue i { r with mark := e.1 } false e.2
    let s := s.modTl (tileOf p) fun t => { t with credit := t.credit + r.cells }
    let s := when k.group (fun s => (List.range 16).foldl (fun s q =>
      let x := s.tmq (16 * p + q)
      s.setTmq (16 * p + q) { x with deficit := k.deficits.getD q 0 }) s) s
    let n := (r.len : Int) + (s.tmp p).lenAdj
    let x := s.tmq key
    let d := if (s.parts p k.queue).isEmpty then 0 else x.deficit - r.len
    let s := s.setTmq key { x with
      deficit := if k.group then d else x.deficit
      shaper := (x.sh s.tick).charge s.tick k.committed n, shaperNext := shaperLeft x.shaperNext s.tick
      pulled := satAdd 64 x.pulled 1, bytes := satAdd 64 x.bytes r.len }
    let y := s.tmp p
    let s := s.setTmp p { y with
      out := y.out + r.cells, shaper := (y.sh s.tick).charge s.tick (pst == 0) n, shaperNext := shaperLeft y.shaperNext s.tick
      rr := if k.group then k.queue else y.rr, onTurn := if k.group then true else y.onTurn }
    s.bump .tmPortCnt [tileOf p, p % 32] 63 24

/-- The turn of a port among the ports of its octal (R184): the first after the last turn that has something to send. -/
def State.turnOf (s : State) (p : Nat) : Bool :=
  let o := p / 8
  let last := (tget {} s.pk.turns o).last
  (((List.range 8).map fun k => 8 * o + (last + 1 + k) % 8).find? s.hasTurn) == some p

/-- A selection for a port (R181 to R184): two in a clock for an octal, so four in a tick. -/
def queueSelection (p : Nat) (s : State) : State :=
  let o := p / 8
  let u := tget {} s.pk.turns o
  let cnt := if u.tick = s.tick then u.count else 0
  if 512 ≤ p || !s.awake (domTile (tileOf p)) || 4 ≤ cnt then s
  else match s.choice p with
    | none => s
    | some .waits => s.bump .tmPortCnt [tileOf p, p % 32] 23 0
    | some c =>
      if !s.turnOf p then s
      else
        let s := s.modPk fun k => { k with turns := tset {} k.turns o { last := p % 8, tick := s.tick, count := cnt + 1 } }
        match c with
        | .pull k => if s.poisoned p k.queue then poisonPull p k.queue s else pullChosen p k s
        | .doze k => discardPull p k.queue false s
        | .drain q =>
          let n := (s.tmp p).strict
          let s := discardPull p q true s
          if q < 16 - n then s.setTmp p { s.tmp p with rr := nextGroup n q, onTurn := false } else s
        | .waits => s

def execQueueSelection (port : Nat) (s : State) : Host.Outcome State Fault Refusal := keep s (queueSelection port s)

end Sys2Proof.Machine
end

