-- ==== Sys2Proof/Machine/Fault.lean ====
section
/-! DEFINITION. Fault records, force bits, flip-masks and the scrubbers (chapter 17). -/

namespace Sys2Proof.Machine

/-- After a write to an INT_STATUS or FAULT_CTL register of block b that leaves its interrupt pending, a further signal (R466). -/
def resend (b : Nat) (s : State) : State := if s.blockPending b then signalBlock b s else s

/-- BLOCK and INSTANCE of a command (R408). -/
def fcBlock (c : Cmd) : Nat := fld (c.p 0) 31 24
def fcInst (c : Cmd) : Nat := fld (c.p 0) 23 16

/-- The sleeping domain of the source that FORCE_SET or FLIP_MASK_SET names. -/
def faultDomain (c : Cmd) (s : State) : Option Nat :=
  let d := srcDomain (fcBlock c) (fcInst c)
  if 1 < (s.domain d).state then some d else none

/-- The words of a record. -/
def FaultSrc.words (f : FaultSrc) : List W := [f.w0, f.w1, f.w2, f.w3]

/-- FAULT_READ (R408). -/
def faultReadBody : CmdBody := fun c s =>
  let b := fcBlock c
  let n := fcInst c
  checked [(0, srcOk b n)] fun _ =>
    let cnt := (List.range 16).map fun k => s.rg .faultCnt [b, n, k]
    let t := if bitAt (c.p 0) 63 then (List.range 16).foldl (fun s k => s.setRg .faultCnt [b, n, k] 0) s else s
    .done ((s.fault b n).words ++ cnt) t

/-- The record is acknowledged: VALID and FAULT_PENDING clear (R407). -/
def ackRecord (b n : Nat) (s : State) : State :=
  let f := s.fault b n
  s.setFault b n { f with valid := false, pending := false, w0 := ins f.w0 63 63 0 }

/-- FAULT_ACK (R407). -/
def faultAckBody : CmdBody := fun c s =>
  let b := fcBlock c
  let n := fcInst c
  let f := s.fault b n
  checked [(0, srcOk b n)] fun _ =>
    if !f.valid || fld (c.p 0) 15 0 != f.seq then .refuse .epochStale f.seq
    else .done f.words (ackRecord b n s)

/-- A write of FAULT_CTL (Table 17-7): ACK with SEQ, FORCE_DENIED, INT_EN and CAPTURE_MASK. -/
def faultCtlWrite (b n : Nat) (v : W) (s : State) : State :=
  if !srcOk b n then s
  else
    let s := intEdge b (fun s => s.setRg .faultCtl [b, n] (mk 60 60 (fld v 60 60) ||| mk 15 0 (fld v 15 0))) s
    let f := s.fault b n
    let s := s.setFault b n { f with denied := f.denied && !bitAt v 61 }
    let s := if bitAt v 63 && f.valid && fld v 47 32 == f.seq then ackRecord b n s else s
    resend b s

def execFaultCtlAck (block inst : Nat) (value : W) (s : State) : Host.Outcome State Fault Refusal :=
  keep s (faultCtlWrite block inst value s)

/-! ### Force bits (R411) -/

/-- Arm a force bit; `mem` is the memory of classes 0 to 3. -/
def armForce (b n cls mem : Nat) (s : State) : State :=
  let f := s.fault b n
  s.setFault b n { f with
    forced := f.forced ||| 2 ^ cls
    forceMem := if cls < 4 then f.forceMem - nfld f.forceMem (8 * cls + 7) (8 * cls) * 2 ^ (8 * cls) + mem % 256 * 2 ^ (8 * cls)
      else f.forceMem }

/-- What a fault of a class brings with it where no event of its own carries the consequence. -/
def forcedEffect (b n cls : Nat) (s : State) : State :=
  match cls with
  | 9 => raiseInt 13 .bufIntStatus [n] 0 s
  | 10 => raiseInt 7 .mcIntStatus [] 7 { s with mast := { s.mast with refoscOk := false } }
  | 13 => if b = 10 then raiseInt 10 .portIntStatus [8 * n] 4 s else s
  | _ => s

/-- The next clock after arming: a fault of a class that no row of its own raises is raised now (R411). Plane faults, engine failures,
read-backs and the checks of the time replicas take their force bit when they run. -/
def raiseForced (b n cls : Nat) (s : State) : State :=
  if cls < 4 ∨ cls = 12 ∨ (b = 7 ∧ n ≠ 0) ∨ (b = 8 ∧ cls ≠ 13) ∨ (b = 13 ∧ 16 ≤ n ∧ cls ≠ 13) then s
  else
    let s := forcedEffect b n cls (unforce b n cls s)
    reportFault { block := b, inst := n, cls := cls, sev := if cls = 4 ∨ cls = 10 then 2 else 1, forced := true } s

/-- FORCE_SET (R411, R412). -/
def forceSetBody : CmdBody := fun c s =>
  let b := fcBlock c
  let n := fcInst c
  let cls := fld (c.p 0) 3 0
  let mem := fld (c.p 0) 15 8
  let memOk := decide (4 ≤ cls) || (memsOf b n).any fun m => m.1 == mem && (m.2.2 || cls % 2 == 0)
  if !s.forceAllowed false then .refuse .notPermitted 0
  else checked [(0, srcOk b n && (detects b n).testBit cls && memOk)] fun _ =>
    .done [] (raiseForced b n cls (armForce b n cls mem s))

/-- A register write that R412 refuses is ignored and sets FORCE_DENIED. -/
def ifForce (path : Path) (b n : Nat) (f : State → State) (s : State) : State :=
  if path = .poisoned then pcieError 5 s
  else if !srcOk b n then s
  else if s.forceAllowed (path == .tap) then f s
  else s.setFault b n { s.fault b n with denied := true }

/-- A write of FAULT_FORCE: bits that rise arm their class with MEMORY, bits that fall disarm. -/
def faultForceWrite (path : Path) (b n : Nat) (v : W) : State → State :=
  ifForce path b n fun s =>
    let want := fld v 15 0
    let had := (s.fault b n).forced
    let can := detects b n
    let s := (List.range 16).foldl (fun s k => if had.testBit k && !want.testBit k then unforce b n k s else s) s
    (List.range 16).foldl (fun s k =>
      if want.testBit k && !had.testBit k && can.testBit k then raiseForced b n k (armForce b n k (fld v 23 16) s) else s) s

def execFaultForceWrite (path : Path) (block inst : Nat) (value : W) (s : State) : Host.Outcome State Fault Refusal :=
  keep s (faultForceWrite path block inst value s)

/-! ### Flip-masks (R409) -/

/-- Arm a flip-mask; 0 disarms. -/
def armFlip (b n mem m : Nat) (s : State) : State :=
  let f := s.fault b n
  s.setFault b n { f with flips := tset 0 f.flips mem m }

/-- FLIP_MASK_SET (R409, R412). -/
def flipMaskSetBody : CmdBody := fun c s =>
  let b := fcBlock c
  let n := fcInst c
  let mem := fld (c.p 0) 15 8
  if !s.forceAllowed false then .refuse .notPermitted 0
  else checked [(0, srcOk b n && (memsOf b n).any fun m => m.1 == mem), (2, c.n 2 < 65536)] fun _ =>
    .done [] (armFlip b n mem (c.n 1 + c.n 2 * 2 ^ 64) s)

/-- A write of FLIP_MASK_LO or FLIP_MASK_HI arms the mask of the memory that FLIP_SEL names. -/
def flipMaskWrite (path : Path) (b n : Nat) (high : Bool) (v : W) : State → State :=
  ifForce path b n fun s =>
    let mem := s.rgf .flipSel [b, n] 7 0
    let m := tget 0 (s.fault b n).flips mem
    if (memsOf b n).any (fun x => x.1 == mem) then
      armFlip b n mem (if high then m % 2 ^ 64 + fld v 15 0 * 2 ^ 64 else m / 2 ^ 64 * 2 ^ 64 + v.toNat) s
    else s

def execFlipMaskWrite (path : Path) (block inst : Nat) (high : Bool) (value : W) (s : State) : Host.Outcome State Fault Refusal :=
  keep s (flipMaskWrite path block inst high value s)

/-! ### The scrubbers (R397 to R399) -/

/-- The packet of a slice that holds a word of a memory is marked poisoned (R397). -/
def poisonPacket (i mem a : Nat) (s : State) : State :=
  let sl := s.slice i
  let mine := fun (x : Nat × Stored) =>
    if mem = 0 then x.2.cells.any fun c => c.1 == a / 32 else mem == 1 && x.1 == a
  match sl.stored.find? mine with
  | some x => s.setSlice i { sl with stored := tset {} sl.stored x.1 { x.2 with poison := true } }
  | none => s

/-- The scrubber's next read of a memory. -/
def scrubRead (b n mem : Nat) (s : State) : State :=
  match (memsOf b n).find? fun m => m.1 == mem && m.2.2 with
  | none => s
  | some m =>
    if !srcOk b n || 1 < (s.domain (srcDomain b n)).state then s
    else
      let a := tget 0 (s.fault b n).scrubPos mem
      let r := eccReadAs 1 3 b n mem a 0 s
      let s := if r.ok then setPattern (eccKey b n mem a) r.diff r.st
        else if b = 13 ∧ n < 16 then poisonPacket n mem a r.st else r.st
      let f := s.fault b n
      let start := if a = 0 then s.tick else tget 0 f.scrubStart mem
      let wrap := m.2.1 ≤ a + 1
      s.setFault b n { f with
        scrubPos := tset 0 f.scrubPos mem (if wrap then 0 else a + 1)
        scrubStart := tset 0 f.scrubStart mem start
        scrubPasses := if wrap then (f.scrubPasses + 1) % 65536 else f.scrubPasses
        scrubLate := f.scrubLate || decide (start + secTicks < s.tick) }

def execScrubRead (block inst memory : Nat) (s : State) : Host.Outcome State Fault Refusal := keep s (scrubRead block inst memory s)

/-- Fololmane rewrites an uncorrectable control-store word from the active image (R401). -/
def controlStoreRewrite (q bank a : Nat) (s : State) : State :=
  if a < 16384 ∧ tget 0 s.flt.ecc (eccKey 8 q bank a) ≠ 0 then memWrite 8 q bank a s else s

def execControlStoreRewrite (cluster bank addr : Nat) (s : State) : Host.Outcome State Fault Refusal :=
  keep s (controlStoreRewrite (cluster % 4) (bank % 2) addr s)

/-! ### Views -/

/-- FAULT_CTL, FAULT_FORCE, FLIP_MASK_LO and _HI, FLIP_LAST, SCRUB_STATUS (Tables 17-6 and 17-7). -/
def State.faultCtlView (s : State) (b n : Nat) : W :=
  let f := s.fault b n
  Machine.mk 62 62 (b2n f.pending) ||| Machine.mk 61 61 (b2n f.denied) ||| (s.rg .faultCtl [b, n] &&& 0x100000000000FFFF)
def State.faultForceView (s : State) (b n : Nat) : W :=
  let f := s.fault b n
  Machine.mk 15 0 f.forced ||| Machine.mk 23 16 (match (List.range 4).find? fun k => f.forced.testBit k with
    | some k => nfld f.forceMem (8 * k + 7) (8 * k)
    | none => 0)
def State.flipMaskView (s : State) (b n : Nat) (high : Bool) : W :=
  let m := tget 0 (s.fault b n).flips (s.rgf .flipSel [b, n] 7 0)
  BitVec.ofNat 64 (if high then m / 2 ^ 64 % 65536 else m % 2 ^ 64)
def State.flipLastView (s : State) (b n : Nat) : W :=
  let f := s.fault b n
  Machine.mk 63 63 (b2n f.flipDone) ||| Machine.mk 55 48 f.flipMem ||| Machine.mk 39 0 f.flipAddr
def State.scrubView (s : State) (b n : Nat) : W :=
  let f := s.fault b n
  Machine.mk 63 63 (b2n f.scrubLate) ||| Machine.mk 47 32 f.scrubPasses
    ||| Machine.mk 31 0 (tget 0 f.scrubPos (s.rgf .flipSel [b, n] 7 0))

end Sys2Proof.Machine
end

