-- ==== Sys2Proof/Machine/Hook.lean ====
section
/-! DEFINITION. Control-store images, bank switches and the commands of the Hook engines (chapter 11, R261 to R269, R305, R480). -/

namespace Sys2Proof.Machine

/-! ### Images (Table 11-12, R261) -/

/-- Fields of an image header. -/
def imWords (b : List Byte) : Nat := bytesNat b 16 2
def imServices (b : List Byte) : Nat := bytesNat b 18 2
def imEpoch (b : List Byte) : Nat := bytesNat b 12 2
def imVersion (b : List Byte) : Nat := bytesNat b 6 2

/-- Bytes of an image before its signature block. -/
def imLen (b : List Byte) : Nat := 32 + 9 * imWords b + 2048 + 8 * imServices b

/-- The service entries of an image. -/
def imServiceList (b : List Byte) : List W :=
  (List.range (imServices b)).map fun i => BitVec.ofNat 64 (bytesNat b (32 + 9 * imWords b + 2048 + 8 * i) 8)

/-- What R261 finds wrong with an image, as the DETAIL of IMAGE_INVALID; none when it may be loaded. -/
def State.imageFault (s : State) (b : List Byte) (ok : Bool) : Option Nat :=
  if bytesNat b 0 4 ≠ 0x484F4F4B ∨ bytesNat b 4 2 ≠ 1 ∨ imWords b = 0 ∨ 16384 < imWords b ∨ 16 < imServices b then some 2
  else
    let sig := s.sigCheck 2 b (imLen b) (some (imVersion b)) ok
    if sig = some 1 ∨ sig = some 2 then sig
    else if imEpoch b = 0 ∨ byteAt b 15 ≠ 0 ∨ bytesNat b 24 8 ≠ 0 ∨ (imServiceList b).any (fun w => !svOk w) then some 2
    else if !(byteAt b 14 ≤ Config.revision.toNat) then some 3
    else if bytesNat b 20 4 ≠ crc32c ((b.take (imLen b)).drop 32) then some 4
    else sig

/-- The moves of the shares among `ks` that a map gives to failed engines (R268): one that waits already keeps the tick of its fault. -/
def State.movesOf (s : State) (q : Nat) (m : Tbl Nat) (ks : List Nat) : List ShareWait :=
  let c := s.cluster q
  (ks.filter fun k => svMask (c.service (k / 4)) != 0 && k % 4 < svShares (c.service (k / 4)) && (s.eng q (tget 0 m k)).failed).map fun k =>
    (c.moves.find? fun w => w.service == k / 4 && w.share == k % 4 && w.old == tget 0 m k).getD
      { service := k / 4, share := k % 4, old := tget 0 m k, tick := s.tick }

/-- The share map of a cluster follows its active bank's service entries; a share that falls to a failed engine moves (R268). -/
def remapShares (q : Nat) (s : State) : State :=
  let c := s.cluster q
  let m := c.mapShares
  bcUpdate (s.setCluster q { c with shares := m, moves := s.movesOf q m (List.range 64) })

/-- The shares of one service follow its entry; those of the others stay where they are (R268, R269). -/
def remapService (q v : Nat) (s : State) : State :=
  let c := s.cluster q
  let m := (List.range 4).foldl (fun m k =>
    tset 0 m (4 * v + k) (if k < svShares (c.service v) then svHolder (c.service v) k else 0)) c.shares
  bcUpdate (s.setCluster q { c with
    shares := m, moves := (c.moves.filter fun w => w.service != v) ++ s.movesOf q m ((List.range 4).map fun k => 4 * v + k) })

/-- Write an image into a bank of a cluster. -/
def writeImage (q bank : Nat) (b : List Byte) (s : State) : State :=
  let c := s.cluster q
  let n := imWords b
  let word := fun (i : Nat) => BitVec.ofNat 72 (bytesNat b (32 + 9 * i) 9)
  let ent := fun (i : Nat) => (BitVec.ofNat 64 (bytesNat b (32 + 9 * n + 8 * i) 8) : W)
  let s := s.setCluster q { c with
    store := (List.range n).foldl (fun t i => tset 0 t (16384 * bank + i) (word i)) c.store
    disp := (List.range 256).foldl (fun t i => tset 0 t (256 * bank + i) (ent i)) c.disp
    services := ((imServiceList b).zipIdx).foldl (fun t x => tset 0 t (16 * bank + x.2) x.1) c.services
    epochs := tset 0 c.epochs bank (imEpoch b), versions := tset 0 c.versions bank (imVersion b), words := tset 0 c.words bank n }
  let s := memWriteN 8 q bank 0 n s
  let s := (List.range 256).foldl (fun s i => memWrite 8 q 2 (2 * i + bank) s) s
  let s := s.setEpoch (ekHook q bank) (imEpoch b)
  if bank = c.active then remapShares q s else s

/-- Clusters of a mask in bits [3:0] of word 0. -/
def hookMask (c : Cmd) : List Nat := bitsOf 4 (fld (c.p 0) 3 0)

/-- The sleeping cluster that a command of a mask waits for. -/
def hookDomain (c : Cmd) (s : State) : Option Nat :=
  ((hookMask c).find? fun q => !s.awake (domCluster q)).map domCluster

/-- Is a bank switch of a cluster pending? -/
def State.switchPending (s : State) (q : Nat) : Bool := s.cmd.timed.any fun t => t.opcode == 0x801 && (hookMask t.cmd).contains q

/-- A bank that is active, pending or draining. -/
def State.bankBusy (s : State) (q bank : Nat) : Bool :=
  let c := s.cluster q
  bank == c.active || s.switchPending q || c.draining == some bank

/-- HOOK_LOAD (R261). -/
def hookLoadBody : CmdBody := fun c s =>
  let bank := fld (c.p 0) 4 4
  let busy := (hookMask c).any fun q => s.bankBusy q bank
  let hdr := c.hostBytes (c.n 1) 4
  let b := c.hostBytes (c.n 1) ((imLen hdr + sigBytes + 7) / 8)
  if (hookMask c).isEmpty || fld (c.p 0) 62 5 != 0 then bad 0
  else if busy then .refuse .busyActiveBank bank
  else match s.imageFault b c.verified with
    | some d => .failed .imageInvalid d (imageReject s)
    | none => .done [] (imageLoaded 2 b (imLen b) ((hookMask c).foldl (fun s q => writeImage q bank b s) s))

/-! ### Bank switches (R262 to R264) -/

/-- A cluster switches banks: the old one drains while a routine runs in it. -/
def switchBank (q : Nat) (s : State) : State :=
  let c := s.cluster q
  let s := s.setCluster q { c with
    active := 1 - c.active, draining := if c.runsIn c.active then some c.active else none, drainTick := s.tick }
  raiseInt 8 .hkIntStatus [q] 1 (remapShares q s)

/-- HOOK_BANK_SWITCH (R262): the epoch names the loaded bank of every cluster. -/
def hookBankSwitchBody : CmdBody := fun c s =>
  let ep := fld (c.p 0) 31 16
  let other := fun (q : Nat) => tget 0 (s.cluster q).epochs (1 - (s.cluster q).active)
  if (hookMask c).isEmpty || fld (c.p 0) 63 32 != 0 || fld (c.p 0) 15 4 != 0 then bad 0
  else match (hookMask c).find? fun q => other q != ep || ep == 0 with
    | some q => .refuse .epochStale (other q)
    | none =>
      if (hookMask c).any fun q => s.switchPending q || (s.cluster q).draining.isSome then .refuse .busyPending 0
      else .done [] (postEvent 10 [mk 63 48 8 ||| mk 15 0 ep] ((hookMask c).foldl (fun s q => switchBank q s) s))

/-- HOOK_DRAIN_END: no engine runs in the old bank any more. -/
def hookDrainEnd (q : Nat) (s : State) : State :=
  let c := s.cluster q
  match c.draining with
  | some b => if c.runsIn b then s else s.setCluster q { c with draining := none }
  | none => s

def execHookDrainEnd (cluster : Nat) (s : State) : Host.Outcome State Fault Refusal := keep s (hookDrainEnd (cluster % 4) s)

/-- Force-swap every engine of a cluster that still runs in the draining bank. -/
def swapAll (q : Nat) (s : State) : State :=
  if (s.cluster q).draining.isSome then (List.range 16).foldl (fun s e => swapEngine q e s) s else s

/-- DRAIN_TIMEOUT: DRAIN_LIMIT after the switch tick (R264). -/
def drainTimeout (q : Nat) (s : State) : State :=
  let c := s.cluster q
  if c.draining.isSome && c.draining.any (fun b => c.runsIn b) && decide (c.drainTick + s.rgf .hkDrainLimit [q] 23 0 * usTicks ≤ s.tick)
  then swapAll q (raiseInt 8 .hkIntStatus [q] 2 s) else s

def execDrainTimeout (cluster : Nat) (s : State) : Host.Outcome State Fault Refusal := keep s (drainTimeout (cluster % 4) s)

/-- HOOK_FORCE_SWAP (R264). -/
def hookForceSwapBody : CmdBody := fun c s =>
  if (hookMask c).isEmpty || fld (c.p 0) 63 4 != 0 then bad 0 else .done [] ((hookMask c).foldl (fun s q => swapAll q s) s)

/-! ### Dispatch entries, engines, services, calls -/

/-- HOOK_DISPATCH_WRITE (R266): VALID of entry 0xFF must be 0. -/
def hookDispatchWriteBody : CmdBody := fun c s =>
  let q := fld (c.p 0) 9 8
  let bank := fld (c.p 0) 10 10
  let e := fld (c.p 0) 7 0
  checked [(0, fld (c.p 0) 63 11 == 0), (1, e != 0xFF || !bitAt (c.p 1) 63)] fun _ =>
    if s.bankBusy q bank then .refuse .busyActiveBank bank
    else
      let k := s.cluster q
      .done [] (memWrite 8 q 2 (2 * e + bank) (s.setCluster q { k with disp := tset 0 k.disp (256 * bank + e) (c.p 1) }))

/-- The cluster in bits [9:8] of word 0. -/
def dispatchDomain (c : Cmd) (_ : State) : Option Nat := some (domCluster (fld (c.p 0) 9 8))

/-- HOOK_ENGINE_ENABLE (R269): a failed engine begins its self-test. -/
def hookEngineEnableBody : CmdBody := fun c s =>
  let q := fld (c.p 0) 5 4
  let e := fld (c.p 0) 3 0
  checked [(0, fld (c.p 0) 63 32 == 0 && fld (c.p 0) 15 6 == 0)] fun _ =>
    if fld (c.p 0) 31 16 ≠ s.epoch (ekCluster q) then .refuse .epochStale (s.epoch (ekCluster q))
    else .done [] (if (s.eng q e).failed then s.modEng q e fun n => { n with selftest := some s.tick } else s)

def enableDomain (c : Cmd) (_ : State) : Option Nat := some (domCluster (fld (c.p 0) 5 4))

/-- HOOK_SERVICE_CONFIG (R480, R244): the entry of a service in the active bank. -/
def hookServiceConfigBody : CmdBody := fun c s =>
  let q := fld (c.p 0) 17 16
  let v := fld (c.p 0) 3 0
  checked [(0, fld (c.p 0) 63 18 == 0 && fld (c.p 0) 15 4 == 0), (1, svOk (c.p 1))] fun _ =>
    let k := s.cluster q
    .done [] (remapService q v (s.setCluster q { k with services := tset 0 k.services (16 * k.active + v) (c.p 1) }))

def serviceDomain (c : Cmd) (_ : State) : Option Nat := some (domCluster (fld (c.p 0) 17 16))

/-- HOOK_CALL (R305): one event of SOURCE COMMAND in each named cluster. -/
def hookCallBody : CmdBody := fun c s =>
  let qs := bitsOf 4 (fld (c.p 0) 47 44)
  let op := fld (c.p 0) 7 0
  checked [(0, decide (0x10 ≤ op) && decide (op ≤ 0xF7))] fun _ =>
    match qs.find? fun q => !s.awake (domCluster q) with
    | some q => .refuse .targetAsleep (domCluster q)
    | none =>
      let full := maskOf 4 fun q => qs.contains q && deValid ((s.cluster q).entry (s.cluster q).active op) && s.queueFull q
      let invalid := maskOf 4 fun q => qs.contains q && !deValid ((s.cluster q).entry (s.cluster q).active op)
      let t := qs.foldl (fun s q => postHook q { w0 := evWord0 op 5 0 (fld (c.p 0) 39 8) } s) s
      if full = 0 ∧ invalid = 0 then .done [] t else .doneWith .dispatchRefused (invalid + 16 * full) t

end Sys2Proof.Machine
end

