-- ==== Sys2Proof/Machine/Management.lean ====
section
/-! DEFINITION. The commands of group 0x00 (chapter 13): versions, cancellation, event routes, relays; and the I3C bus reset. -/

namespace Sys2Proof.Machine

/-- NOP (R287). -/
def nopBody : CmdBody := fun _ s => .done [] s

/-- The highest version set in both bitmaps (R298). -/
def commonVersion (m : Nat) : Option Nat := [3, 2, 1].find? fun v => m.testBit v

/-- NEGOTIATE_VERSION (R298). -/
def negotiateBody : CmdBody := fun c s =>
  if s.outstanding c.src ≠ 0 then .refuse .busyPending 0
  else match commonVersion (fld (c.p 0) 3 0) with
    | none => .refuse .badVersion (s.cmdVersion c.src)
    | some v => .done [mk 7 0 v ||| mk 15 8 0x0E] (s.setVersion c.src v)

/-- The version of the active Hook image: of cluster 0. -/
def State.hookVersion (s : State) : Nat := let c := s.cluster 0; tget 0 c.versions c.active

/-- DEVICE_INFO. -/
def deviceInfoBody : CmdBody := fun _ s =>
  .done [mk 63 48 0x9512 ||| mk 47 40 Config.revision.toNat ||| mk 39 32 0x0E ||| mk 11 0 s.deviceId,
         mk 63 48 s.boot.imgBoot ||| mk 47 32 s.boot.imgFol ||| mk 31 16 s.hookVersion] s

/-- CMD_CANCEL (R296): word 0 holds the TAG of a pending timed command of the source. -/
def cmdCancelBody : CmdBody := fun c s =>
  let tag := fld (c.p 0) 15 0
  match s.cmd.timed.find? fun t => t.cmd.src == c.src && t.cmd.tag == tag && !t.own with
  | some t =>
    if s.switchTick t - s.tick < 64 then .refuse .tooLate 0
    else .done [] (endTimed .cancelled 0 (fun u => u.order == t.order) s)
  | none => if s.cmd.timed.any fun t => t.cmd.tag == tag && !t.own then .refuse .notPermitted 0 else bad 0

/-- EVENT_SUBSCRIBE and its withdrawal (R303). -/
def eventSubscribeBody : CmdBody := fun c s =>
  let off := bitAt (c.p 0) 63
  let ks := bitsOf 32 (fld (c.p 0) 31 0)
  let route := ks.foldl (fun r k =>
    if off then (if s.routeOf k = some c.src then tset (some .pf0) r k none else r) else tset (some .pf0) r k (some c.src)) s.cmd.route
  let s : State := { s with cmd := { s.cmd with route := route } }
  .done [] (s.setSub c.src { s.sub c.src with mac := c.ret.smac })

/-! ### Relays (R304) -/

/-- The relay that MGMT_RELAY opens: TIMEOUT in ms, 0 for 10 ms. -/
def relayOf (c : Cmd) (s : State) : Relay :=
  let ms := fld (c.p 0) 31 16
  { id := s.cmd.nextRelay, cmd := c, inner := c.p 1, port := fld (c.p 0) 8 0
    dueTick := s.tick + (if ms = 0 then 10 else ms) * msTicks, timed := bitAt (c.p 1) 45, answered := false }

/-- MGMT_RELAY. -/
def mgmtRelayBody : CmdBody := fun c s =>
  let p := fld (c.p 0) 8 0
  let ms := fld (c.p 0) 31 16
  let inner := c.p 1
  checked [(0, s.linkUp p && (s.prt p).ver != 0 && decide (ms ≤ 1000)), (1, fld inner 63 48 != 5)] fun _ =>
    let s : State := { s with cmd := { s.cmd with relays := s.cmd.relays ++ [relayOf c s], nextRelay := s.cmd.nextRelay + 1 } }
    .later (mgmtFrameOut 0x30 p dravuaMac (c.params.drop 1) s)

/-- Drop a relay. -/
def dropRelay (id : Nat) (s : State) : State := { s with cmd := { s.cmd with relays := s.cmd.relays.filter fun r => r.id != id } }

/-- The remote reply of a relay: its result; the interim reply of a timed inner command leaves the relay open. -/
def relayAnswer (id : Nat) (w0 w1 : W) (result : List W) (s : State) : State :=
  match s.cmd.relays.find? fun r => r.id == id with
  | none => s
  | some r =>
    let final := bitAt w0 45 || !r.timed
    let s := if final then dropRelay id s else
      { s with cmd := { s.cmd with relays := s.cmd.relays.map fun x => if x.id = id then { x with answered := true } else x } }
    sendReply r.cmd final .ok 0 ([w0, w1] ++ result) s

def execRelayReply (relay : Nat) (w0 w1 : W) (result : List W) (s : State) : Host.Outcome State Fault Refusal :=
  keep s (relayAnswer relay w0 w1 result s)

/-- A frame of type 0x31 on a port answers the oldest relay of the port whose inner command has its opcode and TAG. -/
def relayFrame (port o : Nat) (b : List Byte) (s : State) : State :=
  let w := fun (k : Nat) => (BitVec.ofNat 64 (bytesNat b (o + 8 + 8 * k) 8) : W)
  match s.cmd.relays.find? fun r => r.port == port && fld r.inner 63 48 == fld (w 0) 63 48 && fld r.inner 31 16 == fld (w 0) 31 16 with
  | some r => relayAnswer r.id (w 0) (w 1) ((List.range (min 1024 (fld (w 0) 15 0 / 8))).map fun k => w (k + 2)) s
  | none => s

/-- RELAY_TIMEOUT. -/
def relayTimeout (id : Nat) (s : State) : State :=
  match s.cmd.relays.find? fun r => r.id == id && !r.answered && decide (r.dueTick ≤ s.tick) with
  | some r => sendReply r.cmd true .relayTimeout 0 [] (dropRelay id s)
  | none => s

def execRelayTimeout (relay : Nat) (s : State) : Host.Outcome State Fault Refusal := keep s (relayTimeout relay s)

/-- An I3C bus reset (R297). -/
def execI3cBusReset (s : State) : Host.Outcome State Fault Refusal := keep s (s.setVersion .sideband 1)

end Sys2Proof.Machine
end

