-- ==== Sys2Proof/Machine/Host.lean ====
section
/-! DEFINITION. The host side (chapter 14): doorbells and rings, queue pairs, sending and receiving packets, DMA channels, buffer
pools, function resets. -/

namespace Sys2Proof.Machine

/-! ### Objects -/

/-- Queue pair q, channel c, pool p. -/
def State.qp (s : State) (q : Nat) : QPair := tget {} s.host.qps q
def State.setQp (s : State) (q : Nat) (v : QPair) : State := { s with host := { s.host with qps := tset {} s.host.qps q v } }
def State.chan (s : State) (c : Nat) : Chan := tget {} s.host.chans c
def State.setChan (s : State) (c : Nat) (v : Chan) : State := { s with host := { s.host with chans := tset {} s.host.chans c v } }
def State.pool (s : State) (p : Nat) : Pool := tget {} s.host.pools p
def State.setPool (s : State) (p : Nat) (v : Pool) : State := { s with host := { s.host with pools := tset {} s.host.pools p v } }

/-- BASE and COUNT of FN_QP_RANGE. -/
def State.qpBase (s : State) (f : Nat) : Nat := s.rgf .fnQpRange [f] 27 16
def State.qpCount (s : State) (f : Nat) : Nat := s.rgf .fnQpRange [f] 12 0

/-- The function in whose range a queue pair lies. -/
def State.qpFn (s : State) (q : Nat) : Option Nat := (List.range 64).find? fun f => s.qpBase f ≤ q && q < s.qpBase f + s.qpCount f

/-- Fields of CHAN_OWNER and POOL_OWNER (Table 14-13): for a cluster's channel FUNCTION is its host function. -/
def State.chanFn (s : State) (c : Nat) : Nat := s.rgf .chanOwner [c] 5 0
def State.chanCluster (s : State) (c : Nat) : Option Nat :=
  if bitAt (s.rg .chanOwner [c]) 63 then some (s.rgf .chanOwner [c] 9 8) else none
def State.devAccess (s : State) (c : Nat) : Bool := bitAt (s.rg .chanOwner [c]) 16
def State.poolFn (s : State) (p : Nat) : Nat := s.rgf .poolOwner [p] 5 0

/-- An interrupt of the host block. -/
def hqInt (bit : Nat) (s : State) : State := raiseInt 4 .hqIntStatus [] bit s

/-- The endpoint works only while its domain is in PS0 or PS1 and PERST_N is high. -/
def State.pcieUp (s : State) : Bool := s.awake domPcie && s.power.perstN

/-! ### Doorbells (R311, R312, R325) -/

/-- Count in FN_CNT: stale [63:48], invalid [47:32], missed ownership [31:16], not the owner [15:0]. -/
def countStale (f : Nat) (s : State) : State := s.bump .fnCnt [f] 63 48
def countInvalid (f : Nat) (s : State) : State := raiseFn f 0 (s.bump .fnCnt [f] 47 32)

/-- A doorbell of a host-filled ring with the epoch of its object: the ring afterwards, or none when it is invalid. -/
def HRing.bell (r : HRing) (v : W) : Option HRing :=
  let i := fld v 15 0
  if i = r.d then some { r with miss := none }
  else if (i + 65536 - r.h) % 65536 ≤ 2 ^ r.log then some { r with d := i, miss := none } else none

/-- A completion doorbell: the ring afterwards, or none when it is invalid. -/
def CRing.bell (c : CRing) (v : W) : Option CRing :=
  let i := fld v 15 0
  let held := (c.tail + 65536 - c.head) % 65536
  if (i + 65536 - c.head) % 65536 ≤ held then
    let left := (c.tail + 65536 - i) % 65536
    some { c with head := i, unsig := c.unsig.drop (c.unsig.length - left), armed := c.armed || bitAt v 16 }
  else none

/-- Entries that a fetch returns are taken in order while owned: PHASE (bit `pb` of the first word) is the lap XOR 1. -/
def HRing.owned (r : HRing) (pb : Nat) (e : List W) : Bool := fld (e.getD 0 0) pb pb == 1 - lapOf r.log r.h

/-- May entries of a ring be fetched now? -/
def HRing.fetches (r : HRing) : Bool := r.h != r.d && r.miss.isNone

/-- The most entries that one read of a ring returns. -/
def HRing.span (r : HRing) (most : Nat) : Nat := min (min most ((r.d + 65536 - r.h) % 65536)) (2 ^ r.log - r.h % 2 ^ r.log)

/-! ### Completion queues (R325) -/

/-- Where a completion queue lies: its function and vector. -/
def State.cqOf (s : State) : CqRef → CRing
  | .qp q => (s.qp q).cq
  | .chan c => (s.chan c).cq

def State.setCq (s : State) (r : CqRef) (v : CRing) : State :=
  match r with
  | .qp q => s.setQp q { s.qp q with cq := v }
  | .chan c => s.setChan c { s.chan c with cq := v }

def State.cqFn (s : State) : CqRef → Nat
  | .qp q => (s.qpFn q).getD 0
  | .chan c => s.chanFn c

/-- A word of a cluster's shared memory in its 64-bit data view, by byte offset. -/
def clusterWord (q a : Nat) (s : State) : W := BitVec.ofNat 64 (tget 0 (s.cluster q).mem (a / 8 % 65536)).toNat

/-- Write a word of a cluster's shared memory through the 64-bit data view: bits [71:64] become 0 (R396). -/
def putClusterWord (q a : Nat) (v : W) (s : State) : State :=
  let c := s.cluster q
  memWrite 8 q 3 (a / 8 % 65536) (s.setCluster q { c with mem := tset 0 c.mem (a / 8 % 65536) (BitVec.ofNat 72 v.toNat) })

/-- Write words at an address of a completion queue: host memory, or the shared memory of a cluster that owns the channel. -/
def cqStore (r : CqRef) (a : Nat) (e : List W) (s : State) : State :=
  match r with
  | .qp _ => hostWrite (s.cqFn r) a (e.flatMap wordBytes) false s
  | .chan c => match s.chanCluster c with
    | some q => (e.zipIdx).foldl (fun s x => putClusterWord q (a + 8 * x.2) x.1 s) s
    | none => hostWrite (s.cqFn r) a (e.flatMap wordBytes) false s

/-- Raise the vector of an armed CQ when entries enough are unsignalled. -/
def cqSignal (r : CqRef) (least : Nat) (s : State) : State :=
  let c := s.cqOf r
  if c.armed && !c.unsig.isEmpty && decide (least ≤ c.unsig.length) then
    fnSignal (s.cqFn r) c.vector (s.setCq r { c with armed := false, unsig := [] })
  else s

/-- Write what waits for a CQ while slots are free. -/
def pumpCq (r : CqRef) : Nat → State → State
  | 0, s => s
  | n + 1, s =>
    let c := s.cqOf r
    match c.waiting with
    | [] => s
    | e :: rest =>
      if c.full then s
      else
        let s := cqStore r (c.base + 32 * (c.tail % 2 ^ c.log)) (c.stamp e) s
        let s := s.setCq r { c with
          tail := (c.tail + 1) % 65536, waiting := rest, unsig := c.unsig ++ [s.tick] }
        pumpCq r n (cqSignal r c.count s)

/-- Give a CQ an entry. -/
def cqEntry (r : CqRef) (e : List W) (s : State) : State :=
  let c := s.cqOf r
  pumpCq r (c.waiting.length + 1) (s.setCq r { c with waiting := c.waiting ++ [e] })

/-- A completion doorbell of a CQ: entries that waited for space are written; with ARM = 1 unsignalled entries signal at once. -/
def cqBell (r : CqRef) (f ek : Nat) (live : Bool) (v : W) (s : State) : State :=
  if !live || fld v 63 48 != s.epoch ek then countStale f s
  else match (s.cqOf r).bell v with
    | none => countInvalid f s
    | some c =>
      let s := s.setCq r c
      let s := when (bitAt v 16) (cqSignal r 1) s
      pumpCq r c.waiting.length s

/-- COAL_TIME has passed since the first unsignalled entry. -/
def coalTimeout (r : CqRef) (s : State) : State :=
  let c := s.cqOf r
  match c.unsig with
  | first :: _ => if c.time != 0 && decide (first + c.time * usTicks ≤ s.tick) then cqSignal r 1 s else s
  | [] => s

def execCqCoalTimeout (cq : CqRef) (s : State) : Host.Outcome State Fault Refusal := keep s (coalTimeout cq s)

/-! ### Buffers and the share table (R332, R333) -/

/-- Requester number of LAST_OWNER: a queue pair, or 4,096 + channel. -/
def shareOwner : CqRef → Nat
  | .qp q => q
  | .chan c => 4096 + c

/-- Is A a buffer address of a pool? -/
def Pool.holds (p : Pool) (a : Nat) : Bool :=
  p.base ≤ a && a < p.base + p.count * 2 ^ p.size && (a - p.base) % 2 ^ p.size == 0

/-- The pool of a function to which a returned address belongs. -/
def State.poolFor (s : State) (f a : Nat) : Option Nat :=
  (List.range 8).find? fun p => s.poolFn p == f && (s.pool p).enabled && (s.pool p).holds a

/-- A refused pointer. -/
def badPtr (f : Nat) (s : State) : State := raiseFn f 2 s

/-- Return an accepted buffer: into the cache, or as a BUF_RETURN entry to the requester's CQ. -/
def giveBack (r : CqRef) (p a : Nat) (s : State) : State :=
  let k := s.pool p
  if k.cache.length < 128 then s.setPool p { k with cache := k.cache ++ [a] }
  else cqEntry r [mk 62 61 3 ||| mk 58 56 p, BitVec.ofNat 64 a, 0, 0] s

/-- Add a reference of a SHARED descriptor: some true when it may be carried out, some false for another LAST_OWNER, none when the
table is full. -/
def openShare (who a owner : Nat) (s : State) : Option Bool × State :=
  match s.host.shares.find? fun x => x.addr == a with
  | some x =>
    if x.owner ≠ owner then (some false, s)
    else (some true, { s with host := { s.host with shares := s.host.shares.map fun y =>
      if y.addr = a then { y with refs := y.refs ++ [who] } else y } })
  | none =>
    if 4096 ≤ s.host.shares.length then (none, s)
    else (some true, { s with host := { s.host with shares := s.host.shares ++ [{ addr := a, refs := [who], owner := owner }] } })

/-- Close a reference: at a count of zero a waiting return is performed and the entry is freed. -/
def closeShare (r : CqRef) (a : Nat) (s : State) : State :=
  match s.host.shares.find? fun x => x.addr == a with
  | none => s
  | some x =>
    let refs := x.refs.erase (shareOwner r)
    if refs.isEmpty then
      let s : State := { s with host := { s.host with shares := s.host.shares.filter fun y => y.addr != a } }
      match x.ret, s.poolFor (s.cqFn r) a with
      | true, some p => giveBack (if x.owner < 4096 then .qp x.owner else .chan (x.owner - 4096)) p a s
      | _, _ => s
    else { s with host := { s.host with shares := s.host.shares.map fun y => if y.addr = a then { y with refs := refs } else y } }

/-- Close the references of requesters without a return (R330, R335). -/
def dropShares (p : Nat → Bool) (s : State) : State :=
  let l := s.host.shares.map fun x => { x with refs := x.refs.filter fun r => !p r }
  { s with host := { s.host with shares := l.filter fun x => !x.refs.isEmpty } }

/-- Fields of a descriptor or job that both layouts share by place: RETURN and SHARED bits differ, LAST_OWNER differs. -/
structure BufUse where
  addr : Nat
  ret : Bool
  shared : Bool
  owner : Nat
deriving DecidableEq, Repr

/-- LAST_OWNER as a requester number. -/
def lastOwner (v : Nat) : Nat := if v.testBit 12 then 4096 + v % 32 else v % 4096

/-- The buffer that a transmit descriptor (Table 14-6) or a DMA job (Table 14-10) uses. -/
def txUse (e : List W) : BufUse :=
  { addr := (e.getD 1 0).toNat, ret := bitAt (e.getD 0 0) 60, shared := bitAt (e.getD 0 0) 59, owner := lastOwner (fld (e.getD 2 0) 12 0) }
def jobUse (e : List W) : BufUse :=
  { addr := (e.getD 1 0).toNat, ret := bitAt (e.getD 0 0) 53, shared := bitAt (e.getD 0 0) 52, owner := lastOwner (fld (e.getD 3 0) 12 0) }

/-- Is a RETURN refused: by another requester than LAST_OWNER (counted FREE_NOT_OWNER), or an address that no pool of the
function holds (POOL_BAD_PTR)? -/
def refuseReturn (r : CqRef) (u : BufUse) (s : State) : Bool × State :=
  if !u.ret then (false, s)
  else if u.shared && u.owner != (shareOwner r) then
    (true, raiseFn (s.cqFn r) 3 (s.bump .fnCnt [s.cqFn r] 15 0))
  else if (s.poolFor (s.cqFn r) u.addr).isNone then (true, badPtr (s.cqFn r) s)
  else (false, s)

/-- The segment of a descriptor or job has been read: its reference closes, an accepted RETURN is performed or waits. -/
def usedBuffer (r : CqRef) (ok : Bool) (u : BufUse) (s : State) : State :=
  if u.shared then
    let s := if u.ret && ok && u.owner == (shareOwner r) then
      { s with host := { s.host with shares := s.host.shares.map fun y => if y.addr = u.addr then { y with ret := true } else y } } else s
    if s.host.shares.any fun y => y.addr == u.addr && y.refs.contains (shareOwner r) then closeShare r u.addr s else s
  else if u.ret && ok then
    match s.poolFor (s.cqFn r) u.addr with
    | some p => giveBack r p u.addr s
    | none => s
  else s

/-! ### Taking entries (R312, R319) -/

/-- Add a descriptor or job to the chain being taken: the open chain, and the finished one after LAST. `bad` is a status that the
entry itself brings. -/
def chainTake (open_ : Option Chain) (i : Nat) (e : List W) (bad : Nat) : Option Chain × Option Chain :=
  let w := e.getD 0 0
  let c : Chain := match open_ with
    | some c => { c with items := c.items ++ [(i, e)] }
    | none => { items := [(i, e)], status := if bitAt w 62 then 0 else 1 }
  let st := if c.status ≠ 0 then c.status else if 16 < c.items.length then 1 else bad
  let c := { c with status := st }
  if bitAt w 61 then (none, some c) else (some c, none)

/-- Open the share reference of an entry: its status (4 when refused), or none when the table is full. -/
def takeShare (r : CqRef) (u : BufUse) (s : State) : Option Nat × State :=
  if !u.shared then (some 0, s)
  else match openShare (shareOwner r) u.addr u.owner s with
    | (some true, s) => (some 0, s)
    | (some false, s) => (some 4, s)
    | (none, s) => (none, s)

/-- An entry of a poisoned TLP is not used, and its chain ends with PCIE_ERROR (Table 17-2). DESIGN CHOICE (log 88): its PHASE, FIRST and
LAST cannot be read; it counts as taken, and the chain being taken ends with it. -/
def chainPoison (open_ : Option Chain) (i : Nat) : Chain :=
  match open_ with
  | some c => { items := c.items ++ [(i, [])], status := 5 }
  | none => { items := [(i, [])], status := 5 }

/-- Take the fetched descriptors of a queue pair. -/
def takeQp (q f : Nat) : List (List W) → State → State
  | [], s => s
  | e :: es, s =>
    let x := s.qp q
    if x.sq.h = x.sq.d then s
    else if e.isEmpty then
      takeQp q f es (pcieError 5 (s.setQp q { x with
        sq := { x.sq with h := (x.sq.h + 1) % 65536 }, taking := none, ready := x.ready ++ [chainPoison x.taking x.sq.h] }))
    else if !x.sq.owned 63 e then (s.setQp q { x with sq := { x.sq with miss := some s.tick } }).bump .fnCnt [f] 31 16
    else match takeShare (.qp q) (txUse e) s with
      | (none, s) => hqInt 3 (s.setQp q { x with sq := { x.sq with miss := some s.tick } })
      | (some b, s) =>
        let x := s.qp q
        let r := chainTake x.taking x.sq.h e b
        takeQp q f es (s.setQp q { x with
          sq := { x.sq with h := (x.sq.h + 1) % 65536 }, taking := r.1, ready := x.ready ++ r.2.toList })

/-- Take the fetched jobs of a channel. -/
def takeChan (c f : Nat) : List (List W) → State → State
  | [], s => s
  | e :: es, s =>
    let x := s.chan c
    if x.ring.h = x.ring.d then s
    else if e.isEmpty then
      takeChan c f es (pcieError 6 (s.setChan c { x with
        ring := { x.ring with h := (x.ring.h + 1) % 65536 }, taking := none, ready := x.ready ++ [chainPoison x.taking x.ring.h] }))
    else if !x.ring.owned 63 e then (s.setChan c { x with ring := { x.ring with miss := some s.tick } }).bump .fnCnt [f] 31 16
    else match takeShare (.chan c) (jobUse e) s with
      | (none, s) => hqInt 3 (s.setChan c { x with ring := { x.ring with miss := some s.tick } })
      | (some b, s) =>
        let x := s.chan c
        let r := chainTake x.taking x.ring.h e b
        takeChan c f es (s.setChan c { x with
          ring := { x.ring with h := (x.ring.h + 1) % 65536 }, taking := r.1, ready := x.ready ++ r.2.toList })

/-- The jobs of a channel that a cluster owns, read from its shared memory. -/
def clusterJobs (q : Nat) (r : HRing) (n : Nat) (s : State) : List (List W) :=
  (List.range n).map fun i => (List.range 4).map fun k => clusterWord q (r.base + 32 * ((r.h + i) % 2 ^ r.log) + 8 * k) s

/-- RING_FETCH_DONE of a queue pair or a channel. -/
def fetchDone (ring : Ring) (entries : List (List W)) (s : State) : State :=
  match ring with
  | .admin _ => s
  | .qp q =>
    let x := s.qp q
    match s.qpFn q with
    | some f => if x.live && x.sq.fetches && s.pcieUp then takeQp q f (entries.take (x.sq.span 16)) s else s
    | none => s
  | .chan c =>
    let x := s.chan c
    if !x.enabled || !x.ring.fetches then s
    else match s.chanCluster c with
      | some q => takeChan c (s.chanFn c) (clusterJobs q x.ring (x.ring.span 16) s) s
      | none => if s.pcieUp then takeChan c (s.chanFn c) (entries.take (x.ring.span 16)) s else s

/-- RING_RESCAN: 2 µs after a break the ring is read again (R312). -/
def ringRescan (ring : Ring) (s : State) : State :=
  let go := fun (r : HRing) => match r.miss with
    | some t => if t + 2 * usTicks ≤ s.tick then { r with miss := none } else r
    | none => r
  match ring with
  | .admin f => s.setFn f { s.fn f with sq := go (s.fn f).sq }
  | .qp q => s.setQp q { s.qp q with sq := go (s.qp q).sq }
  | .chan c => s.setChan c { s.chan c with ring := go (s.chan c).ring }

def execRingRescan (ring : Ring) (s : State) : Host.Outcome State Fault Refusal := keep s (ringRescan ring s)

/-! ### Doorbell rows -/

/-- A doorbell is work for the PCIe domain (R345); in PS3 and PS4 a write has no effect (R460). -/
def doorbell (f : State → State) (s : State) : State := if 2 < (s.domain domPcie).state then s else f (work domPcie s)

/-- ADMIN_SQ_DB and ADMIN_CQ_DB (R311, R313, R314). -/
def adminSqDb (f : Nat) (v : W) : State → State := doorbell fun s =>
  let x := s.fn f
  if fld v 63 48 != s.epoch (ekAdmin f) then countStale f s
  else match x.sq.bell v with
    | some r => s.setFn f { x with sq := r }
    | none => countInvalid f s

def execAdminSqDb (fn : Nat) (value : W) (s : State) : Host.Outcome State Fault Refusal := keep s (adminSqDb (fn % 64) value s)

/-- TotalVFs of each PF's SR-IOV capability (R306). -/
def totalVfs : Nat := 31

/-- The virtual functions of a function: VFs 0 to 30 are PF0's, 31 to 61 PF1's; VF v is function 2 + v (R306). -/
def vfsOf (f : Nat) : List Nat := if f < 2 then (List.range totalVfs).map (2 + totalVfs * f + ·) else []

/-- The source of commands that a function is. -/
def fnSrc (f : Nat) : Source := if f = 0 then .pf0 else if f = 1 then .pf1 else .vf (f - 2)

def adminCqDb (f : Nat) (v : W) : State → State := doorbell fun s =>
  let x := s.fn f
  if fld v 63 48 != s.epoch (ekAdmin f) then countStale f s
  else match x.cq.bell v with
    | some c =>
      let s := pumpAdmin f (c.waiting.length) (s.setFn f { x with cq := c })
      pumpEvents (fnSrc f) (s.sub (fnSrc f)).queue.length s
    | none => countInvalid f s

def execAdminCqDb (fn : Nat) (value : W) (s : State) : Host.Outcome State Fault Refusal := keep s (adminCqDb (fn % 64) value s)

/-- QP_SQ_DB and QP_CQ_DB of local queue pair i. -/
def qpSqDb (f i : Nat) (v : W) : State → State := doorbell fun s =>
  let q := s.qpBase f + i
  let x := s.qp q
  if s.qpCount f ≤ i then s
  else if !x.live || fld v 63 48 != s.epoch (ekQp q) then countStale f s
  else match x.sq.bell v with
    | some r => s.setQp q { x with sq := r }
    | none => countInvalid f s

def execQpSqDb (fn idx : Nat) (value : W) (s : State) : Host.Outcome State Fault Refusal := keep s (qpSqDb (fn % 64) idx value s)

def qpCqDb (f i : Nat) (v : W) : State → State := doorbell fun s =>
  let q := s.qpBase f + i
  if s.qpCount f ≤ i then s else cqBell (.qp q) f (ekQp q) (s.qp q).live v s

def execQpCqDb (fn idx : Nat) (value : W) (s : State) : Host.Outcome State Fault Refusal := keep s (qpCqDb (fn % 64) idx value s)

/-- POOL_DB of a pool that the function owns. -/
def poolDb (f p : Nat) (v : W) : State → State := doorbell fun s =>
  let x := s.pool p
  if s.poolFn p ≠ f then s
  else if fld v 63 48 != s.epoch (ekPool p) then countStale f s
  else match x.ring.bell v with
    | some r => s.setPool p { x with ring := r }
    | none => countInvalid f s

def execPoolDb (fn pool : Nat) (value : W) (s : State) : Host.Outcome State Fault Refusal := keep s (poolDb (fn % 64) (pool % 8) value s)

/-- CHAN_DB and CHAN_CQ_DB of a channel that the function owns. -/
def chanDb (f c : Nat) (v : W) : State → State := doorbell fun s =>
  let x := s.chan c
  if s.chanFn c ≠ f then s
  else if fld v 63 48 != s.epoch (ekChan c) then countStale f s
  else match x.ring.bell v with
    | some r => s.setChan c { x with ring := r }
    | none => countInvalid f s

def execChanDb (fn chan : Nat) (value : W) (s : State) : Host.Outcome State Fault Refusal := keep s (chanDb (fn % 64) (chan % 32) value s)

def chanCqDb (f c : Nat) (v : W) : State → State := doorbell fun s =>
  if s.chanFn c ≠ f then s else cqBell (.chan c) f (ekChan c) true v s

def execChanCqDb (fn chan : Nat) (value : W) (s : State) : Host.Outcome State Fault Refusal :=
  keep s (chanCqDb (fn % 64) (chan % 32) value s)

/-! ### Queue pairs (R315 to R318, R326) -/

/-- MSI-X vectors of a function (R309). -/
def vectorsOf (f : Nat) : Nat := if f < 2 then 280 else 24

/-- The pools of a mask all belong to a function. -/
def State.poolsOk (s : State) (f m : Nat) : Bool := decide (m < 256) && (bitsOf 8 m).all fun p => s.poolFn p == f

/-- Range checks of the ring parameters from word k of a command: SQ_BASE, SQ_SIZE_LOG2, CQ_BASE, CQ_SIZE_LOG2, MSIX, COAL_COUNT,
COAL_TIME (Table 14-5). -/
def ringChecks (c : Cmd) (f k : Nat) : List (Nat × Bool) :=
  [(k, c.n k % 4096 == 0), (k + 1, decide (6 ≤ c.n (k + 1)) && decide (c.n (k + 1) ≤ 15)), (k + 2, c.n (k + 2) % 4096 == 0),
   (k + 3, decide (6 ≤ c.n (k + 3)) && decide (c.n (k + 3) ≤ 15)), (k + 4, decide (c.n (k + 4) < vectorsOf f)),
   (k + 5, decide (1 ≤ c.n (k + 5)) && decide (c.n (k + 5) ≤ 255)), (k + 6, decide (c.n (k + 6) ≤ 1023))]

/-- The rings that those parameters set. -/
def ringsOf (c : Cmd) (k : Nat) : HRing × CRing :=
  ({ base := c.n k, log := c.n (k + 1) },
   { base := c.n (k + 2), log := c.n (k + 3), vector := c.n (k + 4), count := c.n (k + 5), time := c.n (k + 6) })

/-- A queue pair is idle (R317). -/
def State.qpIdle (s : State) (q : Nat) : Bool :=
  let x := s.qp q
  x.sq.h == x.sq.d && x.taking.isNone && x.ready.isEmpty && x.running.isEmpty && x.cq.waiting.isEmpty
    && !(s.host.shares.any fun y => y.refs.contains q)

/-- CAST_ON (R316). -/
def castOnBody : CmdBody := fun c s =>
  match srcFn c.src with
  | none => .refuse .notPermitted 0
  | some f =>
    let q := s.qpBase f + c.n 0
    checked ([(0, decide (c.n 0 < s.qpCount f))] ++ ringChecks c f 1 ++ [(8, s.poolsOk f (c.n 8))]) fun _ =>
      if (s.qp q).live then .refuse .busyQueue q
      else if (s.fn f).legacy then .refuse .notPermitted 0
      else
        let r := ringsOf c 1
        let s := bumpEpoch (ekQp q) domPcie (s.setQp q { live := true, sq := r.1, cq := r.2, pools := c.n 8 })
        .done [mk 31 16 (s.epoch (ekQp q)) ||| mk 11 0 q] s

/-- A queue pair ceases to exist. -/
def endQp (q : Nat) (s : State) : State := bumpEpoch (ekQp q) domPcie (dropShares (· == q) (s.setQp q {}))

/-- BIND_OFF (R317): word 0 holds the epoch in [31:16] and LOCAL_QP in [11:0]. -/
def bindOffBody : CmdBody := fun c s =>
  match srcFn c.src with
  | none => .refuse .notPermitted 0
  | some f =>
    let i := fld (c.p 0) 11 0
    let q := s.qpBase f + i
    checked [(0, decide (i < s.qpCount f) && fld (c.p 0) 63 32 == 0 && fld (c.p 0) 15 12 == 0)] fun _ =>
      if !(s.qp q).live || fld (c.p 0) 31 16 != s.epoch (ekQp q) then .refuse .epochStale (s.epoch (ekQp q))
      else if !s.qpIdle q then .refuse .busyQueue q
      else .done [] (endQp q s)

/-- Switch a function between NATIVE and LEGACY mode (R326). -/
def modeSwitch (f : Nat) (legacy : Bool) (s : State) : CmdResult :=
  let base := s.qpBase f
  let live := (List.range (s.qpCount f)).filter fun i => (s.qp (base + i)).live
  if legacy == (s.fn f).legacy then .done [] s
  else if legacy then
    if s.qpCount f < 64 then bad 0
    else match live with
      | i :: _ => .refuse .busyQueue (base + i)
      | [] =>
        let s := s.setFn f { s.fn f with legacy := true, next := 0, burst := 0 }
        .done [] ((List.range 64).foldl (fun s i => s.setQp (base + i) { live := true, enable := false, sq := { log := 6 }, cq := { log := 6 } }) s)
  else match live.find? fun i => !s.qpIdle (base + i) with
    | some i => .refuse .busyQueue (base + i)
    | none => .done [] (live.foldl (fun s i => endQp (base + i) s) (s.setFn f { s.fn f with legacy := false, next := 0, burst := 0 }))

/-- LEGACY_QUEUE_CONFIG (R326): with bit 63 of word 0 clear a mode switch, MODE [0]; set, queue [5:0] with the parameters of Table
14-5 from SQ_BASE on in words 1 to 8, WEIGHT, BURST and ENABLE in words 9 to 11. -/
def legacyBody : CmdBody := fun c s =>
  match srcFn c.src with
  | none => .refuse .notPermitted 0
  | some f =>
    if !bitAt (c.p 0) 63 then checked [(0, decide (c.n 0 < 2))] fun _ => modeSwitch f (c.n 0 == 1) s
    else
      let i := fld (c.p 0) 5 0
      let q := s.qpBase f + i
      checked ([(0, fld (c.p 0) 62 6 == 0 && (s.fn f).legacy)] ++ ringChecks c f 1 ++ [(8, s.poolsOk f (c.n 8)),
        (9, decide (1 ≤ c.n 9) && decide (c.n 9 ≤ 255)), (10, decide (1 ≤ c.n 10) && decide (c.n 10 ≤ 64)), (11, decide (c.n 11 < 2))])
        fun _ =>
        if !s.qpIdle q then .refuse .busyQueue q
        else
          let r := ringsOf c 1
          let s := bumpEpoch (ekQp q) domPcie (s.setQp q { live := true, sq := r.1, cq := r.2, pools := c.n 8
                                                           weight := c.n 9, burst := c.n 10, enable := c.n 11 == 1 })
          .done [mk 31 16 (s.epoch (ekQp q)) ||| mk 11 0 q] s

/-! ### Sending packets (R319 to R323, R327) -/

/-- Fields of the FIRST descriptor of a chain. -/
def Chain.first (c : Chain) : List W := (c.items.getD 0 (0, [])).2
def Chain.word (c : Chain) (k : Nat) : W := c.first.getD k 0
def Chain.lastIndex (c : Chain) : Nat := (c.items.getLastD (0, [])).1

/-- Frame bytes of a transmit chain. -/
def Chain.txLen (c : Chain) : Nat := c.items.foldl (fun n x => n + fld (x.2.getD 0 0) 14 0) 0

/-- The queue pair of a function that has the next turn among those with ready chains: round robin, or R327 in legacy mode, with
what the turn leaves. -/
def State.fnTurn (s : State) (f : Nat) : Option (Nat × State) :=
  let x := s.fn f
  let base := s.qpBase f
  let ready := fun (i : Nat) => let q := s.qp (base + i); q.live && q.enable && !q.ready.isEmpty
  let order := (List.range (s.qpCount f)).map fun k => (x.next + k) % max 1 (s.qpCount f)
  if !x.legacy then
    (order.find? ready).map fun i => (i, s.setFn f { x with next := (i + 1) % max 1 (s.qpCount f) })
  else
    let order := (List.range 64).map fun k => (x.next + k) % 64
    let credit := fun (s : State) (i : Nat) => (s.qp (base + i)).credit
    let take := fun (s : State) (i : Nat) =>
      let q := s.qp (base + i)
      let k := min q.burst (min q.credit q.ready.length)
      (i, (s.setQp (base + i) { q with credit := q.credit - k }).setFn f { x with next := (i + 1) % 64, burst := k - 1 })
    let prev := (x.next + 63) % 64
    if 0 < x.burst ∧ ready prev then some (prev, s.setFn f { x with burst := x.burst - 1 })
    else match order.find? fun i => ready i && decide (0 < credit s i) with
      | some i => some (take s i)
      | none =>
        let s' := (List.range 64).foldl (fun s i => let q := s.qp (base + i); s.setQp (base + i) { q with credit := q.weight }) s
        (order.find? ready).map (take s')

/-- The status of a chain before it is sent (Table 14-9): its own, the frame length, the limits of R321, its RETURNs. -/
def txCheck (q f : Nat) (c : Chain) (s : State) : Nat × State :=
  let w := c.word 0
  let mode := fld w 57 56
  let port := fld w 55 47
  if c.status ≠ 0 then (c.status, s)
  else if c.txLen < 60 ∨ 16380 < c.txLen then (2, s)
  else if 2 ≤ mode ∨ (2 ≤ f ∧ (mode ≠ 1 ∨ port ≠ s.rgf .fnTxCfg [f] 8 0)) then (3, s)
  else
    let r := c.items.foldl (fun (a : Bool × State) x => let y := refuseReturn (.qp q) (txUse x.2) a.2; (a.1 || y.1, y.2)) (false, s)
    (if r.1 then 4 else 0, r.2)

/-- Deficit round robin across functions (R323): the queue pair whose chain goes next, with the turn taken. A chain that is not sent
(R322) takes no bandwidth. Each visit that ends without a chain adds at least 1,024 bytes to a deficit, so 1,200 visits suffice. -/
def txTurn : Nat → State → Option (Nat × State)
  | 0, _ => none
  | n + 1, s =>
    let f := s.host.turn
    let nxt := fun (s : State) => { s with host := { s.host with turn := (f + 1) % 64, onTurn := false } }
    match s.fnTurn f with
    | none => txTurn n (nxt (s.setFn f { s.fn f with deficit := 0 }))
    | some (i, t) =>
      let q := s.qpBase f + i
      let len := match (s.qp q).ready with | c :: _ => if (txCheck q f c s).1 = 0 then c.txLen else 0 | [] => 0
      let d := (s.fn f).deficit + if s.host.onTurn then 0 else max 1 (s.rgf .fnTxCfg [f] 23 16) * 1024
      if len ≤ d then
        let t : State := { t with host := { t.host with onTurn := true } }
        some (q, t.setFn f { t.fn f with deficit := d - len })
      else txTurn n (nxt (s.setFn f { s.fn f with deficit := d }))

/-- TX_CHAIN_START: the chain whose turn it is starts on the host path; `data` are the bytes that its reads returned. -/
def txStart (q : Nat) (data : List Byte) (s : State) : State :=
  match s.qpFn q, txTurn 1200 s with
  | some f, some (q', t) =>
    if q' ≠ q || !s.pcieUp then s
    else match (t.qp q).ready with
      | [] => s
      | c :: rest =>
        let r := txCheck q f c t
        let st := if r.1 = 0 ∧ data.length ≠ c.txLen then 5 else r.1
        let s := c.items.foldl (fun s x => usedBuffer (.qp q) (st != 4) (txUse x.2) s) (when (r.1 == 0 && st == 5) (pcieError 5) r.2)
        let x := s.qp q
        s.setQp q { x with ready := rest, running := x.running ++ [({ c with status := st }, data)] }
  | _, _ => s

def execTxChainStart (qp : Nat) (data : List Byte) (s : State) : Host.Outcome State Fault Refusal := keep s (txStart (qp % 4096) data s)

/-- The packet of a chain as it enters the Tile of PORT (R320). -/
def hostPkt (s : State) (c : Chain) (data : List Byte) : Pkt :=
  let w := c.word 0
  let p := fld w 55 47
  { bytes := data, inPort := p, tile := tileOf p, eport := p, queue := fld w 46 43, host := true, flow := fld w 42 40
    hostTsId := fld w 39 24, ts := if bitAt w 58 then some (fld w 39 24) else none, rx16 := s.now16, rxTick := s.tick, tsEpoch := s.mast.tsEpoch
    hold := s.holdoverMark, uncal := false }

/-- A TX_DONE entry (Table 14-8). -/
def txDone (c : Chain) : List W :=
  [mk 43 40 c.status ||| mk 15 0 c.lastIndex, mk 63 32 (fld (c.word 2) 63 32), 0, 0]

/-- TX_CHAIN_DONE, of the oldest chain of the queue pair that has started: the last byte has entered the Tile, or the chain failed a check; the TX_DONE entry is written (R322). -/
def txFinish (q : Nat) (s : State) : State :=
  let x := s.qp q
  match x.running with
  | [] => s
  | (c, data) :: more =>
    let k := hostPkt s c data
    if c.status = 0 && !s.awake (domTile k.tile) then work (domTile k.tile) s
    else
      let s := s.setQp q { x with running := more }
      let s := if c.status ≠ 0 then s
        else if fld (c.word 0) 57 56 = 0 then
          storePkt k.tile { k with ctl := s.isControl k.tile k.eport k.bytes } [k.eport] false none true s
        else pipeline k.tile k true s
      cqEntry (.qp q) (txDone c) s

def execTxChainDone (qp : Nat) (s : State) : Host.Outcome State Fault Refusal := keep s (txFinish (qp % 4096) s)

/-! ### Receiving packets (R324, R334) -/

/-- The enabled pools of a mask in ascending buffer size. -/
def State.poolsBySize (s : State) (f m : Nat) : List Nat :=
  let l := (bitsOf 8 m).filter fun p => (s.pool p).enabled && s.poolFn p == f
  (List.range 17).flatMap fun z => l.filter fun p => (s.pool p).size == z

/-- The buffers for a packet of n bytes (R334): pool and how many. -/
def State.rxBuffers (s : State) (f m n : Nat) : Option (Nat × Nat) :=
  let l := s.poolsBySize f m
  let fits := l.filter fun p => n ≤ 2 ^ (s.pool p).size
  match fits with
  | [] => match l.getLast? with
    | some p =>
      let k := (n + 2 ^ (s.pool p).size - 1) / 2 ^ (s.pool p).size
      if k ≤ (s.pool p).cache.length then some (p, k) else none
    | none => none
  | _ => (fits.find? fun p => !(s.pool p).cache.isEmpty).map fun p => (p, 1)

/-- An RX entry (Table 14-8) for buffer j of m. -/
def rxEntry (k : Pkt) (p a len j m : Nat) : List W :=
  let t := MTime.of16 k.rx16
  [mk 62 61 1 ||| mk 60 60 (b2n (j == 0)) ||| mk 59 59 (b2n (j + 1 == m)) ||| mk 58 56 p ||| mk 55 44 k.cpu ||| mk 39 31 k.inPort
     ||| mk 30 15 k.flags ||| mk 14 0 len,
   BitVec.ofNat 64 a,
   mk 63 32 k.hash0 ||| mk 31 30 k.tsEpoch ||| mk 29 29 (b2n k.hold) ||| mk 28 28 (b2n k.uncal),
   mk 63 32 t.sec ||| mk 31 0 t.ns]

/-- Count a dropped host-bound packet. -/
def rxDrop (code : Nat) (s : State) : State := s.bump .hqDropCnt [code] 47 0

/-- HOST_RX_DELIVER: the head of a Tile's receive FIFO is delivered or dropped. -/
def hostRxDeliver (t : Nat) (s : State) : State :=
  match (s.tl t).hostRx with
  | [] => s
  | k :: rest =>
    if !s.pcieUp then s
    else
      let s := s.modTl t fun tl => { tl with hostRx := rest }
      let q := k.eport
      let x := s.qp q
      match x.live, s.qpFn q with
      | true, some f =>
        match s.rxBuffers f x.pools k.bytes.length with
        | none => hqInt 2 (rxDrop 3 s)
        | some (p, m) =>
          let free := 2 ^ x.cq.log - (x.cq.tail + 65536 - x.cq.head) % 65536
          if !x.cq.waiting.isEmpty || decide (free < m) then rxDrop 4 s
          else
            let z := 2 ^ (s.pool p).size
            let bufs := (s.pool p).cache.take m
            let s := s.setPool p { s.pool p with cache := (s.pool p).cache.drop m }
            let piece := fun (j : Nat) => (k.bytes.drop (j * z)).take z
            let s := (bufs.zipIdx).foldl (fun s x => hostWrite f x.1 (piece x.2) false s true) s
            (bufs.zipIdx).foldl (fun s x => cqEntry (.qp q) (rxEntry k p x.1 (piece x.2).length x.2 m) s) s
      | _, _ => rxDrop 2 s

def execHostRxDeliver (tile : Nat) (s : State) : Host.Outcome State Fault Refusal := keep s (hostRxDeliver (tile % 16) s)

/-! ### DMA channels (R328 to R330) -/

/-- DMA_CHANNEL_CONFIG: the channel, then the ring parameters. -/
def dmaConfigBody : CmdBody := fun c s =>
  match srcFn c.src with
  | none => .refuse .notPermitted 0
  | some f =>
    let k := c.n 0
    checked ([(0, decide (k < 32))] ++ ringChecks c f 1) fun _ =>
      if s.chanFn k ≠ f then .refuse .notPermitted 0
      else if (s.chan k).enabled then .refuse .busyQueue 0
      else
        let r := ringsOf c 1
        .done [] (bumpEpoch (ekChan k) domPcie (s.setChan k { config := true, ring := r.1, cq := r.2 }))

/-- Fields of a DMA job (Table 14-10). -/
def jbCrc (w : W) : Nat := fld w 60 59
def jbPoly (w : W) : Bool := bitAt w 58
def jbSrcDev (w : W) : Bool := bitAt w 57
def jbDstDev (w : W) : Bool := bitAt w 56
def jbCluster (w : W) : Nat := fld w 55 54
def jbTag (w : W) : Nat := fld w 47 32
def jbLen (w : W) : Nat := fld w 23 0

/-- The status of a job by its own fields: LENGTH_ERROR, NOT_PERMITTED. -/
def jobCheck (dev : Bool) (e : List W) : Nat :=
  let w := e.getD 0 0
  let odd := fun (d : Bool) (a : W) => d && (jbLen w % 8 != 0 || a.toNat % 8 != 0)
  if jbLen w = 0 || odd (jbSrcDev w) (e.getD 1 0) || odd (jbDstDev w) (e.getD 2 0) then 2
  else if (jbSrcDev w || jbDstDev w) && !dev then 3
  else if jbCrc w = 3 then 1 else 0

/-- The status of a chain before it moves anything. -/
def dmaCheck (c : Nat) (x : Chain) (s : State) : Nat × State :=
  let own := x.items.foldl (fun n y => if n ≠ 0 then n else jobCheck (s.devAccess c) y.2) 0
  if x.status ≠ 0 then (x.status, s)
  else if own ≠ 0 then (own, s)
  else
    let r := x.items.foldl (fun (a : Bool × State) y => let z := refuseReturn (.chan c) (jobUse y.2) a.2; (a.1 || z.1, z.2)) (false, s)
    (if r.1 then 4 else 0, r.2)

/-- DMA_CHAIN_START: the channel's next chain runs; `data` are the bytes that its host reads return, job after job. -/
def dmaStart (c : Nat) (data : List Byte) (s : State) : State :=
  let x := s.chan c
  match x.ready, x.running with
  | k :: rest, none =>
    if !x.enabled || (!s.pcieUp && (s.chanCluster c).isNone) then s
    else
      let r := dmaCheck c k s
      let y := r.2.chan c
      r.2.setChan c { y with ready := rest, running := some ({ k with status := r.1 }, data) }
  | _, _ => s

def execDmaChainStart (chan : Nat) (data : List Byte) (s : State) : Host.Outcome State Fault Refusal := keep s (dmaStart (chan % 32) data s)

/-- Bytes of CLUSTER space that a job reads, 8 per word, each word with whether it may be used. -/
def clusterRead (q a : Nat) : Nat → State → List (W × Bool) × State
  | 0, s => ([], s)
  | n + 1, s =>
    let r := memRead 8 q 3 (a / 8 % 65536) 6 s
    let w := r.data (clusterWord q a s)
    let t := clusterRead q (a + 8) n r.st
    ((w, r.ok) :: t.1, t.2)

/-- What moving a chain gives so far: bytes of the block, host data left, bytes written, whether device memory had an uncorrectable
word, whether host data ran out. -/
structure DmaRun where
  bytes : List Byte := []
  data : List Byte := []
  written : Nat := 0
  ue : Bool := false
  short : Bool := false
  st : State

/-- Write bytes to a job's destination; `oks` marks the words that may be used (Table 17-2: the host write of the others is poisoned). -/
def dmaWrite (f : Nat) (w : W) (dst : Nat) (b : List Byte) (oks : List Bool) (s : State) : State :=
  let n := (b.length + 7) / 8
  if jbDstDev w then
    (List.range n).foldl (fun s i =>
      if oks.getD i true then putClusterWord (jbCluster w) (dst + 8 * i) (BitVec.ofNat 64 (bytesNat b (8 * i) 8)) s else s) s
  else if oks.all id then hostWrite f dst b false s
  else (List.range n).foldl (fun s i => hostWrite f (dst + 8 * i) ((b.drop (8 * i)).take 8) (!oks.getD i true) s) s

/-- Move one job. -/
def dmaJob (f : Nat) (a : DmaRun) (e : List W) : DmaRun :=
  let w := e.getD 0 0
  let n := jbLen w
  let src := (e.getD 1 0).toNat
  let dst := (e.getD 2 0).toNat
  if jbSrcDev w then
    let r := clusterRead (jbCluster w) src (n / 8) a.st
    let b := r.1.flatMap fun x => wordBytes x.1
    { a with bytes := a.bytes ++ b, written := a.written + n, ue := a.ue || r.1.any (fun x => !x.2)
             st := dmaWrite f w dst b (r.1.map (·.2)) r.2 }
  else
    let b := a.data.take n
    if b.length < n then { a with short := true }
    else { a with bytes := a.bytes ++ b, data := a.data.drop n, written := a.written + n, st := dmaWrite f w dst b [] a.st }

/-- A word of CLUSTER space as a job reads it: none where it is uncorrectable. -/
def jobWord (q a : Nat) (s : State) : Option W × State :=
  let r := memRead 8 q 3 (a / 8 % 65536) 6 s
  (if r.ok then some (r.data (clusterWord q a s)) else none, r.st)

/-- The four CRC bytes that a check job reads at SRC + LENGTH, least significant byte first: the CRC, or the status of a read that
fails. -/
def crcRead (a : DmaRun) (e : List W) : Except Nat Nat × State :=
  let w := e.getD 0 0
  let four := fun (b : List Byte) => byteAt b 0 + 256 * byteAt b 1 + 65536 * byteAt b 2 + 16777216 * byteAt b 3
  if jbSrcDev w then
    let r := jobWord (jbCluster w) ((e.getD 1 0).toNat + jbLen w) a.st
    (match r.1 with | some v => .ok (four (wordBytes v)) | none => .error 7, r.2)
  else (if a.data.length < 4 then .error 5 else .ok (four a.data), a.st)

/-- Write the four CRC bytes of a generate chain at DST + LENGTH of its LAST job, least significant byte first. In CLUSTER space the rest
of the word is kept; a word that cannot be read keeps what it holds, and the status is DEVICE_UE. -/
def crcWrite (f : Nat) (e : List W) (crc : Nat) (s : State) : Nat × State :=
  let w := e.getD 0 0
  let a := (e.getD 2 0).toNat + jbLen w
  let b := (bytesBE 4 crc).reverse
  if jbDstDev w then
    let r := jobWord (jbCluster w) a s
    match r.1 with
    | some v => (0, putClusterWord (jbCluster w) a (ins v 63 32 (bytesNat b 0 4)) r.2)
    | none => (7, r.2)
  else (0, hostWrite f a b false s)

/-- A DMA_DONE entry (Table 14-8). -/
def dmaDone (c : Chain) (status crc bytes : Nat) : List W :=
  [mk 62 61 2 ||| mk 43 40 status ||| mk 39 24 (jbTag (c.word 0)) ||| mk 15 0 c.lastIndex,
   mk 63 32 (fld (c.word 3) 63 32) ||| mk 31 0 crc, mk 39 0 bytes, 0]

/-- DMA_CHAIN_DONE: the chain has moved its blocks; `error` = 5 for an error completion or poisoned data of a read. -/
def dmaFinish (c error : Nat) (s : State) : State :=
  let x := s.chan c
  match x.running with
  | none => s
  | some (k, data) =>
    let f := s.chanFn c
    let s := s.setChan c { x with running := none }
    let mode := jbCrc (k.word 0)
    let go := k.status = 0 ∧ error ≠ 5
    let a : DmaRun := if go then k.items.foldl (fun a y => if a.short then a else dmaJob f a y.2) { data := data, st := s } else { st := s }
    let last := (k.items.getLastD (0, [])).2
    let crc := if jbPoly (k.word 0) then crc32 a.bytes else crc32c a.bytes
    let ran := go ∧ !a.short
    let tail : Except Nat Nat × State := if ran ∧ mode = 2 then crcRead a last else (.ok crc, a.st)
    let gen := decide (ran ∧ mode = 1)
    let put : Nat × State := if gen then crcWrite f last crc tail.2 else (0, tail.2)
    let late := match tail.1 with
      | .error x => x
      | .ok v => if v = crc then 0 else 6
    let st := if k.status ≠ 0 then k.status else if error = 5 || a.short then 5 else if a.ue then 7 else max put.1 late
    let s := when (k.status == 0 && st == 5) (pcieError 6) put.2
    let s := k.items.foldl (fun s y => usedBuffer (.chan c) (st != 4) (jobUse y.2) s) s
    let bytes := a.written + if gen ∧ put.1 = 0 then 4 else 0
    let y := s.chan c
    let s := s.setChan c { y with jobs := (y.jobs + k.items.length) % 2 ^ 24, bytes := y.bytes + bytes }
    dmaWaits c (jbTag (k.word 0)) (cqEntry (.chan c) (dmaDone k st (if mode = 0 then 0 else crc) bytes) s)

def execDmaChainDone (chan error : Nat) (s : State) : Host.Outcome State Fault Refusal := keep s (dmaFinish (chan % 32) error s)

/-- The CLUSTER-space words that an abandoned chain was writing hold free values. -/
def abandonDma (k : Chain) (s : State) : State :=
  k.items.foldl (fun s y =>
    let w := y.2.getD 0 0
    if jbDstDev w then (List.range (jbLen w / 8)).foldl (fun s i =>
      let r := takeFree s
      putClusterWord (jbCluster w) ((y.2.getD 2 0).toNat + 8 * i) r.1 r.2) s
    else s) s

/-- The channel stops (R330): no entry that waits for its CQ is written any more. -/
def stopChan (c : Nat) (s : State) : State :=
  let x := s.chan c
  if !x.enabled then s
  else
    let s := match x.running with | some (k, _) => if k.status = 0 then abandonDma k s else s | none => s
    let s := dropShares (· == 4096 + c) s
    let s := { s with freeCtr := s.freeCtr + 1 }.setChan c { x with
      enabled := false, taking := none, ready := [], running := none, stopped := some s.freeCtr, cq := { x.cq with waiting := [] } }
    (List.range 4).foldl (fun s q =>
      markWaits q (fun w => if w.cond = 2 ∧ fld w.arg 4 0 = c then { w with gone := true } else w) s) s

def execChanDisable (fn chan : Nat) (s : State) : Host.Outcome State Fault Refusal :=
  keep s (if s.chanFn (chan % 32) = fn then stopChan (chan % 32) s else s)

/-- The channel starts anew (R330). -/
def startChan (c : Nat) (s : State) : State :=
  let x := s.chan c
  if x.enabled then s
  else s.setChan c { x with enabled := true, jobs := 0, bytes := 0, stopped := none, ring := { x.ring with h := 0, d := 0, miss := none } }

def execChanEnable (fn chan : Nat) (s : State) : Host.Outcome State Fault Refusal :=
  keep s (if s.chanFn (chan % 32) = fn then startChan (chan % 32) s else s)

/-! ### Buffer pools (R331, R332) -/

/-- POOL_CONFIG. -/
def poolConfigBody : CmdBody := fun c s =>
  match srcFn c.src with
  | none => .refuse .notPermitted 0
  | some f =>
    let p := c.n 0
    let x := s.pool p
    let only := x.size == c.n 1 && x.base == c.n 2 && x.count == c.n 3 && x.ring.base == c.n 4 && x.ring.log == c.n 5 && c.n 6 == 0
    let used := s.host.shares.any fun y => x.holds y.addr
    checked [(0, decide (p < 8) && s.poolFn p == f), (1, decide (8 ≤ c.n 1) && decide (c.n 1 ≤ 16)), (2, c.n 2 % 2 ^ c.n 1 == 0),
             (3, decide (1 ≤ c.n 3) && decide (c.n 3 ≤ 2 ^ c.n 5)), (4, c.n 4 % 4096 == 0),
             (5, decide (7 ≤ c.n 5) && decide (c.n 5 ≤ 15)), (6, decide (c.n 6 < 2))] fun _ =>
      if x.enabled && (!only || used) then .refuse .busyQueue 0
      else
        let y : Pool := { size := c.n 1, base := c.n 2, count := c.n 3, ring := { base := c.n 4, log := c.n 5 }, enabled := c.n 6 == 1 }
        .done [] (bumpEpoch (ekPool p) domPcie (s.setPool p y))

/-- Take fetched free-ring entries into a pool's cache. -/
def takePool (p : Nat) : List (Option W) → State → State
  | [], s => s
  | e :: es, s =>
    let x := s.pool p
    let f := s.poolFn p
    let ring := { x.ring with h := (x.ring.h + 1) % 65536 }
    if x.ring.h = x.ring.d || 128 ≤ x.cache.length then s
    else match e with
    | none => takePool p es (pcieError 5 (s.setPool p { x with ring := ring }))
    | some e =>
      if !x.ring.owned 0 [e] then (s.setPool p { x with ring := { x.ring with miss := some s.tick } }).bump .fnCnt [f] 31 16
      else
      let a := fld e 63 8 * 256
      if fld e 7 1 = 0 && x.holds a then takePool p es (s.setPool p { x with ring := ring, cache := x.cache ++ [a] })
      else takePool p es (badPtr f (s.setPool p { x with ring := ring }))

/-- POOL_FETCH_DONE: whenever the cache holds fewer than 64 buffers, up to 64 entries are fetched. A break ends 2 µs later. -/
def poolFetch (p : Nat) (entries : List (Option W)) (s : State) : State :=
  let x := s.pool p
  let ready := match x.ring.miss with | some t => decide (t + 2 * usTicks ≤ s.tick) | none => true
  if !x.enabled || !s.pcieUp || x.ring.h == x.ring.d || !ready || decide (64 ≤ x.cache.length) then s
  else takePool p (entries.take (x.ring.span 64)) (s.setPool p { x with ring := { x.ring with miss := none } })

def execPoolFetchDone (pool : Nat) (entries : List (Option W)) (s : State) : Host.Outcome State Fault Refusal :=
  keep s (poolFetch (pool % 8) entries s)

/-! ### Admin queues, ownership, function resets (R313, R315, R335, R336) -/

/-- A write of ADMIN_CFG: setting ENABLE starts the rings anew under a new epoch; sizes outside 4 to 12 are ignored. -/
def adminEnable (f : Nat) (v : W) (s : State) : State :=
  let a := fld v 11 8
  let b := fld v 3 0
  let x := s.fn f
  if !bitAt v 63 then (s.setFn f { x with enabled := false }).setRg .adminCfg [f] (v &&& 0x8000000000000F0F)
  else if a < 4 || 12 < a || b < 4 || 12 < b || (s.rg .adminSqBase [f]).toNat % 4096 ≠ 0 || (s.rg .adminCqBase [f]).toNat % 4096 ≠ 0 then s
  else
    let s := s.setFn f { x with
      enabled := true, lost := false, sq := { base := (s.rg .adminSqBase [f]).toNat, log := a }, cq := { base := (s.rg .adminCqBase [f]).toNat, log := b } }
    let s := bumpEpoch (ekAdmin f) domPcie (s.setRg .adminCfg [f] (v &&& 0x8000000000000F0F))
    let s : State := { s with cmd := { s.cmd with msixOff := s.cmd.msixOff.filter (· != f) } }
    pumpEvents (fnSrc f) (s.sub (fnSrc f)).queue.length s

def execAdminQueueEnable (fn : Nat) (value : W) (s : State) : Host.Outcome State Fault Refusal := keep s (adminEnable (fn % 64) value s)

/-- A write of FN_QP_RANGE (R315). -/
def fnQpRangeWrite (f : Nat) (v : W) (s : State) : State :=
  let b := fld v 27 16
  let n := fld v 12 0
  let over_ := (List.range 64).any fun g => g != f && n != 0 && s.qpCount g != 0 && b < s.qpBase g + s.qpCount g && s.qpBase g < b + n
  let lost := s.host.qps.any fun x => x.2.live && s.qpFn x.1 == some f && (x.1 < b || b + n ≤ x.1)
  if over_ || lost || 4096 < b + n then hqInt 0 s else s.setRg .fnQpRange [f] (v &&& 0xFFF1FFF)

def execFnQpRangeWrite (fn : Nat) (value : W) (s : State) : Host.Outcome State Fault Refusal := keep s (fnQpRangeWrite (fn % 64) value s)

/-- A write of FN_TX_CFG, CHAN_OWNER or POOL_OWNER (FN_RES_ASSIGN, R315): an owner changes only while the channel is disabled or
the pool not enabled. -/
def resAssignWrite (a : Nat) (v : W) (s : State) : State :=
  if 0x4300 ≤ a ∧ a < 0x4500 then s.setRg .fnTxCfg [(a - 0x4300) / 8] (v &&& 0xFF01FF)
  else if 0x4500 ≤ a ∧ a < 0x4600 then
    let c := (a - 0x4500) / 8
    if (s.chan c).enabled then hqInt 0 s else s.setRg .chanOwner [c] (v &&& 0x800000000001033F)
  else if 0x4600 ≤ a ∧ a < 0x4640 then
    let p := (a - 0x4600) / 8
    if (s.pool p).enabled then hqInt 0 s else s.setRg .poolOwner [p] (v &&& 0x3F)
  else s

def execResAssignWrite (addr : Nat) (value : W) (s : State) : Host.Outcome State Fault Refusal := keep s (resAssignWrite addr value s)

/-- The commands of a source end without a reply (R296, R335). -/
def dropCommands (src : Source) (s : State) : State :=
  let mine := s.cmd.timed.filter fun t => t.cmd.src = src
  let s := mine.foldl (fun s t => switchLost t s) { s with cmd := { s.cmd with
    timed := s.cmd.timed.filter fun t => t.cmd.src != src, relays := s.cmd.relays.filter fun r => r.cmd.src != src
    waiting := s.cmd.waiting.filter fun w => w.cmd.src != src, opened := s.cmd.opened.filter fun o => o.cmd.src != src } }
  when (!mine.isEmpty) (raiseInt 0 .cmdIntStatus [] 1) s

/-- Withdraw a source's subscriptions. -/
def dropSubs (src : Source) (s : State) : State :=
  let route := (List.range 12).foldl (fun r k => if s.routeOf k = some src then tset (some .pf0) r k none else r) s.cmd.route
  { s with cmd := { s.cmd with route := route, subs := tset {} s.cmd.subs (srcKey src) {} } }

/-- Reset one function (R335). -/
def resetFn (f : Nat) (s : State) : State :=
  let mine := fun (q : Nat) => s.qpFn q == some f
  let qs := (s.host.qps.filter fun x => x.2.live && mine x.1).map (·.1)
  let cs := (List.range 32).filter fun c => s.chanFn c == f && (s.chanCluster c).isNone
  let ps := (List.range 8).filter fun p => s.poolFn p == f
  let src := fnSrc f
  let s := qs.foldl (fun s q => endQp q s) s
  let s := (List.range 16).foldl (fun s t =>
    let gone := (s.tl t).hostRx.filter fun k => mine k.eport
    if gone.isEmpty then s
    else (s.modTl t fun tl => { tl with hostRx := tl.hostRx.filter fun k => !mine k.eport }).bump .hqDropCnt [5] 47 0 gone.length) s
  let s := cs.foldl (fun s c => stopChan c s) s
  let s := ps.foldl (fun s p => s.setPool p { s.pool p with enabled := false, cache := [] }) s
  let s := s.setFn f { s.fn f with enabled := false, sq := {}, cq := {}, legacy := false, next := 0, burst := 0, deficit := 0 }
  let s := s.setRg .adminCfg [f] 0
  let s := dropSubs src (dropCommands src s)
  let s := s.setVersion src 1
  { s with cmd := { s.cmd with msixOff := if s.cmd.msixOff.contains f then s.cmd.msixOff else s.cmd.msixOff ++ [f] } }

/-- The functions that a reset of f resets: a PF with its VFs. -/
def resetSet (f : Nat) : List Nat := f :: vfsOf f

/-- After a reset of PF0, PF0 subscribes to every event that has no other subscriber. -/
def pf0Subscribes (s : State) : State :=
  let route := (List.range 12).foldl (fun r k => if s.routeOf k = none then tset (some .pf0) r k (some .pf0) else r) s.cmd.route
  { s with cmd := { s.cmd with route := route } }

/-- FUNCTION_LEVEL_RESET (R335). -/
def functionReset (f : Nat) (s : State) : State :=
  let s := (resetSet f).foldl (fun s g => resetFn g s) s
  if f = 0 then pf0Subscribes s else s

def execFunctionLevelReset (fn : Nat) (s : State) : Host.Outcome State Fault Refusal := keep s (functionReset (fn % 64) s)

/-- The PCIe domain comes back from a state that lost the host objects (R336): every object reads as destroyed, its epoch has
advanced, and every function shows STATE_LOST. -/
def hostLost (s : State) : State :=
  let s := (s.host.qps.filter fun x => x.2.live).foldl (fun s x => endQp x.1 s) s
  let s := (List.range 32).foldl (fun s c =>
    if (s.chan c).config || (s.chan c).enabled then bumpEpoch (ekChan c) domPcie ((stopChan c s).setChan c {}) else s) s
  let s := (List.range 8).foldl (fun s p => if (s.pool p).count != 0 then bumpEpoch (ekPool p) domPcie (s.setPool p {}) else s) s
  let s := (List.range 64).foldl (fun s f =>
    let on := (s.fn f).enabled
    let s := s.setFn f { lost := true }
    raiseFn f 1 (when on (bumpEpoch (ekAdmin f) domPcie) (s.setRg .adminCfg [f] 0))) s
  { s with host := { s.host with shares := [], turn := 0, onTurn := false } }

end Sys2Proof.Machine
end

