-- ==== Sys2Proof/Machine/Rigging.lean ====
section
/-! DEFINITION. Timelines and the Rigging (chapter 3): TIMELINE_SET, bank writes and reads, commit validation (R62),
cancelling, evaluation of entries (R12, R58), the position registers (R73, R475). What an event does, bank
switches, steps and replays stand in Actions.lean. -/

namespace Sys2Proof.Machine

/-! ### Banks -/

/-- Bank b. -/
def State.bank (s : State) (b : Nat) : RigBank := if b = 0 then s.rig.bank0 else s.rig.bank1

/-- Set bank b. -/
def State.setBank (s : State) (b : Nat) (v : RigBank) : State :=
  if b = 0 then { s with rig := { s.rig with bank0 := v } } else { s with rig := { s.rig with bank1 := v } }

/-- The shadow bank. -/
def State.shadow (s : State) : Nat := 1 - s.rig.active

/-- Entry i of a bank. -/
def RigBank.entry (k : RigBank) (i : Nat) : W × W := tget (0, 0) k.entries i

/-- The eight words of a target set. -/
def RigBank.set (k : RigBank) (i : Nat) : List W := tget (List.replicate 8 0) k.sets i

/-- The valid entries of a bank, by index. -/
def RigBank.valid (k : RigBank) : List (Nat × (W × W)) := k.entries.filter fun x => entValid x.2

/-- The pending bank switch: the pending RIGGING_COMMIT (R65). -/
def State.pendingCommit (s : State) : Option TimedCmd := s.cmd.timed.find? fun t => t.opcode == 0x202 || t.opcode == 0xD00

/-- Is a timeline referenced by the active or the pending bank (TL_REFERENCED)? -/
def State.bankReferences (s : State) (t : Nat) : Bool :=
  (s.bank s.rig.active).valid.any (fun x => entTimeline x.2 == t)
  || (s.pendingCommit.isSome && (s.bank s.shadow).valid.any (fun x => entTimeline x.2 == t))

/-- Referenced for R56: by a bank or by a pending timed command (R294). -/
def State.referenced (s : State) (t : Nat) : Bool :=
  s.bankReferences t || s.cmd.timed.any fun c => c.cmd.timeline == t

/-! ### TIMELINE_SET (R54, R56). Parameter block: word 0 the timeline, words 1 and 2 the descriptor, words 3 to 10 the
special-slot formats, then slot codes, 16 to a word from bits [3:0] up (DESIGN CHOICE, log 11). -/

/-- The description a TIMELINE_SET carries. -/
def timelineOf (c : Cmd) : Timeline :=
  let d : Timeline := { w0 := c.p 1, w1 := c.p 2 }
  { d with
    formats := (List.range 8).map fun k => fld (c.p (3 + k)) 27 0
    slots := (List.range (min 1280 d.patternSlots)).map fun k => fld (c.p (11 + k / 16)) (k % 16 * 4 + 3) (k % 16 * 4) }

/-- Whole slots in a period at a numerology. -/
def wholeSlots (d : Timeline) (code : Nat) : Bool := periodLen code * d.slotsPerSub % 8 == 0

/-- The rules of R54 on descriptor word 0. -/
def descWord0Ok (d : Timeline) : Bool :=
  d.mu ≤ 6 && (!d.cpExt || d.mu == 2) && 1 ≤ d.p1 && d.p1 ≤ 10 && d.p2 ≤ 10 && wholeSlots d d.p1 && wholeSlots d d.p2
    && 160 % (periodLen d.p1 + periodLen d.p2) == 0 && d.mode != 3
    && decide (-9830400 ≤ d.frameOffset) && decide (d.frameOffset ≤ 9830399)

/-- Receive window fields. -/
def Timeline.rxOpen (d : Timeline) : Nat := fld d.w1 39 20
def Timeline.rxClose (d : Timeline) : Nat := fld d.w1 19 0

/-- The first parameter word that breaks R54. -/
def timelineBad (t : Nat) (d : Timeline) : Option Nat :=
  if 7 < t then some 0
  else if !descWord0Ok d then some 1
  else if d.rxClose ≤ d.rxOpen then some 2
  else (d.slots.findIdx? fun c => 4 ≤ c && c ≤ 7).map fun i => 11 + i / 16

/-- Do two descriptions differ in no more than MODE, EPOCH, RXWIN_OPEN and RXWIN_CLOSE (R56)? -/
def sameGrid (a b : Timeline) : Bool :=
  let strip := fun (w : W) => ins (ins (ins w 50 49 0) 23 8 0) 7 0 0
  strip a.w0 == strip b.w0 && a.formats == b.formats && a.slots == b.slots

/-- TIMELINE_SET (R54, R56). -/
def timelineSetBody : CmdBody := fun c s =>
  let t := c.n 0
  let d := timelineOf c
  match timelineBad t d with
  | some i => bad i
  | none =>
    if (tget none s.rig.tlPending t).isSome then .refuse .busyPending 0
    else if s.referenced t && (!sameGrid (s.timeline t) d || !d.configured) then .refuse .busyRigging t
    else
      let p : TlPending := { desc := d, accepted := s.tick, notBefore := s.tick + msTicks }
      .done [] { s with rig := { s.rig with tlPending := tset none s.rig.tlPending t (some p) } }

/-- The first frame boundary of a grid whose boundary tick is a given tick or later. -/
def State.firstBoundary (s : State) (d : Timeline) (lim : Nat) : Int :=
  let f := d.nextAny (s.mastAt lim / 4294967296)
  if (lim : Int) ≤ s.boundaryTick (d.frame16 (f - 1)) then f - 1 else f

/-- A waiting TIMELINE_SET is due: the tick of its frame boundary has come (R56). -/
def State.tlDue (s : State) (t : Nat) (p : TlPending) : Bool :=
  let grid := if (s.timeline t).configured then s.timeline t else p.desc
  decide (s.boundaryTick (grid.frame16 (s.firstBoundary grid p.notBefore)) ≤ (s.tick : Int))

/-! ### RIGGING_WRITE, RIGGING_READ (R61, R302) -/

/-- Fields of word 0. -/
def rwKind (c : Cmd) : Nat := fld (c.p 0) 63 62
def rwFirst (c : Cmd) : Nat := fld (c.p 0) 61 48
def rwCount (c : Cmd) : Nat := fld (c.p 0) 47 32

/-- Word 0 is in range (R302). -/
def rwOk (c : Cmd) : Bool :=
  match rwKind c with
  | 0 => rwFirst c + rwCount c ≤ 16384
  | 1 => rwFirst c + rwCount c ≤ 1024
  | _ => false

/-- Write entry i of a bank. -/
def writeEntry (b i : Nat) (e : W × W) (s : State) : State :=
  let k := s.bank b
  let s := { s with rig := { s.rig with lastAnchor := tset none s.rig.lastAnchor (b * 16384 + i) none } }
  memWriteN 5 0 b (2 * i) 2 (s.setBank b { k with entries := tset (0, 0) k.entries i e })

/-- Write target set i of a bank. -/
def writeSet (b i : Nat) (ws : List W) (s : State) : State :=
  let k := s.bank b
  memWriteN 5 0 (2 + b) (8 * i) 8 (s.setBank b { k with sets := tset (List.replicate 8 0) k.sets i ws })

/-- RIGGING_WRITE (R61). -/
def riggingWriteBody : CmdBody := fun c s =>
  if !rwOk c then bad 0
  else if s.pendingCommit.isSome then .refuse .busyActiveBank s.shadow
  else
    let b := s.shadow
    .done [] ((List.range (rwCount c)).foldl (fun s i =>
      if rwKind c = 0 then writeEntry b (rwFirst c + i) (c.p (1 + 2 * i), c.p (2 + 2 * i)) s
      else writeSet b (rwFirst c + i) ((List.range 8).map fun w => c.p (1 + 8 * i + w)) s) s)

/-- RIGGING_READ (R302). -/
def riggingReadBody : CmdBody := fun c s =>
  if !rwOk c then bad 0
  else
    let b := if bitAt (c.p 0) 31 then s.shadow else s.rig.active
    let k := s.bank b
    let n := rwCount c
    if rwKind c = 0 then
      mgmtReads 5 0 b (2 * rwFirst c) (2 * n) s fun s =>
        .done ((List.range n).flatMap fun i => let e := k.entry (rwFirst c + i); [e.1, e.2]) s
    else
      mgmtReads 5 0 (2 + b) (8 * rwFirst c) (8 * n) s fun s =>
        .done ((List.range n).flatMap fun i => k.set (rwFirst c + i)) s

/-! ### Validation (R59, R60, R62) -/

/-- The ARG bits that Table 3-8 names for an action; none for a reserved code. -/
def argMask : Nat → Option Nat
  | 0x00 => some 0xFFFFFFFFFFFF
  | 0x10 | 0x11 => some 0xFFFF
  | 0x20 => some 0xFFF
  | 0x30 | 0x31 | 0x32 | 0x33 => some 0
  | 0x40 => some 7
  | 0x41 => some 3
  | 0x50 | 0x51 => some 0xF
  | 0x60 => some 0xF0FFFFFFFFFF
  | _ => none

/-- Actions whose target sets name domains. -/
def onDomains (a : Nat) : Bool := a == 0x40 || a == 0x41 || a == 0x50 || a == 0x51

/-- The target-set rules of Table 3-8 and R59. -/
def setOk (k : RigBank) (e : W × W) : Bool :=
  if entAction e = 0x20 ∨ entAction e = 0x60 then entSet e == 0
  else if onDomains (entAction e) then
    let ws := k.set (entSet e)
    (ws.getD 0 0).toNat < 2 ^ 40 && (ws.drop 1).all (· == 0)
  else true

/-- An entry that breaks no check of its own (R62). -/
def entryOk (s : State) (k : RigBank) (e : W × W) : Bool :=
  let d := s.timeline (entTimeline e)
  match argMask (entAction e) with
  | none => false
  | some m =>
    d.configured && entSlot e < d.patternSlots && entSymbol e < d.symsPerSlot && entMod e ≤ 10
      && entPhase e < 2 ^ entMod e && setOk k e && entArg e &&& m == entArg e

/-- Do two target sets share an element? -/
def setsMeet (a b : List W) : Bool := (a.zip b).any fun x => x.1 &&& x.2 != 0

/-- The contradictory pairs of R60. -/
def contradict (k : RigBank) (e f : W × W) : Bool :=
  let a := entAction e
  let b := entAction f
  let meet := setsMeet (k.set (entSet e)) (k.set (entSet f))
  if (a == 0x10 && b == 0x11) || (a == 0x11 && b == 0x10) then meet && entArg e &&& entArg f != 0
  else if (a == 0x30 && b == 0x32) || (a == 0x32 && b == 0x30) || (a == 0x31 && b == 0x33) || (a == 0x33 && b == 0x31) then meet
  else if (a == 0x40 || a == 0x41) && (b == 0x40 || b == 0x41) then
    meet && entTimeline e == entTimeline f && !(a == b && entArg e == entArg f)
  else if (a == 0x50 && b == 0x51) || (a == 0x51 && b == 0x50) then meet
  else false

/-- One occurrence of an entry in the 20 ms period: its entry, anchor and nominal instants in units of 1/6144 ns. -/
structure Occ where
  entry : Nat
  anchor : Int
  nominal : Int
deriving DecidableEq, Repr

/-- The occurrences of an entry in one 20 ms period with frame masks ignored (R62). -/
def occurrences (s : State) (x : Nat × (W × W)) : List Occ :=
  let d := s.timeline (entTimeline x.2)
  let p := max 1 d.patternSlots
  (List.range (2 * d.slotsPerFrame / p)).map fun k =>
    let n := entSym d x.2 ((k * p + entSlot x.2 : Nat) : Int)
    let tc := d.frameOffset + n / d.symsPerSub * 1966080 + d.symStart (n % d.symsPerSub).toNat
    { entry := x.1, anchor := tc * 3125, nominal := tc * 3125 + entOffset x.2 * 7680 }

/-- Two occurrences lie closer than w plus 2.5e-4 of the separation of their anchors, cyclically over 20 ms (R62). -/
def close (w : Int) (a b : Occ) : Bool :=
  [(-122880000000 : Int), 0, 122880000000].any fun k =>
    decide (4000 * ((a.nominal - b.nominal + k).natAbs : Int) < 4000 * w + ((a.anchor - b.anchor + k).natAbs : Int))

/-- A list holds n occurrences of which every pair is close. -/
def hasClose : Nat → Nat → List Occ → Bool
  | _, 0, _ => true
  | 0, _ + 1, _ => false
  | _, _ + 1, [] => false
  | f + 1, n + 1, x :: r => hasClose f n (r.filter (close 30720 x)) || hasClose f (n + 1) r

/-- An entry belongs to a set of more than 64 that can fall in four consecutive ticks. -/
def tooDense (all : List Occ) (mine : List Occ) : Bool :=
  mine.any fun o =>
    let near := all.filter fun x => x.entry != o.entry && close 30720 o x
    64 ≤ near.length && hasClose (near.length + 1) 64 near

/-- An entry has occurrences: its timeline is configured, its SLOT lies in the pattern and its SYMBOL in the slot. -/
def occurs (s : State) (e : W × W) : Bool :=
  let d := s.timeline (entTimeline e)
  d.configured && entSlot e < d.patternSlots && entSymbol e < d.symsPerSlot

/-- The first failing entry of a bank (R62): the coincidence and density checks compare every valid entry that has occurrences, one
that breaks a check of its own too. -/
def firstFailing (s : State) (k : RigBank) : Option Nat :=
  let v := k.valid
  let occ := (v.filter fun x => occurs s x.2).map fun x => (x, occurrences s x)
  let all := occ.flatMap (·.2)
  let meets := fun (x : (Nat × (W × W)) × List Occ) => occ.any fun y =>
    y.1.1 != x.1.1 && contradict k x.1.2 y.1.2 && x.2.any fun a => y.2.any fun b => close 7680 a b
  (v.find? fun x => !entryOk s k x.2 || match occ.find? (fun y => y.1.1 == x.1) with
    | some o => meets o || tooDense all o.2
    | none => false).map (·.1)

/-- Every valid entry of a bank, and the target set it names, reads without an uncorrectable error. -/
def bankReads (b : Nat) (s : State) : Bool × State :=
  let k := s.bank b
  k.valid.foldl (fun (a : Bool × State) x =>
    let r := memReadN 5 0 b (2 * x.1) 7 2 a.2
    let q := memReadN 5 0 (2 + b) (8 * entSet x.2) 7 8 r.2
    (a.1 && r.1 && q.1, q.2)) (true, s)

/-- RIGGING_COMMIT (R62, R63, R65): its checks; as a timed command it waits for its switch tick. -/
def riggingCommitBody : CmdBody := fun _ s =>
  if s.pendingCommit.isSome then .refuse .busyPending 0
  else match bankReads s.shadow s with
    | (false, t) => .failed .internalError 5 t
    | (true, t) => match firstFailing t (t.bank t.shadow) with
      | some i => .refuse .riggingInvalid i
      | none => .later t

/-- RIGGING_CANCEL (R65, R296). -/
def riggingCancelBody : CmdBody := fun c s =>
  match s.pendingCommit with
  | none => .refuse .tooLate 0
  | some t =>
    if rank t.cmd.src < rank c.src then .refuse .notPermitted 0
    else if s.switchTick t < (s.tick : Int) + 64 then .refuse .tooLate 0
    else .done [] (endTimed .cancelled 0 (fun x => x.order == t.order) s)

/-! ### Evaluation (R12, R58, R63, R68) -/

/-- A committed cell sleep holds the timeline's entries back: the timeline is ASLEEP or WAKING (R365, R366). -/
def State.cellAsleep (s : State) (t : Nat) : Bool := 3 ≤ (tget {} s.power.cellSleep t).state

/-- Impulse actions (Table 3-8). -/
def isImpulse (a : Nat) : Bool := a == 0x20 || a == 0x60

/-- The latest occurrence of an entry with a scheduled tick at or before tick x: its anchor symbol and scheduled tick. -/
def State.latestOcc (s : State) (e : W × W) (x : Int) : Option (Int × Int) :=
  let d := s.timeline (entTimeline e)
  if !d.configured then none
  else
    let g0 := s.entSlotBefore d e x + 1
    let ok := fun (g : Int) => decide (s.entTick d e g ≤ x)
    let g0 := if ok g0 then g0 else if ok (g0 - 1) then g0 - 1 else g0 - 2
    (entLatest d e g0).map fun g => (entSym d e g, s.entTick d e g)

/-- Key of an entry in the record of evaluated anchors. -/
def entKey (bank i : Nat) : Nat := bank * 16384 + i

/-- Does a bank fire an occurrence with this scheduled tick (R63)? The active bank does, up to a pending switch; the
pending bank does from the switch tick on. -/
def State.bankFires (s : State) (bank : Nat) (sched : Int) : Bool :=
  match s.pendingCommit with
  | none => bank == s.rig.active
  | some t => if bank = s.rig.active then decide (sched < s.switchTick t) else decide (s.switchTick t ≤ sched)

/-- Evaluation of an entry 32 ticks before its scheduled tick (R12): fixes the tick and sends the event on the event bus.
An occurrence is evaluated once; none is between a step and S + 288, none that lies before them (R68). -/
def riggingEvaluate (bank i : Nat) (s : State) : State :=
  let r := memReadN 5 0 bank (2 * i) 9 2 s
  let e := (s.bank bank).entry i
  if !entValid e then s
  else if !r.1 then r.2
  else match s.latestOcc e ((s.tick : Int) + 32) with
    | none => r.2
    | some (anchor, sched) =>
      let seen := match tget none s.rig.lastAnchor (entKey bank i) with
        | some a => decide (anchor ≤ a)
        | none => false
      if seen || !s.bankFires bank sched || s.cellAsleep (entTimeline e) || decide (sched < s.rig.notBefore) then r.2
      else
        let ev : RigEvent := { bank := bank, entry := i, anchor := anchor, sched := sched.toNat }
        let s := r.2
        { s with rig := { s.rig with
          evaluated := s.rig.evaluated ++ [ev]
          lastAnchor := tset none s.rig.lastAnchor (entKey bank i) (some anchor) } }

def execRiggingEvaluate (bank entry : Nat) (s : State) : Host.Outcome State Fault Refusal :=
  keep s (riggingEvaluate (bank % 2) (entry % 16384) s)

/-! ### Position (R55, R73, R475) -/

/-- The boundary tick of a symbol (R55): TL_POS and the phase of the timeline are those of the new symbol. -/
def symbolBoundary (t : Nat) (s : State) : State :=
  let d := s.timeline t
  if d.configured then { s with rig := { s.rig with symbol := tset none s.rig.symbol t (some (d.symAt s.now16)) } } else s

def execSymbolBoundary (timeline : Nat) (s : State) : Host.Outcome State Fault Refusal :=
  keep s (symbolBoundary (timeline % 8) s)

/-- TL_POS (Table 3-16) at the Mast time of the present tick. -/
def State.tlPosView (s : State) (t : Nat) : W :=
  let d := s.timeline t
  let base := b2n s.servoHold * 2 ^ 58 + s.mast.tsEpoch % 4 * 2 ^ 56
  if !d.configured then BitVec.ofNat 64 (3 * 2 ^ 59 + base)
  else
    let p := d.posOf (d.symAt s.now16)
    BitVec.ofNat 64 (2 ^ 63 + d.mode * 2 ^ 61 + d.phase p * 2 ^ 59 + base + sfnOf p.frame * 2 ^ 46 + p.subframe * 2 ^ 42
      + p.slot * 2 ^ 36 + p.symbol * 2 ^ 32 + p.pslot * 2 ^ 21)

/-- The signed frame count of the present tick; 0 for a timeline that is not configured. -/
def State.frameCount (s : State) (t : Nat) : Int :=
  let d := s.timeline t
  if d.configured then d.frameAt s.now16 else 0

/-- A number for each path of R73. -/
def pathKey : Path → Nat
  | .bar2 => 0 | .tap => 1 | .poisoned => 2 | .hook q => 16 + q | .bar0 f => 32 + f | .cmd x => 0x10000 + srcKey x

/-- A read of TL_POS (R73). -/
def tlPosRead (t : Nat) (p : Path) (s : State) : W × State :=
  let l : PosLatch := { timeline := t, path := pathKey p, frame := s.frameCount t }
  (s.tlPosView t, { s with rig := { s.rig with
    posLatch := l :: s.rig.posLatch.filter fun x => !(x.timeline == t && x.path == pathKey p) } })

/-- A read of TL_FRAME_CNT (R73). -/
def tlFrameCntRead (t : Nat) (p : Path) (s : State) : W × State :=
  match s.rig.posLatch.find? fun x => x.timeline == t && x.path == pathKey p with
  | some l => (BitVec.ofInt 64 l.frame, { s with rig := { s.rig with
      posLatch := s.rig.posLatch.filter fun x => !(x.timeline == t && x.path == pathKey p) } })
  | none => (BitVec.ofInt 64 (s.frameCount t), s)

def execTlPosRead (timeline : Nat) (path : Path) (s : State) : Host.Outcome State Fault Refusal :=
  let r := tlPosRead (timeline % 8) path s
  keep s (readOut r.1 r.2)

def execTlFrameCntRead (timeline : Nat) (path : Path) (s : State) : Host.Outcome State Fault Refusal :=
  let r := tlFrameCntRead (timeline % 8) path s
  keep s (readOut r.1 r.2)

/-- RIG_STATUS (Table 3-15). -/
def State.rigStatusView (s : State) : W :=
  let p := s.pendingCommit
  let tl := match p with | some t => t.cmd.timeline | none => 0
  let sfn := match p with | some t => t.cmd.sfn | none => 0
  let ep := match p with | some t => if t.opcode = 0xD00 then fld (s.boot.staged.getD 1 0) 47 32 else fld (t.cmd.p 0) 63 48 | none => 0
  BitVec.ofNat 64 ((s.bank s.rig.active).epoch * 2 ^ 48 + ep * 2 ^ 32 + b2n p.isSome * 2 ^ 31 + tl * 2 ^ 28 + sfn * 2 ^ 18
    + s.rig.active % 2 * 2 ^ 17 + b2n s.rig.stepTick.isSome * 2 ^ 16
    + maskOf 8 (fun t => (s.timeline t).configured) * 256 + maskOf 8 (fun t => s.bankReferences t))

end Sys2Proof.Machine
end

