-- ==== Sys2Proof/Machine/Power.lean ====
section
/-! DEFINITION. Power states, operating points, the cap loop, current shaping (chapter 15, R337 to R361). The exit of a domain and
cell sleep stand in other files. -/

namespace Sys2Proof.Machine

/-! ### Operating points (R350 to R353) -/

/-- Entry k, and the preferred entry of a phase (R350: entry 7 at reset). -/
def State.opEntry (s : State) (k : Nat) : OpEntry := tget {} s.power.entries k
def State.preferred (s : State) (phase : Nat) : Nat := tget 7 s.power.prefer phase

/-- Does a domain keep operating-point slots (R351)? -/
def keepsSlots (d : Nat) : Bool := decide (d < 34)

/-- The requested and the effective entry of a domain (R351). -/
def State.requested (s : State) (d : Nat) : Nat :=
  match (s.domain d).slots.foldl max 0 with
  | 0 => s.preferred 3
  | k + 1 => k
def State.effective (s : State) (d : Nat) : Nat := min (s.requested d) s.power.ceil

/-- VMIN(f, F) in mV (R352). -/
def vmin (f fmax : Nat) : Nat :=
  if f ≤ 800 then 620 else 620 + 5 * ((200 * (f - 800) + 5 * (fmax - 800) - 1) / (5 * (fmax - 800)))

/-- Fused maximum frequencies in MHz. -/
def fMax (t : Nat) : Nat := 1600 + 25 * (Config.fuseFmax t).val
def fFab : Nat := 1600 + 25 * Config.fuseFfab.val

/-- The frequency that a Tile's effective entry names. -/
def State.tileGoal (s : State) (t : Nat) : Nat := (s.opEntry (s.effective t)).freq

/-- The target of VDD_CORE (R352). -/
def State.voltageNeed (s : State) : Nat :=
  let base := vmin 1600 fFab
  let tiles := (List.range 16).foldl (fun m t => if s.awake t then max m (vmin (s.tileGoal t) (fMax t)) else m) base
  (List.range 34).foldl (fun m d => if s.awake d then max m (s.opEntry (s.effective d)).vcore else m) tiles

/-- The SERDES_MODE in force on lane n: that of its group's effective entry, FULL on a Topsail lane (R355). -/
def State.serdesMode (s : State) (n : Nat) : Nat :=
  if (s.lane n).mode = 5 then 0 else (s.opEntry (s.effective (domSerdes n))).serdes

/-- A Tile's core clock now, and the change in progress. -/
def State.freqOf (s : State) (t : Nat) : Nat := tget 1600 s.power.tileFreq t
def State.freqNext (s : State) (t : Nat) : Option Nat := tget none s.power.tileFreqNext t

/-- A Tile starts a frequency change. -/
def startFreq (t f : Nat) (s : State) : State :=
  { s with power := { s.power with tileFreqNext := tset none s.power.tileFreqNext t (some f) } }

/-- Tiles that run too fast for their effective entry begin to slow down (R353). -/
def slowTiles (s : State) : State :=
  (List.range 16).foldl (fun s t =>
    if s.awake t ∧ (s.freqNext t).isNone ∧ s.tileGoal t < s.freqOf t then startFreq t (s.tileGoal t) s else s) s

/-- Tiles that the rail supports begin to speed up (R353). -/
def raiseTiles (s : State) : State :=
  (List.range 16).foldl (fun s t =>
    if s.awake t ∧ (s.freqNext t).isNone ∧ s.freqOf t < s.tileGoal t ∧ vmin (s.tileGoal t) (fMax t) ≤ s.power.vcore then
      startFreq t (s.tileGoal t) s
    else s) s

/-- No Tile runs or is about to run faster than its effective entry. -/
def State.tilesSlow (s : State) : Bool :=
  (List.range 16).all fun t => !s.awake t || (s.freqOf t ≤ s.tileGoal t && (s.freqNext t).all fun f => f ≤ s.tileGoal t)

/-- The AVSBus master sends a frame of 1.28 µs with a target in mV (R354). -/
def avsFrame (src dst phase : Nat) (s : State) : State :=
  { s with
    out := { s.out with avs := s.out.avs ++ [(0, dst)] }
    power := { s.power with avs := some { src := src, dst := dst, phase := phase, start := s.tick, due := s.tick + nsTicks 1280 } } }

/-- Is a voltage step complete, as the cap loop asks (R357)? -/
def State.avsComplete (s : State) : Bool := s.power.avs.all fun a => a.phase == 2

/-- Drive the rail and the Tiles toward what the effective entries ask for (R352, R353): frequencies fall before the voltage, the
voltage rises before frequencies, a step in progress ends first. After a fault of the regulator, and in a removal, nothing moves. -/
def retarget (s : State) : State :=
  if s.power.avsFault || s.power.avsHold || s.power.removing.isSome then s
  else
    let want := s.voltageNeed
    let s := slowTiles { s with power := { s.power with vcoreTarget := want } }
    let v := s.power.vcore
    if !s.avsComplete then s
    else if v < want then avsFrame v want 0 s
    else if want < v then (if s.tilesSlow then avsFrame v want 0 s else s)
    else if s.power.avs.isNone then raiseTiles s
    else s

/-- OP_POINT_SET (R350): entries rise with their index. -/
def opPointSetBody : CmdBody := fun c s =>
  let k := c.n 0
  let lo := s.opEntry (k - 1)
  let hi := s.opEntry (k + 1)
  let fits := fun (a x b : Nat) => (k == 0 || a ≤ x) && (k == 7 || x ≤ b)
  checked [(0, k < 8), (1, 620 ≤ c.n 1 && c.n 1 ≤ 820 && c.n 1 % 5 == 0 && fits lo.vcore (c.n 1) hi.vcore),
    (2, 400 ≤ c.n 2 && c.n 2 ≤ 1600 && c.n 2 % 25 == 0 && fits lo.freq (c.n 2) hi.freq),
    (3, c.n 3 ≤ 2 && (k == 0 || c.n 3 ≤ lo.serdes) && (k == 7 || hi.serdes ≤ c.n 3)), (4, c.n 4 < 16)] fun _ =>
    let e : OpEntry := { vcore := c.n 1, freq := c.n 2, serdes := c.n 3 }
    let pref := (bitsOf 4 (c.n 4)).foldl (fun (p : Tbl Nat) ph => tset 7 p ph k) s.power.prefer
    .done [] (retarget { s with power := { s.power with entries := tset {} s.power.entries k e, prefer := pref } })

/-- Write an operating-point entry into a domain's slot of a timeline (R351). -/
def setSlot (d t k : Nat) (s : State) : State :=
  if keepsSlots d then s.setDomain d { s.domain d with slots := (s.domain d).slots.set t (k + 1) } else s

/-- A timeline set to MODE OFF clears its slots (R351). -/
def clearSlots (t : Nat) (s : State) : State :=
  retarget ((List.range 34).foldl (fun s d => s.setDomain d { s.domain d with slots := (s.domain d).slots.set t 0 }) s)

/-- AVS_SLEW in mV/µs and AVS_SETTLE in ticks (Table 15-11). -/
def State.avsSlew (s : State) : Nat := max 1 (s.rgf .avsCfg [] 3 0)
def State.avsSettle (s : State) : Nat := nsTicks (100 * s.rgf .avsCfg [] 15 8)

/-- |ΔV| ÷ AVS_SLEW in ticks. -/
def State.slewTicks (s : State) (a : AvsStep) : Nat := ((a.dst - a.src) + (a.src - a.dst)) * usTicks / s.avsSlew

/-- The voltage that the regulator has reached on its way after n ticks of slew, rounded up to 1 mV. -/
def State.slewAt (s : State) (a : AvsStep) (n : Nat) : Nat :=
  let moved := n * s.avsSlew
  if a.src ≤ a.dst then min a.dst (a.src + (moved + usTicks - 1) / usTicks)
  else max a.dst (a.src - moved / usTicks)

/-- The hold frame of a removal (R371): its target is the voltage that the regulator reaches at its end. -/
def holdFrame (a : AvsStep) (s : State) : State :=
  let n := s.tick + nsTicks 1280 - a.start
  avsFrame a.src (s.slewAt a n) 3 s

/-- The end of an AVSBus frame: the slew starts (R354); in a removal the hold frame follows or has ended (R371). -/
def avsFrameDone (s : State) : State :=
  match s.power.avs with
  | none => s
  | some a =>
    if s.tick < a.due then s
    else match a.phase with
      | 0 =>
        let b : AvsStep := { a with phase := 1, start := a.due, due := a.due + s.slewTicks a }
        if s.power.removing.isSome then holdFrame b s else { s with power := { s.power with avs := some b } }
      | 3 => { s with power := { s.power with avs := none, vcore := a.dst, avsHold := true } }
      | _ => s

def execAvsFrameDone (s : State) : Host.Outcome State Fault Refusal := keep s (avsFrameDone s)

/-- The reckoned end of a voltage step (R353): a rise settles, then the next step or the frequencies follow. -/
def avsStepComplete (s : State) : State :=
  match s.power.avs with
  | none => s
  | some a =>
    if a.phase ≠ 1 ∨ s.tick < a.due then s
    else
      let next := if a.src < a.dst then some { a with phase := 2, start := s.tick, due := s.tick + s.avsSettle } else none
      retarget { s with power := { s.power with vcore := a.dst, avs := next } }

def execAvsStepComplete (s : State) : Host.Outcome State Fault Refusal := keep s (avsStepComplete s)

/-- AVS_SETTLE has passed after a rising step: frequencies rise (R353). -/
def avsSettled (s : State) : State :=
  match s.power.avs with
  | none => s
  | some a => if a.phase ≠ 2 ∨ s.tick < a.due then s else retarget { s with power := { s.power with avs := none } }

def execAvsSettleExpiry (s : State) : Host.Outcome State Fault Refusal := keep s (avsSettled s)

/-- A Tile's frequency change is complete (R353). -/
def tileFreqDone (t : Nat) (s : State) : State :=
  match s.freqNext t with
  | none => s
  | some f => retarget { s with power := { s.power with
      tileFreq := tset 1600 s.power.tileFreq t f, tileFreqNext := tset none s.power.tileFreqNext t none } }

def execTileFreqDone (tile : Nat) (s : State) : Host.Outcome State Fault Refusal := keep s (tileFreqDone (tile % 16) s)

/-- A fault status of the regulator: the step ends and operating points stand (R354). -/
def avsFaultSet (s : State) : State :=
  raiseInt 2 .pwrIntStatus [] 4 { s with power := { s.power with avsFault := true, avs := none } }

def execAvsFault (s : State) : Host.Outcome State Fault Refusal := keep s (avsFaultSet s)

/-- A write of AVS_CFG: AVS_SLEW and AVS_SETTLE, and AVS_FAULT_CLR releases the operating points (R354). An AVS_SLEW
outside 1 to 5 keeps its value. -/
def avsCfgWrite (v : W) (s : State) : State :=
  let slew := if 1 ≤ fld v 3 0 ∧ fld v 3 0 ≤ 5 then fld v 3 0 else s.rgf .avsCfg [] 3 0
  let s := s.setRg .avsCfg [] (mk 3 0 slew ||| mk 15 8 (fld v 15 8))
  if bitAt v 16 ∧ s.power.avsFault then retarget { s with power := { s.power with avsFault := false } } else s

def execAvsFaultClear (value : W) (s : State) : Host.Outcome State Fault Refusal := keep s (avsCfgWrite value s)

/-! ### Estimation and capping (R356, R357) -/

/-- POWER_CAP (R357). -/
def powerCapBody : CmdBody := fun c s =>
  checked [(0, 500 ≤ c.n 0 && c.n 0 ≤ 1400)] fun _ => .done [] { s with power := { s.power with cap := c.n 0 } }

/-- P of the last interval and P_AVG over the last 16, in mW (PWR_EST). -/
def State.estP (s : State) : Nat := s.power.history.headD 0
def State.estAvg (s : State) : Nat := s.power.history.foldl (· + ·) 0 / 16

/-- CEIL changes by the cap loop: counted, and every effective entry with it. -/
def setCeil (k : Nat) (s : State) : State :=
  if k = s.power.ceil then s else retarget (({ s with power := { s.power with ceil := k } } : State).bump .pwrCnt [] 47 32)

/-- The cap loop at the end of an interval of power p (R357). -/
def capLoop (s : State) : State :=
  let cap := 1000 * s.power.cap
  let avg := s.estAvg
  let p := s.estP
  let run := if 100 * avg < 95 * cap then s.power.lowRun + 1 else 0
  let s := { s with power := { s.power with lowRun := min 64 run } }
  if !s.avsComplete then s
  else
    let s :=
      if cap < avg ∧ 0 < s.power.ceil then raiseInt 2 .pwrIntStatus [] 1 (setCeil (s.power.ceil - 1) s)
      else if 64 ≤ run ∧ s.power.ceil < 7 then setCeil (s.power.ceil + 1) { s with power := { s.power with lowRun := 0 } }
      else s
    if 11 * cap < 10 * p then
      raiseInt 2 .pwrIntStatus [] 2 { s with power := { s.power with throttle := min 4 (s.power.throttle + 1) } }
    else if p ≤ cap then { s with power := { s.power with throttle := s.power.throttle - 1 } }
    else s

/-- The tick at which interval k ends: 1,638 and 1,639 ticks in the pattern of R356, five intervals in 8,192. -/
def intervalEnd (k : Nat) : Nat := (k * 16384 + 5) / 10

/-- The end of an estimation interval. P is a free value: the spec gives no coefficients. -/
def estimationInterval (s : State) : State :=
  if s.tick < intervalEnd (s.power.intervals + 1) then s
  else
    let f := takeFree s
    let p := f.1.toNat % 2 ^ 32
    let s := { f.2 with power := { f.2.power with
      intervals := f.2.power.intervals + 1, history := (p :: f.2.power.history).take 16 } }
    let s := if s.power.hot then s else capLoop s
    when (0 < s.power.throttle) (fun s => s.bump .pwrCnt [] 31 0) s

def execEstimationInterval (s : State) : Host.Outcome State Fault Refusal := keep s (estimationInterval s)

/-- A sensor reads 108 °C or more (R451): CEIL 0, THROTTLE 4, a fault with the sensor and its reading. -/
def thermalThrottle (sensor reading : Nat) (s : State) : State :=
  if reading < 108 then s
  else
    let s := setCeil 0 { s with power := { s.power with hot := true, throttle := 4 } }
    reportFault { block := 0, inst := 0, cls := 14, sev := 1, addr := sensor % 256 * 256 + reading % 256 }
      (raiseInt 2 .pwrIntStatus [] 2 s)

def execThermalThrottle (sensor reading : Nat) (s : State) : Host.Outcome State Fault Refusal :=
  keep s (thermalThrottle sensor reading s)

def execThermalRecover (s : State) : Host.Outcome State Fault Refusal := keep s { s with power := { s.power with hot := false } }

/-- THERM_TRIP (R452): THERM_TRIP_N falls, clocks stop, outputs float. -/
def thermTrip (s : State) : State :=
  if !s.power.thermTripN then s
  else pinEdge 3 false 0 (pinEdge 4 false 0 { s with power := { s.power with thermTripN := false, floating := true } })

def execThermTrip (s : State) : Host.Outcome State Fault Refusal := keep s (thermTrip s)

/-! ### Current shaping (R359 to R361) -/

/-- PREWARM or RAMP_DOWN with profile k on a domain; a profile of SLOPE 0 adds no filler. -/
def setFiller (kind k d : Nat) (s : State) : State :=
  let p := s.rg .fillProfile [k]
  let f : Filler := if fld p 55 48 = 0 then {} else { kind := kind, profile := k, level := fld p 63 56, since := s.tick }
  s.setDomain d { s.domain d with filler := f }

/-- HOLD has passed at LEVEL without real work: the profile's ramp-down to LEVEL 0 (R359). -/
def prewarmHold (d : Nat) (s : State) : State :=
  let f := (s.domain d).filler
  if f.kind = 1 ∧ f.since + s.rgf .fillProfile [f.profile] 47 38 * usTicks ≤ s.tick then
    s.setDomain d { s.domain d with filler := { f with kind := 2, level := 0, since := s.tick } }
  else s

def execPrewarmHoldExpiry (domain : Nat) (s : State) : Host.Outcome State Fault Refusal := keep s (prewarmHold (domain % 40) s)

/-- The end of a 40 ns window with an estimated current in mA (R361): falls are limited by filler, a rise beyond the limit counts. -/
def didtWindow (current : Nat) (s : State) : State :=
  let lim := 4 * s.rgf .didtLimit [] 15 0
  let old := s.power.didtCurrent
  let now := max current (old - lim)
  let s := { s with power := { s.power with didtCurrent := now } }
  if old + lim < current then raiseInt 2 .pwrIntStatus [] 3 (s.bump .pwrCnt [] 63 48) else s

def execDidtWindow (current : Nat) (s : State) : Host.Outcome State Fault Refusal := keep s (didtWindow current s)

/-! ### Choosing a state (R340 to R344) -/

/-- The tolerance of a domain in ns; 4,294,967,295 is unlimited (R340). -/
def State.tolerance (s : State) (d : Nat) : Nat :=
  (bitsOf 8 (s.domain d).groupMask).foldl (fun m g => min m (tget 0 s.power.tolerance g)) 4294967295

/-- A state that a domain reaches only under the device-wide force (Table 15-1). -/
def deviceOnly (d st : Nat) : Bool := (d == 34 && 3 ≤ st) || (d == 35 && 3 ≤ st) || (d == 36 && st == 4)

/-- The exit latency of a state that an AUTO domain reaches (R337). -/
def autoLatency (d st : Nat) : Option Nat := if deviceOnly d st then none else exitLatency d st

/-- Policy allows an AUTO domain its present state. -/
def State.policyOk (s : State) (d : Nat) : Bool :=
  let x := s.domain d
  x.state ≤ x.maxState && match autoLatency d x.state with
    | some l => l ≤ s.tolerance d
    | none => false

/-- Re-evaluate every AUTO domain: one whose state its policy no longer allows begins its exit (R341, R345). -/
def reviewDomains (s : State) : State :=
  (List.range 38).foldl (fun s d => if (s.domain d).force = 0 ∧ !s.policyOk d then startExit d s else s) s

/-- POWER_TOLERANCE (R341). -/
def powerToleranceBody : CmdBody := fun c s =>
  checked [(0, c.n 0 < 8 || c.n 0 == 255), (1, c.n 1 < 2 ^ 32)] fun _ =>
    let gs := if c.n 0 = 255 then List.range 8 else [c.n 0]
    let tol := gs.foldl (fun (t : Tbl Nat) g => tset 0 t g (c.n 1)) s.power.tolerance
    .done [] (reviewDomains { s with power := { s.power with tolerance := tol } })

/-- Does a Skein live in a cluster? -/
def State.skeinIn (s : State) (q : Nat) : Bool := s.sk.descs.any fun x => x.2.valid && x.2.cluster == q

/-- May a domain come to a state now? A domain that it needs leaves its state first, and this one waits for it (R343): a cluster with
Skeins for its quarter (R8), a SerDes group for its Tiles. -/
def State.mayCome (s : State) (d st : Nat) : Bool :=
  let at_ := fun (k : Nat) => (s.domain k).state
  if 24 ≤ d ∧ d < 28 then !s.skeinIn (d - 24) || at_ (d + 4) ≤ st
  else if 16 ≤ d ∧ d < 24 then 2 ≤ st || [2 * (d - 16), 2 * (d - 16) + 1].all fun t => at_ t < 2
  else true

/-- Ports of a Tile. -/
def portsOf (t : Nat) : List Nat := (List.range 32).map (32 * t + ·)

/-- The idle conditions of Table 15-3 for PS1. -/
def State.idleLight (s : State) (d st : Nat) : Bool :=
  if d < 16 then
    ((portsOf d).all fun p => !s.linkUp p || (s.lanesOf p).all fun n => (s.lane n).rxDoze == 2 || (s.lane n).rxDoze == 5)
    && (s.slice d).stored.isEmpty && (s.pk.xbar.streams.all fun x => x.1 / 64 != d || (x.2.held.isEmpty && x.2.openCells == 0))
    && (s.host.qps.all fun x => x.2.running.all fun c => tileOf (fld (c.1.word 0) 55 47) != d)
    && (s.tl d).inject.isEmpty && (s.out.mgmtTx.all fun x => x.1 / 32 != d) && (s.tl d).hostRx.isEmpty && (s.tl d).learnQ.isEmpty
  else if d < 24 then
    (List.range 64).all fun i =>
      let l := s.lane (64 * (d - 16) + i)
      l.mode == 0 || (l.rxDoze == 2 && l.txDoze == 2)
  else if d < 28 then
    (s.cluster (d - 24)).queue.isEmpty && (List.range 16).all fun e =>
      let x := s.eng (d - 24) e
      x.routine.isNone && x.handler.isNone && x.wait.isNone && x.vec.isNone
  else if d < 32 then st ≤ (s.domain (d - 4)).state
  else if d < 34 then
    let other := 65 - d
    (s.domain other).state == 0 && (List.range 6).all fun p => !(s.plane (6 * (other - 32) + p)).fault
  else if d = 34 then
    s.cmd.waiting.isEmpty && (s.cmd.subs.all fun x => x.2.queue.isEmpty) && (s.host.fns.all fun x => x.2.cq.waiting.isEmpty)
  else if d = 36 then
    (s.host.chans.all fun x => x.2.running.isNone && x.2.ready.isEmpty && (!x.2.enabled || x.2.ring.h == x.2.ring.d))
    && (s.host.pools.all fun x => !x.2.enabled || x.2.ring.h == x.2.ring.d) && (s.host.qps.all fun x => x.2.running.isEmpty && x.2.ready.isEmpty && x.2.sq.h == x.2.sq.d)
    && (s.host.fns.all fun x => !x.2.enabled || x.2.sq.h == x.2.sq.d) && (s.pk.tiles.all fun x => x.2.hostRx.isEmpty)
  else if d = 37 then s.pk.tiles.all fun x => x.2.postcards.isEmpty
  else false

/-- The further conditions of Table 15-3 for PS2 and deeper. `cells` is the average of cells launched per grant window over
IDLE_HOLD, `l1` whether the link is in L1. -/
def State.idleDeep (s : State) (d cells : Nat) (l1 : Bool) : Bool :=
  if d < 16 then (portsOf d).all fun p => !s.linkUp p
  else if d < 24 then
    (List.range 512).all fun p => !(s.prt p).formed || !(s.lanesOf p).any (fun n => n / 64 == d - 16) || !(s.prt p).adminUp
      || (s.lane p).mode == 0
  else if d < 28 then
    let q := d - 24
    (s.sk.descs.all fun x => !(x.2.valid && x.2.cluster == q) || (x.2.insts.isEmpty && (s.timeline x.2.tlNo).mode != 1))
    && (List.range 16).all fun v => v == 4 || svMask ((s.cluster q).service v) == 0
  else if d < 32 then true
  else if d < 34 then 100 * cells < (s.domain d).xbarLow * 1536
  else if d = 34 then s.cmd.timed.isEmpty
  else if d = 36 then l1
  else if d = 37 then (List.range 8).all fun k => s.rgf .telClassCfg [k] 63 62 == 0
  else false

/-- The idle condition of a state. -/
def State.idleFor (s : State) (d st cells : Nat) (l1 : Bool) : Bool :=
  s.idleLight d st && (st ≤ 1 || s.idleDeep d cells l1)

/-- The dependencies of R343 when domain d stands in state st and every other domain where it is or, in an exit, comes to. A CPU code names a host queue pair
or clusters, never a port (Table 5-10), so none keeps a Tile awake (DEDUCED). -/
def State.dependsOk (s : State) (d st : Nat) : Bool :=
  let at_ := fun (k : Nat) => (s.domain k).state
  if d < 16 then st < 2 || 2 ≤ s.heading (16 + d / 2)
  else if d < 24 then 2 ≤ st || [2 * (d - 16), 2 * (d - 16) + 1].all fun t => at_ t < 2 || (s.domain t).force == 0
  else if d < 28 then !s.skeinIn (d - 24) || at_ (d + 4) ≤ st || (s.domain (d + 4)).force == 0
  else if d < 32 then !s.skeinIn (d - 28) || st ≤ s.heading (d - 4)
  else if d < 34 then st == 0 || at_ (65 - d) == 0
  else if d = 35 then st == 0 || (List.range 8).all fun t => !(s.timeline t).configured
  else true

/-- Does a valid entry of a bank concern a domain (R344)? -/
def State.concerns (s : State) (k : RigBank) (e : W × W) (d : Nat) : Bool :=
  let a := entAction e
  let ws := k.set (entSet e)
  let member := fun (n : Nat) => bitAt (ws.getD (n / 64) 0) (n % 64)
  if onDomains a then bitAt (ws.getD 0 0) d
  else if a = 0x10 ∨ a = 0x11 then decide (d < 16) && (portsOf d).any member
  else if 0x30 ≤ a ∧ a ≤ 0x33 then decide (16 ≤ d ∧ d < 24) && (List.range 64).any fun i => member (64 * (d - 16) + i)
  else if a = 0x20 then
    decide (24 ≤ d ∧ d < 28) && s.sk.descs.any fun x =>
      x.2.valid && x.2.cluster == d - 24 && x.2.tlNo == entTimeline e && closeSrc x.2.w1 == 0 && closeGroup x.2.w1 == entArg e % 4096
  else if a = 0x60 then decide (24 ≤ d ∧ d < 28) && (entArg e / 2 ^ 44).testBit (d - 24)
  else false

/-- The domains in which the objects of a command lie. -/
def State.keyDomains (s : State) (k : ObjKey) : List Nat :=
  match k.kind with
  | 1 => [keyDomain k.obj]
  | 2 | 3 | 4 | 5 => [domMast]
  | 19 => [domXbar k.obj]
  | 21 => let q := (s.skein k.obj).cluster; [domCluster q, domQuarter q]
  | 6 => [domTile (k.obj % 512 / 32), domSerdes (k.obj % 512)]
  | 7 => [domSerdes (k.obj % 512)]
  | 8 | 9 | 10 | 11 | 13 | 14 | 15 | 16 | 17 => [domTile (k.obj % 16)]
  | 18 => [domTile (k.obj % 8192 / 512)]
  | 20 => [domTile (k.obj % 512 / 32)]
  | 22 | 23 | 24 | 25 | 26 => [domCluster (k.obj % 4)]
  | 27 => [domTelemetry]
  | 28 | 29 | 30 | 31 => [domPcie]
  | 35 => [k.obj]
  | _ => []

/-- Something concerns a domain within n ticks from now (R344). A Tack names every object of the groups 0x02, 0x06, 0x07 and 0x0B
(R299), and so every domain. -/
def State.lookahead (s : State) (d n : Nat) : Bool :=
  let k := s.bank s.rig.active
  let lim : Int := (s.tick : Int) + n
  (k.valid.any fun x =>
    (s.timeline (entTimeline x.2)).mode == 1 && s.concerns k x.2 d && match s.latestOcc x.2 lim with
      | some o => decide ((s.tick : Int) ≤ o.2)
      | none => false)
  || s.cmd.timed.any fun t => decide (s.switchTick t ≤ lim) && (t.opcode == 0xD00 || ((keysOf t.cmd).flatMap s.keyDomains).contains d)

/-- No valid entry of the active bank on a timeline in MODE ACTIVE concerns a domain. -/
def State.unconcerned (s : State) (d : Nat) : Bool :=
  let k := s.bank s.rig.active
  k.valid.all fun x => (s.timeline (entTimeline x.2)).mode != 1 || !s.concerns k x.2 d

/-- A domain stands in a deeper state: counted, reported, operating points reviewed. -/
def enterState (d st : Nat) (s : State) : State :=
  let x := s.domain d
  let x : Domain := { x with state := st, exiting := false, entries := if x.state = 0 then satAdd 20 x.entries 1 else x.entries }
  let s := if 2 ≤ st ∧ d < 16 then { s with power := { s.power with tileFreqNext := tset none s.power.tileFreqNext d none } } else s
  retarget (domainChange (when (decide (3 ≤ st)) (dropFlips d) (s.setDomain d x)))

/-- DOMAIN_ENTER (R340): an AUTO domain enters a deeper state that every condition allows. -/
def domainEnter (d st cells : Nat) (l1 : Bool) (s : State) : State :=
  let x := s.domain d
  let ok := decide (d < 38) && x.force == 0 && !x.exiting && decide (x.state < st) && decide (st ≤ x.maxState)
    && (match autoLatency d st with
        | some l => decide (l ≤ s.tolerance d) && (2 < st || !s.lookahead d (nsTicks l + usTicks))
        | none => false)
    && (st ≤ 2 || s.unconcerned d) && !(d == 36 && 3 ≤ st)
    && s.idleFor d st cells l1 && decide (x.idleSince.getD (st - 1) 0 + x.idleHold * usTicks ≤ s.tick) && s.dependsOk d st
  if ok then enterState d st s else s

def execDomainEnter (domain target cells : Nat) (l1 : Bool) (s : State) : Host.Outcome State Fault Refusal :=
  keep s (domainEnter domain target cells l1 s)

/-- DOMAIN_EXIT (R345): a trigger reaches an AUTO domain. -/
def execDomainExit (domain : Nat) (s : State) : Host.Outcome State Fault Refusal := keep s (wakeDomain (domain % 38) s)

/-- The idle conditions as time passes (R340, R342): one that does not hold begins anew. What the board and the crossbar's counters show,
DOMAIN_ENTER itself gives for all of IDLE_HOLD. -/
def idleClock (s : State) : State :=
  (List.range 38).foldl (fun s d =>
    let x := s.domain d
    let since := (x.idleSince.zipIdx).map fun y => if s.idleFor d (y.2 + 1) 0 true then y.1 else s.tick
    s.setDomain d { x with idleSince := since }) s

/-- MAST_TICK: n ticks pass; a reseed in progress loads its sets (R147). -/
def execMastTick (count : Nat) (s : State) : Host.Outcome State Fault Refusal :=
  if s.halted then keepOn s (idleTick count s)
  else if !s.mast.running || !s.awake domMast then keepOn s (idleClock (loadSets (idleTick count s)))
  else finish s (idleClock (loadSets (mastTick count s)))

/-! ### Forced states (R346 to R349) -/

/-- A force to PSn breaks Table 15-1 or R343 for a domain. -/
def State.forceBad (s : State) (d st : Nat) : Bool := (autoLatency d st).isNone || !s.dependsOk d st

/-- One domain takes the policy of a DOMAIN_FORCE. -/
def setPolicy (c : Cmd) (d : Nat) (s : State) : State :=
  let x := s.domain d
  let s := s.setDomain d { x with
    force := c.n 1, maxState := c.n 2, groupMask := c.n 3, idleHold := c.n 4, xbarLow := if d = 32 ∨ d = 33 then c.n 5 else x.xbarLow }
  if c.n 1 = 0 then (if x.force = 0 then s else startExit d s)
  else if x.state < c.n 1 - 1 then enterState d (c.n 1 - 1) s
  else if c.n 1 - 1 < x.state then startExit d s
  else s

/-- The device-wide PS3 or PS4 (R348): every domain from 0 to 37. -/
def powerDownAll (st : Nat) (s : State) : State :=
  let s := (List.range 38).foldl (fun s d =>
    let x := s.domain d
    dropFlips d (s.setDomain d { x with state := st, exiting := false, force := st + 1, entries := satAdd 20 x.entries 1 })) s
  domainChange { s with power := { s.power with deviceForce := st, tileFreqNext := [] } }

/-- DOMAIN_FORCE (R346, R348). -/
def domainForceBody : CmdBody := fun c s =>
  let d := c.n 0
  let f := c.n 1
  checked [(0, d < 38 || d == 255), (1, f ≤ 5), (2, c.n 2 ≤ 4), (3, c.n 3 < 256), (4, 1 ≤ c.n 4 && c.n 4 ≤ 1000000),
    (5, 5 ≤ c.n 5 && c.n 5 ≤ 50)] fun _ =>
    let ds := if d = 255 then List.range 38 else [d]
    if d = 255 ∧ 4 ≤ f then
      match firstConfigured s with
      | some t => .refuse .busyTimeline t
      | none => .later (powerDownAll (f - 1) (sendReply c true .ok 0 [] s))
    else if f ≠ 0 && ds.any (fun k => s.forceBad k (f - 1)) then bad 1
    else .done [] (reviewDomains (ds.foldl (fun s k => setPolicy c k s) s))

/-! ### Views -/

/-- The device Reef state (R339). -/
def State.deviceState (s : State) : Nat := (List.range 38).foldl (fun m d => min m (s.domain d).state) 4

/-- PWR_STATUS (Table 15-12). -/
def State.pwrStatusView (s : State) : W :=
  Machine.mk 63 61 s.deviceState ||| Machine.mk 60 58 s.power.ceil ||| Machine.mk 57 55 s.power.throttle
    ||| Machine.mk 54 54 (b2n (s.power.avs.any fun a => a.phase != 2)) ||| Machine.mk 53 53 (b2n s.power.avsFault) ||| Machine.mk 41 32 s.power.vcoreTarget

/-- DOMAIN_STATUS (Table 15-14). -/
def State.domainStatusView (s : State) (d : Nat) : W :=
  let x := s.domain d
  Machine.mk 63 61 x.state ||| Machine.mk 60 60 (b2n x.exiting) ||| Machine.mk 59 57 x.force ||| Machine.mk 56 54 x.maxState ||| Machine.mk 53 46 x.groupMask
    ||| Machine.mk 45 43 (s.requested d) ||| Machine.mk 42 40 (s.effective d) ||| Machine.mk 39 20 x.idleHold ||| Machine.mk 19 0 x.entries

/-- OP_ENTRY (Table 15-11): PREF_MASK shows the phases whose preferred entry this is. -/
def State.opEntryView (s : State) (k : Nat) : W :=
  let e := s.opEntry k
  Machine.mk 63 54 e.vcore ||| Machine.mk 53 42 e.freq ||| Machine.mk 41 40 e.serdes ||| Machine.mk 39 36 (maskOf 4 fun ph => s.preferred ph == k)

/-- PRESENCE_STATUS, FUSE_FMAX, FUSE_FFAB (Table 15-11). -/
def State.presenceView (s : State) : W :=
  Machine.mk 63 63 (b2n s.power.earlyN) ||| Machine.mk 62 62 (b2n s.power.lateN) ||| Machine.mk 61 61 (b2n s.power.pwrGood)
    ||| Machine.mk 60 60 (b2n s.power.removed) ||| Machine.mk 15 0 s.power.glitch
def fuseFmaxView : W := (List.range 16).foldl (fun w t => ins w (4 * t + 3) (4 * t) (Config.fuseFmax t).val) 0
def fuseFfabView : W := Machine.mk 3 0 Config.fuseFfab.val

end Sys2Proof.Machine
end

