-- ==== Sys2Proof/Machine/Sleep.lean ====
section
/-! DEFINITION. Cell sleep (R362 to R368): the command, the messages, commit point, start and lane wake. The wake frame, which replays
the resolved state, stands in Actions.lean. -/

namespace Sys2Proof.Machine

/-- Participants whose port still takes part after the commit point. -/
def State.present (s : State) (c : CellSleep) : List Nat := (s.participants c).filter s.linkUp

/-- The boundary tick of a frame start of a timeline. -/
def State.frameTick (s : State) (t : Nat) (f : Int) : Int := s.boundaryTick ((s.timeline t).frame16 f)

/-- The frame that a SLEEP names: the next one of SLEEP_SFN whose commit point lies at least 2 ms ahead (R362). -/
def State.sleepFrameFor (s : State) (t sfn lead : Nat) : Int :=
  let d := s.timeline t
  let f := d.nextFrame sfn s.now16
  let ok := fun (f : Int) => decide ((s.tick + 2 * msTicks : Nat) ≤ s.frameTick t (f - lead))
  if ok f then f else f + 1024

/-- The agreed wake frame after sleep frame f; none for WAKE_SFN 1,024. -/
def agreedWake (f : Int) (sfn : Nat) : Option Int :=
  if 1024 ≤ sfn then none else some (f + 1 + ((sfn : Int) - (f + 1)) % 1024)

/-- The ranges of Table 15-7. -/
def cellSleepRanges (c : Cmd) : List (Nat × Bool) :=
  [(0, c.n 0 < 8), (1, c.n 1 ≤ 1), (2, c.n 2 < 1024), (3, c.n 3 ≤ 1024), (4, c.n 4 < 1024), (5, 2 ≤ c.n 5 && c.n 5 ≤ 64),
   (6, 1 ≤ c.n 6 && c.n 6 ≤ 16), (7, [1, 2, 4, 8].contains (c.n 7)), (8, 1 ≤ c.n 8 && c.n 8 ≤ 1048575)]

/-- CELL_SLEEP SLEEP: proposes a sleep to every participant (R362, R364). -/
def cellSleepPropose : CmdBody := fun c s =>
  let t := c.n 0
  let old := s.sleepOf t
  let parts := (s.bank s.rig.active).set (c.n 4)
  let named := (List.range 512).filter fun p => bitAt (parts.getD (p / 64) 0) (p % 64)
  if (s.timeline t).mode ≠ 1 then .refuse .busyTimeline t
  else if old.state ≠ 0 then .refuse .busyPending 0
  else if named.any fun p => !s.linkUp p || !(s.prt p).schedDoze then bad 4
  else if !s.awake (domCluster 0) then .refuse .targetAsleep (domCluster 0)
  else
    let f := s.sleepFrameFor t (c.n 2) (c.n 5)
    let x : CellSleep := { old with
      state := 1, agreement := (old.agreement + 1) % 65536, sleepSfn := c.n 2, commitSfn := sfnOf (f - c.n 5), wakeSfn := c.n 3
      wakeFixed := false, accepts := 0, answered := 0, refused := false, parts := parts, sleepFrame := f, commitFrame := f - c.n 5
      wakeAt := agreedWake f (c.n 3), notice := c.n 6, grid := c.n 7, lead := c.n 8, lastSend := s.tick }
    let s := sleepChange (s.setSleep t x)
    .later (openCmd 0xB04 t c ((s.participants x).foldl (fun s p => sendSleep 0x40 t 0 x.wakeField p s) s))

/-- Send WAKE_AT naming a frame (0xFFFF: none) to a port; counted. -/
def sendWakeAt (t sfn port : Nat) (s : State) : State := (sendSleep 0x45 t 0 sfn port s).bump .cellSleepCnt [t] 15 0

/-- The earliest wake frame for a request that arrives now (R367). -/
def State.wakeFrameFor (s : State) (t : Nat) (c : CellSleep) : Int :=
  let d := s.timeline t
  let lim := s.now16 + (c.notice : Int) * 10000000 * ns16
  let f := max (c.sleepFrame + 1) (d.nextAny lim)
  let g : Int := max 1 c.grid
  let f := f + (-f) % g
  match c.wakeAt with
  | some a => min a f
  | none => f

/-- A wake request of timeline t, from a participant's port or from a command (R367). Each gets one answer. -/
def wakeRequest (t : Nat) (from_ : Option Nat) (s : State) : State :=
  let c := s.sleepOf t
  let s := s.bump .cellSleepCnt [t] 31 16
  match c.state with
  | 0 => match from_ with
    | some p => sendWakeAt t 0xFFFF p s
    | none => s
  | 1 => cancelSleep t 3 .cancelled 0 s
  | _ =>
    if c.wakeFixed then
      match from_ with
      | some p => sendWakeAt t c.wakeSfn p s
      | none => (s.present c).foldl (fun s p => sendWakeAt t c.wakeSfn p s) s
    else
      let f := s.wakeFrameFor t c
      let s := s.setSleep t { c with wakeFixed := true, wakeSfn := sfnOf f, wakeAt := some f }
      (s.present c).foldl (fun s p => sendWakeAt t (sfnOf f) p s) s

/-- CELL_SLEEP (R362, R367): a WAKE replies at once. -/
def cellSleepBody : CmdBody := fun c s =>
  checked (cellSleepRanges c) fun _ =>
    if c.n 1 = 0 then cellSleepPropose c s
    else
      let s := wakeRequest (c.n 0) none s
      let x := s.sleepOf (c.n 0)
      .done [if x.wakeFixed then mk 15 15 1 ||| mk 9 0 x.wakeSfn else 0] s

/-- SLEEP_PROPOSE again, every 1 ms, to each participant that has not answered (R364). -/
def proposeResend (t : Nat) (s : State) : State :=
  let c := s.sleepOf t
  if c.state ≠ 1 ∨ s.tick < c.lastSend + msTicks then s
  else
    let s := s.setSleep t { c with lastSend := s.tick }
    ((s.participants c).filter fun p => !c.answered.testBit p).foldl (fun s p => sendSleep 0x40 t 0 c.wakeField p s) s

def execSleepProposeResend (timeline : Nat) (s : State) : Host.Outcome State Fault Refusal := keep s (proposeResend (timeline % 8) s)

/-- A received cell-sleep message of a type on a participant port: its timeline (Table 15-8). -/
def State.sleepFrame (s : State) (port typ : Nat) (b : List Byte) : Option Nat :=
  let t := byteAt b 20 % 8
  let c := s.sleepOf t
  if byteAt b 14 == typ && byteAt b 15 == 1 && (c.state == 0 || (s.participants c).contains port) then some t else none

/-- An answer to the proposal in progress: AGREEMENT, SLEEP_SFN and WAKE_SFN are the same. -/
def CellSleep.matched (c : CellSleep) (b : List Byte) : Bool :=
  c.state == 1 && bytesNat b 16 2 == c.agreement && bytesNat b 22 2 == c.sleepSfn && bytesNat b 26 2 == c.wakeField

/-- SLEEP_ACCEPT (R364). -/
def sleepAccept (port : Nat) (b : List Byte) (s : State) : State :=
  match s.sleepFrame port 0x41 b with
  | none => s
  | some t =>
    let c := s.sleepOf t
    if c.matched b ∧ !c.answered.testBit port then
      s.setSleep t { c with answered := c.answered ||| 2 ^ port, accepts := c.accepts + 1 }
    else s

def execSleepAccept (port : Nat) (frame : List Byte) (s : State) : Host.Outcome State Fault Refusal :=
  keep s (sleepAccept (port % 512) frame s)

/-- SLEEP_REFUSE: the agreement will not commit (R364). -/
def sleepRefuse (port : Nat) (b : List Byte) (s : State) : State :=
  match s.sleepFrame port 0x42 b with
  | none => s
  | some t =>
    let c := s.sleepOf t
    if c.state = 1 ∧ bytesNat b 16 2 = c.agreement then
      s.setSleep t { c with
        refused := true, accepts := if c.answered.testBit port then c.accepts - 1 else c.accepts, answered := c.answered ||| 2 ^ port }
    else s

def execSleepRefuse (port : Nat) (frame : List Byte) (s : State) : Host.Outcome State Fault Refusal :=
  keep s (sleepRefuse (port % 512) frame s)

/-- CELL_WAKE: a wake request of a participant (R367). -/
def cellWake (port : Nat) (b : List Byte) (s : State) : State :=
  match s.sleepFrame port 0x44 b with
  | none => s
  | some t => wakeRequest t (some port) s

def execCellWake (port : Nat) (frame : List Byte) (s : State) : Host.Outcome State Fault Refusal :=
  keep s (cellWake (port % 512) frame s)

/-- The commit point (R364): every participant has accepted, or the agreement is cancelled. -/
def commitPoint (t : Nat) (s : State) : State :=
  let c := s.sleepOf t
  if c.state ≠ 1 ∨ (s.tick : Int) < s.frameTick t c.commitFrame then s
  else if !c.refused && c.accepts == (s.participants c).length then
    sleepChange (closeCmd 0xB04 t .ok 0 [] (s.setSleep t { c with state := 2 }))
  else cancelSleep t (if c.refused then 2 else 1) .cancelled 0 s

def execSleepCommitPoint (timeline : Nat) (s : State) : Host.Outcome State Fault Refusal := keep s (commitPoint (timeline % 8) s)

/-- Set MODE of a timeline. -/
def setMode (t m : Nat) (s : State) : State :=
  let d := s.timeline t
  { s with rig := { s.rig with timelines := tset {} s.rig.timelines t { d with w0 := ins d.w0 50 49 m } } }

/-- The lanes of every participant that takes part. -/
def State.sleepLanes (s : State) (c : CellSleep) : List Nat := (s.present c).flatMap s.lanesOf

/-- The start of a committed sleep (R365). -/
def cellSleepStart (t : Nat) (s : State) : State :=
  let c := s.sleepOf t
  if c.state ≠ 2 ∨ (s.tick : Int) < s.frameTick t c.sleepFrame then s
  else
    let s := setMode t 2 (s.setSleep t { c with state := 3 })
    let s := retarget ((List.range 34).foldl (fun s d => setSlot d t (s.preferred 3) s) s)
    let s := (s.sleepLanes c).foldl (fun s n => laneAction 0x31 n s.tick (laneAction 0x30 n s.tick s)) s
    sleepChange (s.bump .cellSleepCnt [t] 63 48)

def execCellSleepStart (timeline : Nat) (s : State) : Host.Outcome State Fault Refusal := keep s (cellSleepStart (timeline % 8) s)

/-- WAKE_LEAD before the wake frame: a scheduled wake of every participant lane, both directions (R366). -/
def cellWakeLead (t : Nat) (s : State) : State :=
  let c := s.sleepOf t
  match c.wakeAt with
  | none => s
  | some f =>
    if c.state ≠ 3 ∨ (s.tick : Int) + c.lead < s.frameTick t f then s
    else
      let s := s.setSleep t { c with state := 4 }
      (s.sleepLanes c).foldl (fun s n => laneAction 0x33 n s.tick (laneAction 0x32 n s.tick s)) s

def execCellWakeLead (timeline : Nat) (s : State) : Host.Outcome State Fault Refusal := keep s (cellWakeLead (timeline % 8) s)

/-- Cell sleep at a step (R368): an agreement ends; a sleeping timeline wakes at its first frame boundary after S + 288, told to
every participant, without the lane wake lead. -/
def sleepStep (t tick epoch : Nat) (s : State) : State :=
  let c := s.sleepOf t
  match c.state with
  | 0 => s
  | 1 => cancelSleep t 4 .discontinuityCancelled epoch s
  | 2 =>
    let s := (s.present c).foldl (fun s p => sendSleep 0x43 t 4 c.wakeField p s) s
    sleepChange ((s.setSleep t { c with state := 0, cause := 4, wakeFixed := false }).bump .cellSleepCnt [t] 47 32)
  | _ =>
    let d := s.timeline t
    let f := d.frameAt (s.mastAt ((tick : Int) + 288) / 4294967296) + 1
    let s := s.setSleep t { c with lead := 0, wakeFixed := true, wakeSfn := sfnOf f, wakeAt := some f }
    (s.present c).foldl (fun s p => sendWakeAt t (sfnOf f) p s) s

/-- CELL_SLEEP_STATUS (Table 15-15). -/
def State.cellSleepView (s : State) (t : Nat) : W :=
  let c := s.sleepOf t
  Machine.mk 63 61 c.state ||| Machine.mk 60 45 c.agreement ||| Machine.mk 44 35 c.sleepSfn
    ||| Machine.mk 34 25 (if c.wakeFixed then c.wakeSfn else 0) ||| Machine.mk 24 16 c.accepts ||| Machine.mk 15 8 c.cause
    ||| Machine.mk 7 7 (b2n c.wakeFixed)

end Sys2Proof.Machine
end

