-- ==== Sys2Proof/Machine/Boot.lean ====
section
/-! DEFINITION. Resets, boot sources, images and the start-up stages 1 to 4 (R417 to R424), the presence and supply pins (R369 to
R372, R440, R441), PERST_N, `DEBUG_CLOSE` and the wake logic (R349). -/

namespace Sys2Proof.Machine

/-- A reset ends: unlike other commands it may set the counters of Mast time. -/
def finishOn (s t : State) : Host.Outcome State Fault Refusal := .next { t with pending := s.pending }

/-! ### What a reset leaves (Table 18-1) -/

/-- GOODBYE with cause ADMIN on every LINK_UP Dravua port before a warm or cold reset (R92). -/
def goodbyeAll (s : State) : State :=
  (List.range 512).foldl (fun s p => if s.linkUp p ∧ (s.prt p).ver ≠ 0 then sendHello 3 0 14 p s else s) s

/-- Objects with an epoch that exist: those of fixed number, live queue pairs and Skeins, and those of which the registry keeps an
epoch. -/
def State.epochKeys (s : State) : List Nat :=
  let fixed := List.range 10 ++ (List.range 32).map (16 + ·) ++ (List.range 33).map (64 + ·) ++ (List.range 12).map (100 + ·)
    ++ (List.range 32).map (128 + ·) ++ (List.range 8).map (192 + ·) ++ (List.range 64).map (256 + ·) ++ (List.range 512).map (512 + ·)
  let more := (s.epochs.map (·.1)) ++ ((s.host.qps.filter fun x => x.2.live).map fun x => ekQp x.1)
    ++ ((s.sk.descs.filter fun x => x.2.valid).map fun x => ekSkein x.1)
  fixed ++ (more.filter fun k => !fixed.contains k).eraseDups

/-- Every object advances its epoch (R417, R413). -/
def advanceAll (s : State) : State := s.epochKeys.foldl (fun s k => bumpEpoch k 38 s) s

/-- The classifier comes out of reset with both epochs of every Tile 0 (R115, R116). -/
def classEpochs (s : State) : State :=
  (List.range 32).foldl (fun s i => { s with epochs := tset {} s.epochs (16 + i) { tget {} s.epochs (16 + i) with epoch := 0 } }) s

/-- Registers that a warm or cold reset keeps: FAULT_CTL and FAULT_CNT of the management fault source (R406), DEV_RESET_CTL and
RESET_CAUSE (R434), and on a warm reset SYNCE_OUT_CTL (Table 18-1: SyncE outputs run on). Every other register takes its reset value
(R4). -/
def State.keptRegs (s : State) (warm : Bool) : Tbl W :=
  s.regs.filter fun x => x.1 == 0xC00020 || (0xC00050 ≤ x.1 && x.1 < 0xC000D0) || x.1 == 0x1018 || x.1 == 0x1020
    || (warm && x.1 == 0x10048)

/-- What the management fault source keeps in the always-on domain: its record and the bits of FAULT_CTL (R406). -/
def FaultSrc.kept (f : FaultSrc) : FaultSrc :=
  { valid := f.valid, w0 := f.w0, w1 := f.w1, w2 := f.w2, w3 := f.w3, seq := f.seq, pending := f.pending, denied := f.denied
    posted := f.posted }

/-- A key of the check bits of the Sail locker. -/
def lockerEcc (k : Nat) : Bool := k / 2 ^ 40 == 3 * 64 * 256

/-- What the security block keeps through a warm or cold reset: fuses and Sail locker; the level is CLOSED. -/
def Security.kept (k : Security) (warm : Bool) : Security :=
  { k with
    level := 0, txSa := [], txAn := [], rxSa := [], ptpKeys := [], challenge := none, staging := [], zero := none
    secFault := warm && k.secFault, keysBlocked := warm && k.secFault }

/-- The voltage at which a step that a reset cuts short leaves the rail, at least. -/
def Power.railLeft (p : Power) : Nat :=
  match p.avs with
  | some a => min a.src a.dst
  | none => p.vcore

/-- The power controller after a reset: pins, rail and the count of glitches stand. -/
def Power.kept (p : Power) (tick : Nat) : Power :=
  { earlyN := p.earlyN, lateN := p.lateN, pwrGood := p.pwrGood, perstN := p.perstN, glitch := p.glitch, floating := p.floating
    thermTripN := p.thermTripN, mainPower := p.mainPower, goodSince := p.goodSince, earlySince := p.earlySince
    vcore := p.railLeft, vcoreTarget := p.railLeft, intervals := tick * 5 / 8192 }

/-- The part after a warm or cold reset, before the start-up begins. -/
def resetCore (warm : Bool) (s0 : State) : State :=
  let s := classEpochs (advanceAll (goodbyeAll s0))
  let src := (s.fault 0 0).kept
  let rig : Rig := if warm then
      { stepTick := s.rig.stepTick, notBefore := s.rig.notBefore, discTime := s.rig.discTime, discEpoch := s.rig.discEpoch
        discDelta := s.rig.discDelta }
    else {}
  let mast : Mast := if warm then { s.mast with txts := [] } else { tick := s.tick }
  let flt : FaultState := { srcs := tset {} [] 0 src, ecc := s.flt.ecc.filter fun x => lockerEcc x.1
                            flipped := s.flt.flipped.filter lockerEcc }
  settleForces
    { pending := s.pending, out := { s.out with mgmtTx := [] }, epochs := s.epochs, freeCtr := s.freeCtr, mast := mast, rig := rig
      time := if warm then s.time else {}
      regs := s.keptRegs warm, flt := flt, sec := s.sec.kept warm, power := s.power.kept s.tick
      boot := { stage := if warm then 2 else 1, warm := warm, slots := s.boot.slots, refoscFreq := if warm then s.boot.refoscFreq else 0 } }

/-- The cause of a reset is written (R434). -/
def writeCause (k : Nat) (s : State) : State := s.setRgf .resetCause [] 2 0 k

/-- A reset is held back or ignored while a removal runs or after it (R418). -/
def State.resetHeld (s : State) : Bool := s.power.removing.isSome || s.power.removed

/-- Registers that R335 keeps for every function: FN_QP_RANGE, CHAN_OWNER, POOL_OWNER. -/
def State.assignments (s : State) : Tbl W :=
  let keep := [RegId.fnQpRange, .chanOwner, .poolOwner]
  s.regs.filter fun x => match regAt x.1 with
    | some (r, _) => keep.contains r
    | none => false

/-- A warm reset (Table 18-1): function-level reset of every function, STATE_LOST, resumes at stage 2. -/
def warmReset (cause : Nat) (s : State) : State :=
  if s.resetHeld then s
  else
    let old := s.assignments
    let t := writeCause cause (resetCore true s)
    let t := t.bump .resetCause [] 31 16
    let t := { t with regs := old.foldl (fun r x => tset (regReset x.1) r x.1 x.2) t.regs, cmd := { t.cmd with msixOff := List.range 64 } }
    (List.range 64).foldl (fun t f => raiseFn f 1 (t.setFn f { lost := true })) t

/-- A cold reset: Mast time 0, resumes at stage 1. -/
def coldReset (cause : Nat) (s : State) : State := if s.resetHeld then s else writeCause cause (resetCore false s)

/-- PWR_GOOD rises (R417): the power-on reset. Outputs float until LATE_PRESENT_N settles (R369). -/
def powerOn (s : State) : State :=
  if s.power.pwrGood then s
  else
    let t := resetCore false { s with port := {} }
    let t := (t.setRg .devResetCtl [] 0).setRg .resetCause [] 0
    { t with
      sec := { t.sec with tamper := 0, lockerLost := false }
      power := { t.power with
        pwrGood := true, mainPower := true, floating := true, lateN := true, thermTripN := true, goodSince := s.tick, earlySince := none
        vcore := 820, vcoreTarget := 820 } }

def execPowerOnReset (s : State) : Host.Outcome State Fault Refusal := finishOn s (powerOn s)

/-- RESET_N low for 1 µs. -/
def execResetNColdReset (s : State) : Host.Outcome State Fault Refusal :=
  finishOn s (if s.halted then s else coldReset 1 s)

/-- A write of DEV_RESET_CTL (R418): acts only with KEY 0x5253 and exactly one of COLD and WARM. -/
def devResetWrite (v : W) (s : State) : State :=
  if fld v 63 48 ≠ 0x5253 ∨ bitAt v 1 = bitAt v 0 ∨ s.resetHeld then s
  else
    let s := s.setRg .devResetCtl [] (mk 10 8 (fld v 10 8))
    if bitAt v 1 then coldReset 2 s else warmReset 5 s

def execColdResetCmd (value : W) (s : State) : Host.Outcome State Fault Refusal :=
  finishOn s (if s.halted then s else devResetWrite value s)

def execWarmResetCmd (value : W) (s : State) : Host.Outcome State Fault Refusal :=
  finishOn s (if s.halted then s else devResetWrite value s)

/-! ### Presence and supply (R369 to R372, R439 to R441) -/

/-- EARLY_PRESENT_N rises. -/
def earlyRise (s : State) : State :=
  if s.power.earlyN then s
  else { s with power := { s.power with earlyN := true, earlySince := some s.tick, seatSince := none } }

def execEarlyPresentRise (s : State) : Host.Outcome State Fault Refusal := keepOn s (earlyRise s)

/-- EARLY_PRESENT_N falls: a pulse shorter than 2 µs counts as a glitch (R370); after REMOVED the 100 ms of R372 begin. -/
def earlyFall (s : State) : State :=
  let p := s.power
  if !p.earlyN then s
  else
    let short := p.removing.isNone && !p.removed && match p.earlySince with
      | some t => decide (s.tick < t + 2 * usTicks)
      | none => false
    { s with power := { p with
      earlyN := false, earlySince := none, glitch := if short then satAdd 16 p.glitch 1 else p.glitch
      seatSince := if p.removed then some s.tick else none } }

def execEarlyPresentFall (s : State) : Host.Outcome State Fault Refusal := keepOn s (earlyFall s)

/-- Step 1 of R371: a frame in flight ends first; a step in progress gets its hold frame; nothing else is sent. -/
def removalHold (s : State) : State :=
  let s := { s with power := { s.power with tileFreqNext := [] } }
  match s.power.avs with
  | some a => if a.phase = 1 then holdFrame a s else if a.phase = 2 then { s with power := { s.power with avs := none } } else s
  | none => { s with power := { s.power with avsHold := true } }

/-- Removal declared (R370, R371): steps 1 to 3. -/
def removalDeclared (s : State) : State :=
  match s.power.earlySince with
  | none => s
  | some t =>
    if s.tick < t + 2 * usTicks ∨ s.power.removing.isSome then s
    else
      let s := removalHold { s with power := { s.power with removing := some s.tick } }
      let s := s.modSec fun k => { k with zero := k.zero.map fun z => { z with removal := true } }
      let s := (List.range 512).foldl (fun s p => if (s.prt p).formed then portAdminDown p 12 s else s) s
      raiseInt 2 .pwrIntStatus [] 6 (lockerRecord 1 0 s.noTime s)

def execRemovalDeclared (s : State) : Host.Outcome State Fault Refusal := keep s (removalDeclared s)

/-- D + 500 µs: outputs float and REMOVED is set (R371). -/
def removalFloat (s : State) : State :=
  match s.power.removing with
  | none => s
  | some d =>
    if s.tick < d + 500 * usTicks then s
    else pinEdge 3 false 0 { s with power := { s.power with
      removed := true, removing := none, floating := true, seatSince := if s.power.earlyN then none else some s.tick } }

def execRemovalFloat (s : State) : Host.Outcome State Fault Refusal := keep s (removalFloat s)

/-- EARLY_PRESENT_N low again for 100 ms while PWR_GOOD stayed high: a cold reset, then R369 (R372). -/
def reinsert (s : State) : State :=
  match s.power.seatSince with
  | none => s
  | some t =>
    if !s.power.removed ∨ !s.power.pwrGood ∨ !s.power.mainPower ∨ !s.power.thermTripN ∨ s.tick < t + 100 * msTicks then s
    else
      let u := coldReset 3 { s with power := { s.power with removed := false, removing := none, seatSince := none } }
      { u with power := { u.power with floating := true, lateN := true, goodSince := s.tick } }

def execReinsertReset (s : State) : Host.Outcome State Fault Refusal := finishOn s (reinsert s)

/-- LATE_PRESENT_N has been low for 10 ms (R369): outputs drive, the start-up sequence may begin. -/
def outputEnable (s : State) : State :=
  if !s.power.floating ∨ s.tick < s.power.goodSince + 10 * msTicks then s
  else pinEdge 3 true 0 { s with power := { s.power with lateN := false, floating := false } }

def execOutputEnable (s : State) : Host.Outcome State Fault Refusal := keep s (outputEnable s)

/-- PWR_GOOD falls (R440): outputs float and every domain stops. -/
def powerDown (s : State) : State :=
  if !s.power.pwrGood then s
  else
    let s := if s.power.floating then s else pinEdge 3 false 0 s
    { s with power := { s.power with
      pwrGood := false, floating := true, thermTripN := true, removing := none, removed := false, seatSince := none } }

def execPowerDown (s : State) : Host.Outcome State Fault Refusal := keepOn s (powerDown s)

/-- Main power is lost (R441): the Sail locker keeps its words on VBAT; fuses and SPI NOR stand. -/
def mainPowerLost (s : State) : State :=
  let k := s.sec
  { pending := s.pending, out := { s.out with mgmtTx := [] }, freeCtr := s.freeCtr, mast := { tick := s.tick }
    flt := { ecc := s.flt.ecc.filter fun x => lockerEcc x.1, flipped := s.flt.flipped.filter lockerEcc }
    sec := { (k.kept false) with tamper := 0, lockerLost := false }
    power := { mainPower := false, pwrGood := false, perstN := s.power.perstN, earlyN := s.power.earlyN
               intervals := s.tick * 5 / 8192 }
    boot := { slots := s.boot.slots } }

def execMainPowerLoss (s : State) : Host.Outcome State Fault Refusal := finishOn s (mainPowerLost s)

/-! ### PERST_N and the wake logic -/

/-- PERST_N low (R449): a function-level reset of every function. -/
def perstLow (s : State) : State :=
  if !s.power.perstN then s
  else functionReset 1 (functionReset 0 { s with power := { s.power with perstN := false } })

def execPerstNAssert (s : State) : Host.Outcome State Fault Refusal := keep s (perstLow s)

def execPerstNDeassert (s : State) : Host.Outcome State Fault Refusal :=
  keepOn s { s with power := { s.power with perstN := true } }

/-- An I3C private write while the management domain sleeps (R349): NACKed; the domain, or from the device-wide PS3 the whole
device, begins its exit. The return from the device-wide PS4 is a cold start (R348). -/
def sidebandWake (s : State) : State :=
  if s.power.deviceForce = 4 then coldReset 4 s
  else if s.power.deviceForce = 3 then
    (List.range 38).foldl (fun s d => beginExit d (s.setDomain d { s.domain d with force := 0 }))
      { s with power := { s.power with deviceForce := 0 } }
  else beginExit domMgmt s

def execSidebandWake (s : State) : Host.Outcome State Fault Refusal :=
  finishOn s (if s.halted then s else sidebandWake s)

/-! ### DEBUG_CLOSE (R392) -/

/-- The level becomes CLOSED; keys come free unless a read-back failed. -/
def debugClosed (s : State) : State :=
  if s.sec.level = 0 then s
  else secInt 3 (settleForces (s.modSec fun k => { k with level := 0, keysBlocked := k.secFault || k.zero.isSome }))

/-- `DEBUG_CLOSE`: from FULL the reply, then a warm reset. -/
def debugCloseBody : CmdBody := fun _ s =>
  if s.sec.level = 2 then .reset fun s => warmReset 6 (debugClosed s)
  else .done [] (debugClosed s)

/-! ### Images and the boot mailbox (R419 to R421) -/

/-- Why a verifier rejects an image of a type (FAIL_CAUSE of Table 18-8); none when it accepts. -/
def State.imageFail (s : State) (typ : Nat) (i : SpiImage) : Option Nat :=
  if i.bytes.isEmpty then some 7
  else if !i.readOk then some 6
  else if i.bytes.length < sigBytes then some 2
  else s.sigCheck typ i.bytes (i.bytes.length - sigBytes) none i.verified

/-- The version in an image's signature block. -/
def spiVersion (i : SpiImage) : Nat := fld (sigWord1 i.bytes (i.bytes.length - sigBytes)) 63 48

/-- A stage records its failure (R423). -/
def stageFail (k cause : Nat) (s : State) : State :=
  raiseInt 1 .bootIntStatus [] 1 { s with boot := { s.boot with failStage := k, failCause := cause } }

/-- An image of boot firmware (type 0) or Fololmane (type 1) is taken: stage 3 or stage 4 begins, and with stage 4 the intake is
open (R424). -/
def imageTaken (typ : Nat) (i : SpiImage) (s : State) : State :=
  let s := imageLoaded typ i.bytes (i.bytes.length - sigBytes) s
  if typ = 0 then { s with boot := { s.boot with stage := 3, imgBoot := spiVersion i, mboxWant := 1, mboxResult := 0 } }
  else postHeld { s with boot := { s.boot with stage := 4, imgFol := spiVersion i, mboxWant := 0, mboxResult := 0 } }

/-- The slot that gave an image of a type. -/
def slotUsed (typ slot : Nat) (s : State) : State :=
  { s with boot := if typ = 0 then { s.boot with bfwSlot := slot } else { s.boot with folSlot := slot } }

/-- Stages 2 and 3 from SPI NOR (R420): slot A, then slot B; when both fail, RECOVERY and host boot. -/
def spiBoot (typ : Nat) (a b : SpiImage) (s : State) : State :=
  match s.imageFail typ a with
  | none => imageTaken typ a (slotUsed typ 0 s)
  | some _ =>
    let s := imageReject s
    match s.imageFail typ b with
    | none => imageTaken typ b (slotUsed typ 1 s)
    | some cb =>
      let s := stageFail (typ + 2) cb (imageReject s)
      { s with boot := { s.boot with recovery := true, bootSrc := 1, mboxWant := typ } }

/-- BOOT_SEL and PROFILE_SEL are sampled; PROFILE_NEXT replaces the latter and its VALID clears (R419). -/
def samplePins (bootSel : Bool) (profileSel : Nat) (s : State) : State :=
  let v := s.rg .devResetCtl []
  let next := bitAt v 10
  let s := { s with boot := { s.boot with
    bootSel := b2n bootSel, bootSrc := b2n bootSel, profileSel := profileSel % 4, selected := if next then fld v 9 8 else profileSel % 4
    selectedBy := b2n next } }
  if next then s.setRg .devResetCtl [] (ins v 10 10 0) else s

/-- A VBAT failure found at power-up (R383): LOSS_COUNT, LOW, LOCKER_LOST; the locker is empty. -/
def vbatLost (s : State) : State :=
  let s := lockerClear s
  secInt 7 (s.modSec fun k => { k with
    loss := min 16 (k.loss + 1), low := 0, lockerLost := true, suspect := k.suspect || decide (16 ≤ k.loss + 1) })

/-- Stage 1, FUSES (R423): begins when the outputs drive (R369). It fails where the repair map of the always-on or the management
domain fails its CRC: that domain never leaves reset (R400). -/
def stageFuses (bootSel : Bool) (profileSel : Nat) (vbatFailed : Bool) (s : State) : State :=
  if s.boot.stage ≠ 1 ∨ s.power.floating ∨ s.boot.failStage = 1 then s
  else if (s.sec.badMaps.any fun d => d == domMgmt || 38 ≤ d) then stageFail 1 4 (repairFails domMgmt s)
  else
    let s := when (vbatFailed && s.rgf .resetCause [] 2 0 == 0) vbatLost (samplePins bootSel profileSel s)
    { s with boot := { s.boot with stage := 2 } }

def execStageFuses (bootSel : Bool) (profileSel : Nat) (vbatFailed : Bool) (s : State) : Host.Outcome State Fault Refusal :=
  keep s (stageFuses bootSel profileSel vbatFailed s)

/-- Stage 2, BOOT_FW: in host boot it waits for the mailbox. -/
def stageBootFw (bootSel : Bool) (profileSel : Nat) (a b : SpiImage) (s : State) : State :=
  if s.boot.stage ≠ 2 then s
  else
    let s := if s.boot.warm ∧ s.boot.selected = 4 then samplePins bootSel profileSel s else s
    if s.boot.bootSrc = 1 then s else spiBoot 0 a b s

def execStageBootFw (bootSel : Bool) (profileSel : Nat) (slotA slotB : SpiImage) (s : State) : Host.Outcome State Fault Refusal :=
  keep s (stageBootFw bootSel profileSel slotA slotB s)

/-- Stage 3, FOLOLMANE. -/
def stageFololmane (a b : SpiImage) (s : State) : State := if s.boot.stage ≠ 3 ∨ s.boot.bootSrc = 1 then s else spiBoot 1 a b s

def execStageFololmane (slotA slotB : SpiImage) (s : State) : Host.Outcome State Fault Refusal := keep s (stageFololmane slotA slotB s)

/-- A write of BOOT_MBOX_CTL (R421): GO with TYPE and LENGTH gives the awaited image; ignored outside stages 2 and 3 of a host
boot. -/
def bootMboxGo (v : W) (i : SpiImage) (s : State) : State :=
  let want := s.boot.mboxWant
  if !bitAt v 63 ∨ s.boot.bootSrc ≠ 1 ∨ !s.power.perstN ∨ s.boot.stage ≠ want + 2 then s
  else
    let i : SpiImage := { i with bytes := i.bytes.take (fld v 31 0) }
    let fail := if fld v 57 56 ≠ want then some 2 else s.imageFail want i
    match fail with
    | none => imageTaken want i s
    | some k => imageReject { s with boot := { s.boot with mboxResult := k } }

def execBootMboxGo (value : W) (image : SpiImage) (s : State) : Host.Outcome State Fault Refusal := keep s (bootMboxGo value image s)

/-! ### Stage 4 -/

/-- The board record (R422): REFOSC_FREQ and DEVICE_ID; none when absent or broken. -/
def boardRecord (b : List Byte) : Option (Nat × Nat) :=
  if b.length = 64 ∧ crc32c (b.take 60) = bytesNat b 60 4 ∧ byteAt b 0 < 4 then some (byteAt b 0, bytesNat b 2 2 % 4096) else none

/-- A Tile's clock starts: at its effective entry's frequency, or slower while the rail is too low for it (R353). Its sweeper's
next visit is one interval away (R143). -/
def tileClock (t : Nat) (s0 : State) : State :=
  let s := s0.modTl t fun tl => { tl with sweepTick := 16 * s0.tick }
  let goal := s.tileGoal t
  let f := if vmin goal (fMax t) ≤ s.power.vcore then goal else min goal 800
  { s with power := { s.power with tileFreq := tset 1600 s.power.tileFreq t f, tileFreqNext := tset none s.power.tileFreqNext t none } }

/-- Stage 4, DOMAINS. A domain whose repair map fails stays in reset (R400): off, as in PS4. -/
def stageDomains (record : List Byte) (s : State) : State :=
  if s.boot.stage ≠ 4 then s
  else
    let r := boardRecord record
    let v := r.getD (2, 0)
    let s := { s with
      deviceId := v.2, mast := { s.mast with running := true }
      boot := { s.boot with stage := 5, refoscFreq := v.1, boardRecBad := r.isNone } }
    let s := (List.range 38).foldl (fun s d =>
      if d ∈ s.sec.badMaps then repairFails d (s.setDomain d { s.domain d with state := 4 })
      else s.setDomain d { s.domain d with idleSince := List.replicate 4 s.tick }) s
    let s := retarget ((List.range 16).foldl (fun s t => tileClock t s) s)
    when r.isNone (raiseInt 1 .bootIntStatus [] 4) s

def execStageDomains (record : List Byte) (s : State) : Host.Outcome State Fault Refusal := keep s (stageDomains record s)

/-! ### Views -/

/-- BOOT_STATUS (Table 18-8). -/
def State.bootStatusView (s : State) : W :=
  let b := s.boot
  Machine.mk 63 60 b.stage ||| Machine.mk 59 56 b.failStage ||| Machine.mk 55 52 b.failCause ||| Machine.mk 51 51 b.bootSrc
    ||| Machine.mk 50 50 b.bfwSlot ||| Machine.mk 49 49 b.folSlot ||| Machine.mk 48 48 b.hookSlot ||| Machine.mk 47 47 (b2n b.recovery)
    ||| Machine.mk 46 46 (b2n b.boardRecBad) ||| Machine.mk 45 45 (b2n b.ready)

/-- BOOT_MBOX_STATUS (Table 18-7): 0 from the end of stage 3. -/
def State.mboxView (s : State) : W :=
  if 4 ≤ s.boot.stage then 0 else Machine.mk 57 56 s.boot.mboxWant ||| Machine.mk 55 52 s.boot.mboxResult

end Sys2Proof.Machine
end

