-- ==== Sys2Proof/Machine/RegView.lean ====
section
/-! DEFINITION. What a read of each register shows (chapters 2 to 18 and 20): the registers that are not stored words are views of
the state. -/

namespace Sys2Proof.Machine

/-- A token count as a register shows it (R479): whole bytes, toward minus infinity, saturated to n signed bits. -/
def tokenField (n : Nat) (t : Int) : Nat := twos n (max (-(2 ^ (n - 1))) (min (2 ^ (n - 1) - 1) (t / 32768)))

/-- CMD_STATUS (Table 13-15). -/
def State.cmdStatusView (s : State) : W :=
  let v := fun src => s.cmdVersion src % 4
  BitVec.ofNat 64 (s.deviceId % 4096 * 2 ^ 52 + v .sideband * 2 ^ 50 + v .pf0 * 2 ^ 48 + v .inband * 2 ^ 46 + v .pf1 * 2 ^ 44
    + s.cmd.timed.length % 512 * 2 ^ 35)

/-- CMD_VF_VER, 32 functions a register. -/
def State.vfVerView (s : State) (k : Nat) : W :=
  BitVec.ofNat 64 ((List.range 32).foldl (fun a i => if 32 * k + i < 62 then a + s.cmdVersion (.vf (32 * k + i)) % 4 * 4 ^ i else a) 0)

/-- INT_SUMMARY (Table 20-4). -/
def State.intSummary (s : State) : W := BitVec.ofNat 64 (maskOf 15 s.blockPending)

/-- PROFILE_STATUS (Table 18-9). -/
def State.profileStatusView (s : State) : W :=
  let tack := s.cmd.timed.find? fun t => t.opcode == 0xD00
  let hdr := s.boot.running.getD 1 0
  BitVec.ofNat 64 (s.boot.activeProfile % 8 * 2 ^ 61 + s.boot.selectedBy % 4 * 2 ^ 59 + b2n tack.isSome * 2 ^ 58
    + (match tack with | some t => fld (t.cmd.p 0) 1 0 | none => 0) * 2 ^ 56 + b2n (s.boot.profileFail != 0) * 2 ^ 55
    + s.boot.activeEpoch % 65536 * 2 ^ 32 + fld hdr 47 32 * 2 ^ 16 + fld hdr 63 48)

/-- PROFILE_EPOCHS. -/
def State.profileEpochsView (s : State) : W :=
  BitVec.ofNat 64 ((List.range 4).foldl (fun a i => a + (tget {} s.boot.slots i).epoch % 65536 * 2 ^ (16 * i)) 0)

/-- HQ_STATUS (Table 14-13). -/
def State.hqStatusView (s : State) : W :=
  let half := maskOf 16 fun t => decide (131072 < (s.tl t).hostRx.foldl (fun n x => n + x.bytes.length) 0)
  BitVec.ofNat 64 (half * 65536 + s.host.shares.length % 8192)

/-- FN_STATUS, POOL_STATUS and CHAN_STATUS (Table 14-12). -/
def State.fnStatusView (s : State) (f : Nat) : W :=
  BitVec.ofNat 64 (f % 64 * 2 ^ 57 + b2n (s.fn f).legacy * 2 ^ 56 + b2n (s.fn f).lost * 2 ^ 55 + s.epoch (ekAdmin f) * 2 ^ 32
    + s.qpBase f * 65536 + s.qpCount f)
def State.poolStatusView (s : State) (p : Nat) : W :=
  let x := s.pool p
  BitVec.ofNat 64 (s.epoch (ekPool p) * 2 ^ 48 + b2n x.enabled * 2 ^ 47 + min 255 x.cache.length * 2 ^ 32 + x.ring.h % 65536)
def State.chanStatusView (s : State) (c : Nat) : W :=
  let x := s.chan c
  match x.stopped with
  | some k => BitVec.ofNat 64 (s.epoch (ekChan c) * 2 ^ 48 + (Config.freeWord k).toNat % 2 ^ 48)
  | none => BitVec.ofNat 64 (s.epoch (ekChan c) * 2 ^ 48 + x.jobs % 2 ^ 24 * 2 ^ 24 + x.bytes / 4096 % 2 ^ 24)

/-- TEL_FIFO_STATUS (Table 12-7). -/
def State.telFifoView (s : State) : W :=
  BitVec.ofNat 64 ((List.range 16).foldl (fun a t => a + min 15 ((s.tl t).postcards.length / 32) * 16 ^ t) 0)

/-- HK_STATUS (Table 11-16). -/
def State.hkStatusView (s : State) (q : Nat) : W :=
  let c := s.cluster q
  let ok := s.enginesOk q
  BitVec.ofNat 64 (ok * 2 ^ 48 + tget 0 c.epochs c.active * 2 ^ 32 + tget 0 c.epochs (1 - c.active) * 2 ^ 16 + c.active % 2 * 2 ^ 15
    + b2n (s.switchPending q) * 2 ^ 14 + b2n c.draining.isSome * 2 ^ 13 + b2n (tget 0 c.words c.active != 0) * 2 ^ 12
    + b2n (ok == 0) * 2 ^ 11)

/-- HK_SHARE_MAP of share n (R480). -/
def State.shareMapView (s : State) (q n : Nat) : W :=
  BitVec.ofNat 64 ((List.range 16).foldl (fun a v => a + (s.cluster q).shareOf v n % 16 * 16 ^ v) 0)

/-- HK_QUEUE_STATUS. -/
def State.hkQueueView (s : State) (q : Nat) : W :=
  BitVec.ofNat 64 ((List.range 4).foldl (fun a p =>
    a + ((s.cluster q).queue.filter fun v => v.prio == p).length % 16384 * 2 ^ (16 * p)) 0)

/-- STATE of HK_ENGINE_STATUS: 0 IDLE, 1 RUN, 2 WAIT, 3 STALL, 4 TRAP, 5 FAILED. -/
def Engine.stateCode (n : Engine) : Nat :=
  if n.failed then 5
  else if n.handler.isSome then 4
  else if n.wait.isSome then 2
  else match n.vec with
    | some v => if v.async then b2n n.routine.isSome else 3
    | none => b2n n.routine.isSome

/-- HK_ENGINE_STATUS. -/
def State.engineView (s : State) (q e : Nat) : W :=
  let n := s.eng q e
  let bank := match n.routine with | some r => r.bank | none => (s.cluster q).active
  let op := match n.routine with | some r => r.event.opcode | none => 0
  BitVec.ofNat 64 (n.stateCode * 2 ^ 61 + bank % 2 * 2 ^ 60 + n.pc % 65536 * 2 ^ 32 + op % 256)

/-- SK_STATUS (Table 9-14). -/
def State.skStatusView (s : State) (q : Nat) : W :=
  let ok := s.enginesOk q
  let opened := s.sk.descs.foldl (fun n x => if x.2.valid && x.2.cluster == q then n + x.2.insts.length else n) 0
  BitVec.ofNat 64 (ok * 2 ^ 48 + opened % 65536 * 2 ^ 32 + s.freeWords q % 2 ^ 22 * 1024 + popcount 16 ok * 32)

/-- SK_BIND_STATUS. -/
def State.bindView (s : State) : W := BitVec.ofNat 64 (s.bindKeys.length % 2 ^ 18 * 2 ^ 32 + s.bindings.length % 2 ^ 20)

/-- CLASS_STATUS (Table 5-13). -/
def State.classStatusView (s : State) (t : Nat) : W :=
  BitVec.ofNat 64 (b2n (!(s.tl t).staged) * 2 ^ 63 + (s.tl t).active % 2 * 2 ^ 62 + s.epoch (ekClass t 0) * 2 ^ 32
    + s.epoch (ekClass t 1) * 2 ^ 16)

/-- L2_STATUS and LPM_STATUS (Table 6-6). -/
def State.l2StatusView (s : State) (t : Nat) : W :=
  let tl := s.tl t
  BitVec.ofNat 64 (tl.l2Epoch % 65536 * 2 ^ 48 + b2n tl.reseed.isSome * 2 ^ 47 + b2n tl.rehash * 2 ^ 46
    + tl.learnQ.length % 8192 * 2 ^ 32 + (tl.l2.filter fun x => l2Valid x.2).length % 2 ^ 18)
def State.lpmStatusView (s : State) (t : Nat) : W :=
  let tl := s.tl t
  BitVec.ofNat 64 (tl.lpmEpoch % 65536 * 2 ^ 48 + b2n tl.lpmValid * 2 ^ 47 + tl.emSeed % 2 ^ 32)

/-- BUF_SLICE_STATUS (Table 7-4). RECV and LAUNCH are 0 between commands: reception and launch each end within their own. -/
def State.sliceStatusView (s : State) (i : Nat) : W :=
  let sl := s.slice i
  BitVec.ofNat 64 (sl.free % 2 ^ 17 * 2 ^ 47 + sl.used.length % 2 ^ 17 * 2 ^ 13)

/-- AUDIT_STATUS. -/
def State.auditView (s : State) (i : Nat) : W :=
  let sl := s.slice i
  BitVec.ofNat 64 (twos 24 sl.diff * 2 ^ 40 + sl.firstLeak % 2 ^ 17 * 2 ^ 17 + sl.passes % 2 ^ 17)

/-- RSQ_STATUS: held cells, and the source Tiles with a stream in a gap. -/
def State.rsqView (s : State) (t : Nat) : W :=
  let held := (List.range 64).foldl (fun n k => n + (s.stream (64 * t + k)).held.length) 0
  let gaps := maskOf 16 fun j => (List.range 4).any fun c => (s.stream (64 * t + 4 * j + c)).gap
  BitVec.ofNat 64 (held % 2 ^ 14 * 2 ^ 32 + gaps)

/-- TM_PORT_STATUS and TM_PORT_SHAPER (Table 8-6, R479). -/
def State.tmPortView (s : State) (p : Nat) : W :=
  let x := s.tmp p
  let gates := maskOf 16 fun q => (s.tmq (16 * p + q)).open
  let full := maskOf 16 fun q => (s.head p q).isSome
  let elig := maskOf 16 fun q => s.canSend p && s.eligible p q && decide ((x.sh s.tick).state s.tick < 2)
  BitVec.ofNat 64 (gates * 2 ^ 48 + full * 2 ^ 32 + elig * 65536 + (x.sh s.tick).state s.tick * 2 ^ 14
    + (s.pullLimit p - x.out) % 2 ^ 14)
def State.tmShaperView (s : State) (p : Nat) : W :=
  let h := ((s.tmp p).sh s.tick).refresh s.tick
  BitVec.ofNat 64 (tokenField 32 h.ctok * 2 ^ 32 + tokenField 32 h.etok)

/-- TM_QUEUE_STATUS (Table 8-7). -/
def State.tmQueueView (s : State) (q : Nat) : W :=
  let x := s.tmq q
  let h := (x.sh s.tick).refresh s.tick
  BitVec.ofNat 64 ((x.sh s.tick).state s.tick * 2 ^ 62 + tokenField 22 h.ctok * 2 ^ 40 + tokenField 22 h.etok * 2 ^ 18
    + x.deficit / 64 % 2 ^ 18)

/-- What a register of blocks 0 to 5 shows. -/
def State.viewA (s : State) (r : RegId) (i j : Nat) (ix : List Nat) : W :=
  match r with
  | .cmdStatus => s.cmdStatusView
  | .cmdVfVer => s.vfVerView i
  | .intSummary => s.intSummary
  | .bootStatus => s.bootStatusView
  | .profileStatus => s.profileStatusView
  | .profileEpochs => s.profileEpochsView
  | .pwrStatus => s.pwrStatusView
  | .pwrEst => BitVec.ofNat 64 (s.estP % 2 ^ 32 * 2 ^ 32 + s.estAvg % 2 ^ 32)
  | .pwrCap => BitVec.ofNat 64 s.power.cap
  | .presenceStatus => s.presenceView
  | .fuseFmax => fuseFmaxView
  | .fuseFfab => fuseFfabView
  | .domainStatus => s.domainStatusView i
  | .opEntry => s.opEntryView i
  | .tolerance => BitVec.ofNat 64 (tget 0 s.power.tolerance i)
  | .cellSleepStatus => s.cellSleepView i
  | .secStatus => s.secStatusView
  | .deviceUid => Config.deviceUid
  | .monoCount => BitVec.ofNat 64 s.mono
  | .tamperStatus => BitVec.ofNat 64 s.sec.tamper
  | .rollbackFloor => s.rollbackView
  | .fuseKeys => s.fuseKeysView
  | .lockerRecord => (tget [] s.sec.records i).getD j 0
  | .hqStatus => s.hqStatusView
  | .rigStatus => s.rigStatusView
  | .discTime0 => s.rig.discTime.hi
  | .discTime1 => s.rig.discTime.lo ||| BitVec.ofNat 64 (s.rig.discEpoch % 4)
  | .discDelta => BitVec.ofInt 64 s.rig.discDelta
  | .tlPos => s.tlPosView i
  | .tlFrameCnt => BitVec.ofInt 64 (s.frameCount i)
  | r => s.rg r ix

/-- What a register of blocks 6 to 10 shows. -/
def State.viewB (s : State) (r : RegId) (i j : Nat) (ix : List Nat) : W :=
  match r with
  | .telStatus => Machine.mk 63 63 (b2n s.pk.telem.histReset)
  | .telFifoStatus => s.telFifoView
  | .mcStatus => s.mcStatusView
  | .mcIntStatus => s.rg .mcIntStatus ||| s.mcSummary
  | .mcSnap0 => s.mast.snap.hi
  | .mcSnap1 => s.mast.snap.lo
  | .freqAdj => BitVec.ofInt 64 s.mast.servo.freqAdj
  | .mcTeEst => BitVec.ofNat 64 (min s.teEst 0xFFFFFFFF)
  | .portDlyRx => s.dlyRxView i
  | .portDlyTx => s.dlyTxView i
  | .txtsStatus => (s.rg .txtsStatus ix &&& 0x8000000000000000) ||| BitVec.ofNat 64 (s.txts i).entries.length
  | .hkStatus => s.hkStatusView i
  | .hkFault => BitVec.ofNat 64 ((s.cluster i).faults % 65536 * 256 + (s.cluster i).lastFault % 256)
  | .hkShareMap => s.shareMapView i 0
  | .hkShareMapN => s.shareMapView i j
  | .hkQueueStatus => s.hkQueueView i
  | .hkEngineStatus => s.engineView i j
  | .skStatus => s.skStatusView i
  | .skBindStatus => s.bindView
  | .laneStatus => s.laneStatusView i
  | .laneGuard => BitVec.ofNat 64 ((s.lane i).guardCeil % 65536 * 65536 + (s.lane i).guard % 65536)
  | .portStatus => s.portStatusView i
  | .portCtl => BitVec.ofNat 64 (b2n (s.prt i).adminUp)
  | .portSkew => s.portSkewView i
  | r => s.rg r ix

/-- What a register of blocks 11 to 14, a fault register or a BAR0 register shows. -/
def State.viewC (s : State) (r : RegId) (i j : Nat) (ix : List Nat) : W :=
  match r with
  | .classStatus => s.classStatusView i
  | .recircStatus => BitVec.ofNat 64 (s.tl i).recircBytes
  | .stageW => (s.tl i).stage.getD j 0
  | .l2Cfg => (s.rg .l2Cfg ix &&& 0xFFFFFC00) ||| BitVec.ofNat 64 ((s.tl i).l2Seed % 2 ^ 32 * 2 ^ 32)
  | .l2Status => s.l2StatusView i
  | .lpmStatus => s.lpmStatusView i
  | .bufSliceStatus => s.sliceStatusView i
  | .auditStatus => s.auditView i
  | .xbarStatus => s.xbarStatusView
  | .xbarPlaneCause => BitVec.ofNat 64 (s.plane i).cause
  | .rsqStatus => s.rsqView i
  | .pullStatus => BitVec.ofNat 64 (8192 - (s.tl i).credit)
  | .tmPortCfg => (s.tmp (32 * i + j)).cfg
  | .tmPortStatus => s.tmPortView (32 * i + j)
  | .tmPortShaper => s.tmShaperView (32 * i + j)
  | .tmQueueCfg => (s.tmq (512 * i + j)).cfg
  | .tmQueueStatus => s.tmQueueView (512 * i + j)
  | .faultRec => (s.fault i j).words.getD (ix.getD 2 0) 0
  | .faultCtl => s.faultCtlView i j
  | .faultForce => s.faultForceView i j
  | .flipMaskLo => s.flipMaskView i j false
  | .flipMaskHi => s.flipMaskView i j true
  | .flipLast => s.flipLastView i j
  | .scrubStatus => s.scrubView i j
  | .repairStatus => (Config.spareUse (64 * i + j)).setWidth 64
  | .bootMboxStatus => s.mboxView
  | .fnStatus => s.fnStatusView i
  | .poolStatus => s.poolStatusView j
  | .chanCtl => BitVec.ofNat 64 (b2n (!(s.chan j).enabled))
  | .chanStatus => s.chanStatusView j
  | r => s.rg r ix

/-- What a register shows (reserved bits and effects of the read apart). -/
def State.regView (s : State) (r : RegId) (ix : List Nat) : W :=
  let a := (regDesc r).base
  let f := if a < 0x8000 then State.viewA else if a < 0x80000 then State.viewB else State.viewC
  f s r (ix.getD 0 0) (ix.getD 1 0) ix

/-- The bits of a register that a read returns; a read of any other bit returns an undefined value (R5, Table 0-4). -/
def shownBits (r : RegId) (ix : List Nat) : W :=
  match r, ix with
  | .devResetCtl, _ => 0x700
  | .avsCfg, _ => 0xFF0F
  | .portCtl, _ => 1
  | .lockerRecord, [_, 0] => 0xFFFF800000000000
  | .faultRec, [_, _, 0] => 0xFFF8FFFFFFFFFFFF
  | .faultRec, [_, _, 1] => 0xFE0000FFFFFFFFFF
  | .cmdVfVer, [1] => 0x0FFFFFFFFFFFFFFF
  | r, _ => (regDesc r).bits

/-- A value with its unshown bits undefined (R5). -/
def undefBits (shown v : W) (s : State) : W × State :=
  if shown = BitVec.allOnes 64 then (v, s)
  else
    let f := takeFree s
    ((v &&& shown) ||| (f.1 &&& ~~~shown), f.2)

end Sys2Proof.Machine
end

