-- ==== Sys2Proof/Machine/RegAccess.lean ====
section
/-! DEFINITION. Reads and writes of registers on every path (R3 to R5, R309, R458 to R460, R463, R466): which domain a register lies
in, what an access does there, and the commands and rows that access a register. -/

namespace Sys2Proof.Machine

/-! ### Where a register lies -/

/-- Store key of the register that a path's address names; none outside every region (R459). BAR0 has 128 KiB (R309). -/
def keyAt (path : Path) (a : Nat) : Option Nat :=
  match path with
  | .bar0 f => if a < 0x20000 then some (0x100000000 + 0x1000000 * (f % 64) + a) else none
  | _ => if (blockOf a).isSome then some a else none

/-! ### Reads -/

/-- Requester code of a path in a fault record (Table 17-4). -/
def pathReq : Path → Nat
  | .hook _ => 4 | .tap => 8 | .cmd _ => 7 | _ => 5

/-- Does a register belong to a resource of BAR0 that function f does not own (chapter 14, Registers)? -/
def State.foreign (s : State) (r : RegId) (ix : List Nat) : Bool :=
  match r, ix with
  | .poolStatus, [f, p] => s.poolFn p != f
  | .chanCtl, [f, c] | .chanStatus, [f, c] => s.chanFn c != f
  | _, _ => false

/-- Read a whole register: what it returns, and the state with the effects of the read (R4, R29, R30, R73). -/
def readWhole (path : Path) (r : RegId) (ix : List Nat) (s : State) : W × State :=
  match r, ix with
  | .txtsWord0, [p] => txtsRead p 0 path s
  | .txtsWord1, [p] => txtsRead p 1 path s
  | .tlPos, [t] => let x := tlPosRead t path s; undefBits (shownBits .tlPos []) x.1 x.2
  | .tlFrameCnt, [t] => tlFrameCntRead t path s
  | .lockerRecord, [n, w] =>
    if path = .tap then (0, s)
    else
      let m := memRead 3 0 0 (264 + 4 * n + w) (pathReq path) s
      if m.ok then undefBits (shownBits r ix) (m.data (s.regView r ix)) m.st else takeFree m.st
  | _, _ =>
    if s.foreign r ix then (0, s)
    else match (regDesc r).acc with
      | .wo => takeFree s
      | .rc => undefBits (shownBits r ix) (s.rg r ix) (s.setRg r ix 0)
      | _ => undefBits (shownBits r ix) (s.regView r ix) s

/-- The half of a word that a 4-byte access moves. -/
def takeHalf (h : Half) (v : W) : W :=
  match h with
  | .whole => v
  | .low => v &&& 0xFFFFFFFF
  | .high => v >>> 32

/-- The word that a write of one half leaves. -/
def mergeHalf (h : Half) (old v : W) : W :=
  match h with
  | .whole => v
  | .low => (old &&& 0xFFFFFFFF00000000) ||| (v &&& 0xFFFFFFFF)
  | .high => (old &&& 0xFFFFFFFF) ||| (v <<< 32)

/-- Does a 4-byte access act on an access code (R459)? -/
def Access.halves : Access → Bool
  | .ro | .rw | .rws => true
  | _ => false

/-- Read at a store key in an awake domain; an unoccupied offset reads 0 (R459). -/
def readKey (path : Path) (key : Nat) (h : Half) (s : State) : W × State :=
  match regAt key with
  | none => (0, s)
  | some (r, ix) =>
    if h ≠ .whole && !(regDesc r).acc.halves then (0, s)
    else
      let x := readWhole path r ix s
      (takeHalf h x.1, x.2)

/-! ### Writes -/

/-- Values that a register's chapter does not allow; a write of one has no effect (log 30). -/
def valueOk (r : RegId) (v : W) : Bool :=
  match r with
  | .didtLimit => 10 ≤ fld v 15 0 && fld v 15 0 ≤ 10000
  | .avsCfg => 1 ≤ fld v 3 0 && fld v 3 0 ≤ 5
  | .telFlush => 1 ≤ fld v 9 0 && fld v 9 0 ≤ 1000
  | .telClassCfg => fld v 63 62 != 3
  | .hkDrainLimit => 1 ≤ fld v 23 0 && fld v 23 0 ≤ 100000
  | .rsqTimeout => 20 ≤ fld v 15 0
  | .portDefaultNomatch => defaultOk false v
  | .portDefaultParsefail => defaultOk true v
  | _ => true

/-- Registers that only SIDEBAND and PF0 may write (R292, R315, R418, R466). -/
def restricted : RegId → Bool
  | .sourceAllow | .mgmtPortCfg | .intRoute | .devResetCtl | .fnQpRange | .fnTxCfg | .chanOwner | .poolOwner => true
  | _ => false

/-- May a path write a register? The PF0 window writes as PF0, the TAP at level FULL every register (Table 16-8). -/
def mayWrite (path : Path) (r : RegId) : Bool :=
  !restricted r || match path with
    | .bar2 | .tap | .cmd .sideband | .cmd .pf0 => true
    | _ => false

/-- Store the bits of a register that a write stores. -/
def store (r : RegId) (ix : List Nat) (v : W) (s : State) : State :=
  let m := (regDesc r).stored
  s.setRg r ix ((s.rg r ix &&& ~~~m) ||| (v &&& m))

/-- Clear the bits of an RW1C register that are written as 1; a write to an INT_STATUS that leaves the block pending signals again
(R4, R466). -/
def clearBits (key : Nat) (r : RegId) (ix : List Nat) (v : W) (s : State) : State :=
  let t := s.setRg r ix (s.rg r ix &&& ~~~v)
  match blockOf key with
  | some b => if inArrays key (intArrays b) then resend b t else t
  | none => t

/-- FN_INT_ENABLE: vector 0 signals when the summary rises (R309). -/
def fnEnableWrite (f : Nat) (v : W) (s : State) : State :=
  let on := fun (s : State) => (s.rg .fnIntStatus [f] &&& s.rg .fnIntEnable [f]) != 0
  let t := store .fnIntEnable [f] v s
  if !on s && on t then fnSignal f 0 t else t

/-- The effect of a write of a register with an effect of its own; none for a register that a write only stores. -/
def writeSpecial (path : Path) (r : RegId) (ix : List Nat) (v : W) : Option (State → State) :=
  match r, ix with
  | .devResetCtl, _ => some (devResetWrite v)
  | .avsCfg, _ => some (avsCfgWrite v)
  | .synceOutCtl, _ => some (synceWrite v)
  | .servoSample, _ => some (servoWrite v)
  | .mcSnapTrigger, _ => some (snapWrite v)
  | .portTsCfg, [p] => some fun s =>
    let o := s.txtsOwner p
    store .portTsCfg [p] (if 5 ≤ fld v 42 40 then ins v 42 40 o else v) s
  | .portCtl, [p] => some fun s => when (bitAt v 1 && (s.prt p).formed) (portRestart p) (setAdmin p (bitAt v 0) s)
  | .mgmtPortCfg, _ => some fun s =>
    let t := store .mgmtPortCfg [] v s
    if s.rgf .mgmtPortCfg [] 8 0 = t.rgf .mgmtPortCfg [] 8 0 then t else t.setVersion .inband 1
  | .intRoute, [b] => some fun s => if fld v 63 62 < 2 && 279 < fld v 8 0 then s else store .intRoute [b] v s
  | .telClassCfg, [c] => some fun s =>
    let t := store .telClassCfg [c] v s
    if t.rg .telClassCfg [c] = s.rg .telClassCfg [c] then t
    else eachTile (List.range 16) (fun n s => s.modTl n fun tl => { tl with samples := tl.samples.set c 0 }) t
  | .l2Cfg, [t] => some fun s =>
    let u := store .l2Cfg [t] v s
    if u.rgf .l2Cfg [t] 31 16 = s.rgf .l2Cfg [t] 31 16 then u else u.modTl t fun tl => { tl with sweepTick := 16 * s.tick }
  | .tmLfsrSeed, [t] => some fun s =>
    let k := if fld v 15 0 = 0 then 0xACE1 else fld v 15 0
    (store .tmLfsrSeed [t] (BitVec.ofNat 64 k) s).modTl t fun tl => { tl with lfsr := k }
  | .fnQpRange, [f] => some (fnQpRangeWrite f v)
  | .fnTxCfg, _ | .chanOwner, _ | .poolOwner, _ => some (resAssignWrite (regAddr r ix) v)
  | .adminCfg, [f] => some (adminEnable f v)
  | .adminSqDb, [f] => some (adminSqDb f v)
  | .adminCqDb, [f] => some (adminCqDb f v)
  | .qpSqDb, [f, i] => some (qpSqDb f i v)
  | .qpCqDb, [f, i] => some (qpCqDb f i v)
  | .poolDb, [f, p] => some (poolDb f p v)
  | .chanDb, [f, c] => some (chanDb f c v)
  | .chanCqDb, [f, c] => some (chanCqDb f c v)
  | .chanCtl, [f, c] => some fun s => if s.chanFn c ≠ f then s else if bitAt v 0 then stopChan c s else startChan c s
  | .fnIntEnable, [f] => some (fnEnableWrite f v)
  | .bootMboxCtl, _ => some id
  | .faultCtl, [b, n] => some (faultCtlWrite b n v)
  | .faultForce, [b, n] => some (faultForceWrite path b n v)
  | .flipMaskLo, [b, n] => some (flipMaskWrite path b n false v)
  | .flipMaskHi, [b, n] => some (flipMaskWrite path b n true v)
  | .flipLast, [b, n] => some fun s => when (bitAt v 63) (fun s => s.setFault b n { s.fault b n with flipDone := false }) s
  | .scrubStatus, [b, n] => some fun s => when (bitAt v 63) (fun s => s.setFault b n { s.fault b n with scrubLate := false }) s
  | _, _ => none

/-- Write a whole register (R4). -/
def writeWhole (path : Path) (key : Nat) (r : RegId) (ix : List Nat) (v : W) (s : State) : State :=
  if !valueOk r v || !mayWrite path r then s
  else match writeSpecial path r ix v with
    | some f => f s
    | none => match (regDesc r).acc with
      | .rw | .rws => match blockOf key with
        | some b => intEdge b (store r ix v) s
        | none => store r ix v s
      | .rw1c => clearBits key r ix v s
      | _ => s

/-- Microcode writes a doorbell of a channel that its cluster owns through BLOCK space (R330). DESIGN CHOICE (log 89): CHAN_DB and
CHAN_CQ_DB answer there at the host block's base plus their offset in BAR0. -/
def clusterBell (q key : Nat) (v : W) (s : State) : State :=
  let c := (key - 0x4800) / 0x20
  if key < 0x4800 || 0x4C00 ≤ key || s.chanCluster c != some (q % 4) then s
  else match (key - 0x4800) % 0x20 with
    | 0x08 => chanDb (s.chanFn c) c v s
    | 0x10 => chanCqDb (s.chanFn c) c v s
    | _ => s

/-- Write at a store key in an awake domain; an unoccupied offset ignores it (R459). -/
def writeKey (path : Path) (key : Nat) (h : Half) (v : W) (s : State) : State :=
  match regAt key with
  | none => match path with
    | .hook q => clusterBell q key v s
    | _ => s
  | some (r, ix) =>
    if h = .whole then writeWhole path key r ix v s
    else if (regDesc r).acc.halves then writeWhole path key r ix (mergeHalf h (s.regView r ix) v) s
    else s

/-! ### Sleeping domains (R460) -/

/-- What an access meets at a domain: it is served (in PS1 the domain leaves it), it comes again when the domain has left PS2, or it
reads 0 and writes nothing. -/
inductive Reach where
  | now | later | dead
deriving DecidableEq, Repr

/-- How a domain's state takes an access. -/
def State.reach (s : State) (d : Nat) : Reach :=
  match (s.domain d).state with
  | 0 | 1 => .now
  | 2 => .later
  | _ => .dead

/-- The debug level lets the TAP access registers: from OBSERVE to read, at FULL to write (Table 16-8). -/
def State.tapMay (s : State) (path : Path) (write : Bool) : Bool := path != .tap || (if write then s.sec.level == 2 else 1 ≤ s.sec.level)

/-- What the TAP reports of how a domain took its access (Table 16-11). -/
def tapNote (path : Path) (r : Reach) (s : State) : State :=
  when (path == .tap) (fun s => s.modSec fun k => { k with tap := { busy := r == .later, domainOff := r == .dead } }) s

/-- A read of a register on a path other than a command: its data, none where the access completes only later or is turned away. -/
def pathRead (path : Path) (a : Nat) (h : Half) (s : State) : Option W × State :=
  if !s.tapMay path false then (none, s)
  else match keyAt path a with
    | none => (none, s)
    | some key =>
      let d := keyDomain key
      let u := tapNote path (s.reach d) s
      match s.reach d with
      | .now => let r := readKey path key h (wakeDomain d u); (some r.1, r.2)
      | .later => (none, wakeDomain d u)
      | .dead => (some 0, u)

/-- A write of a register on a path other than a command. -/
def pathWrite (path : Path) (a : Nat) (h : Half) (v : W) (s : State) : State :=
  if path = .poisoned then pcieError 5 s
  else if !s.tapMay path true then s
  else match keyAt path a with
    | none => s
    | some key =>
      let d := keyDomain key
      let u := tapNote path (s.reach d) s
      match s.reach d with
      | .now => writeKey path key h v (wakeDomain d u)
      | .later => wakeDomain d u
      | .dead => u

/-! ### Commands (R288, R292, R458 to R460) -/

/-- The sleeping domain that REG_READ waits for: one in PS2. -/
def regReadDomain (c : Cmd) (s : State) : Option Nat :=
  let d := keyDomain (c.n 0)
  if (blockOf (c.n 0)).isSome && s.reach d == .later then some d else none

/-- REG_READ. -/
def regReadBody : CmdBody := fun c s =>
  checked [(0, (blockOf (c.n 0)).isSome)] fun _ =>
    let r := pathRead (.cmd c.src) (c.n 0) .whole s
    .done [r.1.getD 0] r.2

/-- The domain of the register that REG_WRITE names. -/
def regWriteDomain (c : Cmd) (_ : State) : Option Nat := if (blockOf (c.n 0)).isSome then some (keyDomain (c.n 0)) else none

/-- REG_WRITE. -/
def regWriteBody : CmdBody := fun c s =>
  checked [(0, (blockOf (c.n 0)).isSome)] fun _ =>
    match regAt (c.n 0) with
    | none => .done [] s
    | some (r, ix) =>
      if !mayWrite (.cmd c.src) r then .refuse .notPermitted 0
      else if !valueOk r (c.p 1) then bad 1
      else
        let write := fun (s : State) => writeWhole (.cmd c.src) (c.n 0) r ix (c.p 1) (wakeDomain (keyDomain (c.n 0)) s)
        let t := write s
        if r = .devResetCtl ∧ t.boot.stage < s.boot.stage then .reset write else .done [] t

/-! ### Register rows -/

/-- What a register read row returns leaves the part as data. -/
def readRow (path : Path) (a : Nat) (h : Half) (s : State) : State :=
  match pathRead path a h s with
  | (some w, t) => readOut w t
  | (none, t) => t

/-- RC_REGISTER_READ, for a register of that access code. -/
def rcRead (path : Path) (a : Nat) (s : State) : State :=
  match (keyAt path a).bind regAt with
  | some (r, _) => when ((regDesc r).acc == .rc) (readRow path a .whole) s
  | none => s

def execRcRegisterRead (path : Path) (addr : Nat) (s : State) : Host.Outcome State Fault Refusal := keep s (rcRead path addr s)

/-- RW1C_REGISTER_WRITE, for a register of that access code. -/
def rw1cWrite (path : Path) (a : Nat) (v : W) (s : State) : State :=
  match (keyAt path a).bind regAt with
  | some (r, _) => when ((regDesc r).acc == .rw1c) (pathWrite path a .whole v) s
  | none => s

def execRw1cRegisterWrite (path : Path) (addr : Nat) (value : W) (s : State) : Host.Outcome State Fault Refusal :=
  keep s (rw1cWrite path addr value s)

/-- REGISTER_WRITE: a write of any register by its address. -/
def execRegisterWrite (path : Path) (addr : Nat) (half : Half) (value : W) (s : State) : Host.Outcome State Fault Refusal :=
  keep s (pathWrite path addr half value s)

/-- MGMT_PORT_CFG_WRITE: MGMT_PORT_CFG, or SOURCE_ALLOW (R292). -/
def execMgmtPortCfgWrite (path : Path) (allow : Bool) (value : W) (s : State) : Host.Outcome State Fault Refusal :=
  keep s (pathWrite path (regAddr (if allow then .sourceAllow else .mgmtPortCfg) []) .whole value s)

end Sys2Proof.Machine
end

