-- ==== Sys2Proof/Machine/Actions.lean ====
section
/-! DEFINITION. What the Rigging's events do (R63 to R72, Table 3-8), timeline changes, bank switches and steps of Mast time. -/

namespace Sys2Proof.Machine

/-! ### Actions (Table 3-8, Table 3-9) -/

/-- Open or close the gates of a port's queues (R186, R187). -/
def setGates (p mask : Nat) (on : Bool) (s : State) : State :=
  (bitsOf 16 mask).foldl (fun s q => s.setTmq (16 * p + q) { s.tmq (16 * p + q) with gate := on }) s

/-- A stateful action on one element of its target set: a port, a lane or a domain. A gate bit that is not the lowest lane of a formed
port is ignored (R59). -/
def applyElement (a tl n arg sched : Nat) (s : State) : State :=
  match a with
  | 0x10 => when (s.prt n).formed (setGates n (arg % 65536) true) s
  | 0x11 => when (s.prt n).formed (setGates n (arg % 65536) false) s
  | 0x30 | 0x31 | 0x32 | 0x33 => laneAction a n sched s
  | 0x40 => setSlot n tl (arg % 8) s
  | 0x41 => setSlot n tl (s.preferred (arg % 4)) s
  | 0x50 => setFiller 1 (arg % 16) n s
  | 0x51 => setFiller 2 (arg % 16) n s
  | _ => s

/-- The power domain in which an element of an action's target set lies. -/
def elementDomain (a n : Nat) : Nat :=
  if a = 0x10 ∨ a = 0x11 then domTile (n / 32) else if 0x30 ≤ a ∧ a ≤ 0x33 then domSerdes n else n

/-- How many elements a target set of an action has. -/
def elementCount (a : Nat) : Nat := if onDomains a then 38 else 512

/-- Lane actions leave a SerDes group alone that DOMAIN_FORCE holds in PS1 or deeper (R346). -/
def heldAsleep (a d : Nat) (s : State) : Bool := decide (0x30 ≤ a) && decide (a ≤ 0x33) && decide (2 ≤ (s.domain d).force)

/-- A stateful action reaches an element; a domain deeper than PS1, or one held asleep, records it and takes it on its exit (R66, R346). -/
def deliverElement (a tl arg sched n : Nat) (s : State) : State :=
  let d := elementDomain a n
  if s.awake d && !heldAsleep a d s then applyElement a tl n arg sched s
  else
    let r : Recorded := { action := a, timeline := tl, element := n, arg := arg }
    let x := s.domain d
    s.setDomain d { x with recorded := x.recorded.filter (· != r) ++ [r] }

/-- A domain takes the state recorded for it, on its exit (R66). -/
def takeRecorded (d : Nat) (s : State) : State :=
  let l := (s.domain d).recorded
  let s := s.setDomain d { s.domain d with recorded := [] }
  if l.isEmpty then s
  else retarget (l.foldl (fun s r => applyElement r.action r.timeline r.element r.arg s.tick s) s)

/-- An impulse action to a sleeping domain is dropped and counted (R66). -/
def dropImpulse (s : State) : State := raiseInt 5 .rigIntStatus [] 4 (s.bump .rigCounters [] 31 0)

/-- Clusters that hold a Skein which a SKEIN_CLOSE event would close. -/
def State.closesIn (s : State) (g t : Nat) (n : Int) : List Nat :=
  (List.range 4).filter fun q => s.sk.descs.any fun x => x.2.cluster == q && s.eventCloses x.2 g t n

/-- SKEIN_CLOSE: the owning clusters begin the close of the occurrence whose symbol is the anchor symbol. -/
def actClose (e : W × W) (anchor : Int) (sched : Nat) (s : State) : State :=
  let g := entArg e % 4096
  let n := anchor - entAnchor e
  let asleep := (s.closesIn g (entTimeline e) n).filter fun q => !s.awake (domCluster q)
  asleep.foldl (fun s _ => dropImpulse s) (closeGroupEvent g (entTimeline e) n sched s)

/-- HOOK_POST: the event enters the dispatch queue of each named cluster. -/
def actPost (arg : Nat) (s : State) : State :=
  (bitsOf 4 (arg / 2 ^ 44)).foldl (fun s q =>
    if s.awake (domCluster q) then hookPostTo q (arg % 256) (arg / 256 % 2 ^ 32) 1 s else dropImpulse s) s

/-- An entry's action on its target set; `ws` are the words of the set. -/
def applyAction (e : W × W) (ws : List W) (anchor : Int) (sched : Nat) (s : State) : State :=
  let a := entAction e
  match a with
  | 0x00 => s
  | 0x20 => actClose e anchor sched s
  | 0x60 => actPost (entArg e) s
  | _ =>
    let named := (List.range (elementCount a)).filter fun n => bitAt (ws.getD (n / 64) 0) (n % 64)
    let s := named.foldl (fun s n => deliverElement a (entTimeline e) (entArg e) sched n s) s
    when (a == 0x40 || a == 0x41) retarget s

/-- Is a timed command a bank switch of the Rigging, its own or a Tack's? -/
def TimedCmd.switches (t : TimedCmd) : Bool := t.opcode == 0x202 || t.opcode == 0xD00

/-- An event stays back until a pending bank switch of its tick or of an earlier one has been made (R63), and every other timed command
of an earlier tick. -/
def State.notYet (s : State) (v : RigEvent) : Bool :=
  s.cmd.timed.any fun t => if t.switches then decide (s.switchTick t ≤ v.sched) else decide (s.switchTick t < v.sched)

/-- The actions of Table 3-7 that have an effect. -/
def realActions : List Nat := [0x10, 0x11, 0x20, 0x30, 0x31, 0x32, 0x33, 0x40, 0x41, 0x50, 0x51, 0x60]

/-- Has an evaluated event of a tick up to `x` still to fire? -/
def State.unfired (s : State) (x : Int) : Bool :=
  s.rig.evaluated.any fun v => decide ((v.sched : Int) ≤ x) && !s.notYet v
    && realActions.contains (entAction ((s.bank v.bank).entry v.entry))

/-- A due timed command has its turn (R295, R433): every one of an earlier tick has applied, and of its own tick the bank switch, the
events and the commands accepted before it. -/
def State.turn (s : State) (t : TimedCmd) : Bool :=
  let x := s.switchTick t
  (s.cmd.timed.all fun u => u.order == t.order || decide (x < s.switchTick u)
    || (s.switchTick u == x && (t.switches || (!u.switches && decide (t.order < u.order)))))
  && (t.switches || !s.unfired x)

/-- HOOK_SWITCH_TICK: the due bank switch that names the cluster applies. -/
def hookSwitchTick (q : Nat) (s : State) : State :=
  match s.cmd.timed.find? fun t => t.opcode == 0x801 && (hookMask t.cmd).contains q && s.timedDue t && s.turn t with
  | some t => applyTimed hookBankSwitchBody t s
  | none => s

def execHookSwitchTick (cluster : Nat) (s : State) : Host.Outcome State Fault Refusal := keep s (hookSwitchTick (cluster % 4) s)

/-- An evaluated event of action `a` comes due: it leaves the event bus and applies (R66). A bank that a pending switch
has still to make active fires nothing yet (R63). An uncorrectable target set fires nothing (Table 17-2). -/
def fireEvent (a bank i : Nat) (s : State) : State :=
  let e := (s.bank bank).entry i
  let mine := fun (v : RigEvent) => v.bank == bank && v.entry == i && decide (v.sched ≤ s.tick)
  match s.rig.evaluated.find? mine with
  | none => s
  | some v =>
    if entAction e ≠ a ∨ s.notYet v then s
    else
      let s : State := { s with rig := { s.rig with evaluated := s.rig.evaluated.erase v } }
      let r := memReadN 5 0 (2 + bank) (8 * entSet e) 9 8 s
      if r.1 then applyAction e ((s.bank bank).set (entSet e)) v.anchor v.sched r.2 else r.2

def execGateOpen (bank entry : Nat) (s : State) : Host.Outcome State Fault Refusal := keep s (fireEvent 0x10 (bank % 2) entry s)
def execGateClose (bank entry : Nat) (s : State) : Host.Outcome State Fault Refusal := keep s (fireEvent 0x11 (bank % 2) entry s)
def execSkeinClose (bank entry : Nat) (s : State) : Host.Outcome State Fault Refusal := keep s (fireEvent 0x20 (bank % 2) entry s)
def execLaneSleepRx (bank entry : Nat) (s : State) : Host.Outcome State Fault Refusal := keep s (fireEvent 0x30 (bank % 2) entry s)
def execLaneSleepTx (bank entry : Nat) (s : State) : Host.Outcome State Fault Refusal := keep s (fireEvent 0x31 (bank % 2) entry s)
def execLaneWakeRx (bank entry : Nat) (s : State) : Host.Outcome State Fault Refusal := keep s (fireEvent 0x32 (bank % 2) entry s)
def execLaneWakeTx (bank entry : Nat) (s : State) : Host.Outcome State Fault Refusal := keep s (fireEvent 0x33 (bank % 2) entry s)
def execOpSet (bank entry : Nat) (s : State) : Host.Outcome State Fault Refusal := keep s (fireEvent 0x40 (bank % 2) entry s)
def execOpPhase (bank entry : Nat) (s : State) : Host.Outcome State Fault Refusal := keep s (fireEvent 0x41 (bank % 2) entry s)
def execPrewarm (bank entry : Nat) (s : State) : Host.Outcome State Fault Refusal := keep s (fireEvent 0x50 (bank % 2) entry s)
def execRampDown (bank entry : Nat) (s : State) : Host.Outcome State Fault Refusal := keep s (fireEvent 0x51 (bank % 2) entry s)
def execHookPost (bank entry : Nat) (s : State) : Host.Outcome State Fault Refusal := keep s (fireEvent 0x60 (bank % 2) entry s)

/-! ### The resolved state (R64, R69) -/

/-- An entry that R69 replays: stateful, no sleep, of a timeline that is not asleep. -/
def State.replays (s : State) (e : W × W) : Bool :=
  let a := entAction e
  a != 0 && !isImpulse a && a != 0x30 && a != 0x31 && !s.cellAsleep (entTimeline e)

/-- Put an occurrence (entry, anchor, scheduled tick) into a list ordered by scheduled tick. -/
def insertOcc (x : Nat × Int × Int) : List (Nat × Int × Int) → List (Nat × Int × Int)
  | [] => [x]
  | y :: r => if x.2.2 < y.2.2 then x :: y :: r else y :: insertOcc x r

/-- Replay the resolved state at tick T of the active bank's entries that `p` names: the latest occurrence of each before T, in the
order of their scheduled ticks. -/
def replayState (t : Int) (p : W × W → Bool) (s : State) : State :=
  let k := s.bank s.rig.active
  let occ := k.valid.filterMap fun x =>
    if p x.2 && s.replays x.2 then (s.latestOcc x.2 (t - 1)).map fun o => (x.1, o.1, o.2) else none
  (occ.foldl (fun l x => insertOcc x l) []).foldl (fun s x =>
    let e := k.entry x.1
    applyAction e (k.set (entSet e)) x.2.1 x.2.2.toNat s) s

/-- The occurrences of the active bank's entries that `p` names with a scheduled tick before T have had their tick: none of them
is evaluated any more, nor one that was evaluated already (R58). -/
def markPast (t : Int) (p : W × W → Bool) (s : State) : State :=
  let b := s.rig.active
  let past := (s.bank b).valid.foldl (fun (m : Tbl (Option Int)) x =>
    if p x.2 then match s.latestOcc x.2 (t - 1) with
      | some o =>
        let seen := match tget none m (entKey b x.1) with | some a => max a o.1 | none => o.1
        tset none m (entKey b x.1) (some seen)
      | none => m
    else m) s.rig.lastAnchor
  { s with rig := { s.rig with lastAnchor := past } }

/-! ### Timelines (R56) -/

/-- A new grid numbers a timeline's symbols anew: what was noted of the entries that name it is void. -/
def forgetAnchors (t : Nat) (s : State) : State :=
  let mine := fun (key : Nat) => entTimeline ((s.bank (key / 16384)).entry (key % 16384)) == t
  { s with rig := { s.rig with lastAnchor := s.rig.lastAnchor.filter fun x => !mine x.1 } }

/-- A description takes effect. With MODE OFF the timeline's operating-point slots clear (R351). One that a Tack applies takes the
place of a TIMELINE_SET that still waits: DESIGN CHOICE (log 67). -/
def applyTimeline (t : Nat) (d : Timeline) (s : State) : State :=
  let old := s.timeline t
  let s := when (!sameGrid old d) (forgetAnchors t) s
  let s : State := { s with rig := { s.rig with
    timelines := tset {} s.rig.timelines t d, tlPending := tset none s.rig.tlPending t none, symbol := tset none s.rig.symbol t none } }
  let s := s.setEpoch (ekTimeline t) (fld d.w0 23 8)
  skeinTimeline t old d (!sameGrid old d) (when (d.mode == 0) (clearSlots t) s)

/-- TIMELINE_APPLY: the frame boundary of an accepted TIMELINE_SET has come. -/
def timelineApply (t : Nat) (s : State) : State :=
  match tget none s.rig.tlPending t with
  | some p => if s.tlDue t p then applyTimeline t p.desc s else s
  | none => s

def execTimelineApply (timeline : Nat) (s : State) : Host.Outcome State Fault Refusal := keep s (timelineApply (timeline % 8) s)

/-! ### Bank switches (R63 to R65) -/

/-- The Rigging switches to its shadow bank at a switch tick: the old bank's later events do not fire, the new bank's earlier ones
neither; with RESOLVE the new bank's resolved state is replayed. -/
def switchRigging (epoch : Nat) (resolve : Bool) (t : Int) (s : State) : State :=
  let old := s.rig.active
  let new := s.shadow
  let s := s.setBank new { s.bank new with epoch := epoch }
  let kept := s.rig.evaluated.filter fun v => v.bank != old || decide ((v.sched : Int) < t)
  let s : State := { s with rig := { s.rig with active := new, evaluated := kept } }
  let s := markPast t (fun _ => true) (s.setEpoch (ekBank new) epoch)
  let s := postEvent 10 [mk 63 48 5 ||| mk 15 0 epoch] (raiseInt 5 .rigIntStatus [] 1 s)
  when resolve (replayState t fun _ => true) s

/-- BANK_SWITCH: a pending RIGGING_COMMIT reaches its switch tick. Its checks run again (R295). With start-up's own commit
stage 10 begins (R426). -/
def bankSwitch (s : State) : State :=
  match s.cmd.timed.find? fun t => t.opcode == 0x202 && s.timedDue t && s.turn t with
  | none => s
  | some t =>
    let at_ := s.switchTick t
    let s : State := { s with cmd := { s.cmd with timed := s.cmd.timed.erase t } }
    match firstFailing s (s.bank s.shadow) with
    | some i => switchLost t (timedReply t .riggingInvalid i [] s)
    | none =>
      let s := switchRigging (fld (t.cmd.p 0) 63 48) (bitAt (t.cmd.p 0) 47) at_ s
      let s := timedReply t .ok 0 [] s
      if t.own then { s with boot := { s.boot with stage := 10 } } else s

def execBankSwitch (s : State) : Host.Outcome State Fault Refusal := keep s (bankSwitch s)

/-! ### Steps (R45, R46, R68 to R72) -/

/-- The present tick is one at which the pending step may apply (R45): the boundary tick of a frame of timeline 0, or of a multiple
of 10 ms where timeline 0 is not configured, with NS from 10,000,000 to 490,000,000. -/
def State.stepNow (s : State) : Bool :=
  let d := s.timeline 0
  let b := if d.configured then d.frame16 (d.frameAt s.now16) else s.now16 / (10000000 * ns16) * (10000000 * ns16)
  let ns := b % sec16
  s.mast.servo.state == .stepPending && s.boundaryTick b == (s.tick : Int)
    && decide (10000000 * ns16 ≤ ns) && decide (ns ≤ 490000000 * ns16)

/-- Impulse occurrences of the active bank that step 5 of R68 leaves unfired: those of new time in [S, S + 288), and of the
discarded events those before S. -/
def State.skippedAt (s : State) (t : Int) (discarded : List RigEvent) : Nat :=
  let k := s.bank s.rig.active
  let window := k.valid.filter fun x =>
    isImpulse (entAction x.2) && !s.cellAsleep (entTimeline x.2) && match s.latestOcc x.2 (t + 287) with
      | some o => decide (t ≤ o.2)
      | none => false
  let before := discarded.filter fun v =>
    let e := (s.bank v.bank).entry v.entry
    let d := s.timeline (entTimeline e)
    isImpulse (entAction e) && decide (s.boundaryTick (d.bound16 v.anchor) + entOffset e < t)
  window.length + before.length

/-- R38: the 10 MHz output completes its half-cycle and rises again on a multiple of 100 ns of new time at least 50 ns later. -/
def tenStep (old16 new16 : Int) (s : State) : State :=
  let half := 50 * ns16
  let left := (-old16) % half
  let rise := ceilDivI (new16 + left + half) (100 * ns16) * (100 * ns16)
  let high := decide (old16 % (100 * ns16) < half)
  let fall := s.tick + (ceilDivI (left * 4294967296) s.inc48).toNat
  { s with
    mast := { s.mast with tenHigh := if high then some fall else none, tenResume := some rise }
    out := { s.out with edges := s.out.edges ++
    [{ pin := 2, level := true, tick := (s.boundaryTick rise).toNat, note := 0 }] } }

/-- STEP_APPLY: old time + Δ loads into every counter, and everything that hangs on Mast time follows (R45, R68, R70 to R72). -/
def stepApply (s : State) : State :=
  if !s.stepNow then s
  else
    let t := s.tick
    let old16 := s.now16
    let delta := s.mast.servo.delta
    let new := s.time.master.add48 (delta * 4294967296)
    let ep := (s.mast.tsEpoch + 1) % 4
    let discarded := s.rig.evaluated.filter fun v => decide (t ≤ v.sched)
    let s := loadTime new s
    let s : State := { s with
      mast := { s.mast with tsEpoch := ep, ppsStepFlag := true }
      rig := { s.rig with
        evaluated := s.rig.evaluated.filter fun v => decide (v.sched < t)
        lastAnchor := [], symbol := [], stepTick := some t, notBefore := t + 288
        discTime := new, discEpoch := ep, discDelta := delta
        tlPending := tmapv none (fun _ p => p.map fun x => { x with notBefore := max (x.accepted + msTicks) (t + 288) }) s.rig.tlPending } }
    let s := tenStep old16 s.now16 s
    let skipped := s.skippedAt t discarded
    let s := when (skipped != 0) (raiseInt 5 .rigIntStatus [] 3) (s.bump .rigCounters [] 63 32 skipped)
    let s := raiseInt 7 .mcIntStatus [] 4 (raiseInt 5 .rigIntStatus [] 0 s)
    let s := postEvent 0 [s.rig.discTime.hi, s.regView .discTime1 [], s.regView .discDelta []] s
    let s := (List.range 4).foldl (fun s q => postHook q { w0 := evWord0 4 4 0 ep, hard := true } s) s
    let s := endTimed .discontinuityCancelled ep (fun _ => true) s
    let s := skeinStep t s.now16 (stepWaits ep s)
    let s := (List.range 8).foldl (fun s k => sleepStep k t ep s) s
    enterServo .acquire s

def execStepApply (s : State) : Host.Outcome State Fault Refusal := finish s (stepApply s)

/-- RESOLVE_REPLAY: the resolved state at S + 288; RESOLVING clears (R68, R69). -/
def resolveReplay (s : State) : State :=
  match s.rig.stepTick with
  | none => s
  | some t =>
    if s.tick < t + 288 then s
    else replayState (t + 288 : Nat) (fun _ => true) { s with rig := { s.rig with stepTick := none } }

def execResolveReplay (s : State) : Host.Outcome State Fault Refusal := keep s (resolveReplay s)

/-! ### The end of a cell sleep (R366, R368) -/

/-- CELL_WAKE_FRAME: the wake frame of a sleeping timeline begins. MODE becomes ACTIVE and the timeline's resolved state is
replayed; lanes that still sleep are woken now. -/
def cellWakeFrame (t : Nat) (s : State) : State :=
  let c := s.sleepOf t
  match c.wakeAt with
  | none => s
  | some f =>
    let tick := s.frameTick t f
    if !(c.state == 3 || c.state == 4) || decide ((s.tick : Int) < tick) then s
    else
      let lanes := if c.state = 3 then s.sleepLanes c else []
      let s := lanes.foldl (fun s n => laneAction 0x33 n s.tick (laneAction 0x32 n s.tick s)) s
      let s := setMode t 1 (s.setSleep t { c with state := 0, wakeFixed := false, wakeAt := none })
      let mine := fun (e : W × W) => entTimeline e == t
      sleepChange (replayState tick mine (markPast tick mine s))

def execCellWakeFrame (timeline : Nat) (s : State) : Host.Outcome State Fault Refusal := keep s (cellWakeFrame (timeline % 8) s)

end Sys2Proof.Machine
end

