-- ==== Sys2Proof/Machine/Cpri.lean ====
section
/-! DEFINITION. CPRI ports (R94 to R96): captures on receive and on transmit. -/

namespace Sys2Proof.Machine

/-- IQ bytes of a basic frame of a CPRI option (Table 4-9). -/
def cpriIq : Nat → Nat
  | 1 => 15 | 2 => 30 | 3 => 60 | 4 => 75 | 5 => 120 | 6 => 150 | 7 => 240 | 8 => 300 | 9 => 360 | 10 => 720 | _ => 0

/-- Bytes of a word of a basic frame: of the control word. -/
def cpriWord (o : Nat) : Nat := cpriIq o / 15

/-- The CPRI option of a port's entry (Table 18-5): 0 for a port of another kind. -/
def Port.option (x : Port) : Nat := if fld x.entry 54 51 = 13 then fld x.entry 48 45 else 0

/-- Basic frames of a group code (Table 4-10). -/
def cpriGroup (g : Nat) : Nat := if g = 0 then 4 else if g = 1 then 8 else 16

/-- A capture of a group code fits the 8,192 bytes of R95. -/
def groupOk (o g : Nat) : Bool := cpriGroup g * cpriIq o ≤ 8192

/-- The group code that cuts a port's received IQ areas: its configuration, refused where a capture would exceed 8,192 bytes (R95). No
register or command sets it (log 75). -/
def Port.rxGroup (x : Port) : Nat := if groupOk x.option x.cpriRxGroup then x.cpriRxGroup else 0

/-- Word 0 of a capture (Table 4-10). -/
def cpriHeader (bfn hfn bf g option alarms port len : Nat) (ctrl : Bool) : W :=
  mk 63 52 bfn ||| mk 51 44 hfn ||| mk 43 36 bf ||| mk 35 34 g ||| mk 33 30 option ||| mk 29 29 (b2n ctrl) ||| mk 28 25 alarms
    ||| mk 22 14 port ||| mk 13 0 len

/-- CPRI_CAPTURE (R95). The first four bytes give the position on the link and the alarms as the receiver reads them: BFN in
[31:20], HFN in [19:12], basic frame in [11:4], alarms of the layer-1 in-band protocol in [3:0]; the captured bytes follow. Receive lanes
that are not AWAKE lose it (R97). -/
def cpriCapture (p : Nat) (ctrl : Bool) (data : List Byte) (s : State) : State :=
  let o := (s.prt p).option
  let pos := bytesNat data 0 4
  let b := data.drop 4
  let bf := pos / 16 % 256
  let g := if ctrl then 0 else (s.prt p).rxGroup
  let n := if ctrl then 256 else cpriGroup g
  let fits := if ctrl then b.length == 256 * cpriWord o && bf == 0 else b.length == n * cpriIq o && bf % n == 0
  if o = 0 || !s.linkUp p || !s.rxAwake p || !fits || 150 ≤ pos / 4096 % 256 || !s.awake (domTile (tileOf p)) then s
  else
    let s := s.modPort p fun x => { x with cpriAlarms := pos % 16 }
    let w := cpriHeader (pos / 2 ^ 20) (pos / 4096 % 256) bf g o (pos % 16) p b.length ctrl
    let k : Pkt := { bytes := wordBytes w ++ b, inPort := p, tile := tileOf p, rx16 := s.now16, rxTick := s.tick, tsEpoch := s.mast.tsEpoch
                     hold := s.holdoverMark, uncal := s.uncal p, capture := true }
    toFeed (tileOf p) k (when (pos % 16 != 0) (raiseInt 10 .portIntStatus [p] 5) s)

def execCpriCapture (port : Nat) (control : Bool) (data : List Byte) (s : State) : Host.Outcome State Fault Refusal :=
  keep s (cpriCapture (port % 512) control data s)

/-- Is a frame that the egress pipeline hands to a CPRI port a transmit capture: does it begin with a header word of Table 4-10 of this
port? Other frames are fast C&M frames. -/
def isTxCapture (p o : Nat) (b : List Byte) : Bool :=
  let w : W := BitVec.ofNat 64 (bytesNat b 0 8)
  o != 0 && fld w 33 30 == o && fld w 22 14 == p && 8 + fld w 13 0 ≤ b.length

/-- Number of the first basic frame of a capture within 4,096 CPRI frames. -/
def cpriIndex (w : W) : Nat := fld w 63 52 * 38400 + fld w 51 44 * 256 + fld w 43 36

/-- Basic frames in 4,096 CPRI frames. -/
def cpriCycle : Int := 4096 * 38400

/-- The basic frame of CPRI transmit that runs now, counted from frame 0 of the port's timeline (R96). -/
def State.cpriNow (s : State) (p : Nat) : Int :=
  let x := s.prt p
  let d := s.timeline x.cpriTimeline
  let t := s.now16 - x.cpriOffset * 81920
  let f := d.frameAt t
  f * 38400 + (t - d.frame16 f) * 38400 / 655360000000

/-- A transmit capture has come too late: the basic frame that it names last is less than half a cycle ago (R96). -/
def State.cpriLate (s : State) (p key : Nat) : Bool :=
  let d := ((key : Int) - s.cpriNow p - 1) % cpriCycle
  decide (cpriCycle / 2 ≤ d)

/-- A transmit capture reaches the port block; a control capture loads the control table of its hyperframe, a late one is lost. -/
def cpriStore (p : Nat) (b : List Byte) (s : State) : State :=
  let w : W := BitVec.ofNat 64 (bytesNat b 0 8)
  let d := (b.drop 8).take (fld w 13 0)
  let x := s.prt p
  if !bitAt w 29 && s.cpriLate p (cpriIndex w) then s
  else s.setPort p (if bitAt w 29 then { x with cpriCtrl := d }
    else { x with cpriTx := x.cpriTx ++ [(cpriIndex w, d)], cpriGroup := fld w 35 34 })

/-- The instant of basic frame i of CPRI transmit counted from frame 0 of the port's timeline: the start of frame F plus
CPRI_TX_OFFSET in ticks, then 38,400 basic frames in each 10 ms. -/
def State.cpri16 (s : State) (p : Nat) (i : Int) : Int :=
  let x := s.prt p
  (s.timeline x.cpriTimeline).frame16 (i / 38400) + x.cpriOffset * 81920 + i % 38400 * 655360000000 / 38400

/-- CPRI_TX_FRAME (R96): transmission starts with a basic frame whose number N divides; at the basic-frame time of the next capture the port sends it, or zeros in the IQ areas and one
underrun counted when it is absent; the control words come from the control table. -/
def cpriTxFrame (p : Nat) (s : State) : State :=
  let x := s.prt p
  let o := x.option
  let d := s.timeline x.cpriTimeline
  if o = 0 || !s.linkUp p || !s.txAwake p || !d.configured then s
  else
    let i := x.cpriNext.getD (s.cpriNow p)
    let n := if i % (cpriGroup x.cpriGroup : Int) = 0 then cpriGroup x.cpriGroup else 4
    if i % n ≠ 0 ∨ s.now16 < s.cpri16 p i then s
    else
      let key := (i % (4096 * 38400)).toNat
      let bf := (i % 256).toNat
      let ctrl := (x.cpriCtrl.drop (bf * cpriWord o)).take (n * cpriWord o)
      let send := fun (iq : List Byte) (s : State) =>
        sendLink p (bytesBE 4 key ++ ctrl ++ List.replicate (n * cpriWord o - ctrl.length) 0 ++ iq)
          (s.modPort p fun y => { y with cpriNext := some (i + n), cpriTx := y.cpriTx.filter fun c => c.1 != key })
      match x.cpriTx.find? fun c => c.1 == key with
      | some c => send c.2 s
      | none => send (List.replicate (n * cpriIq o) 0) (s.bump .cpriCnt [p] 63 32)

def execCpriTxFrame (port : Nat) (s : State) : Host.Outcome State Fault Refusal := keep s (cpriTxFrame (port % 512) s)

end Sys2Proof.Machine
end

