-- ==== Sys2Proof/Machine/Egress.lean ====
section
/-! DEFINITION. The egress pipeline and the port block's transmit side: rewriting, encapsulation (R125, R152), congestion
marks (R194), telemetry on egress (R270 to R283), transmission with timestamps (R20 to R28), and the telemetry commands. -/

namespace Sys2Proof.Machine

/-! ### Editing frames -/

/-- Replace bytes from an offset. -/
def patch (b : List Byte) (off : Nat) (x : List Byte) : List Byte := b.take off ++ x ++ b.drop (off + x.length)

/-- The incremental checksum update of RFC 1624 when a 16-bit word changes from m to m'. -/
def csumUpdate (hc m m' : Nat) : Nat :=
  let x := (65535 - hc) + (65535 - m) + m'
  let y := x % 65536 + x / 65536
  65535 - (y % 65536 + y / 65536)

/-- Change the 16-bit word at an offset of an IPv4 header and its checksum with it. -/
def patchV4 (b : List Byte) (ip off v : Nat) : List Byte :=
  let old := bytesNat b (ip + off) 2
  patch (patch b (ip + off) (bytesBE 2 v)) (ip + 10) (bytesBE 2 (csumUpdate (bytesNat b (ip + 10) 2) old v))

/-- Mark congestion (R194): the frame, and whether a mark was made. -/
def markEcn (s : State) (t port : Nat) (b : List Byte) : List Byte × Bool :=
  match ipAt s t port b with
  | none => (b, false)
  | some (o, v) =>
    if v = 4 then
      let tos := bytesNat b o 2
      if tos % 4 = 1 ∨ tos % 4 = 2 then (patchV4 b o 0 (tos - tos % 4 + 3), true) else (b, false)
    else
      let w := bytesNat b o 2
      let e := w / 16 % 4
      if e = 1 ∨ e = 2 then (patch b o (bytesBE 2 (w - e * 16 + 48)), true) else (b, false)

/-- What a route hit writes (R152): DMAC, router MAC, TTL or hop limit, checksum. -/
def rewriteRoute (s : State) (t port : Nat) (r : Nat × Nat) (b : List Byte) : List Byte :=
  let b := patch b 0 (bytesBE 6 r.1 ++ bytesBE 6 (s.rgf .routerMac [t, r.2] 47 0))
  match ipAt s t port b with
  | none => b
  | some (o, v) =>
    if v = 4 then
      let w := bytesNat b (o + 8) 2
      patchV4 b o 8 (if 256 ≤ w then w - 256 else w)
    else patch b (o + 7) (bytesBE 1 (byteAt b (o + 7) - 1))

/-- The ones' complement sum of a list of bytes, padded to 16 bits. -/
def sumAll (b : List Byte) : Nat := onesSum (b ++ [0]) 0 (2 * ((b.length + 1) / 2))

/-- Set total length and header checksum of an IPv4 header in a frame. -/
def fillV4 (b : List Byte) (o : Nat) : List Byte :=
  let b := patch (patch b (o + 2) (bytesBE 2 ((b.length - o) % 65536))) (o + 10) [0, 0]
  patch b (o + 10) (bytesBE 2 (65535 - onesSum b o (byteAt b o % 16 * 4)))

/-- Set payload length of an IPv6 header in a frame. -/
def fillV6 (b : List Byte) (o : Nat) : List Byte := patch b (o + 4) (bytesBE 2 ((b.length - o - 40) % 65536))

/-- Set length and source port of a UDP header; checksum 0. -/
def fillUdp (b : List Byte) (u hash : Nat) : List Byte :=
  patch b u (bytesBE 2 (49152 + hash % 16384) ++ (b.drop (u + 2)).take 2 ++ bytesBE 2 ((b.length - u) % 65536) ++ [0, 0])

/-- Set the checksum of a UDP header over IPv6. -/
def csumUdp6 (b : List Byte) (o u : Nat) : List Byte :=
  let len := b.length - u
  let pseudo := (b.drop (o + 8)).take 32 ++ bytesBE 4 len ++ bytesBE 4 17
  let x := 65535 - sumAll (pseudo ++ b.drop u)
  patch b (u + 6) (bytesBE 2 (if x = 0 then 65535 else x))

/-- Encapsulate a frame (R125, Table 5-8). -/
def encapsulate (s : State) (t port : Nat) (e : Encap) (hash : Nat) (b : List Byte) : List Byte :=
  let out := e.tmpl ++ b
  let o := afterTags (s.parseCfgOf t port) e.tmpl 4 12
  match e.typ with
  | 1 | 2 => b.take 12 ++ e.tmpl ++ b.drop 12
  | 3 | 7 => let u := o + byteAt out o % 16 * 4; fillV4 (fillUdp out u hash) o
  | 4 => csumUdp6 (fillV6 (fillUdp out (o + 40) hash) o) o (o + 40)
  | 5 => fillV4 out o
  | 6 => fillV6 out o
  | 8 =>
    let ip := match ipAt s t port b with | some (x, _) => x | none => afterTags (s.parseCfgOf t port) b 4 12
    fillV4 (e.tmpl ++ b.drop ip) o
  | _ => b

/-! ### Telemetry on egress -/

/-- The telemetry record of a packet completed at the present tick (Tables 12-1 and 12-2). LATENCY counts whole ticks since the ingress
time: from the first tick at or after it. -/
def recordOf (s : State) (k : Pkt) : List Byte × Nat × Bool × Bool :=
  let t := MTime.of16 k.rx16
  let split := k.tsEpoch != s.mast.tsEpoch
  let lat := ((s.tick : Int) - s.boundaryTick k.rx16).toNat
  let sat := decide (67108863 < lat)
  let l := if split then 0 else min lat 67108863
  let w0 := t.sec % 4 * 2 ^ 62 + t.ns % 2 ^ 30 * 2 ^ 32 + l * 64 + b2n (sat && !split) * 32 + b2n split * 16 + b2n k.hold * 8
    + b2n k.uncal * 4 + k.tsEpoch % 4
  let w1 := (16 * k.eport + k.queue) % 8192 * 2 ^ 51 + k.occ % 65536 * 2 ^ 35 + k.tile % 16 * 2 ^ 31 + k.plane % 16 * 2 ^ 27
    + k.winClass % 4 * 2 ^ 25 + twos 21 k.arrival * 16 + b2n k.injected * 8 + b2n k.second * 4 + b2n k.mirror * 2
  (bytesBE 8 w0 ++ bytesBE 8 w1, l, sat && !split, split)

/-- The bin of a latency (Table 12-3). -/
def latBin (l : Nat) (sat : Bool) : Nat := if sat then 21 else if l < 64 then 0 else Nat.log2 l - 5

/-- Add a completed record to its latency histogram (R275, R278); bin 255 holds LAT_MAX. -/
def countLatency (t cls l : Nat) (sat split : Bool) (s : State) : State :=
  if split then s.bump .telTileCnt [t] 31 0
  else if !s.awake domTelemetry then s
  else
    let k := 8 * t + cls
    let h := tget [] s.pk.telem.lat k
    let b := latBin l sat
    let h := tset 0 (tset 0 h b (satAdd 48 (tget 0 h b) 1)) 255 (max (tget 0 h 255) l)
    s.modPk fun x => { x with telem := { x.telem with lat := tset [] x.telem.lat k h } }

/-- Advance the sampling counter of a class (R279): is the packet sampled? -/
def sample (t cls : Nat) (s : State) : Bool × State :=
  let n := s.rgf .telClassCfg [cls] 61 46
  let c := (s.tl t).samples.getD cls 0 + 1
  let hit := decide (n + 1 ≤ c)
  (hit, s.modTl t fun tl => { tl with samples := tl.samples.set cls (if hit then 0 else c) })

/-- Write a postcard into the Tile's FIFO (R280, Table 12-5). -/
def postcard (t cls : Nat) (k : Pkt) (rec_ frame : List Byte) (s : State) : State :=
  let tl := s.tl t
  if 512 ≤ tl.postcards.length || !s.awake domTelemetry || !s.awake (domCluster (t / 4)) then
    let c := s.cluster (t / 4)
    let s := s.setCluster (t / 4) { c with cardDrops := tmod 0 c.cardDrops t fun n => satAdd 32 n 1 }
    raiseInt 6 .telIntStatus [] 0 (s.bump .telTileCnt [t] 63 32)
  else
    let b := rec_ ++ bytesBE 2 k.len ++ bytesBE 2 k.eport ++ bytesBE 1 cls ++ bytesBE 1 0 ++ bytesBE 2 (k.hash0 % 65536)
      ++ (frame.take 40 ++ List.replicate (40 - frame.length) 0)
    let c : Postcard := { collector := s.rgf .telClassCfg [cls] 45 43, bytes := b, tick := s.tick }
    s.setTl t { tl with postcards := tl.postcards ++ [c] }

/-- Insert or extend the in-band header (R283, R284, Table 12-8): 30 bytes at the first hop, before the original EtherType, which
NEXT_ETYPE repeats; 20 bytes at each later one. -/
def inbandInsert (t port : Nat) (k : Pkt) (rec_ b : List Byte) (s : State) : List Byte × State :=
  let p := parse { s.parseCfgOf t port with inner := false } b
  let hop := bytesBE 2 s.deviceId ++ bytesBE 2 port ++ rec_
  let o := p.tagEnd
  let et := s.rgf .dravuaEtype [t] 15 0
  if k.ctl then (b, s)
  else if p.shim then
    let hops := byteAt b (o + 4)
    if 8 ≤ hops then (b, s.bump .telInbandCnt [t] 63 48)
    else if maxFrame < b.length + 20 then (b, raiseInt 6 .telIntStatus [] 2 (s.bump .telInbandCnt [t] 47 32))
    else (patch (b.take (o + 10) ++ hop ++ b.drop (o + 10)) (o + 4) (bytesBE 1 (hops + 1)), s)
  else if maxFrame < b.length + 30 then (b, raiseInt 6 .telIntStatus [] 2 (s.bump .telInbandCnt [t] 47 32))
  else
    let h := bytesBE 2 et ++ [0x21, 1, 1, 0] ++ bytesBE 2 s.deviceId ++ (b.drop o).take 2 ++ hop
    (b.take o ++ h ++ b.drop o, s)

/-- Remove the in-band header at a port that strips it (R283). -/
def inbandStrip (t port : Nat) (b : List Byte) (s : State) : List Byte × State :=
  let p := parse { s.parseCfgOf t port with inner := false } b
  if bitAt (s.rg .telPortCfg [port]) 59 && p.shim then
    let o := p.tagEnd
    (b.take o ++ b.drop (o + 10 + 20 * byteAt b (o + 4)), s.bump .telInbandCnt [t] 31 0)
  else (b, s)

/-- Telemetry of a packet that the egress pipeline completes. -/
def telemetry (t : Nat) (k : Pkt) (b : List Byte) (s : State) : List Byte × State :=
  let r := recordOf s k
  let s := countLatency t k.flow r.2.1 r.2.2.1 r.2.2.2 s
  let x : List Byte × State :=
    if k.mirror then (b, s)
    else
      let c := sample t k.flow s
      if !c.1 then (b, c.2)
      else match s.rgf .telClassCfg [k.flow] 63 62 with
        | 1 => (b, postcard t k.flow k r.1 b c.2)
        | 2 => inbandInsert t k.eport k r.1 b c.2
        | _ => (b, c.2)
  inbandStrip t k.eport x.1 x.2

/-! ### EGRESS_HANDOFF (R272) -/

/-- The egress pipeline discards a packet: its credit returns (R163), a packet with TS gets its entry (R27). -/
def egressDiscard (k : Pkt) (s : State) : State :=
  abortTs k.eport k.ts (returnCredit k.eport k.cells s)

/-- An encapsulation entry reads uncorrectable: the packet counts under a code of R117 (Table 17-2). Table 5-12 names none of the four for
this table: which of codes 10 to 13, and with it which interrupt bit, is a free value (log 80). -/
def encapEcc (t : Nat) (s : State) : State :=
  let f := takeFree s
  let i := f.1.toNat % 4
  raiseInt 11 .pipeIntStatus [t] i (pipeDrop t (10 + i) f.2)

/-- What the egress pipeline does to the bytes of a packet before telemetry: marks, route, encapsulation; none where the
encapsulation drops it. -/
def egressBytes (t : Nat) (k : Pkt) (s : State) : Option (List Byte) × State :=
  let m := if k.mark then markEcn s t k.eport k.bytes else (k.bytes, false)
  let q := 16 * k.eport + k.queue
  let s := when m.2 (fun s => s.setTmq q { s.tmq q with marked := satAdd 64 (s.tmq q).marked 1 }) s
  let b := match k.route with | some r => rewriteRoute s t k.eport r m.1 | none => m.1
  if k.encap = 0 then (some b, s)
  else
    let r := memReadN 11 t 3 (16 * k.encap) 1 13 s
    if !r.1 then (none, encapEcc t r.2)
    else
      let b := encapsulate r.2 t k.eport (tget {} (r.2.tl t).encap k.encap) k.hash0 b
      if maxFrame < b.length then (none, pipeDrop t 14 r.2) else (some b, r.2)

/-- Hand the next packet of a port to its port block. -/
def egressHandoff (p : Nat) (s : State) : State :=
  let t := tileOf p
  let tl := s.tl t
  match tl.egress.find? fun k => k.eport == p with
  | none => s
  | some k =>
    let out := s.setTl t { tl with egress := tl.egress.erase k }
    if !s.linkUp p then
      raiseInt 14 .tmIntStatus [t] 0 (egressDiscard k (out.bump .tmDropCnt [t, p % 32] 63 32))
    else if (s.prt p).inFlight.isSome || !s.txAwake p || s.epochHeld p || !s.awake (domTile t) then s
    else match egressBytes t k out with
      | (none, s) => egressDiscard k s
      | (some b, s) =>
        let x := telemetry t k b s
        let s := returnCredit p k.cells x.2
        let f : TxFrame := { bytes := x.1, tsId := k.ts, rx16 := k.rx16, rxEpoch := k.tsEpoch
                             rxKnown := !k.injected && !k.host && !k.mgmt, handTick := s.tick }
        s.modPort p fun y => { y with inFlight := some f }

def execEgressHandoff (port : Nat) (s : State) : Host.Outcome State Fault Refusal := keep s (egressHandoff port s)

/-! ### FRAME_TRANSMIT (R20 to R28, R379) -/

/-- Add to the correctionField of the PTP message at an offset. -/
def addCorrection (b : List Byte) (o : Nat) (d : Int) : List Byte :=
  patch b (o + 8) (bytesBE 8 (twos 64 (sgn 64 (bytesNat b (o + 8) 8) + d)))

/-- Is a port assigned to the boundary-clock service? While the service runs its program assigns the ports, and no register shows it: a
free value (log 64). -/
def bcPort (s : State) : Bool × State := if s.mast.bcRunning then ((takeFree s).1.getLsbD 0, (takeFree s).2) else (false, s)

/-- The one-step update of a Sync message at offset `o` (R26): originTimestamp, and the remainder below 1 ns in the correctionField. -/
def oneStep (b : List Byte) (o : Nat) (t16 : Int) : List Byte :=
  let t := MTime.of16 t16
  addCorrection (patch b (o + 34) (bytesBE 6 t.sec ++ bytesBE 4 t.ns)) o t.frac

/-- The transparent-clock update (R26). A message that has no receive time, sent by the part itself or by the host, takes none and is
not counted: DESIGN CHOICE (log 63). -/
def tcUpdate (p : Nat) (f : TxFrame) (b : List Byte) (o : Nat) (t16 : Int) (s : State) : List Byte × State :=
  let a := bcPort s
  if !f.rxKnown || a.1 then (b, a.2)
  else if f.rxEpoch = s.mast.tsEpoch then (addCorrection b o (t16 - f.rx16), a.2)
  else (b, a.2.bump .tsCounters [p] 63 32)

/-- The one-step and transparent-clock updates of a frame sent at t_tx (R26). Where both are enabled a Sync takes both: DEDUCED, neither
rule excepts the other (log 64). -/
def ptpUpdate (p : Nat) (f : TxFrame) (t16 : Int) (s : State) : List Byte × State :=
  let q := parse { s.parseCfgOf (tileOf p) p with inner := false } f.bytes
  let cfg := s.rg .portTsCfg [p]
  if !q.ptp || 3 < q.ptpMsg then (f.bytes, s)
  else
    let o := q.off - 34
    let b := if q.ptpMsg = 0 ∧ bitAt cfg 43 ∧ !(s.prt p).macsec then oneStep f.bytes o t16 else f.bytes
    if bitAt cfg 44 then tcUpdate p f b o t16 s else (b, s)

/-- The transmit association of a MACsec port (R379): whether the frame may be sent, and the state with the packet number
advanced. An association whose next number would be 2^64 - 1 sends nothing, counts PN_EXHAUSTED and raises the port's
interrupt, which has no status bit. -/
def macsecSend (p : Nat) (s : State) : Bool × State :=
  if !(s.prt p).macsec then (true, s)
  else if s.sec.keysBlocked then (false, s)
  else match tget none s.sec.txAn p with
    | none => (false, s)
    | some an =>
      let k := 4 * p + an
      let sa := tget {} s.sec.txSa k
      if sa.key.isEmpty then (false, s)
      else if 2 ^ 64 - 1 ≤ sa.pn then (false, signalBlock 10 (s.bump .secCnt [] 15 0))
      else (true, { s with sec := { s.sec with txSa := tset {} s.sec.txSa k { sa with pn := sa.pn + 1 } } })

/-- The message timestamp point of a frame may be at the balls: its hand-off time has passed (R272, R474). -/
def handedOver (p : Nat) (f : TxFrame) (s : State) : Bool :=
  f.handTick * 81920 + s.handOff p ≤ s.tick * 81920 + s.dTx p

/-- The port block sends the frame it holds; on a CPRI port a frame that is no capture is one of fast C&M (R94). The 1/64-tick point at which its message timestamp point crosses the SerDes
boundary is not commanded: a free value. -/
def frameTransmit (p : Nat) (s : State) : State :=
  match (s.prt p).inFlight with
  | none => s
  | some f =>
    if !s.linkUp p || !s.txAwake p || s.now16 < (s.prt p).txBusy16 || !handedOver p f s then s
    else if isTxCapture p (s.prt p).option f.bytes then
      abortTs p f.tsId (cpriStore p f.bytes (s.modPort p fun x => { x with inFlight := none }))
    else if (s.prt p).isCpri && !(s.prt p).fastCm then abortTs p f.tsId (s.modPort p fun x => { x with inFlight := none })
    else
      let gone := s.modPort p fun x => { x with inFlight := none }
      match macsecSend p gone with
      | (false, s) => abortTs p f.tsId s
      | (true, s) =>
        let fr := takeFree s
        let s := fr.2
        let t16 := subTick16 s (fr.1.toNat % 64) + s.dTx p - sgn 40 (s.rgf .portTsCfg [p] 39 0)
        let u := ptpUpdate p f t16 s
        let s := match f.tsId with | some id => pushTxTs p id (some t16) u.2 | none => u.2
        let bits := (u.1.length + 24) * 8
        let s := s.modPort p fun x => { x with txBusy16 := s.now16 + (bits * 65536 / speedGbps (s.prt p).speed : Nat) }
        let o : OutFrame := { port := p, bytes := u.1, at16 := t16, line := s.txLine p (fr.1.toNat / 64) u.1 }
        { s with out := { s.out with frames := s.out.frames ++ [o] } }

def execFrameTransmit (port : Nat) (s : State) : Host.Outcome State Fault Refusal := keep s (frameTransmit port s)

/-! ### Telemetry commands and postcards -/

/-- TELEM_CONFIG (R279, Table 12-4): word 0 the class, word 1 its configuration. -/
def telemConfigBody : CmdBody := fun c s =>
  checked [(0, decide (c.n 0 < 8)), (1, fld (c.p 1) 63 62 != 3)] fun _ =>
    let k := c.n 0
    let w := ins (c.p 1) 42 0 0
    let s' := if s.rg .telClassCfg [k] = w then s
      else eachTile (List.range 16) (fun t s => s.modTl t fun tl => { tl with samples := tl.samples.set k 0 }) s
    .done [] (s'.setRg .telClassCfg [k] w)

/-- TELEM_HIST_READ (R277): CLEAR [63], KIND [62] (0 latency, 1 window), Tile [7:4], class or timeline [2:0]. The result has
the bins, then for a latency histogram LAT_MAX. -/
def telemHistReadBody : CmdBody := fun c s =>
  let win := bitAt (c.p 0) 62
  let k := 8 * fld (c.p 0) 7 4 + fld (c.p 0) 2 0
  let tm := s.pk.telem
  checked [(0, fld (c.p 0) 61 8 == 0 && fld (c.p 0) 3 3 == 0)] fun _ =>
    mgmtReads 6 0 0 (64 * k + (if win then 8192 else 0)) (if win then 64 else 23) s fun s =>
      let h := if win then tget [] tm.win k else tget [] tm.lat k
      let res := if win then (List.range 64).map (tget 0 h) else (List.range 22).map (tget 0 h) ++ [tget 0 h 255]
      let tm := { tm with histReset := false }
      let tm := if !bitAt (c.p 0) 63 then tm
                else if win then { tm with win := tset [] tm.win k [] } else { tm with lat := tset [] tm.lat k [] }
      .done (res.map (BitVec.ofNat 64)) (s.modPk fun x => { x with telem := tm })

/-- Send postcards of a Tile's FIFO to its cluster (R281): up to 16 of one collector, once 16 are gathered or TEL_FLUSH has passed since
the first; of the collectors of which that holds, the one whose first postcard is oldest. -/
def postcardFlush (t : Nat) (s : State) : State :=
  let tl := s.tl t
  let run := fun (k : Nat) => (tl.postcards.filter fun c => c.collector == k).take 16
  let due := fun (h : Postcard) => decide ((run h.collector).length = 16) || decide (h.tick + s.rgf .telFlush [] 9 0 * usTicks ≤ s.tick)
  match tl.postcards.find? due with
  | none => s
  | some h =>
    if !s.awake domTelemetry then s
    else
      let run := run h.collector
      let b := run.flatMap (·.bytes)
      let s := s.setTl t { tl with postcards := run.foldl (fun l c => l.erase c) tl.postcards }
      postHook (t / 4) { w0 := evWord0 0x30 4 b.length (t + 16 * h.collector), pkt := b } s

def execPostcardFlush (tile : Nat) (s : State) : Host.Outcome State Fault Refusal := keep s (postcardFlush (tile % 16) s)

end Sys2Proof.Machine
end

