-- ==== Sys2Proof/Machine/Bodies.lean ====
section
/-! DEFINITION. The opcodes of Table 13-7 with their bodies and the sleeping domain of their target: what a timed command, a
command in a frame or in an admin queue, and an item of a profile run. -/

namespace Sys2Proof.Machine

/-- Domain of the target and body of an opcode. -/
abbrev OpMeaning := (Cmd → State → Option Nat) × CmdBody

/-- Opcodes of groups 0x00 to 0x06. -/
def bodyLow (code : Nat) : Option OpMeaning :=
  match code with
  | 0x0000 => some (noDomain, nopBody)
  | 0x0001 => some (noDomain, negotiateBody)
  | 0x0002 => some (noDomain, deviceInfoBody)
  | 0x0003 => some (noDomain, cmdCancelBody)
  | 0x0004 => some (noDomain, eventSubscribeBody)
  | 0x0005 => some (noDomain, mgmtRelayBody)
  | 0x0006 => some (regReadDomain, regReadBody)
  | 0x0007 => some (regWriteDomain, regWriteBody)
  | 0x0100 => some (noDomain, mastConfigBody)
  | 0x0101 => some (noDomain, mastSetTimeBody)
  | 0x0102 => some (noDomain, timelineSetBody)
  | 0x0200 => some (noDomain, riggingWriteBody)
  | 0x0201 => some (noDomain, riggingReadBody)
  | 0x0202 => some (noDomain, riggingCommitBody)
  | 0x0203 => some (noDomain, riggingCancelBody)
  | 0x0300 => some (portDomain, portAdminBody)
  | 0x0301 => some (portDomain, laneDozeConfigBody)
  | 0x0400 => some (maskDomain, classRuleWriteBody)
  | 0x0401 => some (maskDomain, classModeBody)
  | 0x0402 => some (tileDomain, classBankSwapBody)
  | 0x0403 => some (tileDomain, classCounterReadBody)
  | 0x0404 => some (word0Tile, policerSetBody)
  | 0x0405 => some (maskDomain, indirWriteBody)
  | 0x0406 => some (noDomain, cpuCodeWriteBody)
  | 0x0407 => some (maskDomain, encapWriteBody)
  | 0x0500 => some (maskDomain, hostReqBody 1)
  | 0x0501 => some (maskDomain, hostReqBody 2)
  | 0x0502 => some (maskDomain, l2FlushBody)
  | 0x0503 => some (tileDomain, l2DumpBody)
  | 0x0504 => some (tileDomain, l2ReseedBody)
  | 0x0505 => some (tileDomain, l2RehashAckBody)
  | 0x0506 => some (maskDomain, lpmWriteBody)
  | 0x0507 => some (noDomain, lpmSyncBody)
  | 0x0508 => some (maskDomain, floodSetWriteBody)
  | 0x0600 => some (queueDomain, bufQueueConfigBody)
  | 0x0601 => some (noDomain, xbarPlaneEnableBody)
  | 0x0602 => some (queueDomain, tmQueueConfigBody)
  | 0x0603 => some (tmPortDomain, tmPortConfigBody)
  | 0x0604 => some (shaperDomain, shaperSetBody)
  | 0x0605 => some (counterDomain, tmCounterReadBody)
  | _ => none

/-- Opcodes of groups 0x07 to 0x0E, those of profiles apart. -/
def bodyHigh (code : Nat) : Option OpMeaning :=
  match code with
  | 0x0700 => some (createDomain, skeinCreateBody)
  | 0x0701 => some (skeinDomain, skeinModifyBody)
  | 0x0702 => some (skeinDomain, skeinDestroyBody)
  | 0x0703 => some (moveDomain, skeinMoveBody)
  | 0x0704 => some (noDomain, skeinReadBody)
  | 0x0800 => some (hookDomain, hookLoadBody)
  | 0x0801 => some (hookDomain, hookBankSwitchBody)
  | 0x0802 => some (hookDomain, hookForceSwapBody)
  | 0x0803 => some (dispatchDomain, hookDispatchWriteBody)
  | 0x0804 => some (enableDomain, hookEngineEnableBody)
  | 0x0805 => some (serviceDomain, hookServiceConfigBody)
  | 0x0806 => some (noDomain, hookCallBody)
  | 0x0900 => some (fun _ _ => some domTelemetry, telemConfigBody)
  | 0x0901 => some (fun _ _ => some domTelemetry, telemHistReadBody)
  | 0x0A00 => some (noDomain, castOnBody)
  | 0x0A01 => some (noDomain, bindOffBody)
  | 0x0A02 => some (noDomain, dmaConfigBody)
  | 0x0A03 => some (noDomain, poolConfigBody)
  | 0x0A04 => some (noDomain, legacyBody)
  | 0x0B00 => some (noDomain, powerToleranceBody)
  | 0x0B01 => some (noDomain, opPointSetBody)
  | 0x0B02 => some (noDomain, powerCapBody)
  | 0x0B03 => some (noDomain, domainForceBody)
  | 0x0B04 => some (noDomain, cellSleepBody)
  | 0x0C00 => some (noDomain, lifecycleAdvanceBody)
  | 0x0C01 => some (macsecDomain, macsecBody)
  | 0x0C02 => some (noDomain, zeroizeBody)
  | 0x0C03 => some (noDomain, debugBody)
  | 0x0C04 => some (noDomain, debugCloseBody)
  | 0x0E00 => some (noDomain, faultReadBody)
  | 0x0E01 => some (noDomain, faultAckBody)
  | 0x0E02 => some (faultDomain, forceSetBody)
  | 0x0E03 => some (faultDomain, flipMaskSetBody)
  | _ => none

/-- Domain and body of an opcode outside the profile group. -/
def baseMeaning (code : Nat) : Option OpMeaning := if code < 0x0700 then bodyLow code else bodyHigh code

end Sys2Proof.Machine
end

