-- ==== Sys2Proof/Machine/Profile.lean ====
section
/-! DEFINITION. Profiles (chapter 18): their images and checks (R428 to R430), PROFILE_WRITE and PROFILE_READ (R431), start-up stages 5
to 10 (R423 to R427), the Tack (R432, R433). -/

namespace Sys2Proof.Machine

/-! ### Images (R428, Tables 18-3 and 18-4). A profile image is a list of words, the header first. -/

/-- Fields of the header. -/
def pfSections (img : List W) : Nat := fld (img.getD 0 0) 15 0
def pfRigEpoch (img : List W) : Nat := fld (img.getD 1 0) 47 32
def pfResolve (img : List W) : Bool := bitAt (img.getD 1 0) 31
def pfTimeWait (img : List W) : Nat := fld (img.getD 1 0) 15 0
def pfHookEpoch (img : List W) : Nat := fld (img.getD 2 0) 63 48

/-- Words of the signature block that ends an image. -/
def sigWords : Nat := 929

/-- The bytes of an image. -/
def imageBytes (img : List W) : List Byte := img.flatMap wordBytes

/-- A section: kind, index of its first word, words. -/
structure Section18 where
  kind : Nat
  first : Nat
  words : List W
deriving DecidableEq, Repr

/-- The sections of an image in directory order. -/
def sectionsOfImage (img : List W) : List Section18 :=
  (List.range (min 8 (pfSections img))).map fun i =>
    let d := img.getD (4 + 2 * i) 0
    let n := (img.getD (5 + 2 * i) 0).toNat / 8
    { kind := fld d 63 56, first := fld d 31 0 / 8, words := (img.drop (fld d 31 0 / 8)).take n }

/-- The words of the section of a kind; none where the profile has none. -/
def sectionWords (img : List W) (kind : Nat) : List W := ((sectionsOfImage img).find? fun x => x.kind == kind).elim [] (·.words)

/-- One directory entry is well formed: its section lies between the directory and the signature block. -/
def dirOk (img : List W) (i : Nat) : Bool :=
  let d := img.getD (4 + 2 * i) 0
  let n := (img.getD (5 + 2 * i) 0).toNat
  let o := fld d 31 0
  1 ≤ fld d 63 56 && fld d 63 56 ≤ 8 && fld d 55 32 == 0 && o % 8 == 0 && n % 8 == 0
    && decide (8 * (4 + 2 * pfSections img) ≤ o) && decide (o + n ≤ 8 * (img.length - sigWords))

/-- The image has the format of R428. -/
def formatOk (img : List W) : Bool :=
  let w0 := img.getD 0 0
  let kinds := (sectionsOfImage img).map (·.kind)
  sigWords + 6 ≤ img.length && fld w0 63 32 == 0x50524F46 && fld w0 31 16 == 1 && 1 ≤ pfSections img && pfSections img ≤ 8
    && fld (img.getD 1 0) 30 16 == 0 && fld (img.getD 2 0) 47 0 == 0 && img.getD 3 0 == 0
    && (List.range (pfSections img)).all (dirOk img) && kinds.eraseDups.length == kinds.length

/-! ### Items (R429, Table 18-4) -/

/-- An item: the index of its word in the image, its opcode, its PARAM_BYTES, its command as from SIDEBAND. -/
structure Item where
  ix : Nat
  code : Nat
  bytes : Nat
  cmd : Cmd

/-- The items of a run of words; none where the last one runs past the end. -/
def itemsFrom : Nat → Nat → List W → Option (List Item)
  | 0, _, l => if l.isEmpty then some [] else none
  | _ + 1, _, [] => some []
  | n + 1, ix, w :: r =>
    let b := fld w 15 0
    let k := b / 8
    if b % 8 ≠ 0 ∨ r.length < k then none
    else
      let c : Cmd := { src := .sideband, clock := 0, w0 := mk 63 48 (fld w 63 48) ||| mk 15 0 b, w1 := 0, params := r.take k }
      (itemsFrom n (ix + 1 + k) (r.drop k)).map fun l => { ix := ix, code := fld w 63 48, bytes := b, cmd := c } :: l

/-- The items of the section of a kind. -/
def itemsOf (img : List W) (kind : Nat) : Option (List Item) :=
  match (sectionsOfImage img).find? fun x => x.kind == kind with
  | some x => itemsFrom x.words.length x.first x.words
  | none => some []

/-- Registers that a CLASSIFIER item may write. -/
def classifierReg (a : Nat) : Bool :=
  match regAt a with
  | some (r, _) => [RegId.portKeySel, .portQos, .portDefaultNomatch, .portDefaultParsefail, .hashMask, .hashSeed].contains r
  | none => false

/-- Does Table 18-4 list an item for a section? -/
def itemListed (kind : Nat) (i : Item) : Bool :=
  match kind with
  | 2 => i.code == 0x0100
  | 3 => [0x0406, 0x0405, 0x0407, 0x0404].contains i.code || (i.code == 0x0400 && 4096 ≤ ruleIndex i.cmd)
    || (i.code == 0x0007 && classifierReg (i.cmd.n 0))
  | 4 => i.code == 0x0102
  | 5 => i.code == 0x0200
  | 6 => [0x0600, 0x0602, 0x0603, 0x0604].contains i.code
  | 7 => i.code == 0x0700
  | 8 => [0x0B00, 0x0B01, 0x0B02, 0x0B03].contains i.code
    || (i.code == 0x0007 && (match regAt (i.cmd.n 0) with | some (r, _) => r == .fillProfile | none => false))
  | _ => false

/-- Apply an item as an immediate command: a timeline's description takes effect at once. -/
def applyItem (i : Item) (s : State) : CmdResult :=
  if i.code = 0x0102 then
    match timelineSetBody i.cmd s with
    | .done r _ => .done r (applyTimeline (i.cmd.n 0) (timelineOf i.cmd) s)
    | x => x
  else match baseMeaning i.code with
    | some m => m.2 i.cmd s
    | none => .refuse .badOpcode 0

/-- The state after an item; one that is refused changes nothing. -/
def runItem (s : State) (i : Item) : State :=
  match applyItem i s with
  | .done _ t | .doneWith _ _ t | .failed _ _ t | .later t => t
  | .reset f => f s
  | .refuse _ _ => s

/-- The refusal that an item meets, as R429 reports it: its status, DETAIL the item's word index. -/
def itemRefusal (kind : Nat) (i : Item) (s : State) : Option (Status × Nat) :=
  let n := i.bytes / 8
  if !itemListed kind i then some (.badOpcode, i.ix)
  else if n < (paramWords i.code i.cmd).1 ∨ (paramWords i.code i.cmd).2 < n ∨ 65528 < i.bytes then some (.badLength, i.ix)
  else match applyItem i s with
    | .refuse st _ | .failed st _ _ => some (st, i.ix)
    | _ => none

/-- Check and apply the items of a section one after the other. -/
def checkItems (kind : Nat) : List Item → State → Except (Status × Nat) State
  | [], s => .ok s
  | i :: r, s => match itemRefusal kind i s with
    | some e => .error e
    | none => checkItems kind r (runItem s i)

/-- The order in which start-up applies sections (Table 18-2): MAST, CLASSIFIER, TIMELINES, POWER, TM, SKEINS, RIGGING. -/
def sectionOrder : List Nat := [2, 3, 4, 8, 6, 7, 5]

/-- Check and apply whole sections. -/
def checkSections (img : List W) : List Nat → State → Except (Status × Nat) State
  | [], s => .ok s
  | k :: r, s => match itemsOf img k with
    | none => .error (.imageInvalid, 2)
    | some l => match checkItems k l s with
      | .error e => .error e
      | .ok t => checkSections img r t

/-- What R74, R88 and R430 find wrong with a port map: DETAIL of PARAM_INVALID. -/
def portMapFault (first : Nat) (l : List W) : Option Nat :=
  match l.findIdx? fun e => !entryOk18 e with
  | some i => some (first + i)
  | none => if disjointMap l then badOctal l else some first

/-- The part that an image's items are checked on (R429): just reset, its ports formed, with the present lifecycle, debug level and
Mast time (DESIGN CHOICE, log 31). -/
def checkState (img : List W) (s : State) : State :=
  let base : State := {
    time := s.time, sec := s.sec, deviceId := s.deviceId
    mast := { tick := s.mast.tick, running := true, timeValid := true }
    boot := { stage := 10, ready := true }, power := { floating := false } }
  (sectionWords img 1).foldl (fun s e => formPort e s) base

/-- Why a profile is refused (R428 to R430, R377); none when it is accepted. -/
def profileRefusal (img : List W) (verified : Bool) (s : State) : Option (Status × Nat) :=
  if !formatOk img then some (.imageInvalid, 2)
  else match s.sigCheck 3 (imageBytes img) (8 * (img.length - sigWords)) none verified with
    | some d => some (.imageInvalid, d)
    | none =>
      let first := ((sectionsOfImage img).find? fun x => x.kind == 1).elim 0 (·.first)
      match portMapFault first (sectionWords img 1) with
      | some d => some (.paramInvalid, d)
      | none => match checkSections img sectionOrder (checkState img s) with
        | .error e => some e
        | .ok t => (firstFailing t (t.bank t.shadow)).map fun i => (.riggingInvalid, i)

/-! ### Stored profiles (R431) -/

/-- Slot n. -/
def State.profileSlot (s : State) (n : Nat) : ProfileSlot := tget {} s.boot.slots n

/-- PROFILE_WRITE. -/
def profileWriteBody : CmdBody := fun c s =>
  let n := fld (c.p 0) 1 0
  let img := c.params.drop 1
  let named := s.cmd.timed.any fun t => t.opcode == 0xD00 && fld (t.cmd.p 0) 1 0 == n
  checked [(0, fld (c.p 0) 63 2 == 0)] fun _ =>
    if named then .refuse .busyPending 0
    else match profileRefusal img c.verified s with
      | some (.imageInvalid, d) => .failed .imageInvalid d (imageReject s)
      | some (st, d) => .refuse st d
      | none =>
        let x : ProfileSlot := { image := img, epoch := ((s.profileSlot n).epoch + 1) % 65536 }
        .done [] { s with boot := { s.boot with slots := tset {} s.boot.slots n x } }

/-- PROFILE_READ: the stored image; no words where the slot holds none. -/
def profileReadBody : CmdBody := fun c s =>
  checked [(0, fld (c.p 0) 63 2 == 0)] fun _ => .done (s.profileSlot (fld (c.p 0) 1 0)).image s

/-! ### Start-up stages 5 to 10 (R423, R425 to R427) -/

/-- A start-up stage completes. -/
def toStage (k : Nat) (s : State) : State := { s with boot := { s.boot with stage := k } }

/-- R427: no profile is applied; every port takes ADMIN_UP = 0, and start-up goes on at stage 10. -/
def profileFails (cause : Nat) (s : State) : State :=
  let s := stageFail 5 cause s
  let s : State := { s with boot := { s.boot with profileFail := 1, activeProfile := 4, running := [], activeEpoch := 0 } }
  let s := s.port.ports.foldl (fun s x => setAdmin x.1 false s) s
  toStage 10 (raiseInt 1 .bootIntStatus [] 2 s)

/-- Stage 5, PROFILE. -/
def stageProfile (readOk verified : Bool) (s : State) : State :=
  if s.boot.stage ≠ 5 then s
  else
    let x := s.profileSlot s.boot.selected
    if !readOk then profileFails 6 s
    else if x.image.isEmpty then profileFails 7 s
    else match profileRefusal x.image verified s with
      | some (.imageInvalid, d) => profileFails d (imageReject s)
      | some _ => profileFails 2 s
      | none =>
        let s := imageLoaded 3 (imageBytes x.image) (8 * (x.image.length - sigWords)) s
        { s with boot := { s.boot with
          stage := 6, running := x.image, activeProfile := s.boot.selected, activeEpoch := x.epoch, profileFail := 0 } }

def execStageProfile (readOk verified : Bool) (s : State) : Host.Outcome State Fault Refusal := keep s (stageProfile readOk verified s)

/-- Stage 6, HOOK: the image that HOOK_EPOCH names, 0 that of slot A, goes into bank 0 of every cluster. A failure leaves the
stage incomplete. -/
def stageHook (a b : SpiImage) (s : State) : State :=
  if s.boot.stage ≠ 6 then s
  else
    let want := pfHookEpoch s.boot.running
    let inB := want != 0 && imEpoch a.bytes != want
    let i := if inB then b else a
    if i.bytes.isEmpty || (inB && imEpoch b.bytes != want) then stageFail 6 7 s
    else if !i.readOk then stageFail 6 6 s
    else match s.imageFault i.bytes i.verified with
      | some d => stageFail 6 d (imageReject s)
      | none =>
        let s := imageLoaded 2 i.bytes (imLen i.bytes) s
        let s := (List.range 4).foldl (fun s q => writeImage q 0 i.bytes (s.setCluster q { s.cluster q with active := 0 })) s
        { s with boot := { s.boot with stage := 7, hookSlot := b2n inB } }

def execStageHook (slotA slotB : SpiImage) (s : State) : Host.Outcome State Fault Refusal := keep s (stageHook slotA slotB s)

/-- Apply the items of a section of the running profile. -/
def applySection (img : List W) (kind : Nat) (s : State) : State := ((itemsOf img kind).getD []).foldl runItem s

/-- STEP_EN of the running profile's MAST section (R425). -/
def profileStepEn (img : List W) (old : Nat) : Nat :=
  match ((itemsOf img 2).getD []).getLast? with
  | some i => (mastParamsOf i.cmd).stepEn
  | none => old

/-- Set STEP_EN. -/
def setStepEn (v : Nat) (s : State) : State :=
  { s with mast := { s.mast with params := { s.mast.params with stepEn := v } } }

/-- Stage 7, PORTS: until TIME_VALID first sets, the servo runs with STEP_EN = 1 (R425). -/
def stagePorts (s : State) : State :=
  if s.boot.stage ≠ 7 then s
  else
    let img := s.boot.running
    let s := (sectionWords img 1).foldl (fun s e => formPort e s) s
    let s := applySection img 2 s
    let s : State := if s.mast.timeValid then s else { setStepEn 1 s with boot := { s.boot with stepHeld := true } }
    let s := eachTile (List.range 16) swapBank (applySection img 3 s)
    toStage (if s.mast.timeValid then 9 else 8) { s with boot := { s.boot with
      timeWaitTick := s.tick + pfTimeWait img * secTicks, skipTime := false } }

def execStagePorts (s : State) : Host.Outcome State Fault Refusal := keep s (stagePorts s)

/-- TIME_VALID sets: the profile's own STEP_EN applies, and stage 8 completes. -/
def timeValidSet (s : State) : State :=
  if !s.mast.timeValid then s
  else
    let s : State :=
      if s.boot.stepHeld then
        { setStepEn (profileStepEn s.boot.running s.mast.params.stepEn) s with boot := { s.boot with stepHeld := false } }
      else s
    if s.boot.stage = 8 then toStage 9 s else s

def execTimeValidSet (s : State) : Host.Outcome State Fault Refusal := keep s (timeValidSet s)

/-- TIME_WAIT expires before TIME_VALID sets. -/
def timeWaitExpiry (s : State) : State :=
  if s.boot.stage ≠ 8 ∨ s.mast.timeValid ∨ s.tick < s.boot.timeWaitTick then s
  else raiseInt 1 .bootIntStatus [] 3 { s with boot := { s.boot with stage := 9, skipTime := true } }

def execTimeWaitExpiry (s : State) : Host.Outcome State Fault Refusal := keep s (timeWaitExpiry s)

/-- The timelines that the TIMELINES section of a profile configures. -/
def configuredBy (img : List W) : List Nat :=
  (List.range 8).filter fun t => ((itemsOf img 4).getD []).any fun i => i.cmd.n 0 == t && (timelineOf i.cmd).configured

/-- The Rigging commit of stage 9: on the lowest timeline that the profile configures, at the start of its frame with the current
SFN + 2 (R426). -/
def ownCommit (img : List W) (t : Nat) (s : State) : State :=
  let d := s.timeline t
  let f := d.frameAt s.now16 + 2
  let c : Cmd := {
    src := .sideband, clock := 0, w0 := mk 63 48 0x0202 ||| mk 45 45 1 ||| mk 44 42 t ||| mk 41 32 (sfnOf f), w1 := 0
    params := [mk 63 48 (pfRigEpoch img) ||| mk 47 47 1] }
  let x : TimedCmd := { cmd := c, opcode := 0x202, at16 := d.frame16 f, order := s.cmd.nextOrder, own := true }
  { s with cmd := { s.cmd with timed := s.cmd.timed ++ [x], nextOrder := s.cmd.nextOrder + 1 } }

/-- Stage 9, SCHEDULE: TIMELINES, POWER, TM and SKEINS; RIGGING into the shadow bank, then its commit. Stage 10 begins in the switch
tick, or at once without a commit. A commit that a step cancelled is made anew. -/
def stageSchedule (s : State) : State :=
  if s.boot.stage ≠ 9 ∨ s.pendingCommit.isSome then s
  else
    let img := s.boot.running
    let skip := s.boot.skipTime
    let s := if skip then s else applySection img 4 s
    let s := applySection img 8 s
    let s := applySection img 6 s
    let s := applySection img 7 s
    match (if skip then none else (configuredBy img).head?) with
    | some t => ownCommit img t (applySection img 5 s)
    | none => toStage 10 s

def execStageSchedule (s : State) : Host.Outcome State Fault Refusal := keep s (stageSchedule s)

/-- Stage 10, READY. -/
def stageReady (s : State) : State :=
  if s.boot.stage ≠ 10 ∨ s.boot.ready then s else raiseInt 1 .bootIntStatus [] 0 { s with boot := { s.boot with ready := true } }

def execStageReady (s : State) : Host.Outcome State Fault Refusal := keep s (stageReady s)

/-! ### The Tack (R432, R433) -/

/-- Index of the Skein that a SKEINS item names. -/
def skIndex (i : Item) : Nat := fld (i.cmd.p 0) 15 0

/-- The Strand words of a SKEINS item. -/
def skStrands (i : Item) : List W := (i.cmd.params.drop 5).take (skeinOf i.cmd).numStrands

/-- The SKEINS item names a present Skein with another descriptor word 0 (HOME apart) or other Strand entries. -/
def skeinDiffers (i : Item) (s : State) : Bool :=
  let x := s.skein (skIndex i)
  let y := skeinOf i.cmd
  x.valid && (ins x.w0 57 54 0 != y.w0 || (List.range y.numStrands).any fun n => s.strand x n != (skStrands i).getD n 0)

/-- Allocate and write the new Skeins of a profile beside the present ones (R432); the region that did not suffice where one does
not fit. -/
def stageSkeins : List Item → State → Except Nat State
  | [], s => .ok s
  | i :: r, s =>
    let k := skIndex i
    if (s.skein k).valid then stageSkeins r s
    else match skeinCreateBody i.cmd s with
      | .done _ t => stageSkeins r (t.modSkein k fun x => { x with unbound := true })
      | _ => .error (s.largestFree (skeinOf i.cmd).cluster / 64)

/-- The profile's timelines, taken at once: the state that its Skeins are placed in. -/
def withTimelines (img : List W) (s : State) : State :=
  ((itemsOf img 4).getD []).foldl (fun s i =>
    { s with rig := { s.rig with timelines := tset {} s.rig.timelines (i.cmd.n 0) (timelineOf i.cmd) } }) s

/-- A changed timeline that stands in the way of a Tack (BUSY_TIMELINE). -/
def tackTimeline (c : Cmd) (img : List W) (s : State) : Option Nat :=
  let at16 := s.switch16 c.timeline c.sfn
  let starts := fun (d : Timeline) => !d.configured || d.frame16 (d.frameAt at16) == at16
  (((itemsOf img 4).getD []).find? fun i =>
    let t := i.cmd.n 0
    let old := s.timeline t
    let new := timelineOf i.cmd
    old != new && ((s.sleepOf t).state != 0 || !starts old || !starts new)).map fun i => i.cmd.n 0

/-- TACK: its checks (R432). -/
def tackBody : CmdBody := fun c s =>
  let n := fld (c.p 0) 1 0
  let x := s.profileSlot n
  let img := x.image
  let skeins := (itemsOf img 7).getD []
  if fld (c.p 0) 63 32 != 0 || fld (c.p 0) 15 2 != 0 then bad 0
  else if fld (c.p 0) 31 16 ≠ x.epoch then .refuse .epochStale x.epoch
  else match profileRefusal img c.verified s with
    | some (.imageInvalid, d) => .failed .imageInvalid d (imageReject s)
    | some (st, d) => .refuse st d
    | none =>
      if sectionWords img 1 ≠ sectionWords s.boot.running 1 then bad 0
      else if s.cmd.timed.any fun t => t.opcode == 0xD00 || t.opcode == 0x202 || t.opcode == 0x801 then .refuse .busyPending 0
      else match tackTimeline c img s with
        | some t => .refuse .busyTimeline t
        | none =>
          if skeins.any fun i => skeinDiffers i s then .refuse .skeinInvalid 0
          else match stageSkeins skeins (withTimelines img s) with
            | .error d => .refuse .skeinNoSpace d
            | .ok _ => .later s

/-- Sleeping domains that the items of an accepted Tack name begin their exit (R347). -/
def wakeItems (img : List W) (s : State) : State :=
  ([6, 7, 8].flatMap fun k => (itemsOf img k).getD []).foldl (fun s i =>
    match (baseMeaning i.code).bind fun m => m.1 i.cmd s with
    | some d => when (s.mustLeave d) (wakeDomain d) s
    | none => s) s

/-- What Fololmane prepares for an accepted Tack (R432): the copy of the profile, the shadow bank, the new Skeins. -/
def stageTack (c : Cmd) (s : State) : State :=
  let img := (s.profileSlot (fld (c.p 0) 1 0)).image
  let items := (itemsOf img 5).getD []
  let cleared := s.setBank s.shadow {}
  let free : State := { cleared with cmd := { cleared.cmd with timed := [] } }
  let bankOf := (items.foldl runItem free).bank s.shadow
  let s := s.setBank s.shadow bankOf
  let keep := s.rig.timelines
  let s : State := match stageSkeins ((itemsOf img 7).getD []) (withTimelines img s) with
    | .ok t => { t with rig := { t.rig with timelines := keep } }
    | .error _ => s
  wakeItems img { s with boot := { s.boot with staged := img } }

/-- A Tack is pending. -/
def State.tackPending (s : State) : Bool := s.cmd.timed.any fun t => t.opcode == 0xD00

/-- TACK: with its acceptance Fololmane prepares the switch. -/
def takeTack (c : Cmd) (s : State) : State :=
  let t := runCommand 0x0D00 noDomain tackBody c s
  if t.tackPending && !s.tackPending then stageTack c t else t

/-- The Skeins part of a Tack in its switch tick: steps 2 to 5 of R433. -/
def tackSkeins (img : List W) (s : State) : State :=
  let items := (itemsOf img 7).getD []
  let here := s.sk.descs.map (·.1)
  let gone := here.filter fun k => (s.skein k).valid && !(items.any fun i => skIndex i == k)
  let s := items.foldl (fun s i =>
    let k := skIndex i
    let x := s.skein k
    let y := skeinOf i.cmd
    if !x.valid then runItem s i
    else if x.unbound then s.setSkein k { x with unbound := false, since := (s.timeline x.tlNo).symAt s.now16 }
    else if x.w1 ≠ y.w1 ∨ x.w2 ≠ y.w2 ∨ x.epoch ≠ y.epoch then
      memWriteN 9 4 1 (4 * k + 1) 3 (s.setSkein k { x with w1 := y.w1, w2 := y.w2, epoch := y.epoch })
    else s) s
  gone.foldl (fun s k => settleSkein k (s.modSkein k fun x => { x with destroying := true })) s

/-- TACK_APPLY: a pending Tack reaches its switch tick (R433). -/
def tackApply (s : State) : State :=
  match s.cmd.timed.find? fun t => t.opcode == 0xD00 && s.timedDue t && s.turn t with
  | none => s
  | some t =>
    let at_ := s.switchTick t
    let img := s.boot.staged
    let s : State := { s with cmd := { s.cmd with timed := s.cmd.timed.erase t } }
    let s := ((itemsOf img 4).getD []).foldl (fun s i => applyTimeline (i.cmd.n 0) (timelineOf i.cmd) s) s
    let s := switchRigging (pfRigEpoch img) (pfResolve img) at_ s
    let s := tackSkeins img (applySection img 8 (applySection img 6 s))
    let n := fld (t.cmd.p 0) 1 0
    let s : State := { s with boot := { s.boot with
      staged := [], running := img, activeProfile := n, activeEpoch := fld (t.cmd.p 0) 31 16, selectedBy := 2, profileFail := 0 } }
    raiseInt 1 .bootIntStatus [] 5 (sendReply t.cmd true .ok 0 [mk 31 16 (pfRigEpoch img) ||| mk 1 0 n] s)

def execTackApply (s : State) : Host.Outcome State Fault Refusal := keep s (tackApply s)

/-- Domain and body of every opcode of Table 13-7. -/
def meaningOf (code : Nat) : Option OpMeaning :=
  match code with
  | 0x0D00 => some (noDomain, tackBody)
  | 0x0D01 => some (noDomain, profileWriteBody)
  | 0x0D02 => some (noDomain, profileReadBody)
  | _ => baseMeaning code

/-- Take a command by its opcode. -/
def takeCommand (c : Cmd) (s : State) : State :=
  if c.opcode = 0x0D00 then takeTack c s
  else match meaningOf c.opcode with
    | some m => runCommand c.opcode m.1 m.2 c s
    | none => runCommand c.opcode noDomain nopBody c s

end Sys2Proof.Machine
end

