-- ==== Sys2Proof/Machine/Commands.lean ====
section
/-! DEFINITION. The rows of the command packets (Table 13-7): each is taken by `runCommand` with its opcode's domain and body. Packets
of one clock apply in ascending source code (R300): an immediate one first lets those go ahead that wait behind it in the queue. -/

namespace Sys2Proof.Machine

/-- A command of the queue in its turn: nothing is left of it where it went ahead of one of a higher source code; else those that go
ahead of it, then itself. -/
def inTurn (run : State → State) (c : Cmd) (s : State) : State :=
  if s.cmd.early.contains c then { s with cmd := { s.cmd with early := s.cmd.early.erase c } }
  else
    let l := s.ahead c
    run (l.foldl (fun s d => takeCommand d s) { s with cmd := { s.cmd with early := s.cmd.early ++ l } })

/-- The row of a command packet that may carry a command of Mast time. -/
def clockRow (run : State → State) (c : Cmd) (s : State) : Host.Outcome State Fault Refusal := keepTaken s (inTurn run c s)

/-- The row of any other command packet. -/
def commandRow (run : State → State) (c : Cmd) (s : State) : Host.Outcome State Fault Refusal :=
  if (s.ahead c).isEmpty then keep s (inTurn run c s) else clockRow run c s

/-! ### Group 0x00 -/

def execNop (c : Cmd) (s : State) : Host.Outcome State Fault Refusal := commandRow (runCommand 0x0000 noDomain nopBody c) c s
def execNegotiateVersion (c : Cmd) (s : State) : Host.Outcome State Fault Refusal :=
  commandRow (runCommand 0x0001 noDomain negotiateBody c) c s
def execDeviceInfo (c : Cmd) (s : State) : Host.Outcome State Fault Refusal := commandRow (runCommand 0x0002 noDomain deviceInfoBody c) c s
def execCmdCancel (c : Cmd) (s : State) : Host.Outcome State Fault Refusal := commandRow (runCommand 0x0003 noDomain cmdCancelBody c) c s
def execEventSubscribe (c : Cmd) (s : State) : Host.Outcome State Fault Refusal :=
  commandRow (runCommand 0x0004 noDomain eventSubscribeBody c) c s
def execEventUnsubscribe (c : Cmd) (s : State) : Host.Outcome State Fault Refusal :=
  commandRow (runCommand 0x0004 noDomain eventSubscribeBody c) c s
def execMgmtRelay (c : Cmd) (s : State) : Host.Outcome State Fault Refusal := commandRow (runCommand 0x0005 noDomain mgmtRelayBody c) c s
def execRegRead (c : Cmd) (s : State) : Host.Outcome State Fault Refusal := commandRow (runCommand 0x0006 regReadDomain regReadBody c) c s
def execRegWrite (c : Cmd) (s : State) : Host.Outcome State Fault Refusal :=
  commandRow (runCommand 0x0007 regWriteDomain regWriteBody c) c s

/-! ### Groups 0x01 and 0x02: Mast clock, timelines, Rigging -/

def execMastConfig (c : Cmd) (s : State) : Host.Outcome State Fault Refusal := commandRow (runCommand 0x0100 noDomain mastConfigBody c) c s
def execMastSetTime (c : Cmd) (s : State) : Host.Outcome State Fault Refusal := clockRow (runCommand 0x0101 noDomain mastSetTimeBody c) c s
def execTimelineSet (c : Cmd) (s : State) : Host.Outcome State Fault Refusal :=
  commandRow (runCommand 0x0102 noDomain timelineSetBody c) c s
def execRiggingWriteEntries (c : Cmd) (s : State) : Host.Outcome State Fault Refusal :=
  commandRow (runCommand 0x0200 noDomain riggingWriteBody c) c s
def execRiggingWriteTargetSets (c : Cmd) (s : State) : Host.Outcome State Fault Refusal :=
  commandRow (runCommand 0x0200 noDomain riggingWriteBody c) c s
def execRiggingRead (c : Cmd) (s : State) : Host.Outcome State Fault Refusal :=
  commandRow (runCommand 0x0201 noDomain riggingReadBody c) c s
def execRiggingCommit (c : Cmd) (s : State) : Host.Outcome State Fault Refusal :=
  commandRow (runCommand 0x0202 noDomain riggingCommitBody c) c s
def execRiggingCancel (c : Cmd) (s : State) : Host.Outcome State Fault Refusal :=
  commandRow (runCommand 0x0203 noDomain riggingCancelBody c) c s

/-! ### Group 0x03: ports -/

def execPortAdmin (c : Cmd) (s : State) : Host.Outcome State Fault Refusal := commandRow (runCommand 0x0300 portDomain portAdminBody c) c s
def execLaneDozeConfig (c : Cmd) (s : State) : Host.Outcome State Fault Refusal :=
  commandRow (runCommand 0x0301 portDomain laneDozeConfigBody c) c s

/-! ### Group 0x04: classification -/

def execClassRuleWrite (c : Cmd) (s : State) : Host.Outcome State Fault Refusal :=
  commandRow (runCommand 0x0400 maskDomain classRuleWriteBody c) c s
def execClassMode (c : Cmd) (s : State) : Host.Outcome State Fault Refusal := commandRow (runCommand 0x0401 maskDomain classModeBody c) c s
def execClassBankSwap (c : Cmd) (s : State) : Host.Outcome State Fault Refusal :=
  commandRow (runCommand 0x0402 tileDomain classBankSwapBody c) c s
def execClassCounterRead (c : Cmd) (s : State) : Host.Outcome State Fault Refusal :=
  commandRow (runCommand 0x0403 tileDomain classCounterReadBody c) c s
def execPolicerSet (c : Cmd) (s : State) : Host.Outcome State Fault Refusal := commandRow (runCommand 0x0404 word0Tile policerSetBody c) c s
def execIndirWrite (c : Cmd) (s : State) : Host.Outcome State Fault Refusal :=
  commandRow (runCommand 0x0405 maskDomain indirWriteBody c) c s
def execCpuCodeWrite (c : Cmd) (s : State) : Host.Outcome State Fault Refusal :=
  commandRow (runCommand 0x0406 noDomain cpuCodeWriteBody c) c s
def execEncapWrite (c : Cmd) (s : State) : Host.Outcome State Fault Refusal :=
  commandRow (runCommand 0x0407 maskDomain encapWriteBody c) c s

/-! ### Group 0x05: forwarding -/

def execL2EntryWrite (c : Cmd) (s : State) : Host.Outcome State Fault Refusal :=
  commandRow (runCommand 0x0500 maskDomain (hostReqBody 1) c) c s
def execL2EntryDelete (c : Cmd) (s : State) : Host.Outcome State Fault Refusal :=
  commandRow (runCommand 0x0501 maskDomain (hostReqBody 2) c) c s
def execL2Flush (c : Cmd) (s : State) : Host.Outcome State Fault Refusal := commandRow (runCommand 0x0502 maskDomain l2FlushBody c) c s
def execL2Dump (c : Cmd) (s : State) : Host.Outcome State Fault Refusal := commandRow (runCommand 0x0503 tileDomain l2DumpBody c) c s
def execL2Reseed (c : Cmd) (s : State) : Host.Outcome State Fault Refusal := commandRow (runCommand 0x0504 tileDomain l2ReseedBody c) c s
def execL2RehashAck (c : Cmd) (s : State) : Host.Outcome State Fault Refusal :=
  commandRow (runCommand 0x0505 tileDomain l2RehashAckBody c) c s
def execLpmWrite (c : Cmd) (s : State) : Host.Outcome State Fault Refusal := commandRow (runCommand 0x0506 maskDomain lpmWriteBody c) c s
def execLpmSync (c : Cmd) (s : State) : Host.Outcome State Fault Refusal := commandRow (runCommand 0x0507 noDomain lpmSyncBody c) c s
def execFloodSetWrite (c : Cmd) (s : State) : Host.Outcome State Fault Refusal :=
  commandRow (runCommand 0x0508 maskDomain floodSetWriteBody c) c s

/-! ### Group 0x06: queues -/

def execBufQueueConfig (c : Cmd) (s : State) : Host.Outcome State Fault Refusal :=
  commandRow (runCommand 0x0600 queueDomain bufQueueConfigBody c) c s
def execXbarPlaneEnable (c : Cmd) (s : State) : Host.Outcome State Fault Refusal :=
  commandRow (runCommand 0x0601 noDomain xbarPlaneEnableBody c) c s
def execTmQueueConfig (c : Cmd) (s : State) : Host.Outcome State Fault Refusal :=
  commandRow (runCommand 0x0602 queueDomain tmQueueConfigBody c) c s
def execTmPortConfig (c : Cmd) (s : State) : Host.Outcome State Fault Refusal :=
  commandRow (runCommand 0x0603 tmPortDomain tmPortConfigBody c) c s
def execShaperSet (c : Cmd) (s : State) : Host.Outcome State Fault Refusal :=
  commandRow (runCommand 0x0604 shaperDomain shaperSetBody c) c s
def execTmCounterRead (c : Cmd) (s : State) : Host.Outcome State Fault Refusal :=
  commandRow (runCommand 0x0605 counterDomain tmCounterReadBody c) c s

/-! ### Group 0x07: Skeins -/

def execSkeinCreate (c : Cmd) (s : State) : Host.Outcome State Fault Refusal :=
  commandRow (runCommand 0x0700 createDomain skeinCreateBody c) c s
def execSkeinModify (c : Cmd) (s : State) : Host.Outcome State Fault Refusal :=
  commandRow (runCommand 0x0701 skeinDomain skeinModifyBody c) c s
def execSkeinDestroy (c : Cmd) (s : State) : Host.Outcome State Fault Refusal :=
  commandRow (runCommand 0x0702 skeinDomain skeinDestroyBody c) c s
def execSkeinMove (c : Cmd) (s : State) : Host.Outcome State Fault Refusal := commandRow (runCommand 0x0703 moveDomain skeinMoveBody c) c s
def execSkeinRead (c : Cmd) (s : State) : Host.Outcome State Fault Refusal := commandRow (runCommand 0x0704 noDomain skeinReadBody c) c s

/-! ### Group 0x08: Hooks -/

def execHookLoad (c : Cmd) (s : State) : Host.Outcome State Fault Refusal := commandRow (runCommand 0x0800 hookDomain hookLoadBody c) c s
def execHookBankSwitch (c : Cmd) (s : State) : Host.Outcome State Fault Refusal :=
  commandRow (runCommand 0x0801 hookDomain hookBankSwitchBody c) c s
def execHookForceSwap (c : Cmd) (s : State) : Host.Outcome State Fault Refusal :=
  commandRow (runCommand 0x0802 hookDomain hookForceSwapBody c) c s
def execHookDispatchWrite (c : Cmd) (s : State) : Host.Outcome State Fault Refusal :=
  commandRow (runCommand 0x0803 dispatchDomain hookDispatchWriteBody c) c s
def execHookEngineEnable (c : Cmd) (s : State) : Host.Outcome State Fault Refusal :=
  commandRow (runCommand 0x0804 enableDomain hookEngineEnableBody c) c s
def execHookServiceConfig (c : Cmd) (s : State) : Host.Outcome State Fault Refusal :=
  commandRow (runCommand 0x0805 serviceDomain hookServiceConfigBody c) c s
def execHookCall (c : Cmd) (s : State) : Host.Outcome State Fault Refusal := commandRow (runCommand 0x0806 noDomain hookCallBody c) c s

/-! ### Group 0x09: telemetry -/

def execTelemConfig (c : Cmd) (s : State) : Host.Outcome State Fault Refusal :=
  commandRow (runCommand 0x0900 (fun _ _ => some domTelemetry) telemConfigBody c) c s
def execTelemHistRead (c : Cmd) (s : State) : Host.Outcome State Fault Refusal :=
  commandRow (runCommand 0x0901 (fun _ _ => some domTelemetry) telemHistReadBody c) c s

/-! ### Group 0x0A: host queues -/

def execCastOn (c : Cmd) (s : State) : Host.Outcome State Fault Refusal := commandRow (runCommand 0x0A00 noDomain castOnBody c) c s
def execBindOff (c : Cmd) (s : State) : Host.Outcome State Fault Refusal := commandRow (runCommand 0x0A01 noDomain bindOffBody c) c s
def execDmaChannelConfig (c : Cmd) (s : State) : Host.Outcome State Fault Refusal :=
  commandRow (runCommand 0x0A02 noDomain dmaConfigBody c) c s
def execPoolConfig (c : Cmd) (s : State) : Host.Outcome State Fault Refusal := commandRow (runCommand 0x0A03 noDomain poolConfigBody c) c s
def execLegacyModeSwitch (c : Cmd) (s : State) : Host.Outcome State Fault Refusal :=
  commandRow (runCommand 0x0A04 noDomain legacyBody c) c s
def execLegacyQueueConfig (c : Cmd) (s : State) : Host.Outcome State Fault Refusal :=
  commandRow (runCommand 0x0A04 noDomain legacyBody c) c s

/-! ### Group 0x0B: power -/

def execPowerTolerance (c : Cmd) (s : State) : Host.Outcome State Fault Refusal :=
  commandRow (runCommand 0x0B00 noDomain powerToleranceBody c) c s
def execOpPointSet (c : Cmd) (s : State) : Host.Outcome State Fault Refusal := commandRow (runCommand 0x0B01 noDomain opPointSetBody c) c s
def execPowerCap (c : Cmd) (s : State) : Host.Outcome State Fault Refusal := commandRow (runCommand 0x0B02 noDomain powerCapBody c) c s
def execDomainForce (c : Cmd) (s : State) : Host.Outcome State Fault Refusal :=
  commandRow (runCommand 0x0B03 noDomain domainForceBody c) c s
def execDeviceWideForce (c : Cmd) (s : State) : Host.Outcome State Fault Refusal :=
  commandRow (runCommand 0x0B03 noDomain domainForceBody c) c s
def execCellSleepSleep (c : Cmd) (s : State) : Host.Outcome State Fault Refusal :=
  commandRow (runCommand 0x0B04 noDomain cellSleepBody c) c s
def execCellSleepWake (c : Cmd) (s : State) : Host.Outcome State Fault Refusal :=
  commandRow (runCommand 0x0B04 noDomain cellSleepBody c) c s

/-! ### Group 0x0C: security -/

def execLifecycleAdvance (c : Cmd) (s : State) : Host.Outcome State Fault Refusal :=
  commandRow (runCommand 0x0C00 noDomain lifecycleAdvanceBody c) c s
def execMacsecKekInstall (c : Cmd) (s : State) : Host.Outcome State Fault Refusal :=
  commandRow (runCommand 0x0C01 macsecDomain macsecBody c) c s
def execMacsecTxSakInstall (c : Cmd) (s : State) : Host.Outcome State Fault Refusal :=
  commandRow (runCommand 0x0C01 macsecDomain macsecBody c) c s
def execMacsecRxSakInstall (c : Cmd) (s : State) : Host.Outcome State Fault Refusal :=
  commandRow (runCommand 0x0C01 macsecDomain macsecBody c) c s
def execMacsecPtpKeyInstall (c : Cmd) (s : State) : Host.Outcome State Fault Refusal :=
  commandRow (runCommand 0x0C01 macsecDomain macsecBody c) c s
def execMacsecKeyDelete (c : Cmd) (s : State) : Host.Outcome State Fault Refusal :=
  commandRow (runCommand 0x0C01 macsecDomain macsecBody c) c s
def execZeroize (c : Cmd) (s : State) : Host.Outcome State Fault Refusal := commandRow (runCommand 0x0C02 noDomain zeroizeBody c) c s
def execDebugChallenge (c : Cmd) (s : State) : Host.Outcome State Fault Refusal := commandRow (runCommand 0x0C03 noDomain debugBody c) c s
def execDebugPart (c : Cmd) (s : State) : Host.Outcome State Fault Refusal := commandRow (runCommand 0x0C03 noDomain debugBody c) c s
def execDebugOpen (c : Cmd) (s : State) : Host.Outcome State Fault Refusal := commandRow (runCommand 0x0C03 noDomain debugBody c) c s
def execDebugClose (c : Cmd) (s : State) : Host.Outcome State Fault Refusal := commandRow (runCommand 0x0C04 noDomain debugCloseBody c) c s

/-! ### Group 0x0D: profiles -/

/-- The row TACK: one that is held has its image staged (R432). -/
def execTack (c : Cmd) (s : State) : Host.Outcome State Fault Refusal := commandRow (takeTack c) c s
def execProfileWrite (c : Cmd) (s : State) : Host.Outcome State Fault Refusal :=
  commandRow (runCommand 0x0D01 noDomain profileWriteBody c) c s
def execProfileRead (c : Cmd) (s : State) : Host.Outcome State Fault Refusal :=
  commandRow (runCommand 0x0D02 noDomain profileReadBody c) c s

/-! ### Group 0x0E: faults -/

def execFaultRead (c : Cmd) (s : State) : Host.Outcome State Fault Refusal := commandRow (runCommand 0x0E00 noDomain faultReadBody c) c s
def execFaultAck (c : Cmd) (s : State) : Host.Outcome State Fault Refusal := commandRow (runCommand 0x0E01 noDomain faultAckBody c) c s
def execForceSet (c : Cmd) (s : State) : Host.Outcome State Fault Refusal := commandRow (runCommand 0x0E02 faultDomain forceSetBody c) c s
def execFlipMaskSet (c : Cmd) (s : State) : Host.Outcome State Fault Refusal :=
  commandRow (runCommand 0x0E03 faultDomain flipMaskSetBody c) c s

end Sys2Proof.Machine
end

