-- ==== Sys2Proof/Machine/Intake.lean ====
section
/-! DEFINITION. Where commands and frames come in: timed commands (R295), admin rings (R312, R313), frames of ports (R7, R89, R291),
and the exit of power domains (R338, R343, R345, R414, R415). -/

namespace Sys2Proof.Machine

/-! ### Timed commands -/

/-- TIMED_COMMAND_APPLY: the pending command of an acceptance number applies in its switch tick (R295). Bank switches of the Rigging
and of the clusters, and the Tack, have rows of their own. -/
def timedApply (order : Nat) (s : State) : State :=
  match s.cmd.timed.find? fun t => t.order == order && s.timedDue t && s.turn t && !([0x202, 0x801, 0xD00].contains t.opcode) with
  | none => s
  | some t => match meaningOf t.opcode with
    | some m => applyTimed m.2 t s
    | none => s

def execTimedCommandApply (order : Nat) (s : State) : Host.Outcome State Fault Refusal := keep s (timedApply order s)

/-- The clock in which a packet's last byte comes (R300), the second or the first of the present tick: free (log 86). -/
def State.inClock (s : State) : Nat × State :=
  let (w, s) := takeFree s
  (2 * s.tick + b2n (w.getLsbD 0), s)

/-! ### Admin submission rings (R312, R313) -/

/-- The command of an admin submission entry (Table 14-3); the words after its eighth are its parameter block. -/
def adminCmd (f clock : Nat) (e : List W) : Cmd :=
  { src := fnSrc f, clock := clock, w0 := e.getD 1 0, w1 := e.getD 2 0, params := e.drop 8
    ret := { addr := (e.getD 4 0).toNat, max := fld (e.getD 0 0) 31 0 } }

/-- Take the fetched entries of an admin ring in order: up to one that host software does not own, and while the function holds fewer
commands than its limit. -/
def takeAdmin (f : Nat) : List (List W) → State → State
  | [], s => s
  | e :: es, s =>
    let x := s.fn f
    let src := fnSrc f
    if !x.enabled || x.sq.h == x.sq.d || decide (maxOutstanding src ≤ s.outstanding src) then s
    else if e.isEmpty then takeAdmin f es (pcieError 5 (s.setFn f { x with sq := { x.sq with h := (x.sq.h + 1) % 65536 } }))
    else if !x.sq.owned 63 e then (s.setFn f { x with sq := { x.sq with miss := some s.tick } }).bump .fnCnt [f] 31 16
    else
      let s := s.setFn f { x with sq := { x.sq with h := (x.sq.h + 1) % 65536 } }
      let (clock, s) := s.inClock
      takeAdmin f es (takeCommand (adminCmd f clock e) s)

/-- RING_FETCH_DONE. -/
def ringFetch (ring : Ring) (entries : List (List W)) (s : State) : State :=
  match ring with
  | .admin f0 =>
    let f := f0 % 64
    let x := s.fn f
    if x.enabled && x.sq.fetches && s.pcieUp then takeAdmin f (entries.take (x.sq.span 16)) s else s
  | _ => fetchDone ring entries s

def execRingFetchDone (ring : Ring) (entries : List (List W)) (s : State) : Host.Outcome State Fault Refusal :=
  keepTaken s (ringFetch ring entries s)

/-! ### Frames -/

/-- A frame that the management controller takes from a port (R291). A DRAVUA source has the command version that the link's Hello
agreed (R297). -/
def takeFrame (src : Source) (port : Nat) (p : Parse) (b : List Byte) (s : State) : State :=
  let s := match src with
    | .dravua _ => s.setVersion src ((s.prt port).ver + 1)
    | _ => s
  if p.dravuaType = 0x31 then relayFrame port p.msgOff b s
  else
    let (clock, s) := s.inClock
    takeCommand (cmdOfFrame src clock p.msgOff port b) s

/-- The port block passes a frame on, and its Tile's pipeline decides what becomes of it. A Hello ends in the port
block (R89). A Tile that sleeps begins its exit, and the frame is lost. -/
def frameIn (port : Nat) (f : RxFrame) (s : State) : State :=
  if s.linkUp port && s.rxAwake port && f.fcsGood && helloGood port f.bytes s then helloRx port f.bytes s
  else if !s.canReceive port f then s
  else if !s.awake (domTile (tileOf port)) then work (domTile (tileOf port)) s
  else
    let s := work (domTile (tileOf port)) s
    let k := receivedPkt s port f
    let p := parse (s.parseCfgOf (tileOf port) port) f.bytes
    match mgmtFrame s port p k.macsec with
    | none => pipeline (tileOf port) k f.fcsGood s
    | some none => s.bump .cmdRejectCnt [] 47 0
    | some (some src) => if f.fcsGood then takeFrame src port p f.bytes s else s

/-- PACKET_INGRESS: what the line symbols carry enters (R76 to R79); nothing does where decoding fails, which LANE_FEC_CNT counts. -/
def packetIngress (port : Nat) (frame : RxFrame) (s : State) : State :=
  match decodeFrame port frame s with
  | (some f, s) => frameIn port f s
  | (none, s) => s

def execPacketIngress (port : Nat) (frame : RxFrame) (s : State) : Host.Outcome State Fault Refusal :=
  keepTaken s (packetIngress (port % 512) frame s)

/-! ### What a domain lost (R338) -/

/-- The registers that keep a domain's configuration in PS3: those that software writes. -/
def configAccess : Access → Bool
  | .rw | .rws | .wo => true
  | _ => false

/-- The registers of a domain after PS3 or PS4: configuration is kept in PS3, everything else is at its reset value. -/
def regsLost (d st : Nat) (s : State) : State :=
  let keeps := fun (x : Nat × W) => keyDomain x.1 != d || (st == 3 && match regAt x.1 with
    | some (r, _) => configAccess (regDesc r).acc
    | none => false)
  { s with regs := s.regs.filter keeps }

/-- The memories of a domain return cleared, and their scrubbers start again at word 0 (R399); in PS4 its fault sources are lost too. -/
def memsLost (d st : Nat) (s : State) : State :=
  let s := memClearWhere (fun k => srcDomain (k / 2 ^ 48 / 64) (k / 2 ^ 48 % 64) == d) s
  let clear := fun (k : Nat) (x : FaultSrc) =>
    if srcDomain (k / 64) (k % 64) = d then (if st = 3 then { x with scrubPos := [], scrubStart := [] } else {}) else x
  { s with flt := { s.flt with srcs := tmapv {} clear s.flt.srcs } }

/-- A port whose port block or lanes lost their logic: LINK_UP ends, and a new attempt starts where one was running. -/
def portLost (p : Nat) (s : State) : State :=
  let x := s.prt p
  if !x.formed || x.state == 0 then s else if x.state = 2 then linkDown p 1 s else startAttempt p s

/-- Tile t: its tables, its slice, its queues and its streams are empty (R155, R338), its keys are gone (R390). -/
def tileLost (t st : Nat) (s : State) : State :=
  let old := s.tl t
  let new : TileState := if st = 3 then { l2Seed := old.l2Seed, l2Epoch := old.l2Epoch, lpmEpoch := old.lpmEpoch, emSeed := old.emSeed } else {}
  let x := s.pk.xbar
  let queue := fun (k : Nat) (q : TmQueue) =>
    if k / 512 ≠ t then q else if st = 3 then { cfg := q.cfg, profile := q.profile, shaper := q.shaper, shaperNext := q.shaperNext } else {}
  let tport := fun (k : Nat) (q : TmPort) => if k / 32 ≠ t then q else if st = 3 then { cfg := q.cfg, shaper := q.shaper, shaperNext := q.shaperNext } else {}
  let stream := fun (k : Nat) => k / 64 == t || k / 4 % 16 == t
  let s := (s.setTl t new).setSlice t {}
  let s : State := { s with out := { s.out with mgmtTx := s.out.mgmtTx.filter fun y => y.1 / 32 != t } }
  let s := s.setXbar { x with
    seq := x.seq.filter fun y => !stream y.1, pktSeq := x.pktSeq.filter fun y => !stream y.1
    streams := x.streams.filter fun y => !stream y.1, lost := x.lost.filter fun y => !stream y.1
    flight := x.flight.filter fun c => c.dst != t && c.src != t, accepts := x.accepts.filter fun a => a.2.1 != t && a.2.2 != t
    requests := [] }
  let s := s.modPk fun k => { k with
    queues := tmapv {} queue k.queues, tports := tmapv {} tport k.tports, turns := k.turns.filter fun y => y.1 / 4 != t
    pulls := k.pulls.filter fun y => y.slice != t }
  let s : State := { s with mast := { s.mast with txts := s.mast.txts.filter fun y => y.1 / 32 != t } }
  let s := s.modSec fun k => { k with
    txSa := k.txSa.filter fun y => y.1 / 128 != t, txAn := k.txAn.filter fun y => y.1 / 32 != t
    rxSa := k.rxSa.filter fun y => y.1 / 1024 != t }
  tileClock t ((portsOf t).foldl (fun s p => portLost p s) s)

/-- SerDes group g: its lanes lost their state; what LANE_DOZE_CONFIG set is kept in PS3. -/
def serdesLost (g st : Nat) (s : State) : State :=
  let s := (List.range 64).foldl (fun s i => s.modLane (64 * g + i) fun l =>
    if st = 3 then { guard := l.guard, guardCeil := l.guardCeil, suspended := l.suspended } else {}) s
  (List.range 512).foldl (fun s p => if (s.prt p).formed && (s.lanesOf p).any (fun n => n / 64 == g) then portLost p s else s) s

/-- Cluster q: its active Hook image has been reloaded (Table 15-1), its inactive bank, queue, memory and engines are empty; failed
engines stay failed. -/
def clusterLost (q : Nat) (s : State) : State :=
  let c := s.cluster q
  let a := c.active
  let failed := fun (x : Engine) => ({ failed := x.failed } : Engine)
  remapShares q (s.setCluster q {
    active := a, nextSeq := c.nextSeq, shares := c.shares
    disp := c.disp.filter fun x => x.1 / 256 == a, store := c.store.filter fun x => x.1 / 16384 == a
    epochs := c.epochs.filter fun x => x.1 == a, versions := c.versions.filter fun x => x.1 == a
    words := c.words.filter fun x => x.1 == a, services := c.services.filter fun x => x.1 / 16 == a
    engines := tmapv {} (fun _ x => failed x) c.engines })

/-- The management domain: replies, events and commands that waited are gone, command versions are 1 again, the PTP key table is empty
(Table 16-11); the routes of events are kept in PS3. -/
def mgmtLost (st : Nat) (s : State) : State :=
  { s with
    sec := { s.sec with ptpKeys := [] }
    cmd := { early := s.cmd.early, route := (if st = 3 then s.cmd.route else []), nextOrder := s.cmd.nextOrder
             nextRelay := s.cmd.nextRelay, msixOff := s.cmd.msixOff } }

/-- The Mast clock: Mast time and the Rigging's banks are lost; what MAST_CONFIG and TIMELINE_SET wrote is kept in PS3. -/
def mastLost (st : Nat) (s : State) : State :=
  { s with
    mast := if st = 3 then { tick := s.mast.tick, running := true, params := s.mast.params } else { tick := s.mast.tick, running := true }
    rig := if st = 3 then { timelines := s.rig.timelines } else {} }

/-- What domain d lost in a state. -/
def contentsLost (d st : Nat) (s : State) : State :=
  let s := regsLost d st (memsLost d st s)
  if d < 16 then tileLost d st s
  else if d < 24 then serdesLost (d - 16) st s
  else if d < 28 then clusterLost (d - 24) s
  else if d < 32 then quarterLost (d - 28) s
  else if d < 34 then
    let mine := fun (y : Nat × Option Nat) => y.1 / 16 / 6 != d - 32
    s.setXbar { s.pk.xbar with g := s.pk.xbar.g.filter mine, a := s.pk.xbar.a.filter mine }
  else if d = 34 then mgmtLost st s
  else if d = 35 then mastLost st s
  else if d = 36 then hostLost s
  else if d = 37 then
    raiseInt 6 .telIntStatus [] 1 (s.modPk fun k => { k with telem := { histReset := true } })
  else s

/-! ### Stale objects (R413 to R415) -/

/-- The configuration objects that a domain holds, each with the fault source that counts a rejection. Those of the PCIe domain end with
their contents (R336). -/
def State.objectsOf (s : State) (d : Nat) : List (Nat × Nat × Nat) :=
  if d < 16 then [(ekClass d 0, 11, d), (ekClass d 1, 11, d), (ekL2 d, 12, d), (ekLpm d, 12, d)]
  else if d < 24 then (List.range 64).map fun i => (ekLane (64 * (d - 16) + i), 10, 8 * (d - 16) + i / 8)
  else if d < 28 then [(ekCluster (d - 24), 8, d - 24)]
  else if d < 32 then (s.sk.descs.filter fun x => x.2.valid && x.2.cluster == d - 28).map fun x => (ekSkein x.1, 9, d - 28)
  else if d < 34 then [(ekXbar, 13, 16 + 6 * (d - 32))]
  else if d = 35 then (List.range 8).map (fun t => (ekTimeline t, 5, 0)) ++ [(ekBank 0, 5, 0), (ekBank 1, 5, 0)]
  else []

/-- The Hook epochs of a cluster's banks are its image's; a Skein's SKEIN_EPOCH belongs to its descriptor, which no quarter holds
(R223): neither advances with its domain. -/
def advances (k : Nat) : Bool := decide (k < 0x10000)

/-- An object that a returning domain finds stale: counted in class STALE; its CHANGED clears. -/
def rejectStale (lost : Bool) (o : Nat × Nat × Nat) (s : State) : State :=
  let e := tget {} s.epochs o.1
  if !lost && !e.changed then s
  else
    let s := reportFault { block := o.2.1, inst := o.2.2, cls := 13, sev := b2n lost } s
    { s with epochs := tset {} s.epochs o.1 { tget {} s.epochs o.1 with changed := false } }

/-- The check of every object that a domain held before it uses any again (R414); one that comes from PS3 or PS4 finds them all stale,
and their epochs have advanced (R338, R415). -/
def checkObjects (d st : Nat) (s : State) : State :=
  let l := s.objectsOf d
  let s := if st ≤ 2 then s else l.foldl (fun s o => if advances o.1 then bumpEpoch o.1 d s else s) s
  l.foldl (fun s o => rejectStale (decide (3 ≤ st)) o s) s

/-! ### The end of an exit -/

/-- Take the commands that waited for a domain (R347). -/
def takeWaiting (d : Nat) (s : State) : State :=
  let l := s.cmd.waiting.filter fun w => w.domain == d
  let s : State := { s with cmd := { s.cmd with waiting := s.cmd.waiting.filter fun w => w.domain != d } }
  l.foldl (fun s w => takeCommand w.cmd s) s

/-- DOMAIN_EXIT_DONE: a domain has left its state. One that it needs goes first (R343): until that has left its own, the exit goes
on, however long a force holds the other (R346). -/
def domainExitDone (d : Nat) (s : State) : State :=
  let x := s.domain d
  if !x.exiting || (s.followers d).any (fun k => (s.domain k).exiting) || !s.mayCome d (s.exitState d) then s
  else if 3 ≤ x.state ∧ d ∈ s.sec.badMaps then repairFails d (s.setDomain d { x with exiting := false })
  else
    let from_ := x.state
    let s := if from_ ≤ 2 then s else contentsLost d from_ s
    let s := when (decide (2 ≤ from_)) (checkObjects d from_) s
    let s := s.setDomain d { s.domain d with state := s.exitState d, exiting := false, idleSince := List.replicate 4 s.tick }
    let s := if d < 16 ∧ 2 ≤ from_ then tileClock d s else s
    let s := domainChange (retarget (if s.awake d then takeRecorded d s else s))
    let s := when (d == domMgmt && s.awake d) postHeld s
    if s.awake d then takeWaiting d s else s

/-- The Mast clock's counters stop with their domain in PS3 and PS4. -/
def timeLost (d : Nat) (s : State) : Bool := d == domMast && (s.domain d).exiting && decide (3 ≤ (s.domain d).state)

def execDomainExitDone (domain : Nat) (s : State) : Host.Outcome State Fault Refusal :=
  if timeLost (domain % 38) s then finish s { domainExitDone (domain % 38) { s with time := {} } with time := {} }
  else keepTaken s (domainExitDone (domain % 38) s)

end Sys2Proof.Machine
end

