-- ==== Sys2Proof/Machine/Micro.lean ====
section
/-! DEFINITION. The scalar microwords of the Hook engines (R243 to R247, Tables 11-2 to 11-4) and how an engine issues a microword. -/

namespace Sys2Proof.Machine

/-! ### Fields of a microword (Table 11-3) -/

def mwOp (w : Nat) : Nat := nfld w 23 18
def mwD (w : Nat) : Nat := nfld w 17 13
def mwA (w : Nat) : Nat := nfld w 12 8
def mwB (w : Nat) : Nat := nfld w 7 3
def mwFn (w : Nat) : Nat := nfld w 2 0
def mwImm (w : Nat) : Nat := nfld w 12 0
def mwAmt (w : Nat) : Nat := nfld w 7 2
def mwKind (w : Nat) : Nat := nfld w 1 0
def mwSpace (w : Nat) : Nat := nfld w 7 5
def mwOff (w : Nat) : Nat := nfld w 4 0
def mwTarget (w : Nat) : Nat := nfld w 15 0
def mwFlags (w : Nat) : Nat := nfld w 7 0

/-- The highest microaddress (R245). -/
def maxMicro : Nat := 49151

/-- Vector operations. -/
def isVector (op : Nat) : Bool := 0x28 ≤ op && op ≤ 0x2E

/-- Operations that Table 11-4 lists. -/
def opListed (op : Nat) : Bool := op ≤ 0x12 || (0x14 ≤ op && op ≤ 0x22) || isVector op

/-- The registers that a microword reads, in the order in which its effect takes them. -/
def microReads (w : Nat) : List Nat :=
  let op := mwOp w
  if (1 ≤ op && op ≤ 6) || [0x0B, 0x0C, 0x0D, 0x10, 0x1D].contains op then [mwA w, mwB w]
  else if [0x07, 0x0F, 0x11, 0x1B, 0x21].contains op then [mwA w]
  else if op = 0x08 ∨ op = 0x0A then [mwD w]
  else if op = 0x0E then [mwA w, mwB w, mwD w]
  else if op = 0x12 then [mwA w, mwD w]
  else if op = 0x14 ∨ op = 0x15 ∨ op = 0x16 then [mwD w]
  else if op = 0x1C then [mwA w, mwOff w]
  else if op = 0x2D then [mwD w, mwD w + 1]
  else if 0x29 ≤ op ∧ op ≤ 0x2E then [mwD w]
  else []

/-- A microword that is ILLEGAL by its fields alone (R246, Tables 11-4 and 11-9). -/
def formatBad (w : Nat) : Bool :=
  let op := mwOp w
  !opListed op || (isVector op && 4 ≤ mwFlags w) || (op == 0x2D && mwD w % 2 == 1) || (op == 0x17 && 10 ≤ mwD w)
    || (op == 0x1C && 6 ≤ mwSpace w)

/-! ### Issue (R247, R249) -/

/-- May an engine issue a microword: it runs a routine, does not wait, and no vector operation holds it up? -/
def State.mayIssue (s : State) (q e : Nat) : Bool :=
  let n := s.eng q e
  s.awake (domCluster q) && n.routine.isSome && !n.failed && n.wait.isNone && n.vec.all fun v => v.async || v.below

/-- A microword stalls while a vector operation is in progress: another vector operation, a read of its D, the END of its routine. -/
def stalls (n : Engine) (w : Nat) : Bool :=
  match n.vec with
  | none => false
  | some v => isVector (mwOp w) || (v.dreg != 0 && (microReads w).contains v.dreg) || (mwOp w == 0x1E && !v.below)

/-- Clocks in which an engine waits for a STITCH with ASYNC = 1 are clocks in the ordering unit: its count stands until the STITCH
completes (R249, R256). -/
def stallClocks (q e : Nat) (s : State) : State :=
  if (s.eng q e).vec.any fun v => v.async && v.stitch && !v.below then
    s.modEng q e fun n => { n with routine := n.routine.map fun r => r.pause s.tick }
  else s

/-- Read registers in order: none when one was uncorrectable and the engine failed. -/
def getRegs (q e : Nat) : List Nat → State → Option (List W72) × State
  | [], s => (some [], s)
  | r :: rs, s => match getReg q e r s with
    | (none, s) => (none, s)
    | (some v, s) => match getRegs q e rs s with
      | (none, s) => (none, s)
      | (some l, s) => (some (v :: l), s)

/-- The ILLEGAL trap of a microword. -/
def illegal (q e w : Nat) (s : State) : State := faultTrap q e 1 w s

/-- Issue the engine's next microword when its operation is one of `p`: fetch, registers, effect `f`. An address beyond the bank is
ILLEGAL, an uncorrectable control-store word a MEM_UE of SPACE 7. -/
def issue (p : Nat → Bool) (f : Nat → List W72 → State → State) (q e : Nat) (s : State) : State :=
  let n := s.eng q e
  match n.routine with
  | none => s
  | some r =>
    if !s.mayIssue q e then s
    else if maxMicro < n.pc then illegal q e 0 s
    else match fetchMicro q r.bank n.pc s with
      | (none, t) => faultTrap q e 0 (7 * 2 ^ 29 + n.pc / 3) t
      | (some w, t) =>
        if !p (mwOp w) then s
        else if stalls n w then stallClocks q e s
        else if formatBad w then illegal q e w t
        else match getRegs q e (microReads w) t with
          | (none, u) => u
          | (some l, u) => f w l u

/-- A row's microword. -/
def micro (op : Nat) (f : Nat → List W72 → State → State) (q e : Nat) (s : State) : Host.Outcome State Fault Refusal :=
  keep s (issue (fun x => x == op) f (q % 4) (e % 16) s)

/-- The engine goes on at a microaddress. -/
def goto (q e a : Nat) (s : State) : State := s.modEng q e fun n => { n with pc := a }

/-- The engine goes on with the next microword. -/
def advance (q e : Nat) (s : State) : State := s.modEng q e fun n => { n with pc := n.pc + 1 }

/-- Write D and go on. -/
def result (q e d : Nat) (v : W72) (s : State) : State := advance q e (putReg q e d v s)

/-! ### Scalar arithmetic (R243, Table 11-4) -/

/-- The scalar view of a register, and a scalar result. -/
def lo64 (v : W72) : W := v.setWidth 64
def up72 (v : W) : W72 := v.setWidth 72

/-- Z and N of a result. -/
def setZN (q e : Nat) (v : W) (s : State) : State := s.modEng q e fun n => { n with z := v == 0, n := v.msb }

/-- C and V. -/
def setCV (q e : Nat) (c v : Bool) (s : State) : State := s.modEng q e fun n => { n with c := c, v := v }

/-- A scalar result with Z and N. -/
def scalarZN (q e d : Nat) (v : W) (s : State) : State := setZN q e v (result q e d (up72 v) s)

/-- Carry out of bit 63 and signed overflow of a sum; signed overflow of a difference. -/
def addCarry (a b : W) : Bool := 2 ^ 64 ≤ a.toNat + b.toNat
def addOver (a b : W) : Bool := a.msb == b.msb && (a + b).msb != a.msb
def subOver (a b : W) : Bool := a.msb != b.msb && (a - b).msb != a.msb

/-- A free bit. -/
def freeBit (s : State) : Bool × State := let f := takeFree s; (f.1.getLsbD 0, f.2)

/-- D = A + B with all flags. -/
def addTo (q e d : Nat) (a b : W) (s : State) : State := setCV q e (addCarry a b) (addOver a b) (scalarZN q e d (a + b) s)

/-- Flags of A − B. The spec does not say whether C of a difference is a carry or a borrow: a free value. -/
def subFlags (q e : Nat) (a b : W) (s : State) : State :=
  let f := freeBit s
  setCV q e f.1 (subOver a b) (setZN q e (a - b) f.2)

/-- A shifted by n bits: 0 SHL, 1 SHR, 2 SAR, 3 ROR; none for another code. -/
def shifted (kind : Nat) (a : W) (n : Nat) : Option W :=
  match kind with
  | 0 => some (a <<< n)
  | 1 => some (a >>> n)
  | 2 => some (a.sshiftRight n)
  | 3 => some (a.rotateRight n)
  | _ => none

/-- Operand i of a microword, its scalar view. -/
def opd (l : List W72) (i : Nat) : W72 := l.getD i 0
def opw (l : List W72) (i : Nat) : W := lo64 (opd l i)

/-- IMM, sign-extended. -/
def immS (w : Nat) : W := BitVec.ofInt 64 (sgn 13 (mwImm w))

/-- A scalar result that may be unstated: then a free value. -/
def scalarOr (q e d : Nat) (v : Option W) (s : State) : State :=
  match v with
  | some x => scalarZN q e d x s
  | none => let f := takeFree s; scalarZN q e d f.1 f.2

def execMicroNop (q e : Nat) (s : State) : Host.Outcome State Fault Refusal := micro 0x00 (fun _ _ => advance (q % 4) (e % 16)) q e s

def execMicroAdd (q e : Nat) (s : State) : Host.Outcome State Fault Refusal :=
  micro 0x01 (fun w l => addTo (q % 4) (e % 16) (mwD w) (opw l 0) (opw l 1)) q e s

def execMicroSub (q e : Nat) (s : State) : Host.Outcome State Fault Refusal :=
  micro 0x02 (fun w l s => subFlags (q % 4) (e % 16) (opw l 0) (opw l 1)
    (result (q % 4) (e % 16) (mwD w) (up72 (opw l 0 - opw l 1)) s)) q e s

def execMicroAnd (q e : Nat) (s : State) : Host.Outcome State Fault Refusal :=
  micro 0x03 (fun w l => scalarZN (q % 4) (e % 16) (mwD w) (opw l 0 &&& opw l 1)) q e s

def execMicroOr (q e : Nat) (s : State) : Host.Outcome State Fault Refusal :=
  micro 0x04 (fun w l => scalarZN (q % 4) (e % 16) (mwD w) (opw l 0 ||| opw l 1)) q e s

def execMicroXor (q e : Nat) (s : State) : Host.Outcome State Fault Refusal :=
  micro 0x05 (fun w l => scalarZN (q % 4) (e % 16) (mwD w) (opw l 0 ^^^ opw l 1)) q e s

/-- SHIFT by B[5:0]; FN 4 to 7 name no shift: a free value. -/
def execMicroShift (q e : Nat) (s : State) : Host.Outcome State Fault Refusal :=
  micro 0x06 (fun w l => scalarOr (q % 4) (e % 16) (mwD w) (shifted (mwFn w) (opw l 0) (fld (opw l 1) 5 0))) q e s

def execMicroShifti (q e : Nat) (s : State) : Host.Outcome State Fault Refusal :=
  micro 0x07 (fun w l => scalarOr (q % 4) (e % 16) (mwD w) (shifted (mwKind w) (opw l 0) (mwAmt w))) q e s

def execMicroAddi (q e : Nat) (s : State) : Host.Outcome State Fault Refusal :=
  micro 0x08 (fun w l => addTo (q % 4) (e % 16) (mwD w) (opw l 0) (immS w)) q e s

def execMicroMovi (q e : Nat) (s : State) : Host.Outcome State Fault Refusal :=
  micro 0x09 (fun w _ => result (q % 4) (e % 16) (mwD w) (up72 (immS w))) q e s

def execMicroCati (q e : Nat) (s : State) : Host.Outcome State Fault Refusal :=
  micro 0x0A (fun w l => result (q % 4) (e % 16) (mwD w) (up72 (opw l 0 <<< 13 ||| BitVec.ofNat 64 (mwImm w)))) q e s

/-- The signed product of the low 32 bits of two operands. -/
def mulWord (a b : W) : W := BitVec.ofInt 64 (sgn 32 (fld a 31 0) * sgn 32 (fld b 31 0))

def execMicroMul (q e : Nat) (s : State) : Host.Outcome State Fault Refusal :=
  micro 0x0B (fun w l => scalarZN (q % 4) (e % 16) (mwD w) (mulWord (opw l 0) (opw l 1))) q e s

def execMicroCmp (q e : Nat) (s : State) : Host.Outcome State Fault Refusal :=
  micro 0x0C (fun _ l s => subFlags (q % 4) (e % 16) (opw l 0) (opw l 1) (advance (q % 4) (e % 16) s)) q e s

/-- A mask of n low bits. -/
def lowMask (n : Nat) : W := BitVec.ofNat 64 (2 ^ n - 1)

/-- EXT: the field of A that B names. -/
def extWord (a b : W) : W := (a >>> fld b 5 0) &&& lowMask (fld b 11 6 + 1)

/-- INS: D with the field that B names taken from A. -/
def insWord (a b d : W) : W :=
  let m := lowMask (fld b 11 6 + 1)
  (d &&& ~~~(m <<< fld b 5 0)) ||| ((a &&& m) <<< fld b 5 0)

def execMicroExt (q e : Nat) (s : State) : Host.Outcome State Fault Refusal :=
  micro 0x0D (fun w l s =>
    let v := extWord (opw l 0) (opw l 1)
    (result (q % 4) (e % 16) (mwD w) (up72 v) s).modEng (q % 4) (e % 16) fun n => { n with z := v == 0 }) q e s

def execMicroIns (q e : Nat) (s : State) : Host.Outcome State Fault Refusal :=
  micro 0x0E (fun w l => result (q % 4) (e % 16) (mwD w) (up72 (insWord (opw l 0) (opw l 1) (opw l 2)))) q e s

def execMicroMov (q e : Nat) (s : State) : Host.Outcome State Fault Refusal :=
  micro 0x0F (fun w l => result (q % 4) (e % 16) (mwD w) (opd l 0)) q e s

/-- PAIR on the 36-bit halves; FN 2 to 7 name no operation: a free value. -/
def pairWord (fn : Nat) (a b : W72) : Option W72 :=
  let half := fun (f : BitVec 36 → BitVec 36 → BitVec 36) =>
    (f (a.extractLsb' 36 36) (b.extractLsb' 36 36)) ++ (f (a.extractLsb' 0 36) (b.extractLsb' 0 36))
  match fn with
  | 0 => some (half (· + ·))
  | 1 => some (half (· - ·))
  | _ => none

def execMicroPair (q e : Nat) (s : State) : Host.Outcome State Fault Refusal :=
  micro 0x10 (fun w l s => match pairWord (mwFn w) (opd l 0) (opd l 1) with
    | some v => result (q % 4) (e % 16) (mwD w) v s
    | none => let f := free72 s; result (q % 4) (e % 16) (mwD w) f.1 f.2) q e s

/-! ### Address spaces (Table 11-2, R244) -/

/-- The BLOCK_MASK of the service of an engine's routine (Table 11-17). -/
def State.blockMask (s : State) (q e : Nat) : Nat :=
  match (s.eng q e).routine with
  | some r => svBlocks ((s.cluster q).service r.service)
  | none => 0

/-- May a word address of a space be accessed? -/
def State.spaceOk (s : State) (q e sp a : Nat) (write : Bool) : Bool :=
  match sp with
  | 0 => decide (a < 2048)
  | 1 => decide (a < 65536)
  | 2 => decide (a < 3145728)
  | 3 => !write && decide (a < 786432)
  | 4 => !write && decide (a < 2052)
  | 5 => decide (a < 4096)
  | 6 => match blockOf (8 * a) with
    | some b => (s.blockMask q e).testBit b
    | none => false
  | _ => false

/-- CAUSE of an ACCESS or MEM_UE trap (Table 11-10). -/
def spaceCause (sp a : Nat) : Nat := sp % 8 * 2 ^ 29 + a % 2 ^ 29

/-- The byte address of a BLOCK word lies in a domain that serves it only later (R460). -/
def State.blockLater (s : State) (q a : Nat) : Bool :=
  match keyAt (.hook q) (8 * a) with
  | some k => s.reach (keyDomain k) == .later
  | none => false

/-- Wake the domain of a BLOCK word. -/
def wakeBlock (q a : Nat) (s : State) : State :=
  match keyAt (.hook q) (8 * a) with
  | some k => wakeDomain (keyDomain k) s
  | none => s

/-- A word of a quarter that holds what the cluster keeps of its instances and Strands, in a form that no table gives. -/
def State.hidden (s : State) (q a : Nat) : Bool :=
  s.sk.descs.any fun x =>
    let y := x.2
    let o := y.qbase + 24 * y.numPrb + 2 * ((y.numPrb + 7) / 8)
    y.valid && y.cluster == q && decide (o ≤ a) && decide (a < o + 72 + y.numStrands)

/-- Word i of a descriptor (Table 9-1). -/
def Skein.word (x : Skein) (i : Nat) : W :=
  match i with
  | 0 => x.w0
  | 1 => x.w1
  | 2 => x.w2
  | _ => if x.valid then Machine.mk 63 48 x.epoch ||| Machine.mk 47 26 x.qbase ||| Machine.mk 25 9 x.footprint else 0

/-- A word of DESC space. -/
def State.descWord (s : State) (a : Nat) : W := if a < 262144 then (s.skein (a / 4)).word (a % 4) else tget 0 s.sk.strands (a - 262144)

/-- Byte i of EVENT space: the record in bytes 0 to 31, then the packet; none beyond it. -/
def HkEvent.byte (v : HkEvent) (i : Nat) : Option Byte :=
  if i < 32 then some (BitVec.ofNat 8 (([v.w0, v.w1, v.w2, v.w3].getD (i / 8) 0).toNat / 2 ^ (56 - 8 * (i % 8))))
  else v.pkt[i - 32]?

/-- A word of EVENT space; bytes beyond the packet are free values. -/
def HkEvent.word (v : HkEvent) (a : Nat) (free : W) : W :=
  BitVec.ofNat 64 ((List.range 8).foldl (fun n i =>
    n * 256 + match v.byte (8 * a + i) with
      | some b => b.toNat
      | none => fld free (63 - 8 * i) (56 - 8 * i)) 0)

/-- What a read of a space gives: the word; an uncorrectable word; or nothing, because the engine failed. -/
inductive SpaceRead where
  | word (w : W72) (s : State)
  | ue (s : State)
  | fail (s : State)

/-- A word of an ECC-protected memory as an engine reads it. -/
def eccWord (b n mem addr : Nat) (w : W72) (s : State) : SpaceRead :=
  let r := memRead b n mem addr 4 s
  if r.ok then .word (w ^^^ BitVec.ofNat 72 r.diff) r.st else .ue r.st

/-- Read a word of a space, the access being allowed. -/
def spaceRead (q e sp a : Nat) (s : State) : SpaceRead :=
  match sp with
  | 0 => match getLocal q e a s with
    | (some w, t) => .word w t
    | (none, t) => .fail t
  | 1 => eccWord 8 q 3 a (tget 0 (s.cluster q).mem a) s
  | 2 =>
    if s.hidden q a then let f := free72 s; eccWord 9 q 0 a f.1 f.2 else eccWord 9 q 0 a (s.qword q a) s
  | 3 => if a < 262144 then eccWord 9 4 1 a (up72 (s.descWord a)) s else eccWord 9 4 2 (a - 262144) (up72 (s.descWord a)) s
  | 4 =>
    let f := takeFree s
    match (s.eng q e).routine with
    | some r => .word (up72 (r.event.word a f.1)) f.2
    | none => .fail s
  | 5 => eccWord 8 q 6 (4096 * e + a) (tget 0 (s.eng q e).txbuf a) s
  | _ => let r := pathRead (.hook q) (8 * a) .whole s; .word (up72 (r.1.getD 0)) r.2

/-- Write a word of CLUSTER and of TXBUF space. -/
def putCluster (q a : Nat) (v : W72) (s : State) : State :=
  let c := s.cluster q
  memWrite 8 q 3 a (s.setCluster q { c with mem := tset 0 c.mem a v })
def putTxbuf (q e a : Nat) (v : W72) (s : State) : State :=
  memWrite 8 q 6 (4096 * e + a) (s.modEng q e fun n => { n with txbuf := tset 0 n.txbuf a v })

/-- Write a word of a space, the access being allowed. -/
def spaceWrite (q e sp a : Nat) (v : W72) (s : State) : State :=
  match sp with
  | 0 => putLocal q e a v s
  | 1 => putCluster q a v s
  | 2 => qwrite q a v s
  | 5 => putTxbuf q e a v s
  | 6 => pathWrite (.hook q) (8 * a) .whole (lo64 v) s
  | _ => s

/-- The address of an M-format microword: bits [31:0] of the base plus the offset. -/
def memAddr (w : Nat) (base : W72) : Nat := fld72 base 31 0 + mwOff w

/-- LD. A register in a domain in PS2 is read once the domain has left it: the engine stalls. -/
def microLd (q e w : Nat) (l : List W72) (s : State) : State :=
  let sp := mwSpace w
  let a := memAddr w (opd l 0)
  if !s.spaceOk q e sp a false then faultTrap q e 2 (spaceCause sp a) s
  else if sp = 6 ∧ s.blockLater q a then wakeBlock q a s
  else match spaceRead q e sp a s with
    | .word v t => result q e (mwD w) v t
    | .ue t => faultTrap q e 0 (spaceCause sp a) t
    | .fail t => t

def execMicroLd (q e : Nat) (s : State) : Host.Outcome State Fault Refusal := micro 0x11 (fun w l => microLd (q % 4) (e % 16) w l) q e s

/-- ST. -/
def microSt (q e w : Nat) (l : List W72) (s : State) : State :=
  let sp := mwSpace w
  let a := memAddr w (opd l 0)
  if !s.spaceOk q e sp a true then faultTrap q e 2 (spaceCause sp a) s
  else if sp = 6 ∧ s.blockLater q a then wakeBlock q a s
  else advance q e (spaceWrite q e sp a (opd l 1) s)

def execMicroSt (q e : Nat) (s : State) : Host.Outcome State Fault Refusal := micro 0x12 (fun w l => microSt (q % 4) (e % 16) w l) q e s

/-! ### Control flow -/

/-- Go to a target; one above 49,151 is ILLEGAL. -/
def jumpTo (q e w : Nat) (a : Int) (s : State) : State :=
  if a < 0 ∨ (maxMicro : Int) < a then illegal q e w s else goto q e a.toNat s

/-- A branch: its target is checked whether or not it is taken (R246). -/
def branch (q e w : Nat) (c : Bool) (s : State) : State :=
  let a : Int := (s.eng q e).pc + 1 + sgn 13 (mwImm w)
  if a < 0 ∨ (maxMicro : Int) < a then illegal q e w s else if c then goto q e a.toNat s else advance q e s

/-- The condition of BFLAG. -/
def flagCond (n : Engine) (sel : Nat) : Bool :=
  match sel with
  | 0 => n.z | 1 => n.n | 2 => n.c | 3 => n.v | 4 => !n.z | 5 => !n.n | 6 => !n.c | 7 => !n.v | 8 => n.n != n.v | _ => n.n == n.v

def execMicroBz (q e : Nat) (s : State) : Host.Outcome State Fault Refusal :=
  micro 0x14 (fun w l => branch (q % 4) (e % 16) w (opw l 0 == 0)) q e s

def execMicroBnz (q e : Nat) (s : State) : Host.Outcome State Fault Refusal :=
  micro 0x15 (fun w l => branch (q % 4) (e % 16) w (opw l 0 != 0)) q e s

def execMicroBneg (q e : Nat) (s : State) : Host.Outcome State Fault Refusal :=
  micro 0x16 (fun w l => branch (q % 4) (e % 16) w (opw l 0).msb) q e s

def execMicroBflag (q e : Nat) (s : State) : Host.Outcome State Fault Refusal :=
  micro 0x17 (fun w _ s => branch (q % 4) (e % 16) w (flagCond (s.eng (q % 4) (e % 16)) (mwD w)) s) q e s

def execMicroJmp (q e : Nat) (s : State) : Host.Outcome State Fault Refusal :=
  micro 0x18 (fun w _ => jumpTo (q % 4) (e % 16) w (mwTarget w)) q e s

/-- CALL: a full link stack, or a target above 49,151, is ILLEGAL. -/
def microCall (q e w : Nat) (s : State) : State :=
  let n := s.eng q e
  if 8 ≤ n.links.length ∨ maxMicro < mwTarget w then illegal q e w s
  else goto q e (mwTarget w) (memWrite 8 q 7 (regAddrOf e (32 + n.links.length)) (s.modEng q e fun n => { n with links := (n.pc + 1) :: n.links }))

def execMicroCall (q e : Nat) (s : State) : Host.Outcome State Fault Refusal := micro 0x19 (fun w _ => microCall (q % 4) (e % 16) w) q e s

/-- RET: an empty link stack is ILLEGAL; an uncorrectable entry fails the engine (R267). -/
def microRet (q e w : Nat) (s : State) : State :=
  match (s.eng q e).links with
  | [] => illegal q e w s
  | a :: rest =>
    let r := memRead 8 q 7 (regAddrOf e (32 + rest.length)) 4 s
    if !r.ok then failEngine q e 2 r.st
    else if maxMicro < (a ^^^ r.diff) % 65536 then illegal q e w r.st
    else goto q e ((a ^^^ r.diff) % 65536) (r.st.modEng q e fun n => { n with links := rest })

def execMicroRet (q e : Nat) (s : State) : Host.Outcome State Fault Refusal := micro 0x1A (fun w _ => microRet (q % 4) (e % 16) w) q e s

def execMicroJr (q e : Nat) (s : State) : Host.Outcome State Fault Refusal :=
  micro 0x1B (fun w l => jumpTo (q % 4) (e % 16) w (fld (opw l 0) 15 0)) q e s

/-! ### Waits, signals, events, time, the end of a routine -/

/-- The oldest open instance of a Skein, which a STRAND wait watches. -/
def Skein.oldest (x : Skein) : Option Int :=
  (x.insts.filter fun i => !i.closing).foldl (fun (m : Option Int) i => match m with
    | some o => some (min o i.occ)
    | none => some i.occ) none

/-- WAIT (R257, R255): none in a preempting routine; a TXTS wait only for the queue's owner. -/
def microWait (q e w : Nat) (l : List W72) (s : State) : State :=
  let cond := mwSpace w
  let arg := opw l 0
  let t := opw l 1
  if (s.eng q e).under.isSome then illegal q e w s
  else if cond = 3 ∧ !(ownerPath (s.txtsOwner (fld arg 8 0)) (.hook q)) then
    let f := takeFree s
    faultTrap q e 2 (fld f.1 31 0) f.2
  else
    let x : WaitOn := {
      cond := cond, arg := arg, dreg := mwD w, deadline := if t = 0 then none else some (s.tick + t.toNat)
      watch := if cond = 1 then (s.skein (fld arg 63 48)).oldest else none }
    advance q e (s.modEng q e fun n => { n with wait := some x, routine := n.routine.map fun r => r.pause s.tick })

def execMicroWait (q e : Nat) (s : State) : Host.Outcome State Fault Refusal :=
  micro 0x1C (fun w l => microWait (q % 4) (e % 16) w l) q e s

/-- SIGNAL: sets a signal in each named engine. -/
def setSignals (q mask sig : Nat) (s : State) : State :=
  (bitsOf 16 mask).foldl (fun s e => s.modEng q e fun n => { n with signals := n.signals ||| 2 ^ sig }) s

def execMicroSignal (q e : Nat) (s : State) : Host.Outcome State Fault Refusal :=
  micro 0x1D (fun _ l s => advance (q % 4) (e % 16) (setSignals (q % 4) (fld (opw l 0) 15 0) (fld (opw l 1) 4 0) s)) q e s

def execMicroEnd (q e : Nat) (s : State) : Host.Outcome State Fault Refusal := micro 0x1E (fun _ _ => runEnd (q % 4) (e % 16)) q e s

def execMicroTrap (q e : Nat) (s : State) : Host.Outcome State Fault Refusal :=
  micro 0x1F (fun w _ => faultTrap (q % 4) (e % 16) 3 (nfld w 7 0)) q e s

/-- RETT (R259, R260): a frame of another bank is ILLEGAL; else registers, FLAGS and the link stack come back, and the routine resumes after a fault's
microaddress, at an interrupt's, or in its wait. -/
def microRett (q e w : Nat) (s : State) : State :=
  match getLocal q e 1984 s with
  | (none, t) => t
  | (some f, t) =>
    match (t.eng q e).routine with
    | none => t
    | some r =>
      if fld72 f 31 31 ≠ r.bank % 2 then illegal q e w t
      else match restoreFrame q e t with
        | (none, u) => u
        | (some (f, _), u) =>
          let pc := fld72 f 63 48
          let back := if fld72 f 43 40 < 4 then pc + 1 else pc
          let wait := if fld72 f 30 30 = 1 then r.wait else none
          let r' : Routine := if wait.isSome then r.pause u.tick else r
          pendingSwap q e (u.modEng q e fun n => { n with
            pc := back, handler := none, wait := wait, links := r.links, routine := some { r' with wait := none, links := [] } })

def execMicroRett (q e : Nat) (s : State) : Host.Outcome State Fault Refusal := micro 0x20 (fun w _ => microRett (q % 4) (e % 16) w) q e s

/-- POST: the event goes to each named cluster as a HOOK_POST does. -/
def microPost (q e : Nat) (a : W) (s : State) : State :=
  advance q e ((bitsOf 4 (fld a 47 44)).foldl (fun s k => hookPostTo k (fld a 7 0) (fld a 39 8) 3 s) s)

def execMicroPost (q e : Nat) (s : State) : Host.Outcome State Fault Refusal :=
  micro 0x21 (fun _ l => microPost (q % 4) (e % 16) (opw l 0)) q e s

/-- TIME from the cluster's replica; FN 2 to 7 name no form: a free value. -/
def timeWord (s : State) (q fn : Nat) : Option W :=
  let t := (s.time.replicas.getD (16 + q) {}).t
  match fn with
  | 0 => some (mk 63 32 t.sec ||| mk 31 0 t.ns)
  | 1 => some (mk 63 48 (t.sec / 2 ^ 32) ||| mk 47 32 t.frac ||| mk 3 2 s.mast.tsEpoch ||| mk 1 1 (b2n s.holdoverMark))
  | _ => none

def execMicroTime (q e : Nat) (s : State) : Host.Outcome State Fault Refusal :=
  micro 0x22 (fun w _ s => match timeWord s (q % 4) (mwFn w) with
    | some v => result (q % 4) (e % 16) (mwD w) (up72 v) s
    | none => let f := takeFree s; result (q % 4) (e % 16) (mwD w) (up72 f.1) f.2) q e s

/-- ILLEGAL_OP: any operation that Table 11-4 does not list. -/
def execIllegalOp (q e : Nat) (s : State) : Host.Outcome State Fault Refusal :=
  keep s (issue (fun x => !opListed x) (fun w _ => illegal (q % 4) (e % 16) w) (q % 4) (e % 16) s)

end Sys2Proof.Machine
end

