-- ==== Sys2Proof/Machine/Vector.lean ====
section
/-! DEFINITION. The vector microwords of the Hook engines (R248 to R251, Table 11-5). An operation acts when it is issued, but for a
Stitch, which waits for the ordering unit; VECTOR_OP_DONE ends each and writes its status. -/

namespace Sys2Proof.Machine

/-- What a vector operation leaves: its status, the first uncorrectable word as a trap's CAUSE, how many were found, the state. -/
structure VecRun where
  status : W72 := 0
  ue : Option Nat := none
  count : Nat := 0
  st : State

/-- An uncorrectable word. -/
def VecRun.hurt (r : VecRun) (cause : Nat) (s : State) : VecRun :=
  { r with ue := match r.ue with | some c => some c | none => some cause, count := r.count + 1, st := s }

/-- The status word of D for an operation that no table describes. -/
def freeStatus (s : State) : VecRun := let f := free72 s; { status := f.1, st := f.2 }

/-- A vector operation has been issued: D, status and flags wait for its completion. A Stitch or a SEND waits for others: the engine's
clocks stand meanwhile (R256), but for the n clocks of the datapath. -/
def startVec (q e w : Nat) (stitch hold : Bool) (clocks : Nat) (r : VecRun) : State :=
  let s := r.st
  let async := (mwFlags w).testBit 1
  s.modEng q e fun n => { n with
    pc := n.pc + 1
    vec := some { pc := n.pc, dreg := mwA w, status := r.status, commit := (mwFlags w).testBit 0, async := async, stitch := stitch
                  ue := r.ue, more := decide (1 < r.count) }
    routine := n.routine.map fun x => if hold && !async then { x.pause s.tick with clocks := (x.pause s.tick).clocks + clocks } else x }

/-- Clocks of n PRBs in the datapath (R250). -/
def prbClocks (n : Nat) : Nat := (3 * n + 3) / 4

/-! ### STITCH and RESCALE -/

/-- STITCH (R248, R255): the current event must carry opcode 0x00, and the routine may not be a preempting one. -/
def microStitch (q e w : Nat) (s : State) : State :=
  let n := s.eng q e
  match n.routine with
  | none => s
  | some r =>
    if r.event.opcode ≠ 0 ∨ n.under.isSome then illegal q e w s
    else startVec q e w true true (prbClocks (fld r.event.w1 38 30)) { st := s }

def execMicroStitch (q e : Nat) (s : State) : Host.Outcome State Fault Refusal :=
  micro 0x28 (fun w _ => microStitch (q % 4) (e % 16) w) q e s

/-- The PRB of RESCALE whose 12 accumulator words start at `a` and whose exponent byte is byte `i` of word `x`. -/
def rescalePrb (q a x i target : Nat) (r : VecRun) : VecRun :=
  let go := fun (t : Option Nat × List Int × State) (j : Nat) =>
    match eccWord 9 q 0 (a + j) (t.2.2.qword q (a + j)) t.2.2 with
    | .word w u => (t.1, t.2.1 ++ accOf w, u)
    | .ue u | .fail u => (if t.1.isNone then some (spaceCause 2 (a + j)) else t.1, t.2.1, u)
  match eccWord 9 q 0 x (r.st.qword q x) r.st with
  | .ue u | .fail u => r.hurt (spaceCause 2 x) u
  | .word xw s =>
    let b := wordByte xw i
    if target ≤ b % 64 then { r with st := s }
    else
      let t := (List.range 12).foldl go (none, [], s)
      match t.1 with
      | some c => r.hurt c t.2.2
      | none =>
        let k : Int := target - (b % 64 : Nat)
        let lost := t.2.1.any fun v => loses v k
        let put := fun (s : State) (j : Nat) =>
          qwrite q (a + j) (accWord (rneShift (t.2.1.getD (2 * j) 0) k) (rneShift (t.2.1.getD (2 * j + 1) 0) k)) s
        let s := (List.range 12).foldl put t.2.2
        let b' := b / 128 * 128 + (if lost then 64 else b / 64 % 2 * 64) + target
        { r with st := qwrite q x (setByte (s.qword q x) i b') s }

/-- RESCALE. -/
def microRescale (q e w : Nat) (c : W) (s : State) : State :=
  let a := fld c 63 42
  let n := fld c 41 33
  let target := fld c 32 27
  let x := fld c 26 5
  let i := fld c 4 2
  if n ≠ 0 ∧ 3145728 < a + 12 * n then faultTrap q e 2 (spaceCause 2 (max a 3145728)) s
  else if n ≠ 0 ∧ 3145728 ≤ x + (i + n - 1) / 8 then faultTrap q e 2 (spaceCause 2 (max x 3145728)) s
  else
    let r := (List.range n).foldl (fun r j => rescalePrb q (a + 12 * j) (x + (i + j) / 8) ((i + j) % 8) target r) { st := s }
    startVec q e w false false 0 r

def execMicroRescale (q e : Nat) (s : State) : Host.Outcome State Fault Refusal :=
  micro 0x29 (fun w l => microRescale (q % 4) (e % 16) w (opw l 0)) q e s

/-! ### Bytes of spaces -/

/-- Word address in TXBUF of byte i of a buffer (address bit 11 selects the buffer). -/
def bufWord (sel i : Nat) : Nat := 2048 * sel + i / 8

/-- Write bytes into a build buffer from a byte offset on; the other bytes of a word stay. -/
def bufBytes (q e sel o : Nat) (b : List Byte) (s : State) : State :=
  let last := o + b.length
  (List.range (last / 8 + 1 - o / 8)).foldl (fun s k =>
    let a := bufWord sel (8 * (o / 8 + k))
    let old := tget 0 (s.eng q e).txbuf a
    let new := (List.range 8).foldl (fun (v : W72) i =>
      let p := 8 * (o / 8 + k) + i
      if o ≤ p ∧ p < last then setByte v i (b.getD (p - o) 0).toNat else v) old
    if 8 * (o / 8 + k) < last then putTxbuf q e a new s else s) s

/-- Bytes of a build buffer. -/
def bufRead (q e sel o n : Nat) (s : State) : List Byte × VecRun :=
  if n = 0 then ([], { st := s })
  else
    let go := fun (t : List Byte × VecRun) (k : Nat) =>
      let a := bufWord sel (8 * (o / 8 + k))
      match spaceRead q e 5 a t.2.st with
      | .word v u => (t.1 ++ wordBytes (lo64 v), { t.2 with st := u })
      | .ue u | .fail u => (t.1 ++ List.replicate 8 0, t.2.hurt (spaceCause 5 a) u)
    let r := (List.range ((o + n - 1) / 8 + 1 - o / 8)).foldl go ([], { st := s })
    ((r.1.drop (o % 8)).take n, r.2)

/-- Bytes of EVENT space; those beyond the packet are free values. -/
def eventRead (q e o n : Nat) (s : State) : List Byte × State :=
  match (s.eng q e).routine with
  | none => ([], s)
  | some r => (List.range n).foldl (fun t k =>
    match r.event.byte (o + k) with
    | some b => (t.1 ++ [b], t.2)
    | none => let f := takeFree t.2; (t.1 ++ [f.1.setWidth 8], f.2)) ([], s)

/-- Bytes of EVENT space (Table 11-2: 2,052 words). -/
def eventBytes : Nat := 16416

/-! ### PACK -/

/-- One PRB of PACK: its record at a byte offset of the buffer, saturated components added to the status; an uncorrectable word is an
error of the instance's memory (R213, R214). -/
def packPrb (q e k ix prb comp sel o : Nat) (r : VecRun) : VecRun :=
  match readPrb k ix prb r.st with
  | (.error a, s) =>
    let hurt := fun (x : Skein) => { x with insts := x.insts.map fun i => if i.ix = ix then { i with memErr := true } else i }
    r.hurt (spaceCause 2 a) (raiseInt 9 .skIntStatus [q] 6 (s.modSkein k hurt))
  | (.ok acc, s) =>
    let x := recompress acc comp
    { r with status := r.status + BitVec.ofNat 72 x.2, st := bufBytes q e sel o x.1 s }

/-- PACK of a CLOSE event's instance; another event has no instance to pack, and R226 admits no other OUT_COMP: then nothing is written
and the status is a free value. -/
def microPack (q e w : Nat) (c : W) (s : State) : State :=
  match (s.eng q e).routine with
  | none => s
  | some r =>
    let first := fld c 63 55
    let n := fld c 54 46
    let comp := fld c 45 38
    let o := fld c 37 24
    let sel := fld c 23 23
    let k := r.event.skein
    let rl := recBytes comp
    if r.event.opcode ≠ 1 || !compOut comp || !(s.skein k).valid || (s.skein k).cluster != q then
      startVec q e w false false 0 (freeStatus s)
    else if 16384 < o + n * rl then faultTrap q e 2 (spaceCause 5 (2048 * (sel + 1))) s
    else if n ≠ 0 ∧ 3145728 < (s.skein k).accAddr (fld c 22 22) (first + n) then faultTrap q e 2 (spaceCause 2 3145728) s
    else
      let run := (List.range n).foldl (fun r j => packPrb q e k (fld c 22 22) (first + j) comp sel (o + j * rl) r) { st := s }
      let t := run.st.modSkein k fun x => { x with sat := satAdd 48 x.sat run.status.toNat }
      startVec q e w false false 0 { run with st := t }

def execMicroPack (q e : Nat) (s : State) : Host.Outcome State Fault Refusal :=
  micro 0x2A (fun w l => microPack (q % 4) (e % 16) w (opw l 0)) q e s

/-! ### REPACK -/

/-- A sample of width ws as one of width wd: narrowing rounds half to even and saturates, widening shifts left. -/
def resample (ws wd : Nat) (v : Int) : Int := if wd < ws then satW wd (rneShift v (ws - wd)) else v * 2 ^ (wd - ws)

/-- The bytes that hold n samples of w bits, and a sample of them, the first in the most significant bits. -/
def sampleBytes (w n : Nat) : Nat := (w * n + 7) / 8
def sampleAt (b : List Byte) (w i : Nat) : Int :=
  let total := 8 * b.length
  sgn w (bytesNat b 0 b.length / 2 ^ (total - w * (i + 1)) % 2 ^ w)

/-- Samples packed over old bytes, whose bits beyond the last sample stay. -/
def packSamples (w : Nat) (v : List Int) (old : List Byte) : List Byte :=
  let rest := 8 * old.length - w * v.length
  bytesBE old.length (v.foldl (fun (n : Nat) x => n * 2 ^ w + twos w x) 0 * 2 ^ rest + bytesNat old 0 old.length % 2 ^ rest)

/-- REPACK. Width 0 names no samples: nothing is written, the status is a free value. -/
def microRepack (q e w : Nat) (c : W) (s : State) : State :=
  let src := fld c 63 50
  let dst := fld c 49 36
  let ws := fld c 35 31
  let wd := fld c 30 26
  let n := fld c 25 14
  let sel := fld c 13 13
  if ws = 0 ∨ wd = 0 then startVec q e w false false 0 (freeStatus s)
  else if eventBytes < src + sampleBytes ws n then faultTrap q e 2 (spaceCause 4 2052) s
  else if 16384 < dst + sampleBytes wd n then faultTrap q e 2 (spaceCause 5 (2048 * (sel + 1))) s
  else
    let b := eventRead q e src (sampleBytes ws n) s
    let old := bufRead q e sel dst (sampleBytes wd n) b.2
    let v := (List.range n).map fun i => resample ws wd (sampleAt b.1 ws i)
    startVec q e w false false 0 (match old.2.ue with
      | some _ => old.2
      | none => { old.2 with st := bufBytes q e sel dst (packSamples wd v old.1) old.2.st })

def execMicroRepack (q e : Nat) (s : State) : Host.Outcome State Fault Refusal :=
  micro 0x2B (fun w l => microRepack (q % 4) (e % 16) w (opw l 0)) q e s

/-! ### DMOVE -/

/-- The first word of a run that a space does not admit. -/
def State.firstOutside (s : State) (q e sp a n : Nat) (write : Bool) : Option Nat :=
  ((List.range n).find? fun j => !s.spaceOk q e sp (a + j) write).map (a + ·)

/-- The first BLOCK word of a run whose domain serves it only later. -/
def State.firstLater (s : State) (q sp a n : Nat) : Option Nat :=
  if sp = 6 then ((List.range n).find? fun j => s.blockLater q (a + j)).map (a + ·) else none

/-- DMOVE: ascending; a word that is uncorrectable is not copied. -/
def microDmove (q e w : Nat) (c : W) (s : State) : State :=
  let src := fld c 63 42
  let ss := fld c 41 39
  let dst := fld c 38 17
  let ds := fld c 16 14
  let n := fld c 13 0
  match s.firstOutside q e ss src n false, s.firstOutside q e ds dst n true with
  | some a, _ => faultTrap q e 2 (spaceCause ss a) s
  | none, some a => faultTrap q e 2 (spaceCause ds a) s
  | none, none =>
    match s.firstLater q ss src n, s.firstLater q ds dst n with
    | some a, _ => wakeBlock q a s
    | none, some a => wakeBlock q a s
    | none, none =>
      let step := fun (r : VecRun) (j : Nat) =>
        if (r.st.eng q e).failed then r
        else match spaceRead q e ss (src + j) r.st with
          | .word v t => { r with st := spaceWrite q e ds (dst + j) v t }
          | .ue t => r.hurt (spaceCause ss (src + j)) t
          | .fail t => { r with st := t }
      let r := (List.range n).foldl step { st := s }
      if (r.st.eng q e).failed then r.st else startVec q e w false false 0 r

def execMicroDmove (q e : Nat) (s : State) : Host.Outcome State Fault Refusal :=
  micro 0x2C (fun w l => microDmove (q % 4) (e % 16) w (opw l 0)) q e s

/-! ### CRC -/

/-- A CRC over bytes with an initial value: 0 CRC-32C, 1 IEEE CRC-32, 2 CRC-16/CCITT-FALSE; none for another code. -/
def crcOver (poly init : Nat) (b : List Byte) : Option Nat :=
  match poly with
  | 0 => some (b.foldl (crcReflByte 0x82F63B78) (init % 2 ^ 32) ^^^ 0xFFFFFFFF)
  | 1 => some (b.foldl (crcReflByte 0xEDB88320) (init % 2 ^ 32) ^^^ 0xFFFFFFFF)
  | 2 => some (b.foldl (fun c x => (List.range 8).foldl (fun c i => crc16Bit c (x.getLsbD (7 - i))) c) (init % 65536))
  | _ => none

/-- CRC: over EVENT or TXBUF bytes only; POLY 3 names no CRC: a free value. -/
def microCrc (q e w : Nat) (c i : W) (s : State) : State :=
  let o := fld c 63 50
  let n := fld c 49 36
  let sp := fld c 35 33
  if sp ≠ 4 ∧ sp ≠ 5 then faultTrap q e 2 (spaceCause sp (o / 8)) s
  else if sp = 4 ∧ eventBytes < o + n then faultTrap q e 2 (spaceCause 4 2052) s
  else
    let r : List Byte × VecRun := if sp = 4 then let b := eventRead q e o n s; (b.1, { st := b.2 }) else bufRead q e 0 o n s
    startVec q e w false false 0 (match crcOver (fld c 32 31) i.toNat r.1 with
      | some v => { r.2 with status := BitVec.ofNat 72 v }
      | none => { freeStatus r.2.st with ue := r.2.ue, count := r.2.count })

def execMicroCrc (q e : Nat) (s : State) : Host.Outcome State Fault Refusal :=
  micro 0x2D (fun w l => microCrc (q % 4) (e % 16) w (opw l 0) (opw l 1)) q e s

/-! ### SEND -/

/-- SEND (R251): status 1 when the port is not LINK_UP. A LENGTH outside 60 to 16,380 names no frame: nothing is sent and the status is
a free value. A frame with an uncorrectable word is not sent. -/
def microSend (q e w : Nat) (c : W) (s : State) : State :=
  let port := fld c 63 55
  let len := fld c 50 37
  let sel := fld c 36 36
  if len < 60 ∨ 16380 < len then startVec q e w false true 0 (freeStatus s)
  else if !s.linkUp port then startVec q e w false true 0 { status := 1, st := s }
  else
    let b := bufRead q e sel 0 len (s.modEng q e fun n => { n with routine := n.routine.map fun r => { r with sent := true } })
    startVec q e w false true 0 (match b.2.ue with
      | some _ => b.2
      | none => { b.2 with
        st := injectFrame port (fld c 54 51) (fld c 18 16) (if bitAt c 35 then some (fld c 34 19) else none) b.1 b.2.st })

def execMicroSend (q e : Nat) (s : State) : Host.Outcome State Fault Refusal :=
  micro 0x2E (fun w l => microSend (q % 4) (e % 16) w (opw l 0)) q e s

end Sys2Proof.Machine
end

