-- ==== Sys2Proof/Machine/Dispatch.lean ====
section
/-! DEFINITION. The dispatch: one arm per constructor of Instr, one direct call of its meaning. -/

namespace Sys2Proof.Machine

def exec (i : Instr) (s : State) : Host.Outcome State Fault Refusal :=
  match i with
  | .nop c => Sys2Proof.Machine.execNop c s
  | .negotiateVersion c => Sys2Proof.Machine.execNegotiateVersion c s
  | .deviceInfo c => Sys2Proof.Machine.execDeviceInfo c s
  | .cmdCancel c => Sys2Proof.Machine.execCmdCancel c s
  | .eventSubscribe c => Sys2Proof.Machine.execEventSubscribe c s
  | .eventUnsubscribe c => Sys2Proof.Machine.execEventUnsubscribe c s
  | .mgmtRelay c => Sys2Proof.Machine.execMgmtRelay c s
  | .relayReply relay w0 w1 result => Sys2Proof.Machine.execRelayReply relay w0 w1 result s
  | .relayTimeout relay => Sys2Proof.Machine.execRelayTimeout relay s
  | .regRead c => Sys2Proof.Machine.execRegRead c s
  | .regWrite c => Sys2Proof.Machine.execRegWrite c s
  | .mastConfig c => Sys2Proof.Machine.execMastConfig c s
  | .mastSetTime c => Sys2Proof.Machine.execMastSetTime c s
  | .timelineSet c => Sys2Proof.Machine.execTimelineSet c s
  | .timelineApply timeline => Sys2Proof.Machine.execTimelineApply timeline s
  | .riggingWriteEntries c => Sys2Proof.Machine.execRiggingWriteEntries c s
  | .riggingWriteTargetSets c => Sys2Proof.Machine.execRiggingWriteTargetSets c s
  | .riggingRead c => Sys2Proof.Machine.execRiggingRead c s
  | .riggingCommit c => Sys2Proof.Machine.execRiggingCommit c s
  | .riggingCancel c => Sys2Proof.Machine.execRiggingCancel c s
  | .bankSwitch => Sys2Proof.Machine.execBankSwitch s
  | .riggingEvaluate bank entry => Sys2Proof.Machine.execRiggingEvaluate bank entry s
  | .gateOpen bank entry => Sys2Proof.Machine.execGateOpen bank entry s
  | .gateClose bank entry => Sys2Proof.Machine.execGateClose bank entry s
  | .skeinClose bank entry => Sys2Proof.Machine.execSkeinClose bank entry s
  | .laneSleepRx bank entry => Sys2Proof.Machine.execLaneSleepRx bank entry s
  | .laneSleepTx bank entry => Sys2Proof.Machine.execLaneSleepTx bank entry s
  | .laneWakeRx bank entry => Sys2Proof.Machine.execLaneWakeRx bank entry s
  | .laneWakeTx bank entry => Sys2Proof.Machine.execLaneWakeTx bank entry s
  | .opSet bank entry => Sys2Proof.Machine.execOpSet bank entry s
  | .opPhase bank entry => Sys2Proof.Machine.execOpPhase bank entry s
  | .prewarm bank entry => Sys2Proof.Machine.execPrewarm bank entry s
  | .rampDown bank entry => Sys2Proof.Machine.execRampDown bank entry s
  | .hookPost bank entry => Sys2Proof.Machine.execHookPost bank entry s
  | .symbolBoundary timeline => Sys2Proof.Machine.execSymbolBoundary timeline s
  | .stepApply => Sys2Proof.Machine.execStepApply s
  | .resolveReplay => Sys2Proof.Machine.execResolveReplay s
  | .portAdmin c => Sys2Proof.Machine.execPortAdmin c s
  | .laneDozeConfig c => Sys2Proof.Machine.execLaneDozeConfig c s
  | .classRuleWrite c => Sys2Proof.Machine.execClassRuleWrite c s
  | .classMode c => Sys2Proof.Machine.execClassMode c s
  | .classBankSwap c => Sys2Proof.Machine.execClassBankSwap c s
  | .classCounterRead c => Sys2Proof.Machine.execClassCounterRead c s
  | .policerSet c => Sys2Proof.Machine.execPolicerSet c s
  | .indirWrite c => Sys2Proof.Machine.execIndirWrite c s
  | .cpuCodeWrite c => Sys2Proof.Machine.execCpuCodeWrite c s
  | .encapWrite c => Sys2Proof.Machine.execEncapWrite c s
  | .packetIngress port frame => Sys2Proof.Machine.execPacketIngress port frame s
  | .injectionAdmit tile => Sys2Proof.Machine.execInjectionAdmit tile s
  | .learnApply tile => Sys2Proof.Machine.execLearnApply tile s
  | .ageSweepVisit tile => Sys2Proof.Machine.execAgeSweepVisit tile s
  | .l2EntryWrite c => Sys2Proof.Machine.execL2EntryWrite c s
  | .l2EntryDelete c => Sys2Proof.Machine.execL2EntryDelete c s
  | .l2Flush c => Sys2Proof.Machine.execL2Flush c s
  | .l2FlushDone tile => Sys2Proof.Machine.execL2FlushDone tile s
  | .l2Dump c => Sys2Proof.Machine.execL2Dump c s
  | .l2Reseed c => Sys2Proof.Machine.execL2Reseed c s
  | .reseedDone tile => Sys2Proof.Machine.execReseedDone tile s
  | .l2RehashAck c => Sys2Proof.Machine.execL2RehashAck c s
  | .lpmWrite c => Sys2Proof.Machine.execLpmWrite c s
  | .lpmSync c => Sys2Proof.Machine.execLpmSync c s
  | .floodSetWrite c => Sys2Proof.Machine.execFloodSetWrite c s
  | .bufQueueConfig c => Sys2Proof.Machine.execBufQueueConfig c s
  | .xbarPlaneEnable c => Sys2Proof.Machine.execXbarPlaneEnable c s
  | .planeReadmit plane missed => Sys2Proof.Machine.execPlaneReadmit plane missed s
  | .planeFault plane cause => Sys2Proof.Machine.execPlaneFault plane cause s
  | .grantWindow => Sys2Proof.Machine.execGrantWindow s
  | .cellArrival tile cell => Sys2Proof.Machine.execCellArrival tile cell s
  | .rsqTimeout tile stream => Sys2Proof.Machine.execRsqTimeout tile stream s
  | .auditPassStart slice => Sys2Proof.Machine.execAuditPassStart slice s
  | .auditPassEnd slice => Sys2Proof.Machine.execAuditPassEnd slice s
  | .queueSelection port => Sys2Proof.Machine.execQueueSelection port s
  | .pull slice => Sys2Proof.Machine.execPull slice s
  | .egressHandoff port => Sys2Proof.Machine.execEgressHandoff port s
  | .frameTransmit port => Sys2Proof.Machine.execFrameTransmit port s
  | .txtsWord1Read port path => Sys2Proof.Machine.execTxtsWord1Read port path s
  | .tmQueueConfig c => Sys2Proof.Machine.execTmQueueConfig c s
  | .tmPortConfig c => Sys2Proof.Machine.execTmPortConfig c s
  | .shaperSet c => Sys2Proof.Machine.execShaperSet c s
  | .tmCounterRead c => Sys2Proof.Machine.execTmCounterRead c s
  | .timedCommandApply order => Sys2Proof.Machine.execTimedCommandApply order s
  | .skeinCreate c => Sys2Proof.Machine.execSkeinCreate c s
  | .skeinModify c => Sys2Proof.Machine.execSkeinModify c s
  | .skeinDestroy c => Sys2Proof.Machine.execSkeinDestroy c s
  | .skeinMove c => Sys2Proof.Machine.execSkeinMove c s
  | .skeinRead c => Sys2Proof.Machine.execSkeinRead c s
  | .skeinFeedPacket tile => Sys2Proof.Machine.execSkeinFeedPacket tile s
  | .feedStallDrop cluster => Sys2Proof.Machine.execFeedStallDrop cluster s
  | .sectionAdmit cluster => Sys2Proof.Machine.execSectionAdmit cluster s
  | .weightMessage cluster => Sys2Proof.Machine.execWeightMessage cluster s
  | .closeBackstop skein => Sys2Proof.Machine.execCloseBackstop skein s
  | .instanceClose skein => Sys2Proof.Machine.execInstanceClose skein s
  | .skeinRehome cluster => Sys2Proof.Machine.execSkeinRehome cluster s
  | .eventDispatch cluster => Sys2Proof.Machine.execEventDispatch cluster s
  | .preempt cluster => Sys2Proof.Machine.execPreempt cluster s
  | .microNop cluster engine => Sys2Proof.Machine.execMicroNop cluster engine s
  | .microAdd cluster engine => Sys2Proof.Machine.execMicroAdd cluster engine s
  | .microSub cluster engine => Sys2Proof.Machine.execMicroSub cluster engine s
  | .microAnd cluster engine => Sys2Proof.Machine.execMicroAnd cluster engine s
  | .microOr cluster engine => Sys2Proof.Machine.execMicroOr cluster engine s
  | .microXor cluster engine => Sys2Proof.Machine.execMicroXor cluster engine s
  | .microShift cluster engine => Sys2Proof.Machine.execMicroShift cluster engine s
  | .microShifti cluster engine => Sys2Proof.Machine.execMicroShifti cluster engine s
  | .microAddi cluster engine => Sys2Proof.Machine.execMicroAddi cluster engine s
  | .microMovi cluster engine => Sys2Proof.Machine.execMicroMovi cluster engine s
  | .microCati cluster engine => Sys2Proof.Machine.execMicroCati cluster engine s
  | .microMul cluster engine => Sys2Proof.Machine.execMicroMul cluster engine s
  | .microCmp cluster engine => Sys2Proof.Machine.execMicroCmp cluster engine s
  | .microExt cluster engine => Sys2Proof.Machine.execMicroExt cluster engine s
  | .microIns cluster engine => Sys2Proof.Machine.execMicroIns cluster engine s
  | .microMov cluster engine => Sys2Proof.Machine.execMicroMov cluster engine s
  | .microPair cluster engine => Sys2Proof.Machine.execMicroPair cluster engine s
  | .microLd cluster engine => Sys2Proof.Machine.execMicroLd cluster engine s
  | .microSt cluster engine => Sys2Proof.Machine.execMicroSt cluster engine s
  | .microBz cluster engine => Sys2Proof.Machine.execMicroBz cluster engine s
  | .microBnz cluster engine => Sys2Proof.Machine.execMicroBnz cluster engine s
  | .microBneg cluster engine => Sys2Proof.Machine.execMicroBneg cluster engine s
  | .microBflag cluster engine => Sys2Proof.Machine.execMicroBflag cluster engine s
  | .microJmp cluster engine => Sys2Proof.Machine.execMicroJmp cluster engine s
  | .microCall cluster engine => Sys2Proof.Machine.execMicroCall cluster engine s
  | .microRet cluster engine => Sys2Proof.Machine.execMicroRet cluster engine s
  | .microJr cluster engine => Sys2Proof.Machine.execMicroJr cluster engine s
  | .microWait cluster engine => Sys2Proof.Machine.execMicroWait cluster engine s
  | .waitEnd cluster engine => Sys2Proof.Machine.execWaitEnd cluster engine s
  | .microSignal cluster engine => Sys2Proof.Machine.execMicroSignal cluster engine s
  | .microEnd cluster engine => Sys2Proof.Machine.execMicroEnd cluster engine s
  | .microTrap cluster engine => Sys2Proof.Machine.execMicroTrap cluster engine s
  | .microRett cluster engine => Sys2Proof.Machine.execMicroRett cluster engine s
  | .microPost cluster engine => Sys2Proof.Machine.execMicroPost cluster engine s
  | .microTime cluster engine => Sys2Proof.Machine.execMicroTime cluster engine s
  | .microStitch cluster engine => Sys2Proof.Machine.execMicroStitch cluster engine s
  | .microRescale cluster engine => Sys2Proof.Machine.execMicroRescale cluster engine s
  | .microPack cluster engine => Sys2Proof.Machine.execMicroPack cluster engine s
  | .microRepack cluster engine => Sys2Proof.Machine.execMicroRepack cluster engine s
  | .microDmove cluster engine => Sys2Proof.Machine.execMicroDmove cluster engine s
  | .microCrc cluster engine => Sys2Proof.Machine.execMicroCrc cluster engine s
  | .microSend cluster engine => Sys2Proof.Machine.execMicroSend cluster engine s
  | .vectorOpDone cluster engine => Sys2Proof.Machine.execVectorOpDone cluster engine s
  | .illegalOp cluster engine => Sys2Proof.Machine.execIllegalOp cluster engine s
  | .watchdog cluster engine => Sys2Proof.Machine.execWatchdog cluster engine s
  | .watchdogHang cluster engine => Sys2Proof.Machine.execWatchdogHang cluster engine s
  | .engineFailure cluster engine cause => Sys2Proof.Machine.execEngineFailure cluster engine cause s
  | .shareMove cluster => Sys2Proof.Machine.execShareMove cluster s
  | .hookLoad c => Sys2Proof.Machine.execHookLoad c s
  | .hookBankSwitch c => Sys2Proof.Machine.execHookBankSwitch c s
  | .hookSwitchTick cluster => Sys2Proof.Machine.execHookSwitchTick cluster s
  | .hookDrainEnd cluster => Sys2Proof.Machine.execHookDrainEnd cluster s
  | .drainTimeout cluster => Sys2Proof.Machine.execDrainTimeout cluster s
  | .hookForceSwap c => Sys2Proof.Machine.execHookForceSwap c s
  | .hookDispatchWrite c => Sys2Proof.Machine.execHookDispatchWrite c s
  | .hookEngineEnable c => Sys2Proof.Machine.execHookEngineEnable c s
  | .engineSelftestDone cluster engine pass => Sys2Proof.Machine.execEngineSelftestDone cluster engine pass s
  | .hookServiceConfig c => Sys2Proof.Machine.execHookServiceConfig c s
  | .hookCall c => Sys2Proof.Machine.execHookCall c s
  | .telemConfig c => Sys2Proof.Machine.execTelemConfig c s
  | .telemHistRead c => Sys2Proof.Machine.execTelemHistRead c s
  | .postcardFlush tile => Sys2Proof.Machine.execPostcardFlush tile s
  | .castOn c => Sys2Proof.Machine.execCastOn c s
  | .bindOff c => Sys2Proof.Machine.execBindOff c s
  | .dmaChannelConfig c => Sys2Proof.Machine.execDmaChannelConfig c s
  | .poolConfig c => Sys2Proof.Machine.execPoolConfig c s
  | .legacyModeSwitch c => Sys2Proof.Machine.execLegacyModeSwitch c s
  | .legacyQueueConfig c => Sys2Proof.Machine.execLegacyQueueConfig c s
  | .adminSqDb fn value => Sys2Proof.Machine.execAdminSqDb fn value s
  | .adminCqDb fn value => Sys2Proof.Machine.execAdminCqDb fn value s
  | .qpSqDb fn idx value => Sys2Proof.Machine.execQpSqDb fn idx value s
  | .qpCqDb fn idx value => Sys2Proof.Machine.execQpCqDb fn idx value s
  | .poolDb fn pool value => Sys2Proof.Machine.execPoolDb fn pool value s
  | .chanDb fn chan value => Sys2Proof.Machine.execChanDb fn chan value s
  | .chanCqDb fn chan value => Sys2Proof.Machine.execChanCqDb fn chan value s
  | .ringFetchDone ring entries => Sys2Proof.Machine.execRingFetchDone ring entries s
  | .ringRescan ring => Sys2Proof.Machine.execRingRescan ring s
  | .txChainStart qp data => Sys2Proof.Machine.execTxChainStart qp data s
  | .txChainDone qp => Sys2Proof.Machine.execTxChainDone qp s
  | .hostRxDeliver tile => Sys2Proof.Machine.execHostRxDeliver tile s
  | .cqCoalTimeout cq => Sys2Proof.Machine.execCqCoalTimeout cq s
  | .dmaChainStart chan data => Sys2Proof.Machine.execDmaChainStart chan data s
  | .dmaChainDone chan error => Sys2Proof.Machine.execDmaChainDone chan error s
  | .poolFetchDone pool entries => Sys2Proof.Machine.execPoolFetchDone pool entries s
  | .chanDisable fn chan => Sys2Proof.Machine.execChanDisable fn chan s
  | .chanEnable fn chan => Sys2Proof.Machine.execChanEnable fn chan s
  | .adminQueueEnable fn value => Sys2Proof.Machine.execAdminQueueEnable fn value s
  | .fnQpRangeWrite fn value => Sys2Proof.Machine.execFnQpRangeWrite fn value s
  | .resAssignWrite addr value => Sys2Proof.Machine.execResAssignWrite addr value s
  | .functionLevelReset fn => Sys2Proof.Machine.execFunctionLevelReset fn s
  | .perstNAssert => Sys2Proof.Machine.execPerstNAssert s
  | .powerTolerance c => Sys2Proof.Machine.execPowerTolerance c s
  | .opPointSet c => Sys2Proof.Machine.execOpPointSet c s
  | .powerCap c => Sys2Proof.Machine.execPowerCap c s
  | .domainForce c => Sys2Proof.Machine.execDomainForce c s
  | .deviceWideForce c => Sys2Proof.Machine.execDeviceWideForce c s
  | .domainEnter domain target cells l1 => Sys2Proof.Machine.execDomainEnter domain target cells l1 s
  | .domainExit domain => Sys2Proof.Machine.execDomainExit domain s
  | .domainExitDone domain => Sys2Proof.Machine.execDomainExitDone domain s
  | .estimationInterval => Sys2Proof.Machine.execEstimationInterval s
  | .avsFrameDone => Sys2Proof.Machine.execAvsFrameDone s
  | .avsStepComplete => Sys2Proof.Machine.execAvsStepComplete s
  | .avsSettleExpiry => Sys2Proof.Machine.execAvsSettleExpiry s
  | .tileFreqDone tile => Sys2Proof.Machine.execTileFreqDone tile s
  | .avsFault => Sys2Proof.Machine.execAvsFault s
  | .avsFaultClear value => Sys2Proof.Machine.execAvsFaultClear value s
  | .prewarmHoldExpiry domain => Sys2Proof.Machine.execPrewarmHoldExpiry domain s
  | .didtWindow current => Sys2Proof.Machine.execDidtWindow current s
  | .cellSleepSleep c => Sys2Proof.Machine.execCellSleepSleep c s
  | .cellSleepWake c => Sys2Proof.Machine.execCellSleepWake c s
  | .sleepProposeResend timeline => Sys2Proof.Machine.execSleepProposeResend timeline s
  | .sleepAccept port frame => Sys2Proof.Machine.execSleepAccept port frame s
  | .sleepRefuse port frame => Sys2Proof.Machine.execSleepRefuse port frame s
  | .cellWake port frame => Sys2Proof.Machine.execCellWake port frame s
  | .sleepCommitPoint timeline => Sys2Proof.Machine.execSleepCommitPoint timeline s
  | .cellSleepStart timeline => Sys2Proof.Machine.execCellSleepStart timeline s
  | .cellWakeLead timeline => Sys2Proof.Machine.execCellWakeLead timeline s
  | .cellWakeFrame timeline => Sys2Proof.Machine.execCellWakeFrame timeline s
  | .lifecycleAdvance c => Sys2Proof.Machine.execLifecycleAdvance c s
  | .macsecKekInstall c => Sys2Proof.Machine.execMacsecKekInstall c s
  | .macsecTxSakInstall c => Sys2Proof.Machine.execMacsecTxSakInstall c s
  | .macsecRxSakInstall c => Sys2Proof.Machine.execMacsecRxSakInstall c s
  | .macsecPtpKeyInstall c => Sys2Proof.Machine.execMacsecPtpKeyInstall c s
  | .macsecKeyDelete c => Sys2Proof.Machine.execMacsecKeyDelete c s
  | .zeroize c => Sys2Proof.Machine.execZeroize c s
  | .zeroizeKeysClear => Sys2Proof.Machine.execZeroizeKeysClear s
  | .debugChallenge c => Sys2Proof.Machine.execDebugChallenge c s
  | .debugPart c => Sys2Proof.Machine.execDebugPart c s
  | .debugOpen c => Sys2Proof.Machine.execDebugOpen c s
  | .challengeLapse => Sys2Proof.Machine.execChallengeLapse s
  | .debugClose c => Sys2Proof.Machine.execDebugClose c s
  | .tamper source => Sys2Proof.Machine.execTamper source s
  | .tack c => Sys2Proof.Machine.execTack c s
  | .tackApply => Sys2Proof.Machine.execTackApply s
  | .profileWrite c => Sys2Proof.Machine.execProfileWrite c s
  | .profileRead c => Sys2Proof.Machine.execProfileRead c s
  | .faultRead c => Sys2Proof.Machine.execFaultRead c s
  | .faultAck c => Sys2Proof.Machine.execFaultAck c s
  | .faultCtlAck block inst value => Sys2Proof.Machine.execFaultCtlAck block inst value s
  | .forceSet c => Sys2Proof.Machine.execForceSet c s
  | .faultForceWrite path block inst value => Sys2Proof.Machine.execFaultForceWrite path block inst value s
  | .flipMaskSet c => Sys2Proof.Machine.execFlipMaskSet c s
  | .flipMaskWrite path block inst high value => Sys2Proof.Machine.execFlipMaskWrite path block inst high value s
  | .scrubRead block inst memory => Sys2Proof.Machine.execScrubRead block inst memory s
  | .controlStoreRewrite cluster bank addr => Sys2Proof.Machine.execControlStoreRewrite cluster bank addr s
  | .servoSample value => Sys2Proof.Machine.execServoSample value s
  | .sourceLost value => Sys2Proof.Machine.execSourceLost value s
  | .sampleTimeout => Sys2Proof.Machine.execSampleTimeout s
  | .ppsInEdge sub => Sys2Proof.Machine.execPpsInEdge sub s
  | .ppsInLoss => Sys2Proof.Machine.execPpsInLoss s
  | .todInMessage bytes => Sys2Proof.Machine.execTodInMessage bytes s
  | .freqGate source measured valid => Sys2Proof.Machine.execFreqGate source measured valid s
  | .mastTick count => Sys2Proof.Machine.execMastTick count s
  | .todOutStart => Sys2Proof.Machine.execTodOutStart s
  | .replicaCheck => Sys2Proof.Machine.execReplicaCheck s
  | .refoscLoss => Sys2Proof.Machine.execRefoscLoss s
  | .refoscRestore => Sys2Proof.Machine.execRefoscRestore s
  | .mcSnapTrigger value => Sys2Proof.Machine.execMcSnapTrigger value s
  | .synceOutCtlWrite value => Sys2Proof.Machine.execSynceOutCtlWrite value s
  | .tlPosRead timeline path => Sys2Proof.Machine.execTlPosRead timeline path s
  | .tlFrameCntRead timeline path => Sys2Proof.Machine.execTlFrameCntRead timeline path s
  | .laneSignalDetect lane => Sys2Proof.Machine.execLaneSignalDetect lane s
  | .laneSignalLoss lane => Sys2Proof.Machine.execLaneSignalLoss lane s
  | .cdrLock lane => Sys2Proof.Machine.execCdrLock lane s
  | .cdrLockLoss lane => Sys2Proof.Machine.execCdrLockLoss lane s
  | .alignLock lane seen => Sys2Proof.Machine.execAlignLock lane seen s
  | .alignLoss loss => Sys2Proof.Machine.execAlignLoss loss s
  | .hiSer port => Sys2Proof.Machine.execHiSer port s
  | .bringupStageComplete port info => Sys2Proof.Machine.execBringupStageComplete port info s
  | .dvarMeasured lane rx tx => Sys2Proof.Machine.execDvarMeasured lane rx tx s
  | .trainTimerExpiry port => Sys2Proof.Machine.execTrainTimerExpiry port s
  | .backoffExpiry port => Sys2Proof.Machine.execBackoffExpiry port s
  | .linkStable port => Sys2Proof.Machine.execLinkStable port s
  | .portRestart port => Sys2Proof.Machine.execPortRestart port s
  | .helloProbeTimer port => Sys2Proof.Machine.execHelloProbeTimer port s
  | .helloRx port frame => Sys2Proof.Machine.execHelloRx port frame s
  | .topsailGo port => Sys2Proof.Machine.execTopsailGo port s
  | .topsailRetune port => Sys2Proof.Machine.execTopsailRetune port s
  | .epochAgreeTimeout port => Sys2Proof.Machine.execEpochAgreeTimeout port s
  | .cpriCapture port control data => Sys2Proof.Machine.execCpriCapture port control data s
  | .cpriTxFrame port => Sys2Proof.Machine.execCpriTxFrame port s
  | .laneDozeEntered lane => Sys2Proof.Machine.execLaneDozeEntered lane s
  | .wakeInstant lane => Sys2Proof.Machine.execWakeInstant lane s
  | .wakeWindowOpen lane active => Sys2Proof.Machine.execWakeWindowOpen lane active s
  | .wakeSequenceSeen lane => Sys2Proof.Machine.execWakeSequenceSeen lane s
  | .wakeWindowClose lane => Sys2Proof.Machine.execWakeWindowClose lane s
  | .wakeFailTimeout lane => Sys2Proof.Machine.execWakeFailTimeout lane s
  | .wakeReqRx lane => Sys2Proof.Machine.execWakeReqRx lane s
  | .fastRetrainDone lane => Sys2Proof.Machine.execFastRetrainDone lane s
  | .lpiRequest port enter tx => Sys2Proof.Machine.execLpiRequest port enter tx s
  | .earlyPresentRise => Sys2Proof.Machine.execEarlyPresentRise s
  | .removalDeclared => Sys2Proof.Machine.execRemovalDeclared s
  | .removalFloat => Sys2Proof.Machine.execRemovalFloat s
  | .reinsertReset => Sys2Proof.Machine.execReinsertReset s
  | .outputEnable => Sys2Proof.Machine.execOutputEnable s
  | .powerOnReset => Sys2Proof.Machine.execPowerOnReset s
  | .resetNColdReset => Sys2Proof.Machine.execResetNColdReset s
  | .coldResetCmd value => Sys2Proof.Machine.execColdResetCmd value s
  | .warmResetCmd value => Sys2Proof.Machine.execWarmResetCmd value s
  | .powerDown => Sys2Proof.Machine.execPowerDown s
  | .mainPowerLoss => Sys2Proof.Machine.execMainPowerLoss s
  | .thermalThrottle sensor reading => Sys2Proof.Machine.execThermalThrottle sensor reading s
  | .thermTrip => Sys2Proof.Machine.execThermTrip s
  | .sidebandWake => Sys2Proof.Machine.execSidebandWake s
  | .stageFuses bootSel profileSel vbatFailed => Sys2Proof.Machine.execStageFuses bootSel profileSel vbatFailed s
  | .stageBootFw bootSel profileSel slotA slotB => Sys2Proof.Machine.execStageBootFw bootSel profileSel slotA slotB s
  | .stageFololmane slotA slotB => Sys2Proof.Machine.execStageFololmane slotA slotB s
  | .stageDomains record => Sys2Proof.Machine.execStageDomains record s
  | .stageProfile readOk verified => Sys2Proof.Machine.execStageProfile readOk verified s
  | .stageHook slotA slotB => Sys2Proof.Machine.execStageHook slotA slotB s
  | .stagePorts => Sys2Proof.Machine.execStagePorts s
  | .timeValidSet => Sys2Proof.Machine.execTimeValidSet s
  | .timeWaitExpiry => Sys2Proof.Machine.execTimeWaitExpiry s
  | .stageSchedule => Sys2Proof.Machine.execStageSchedule s
  | .stageReady => Sys2Proof.Machine.execStageReady s
  | .bootMboxGo value image => Sys2Proof.Machine.execBootMboxGo value image s
  | .mgmtPortCfgWrite path allow value => Sys2Proof.Machine.execMgmtPortCfgWrite path allow value s
  | .rcRegisterRead path addr => Sys2Proof.Machine.execRcRegisterRead path addr s
  | .rw1cRegisterWrite path addr value => Sys2Proof.Machine.execRw1cRegisterWrite path addr value s
  | .registerWrite path addr half value => Sys2Proof.Machine.execRegisterWrite path addr half value s
  | .earlyPresentFall => Sys2Proof.Machine.execEarlyPresentFall s
  | .signalLossExpiry lane => Sys2Proof.Machine.execSignalLossExpiry lane s
  | .wakeSequenceEnd lane => Sys2Proof.Machine.execWakeSequenceEnd lane s
  | .ppsUnlabelled => Sys2Proof.Machine.execPpsUnlabelled s
  | .thermalRecover => Sys2Proof.Machine.execThermalRecover s
  | .perstNDeassert => Sys2Proof.Machine.execPerstNDeassert s
  | .i3cBusReset => Sys2Proof.Machine.execI3cBusReset s

end Sys2Proof.Machine
end

