-- ==== Sys2Proof/Safety.lean ====
section
/-! DEFINITION. What counts as a good state and a good step, and the words in which the statements speak of a step: parts of State,
frames, when a command packet is taken, and its final reply. -/

namespace Sys2Proof

open Machine

/-- Mast time is legal in the master counter and in every one of the 20 replicas (R16, R11). -/
def TimeLegal (s : State) : Prop :=
  s.time.master.legal = true ∧ s.time.replicas.length = 20 ∧ ∀ r ∈ s.time.replicas, r.t.legal = true

/-- A step is good when it answers a next state. -/
def StepGood (s : State) : Prop := ∃ t, step s = .next t

/-- The parts of State besides the queue of waiting commands. -/
inductive Part where
  | time | mast | rig | port | pk | hk | sk | host | cmd | out | flt | epochs | regs | power | sec | boot | deviceId | freeCtr
deriving DecidableEq, Repr

/-- Two states agree in a part. -/
def Part.same : Part → State → State → Prop
  | .time, s, t => t.time = s.time
  | .mast, s, t => t.mast = s.mast
  | .rig, s, t => t.rig = s.rig
  | .port, s, t => t.port = s.port
  | .pk, s, t => t.pk = s.pk
  | .hk, s, t => t.hk = s.hk
  | .sk, s, t => t.sk = s.sk
  | .host, s, t => t.host = s.host
  | .cmd, s, t => t.cmd = s.cmd
  | .out, s, t => t.out = s.out
  | .flt, s, t => t.flt = s.flt
  | .epochs, s, t => t.epochs = s.epochs
  | .regs, s, t => t.regs = s.regs
  | .power, s, t => t.power = s.power
  | .sec, s, t => t.sec = s.sec
  | .boot, s, t => t.boot = s.boot
  | .deviceId, s, t => t.deviceId = s.deviceId
  | .freeCtr, s, t => t.freeCtr = s.freeCtr

/-- The frame of a step: state t differs from s at most in the named parts, and the queue stands as it was. -/
def Frame (l : List Part) (s t : State) : Prop := t.pending = s.pending ∧ ∀ p, p ∉ l → p.same s t

/-- Every register of the store but those at the listed addresses reads as before. -/
def RegsBut (l : List Nat) (s t : State) : Prop := ∀ r ix, regAddr r ix ∉ l → t.rg r ix = s.rg r ix

/-- The part runs: it takes action (R440, R441, R452, R372), and its Mast clock counts (Table 18-2, stage 4). -/
abbrev Live (s : State) : Prop := s.halted = false ∧ s.mast.running = true

/-- A command packet comes to apply in its turn (R292, R300): it has not gone ahead of another, no packet of its clock goes ahead of it, and
none of its source waits before it for a domain. -/
abbrev Turn (c : Cmd) (s : State) : Prop := c ∉ s.cmd.early ∧ s.ahead c = [] ∧ s.queuesBehind c = none

/-- A command packet passes everything that comes before its opcode's own checks, and applies at once: intake is open and Fololmane
takes the opcode (R424), the source has room (R289), its turn has come (R292, R300), the header is good (R287, R288, R292, R297), no
domain has to leave its state first (R347, R8), it is not timed (R294), and no other command prevails over it (R300). -/
abbrev Taken (code : Nat) (domain : Cmd → State → Option Nat) (c : Cmd) (s : State) : Prop :=
  Live s ∧ 4 ≤ s.boot.stage ∧ (s.domain domMgmt).state = 0 ∧ s.outstanding c.src < maxOutstanding c.src ∧ Turn c s
  ∧ headerCheck code c s = none ∧ (s.boot.ready = true ∨ earlyOpcode code = true)
  ∧ (domain c s).all (fun d => !s.mustLeave d) = true ∧ c.timed = false
  ∧ intakeWinner c s = none ∧ queuedWinner c s.pending = none

/-- A timed command packet passes everything that comes before its opcode's own checks, and is held for its switch tick (R294). -/
abbrev Held (code : Nat) (domain : Cmd → State → Option Nat) (c : Cmd) (s : State) : Prop :=
  Live s ∧ 4 ≤ s.boot.stage ∧ (s.domain domMgmt).state = 0 ∧ s.outstanding c.src < maxOutstanding c.src ∧ Turn c s
  ∧ headerCheck code c s = none ∧ (s.boot.ready = true ∨ earlyOpcode code = true)
  ∧ (domain c s).all (fun d => !s.mustLeave d) = true ∧ c.timed = true ∧ timedRefusal c s = none

/-- No stored word carries an error pattern, no force bit and no flip-mask is armed: every read of a protected memory gives what was
stored (R395, R409, R411). -/
abbrev Clean (s : State) : Prop := s.flt.ecc = [] ∧ s.flt.srcs.all (fun x => x.2.forced == 0 && x.2.flips == []) = true

/-- The newest reply is the interim reply PENDING of a command, with the number of its source's pending commands in DETAIL (R294). -/
def Pends (c : Cmd) (n : Nat) (t : State) : Prop :=
  ∃ r, t.out.replies.getLast? = some r ∧ r.src = c.src ∧ fld r.w0 63 48 = c.opcode ∧ bitAt r.w0 45 = false ∧ fld r.w0 31 16 = c.tag
    ∧ fld r.w1 63 48 = Status.pending.code ∧ fld r.w1 47 32 = n % 65536 ∧ r.result = []

/-- The newest reply is the final reply of a command with this status, DETAIL and result block (R286, Tables 13-3 and 13-4). -/
def Answers (c : Cmd) (st : Status) (detail : Nat) (result : List W) (t : State) : Prop :=
  ∃ r, t.out.replies.getLast? = some r ∧ r.src = c.src ∧ fld r.w0 63 48 = c.opcode ∧ bitAt r.w0 45 = true ∧ fld r.w0 31 16 = c.tag
    ∧ fld r.w1 63 48 = st.code ∧ fld r.w1 47 32 = detail % 65536 ∧ r.result = result

/-- The registers that counting and answering a command changes: CMD_SRC_CNT of its source, and FN_INT_STATUS where the reply is an
admin completion entry (R289, R309). -/
def cmdRegs (c : Cmd) : List Nat := [regAddr .cmdSrcCnt [srcCode c.src], regAddr .fnIntStatus [(srcFn c.src).getD 0]]

/-- The registers that posting event 0xF000 + k changes at most: the interrupt and count of lost events, the count of signals, and
FN_INT_STATUS of a function that subscribed the event (R303, R309). -/
def eventRegs (k : Nat) (s : State) : List Nat :=
  [regAddr .intSignalCnt [], regAddr .cmdIntStatus [], regAddr .eventLostCnt [], regAddr .fnIntStatus [((s.routeOf k).bind srcFn).getD 0]]

/-- The registers that a report of a fault changes at most: FAULT_CNT of its source and class, and what its event changes (R402 to R406). -/
def faultRegs (b n cls : Nat) (s : State) : List Nat := regAddr .faultCnt [b, n, cls] :: eventRegs 11 s

/-- Does a target set name an element (Table 3-9)? -/
def inSet (ws : List W) (n : Nat) : Bool := bitAt (ws.getD (n / 64) 0) (n % 64)

/-- An evaluated event of an entry with action `a` has come due, and no bank switch or timed command goes before it (R66, R63, R295). -/
abbrev EventDue (a bank entry : Nat) (v : RigEvent) (s : State) : Prop :=
  Live s ∧ Clean s ∧ s.notYet v = false ∧ entAction ((s.bank (bank % 2)).entry entry) = a
  ∧ s.rig.evaluated.find? (fun v => v.bank == bank % 2 && v.entry == entry && decide (v.sched ≤ s.tick)) = some v

/-- A LINK_UP port has gone down with a cause: a new attempt runs from stage 1 on every lane, and the loss and the attempt are counted,
and every timestamp is UNCAL (R87, R81, R23). -/
def WentDown (p cause : Nat) (s t : State) : Prop :=
  (t.prt p).state = 1 ∧ (t.prt p).stage = 1 ∧ (t.prt p).cause = cause ∧ (t.prt p).startTick = s.mast.tick
  ∧ (∀ n ∈ s.lanesOf p, (t.lane n).stage = 1 ∧ (t.lane n).cdr = false ∧ (t.lane n).aligned = false ∧ (t.lane n).uncal = true)
  ∧ (∀ k, k ≠ p → t.prt k = s.prt k)
  ∧ t.rgf .portLinkCnt [p] 63 32 = satAdd 32 (s.rgf .portLinkCnt [p] 63 32) 1
  ∧ t.rgf .portLinkCnt [p] 31 0 = satAdd 32 (s.rgf .portLinkCnt [p] 31 0) 1

/-- Slice i takes a packet of n cells, green or yellow, for queue q of port x: the queue admits it, and the pools give its cells (R158 to
R160). -/
def Room (i x q n : Nat) (yellow : Bool) (s : State) : Prop :=
  ∃ pool cells, admitQueue s i (16 * x + q) yellow none = some pool
    ∧ drawCells (fld (s.rg .admProfile [(s.tmq (16 * x + q)).profile]) 47 36) (s.freeRsv i) (s.freeShared i)
        ((s.slice i).used.map (·.1) ++ (s.slice i).leaked) (s.uS i (16 * x + q)) (some pool) n = some cells

/-- Slice i has stored a packet with the property P, and its one reference stands last in queue q of port x (R157, R161). -/
def Queued (i x q : Nat) (P : Pkt → Prop) (s t : State) : Prop :=
  ∃ id r, P (tget {} (t.slice i).stored id).pkt ∧ (∀ j, j ≠ id → tget {} (t.slice i).stored j = tget {} (s.slice i).stored j)
    ∧ r.id = id ∧ r.port = x ∧ r.queue = q ∧ r.mirror = false ∧ r.next = 0
    ∧ r.len = (tget {} (t.slice i).stored id).pkt.len ∧ r.cells = cellsOf r.len
    ∧ tget [] (t.slice i).voq (16 * x + q) = tget [] (s.slice i).voq (16 * x + q) ++ [r]
    ∧ (∀ k, k ≠ 16 * x + q → tget [] (t.slice i).voq k = tget [] (s.slice i).voq k) ∧ ∀ j, j ≠ i → t.slice j = s.slice j

/-- Cluster q takes an event of an opcode: its dispatch entry is valid, and its queue is not full (R252, R254). -/
abbrev HookTakes (q op : Nat) (s : State) : Prop :=
  bitAt ((s.cluster q).entry (s.cluster q).active op) 63 = true ∧ (s.cluster q).queue.length < 8192

/-- An event stands last in the dispatch queue of cluster q, with the priority of its dispatch entry (R252). -/
def Posted (q : Nat) (e : HkEvent) (s t : State) : Prop :=
  (t.cluster q).queue = (s.cluster q).queue ++
    [{ e with prio := fld ((s.cluster q).entry (s.cluster q).active e.opcode) 60 59, seq := (s.cluster q).nextSeq }]

/-- Engine e of cluster q runs a routine, waits for nothing, and the microword at its microaddress in the routine's bank is w: it issues it now
(R245, R247). -/
def Issues (q e w : Nat) (s : State) : Prop :=
  Live s ∧ Clean s ∧ q < 4 ∧ e < 16 ∧ s.mayIssue q e = true ∧ (s.eng q e).vec = none ∧ (s.eng q e).pc ≤ 49151
  ∧ ∃ r, (s.eng q e).routine = some r
    ∧ fld72 (tget 0 (s.cluster q).store (16384 * r.bank + (s.eng q e).pc / 3)) (24 * ((s.eng q e).pc % 3) + 23) (24 * ((s.eng q e).pc % 3)) = w

/-- Engine e of cluster q has come to be n; every other engine, and the rest of every cluster, is as before. -/
def EngineIs (q e : Nat) (n : Engine) (s t : State) : Prop :=
  t.eng q e = n ∧ (∀ x y, ¬(x = q ∧ y = e) → t.eng x y = s.eng x y)
  ∧ ∀ x, { t.cluster x with engines := [] } = { s.cluster x with engines := [] }

/-- Engine e of cluster q has taken a trap of a class with its cause at the microaddress pc: the frame holds microaddress, flags, class, cause and
the registers of the vector's SAVE_MASK, and the handler of the bank runs (R258, R259, Table 11-10). -/
def Trapped (q e cls cause pc bank : Nat) (s t : State) : Prop :=
  let n := s.eng q e
  let m := t.eng q e
  let v := (s.cluster q).entry bank (0xF8 + cls)
  let mask := fld v 40 9 / 2 * 2
  m.pc = deEntry v ∧ m.handler = some cls ∧ m.trapTick = s.mast.tick ∧ m.wait = none ∧ m.regs = n.regs ∧ m.links = n.links
  ∧ (∃ r, n.routine = some r ∧ m.local_ 1984 = frameWord pc cls r.event.opcode r.bank n n.wait.isSome false)
  ∧ m.local_ 1985 = BitVec.ofNat 72 (mask % 2 ^ 32 * 2 ^ 32 + cause % 2 ^ 32)
  ∧ (∀ j < (bitsOf 32 mask).length, m.local_ (1986 + j) = n.reg ((bitsOf 32 mask).getD j 0))
  ∧ ∀ a, (a < 1984 ∨ 1986 + (bitsOf 32 mask).length ≤ a) → m.local_ a = n.local_ a

/-- Engine e of cluster q has failed with a cause: it runs nothing, HK_FAULT names it, the cluster's epoch has advanced (R268). -/
def EngineFailed (q e cause : Nat) (s t : State) : Prop :=
  (t.eng q e).failed = true ∧ (t.eng q e).routine = none ∧ (t.eng q e).under = none ∧ (t.cluster q).lastFault = e + 16 * cause
  ∧ (t.cluster q).faults = satAdd 16 (s.cluster q).faults 1 ∧ t.epoch (ekCluster q) = (s.epoch (ekCluster q) + 1) % 65536
  ∧ bitAt (t.rg .hkIntStatus [q]) 0 = true

/-- A completion queue in host memory has a free slot, and nothing waits for it (R325). -/
abbrev CqRoom (r : CqRef) (s : State) : Prop :=
  (s.cqOf r).waiting = [] ∧ (s.cqOf r).full = false ∧ (match r with | .qp _ => True | .chan c => s.chanCluster c = none)

/-- The device has written `before` and then a completion entry into the next slot of a queue, with its PHASE (R314, R325). -/
def CqHas (r : CqRef) (e : List W) (before : List HostWrite) (s t : State) : Prop :=
  let c := s.cqOf r
  (t.cqOf r).tail = (c.tail + 1) % 65536 ∧ (t.cqOf r).waiting = []
  ∧ t.out.hostWrites = s.out.hostWrites ++ before ++
    [{ fn := s.cqFn r, addr := c.base + 32 * (c.tail % 2 ^ c.log), bytes := (c.stamp e).flatMap wordBytes }]

/-- The Mast clock counts, or it stands and its counters are 0 (Table 18-2). -/
abbrev TimeStands (s : State) : Prop := s.mast.running = true ∨ s.time = {}

/-- A zeroization has begun (R390): keys are blocked, the locker's KEK slots are gone, LOW has risen, the run is counted. -/
def ZeroStarted (cause level : Nat) (s t : State) : Prop :=
  t.sec.keysBlocked = true ∧ (∃ z, t.sec.zero = some z ∧ z.cause = cause ∧ z.level = level) ∧ t.sec.kek = []
  ∧ t.sec.low = (s.sec.low + 1) % 2 ^ 48 ∧ t.sec.lifecycle = s.sec.lifecycle ∧ t.sec.txSa = s.sec.txSa ∧ t.sec.rxSa = s.sec.rxSa
  ∧ t.rgf .secCnt [] 31 16 = satAdd 16 (s.rgf .secCnt [] 31 16) 1

/-- The epoch of an object that existed before a reset: advanced, but 0 for a classifier bank (R417, R413, R115). -/
def epochAfterReset (k : Nat) (s : State) : Nat := if 16 ≤ k ∧ k < 48 then 0 else (s.epoch k + 1) % 65536

/-- What a cold reset leaves (R417, Table 18-1): Mast time 0 and the start-up at stage 1, every block and register at its reset
values but FAULT_CTL and FAULT_CNT of the management source, DEV_RESET_CTL and RESET_CAUSE (R4, R406, R434), every epoch advanced; fuses, locker, profile slots and the elapsed ticks of the model as they were; its cause in RESET_CAUSE (R434). -/
def ColdStarted (cause : Nat) (s t : State) : Prop :=
  t.boot = { stage := 1, slots := s.boot.slots } ∧ t.time = {} ∧ t.mast = { tick := s.mast.tick } ∧ t.rig = {} ∧ t.port = {} ∧ t.pk = {}
  ∧ t.hk = {} ∧ t.sk = {} ∧ t.host = {} ∧ t.cmd = {} ∧ t.sec = s.sec.kept false ∧ t.rgf .resetCause [] 2 0 = cause
  ∧ (∀ r ix, let a := regAddr r ix
      a ≠ 0x1018 → a ≠ 0x1020 → a ≠ 0xC00020 → ¬(0xC00050 ≤ a ∧ a < 0xC000D0) → t.rg r ix = regResetOf r ix)
  ∧ (∀ k ∈ s.epochKeys, t.epoch k = epochAfterReset k s) ∧ t.pending = s.pending

/-- What a warm reset leaves (R417, Table 18-1): Mast time runs on, the start-up is at stage 2, every function shows STATE_LOST and has
MSI-X off, every epoch has advanced. -/
def WarmStarted (cause : Nat) (s t : State) : Prop :=
  t.boot = { stage := 2, warm := true, slots := s.boot.slots, refoscFreq := s.boot.refoscFreq } ∧ t.time = s.time
  ∧ t.mast = { s.mast with txts := [] } ∧ t.port = {} ∧ t.pk = {} ∧ t.hk = {} ∧ t.sk = {} ∧ t.cmd = { msixOff := List.range 64 }
  ∧ (∀ f < 64, t.fn f = { lost := true }) ∧ t.sec = s.sec.kept true ∧ t.rgf .resetCause [] 2 0 = cause
  ∧ t.rgf .resetCause [] 31 16 = satAdd 16 (s.rgf .resetCause [] 31 16) 1
  ∧ (∀ k ∈ s.epochKeys, t.epoch k = epochAfterReset k s) ∧ t.pending = s.pending

/-- A command of a packet completes: the step answers a next state t in which the command is answered with OK and the result block `res`;
t differs from s, with the packet noted at the intake, only in the parts `l` and in what the count and the reply touch; and t has the
property P. -/
def Answered (i : Instr) (c : Cmd) (s : State) (res : List W) (l : List Part) (P : State → Prop) : Prop :=
  ∃ t, exec i s = .next t ∧ Answers c .ok 0 res t ∧ Frame ([.host, .out, .regs] ++ l) (noteIntake c s) t ∧ P t

/-- As `Answered`; and every register but those of the count, the reply and `ra` reads as before. -/
def Completes (i : Instr) (c : Cmd) (s : State) (res : List W) (l : List Part) (ra : List Nat) (P : State → Prop) : Prop :=
  Answered i c s res l fun t => RegsBut (cmdRegs c ++ ra) s t ∧ P t

/-- An event completes: the step answers a next state t that differs from s only in the parts `l` and has the property P. -/
def Goes (i : Instr) (s : State) (l : List Part) (P : State → Prop) : Prop := ∃ t, exec i s = .next t ∧ Frame l s t ∧ P t

/-- A row of a command packet: its opcode, its constructor, the power domain of its target, and the checks and effect of its own. -/
structure CmdRow where
  code : Nat
  instr : Cmd → Instr
  domain : Cmd → State → Option Nat
  body : CmdBody

/-- Rows of command packets, part 1. -/
def cmdRowsA : List CmdRow :=
  [⟨0x0000, .nop, noDomain, nopBody⟩, ⟨0x0001, .negotiateVersion, noDomain, negotiateBody⟩,
   ⟨0x0002, .deviceInfo, noDomain, deviceInfoBody⟩, ⟨0x0003, .cmdCancel, noDomain, cmdCancelBody⟩,
   ⟨0x0004, .eventSubscribe, noDomain, eventSubscribeBody⟩, ⟨0x0004, .eventUnsubscribe, noDomain, eventSubscribeBody⟩,
   ⟨0x0005, .mgmtRelay, noDomain, mgmtRelayBody⟩, ⟨0x0006, .regRead, regReadDomain, regReadBody⟩,
   ⟨0x0007, .regWrite, regWriteDomain, regWriteBody⟩, ⟨0x0100, .mastConfig, noDomain, mastConfigBody⟩,
   ⟨0x0101, .mastSetTime, noDomain, mastSetTimeBody⟩, ⟨0x0102, .timelineSet, noDomain, timelineSetBody⟩,
   ⟨0x0200, .riggingWriteEntries, noDomain, riggingWriteBody⟩, ⟨0x0200, .riggingWriteTargetSets, noDomain, riggingWriteBody⟩,
   ⟨0x0201, .riggingRead, noDomain, riggingReadBody⟩, ⟨0x0202, .riggingCommit, noDomain, riggingCommitBody⟩,
   ⟨0x0203, .riggingCancel, noDomain, riggingCancelBody⟩, ⟨0x0300, .portAdmin, portDomain, portAdminBody⟩,
   ⟨0x0301, .laneDozeConfig, portDomain, laneDozeConfigBody⟩, ⟨0x0400, .classRuleWrite, maskDomain, classRuleWriteBody⟩,
   ⟨0x0401, .classMode, maskDomain, classModeBody⟩, ⟨0x0402, .classBankSwap, tileDomain, classBankSwapBody⟩]

/-- Rows of command packets, part 2. -/
def cmdRowsB : List CmdRow :=
  [⟨0x0403, .classCounterRead, tileDomain, classCounterReadBody⟩, ⟨0x0404, .policerSet, word0Tile, policerSetBody⟩,
   ⟨0x0405, .indirWrite, maskDomain, indirWriteBody⟩, ⟨0x0406, .cpuCodeWrite, noDomain, cpuCodeWriteBody⟩,
   ⟨0x0407, .encapWrite, maskDomain, encapWriteBody⟩, ⟨0x0500, .l2EntryWrite, maskDomain, (hostReqBody 1)⟩,
   ⟨0x0501, .l2EntryDelete, maskDomain, (hostReqBody 2)⟩, ⟨0x0502, .l2Flush, maskDomain, l2FlushBody⟩,
   ⟨0x0503, .l2Dump, tileDomain, l2DumpBody⟩, ⟨0x0504, .l2Reseed, tileDomain, l2ReseedBody⟩,
   ⟨0x0505, .l2RehashAck, tileDomain, l2RehashAckBody⟩, ⟨0x0506, .lpmWrite, maskDomain, lpmWriteBody⟩,
   ⟨0x0507, .lpmSync, noDomain, lpmSyncBody⟩, ⟨0x0508, .floodSetWrite, maskDomain, floodSetWriteBody⟩,
   ⟨0x0600, .bufQueueConfig, queueDomain, bufQueueConfigBody⟩, ⟨0x0601, .xbarPlaneEnable, noDomain, xbarPlaneEnableBody⟩,
   ⟨0x0602, .tmQueueConfig, queueDomain, tmQueueConfigBody⟩, ⟨0x0603, .tmPortConfig, tmPortDomain, tmPortConfigBody⟩,
   ⟨0x0604, .shaperSet, shaperDomain, shaperSetBody⟩, ⟨0x0605, .tmCounterRead, counterDomain, tmCounterReadBody⟩,
   ⟨0x0700, .skeinCreate, createDomain, skeinCreateBody⟩, ⟨0x0701, .skeinModify, skeinDomain, skeinModifyBody⟩]

/-- Rows of command packets, part 3. -/
def cmdRowsC : List CmdRow :=
  [⟨0x0702, .skeinDestroy, skeinDomain, skeinDestroyBody⟩, ⟨0x0703, .skeinMove, moveDomain, skeinMoveBody⟩,
   ⟨0x0704, .skeinRead, noDomain, skeinReadBody⟩, ⟨0x0800, .hookLoad, hookDomain, hookLoadBody⟩,
   ⟨0x0801, .hookBankSwitch, hookDomain, hookBankSwitchBody⟩, ⟨0x0802, .hookForceSwap, hookDomain, hookForceSwapBody⟩,
   ⟨0x0803, .hookDispatchWrite, dispatchDomain, hookDispatchWriteBody⟩,
   ⟨0x0804, .hookEngineEnable, enableDomain, hookEngineEnableBody⟩, ⟨0x0805, .hookServiceConfig, serviceDomain, hookServiceConfigBody⟩,
   ⟨0x0806, .hookCall, noDomain, hookCallBody⟩, ⟨0x0900, .telemConfig, (fun _ _ => some domTelemetry), telemConfigBody⟩,
   ⟨0x0901, .telemHistRead, (fun _ _ => some domTelemetry), telemHistReadBody⟩, ⟨0x0A00, .castOn, noDomain, castOnBody⟩,
   ⟨0x0A01, .bindOff, noDomain, bindOffBody⟩, ⟨0x0A02, .dmaChannelConfig, noDomain, dmaConfigBody⟩,
   ⟨0x0A03, .poolConfig, noDomain, poolConfigBody⟩, ⟨0x0A04, .legacyModeSwitch, noDomain, legacyBody⟩,
   ⟨0x0A04, .legacyQueueConfig, noDomain, legacyBody⟩, ⟨0x0B00, .powerTolerance, noDomain, powerToleranceBody⟩,
   ⟨0x0B01, .opPointSet, noDomain, opPointSetBody⟩, ⟨0x0B02, .powerCap, noDomain, powerCapBody⟩,
   ⟨0x0B03, .domainForce, noDomain, domainForceBody⟩]

/-- Rows of command packets, part 4. -/
def cmdRowsD : List CmdRow :=
  [⟨0x0B03, .deviceWideForce, noDomain, domainForceBody⟩, ⟨0x0B04, .cellSleepSleep, noDomain, cellSleepBody⟩,
   ⟨0x0B04, .cellSleepWake, noDomain, cellSleepBody⟩, ⟨0x0C00, .lifecycleAdvance, noDomain, lifecycleAdvanceBody⟩,
   ⟨0x0C01, .macsecKekInstall, macsecDomain, macsecBody⟩, ⟨0x0C01, .macsecTxSakInstall, macsecDomain, macsecBody⟩,
   ⟨0x0C01, .macsecRxSakInstall, macsecDomain, macsecBody⟩, ⟨0x0C01, .macsecPtpKeyInstall, macsecDomain, macsecBody⟩,
   ⟨0x0C01, .macsecKeyDelete, macsecDomain, macsecBody⟩, ⟨0x0C02, .zeroize, noDomain, zeroizeBody⟩,
   ⟨0x0C03, .debugChallenge, noDomain, debugBody⟩, ⟨0x0C03, .debugPart, noDomain, debugBody⟩,
   ⟨0x0C03, .debugOpen, noDomain, debugBody⟩, ⟨0x0C04, .debugClose, noDomain, debugCloseBody⟩, ⟨0x0D00, .tack, noDomain, tackBody⟩,
   ⟨0x0D01, .profileWrite, noDomain, profileWriteBody⟩, ⟨0x0D02, .profileRead, noDomain, profileReadBody⟩,
   ⟨0x0E00, .faultRead, noDomain, faultReadBody⟩, ⟨0x0E01, .faultAck, noDomain, faultAckBody⟩,
   ⟨0x0E02, .forceSet, faultDomain, forceSetBody⟩, ⟨0x0E03, .flipMaskSet, faultDomain, flipMaskSetBody⟩]

/-- Every row of a command packet (Table 13-7). -/
def cmdRows : List CmdRow := cmdRowsA ++ cmdRowsB ++ cmdRowsC ++ cmdRowsD

/-- A command of a row is refused: the newest reply is its final reply, the refusal is counted, and nothing else changes, of state u, but the
interrupt of a bad sideband checksum (R287, R289). -/
def RefusedFrom (u : State) (i : Instr) (c : Cmd) (s : State) (st : Status) (detail : Nat) : Prop :=
  ∃ t, exec i s = .next t ∧ Answers c st detail [] t ∧ Frame [.host, .out, .regs] u t
    ∧ RegsBut (cmdRegs c ++ [regAddr .cmdIntStatus [], regAddr .intSignalCnt []]) s t
    ∧ t.rgf .cmdSrcCnt [srcCode c.src] 31 16 = satAdd 16 (s.rgf .cmdSrcCnt [srcCode c.src] 31 16) 1

/-- A command is refused before its own checks: the state stays as it was. -/
def Refused (i : Instr) (c : Cmd) (s : State) (st : Status) (detail : Nat) : Prop := RefusedFrom s i c s st detail

/-- A command is refused by its own checks: the packet has been noted at the intake (R300). -/
def BodyRefused (i : Instr) (c : Cmd) (s : State) (st : Status) (detail : Nat) : Prop := RefusedFrom (noteIntake c s) i c s st detail

/-- Fololmane takes packets from a source: intake is open, its domain runs, the source has room, and the packet's turn has come (R424, R349,
R289, R292, R300). -/
abbrev IntakeOpen (c : Cmd) (s : State) : Prop :=
  Live s ∧ 4 ≤ s.boot.stage ∧ (s.domain domMgmt).state = 0 ∧ s.outstanding c.src < maxOutstanding c.src ∧ Turn c s

end Sys2Proof
end

