-- ==== Sys2Proof/Certificates/Slice0/Obligations.lean ====
section
/-! DEFINITION. The statements for the provers. The first groups say, family by family, when each command completes and what it leaves changed and
unchanged; the last ones speak of every command. -/

open Sys2Proof Sys2Proof.Machine

/-- A command of group 0x00 that is taken completes: NOP changes nothing (R287); NEGOTIATE_VERSION with no other command outstanding makes the
highest common version current for its source alone (R298); DEVICE_INFO returns the part number, revision, device identifier and versions;
EVENT_SUBSCRIBE makes its source the subscriber of exactly the named events, and with bit 63 withdraws it from those of them that it
subscribed (R303). An I3C bus reset returns the SIDEBAND source's version to 1 (R297). -/
def Obligations.ManagementCommands : Prop := ∀ (c : Cmd) (s : State),
  (Taken 0x0000 noDomain c s → Completes (.nop c) c s [] [] [] fun _ => True)
  ∧ (∀ v, Taken 0x0001 noDomain c s → s.outstanding c.src = 0 → commonVersion (fld (c.p 0) 3 0) = some v →
      Completes (.negotiateVersion c) c s [mk 7 0 v ||| mk 15 8 0x0E] [.cmd] [] fun t =>
        t.cmdVersion c.src = v ∧ (∀ x, srcKey x ≠ srcKey c.src → t.cmdVersion x = s.cmdVersion x)
        ∧ t.cmd = { (noteIntake c s).cmd with version := t.cmd.version })
  ∧ (Taken 0x0002 noDomain c s →
      Completes (.deviceInfo c) c s
        [mk 63 48 0x9512 ||| mk 47 40 Config.revision.toNat ||| mk 39 32 0x0E ||| mk 11 0 s.deviceId,
         mk 63 48 s.boot.imgBoot ||| mk 47 32 s.boot.imgFol ||| mk 31 16 s.hookVersion] [] [] fun _ => True)
  ∧ (Taken 0x0004 noDomain c s → bitAt (c.p 0) 63 = false →
      Completes (.eventSubscribe c) c s [] [.cmd] [] fun t =>
        (∀ k, t.routeOf k = if (fld (c.p 0) 31 0).testBit k then some c.src else s.routeOf k)
        ∧ t.cmd = { (noteIntake c s).cmd with route := t.cmd.route, subs := t.cmd.subs })
  ∧ (Taken 0x0004 noDomain c s → bitAt (c.p 0) 63 = true →
      Completes (.eventUnsubscribe c) c s [] [.cmd] [] fun t =>
        (∀ k, t.routeOf k = if (fld (c.p 0) 31 0).testBit k ∧ s.routeOf k = some c.src then none else s.routeOf k)
        ∧ t.cmd = { (noteIntake c s).cmd with route := t.cmd.route, subs := t.cmd.subs })
  ∧ (Live s → Goes .i3cBusReset s [.cmd] fun t =>
        t.cmdVersion .sideband = 1 ∧ (∀ x, srcKey x ≠ 0 → t.cmdVersion x = s.cmdVersion x) ∧ t.cmd = { s.cmd with version := t.cmd.version })

/-- CMD_CANCEL of a pending timed command of its source, with at least 64 ticks left, takes it off the list, ends it with CANCELLED and
answers OK (R296); the events that a bank switch so ended had evaluated for its own bank are gone (R63). MGMT_RELAY on a port with an agreed Dravua version opens a relay and sends the inner packet as a frame of type 0x30
(R304). The remote reply of an open relay is the relay's result: a final one ends it, the interim one of a timed inner command leaves it
open. A relay whose timeout has come with no remote reply ends with RELAY_TIMEOUT. -/
def Obligations.CancelAndRelay : Prop := ∀ (c : Cmd) (s : State),
  (∀ p, Taken 0x0003 noDomain c s →
      s.cmd.timed.find? (fun t => t.cmd.src == c.src && t.cmd.tag == fld (c.p 0) 15 0 && !t.own) = some p → 64 ≤ s.switchTick p - s.tick →
      Answered (.cmdCancel c) c s [] [.cmd, .sk, .boot, .rig] fun t =>
        t.cmd = { (noteIntake c s).cmd with timed := s.cmd.timed.filter (fun u => u.order != p.order), subs := t.cmd.subs }
        ∧ t.rig = (if p.opcode = 0x202 ∨ p.opcode = 0xD00 then (dropShadow s).rig else s.rig)
        ∧ (∃ r ∈ t.out.replies, r.src = p.cmd.src ∧ fld r.w0 31 16 = p.cmd.tag ∧ fld r.w1 63 48 = Status.cancelled.code))
  ∧ (Taken 0x0005 noDomain c s → s.linkUp (fld (c.p 0) 8 0) = true → (s.prt (fld (c.p 0) 8 0)).ver ≠ 0 → fld (c.p 0) 31 16 ≤ 1000 →
      fld (c.p 1) 63 48 ≠ 5 →
      Goes (.mgmtRelay c) s [.cmd, .out, .regs] fun t =>
        t.out = (mgmtFrameOut 0x30 (fld (c.p 0) 8 0) dravuaMac (c.params.drop 1) s).out
        ∧ t.cmd = { (noteIntake c s).cmd with
          nextRelay := s.cmd.nextRelay + 1, relays := s.cmd.relays ++ [relayOf c s] }
        ∧ RegsBut [regAddr .cmdSrcCnt [srcCode c.src]] s t)
  ∧ (∀ id w0 w1 result r, Live s → s.cmd.relays.find? (fun r => r.id == id) = some r → (bitAt w0 45 = true ∨ r.timed = false) →
      Goes (.relayReply id w0 w1 result) s [.cmd, .host, .out, .regs] fun t =>
        Answers r.cmd .ok 0 (w0 :: w1 :: result) t ∧ t.cmd = { s.cmd with relays := s.cmd.relays.filter fun x => x.id != id })
  ∧ (∀ id w0 w1 result r, Live s → s.cmd.relays.find? (fun r => r.id == id) = some r → bitAt w0 45 = false → r.timed = true →
      Goes (.relayReply id w0 w1 result) s [.cmd, .host, .out, .regs] fun t =>
        (∃ x, t.out.replies = s.out.replies ++ [x] ∧ x.src = r.cmd.src ∧ x.result = w0 :: w1 :: result ∧ bitAt x.w0 45 = false)
        ∧ t.cmd = { s.cmd with relays := s.cmd.relays.map fun x => if x.id = id then { x with answered := true } else x })
  ∧ (∀ id r, Live s → s.cmd.relays.find? (fun r => r.id == id && !r.answered && decide (r.dueTick ≤ s.tick)) = some r →
      Goes (.relayTimeout id) s [.cmd, .host, .out, .regs] fun t =>
        Answers r.cmd .relayTimeout 0 [] t ∧ t.cmd = { s.cmd with relays := s.cmd.relays.filter fun x => x.id != id })

/-- REG_READ that is taken, of a register of an awake domain, returns what the register shows in all bits that its table defines (R458, R5),
and changes no register but an RC register, which it zeroes (R4); of an offset that no register occupies it returns 0 (R459); of a register
of a domain in PS3 or PS4 it returns 0 and wakes nothing (R460). The row of an RC register read on any path returns and zeroes the
register. TXTS_WORD0 and _WORD1, TL_POS, TL_FRAME_CNT and LOCKER_RECORD have rules of their own and are stated with them. -/
def Obligations.RegisterReads : Prop := ∀ (c : Cmd) (s : State),
  (∀ r ix, Taken 0x0006 regReadDomain c s → (blockOf (c.n 0)).isSome = true → regAt (c.n 0) = some (r, ix) →
      s.awake (keyDomain (c.n 0)) = true → (regDesc r).acc ≠ .wo → (regDesc r).acc ≠ .rc →
      r ≠ .txtsWord0 → r ≠ .tlPos → r ≠ .tlFrameCnt → r ≠ .lockerRecord → s.foreign r ix = false →
      ∃ w, Completes (.regRead c) c s [w] [.power, .freeCtr] [] fun _ =>
        w &&& shownBits r ix = (wakeDomain (keyDomain (c.n 0)) (noteIntake c s)).regView r ix &&& shownBits r ix)
  ∧ (∀ r ix, Taken 0x0006 regReadDomain c s → (blockOf (c.n 0)).isSome = true → regAt (c.n 0) = some (r, ix) →
      s.awake (keyDomain (c.n 0)) = true → (regDesc r).acc = .rc → r ≠ .txtsWord1 → regAddr r ix ∉ cmdRegs c →
      ∃ w, Completes (.regRead c) c s [w] [.power, .freeCtr] [regAddr r ix] fun t =>
        w &&& shownBits r ix = s.rg r ix &&& shownBits r ix ∧ t.rg r ix = 0)
  ∧ (Taken 0x0006 regReadDomain c s → (blockOf (c.n 0)).isSome = true → regAt (c.n 0) = none →
      s.awake (keyDomain (c.n 0)) = true → Completes (.regRead c) c s [0] [.power] [] fun _ => True)
  ∧ (Taken 0x0006 regReadDomain c s → (blockOf (c.n 0)).isSome = true → 3 ≤ (s.domain (keyDomain (c.n 0))).state →
      Completes (.regRead c) c s [0] [] [] fun _ => True)
  ∧ (∀ path a key r ix, Live s → s.tapMay path false = true → keyAt path a = some key → regAt key = some (r, ix) →
      (regDesc r).acc = .rc → r ≠ .txtsWord1 → s.awake (keyDomain key) = true →
      Goes (.rcRegisterRead path a) s [.power, .freeCtr, .out, .regs, .sec] fun t =>
        t.rg r ix = 0 ∧ RegsBut [regAddr r ix] s t ∧ t.sec = (tapNote path .now s).sec
        ∧ ∃ w, t.out = { s.out with readData := s.out.readData ++ [w] } ∧ w &&& shownBits r ix = s.rg r ix &&& shownBits r ix)

/-- A write of a register that has no effect of its own stores exactly the bits that its table lets a write store and leaves every other
bit and every other register alone (the signal count apart, R466); a write of an RW1C register clears the bits written as 1. This holds for
the command REG_WRITE that is taken, from a source that may write the register (R292), and for the register-write rows on every path that
may, for whole words and, of RO, RW and RWS registers, for one half; the TAP notes that its access was served. A poisoned write is discarded
and counts in class PCIE (R401). -/
def Obligations.RegisterWrites : Prop := ∀ (c : Cmd) (s : State),
  (∀ r ix, Taken 0x0007 regWriteDomain c s → (blockOf (c.n 0)).isSome = true → regAt (c.n 0) = some (r, ix) →
      mayWrite (.cmd c.src) r = true → valueOk r (c.p 1) = true → writeSpecial (.cmd c.src) r ix (c.p 1) = none →
      ((regDesc r).acc = .rw ∨ (regDesc r).acc = .rws) →
      Completes (.regWrite c) c s [] [.power] [regAddr r ix, regAddr .intSignalCnt []] fun t =>
        t.rg r ix = (s.rg r ix &&& ~~~(regDesc r).stored) ||| (c.p 1 &&& (regDesc r).stored))
  ∧ (∀ r ix, Taken 0x0007 regWriteDomain c s → (blockOf (c.n 0)).isSome = true → regAt (c.n 0) = some (r, ix) →
      mayWrite (.cmd c.src) r = true → valueOk r (c.p 1) = true → writeSpecial (.cmd c.src) r ix (c.p 1) = none →
      (regDesc r).acc = .rw1c →
      Completes (.regWrite c) c s [] [.power] [regAddr r ix, regAddr .intSignalCnt []] fun t => t.rg r ix = s.rg r ix &&& ~~~c.p 1)
  ∧ (∀ path a key r ix (half : Half) v, Live s → path ≠ .poisoned → s.tapMay path true = true → keyAt path a = some key → regAt key = some (r, ix) →
      s.awake (keyDomain key) = true → (half = .whole ∨ (regDesc r).acc.halves = true) → mayWrite path r = true →
      valueOk r (if half = .whole then v else mergeHalf half ((wakeDomain (keyDomain key) s).regView r ix) v) = true →
      writeSpecial path r ix (if half = .whole then v else mergeHalf half ((wakeDomain (keyDomain key) s).regView r ix) v) = none →
      ((regDesc r).acc = .rw ∨ (regDesc r).acc = .rws) →
      Goes (.registerWrite path a half v) s [.power, .out, .regs, .sec] fun t =>
        t.sec = (tapNote path .now s).sec
        ∧ t.rg r ix = (s.rg r ix &&& ~~~(regDesc r).stored)
          ||| ((if half = .whole then v else mergeHalf half ((wakeDomain (keyDomain key) s).regView r ix) v) &&& (regDesc r).stored)
        ∧ RegsBut [regAddr r ix, regAddr .intSignalCnt []] s t)
  ∧ (∀ path a key r ix v, Live s → path ≠ .poisoned → s.tapMay path true = true → keyAt path a = some key → regAt key = some (r, ix) →
      s.awake (keyDomain key) = true → mayWrite path r = true → valueOk r v = true → writeSpecial path r ix v = none →
      (regDesc r).acc = .rw1c →
      Goes (.rw1cRegisterWrite path a v) s [.power, .out, .regs, .sec] fun t =>
        t.sec = (tapNote path .now s).sec ∧
        t.rg r ix = s.rg r ix &&& ~~~v ∧ RegsBut [regAddr r ix, regAddr .intSignalCnt []] s t)
  ∧ (∀ path v, Live s → (path = .bar2 ∨ path = .tap ∧ s.sec.level = 2 ∨ path = .cmd .sideband ∨ path = .cmd .pf0) →
      s.awake domMgmt = true →
      Goes (.mgmtPortCfgWrite path true v) s [.power, .out, .regs, .sec] fun t =>
        t.sec = (tapNote path .now s).sec ∧
        t.rg .sourceAllow [] = (s.rg .sourceAllow [] &&& ~~~(regDesc .sourceAllow).stored) ||| (v &&& (regDesc .sourceAllow).stored)
        ∧ RegsBut [regAddr .sourceAllow [], regAddr .intSignalCnt []] s t)
  ∧ (∀ path v, Live s → (path = .bar2 ∨ path = .tap ∧ s.sec.level = 2 ∨ path = .cmd .sideband ∨ path = .cmd .pf0) →
      s.awake domMgmt = true →
      Goes (.mgmtPortCfgWrite path false v) s [.power, .cmd, .regs, .sec] fun t =>
        t.sec = (tapNote path .now s).sec ∧
        t.rg .mgmtPortCfg [] = (s.rg .mgmtPortCfg [] &&& ~~~(regDesc .mgmtPortCfg).stored) ||| (v &&& (regDesc .mgmtPortCfg).stored)
        ∧ (t.rgf .mgmtPortCfg [] 8 0 ≠ s.rgf .mgmtPortCfg [] 8 0 → t.cmdVersion .inband = 1)
        ∧ RegsBut [regAddr .mgmtPortCfg []] s t)
  ∧ (∀ a half v, Live s →
      Goes (.registerWrite .poisoned a half v) s [.power, .out, .cmd, .host, .flt, .regs] fun t =>
        t.rg .faultCnt [4, 0, 11] = s.rg .faultCnt [4, 0, 11] + 1 ∧ RegsBut (faultRegs 4 0 11 s) s t)

/-- A phase sample of the servo's domain that the servo accepts in LOCKED moves FREQ_ADJ by the loop of chapter 2 and nothing else of the
clock (R32, R31); an outlier in LOCKED, one of fewer than OUTLIER_RUN, is counted and leaves FREQ_ADJ as it was (R32); a sample of another
domain is counted alone. A lost source, and SAMPLE_TIMEOUT without an accepted sample, put the servo into HOLDOVER where it has a valid
average and into FREERUN where it has none, with the interrupts of R34 (R47, R471). -/
def Obligations.ServoRules : Prop := ∀ (v : W) (s : State), Live s →
  let q := s.mast.servo
  let m := s.mast.params
  (∀ e, bitAt v 63 = true → bitAt v 62 = false → fld v 61 60 = m.servoDomain → m.servoSrc = 0 → e = sgn 48 (fld v 47 0) →
      q.state = .locked → e.natAbs ≤ m.outlierLimit * 65536 → e.natAbs ≤ m.stepThreshold * 65536 →
      Goes (.servoSample v) s [.mast] fun t =>
        let prop : Int := e * m.kpM / 2 ^ m.kpSh
        let slew : Int := (m.slewMax * 35184372 + 50) / 100
        let integ : Int := if s.mast.freqValid ∧ m.freqSrc ≠ 0 then s.mast.freqMeasured else if slew < prop.natAbs then q.integ
          else clampI 87960930222 (q.integ + e * m.kiM / 2 ^ m.kiSh)
        t.mast = { s.mast with rates := t.mast.rates, servo := { q with
          integ := integ, freqAdj := clampI 87960930222 (-(clampI slew prop + integ)), rejects := 0, everAccepted := true,
          lastAccept := s.mast.tick, lastE := (e :: q.lastE).take 64, sinceLeft := q.sinceLeft + 1, window := [] } })
  ∧ (∀ e, bitAt v 63 = true → bitAt v 62 = false → fld v 61 60 = m.servoDomain → m.servoSrc = 0 → e = sgn 48 (fld v 47 0) →
      q.state = .locked → m.outlierLimit * 65536 < e.natAbs → q.rejects < m.outlierRun →
      Goes (.servoSample v) s [.mast, .out, .regs] fun t =>
        t.mast = { s.mast with servo := { q with rejects := q.rejects + 1 } }
        ∧ t.rgf .mcCounters [] 63 48 = satAdd 16 (s.rgf .mcCounters [] 63 48) 1
        ∧ t.rg .mcIntStatus [] = s.rg .mcIntStatus [] ||| 0x20
        ∧ RegsBut [regAddr .mcCounters [], regAddr .mcIntStatus [], regAddr .intSignalCnt []] s t)
  ∧ (bitAt v 63 = true → bitAt v 62 = false → fld v 61 60 ≠ m.servoDomain →
      Goes (.servoSample v) s [.regs] fun t => t.regs = (s.bump .mcCounters [] 47 32).regs)
  ∧ (bitAt v 63 = false → bitAt v 62 = true → fld v 61 60 = m.servoDomain → q.state ≠ .freerun → q.state ≠ .holdover →
      Goes (.sourceLost v) s [.mast, .host, .cmd, .out, .regs, .freeCtr] fun t =>
        t.mast.servo.state = (if s.hoValid then .holdover else .freerun)
        ∧ t.rg .mcIntStatus [] = s.rg .mcIntStatus [] ||| (if s.hoValid then 3 else 1)
        ∧ RegsBut (regAddr .mcIntStatus [] :: eventRegs 1 s) s t)
  ∧ (q.lastAccept + m.sampleTimeout * 50000000 ≤ s.mast.tick → q.state ≠ .freerun → q.state ≠ .holdover →
      Goes .sampleTimeout s [.mast, .host, .cmd, .out, .regs, .freeCtr] fun t =>
        t.mast.servo.state = (if s.hoValid then .holdover else .freerun)
        ∧ (s.hoValid = true → s.freqAssist = false → t.mast.servo.freqAdj = s.hoAverage)
        ∧ t.rg .mcIntStatus [] = s.rg .mcIntStatus [] ||| (if s.hoValid then 3 else 1)
        ∧ RegsBut (regAddr .mcIntStatus [] :: eventRegs 1 s) s t)

/-- An edge of PPS_IN waits for its label where ToD input is enabled, else it is a sample of the 1PPS detector (R36); one that comes where the
model expects it (R37, log 61) begins the next prediction, and when three expected edges are missing PPS_IN_OK clears (R37); an edge unlabelled for 900 ms is discarded and counted (R36). A ToD message that is not good is counted; a good one
labels the newest edge (R36, R40). A gate of the selected source sets its validity and value, and moves FREQ_ADJ in HOLDOVER, to the average of R33 where it ends invalid (R38,
R33). The ToD output sends the message of the
last pulse (R39). REFOSC_OK falls with its interrupt and fault, and rises again (R50). MC_SNAP_TRIGGER latches master time (R4). -/
def Obligations.TimeInputs : Prop := ∀ (s : State), Live s →
  (∀ sub, s.mast.params.todInEn = 1 →
      Goes (.ppsInEdge sub) s [.mast] fun t =>
        t.mast = { s.mast with
          ppsInOk := true, ppsInLast := if ppsInExpected s then s.mast.tick else s.mast.ppsInLast,
          ppsInWaiting := s.mast.ppsInWaiting ++ [{ time16 := subTick16 s sub - ppsInDelay16 s, tick := s.mast.tick }] })
  ∧ (∀ sub, s.mast.params.todInEn ≠ 1 → s.mast.params.servoSrc ≠ 1 →
      Goes (.ppsInEdge sub) s [.mast] fun t =>
        t.mast = { s.mast with ppsInOk := true, ppsInLast := if ppsInExpected s then s.mast.tick else s.mast.ppsInLast })
  ∧ (s.mast.ppsInOk = true → 3 * sec48 + us48 < ppsInSince s →
      Goes .ppsInLoss s [.mast, .out, .regs] fun t =>
        t.mast = { s.mast with ppsInOk := false } ∧ t.rg .mcIntStatus [] = s.rg .mcIntStatus [] ||| 0x40
        ∧ RegsBut [regAddr .mcIntStatus [], regAddr .intSignalCnt []] s t)
  ∧ (∀ e l, s.mast.ppsInWaiting = e :: l → s.mast.params.todInEn = 1 → e.tick + 720000000 ≤ s.mast.tick →
      Goes .ppsUnlabelled s [.mast, .regs] fun t =>
        t.mast = { s.mast with ppsInWaiting := l } ∧ t.regs = (s.bump .mcCounters [] 31 16).regs)
  ∧ (∀ b, s.mast.params.todInEn = 1 → todGood b = false →
      Goes (.todInMessage b) s [.regs] fun t => t.regs = (s.bump .mcCounters [] 15 0).regs)
  ∧ (∀ b l e, s.mast.params.todInEn = 1 → todGood b = true → s.mast.params.servoSrc ≠ 1 → s.mast.ppsInWaiting = l ++ [e] →
      s.mast.tick ≤ e.tick + 720000000 →
      Goes (.todInMessage b) s [.mast] fun t =>
        t.mast = { s.mast with todInTick := some s.mast.tick, todClass := byteAt b 11, ppsInWaiting := l })
  ∧ (∀ src k ok, src ≠ 0 → src = s.mast.params.freqSrc → s.mast.servo.state ≠ .holdover →
      Goes (.freqGate src k ok) s [.mast] fun t => t.mast = { s.mast with freqValid := ok, freqMeasured := k })
  ∧ (∀ src k, src ≠ 0 → src = s.mast.params.freqSrc → s.mast.servo.state = .holdover →
      Goes (.freqGate src k true) s [.mast] fun t =>
        t.mast = { s.mast with
          freqValid := true, freqMeasured := k, rates := t.mast.rates,
          servo := { s.mast.servo with integ := k, freqAdj := clampI 87960930222 (-k) } })
  ∧ (∀ src k, src ≠ 0 → src = s.mast.params.freqSrc → s.mast.servo.state = .holdover →
      Goes (.freqGate src k false) s [.mast] fun t =>
        t.mast = { s.mast with
          freqValid := false, freqMeasured := k, rates := t.mast.rates, servo := { s.mast.servo with freqAdj := s.hoAverage } })
  ∧ (∀ d, s.mast.todDue = some d → d ≤ s.mast.tick → (s.mast.bcRunning = false ∨ s.mast.params.servoSrc ≠ 0) →
      Goes .todOutStart s [.mast, .out] fun t =>
        t.mast = { s.mast with todDue := none } ∧ t.out = { s.out with tod := s.out.tod ++ [todMessage s] }
        ∧ todGood (todMessage s) = true ∧ bytesNat (todMessage s) 2 6 = s.mast.ppsSec % 2 ^ 48)
  ∧ (s.mast.refoscOk = true →
      Goes .refoscLoss s [.mast, .host, .cmd, .out, .flt, .regs, .power] fun t =>
        t.mast = { s.mast with refoscOk := false } ∧ t.rg .mcIntStatus [] = s.rg .mcIntStatus [] ||| 0x80
        ∧ t.rg .faultCnt [7, 0, 10] = s.rg .faultCnt [7, 0, 10] + 1
        ∧ RegsBut (regAddr .mcIntStatus [] :: faultRegs 7 0 10 s) s t)
  ∧ Goes .refoscRestore s [.mast] (fun t => t.mast = { s.mast with refoscOk := true })
  ∧ (∀ v, bitAt v 0 = true → Goes (.mcSnapTrigger v) s [.mast] fun t => t.mast = { s.mast with snap := s.time.master })

/-- MAST_CONFIG with every word in range sets the 30 parameters (R469). MAST_SET_TIME with no timeline configured loads its time into the
master counter and every replica and sets TIME_VALID (R19). Ticks add the increment to the master counter and to every replica (R16, R17); reseeds in
progress go on loading (R147), and the idle conditions of the domains are timed (R340). The check every 1,024 ticks leaves every replica of an awake domain equal to the master counter (R11). SYNCE_OUT_CTL takes what is written. -/
def Obligations.MastTime : Prop := ∀ (c : Cmd) (s : State),
  (Taken 0x0100 noDomain c s → firstBad (mastRanges c) = none → (s.mast.servo.state ≠ .freerun ∨ s.mast.servo.everAccepted = true) →
      (s.freqAssist = false ∨ c.n 1 = s.mast.params.freqSrc) →
      Completes (.mastConfig c) c s [] [.mast] [] fun t =>
        t.mast = { s.mast with params := mastParamsOf c, freqValid := s.mast.freqValid && (c.n 1 == s.mast.params.freqSrc) })
  ∧ (Taken 0x0101 noDomain c s → (∀ k < 8, (s.timeline k).configured = false) → (setTimeOf c).ns < 1000000000 →
      Completes (.mastSetTime c) c s [] [.time, .mast] [] fun t =>
        t.time.master = setTimeOf c ∧ t.time.replicas = s.time.replicas.map (fun _ => { t := setTimeOf c })
        ∧ t.mast = { s.mast with rates := [], timeValid := true })
  ∧ (∀ n, Live s → s.awake domMast = true →
      Goes (.mastTick n) s [.time, .mast, .out, .regs, .pk, .flt, .power] fun t =>
        t.time.master = s.time.master.add48 ((351843720888320 + s.mast.servo.freqAdj) * n)
        ∧ t.time.replicas = s.time.replicas.map (fun r => { t := r.t.add48 ((351843720888320 + s.mast.servo.freqAdj) * n) })
        ∧ t.mast.tick = s.mast.tick + n ∧ t.mast.params = s.mast.params ∧ t.mast.servo.freqAdj = s.mast.servo.freqAdj
        ∧ t.mast.servo.state = s.mast.servo.state
        ∧ RegsBut [regAddr .mcIntStatus [], regAddr .intSignalCnt []] s t
        ∧ ((∀ k < 16, (s.tl k).reseed = none) → t.pk = s.pk ∧ t.flt = s.flt)
        ∧ { t.power with domains := [] } = { s.power with domains := [] }
        ∧ ∀ d, { t.domain d with idleSince := [] } = { s.domain d with idleSince := [] })
  ∧ (Live s → s.mast.tick % 1024 = 0 →
      Goes .replicaCheck s [.time, .host, .cmd, .out, .flt, .regs, .power] fun t =>
        t.time.master = s.time.master
        ∧ ∀ i r, i < 20 → t.time.replicas[i]? = some r → s.awake (replicaDomain i) = true → r.t = s.time.master)
  ∧ (∀ v, Live s →
      Goes (.synceOutCtlWrite v) s [.mast, .out, .regs] fun t =>
        t.rg .synceOutCtl [] = v
        ∧ RegsBut [regAddr .synceOutCtl [], regAddr .mcIntStatus [], regAddr .intSignalCnt []] s t
        ∧ t.mast = { s.mast with synce := t.mast.synce })

/-- TIMELINE_SET that meets R54, with none pending and no Rigging reference in its way, waits for a frame boundary at least 1 ms away (R56), at
which the description takes effect, on the timeline's Skeins from the symbol of that tick on (R195, log 82). RIGGING_WRITE of either kind writes its range of the shadow bank and nothing else of either bank (R61);
RIGGING_READ returns its range of the bank it names (R302). A RIGGING_COMMIT that is held, of a shadow bank with no failing entry, is pending
at the switch tick of its frame (R62, R294). RIGGING_CANCEL at least 64 ticks before the switch tick ends it with CANCELLED, and its bank's events are gone (R65, R63). -/
def Obligations.RiggingCommands : Prop := ∀ (c : Cmd) (s : State),
  (Taken 0x0102 noDomain c s → timelineBad (c.n 0) (timelineOf c) = none → tget none s.rig.tlPending (c.n 0) = none →
      (s.referenced (c.n 0) = false ∨ sameGrid (s.timeline (c.n 0)) (timelineOf c) = true ∧ (timelineOf c).configured = true) →
      Completes (.timelineSet c) c s [] [.rig] [] fun t =>
        t.rig = { s.rig with tlPending := t.rig.tlPending }
        ∧ tget none t.rig.tlPending (c.n 0) = some { desc := timelineOf c, accepted := s.mast.tick, notBefore := s.mast.tick + 800000 }
        ∧ ∀ k, k ≠ c.n 0 → tget none t.rig.tlPending k = tget none s.rig.tlPending k)
  ∧ (∀ n p, n < 8 → Live s → tget none s.rig.tlPending n = some p → s.tlDue n p = true →
      Goes (.timelineApply n) s [.rig, .sk, .out, .epochs, .power] fun t =>
        t.rig = { s.rig with timelines := t.rig.timelines, tlPending := t.rig.tlPending, symbol := t.rig.symbol, lastAnchor := t.rig.lastAnchor }
        ∧ t.timeline n = p.desc ∧ (∀ k, k ≠ n → t.timeline k = s.timeline k) ∧ tget none t.rig.tlPending n = none
        ∧ t.epoch n = fld p.desc.w0 23 8 ∧ (∀ k, k ≠ n → t.epoch k = s.epoch k)
        ∧ (p.desc.configured = true → t.power = s.power ∧ t.out = s.out)
        ∧ (p.desc.configured = false → ∀ d < 34, (t.domain d).slots = (s.domain d).slots.set n 0)
        ∧ (sameGrid (s.timeline n) p.desc = true → t.rig.lastAnchor = s.rig.lastAnchor)
        ∧ ∀ k, t.skein k =
          if (s.skein k).valid ∧ (s.skein k).tlNo = n ∧ (sameGrid (s.timeline n) p.desc = false ∨ (s.timeline n).mode ≠ p.desc.mode) then
            (let y : Skein := { s.skein k with since := p.desc.symAt s.now16 }
             if sameGrid (s.timeline n) p.desc then y
             else { y with closed := [], floor16 := some (p.desc.bound16 (p.desc.symAt s.now16), s.tick) })
          else s.skein k)
  ∧ (Taken 0x0200 noDomain c s → rwKind c = 0 → rwFirst c + rwCount c ≤ 16384 → s.pendingCommit = none →
      Completes (.riggingWriteEntries c) c s [] [.rig, .flt] [] fun t =>
        (∀ i, (t.bank s.shadow).entry i = if rwFirst c ≤ i ∧ i < rwFirst c + rwCount c
          then (c.p (1 + 2 * (i - rwFirst c)), c.p (2 + 2 * (i - rwFirst c))) else (s.bank s.shadow).entry i)
        ∧ (t.bank s.shadow).sets = (s.bank s.shadow).sets ∧ (s.rig.active ≤ 1 → t.bank s.rig.active = s.bank s.rig.active))
  ∧ (Taken 0x0200 noDomain c s → rwKind c = 1 → rwFirst c + rwCount c ≤ 1024 → s.pendingCommit = none →
      Completes (.riggingWriteTargetSets c) c s [] [.rig, .flt] [] fun t =>
        (∀ i, (t.bank s.shadow).set i = if rwFirst c ≤ i ∧ i < rwFirst c + rwCount c
          then (List.range 8).map (fun w => c.p (1 + 8 * (i - rwFirst c) + w)) else (s.bank s.shadow).set i)
        ∧ (t.bank s.shadow).entries = (s.bank s.shadow).entries ∧ (s.rig.active ≤ 1 → t.bank s.rig.active = s.bank s.rig.active))
  ∧ (Taken 0x0201 noDomain c s → Clean s → rwKind c = 0 → rwFirst c + rwCount c ≤ 16384 →
      let k := s.bank (if bitAt (c.p 0) 31 then s.shadow else s.rig.active)
      Completes (.riggingRead c) c s
        ((List.range (rwCount c)).flatMap fun i => [(k.entry (rwFirst c + i)).1, (k.entry (rwFirst c + i)).2]) [] [] fun _ => True)
  ∧ (Taken 0x0201 noDomain c s → Clean s → rwKind c = 1 → rwFirst c + rwCount c ≤ 1024 →
      let k := s.bank (if bitAt (c.p 0) 31 then s.shadow else s.rig.active)
      Completes (.riggingRead c) c s ((List.range (rwCount c)).flatMap fun i => k.set (rwFirst c + i)) [] [] fun _ => True)
  ∧ (Held 0x0202 noDomain c s → Clean s → s.pendingCommit = none → firstFailing s (s.bank s.shadow) = none →
      Goes (.riggingCommit c) s [.host, .cmd, .out, .regs, .sk, .boot] fun t =>
        (∃ n, Pends c n t) ∧ t.cmd.timed.getLast? = some
          { cmd := c, opcode := 0x0202, at16 := s.switch16 c.timeline c.sfn, order := s.cmd.nextOrder })
  ∧ (∀ p, Taken 0x0203 noDomain c s → s.pendingCommit = some p → rank c.src ≤ rank p.cmd.src → (s.mast.tick : Int) + 64 ≤ s.switchTick p →
      Answered (.riggingCancel c) c s [] [.cmd, .sk, .boot, .rig] fun t =>
        t.rig = (dropShadow s).rig ∧
        t.cmd.timed = s.cmd.timed.filter (fun x => x.order != p.order)
        ∧ (p.own = false → ∃ r ∈ t.out.replies, r.src = p.cmd.src ∧ fld r.w0 31 16 = p.cmd.tag ∧ fld r.w1 63 48 = Status.cancelled.code))

/-- A pending commit in its switch tick, of a bank that still has no failing entry, makes the shadow bank active with the commit's epoch
(R63). An entry whose occurrence is 32 ticks away is evaluated once: its event goes on the event bus (R12, R58). At a symbol boundary the
timeline's symbol is the one that Mast time lies in (R55, R475). A step that applies loads the new time into every counter, advances TS_EPOCH,
discards the events not yet fired, with them those of a bank whose switch it ends, and ends every pending timed command (R45, R68); 288 ticks later RESOLVING clears (R69). A read of TL_POS
latches the frame count, which the next read of TL_FRAME_CNT on that path takes (R73). -/
def Obligations.RiggingRuns : Prop := ∀ (s : State), Live s →
  (∀ p, s.cmd.timed.find? (fun p => p.opcode == 0x202 && s.timedDue p && s.turn p) = some p → firstFailing s (s.bank s.shadow) = none → s.rig.active ≤ 1 →
      Goes .bankSwitch s [.mast, .rig, .port, .pk, .hk, .sk, .host, .cmd, .out, .flt, .epochs, .regs, .power, .boot] fun t =>
        t.rig.active = 1 - s.rig.active ∧ (t.bank t.rig.active).epoch = fld (p.cmd.p 0) 63 48
        ∧ (t.bank t.rig.active).entries = (s.bank s.shadow).entries ∧ (t.bank t.rig.active).sets = (s.bank s.shadow).sets
        ∧ t.bank s.rig.active = s.bank s.rig.active ∧ t.cmd.timed = s.cmd.timed.erase p
        ∧ t.rig.evaluated = s.rig.evaluated.filter (fun v => v.bank != s.rig.active || decide ((v.sched : Int) < s.switchTick p))
        ∧ (p.own = true → t.boot.stage = 10) ∧ (p.own = false → t.boot = s.boot)
        ∧ (bitAt (p.cmd.p 0) 47 = false → Frame [.rig, .host, .cmd, .out, .epochs, .regs, .boot] s t))
  ∧ (∀ b i a x, b ≤ 1 → i < 16384 → Clean s → entValid ((s.bank b).entry i) = true →
      s.latestOcc ((s.bank b).entry i) ((s.mast.tick : Int) + 32) = some (a, x) →
      (∀ k, tget none s.rig.lastAnchor (entKey b i) = some k → k < a) → s.bankFires b x = true →
      s.cellAsleep (entTimeline ((s.bank b).entry i)) = false → (s.rig.notBefore : Int) ≤ x →
      Goes (.riggingEvaluate b i) s [.rig] fun t =>
        t.rig = { s.rig with evaluated := t.rig.evaluated, lastAnchor := t.rig.lastAnchor }
        ∧ t.rig.evaluated = s.rig.evaluated ++ [{ bank := b, entry := i, anchor := a, sched := x.toNat }]
        ∧ tget none t.rig.lastAnchor (entKey b i) = some a
        ∧ ∀ k, k ≠ entKey b i → tget none t.rig.lastAnchor k = tget none s.rig.lastAnchor k)
  ∧ (∀ n, n < 8 → (s.timeline n).configured = true →
      Goes (.symbolBoundary n) s [.rig] fun t =>
        t.rig = { s.rig with symbol := t.rig.symbol } ∧ tget none t.rig.symbol n = some ((s.timeline n).symAt s.now16)
        ∧ ∀ k, k ≠ n → tget none t.rig.symbol k = tget none s.rig.symbol k)
  ∧ (s.stepNow = true →
      Goes .stepApply s [.time, .mast, .rig, .hk, .sk, .host, .cmd, .out, .flt, .regs, .power, .boot, .freeCtr] fun t =>
        t.time.master = s.time.master.add48 (s.mast.servo.delta * 4294967296)
        ∧ t.time.replicas = s.time.replicas.map (fun _ => { t := s.time.master.add48 (s.mast.servo.delta * 4294967296) })
        ∧ t.mast.tsEpoch = (s.mast.tsEpoch + 1) % 4 ∧ t.mast.servo.state = .acquire ∧ t.cmd.timed = []
        ∧ t.rig.stepTick = some s.mast.tick ∧ t.rig.notBefore = s.mast.tick + 288
        ∧ t.rig.evaluated = s.rig.evaluated.filter (fun v => decide (v.sched < s.mast.tick)
            && (s.pendingCommit.isNone || v.bank == s.rig.active)))
  ∧ (∀ n, s.rig.stepTick = some n → n + 288 ≤ s.mast.tick →
      Goes .resolveReplay s [.mast, .rig, .port, .pk, .hk, .sk, .host, .cmd, .out, .flt, .regs, .power] fun t =>
        t.rig = { s.rig with stepTick := none })
  ∧ (∀ n path, n < 8 →
      Goes (.tlPosRead n path) s [.rig, .out] fun t =>
        t.out = { s.out with readData := s.out.readData ++ [s.tlPosView n] }
        ∧ t.rig = { s.rig with posLatch := t.rig.posLatch }
        ∧ t.rig.posLatch.find? (fun x => x.timeline == n && x.path == pathKey path)
          = some { timeline := n, path := pathKey path, frame := s.frameCount n })
  ∧ (∀ n path l, n < 8 → s.rig.posLatch.find? (fun x => x.timeline == n && x.path == pathKey path) = some l →
      Goes (.tlFrameCntRead n path) s [.rig, .out] fun t =>
        t.out = { s.out with readData := s.out.readData ++ [BitVec.ofInt 64 l.frame] }
        ∧ t.rig = { s.rig with posLatch := s.rig.posLatch.filter (fun x => !(x.timeline == n && x.path == pathKey path)) })

/-- An evaluated event in its scheduled tick leaves the event bus and acts on exactly the elements of its target set: GATE_OPEN and GATE_CLOSE
on the gates of the masked queues of its formed ports; LANE_SLEEP_RX, LANE_SLEEP_TX, LANE_WAKE_RX and LANE_WAKE_TX on the doze state of its
lanes, of LINK_UP ports with scheduled doze, and any other lane counts it; OP_SET and OP_PHASE on the slot of the entry's timeline; PREWARM and
RAMP_DOWN on the filler of its domains. An element whose domain sleeps deeper than PS1, or a lane whose SerDes group is forced there, only
records the action (R66, R346). SKEIN_CLOSE closes the Skeins of its close group in awake clusters, or defers the close of an instance that a
fault has marked to the symbol boundary (R219), and HOOK_POST enters the queue of each named cluster; both are dropped and counted for a
cluster that sleeps. -/
def Obligations.RiggingActions : Prop := ∀ (b i : Nat) (v : RigEvent) (s : State),
  let k := s.bank (b % 2)
  let e := k.entry i
  let ws := k.set (entSet e)
  let gone : Rig := { s.rig with evaluated := s.rig.evaluated.erase v }
  let noted := fun (d n : Nat) (t : State) =>
    ({ action := entAction e, timeline := entTimeline e, element := n, arg := entArg e } : Recorded) ∈ (t.domain d).recorded
  let named := fun (n : Nat) => inSet ws (n / 16) && s.awake (domTile (n / 512)) && (s.prt (n / 16)).formed && (entArg e % 65536).testBit (n % 16)
  let open_ := fun (n : Nat) => s.awake (domSerdes n) && decide ((s.domain (domSerdes n)).force < 2)
  let dozes := fun (n : Nat) => (s.portOf n).any (fun p => s.linkUp p && s.dozeOn p) && !(s.lane n).suspended
  let lanes := fun (t : State) => ∀ n < 512, inSet ws n = true →
    if open_ n then t.rgf .laneDozeCnt [n] 15 0 = if dozes n then s.rgf .laneDozeCnt [n] 15 0 else satAdd 16 (s.rgf .laneDozeCnt [n] 15 0) 1
    else noted (domSerdes n) n t
  (EventDue 0x10 b i v s → Goes (.gateOpen b i) s [.rig, .pk, .power] fun t => t.rig = gone
      ∧ (∀ n < 8192, t.tmq n = { s.tmq n with gate := (s.tmq n).gate || named n })
      ∧ ∀ p < 512, inSet ws p = true → s.awake (domTile (p / 32)) = false → noted (domTile (p / 32)) p t)
  ∧ (EventDue 0x11 b i v s → Goes (.gateClose b i) s [.rig, .pk, .power] fun t => t.rig = gone
      ∧ (∀ n < 8192, t.tmq n = { s.tmq n with gate := (s.tmq n).gate && !named n })
      ∧ ∀ p < 512, inSet ws p = true → s.awake (domTile (p / 32)) = false → noted (domTile (p / 32)) p t)
  ∧ (EventDue 0x30 b i v s → Goes (.laneSleepRx b i) s [.rig, .mast, .port, .out, .regs, .power] fun t => t.rig = gone ∧ lanes t
      ∧ ∀ n < 512, t.lane n = if inSet ws n && open_ n && dozes n && (s.lane n).rxDoze != 2
          then { s.lane n with rxDoze := 2, rxDozeTick := s.mast.tick, sigLost := none, seqRx := none, window := 0 } else s.lane n)
  ∧ (EventDue 0x31 b i v s → Goes (.laneSleepTx b i) s [.rig, .port, .regs, .power] fun t => t.rig = gone ∧ lanes t
      ∧ ∀ n p, n < 512 → s.portOf n = some p → t.lane n =
          if inSet ws n && open_ n && dozes n && !((s.lane n).txDoze == 1 || (s.lane n).txDoze == 2)
          then { s.lane n with
            txDoze := 1, txSleepDue := max s.mast.tick (s.boundaryTick (s.prt p).txBusy16).toNat + nsTicks 64
            txDozeTick := s.mast.tick, seqTx := none, reqUntil := none }
          else s.lane n)
  ∧ (EventDue 0x32 b i v s → Goes (.laneWakeRx b i) s [.rig, .port, .regs, .power] fun t => t.rig = gone ∧ lanes t
      ∧ ∀ n < 512, t.lane n = if inSet ws n && open_ n && dozes n && (s.lane n).rxDoze == 2
          then { s.lane n with rxDoze := 3, wakeRx := v.sched, wakeG := (s.lane n).guard, window := 0, seqRx := none } else s.lane n)
  ∧ (EventDue 0x33 b i v s → Goes (.laneWakeTx b i) s [.rig, .port, .regs, .power] fun t => t.rig = gone ∧ lanes t
      ∧ ∀ n < 512, t.lane n = if inSet ws n && open_ n && dozes n && ((s.lane n).txDoze == 1 || (s.lane n).txDoze == 2)
          then { s.lane n with txDoze := 3, wakeTx := v.sched, wakeG := (s.lane n).guard, seqTx := none } else s.lane n)
  ∧ (EventDue 0x40 b i v s → Goes (.opSet b i) s [.rig, .power, .out] fun t => t.rig = gone
      ∧ (∀ d < 38, (t.domain d).slots =
        if inSet ws d && s.awake d && decide (d < 34) then (s.domain d).slots.set (entTimeline e) (entArg e % 8 + 1) else (s.domain d).slots)
      ∧ ∀ d < 38, inSet ws d = true → s.awake d = false → noted d d t)
  ∧ (EventDue 0x41 b i v s → Goes (.opPhase b i) s [.rig, .power, .out] fun t => t.rig = gone
      ∧ (∀ d < 38, (t.domain d).slots =
        if inSet ws d && s.awake d && decide (d < 34) then (s.domain d).slots.set (entTimeline e) (s.preferred (entArg e % 4) + 1)
        else (s.domain d).slots)
      ∧ ∀ d < 38, inSet ws d = true → s.awake d = false → noted d d t)
  ∧ (EventDue 0x50 b i v s → Goes (.prewarm b i) s [.rig, .power] fun t => t.rig = gone
      ∧ (∀ d < 38, s.awake d = true → t.domain d = if inSet ws d then (let p := s.rg .fillProfile [entArg e % 16]
          { s.domain d with filler := if fld p 55 48 = 0 then {} else
            { kind := 1, profile := entArg e % 16, level := fld p 63 56, since := s.mast.tick } }) else s.domain d)
      ∧ ∀ d < 38, inSet ws d = true → s.awake d = false → noted d d t ∧ (t.domain d).filler = (s.domain d).filler)
  ∧ (EventDue 0x51 b i v s → Goes (.rampDown b i) s [.rig, .power] fun t => t.rig = gone
      ∧ (∀ d < 38, s.awake d = true → t.domain d = if inSet ws d then (let p := s.rg .fillProfile [entArg e % 16]
          { s.domain d with filler := if fld p 55 48 = 0 then {} else
            { kind := 2, profile := entArg e % 16, level := fld p 63 56, since := s.mast.tick } }) else s.domain d)
      ∧ ∀ d < 38, inSet ws d = true → s.awake d = false → noted d d t ∧ (t.domain d).filler = (s.domain d).filler)
  ∧ (EventDue 0x20 b i v s → (∀ x ∈ s.sk.descs, s.awake (domCluster x.2.cluster) = true) →
      Goes (.skeinClose b i) s [.rig, .hk, .sk, .host, .cmd, .out, .flt, .regs, .power] fun t => t.rig = gone ∧ ∀ x ∈ s.sk.descs,
        let n := v.anchor - entAnchor e
        if s.eventCloses (s.skein x.1) (entArg e % 4096) (entTimeline e) n = true then
          match (s.skein x.1).instOf n with
          | some j =>
            if (v.sched : Int) < s.faultHold (s.skein x.1) j then ∃ y, (t.skein x.1).instOf n = some y ∧ y.closing = false ∧ y.deferred.isSome
            else ∃ c ∈ (t.skein x.1).closed, c.occ = n ∧ c.tick = v.sched
          | none => (s.skein x.1).destroying = false → ∃ c ∈ (t.skein x.1).closed, c.occ = n ∧ c.tick = v.sched
        else t.skein x.1 = s.skein x.1)
  ∧ (EventDue 0x20 b i v s → (∀ q < 4, s.awake (domCluster q) = false) → (∀ x ∈ s.sk.descs, x.2.cluster < 4) →
      Goes (.skeinClose b i) s [.rig, .out, .regs] fun t => t.rig = gone ∧ t.rgf .rigCounters [] 31 0 = satAdd 32 (s.rgf .rigCounters [] 31 0)
        (s.closesIn (entArg e % 4096) (entTimeline e) (v.anchor - entAnchor e)).length)
  ∧ (EventDue 0x60 b i v s → (∀ q < 4, (entArg e / 2 ^ 44).testBit q = true → s.awake (domCluster q) = true
        ∧ bitAt ((s.cluster q).entry (s.cluster q).active (entArg e % 256)) 63 = true ∧ (s.cluster q).queue.length < 8192) →
      0x10 ≤ entArg e % 256 → entArg e % 256 ≤ 0xF7 →
      Goes (.hookPost b i) s [.rig, .hk, .power] fun t => t.rig = gone ∧ ∀ q < 4, (t.cluster q).queue =
        if (entArg e / 2 ^ 44).testBit q = true then (s.cluster q).queue ++
          [{ w0 := evWord0 (entArg e % 256) 1 0 (entArg e / 256 % 2 ^ 32), seq := (s.cluster q).nextSeq,
             prio := fld ((s.cluster q).entry (s.cluster q).active (entArg e % 256)) 60 59 }]
        else (s.cluster q).queue)
  ∧ (EventDue 0x60 b i v s → (∀ q < 4, s.awake (domCluster q) = false) →
      Goes (.hookPost b i) s [.rig, .out, .regs] fun t => t.rig = gone
        ∧ t.rgf .rigCounters [] 31 0 = satAdd 32 (s.rgf .rigCounters [] 31 0) (bitsOf 4 (entArg e / 2 ^ 44)).length)

/-- PORT_ADMIN starts an ADMIN_DOWN port and takes another down, with what it sets for the next attempt (R104); LANE_DOZE_CONFIG sets the doze
parameters of the port and its lanes, and RESUME clears DOZE_SUSPENDED (R105). Signal detect, CDR lock and alignment lock move a lane through its stages (R81, R82); their losses
take a LINK_UP port down, that of signal detect only after 1 µs (R84, R87). Stages 5 to 7 complete in turn, the last one as LINK_UP (R81,
R83). Training sets the lanes' precoding (R77), and a CPRI port takes protocol version 1 or 2 (R94). A measurement of D_var, within
Table 2-16, clears UNCAL (R23, R474). A lane aligns, and loses alignment or deskew, by what its receiver has seen (Table 4-3). -/
def Obligations.PortBringUp : Prop := ∀ (c : Cmd) (n p : Nat) (s : State), n < 512 → p < 512 →
  let ok := Taken 0x0300 portDomain c s ∧ c.n 0 = p ∧ (s.prt p).formed = true ∧ c.n 2 ≤ 1 ∧ c.n 3 < 256
    ∧ (c.n 4 = 0 ∨ 10 ≤ c.n 4 ∧ c.n 4 ≤ 10000) ∧ c.n 5 ≤ 1
  (ok → c.n 1 = 1 → (s.prt p).state = 4 →
      Answered (.portAdmin c) c s [] [.port, .mast] fun t =>
        (t.prt p).adminUp = true ∧ (t.prt p).state = 1 ∧ (t.prt p).stage = 1 ∧ (t.prt p).backoff = 0 ∧ (t.prt p).curInvert = c.n 3
        ∧ (t.prt p).curTimer = c.n 4 ∧ (t.prt p).curFallback = (c.n 5 == 1) ∧ ∀ k, k ≠ p → t.prt k = s.prt k)
  ∧ (ok → c.n 1 = 0 → (s.prt p).state ≠ 4 →
      Answered (.portAdmin c) c s [] [.port, .mast, .cmd, .flt, .power] fun t =>
        (t.prt p).adminUp = false ∧ (t.prt p).state = 4 ∧ (t.prt p).cause = 14 ∧ (t.prt p).rxInvert = c.n 3
        ∧ (t.prt p).trainTimer = c.n 4 ∧ (t.prt p).fallback = (c.n 5 == 1) ∧ ∀ k, k ≠ p → t.prt k = s.prt k)
  ∧ (ok → c.n 1 = 1 → c.n 2 = 0 → (s.prt p).state ≠ 4 →
      Completes (.portAdmin c) c s [] [.port] [] fun t =>
        t.prt p = { s.prt p with adminUp := true, rxInvert := c.n 3, trainTimer := c.n 4, fallback := c.n 5 == 1 }
        ∧ (∀ k, k ≠ p → t.prt k = s.prt k) ∧ t.port.lanes = s.port.lanes)
  ∧ (Taken 0x0301 portDomain c s → c.n 0 = p → (s.prt p).formed = true → p + (s.prt p).lanes ≤ 512 → c.n 1 ≤ 1 →
      (c.n 2 = 0 ∨ c.n 2 = 1 ∧ c.n 1 = 0 ∧ lpiAvailable (s.prt p) = true) → c.n 3 ≤ 65535 →
      100 ≤ c.n 4 → c.n 4 ≤ c.n 5 → c.n 4 % 10 = 0 → 200 ≤ c.n 5 → c.n 5 ≤ 12800 → c.n 5 % 10 = 0 → c.n 6 ≤ 1 →
      Completes (.laneDozeConfig c) c s [] [.port, .epochs] ((s.lanesOf p).map fun k => regAddr .laneIntStatus [k]) fun t =>
        (∀ k ∈ s.lanesOf p, t.rg .laneIntStatus [k] =
          if c.n 6 = 1 then s.rg .laneIntStatus [k] &&& ~~~64 else s.rg .laneIntStatus [k]) ∧
        t.prt p = { s.prt p with schedDoze := c.n 1 == 1, lpiEn := c.n 2 == 1, linkDelay := c.n 3 }
        ∧ (∀ k, k ≠ p → t.prt k = s.prt k)
        ∧ (∀ k ∈ s.lanesOf p, (t.lane k).guard = c.n 4 ∧ (t.lane k).guardCeil = c.n 5
            ∧ (t.lane k).suspended = ((s.lane k).suspended && c.n 6 == 0)
            ∧ (t.lane k).missRun = if c.n 6 = 1 then 0 else (s.lane k).missRun)
        ∧ (∀ k, k ∉ s.lanesOf p → t.lane k = s.lane k) ∧ t.epoch (ekLane p) = (s.epoch (ekLane p) + 1) % 65536)
  ∧ (Live s → (s.lane n).sig = false → (∀ q, s.portOf n = some q → (s.prt q).state ≠ 3) →
      Goes (.laneSignalDetect n) s [.mast, .port, .out, .regs] fun t =>
        t.lane n = { s.lane n with sig := true, sigTick := s.mast.tick, sigLost := none }
        ∧ (∀ k, k ≠ n → t.lane k = s.lane k) ∧ t.port.ports = s.port.ports)
  ∧ (Live s → (s.lane n).sig = true → s.portOf n = some p → s.linkUp p = true → (s.lane n).rxDoze = 0 →
      Goes (.laneSignalLoss n) s [.mast, .port, .out, .regs] fun t =>
        t.lane n = { s.lane n with sig := false, sigLost := some s.mast.tick } ∧ (∀ k, k ≠ n → t.lane k = s.lane k)
        ∧ t.port.ports = s.port.ports ∧ t.rg .laneIntStatus [n] = s.rg .laneIntStatus [n] ||| 1)
  ∧ (∀ d, Live s → (s.lane n).sig = false → s.portOf n = some p → s.linkUp p = true → (s.lane n).sigLost = some d → d + 800 < s.mast.tick →
      (s.lane n).rxDoze = 0 →
      Goes (.signalLossExpiry n) s [.mast, .port, .host, .cmd, .out, .flt, .regs, .power] (WentDown p 1 s))
  ∧ (Live s → s.portOf n = some p → (s.lane n).sig = true → (s.prt p).state = 1 → (s.lane n).sigTick + 8000 ≤ s.mast.tick →
      (s.lane n).stage ≤ 2 →
      Goes (.cdrLock n) s [.mast, .port, .out, .regs] fun t =>
        let known := entryTrain (s.prt p).entry || (s.prt p).topsail
        t.lane n = { s.lane n with
          cdr := true, stage := if known then 3 else 4
          inverted := if known then (s.lane n).inverted else (s.prt p).curInvert.testBit (n - p) }
        ∧ ∀ k, k ≠ n → t.lane k = s.lane k)
  ∧ (Live s → (s.lane n).cdr = true → s.portOf n = some p → s.linkUp p = true → (s.lane n).rxDoze = 0 →
      Goes (.cdrLockLoss n) s [.mast, .port, .host, .cmd, .out, .flt, .regs, .power] fun t =>
        WentDown p 9 s t ∧ t.rg .laneIntStatus [n] = s.rg .laneIntStatus [n] ||| 2)
  ∧ (∀ h, Live s → s.portOf n = some p → (s.prt p).state = 1 → (s.lane n).cdr = true → ((s.lane n).stage = 3 ∨ (s.lane n).stage = 4) →
      s.alignsBy n p h = true →
      Goes (.alignLock n h) s [.port] fun t =>
        t.lane n = { s.lane n with
          aligned := true, stage := 5
          inverted := if entryTrain (s.prt p).entry || (s.prt p).topsail then h.inverted else (s.lane n).inverted }
        ∧ (∀ k, k ≠ n → t.lane k = s.lane k) ∧ ∀ k, k ≠ p → t.prt k = s.prt k)
  ∧ (∀ h, Live s → s.portOf n = some p → s.alignsBy n p h = false → Goes (.alignLock n h) s [] fun t => t.port = s.port)
  ∧ (∀ h, Live s → (s.lane n).aligned = true → s.portOf n = some p → s.linkUp p = true → (s.lane n).rxDoze = 0 → s.lostBy n h = true →
      Goes (.alignLoss ⟨n, h⟩) s [.mast, .port, .host, .cmd, .out, .flt, .regs, .power] fun t =>
        WentDown p 9 s t ∧ t.rg .laneIntStatus [n] = s.rg .laneIntStatus [n] ||| 4)
  ∧ (∀ h, Live s → (s.lane n).aligned = true → s.portOf n = some p → s.linkUp p = true → (s.lane n).rxDoze = 0 → s.lostBy n h = false →
      h.deskewLost = true →
      Goes (.alignLoss ⟨n, h⟩) s [.mast, .port, .host, .cmd, .out, .flt, .regs, .power] (WentDown p 9 s))
  ∧ (Live s → s.linkUp p = true →
      Goes (.hiSer p) s [.mast, .port, .host, .cmd, .out, .flt, .regs, .power] (WentDown p 10 s))
  ∧ (∀ i, Live s → (s.prt p).formed = true → (s.prt p).state = 1 → (s.prt p).stage = 5 → mapOk (s.prt p).lanes i.laneMap = true →
      (∀ x ∈ i.skew, x ≤ 256) →
      Goes (.bringupStageComplete p i) s [.port] fun t =>
        t.prt p = { s.prt p with laneMap := i.laneMap, skew := i.skew, stage := if entryTrain (s.prt p).entry then 6 else 7 }
        ∧ ∀ k, k ≠ p → t.prt k = s.prt k)
  ∧ (∀ i, Live s → (s.prt p).formed = true → (s.prt p).state = 1 → (s.prt p).stage = 6 →
      Goes (.bringupStageComplete p i) s [.port] fun t =>
        t.prt p = { s.prt p with stage := 7 } ∧ (∀ k, k ≠ p → t.prt k = s.prt k)
        ∧ (∀ k, k ∉ s.lanesOf p → t.lane k = s.lane k) ∧ ∀ k ∈ s.lanesOf p, t.lane k = if (s.prt p).topsail then s.lane k
          else { s.lane k with txPre := i.txPre.testBit (k - p), rxPre := i.rxPre.testBit (k - p) })
  ∧ (∀ i, Live s → (s.prt p).formed = true → (s.prt p).state = 1 → (s.prt p).stage = 7 →
      (if (s.prt p).isCpri then i.cpriVersion = 1 ∨ i.cpriVersion = 2
        else ((s.prt p).forTopsail = false ∨ (s.prt p).topsailEnded = true) ∧ s.mayLink p = true) →
      Goes (.bringupStageComplete p i) s [.port, .host, .cmd, .out, .regs] fun t =>
        t.linkUp p = true ∧ (t.prt p).upTick = s.mast.tick ∧ ((s.prt p).isCpri = true → (t.prt p).cpriVersion = i.cpriVersion) ∧ t.txAwake p = true ∧ t.rxAwake p = true
        ∧ t.rg .portIntStatus [p] = s.rg .portIntStatus [p] ||| 1 ∧ ∀ k, k ≠ p → t.prt k = s.prt k)
  ∧ (∀ rx tx, Live s → (s.lane n).aligned = true →
      Goes (.dvarMeasured n rx tx) s [.port] fun t =>
        t.lane n = { s.lane n with dvarRx := min (dvarMax n s).1 rx, dvarTx := min (dvarMax n s).2 tx, uncal := false } ∧ (∀ k, k ≠ n → t.lane k = s.lane k)
        ∧ t.port.ports = s.port.ports)

/-- TRAIN_TIMER takes a port to LINK_ABSENT, with the cause of the stage that failed or NEGOTIATE where Topsail has ended (R85, R91); the wait's end, and RESTART, start a new attempt, and 1 s of LINK_UP clears BACKOFF_STEP
(R86). A PROBE or AGREE leaves when it is due; a GOODBYE takes the port down, and an AGREE of the common version brings it up (R90, R92).
Topsail goes idle 100 µs after both TOPSAIL_GO and retunes 100 µs later (R91). A missing AGREE after a long doze takes the port down (R93). LPI
puts the awake lanes of a direction into QUIET and back (R103). A CPRI capture goes to the feed with the alarms of its frame (R95, R94); a CPRI
port sends the capture of the basic frame that comes, or zeros and counts an underrun (R96). A direction that is not AWAKE carries nothing (R97,
R101). -/
def Obligations.PortProtocol : Prop := ∀ (p : Nat) (s : State), p < 512 → Live s →
  ((s.prt p).formed = true → (s.prt p).state = 1 → (s.prt p).idleTick = none → (s.prt p).startTick + attemptMs (s.prt p) * 800000 ≤ s.mast.tick →
      Goes (.trainTimerExpiry p) s [.port, .out, .regs] fun t =>
        (t.prt p).cause = (if (t.prt p).topsailEnded && !(s.prt p).curFallback then 6 else expiryCause p s)
        ∧ ((s.prt p).topsail = true → (t.prt p).topsailEnded = ((s.prt p).topsailEnded || decide (3 ≤ (s.prt p).topsailFails + 1)))
        ∧ (t.prt p).state = 3 ∧ (t.prt p).stage = 0 ∧ (t.prt p).absentTick = s.mast.tick ∧ (t.prt p).topsail = false
        ∧ (t.prt p).missing = maskOf (s.prt p).lanes (fun k => !(s.lane (p + k)).aligned)
        ∧ (∀ k, k ≠ p → t.prt k = s.prt k) ∧ t.port.lanes = s.port.lanes)
  ∧ ((s.prt p).formed = true → (s.prt p).state = 3 → (s.prt p).absentTick + 8000000 * 2 ^ (s.prt p).backoff ≤ s.mast.tick →
      Goes (.backoffExpiry p) s [.mast, .port, .out, .regs] fun t =>
        (t.prt p).state = 1 ∧ (t.prt p).stage = 1 ∧ (t.prt p).backoff = min 7 ((s.prt p).backoff + 1) ∧ (t.prt p).startTick = s.mast.tick
        ∧ ∀ k, k ≠ p → t.prt k = s.prt k)
  ∧ (s.linkUp p = true → (s.prt p).upTick + 800000000 ≤ s.mast.tick →
      Goes (.linkStable p) s [.port] fun t =>
        t.prt p = { s.prt p with backoff := 0 } ∧ (∀ k, k ≠ p → t.prt k = s.prt k) ∧ t.port.lanes = s.port.lanes)
  ∧ ((s.prt p).formed = true → ((s.prt p).state = 1 ∨ (s.prt p).state = 3) →
      Goes (.portRestart p) s [.mast, .port, .out, .regs] fun t =>
        (t.prt p).state = 1 ∧ (t.prt p).stage = 1 ∧ (t.prt p).backoff = 0 ∧ (t.prt p).topsailFails = 0 ∧ (t.prt p).startTick = s.mast.tick
        ∧ ∀ k, k ≠ p → t.prt k = s.prt k)
  ∧ (s.linkUp p = true →
      Goes (.portRestart p) s [.mast, .port, .host, .cmd, .out, .flt, .regs, .power] fun t => WentDown p 14 s t ∧ (t.prt p).backoff = 0)
  ∧ ((s.prt p).formed = true → (s.prt p).isCpri = false → (s.prt p).state = 1 → (s.prt p).stage = 7 →
      (s.prt p).helloTick + 800000 ≤ s.mast.tick →
      Goes (.helloProbeTimer p) s [.port, .out] fun t =>
        t.prt p = { s.prt p with helloSeq := ((s.prt p).helloSeq + 1) % 2 ^ 32, helloTick := s.mast.tick }
        ∧ (∀ k, k ≠ p → t.prt k = s.prt k) ∧ ∃ b, t.out = { s.out with linkMsgs := s.out.linkMsgs ++ [(p, b)] }
          ∧ bytesNat b 0 6 = 0x0180C200000E ∧ byteAt b 14 = 1 ∧ byteAt b 17 = 0)
  ∧ ((s.prt p).isCpri = false → s.linkUp p = true → (s.prt p).ver ≠ 0 → s.txAwake p = true → (s.prt p).helloTick + 80000000 ≤ s.mast.tick →
      Goes (.helloProbeTimer p) s [.port, .out] fun t =>
        t.prt p = { s.prt p with helloSeq := ((s.prt p).helloSeq + 1) % 2 ^ 32, helloTick := s.mast.tick }
        ∧ (∀ k, k ≠ p → t.prt k = s.prt k) ∧ ∃ b, t.out = { s.out with linkMsgs := s.out.linkMsgs ++ [(p, b)] }
          ∧ bytesNat b 0 6 = 0x0180C200000E ∧ byteAt b 14 = 1 ∧ byteAt b 17 = 1)
  ∧ (∀ b, s.linkUp p = true → s.rxAwake p = true → (s.prt p).isCpri = false → helloGood p b s = true → byteAt b 17 = 3 →
      Goes (.helloRx p b) s [.mast, .port, .host, .cmd, .out, .flt, .regs, .power] (WentDown p 13 s))
  ∧ (∀ b, s.linkUp p = true → s.rxAwake p = false → Goes (.helloRx p b) s [] fun _ => True)
  ∧ (∀ b, (s.prt p).formed = true → s.rxAwake p = true → (s.prt p).isCpri = false → helloGood p b s = true → (s.prt p).state = 1 → (s.prt p).stage = 7 →
      byteAt b 16 % 4 = 3 → byteAt b 17 = 1 → byteAt b 23 = 2 → (s.prt p).forTopsail = false → s.mayLink p = true →
      Goes (.helloRx p b) s [.port, .host, .cmd, .out, .regs] fun t =>
        t.linkUp p = true ∧ (t.prt p).ver = 2 ∧ t.cmdVersion (.dravua (bytesNat b 18 2 % 4096)) = 3
        ∧ (t.prt p).partnerEpoch = bytesNat b 26 2 ∧ (∀ n ∈ s.lanesOf p, (t.lane n).guard = max (s.lane n).guard (10 * bytesNat b 24 2))
        ∧ ∀ k, k ≠ p → t.prt k = s.prt k)
  ∧ (∀ x y, s.linkUp p = true → (s.prt p).goSent = some x → (s.prt p).goRx = some y → (s.prt p).idleTick = none →
      max x y + 80000 ≤ s.mast.tick →
      Goes (.topsailGo p) s [.mast, .port, .host, .cmd, .out, .flt, .regs, .power] fun t =>
        (t.prt p).state = 1 ∧ (t.prt p).idleTick = some s.mast.tick ∧ ∀ k, k ≠ p → t.prt k = s.prt k)
  ∧ (∀ x, (s.prt p).idleTick = some x → (s.prt p).state = 1 → x + 80000 ≤ s.mast.tick →
      Goes (.topsailRetune p) s [.mast, .port, .out, .regs] fun t =>
        (t.prt p).topsail = true ∧ (t.prt p).state = 1 ∧ (t.prt p).stage = 1 ∧ (t.prt p).idleTick = none
        ∧ (∀ n ∈ s.lanesOf p, (t.lane n).mode = 5 ∧ (t.lane n).stage = 1) ∧ ∀ k, k ≠ p → t.prt k = s.prt k)
  ∧ (∀ x, s.linkUp p = true → (s.prt p).epochDue = some x → x ≤ s.mast.tick →
      Goes (.epochAgreeTimeout p) s [.mast, .port, .host, .cmd, .out, .flt, .regs, .power] (WentDown p 15 s))
  ∧ (∀ enter tx, s.linkUp p = true → (s.prt p).lpiEn = true →
      Goes (.lpiRequest p enter tx) s [.mast, .port, .out, .regs] fun t =>
        let a := if enter then 0 else 5
        let q := if enter then 5 else 0
        let since := if tx then (s.lane p).txDozeTick else (s.lane p).rxDozeTick
        (enter = true ∨ (s.prt p).ver = 0 ∧ (s.prt p).epochOld = false → t.port.ports = s.port.ports)
        ∧ (enter = false → (if tx then (s.lane p).txDoze else (s.lane p).rxDoze) = 5 → (s.prt p).ver ≠ 0 →
            since + 800000000 < s.mast.tick → t.txAwake p = true → t.rxAwake p = true →
            (t.prt p).epochDue = some (s.mast.tick + 8000000) ∧ (t.prt p).epochOld = false)
        ∧ (∀ n, n ∉ s.lanesOf p → t.lane n = s.lane n) ∧ ∀ n ∈ s.lanesOf p, t.lane n =
          if tx then (if (s.lane n).txDoze = a then
              { s.lane n with txDoze := q, txDozeTick := if enter then s.mast.tick else (s.lane n).txDozeTick } else s.lane n)
          else if (s.lane n).rxDoze = a then
            { s.lane n with rxDoze := q, rxDozeTick := if enter then s.mast.tick else (s.lane n).rxDozeTick, sigLost := none } else s.lane n)
  ∧ (∀ ctrl b, s.linkUp p = true → s.rxAwake p = true → (s.prt p).option ≠ 0 → s.awake (domTile (tileOf p)) = true →
      bytesNat b 0 4 / 4096 % 256 < 150 →
      (if ctrl then b.length = 4 + 256 * cpriWord (s.prt p).option ∧ bytesNat b 0 4 / 16 % 256 = 0
        else b.length = 4 + cpriGroup (s.prt p).rxGroup * cpriIq (s.prt p).option
          ∧ bytesNat b 0 4 / 16 % 256 % cpriGroup (s.prt p).rxGroup = 0) →
      Goes (.cpriCapture p ctrl b) s [.port, .pk, .out, .regs] fun t =>
        let pos := bytesNat b 0 4
        let w := cpriHeader (pos / 2 ^ 20) (pos / 4096 % 256) (pos / 16 % 256) (if ctrl then 0 else (s.prt p).rxGroup) (s.prt p).option (pos % 16)
          p (b.length - 4) ctrl
        let k : Pkt := {
          bytes := wordBytes w ++ b.drop 4, inPort := p, tile := tileOf p, rx16 := s.now16, rxTick := s.mast.tick
          tsEpoch := s.mast.tsEpoch, hold := s.holdoverMark, uncal := s.uncal p, capture := true }
        t.pk = (toFeed (tileOf p) k s).pk ∧ t.prt p = { s.prt p with cpriAlarms := pos % 16 } ∧ (∀ k, k ≠ p → t.prt k = s.prt k)
        ∧ t.port.lanes = s.port.lanes
        ∧ t.rg .portIntStatus [p] = if pos % 16 = 0 then s.rg .portIntStatus [p] else s.rg .portIntStatus [p] ||| 32)
  ∧ (∀ ctrl b, s.linkUp p = true → s.rxAwake p = false → Goes (.cpriCapture p ctrl b) s [] fun _ => True)
  ∧ (let d := s.timeline (s.prt p).cpriTimeline
     let i := (s.prt p).cpriNext.getD (s.cpriNow p)
     let n := if i % (cpriGroup (s.prt p).cpriGroup : Int) = 0 then cpriGroup (s.prt p).cpriGroup else 4
     s.linkUp p = true → s.txAwake p = true → (s.prt p).option ≠ 0 → d.configured = true → i % n = 0 → s.cpri16 p i ≤ s.now16 →
      Goes (.cpriTxFrame p) s [.port, .out, .regs] fun t =>
        let key := (i % (4096 * 38400)).toNat
        let c := (s.prt p).cpriTx.find? (fun c => c.1 == key)
        t.regs = (if c.isSome then s else s.bump .cpriCnt [p] 63 32).regs
        ∧ t.prt p = { s.prt p with cpriNext := some (i + n), cpriTx := (s.prt p).cpriTx.filter (fun c => c.1 != key) }
        ∧ (∃ m, t.out = { s.out with linkMsgs := s.out.linkMsgs ++ [(p, m)] } ∧ m.take 4 = bytesBE 4 key
          ∧ m.drop (4 + n * cpriWord (s.prt p).option) = match c with
            | some x => x.2
            | none => List.replicate (n * cpriIq (s.prt p).option) 0)
        ∧ ∀ k, k ≠ p → t.prt k = s.prt k)

/-- A transmitter whose sleep sequence is out enters DOZING (R98). At its wake instant, or when its own WAKE_REQ burst has ended, the wake sequence starts (R99, R100); the receiver's listening
window opens, and an active line at its opening is a missed wake that is counted and answered with WAKE_REQ (R100, R102). The 16th such miss at the ceiling suspends the doze of the pair
and wakes its transmitter (R102). A sequence seen in the window is the wake, a late one is counted; the window closes on a silent line, and 10 µs later the port goes down with WAKE_FAIL (R100). WAKE_REQ is answered within
50 ns and counted (R101). The end of the sequence, and of a fast retrain, makes the direction AWAKE; after more
than 1 s an AGREE has to confirm the epoch as soon as every lane is awake (R93). -/
def Obligations.LaneDoze : Prop := ∀ (n p : Nat) (s : State), n < 512 → Live s → s.portOf n = some p →
  let l := s.lane n
  let only := fun (v : Lane) (t : State) => t.lane n = v ∧ (∀ k, k ≠ n → t.lane k = s.lane k) ∧ t.port.ports = s.port.ports
  let wider := max l.guard (min l.guardCeil (2 * l.guard))
  let confirms := fun (since : Nat) (t : State) => ((s.prt p).ver ≠ 0 ∧ since + 800000000 < s.mast.tick ∨ (s.prt p).epochOld = true) →
    if t.txAwake p && t.rxAwake p then (t.prt p).epochDue = some (s.mast.tick + 8000000) else (t.prt p).epochOld = true
  (l.txDoze = 1 → l.txSleepDue ≤ s.mast.tick →
      Goes (.laneDozeEntered n) s [.port] (only { l with txDoze := 2, txDozeTick := s.mast.tick }))
  ∧ (l.txDoze = 3 → l.seqTx = none → l.wakeTx + nsTicks (l.wakeG + 100) ≤ s.mast.tick →
      bursting l s = false → Goes (.wakeInstant n) s [.port] (only { l with seqTx := some s.mast.tick, burstUntil := none }))
  ∧ (bursting l s = true → Goes (.wakeInstant n) s [] fun _ => True)
  ∧ (l.rxDoze = 3 → l.window = 0 → windowOpenTick (s.prt p) l ≤ s.mast.tick →
      Goes (.wakeWindowOpen n false) s [.port] (only { l with window := 1 }))
  ∧ (l.rxDoze = 3 → l.window = 0 → windowOpenTick (s.prt p) l ≤ s.mast.tick → ¬(l.guardCeil ≤ l.guard ∧ 15 ≤ l.missRun) →
      Goes (.wakeWindowOpen n true) s [.port, .out, .regs] fun t =>
        only { l with
          window := 1, rxDoze := 4, uncal := true, missRun := if l.guardCeil ≤ l.guard then l.missRun + 1 else 0, seqRx := none
          guard := wider, burstUntil := if l.txDoze = 0 then l.burstUntil else some (s.mast.tick + nsTicks 200) } t
        ∧ t.rgf .laneDozeCnt [n] 63 48 = satAdd 16 (s.rgf .laneDozeCnt [n] 63 48) 1
        ∧ t.rg .laneIntStatus [n] = s.rg .laneIntStatus [n] ||| 8)
  ∧ (l.rxDoze = 3 → l.window = 0 → windowOpenTick (s.prt p) l ≤ s.mast.tick → l.guardCeil ≤ l.guard → 15 ≤ l.missRun →
      Goes (.wakeWindowOpen n true) s [.port, .out, .regs] fun t =>
        (t.lane n).suspended = true ∧ (t.lane n).rxDoze = 4 ∧ (t.lane n).missRun = l.missRun + 1 ∧ (t.lane n).guard = l.guard
        ∧ (if l.txDoze = 1 ∨ l.txDoze = 2 then (t.lane n).txDoze = 3 ∧ (t.lane n).wakeTx = s.mast.tick else (t.lane n).txDoze = l.txDoze)
        ∧ t.rg .laneIntStatus [n] = s.rg .laneIntStatus [n] ||| 8 ||| 64 ∧ ∀ k, k ≠ n → t.lane k = s.lane k)
  ∧ (l.rxDoze = 3 → l.window ≠ 0 → l.seqRx = none → s.mast.tick ≤ windowCloseTick (s.prt p) l →
      Goes (.wakeSequenceSeen n) s [.port] (only { l with seqRx := some s.mast.tick, missRun := 0 }))
  ∧ (l.rxDoze = 3 → l.window ≠ 0 → l.seqRx = none → windowCloseTick (s.prt p) l < s.mast.tick →
      Goes (.wakeSequenceSeen n) s [.port, .out, .regs] fun t =>
        only { l with
          seqRx := some s.mast.tick, missRun := 0
          guard := if windowCloseTick (s.prt p) l + nsTicks l.wakeG < s.mast.tick then wider else l.guard } t
        ∧ t.rgf .laneDozeCnt [n] 47 32 = satAdd 16 (s.rgf .laneDozeCnt [n] 47 32) 1
        ∧ t.rg .laneIntStatus [n] = s.rg .laneIntStatus [n] ||| 16)
  ∧ (l.rxDoze = 4 → l.seqRx = none → Goes (.wakeSequenceSeen n) s [.port] (only { l with seqRx := some s.mast.tick }))
  ∧ (l.rxDoze = 3 → l.window = 1 → l.seqRx = none → windowCloseTick (s.prt p) l ≤ s.mast.tick →
      Goes (.wakeWindowClose n) s [.port] (only { l with window := 2 }))
  ∧ (s.linkUp p = true → (l.rxDoze = 3 ∨ l.rxDoze = 4) → l.seqRx = none → wakeFailTick (s.prt p) l ≤ s.mast.tick →
      Goes (.wakeFailTimeout n) s [.mast, .port, .host, .cmd, .out, .flt, .regs, .power] (WentDown p 11 s))
  ∧ (s.linkUp p = true →
      Goes (.wakeReqRx n) s [.port, .out, .regs] fun t =>
        only { l with
          txDoze := 4, guard := wider, txDozeTick := if l.txDoze = 0 then s.mast.tick else l.txDozeTick, burstUntil := none
          reqUntil := some (max (s.mast.tick + reqRest l) (s.boundaryTick (s.prt p).txBusy16).toNat + nsTicks (150 + retrainNs l)) } t
        ∧ t.rgf .laneDozeCnt [n] 31 16 = satAdd 16 (s.rgf .laneDozeCnt [n] 31 16) 1
        ∧ t.rg .laneIntStatus [n] = s.rg .laneIntStatus [n] ||| 32)
  ∧ (∀ d, l.txDoze = 3 → l.seqTx = some d → d + 80 ≤ s.mast.tick → l.rxDoze ≠ 3 →
      Goes (.wakeSequenceEnd n) s [.port, .out] fun t =>
        t.lane n = { l with txDoze := 0, seqTx := none } ∧ (∀ k, k ≠ n → t.lane k = s.lane k) ∧ confirms l.txDozeTick t)
  ∧ (∀ d, l.rxDoze = 3 → l.seqRx = some d → d + 80 ≤ s.mast.tick → l.txDoze ≠ 3 →
      Goes (.wakeSequenceEnd n) s [.mast, .port, .out, .regs] fun t =>
        t.lane n = { l with rxDoze := 0, seqRx := none, window := 0 } ∧ (∀ k, k ≠ n → t.lane k = s.lane k) ∧ confirms l.rxDozeTick t)
  ∧ (∀ d, l.txDoze = 4 → l.reqUntil = some d → d ≤ s.mast.tick → l.rxDoze ≠ 4 →
      Goes (.fastRetrainDone n) s [.port, .out] fun t =>
        t.lane n = { l with txDoze := 0, reqUntil := none } ∧ (∀ k, k ≠ n → t.lane k = s.lane k) ∧ confirms l.txDozeTick t)
  ∧ (∀ d, l.rxDoze = 4 → l.seqRx = some d → l.txDoze ≠ 4 →
      Goes (.fastRetrainDone n) s [.mast, .port, .out, .regs] fun t =>
        t.lane n = { l with rxDoze := 0, seqRx := none, window := 0 } ∧ (∀ k, k ≠ n → t.lane k = s.lane k) ∧ confirms l.rxDozeTick t)

/-- CLASS_RULE_WRITE commits its rule, and clears its hit counter, in every named Tile: through staging, or into the inactive bank, whose epoch
advances (R112, R116). CLASS_MODE switches the named Tiles (R114); CLASS_BANK_SWAP under the inactive bank's epoch makes that bank active (R115).
CLASS_COUNTER_READ returns hit counters (R111). POLICER_SET sets a policer with full buckets (R131); INDIR_WRITE, CPU_CODE_WRITE and
ENCAP_WRITE write one entry of their tables (R127, R128, R125). Nothing else of any Tile changes. -/
def Obligations.PipelineTables : Prop := ∀ (c : Cmd) (s : State),
  let named := fun (k : Nat) => k ∈ tilesOf c
  let w0ok := bitAt (c.p 1) 63 = false ∨ fld (c.p 1) 62 60 < 6 ∧ actionOk (c.p 1) = true
  (Taken 0x0400 maskDomain c s → tilesOf c ≠ [] → fld (c.p 0) 31 13 = 0 → w0ok → (∀ k ∈ tilesOf c, (s.tl k).staged = true) →
      Completes (.classRuleWrite c) c s [] [.pk, .flt]
        ((tilesOf c).map (fun k => regAddr .pipeIntStatus [k]) ++ [regAddr .intSignalCnt []]) fun t =>
        (∀ k, named k → t.tl k = { s.tl k with rules := (t.tl k).rules, hits := (t.tl k).hits, stage := ruleWords c }
          ∧ tget [] (t.tl k).rules (ruleIndex c) = (if (ruleWords c).all (· == 0) then [] else ruleWords c)
          ∧ tget 0 (t.tl k).hits (ruleIndex c) = 0
          ∧ (∀ i, i ≠ ruleIndex c → tget [] (t.tl k).rules i = tget [] (s.tl k).rules i ∧ tget 0 (t.tl k).hits i = tget 0 (s.tl k).hits i)
          ∧ t.rg .pipeIntStatus [k] = s.rg .pipeIntStatus [k] ||| 0x40)
        ∧ ∀ k, ¬named k → t.tl k = s.tl k)
  ∧ (Taken 0x0400 maskDomain c s → tilesOf c ≠ [] → fld (c.p 0) 31 13 = 0 → w0ok →
      (∀ k ∈ tilesOf c, (s.tl k).staged = false ∧ (s.tl k).active ≠ ruleBank (ruleIndex c)) →
      ∃ res, Completes (.classRuleWrite c) c s res [.pk, .flt, .epochs] [] fun t =>
        (∀ k, named k → t.tl k = { s.tl k with rules := (t.tl k).rules, hits := (t.tl k).hits }
          ∧ tget [] (t.tl k).rules (ruleIndex c) = (if (ruleWords c).all (· == 0) then [] else ruleWords c)
          ∧ tget 0 (t.tl k).hits (ruleIndex c) = 0
          ∧ (∀ i, i ≠ ruleIndex c → tget [] (t.tl k).rules i = tget [] (s.tl k).rules i ∧ tget 0 (t.tl k).hits i = tget 0 (s.tl k).hits i)
          ∧ t.epoch (ekClass k (ruleBank (ruleIndex c))) = (s.epoch (ekClass k (ruleBank (ruleIndex c))) + 1) % 65536)
        ∧ (∀ k, ¬named k → t.tl k = s.tl k) ∧ res.length = (tilesOf c).length)
  ∧ (Taken 0x0401 maskDomain c s → tilesOf c ≠ [] → fld (c.p 0) 47 1 = 0 → bitAt (c.p 0) 0 = true →
      (∀ k ∈ tilesOf c, (s.tl k).staged = true → ∀ x ∈ (s.tl k).rules, 4096 ≤ x.1 → bitAt (x.2.getD 0 0) 63 = false) →
      Completes (.classMode c) c s [] [.pk, .epochs] [] fun t =>
        ∀ k, t.tl k = if named k ∧ (s.tl k).staged then { s.tl k with staged := false, active := 0 } else s.tl k)
  ∧ (Taken 0x0401 maskDomain c s → tilesOf c ≠ [] → fld (c.p 0) 47 1 = 0 → bitAt (c.p 0) 0 = false →
      Completes (.classMode c) c s [] [.pk, .epochs] [] fun t =>
        ∀ k, (t.tl k = if named k ∧ !(s.tl k).staged then { s.tl k with staged := true, rules := (t.tl k).rules } else s.tl k)
          ∧ (named k → (s.tl k).staged = false →
              ∀ x ∈ (t.tl k).rules, ruleBank x.1 ≠ (s.tl k).active → bitAt (x.2.getD 0 0) 63 = false))
  ∧ (let n := fld (c.p 0) 63 60;
      Taken 0x0402 tileDomain c s → (s.tl n).staged = false → fld (c.p 0) 59 16 = 0 →
      fld (c.p 0) 15 0 = s.epoch (ekClass n (1 - (s.tl n).active)) →
      Completes (.classBankSwap c) c s [] [.pk, .epochs] [] fun t =>
        t.tl n = { s.tl n with active := 1 - (s.tl n).active } ∧ (∀ k, k ≠ n → t.tl k = s.tl k)
        ∧ t.epoch (ekClass n (s.tl n).active) = (s.epoch (ekClass n (s.tl n).active) + 1) % 65536)
  ∧ (Taken 0x0403 tileDomain c s → 0 < readCount c → readCount c < 8192 → readFirst c + readCount c ≤ 8192 → fld (c.p 0) 59 48 = 0 →
      Completes (.classCounterRead c) c s
        ((List.range (readCount c)).map fun k => BitVec.ofNat 64 (tget 0 (s.tl (fld (c.p 0) 63 60)).hits (readFirst c + k))) [] []
        fun _ => True)
  ∧ (Taken 0x0404 word0Tile c s → c.n 0 < 16 → c.n 1 < 65536 → c.n 2 < 2 → c.n 3 < 2 → c.n 4 < 33554432 → c.n 5 < 16777216 →
      c.n 6 < 33554432 → c.n 7 < 16777216 → -32 ≤ (c.p 8).toInt → (c.p 8).toInt ≤ 31 → c.n 9 < 3 →
      Completes (.policerSet c) c s [] [.pk, .flt] [] fun t =>
        t.tl (c.n 0) = { s.tl (c.n 0) with policers := (t.tl (c.n 0)).policers } ∧ (∀ k, k ≠ c.n 0 → t.tl k = s.tl k)
        ∧ tget {} (t.tl (c.n 0)).policers (c.n 1) = {
          mode := c.n 2, aware := c.n 3, cir := c.n 4, cbs := c.n 5, eir := c.n 6, ebs := c.n 7
          lenAdj := (c.p 8).toInt, yellow := c.n 9, tc := c.n 5 * 32768, te := c.n 7 * 32768, last := s.mast.tick }
        ∧ ∀ i, i ≠ c.n 1 → tget {} (t.tl (c.n 0)).policers i = tget {} (s.tl (c.n 0)).policers i)
  ∧ (Taken 0x0405 maskDomain c s → tilesOf c ≠ [] → readFirst c < 512 → fld (c.p 0) 47 32 = 0 →
      Completes (.indirWrite c) c s [] [.pk, .flt] [] fun t =>
        (∀ k, named k → t.tl k = { s.tl k with indir := (t.tl k).indir } ∧ tget 0 (t.tl k).indir (readFirst c) = c.p 1
          ∧ ∀ i, i ≠ readFirst c → tget 0 (t.tl k).indir i = tget 0 (s.tl k).indir i) ∧ ∀ k, ¬named k → t.tl k = s.tl k)
  ∧ (Taken 0x0406 noDomain c s → c.n 0 < 4096 → ¬(bitAt (c.p 1) 63 = true ∧ bitAt (c.p 1) 62 = true ∧ fld (c.p 1) 49 46 = 0) →
      Completes (.cpuCodeWrite c) c s [] [.pk, .flt] [] fun t =>
        t.pk = { s.pk with cpu := t.pk.cpu } ∧ tget 0 t.pk.cpu (c.n 0) = c.p 1
        ∧ ∀ i, i ≠ c.n 0 → tget 0 t.pk.cpu i = tget 0 s.pk.cpu i)
  ∧ (let typ := fld (c.p 1) 63 56;
      let len := fld (c.p 1) 7 0;
      Taken 0x0407 maskDomain c s → tilesOf c ≠ [] → 1 ≤ readFirst c → readFirst c < 256 → fld (c.p 0) 47 32 = 0 → 1 ≤ typ → typ ≤ 8 →
      len ≤ 96 → c.params.length = 2 + (len + 7) / 8 →
      Completes (.encapWrite c) c s [] [.pk, .flt] [] fun t =>
        (∀ k, named k → t.tl k = { s.tl k with encap := (t.tl k).encap }
          ∧ tget {} (t.tl k).encap (readFirst c) = { typ := typ, tmpl := ((c.params.drop 2).flatMap wordBytes).take len }
          ∧ ∀ i, i ≠ readFirst c → tget {} (t.tl k).encap i = tget {} (s.tl k).encap i) ∧ ∀ k, ¬named k → t.tl k = s.tl k)

/-- L2_ENTRY_WRITE and L2_ENTRY_DELETE queue a host request in every named Tile (R142). L2_FLUSH marks its Tiles, and its completion removes
exactly the entries that match, from the table and from what a running reseed has loaded (R142). L2_DUMP returns the table (R146). L2_RESEED starts the load of an image whose entries lie in the sets of
the new seed, and its completion makes image, seed and epoch those of the Tile (R146, R147). L2_REHASH_ACK ends a rehash request (R145).
LPM_WRITE writes its words, EPOCH, VALID and seed (R154, R155); LPM_SYNC completes; FLOOD_SET_WRITE writes a flood set or a VID's set (R170). -/
def Obligations.L2Commands : Prop := ∀ (c : Cmd) (s : State),
  let named := fun (k : Nat) => k ∈ tilesOf c
  let n := fld (c.p 0) 63 60
  (Taken 0x0500 maskDomain c s → tilesOf c ≠ [] → fld (c.p 0) 47 0 = 0 → (∀ k ∈ tilesOf c, (s.tl k).hostReqs < 64) →
      Completes (.l2EntryWrite c) c s [] [.pk] [] fun t =>
        ∀ k, t.tl k = if named k then { s.tl k with learnQ := (s.tl k).learnQ ++
          [{ kind := 1, w0 := ins (c.p 1) 25 0 0, w1 := ins (c.p 2) 63 48 0, tick := s.mast.tick }] } else s.tl k)
  ∧ (Taken 0x0501 maskDomain c s → tilesOf c ≠ [] → fld (c.p 0) 47 0 = 0 → (∀ k ∈ tilesOf c, (s.tl k).hostReqs < 64) →
      Completes (.l2EntryDelete c) c s [] [.pk] [] fun t =>
        let key := l2Key (fld (c.p 1) 59 48) (fld (c.p 1) 47 0) 0
        ∀ k, t.tl k = if named k then { s.tl k with learnQ := (s.tl k).learnQ ++
          [{ kind := 2, w0 := key.1, w1 := key.2, tick := s.mast.tick }] } else s.tl k)
  ∧ (Taken 0x0502 maskDomain c s → tilesOf c ≠ [] → (bitAt (c.p 0) 31 = true ∨ bitAt (c.p 0) 30 = true) →
      (∀ k ∈ tilesOf c, (s.tl k).flush = none) →
      Goes (.l2Flush c) s [.pk, .cmd, .regs] fun t =>
        (∀ k, t.tl k = if named k then { s.tl k with flush := some {
            byPort := bitAt (c.p 0) 31, byVid := bitAt (c.p 0) 30
            port := fld (c.p 0) 20 12, vid := fld (c.p 0) 11 0, start := s.mast.tick } } else s.tl k)
        ∧ t.cmd = { (noteIntake c s).cmd with opened := s.cmd.opened ++ [{ cmd := c, kind := 0x0502, key := fld (c.p 0) 63 48 }] }
        ∧ RegsBut [regAddr .cmdSrcCnt [srcCode c.src]] s t)
  ∧ (∀ k f, k < 16 → Live s → (s.tl k).flush = some f → f.start + 16384 ≤ s.mast.tick →
      Goes (.l2FlushDone k) s [.pk, .host, .cmd, .out, .flt, .regs] fun t =>
        t.tl k = { s.tl k with
          flush := none, l2 := (s.tl k).l2.filter (fun x => !f.removes x.2)
          reseed := (s.tl k).reseed.map fun r =>
            { r with image := r.image.filter fun x => decide (4 * r.loaded s.mast.tick ≤ x.1) || !f.removes x.2 } }
        ∧ ∀ j, j ≠ k → t.tl j = s.tl j)
  ∧ (Taken 0x0503 tileDomain c s → Clean s → 0 < readCount c → readCount c ≤ 1023 → readFirst c + readCount c ≤ 32768 →
      fld (c.p 0) 59 48 = 0 →
      Completes (.l2Dump c) c s ((List.range (4 * readCount c)).flatMap fun i =>
        [(s.l2At n (readFirst c + i / 4) (i % 4)).1, (s.l2At n (readFirst c + i / 4) (i % 4)).2]) [] [] fun _ => True)
  ∧ (Taken 0x0504 tileDomain c s → fld (c.p 0) 59 48 = 0 → (s.tl n).reseed = none →
      (∀ x ∈ imageOf (c.n 1) c.host, l2Set (fld (c.p 0) 31 0) (l2Vid x.2) (l2Mac x.2) = x.1 / 4) →
      Goes (.l2Reseed c) s [.pk, .cmd, .regs] fun t =>
        t.tl n = { s.tl n with rehash := false, reseed := some {
          seed := fld (c.p 0) 31 0, epoch := fld (c.p 0) 47 32
          image := imageOf (c.n 1) c.host, start := s.mast.tick } } ∧ (∀ k, k ≠ n → t.tl k = s.tl k)
        ∧ t.cmd = { (noteIntake c s).cmd with opened := s.cmd.opened ++ [{ cmd := c, kind := 0x0504, key := n }] }
        ∧ RegsBut [regAddr .cmdSrcCnt [srcCode c.src]] s t)
  ∧ (∀ k r, k < 16 → Live s → (s.tl k).reseed = some r → r.loaded s.mast.tick = 32768 →
      Goes (.reseedDone k) s [.pk, .host, .cmd, .out, .flt, .epochs, .regs] fun t =>
        t.tl k = { s.tl k with reseed := none, l2 := r.image, l2Seed := r.seed, l2Epoch := r.epoch } ∧ (∀ j, j ≠ k → t.tl j = s.tl j)
        ∧ t.epoch (ekL2 k) = (s.epoch (ekL2 k) + 1) % 65536 ∧ t.rg .ftIntStatus [k] = s.rg .ftIntStatus [k] ||| 8)
  ∧ (Taken 0x0505 tileDomain c s → fld (c.p 0) 59 0 = 0 →
      Completes (.l2RehashAck c) c s [] [.pk] [] fun t => t.tl n = { s.tl n with rehash := false } ∧ ∀ k, k ≠ n → t.tl k = s.tl k)
  ∧ (let st := fld (c.p 0) 31 28;
      let first := fld (c.p 0) 27 0;
      Taken 0x0506 maskDomain c s → tilesOf c ≠ [] → fld (c.p 0) 47 32 = 0 → first + (c.params.drop 2).length ≤ lpmWords st →
      Completes (.lpmWrite c) c s [] [.pk, .flt, .epochs] [] fun t =>
        (∀ k, named k → t.tl k = { s.tl k with
              lpm := (t.tl k).lpm, lpmEpoch := fld (c.p 1) 63 48, lpmValid := bitAt (c.p 1) 47, emSeed := fld (c.p 1) 31 0 }
          ∧ t.epoch (ekLpm k) = fld (c.p 1) 63 48
          ∧ ∀ a, tget 0 (t.tl k).lpm a = if lpmKey st first ≤ a ∧ a < lpmKey st first + (c.params.drop 2).length
            then (c.params.drop 2).getD (a - lpmKey st first) 0 else tget 0 (s.tl k).lpm a) ∧ ∀ k, ¬named k → t.tl k = s.tl k)
  ∧ (Taken 0x0507 noDomain c s → Completes (.lpmSync c) c s [] [] [] fun _ => True)
  ∧ (let i := fld (c.p 0) 11 0;
      Taken 0x0508 maskDomain c s → tilesOf c ≠ [] → fld (c.p 0) 47 32 = 0 → fld (c.p 0) 30 12 = 0 → bitAt (c.p 0) 31 = false →
      c.params.length = 9 →
      Completes (.floodSetWrite c) c s [] [.pk, .flt] [] fun t =>
        (∀ k, named k → t.tl k = { s.tl k with floodSets := (t.tl k).floodSets }
          ∧ tget (List.replicate 8 0) (t.tl k).floodSets i = c.params.drop 1
          ∧ ∀ j, j ≠ i → tget (List.replicate 8 0) (t.tl k).floodSets j = tget (List.replicate 8 0) (s.tl k).floodSets j)
        ∧ ∀ k, ¬named k → t.tl k = s.tl k)
  ∧ (let i := fld (c.p 0) 11 0;
      Taken 0x0508 maskDomain c s → tilesOf c ≠ [] → fld (c.p 0) 47 32 = 0 → fld (c.p 0) 30 12 = 0 → bitAt (c.p 0) 31 = true →
      c.params.length = 2 → c.n 1 < 4096 →
      Completes (.floodSetWrite c) c s [] [.pk, .flt] [] fun t =>
        (∀ k, named k → t.tl k = { s.tl k with vlanFlood := (t.tl k).vlanFlood } ∧ tget 0 (t.tl k).vlanFlood i = c.n 1
          ∧ ∀ j, j ≠ i → tget 0 (t.tl k).vlanFlood j = tget 0 (s.tl k).vlanFlood j) ∧ ∀ k, ¬named k → t.tl k = s.tl k)

/-- The request at the head of a learn queue is applied no sooner than four clocks after it was posted and at most one in two clocks (R139): a key
that its set does not hold takes the lowest free way; a key at the same port is hit again; a static entry at another port stays, counted; a host
write and a host delete set or clear the entry of their key (R142). A due visit of the ageing sweep clears HIT, then sets AGE_MARK, then removes,
and moves to the next set (R143). Nothing else of the table changes. -/
def Obligations.Learning : Prop := ∀ (n : Nat) (s : State), n < 16 → Live s → Clean s → s.awake (domTile n) = true →
  let tl := s.tl n
  let at_ := fun (i : Nat) => tget (0, 0) tl.l2 i
  let same := fun (t : State) (i : Nat) (e : W × W) => ∀ j, tget (0, 0) (t.tl n).l2 j = if j = i then e else at_ j
  (∀ r rest, tl.learnQ = r :: rest → tl.reseed = none → r.tick + 2 ≤ s.mast.tick → tl.lastLearn + 1 ≤ s.mast.tick →
    let k := (r.w0, r.w1)
    let set := l2Set tl.l2Seed (l2Vid k) (l2Mac k)
    let holds := fun (w : Nat) => l2Valid (at_ (4 * set + w)) = true ∧ l2Vid (at_ (4 * set + w)) = l2Vid k ∧ l2Mac (at_ (4 * set + w)) = l2Mac k
    let taken := fun (t : State) => (t.tl n).learnQ = rest ∧ (t.tl n).lastLearn = s.mast.tick ∧ ∀ j, j ≠ n → t.tl j = s.tl j
    (∀ w, r.kind = 0 → (∀ v < 4, ¬holds v) → s.freeWay n set = some w →
        Goes (.learnApply n) s [.pk, .host, .cmd, .out, .regs] fun t =>
          taken t ∧ same t (4 * set + w) (r.w0 ||| mk 63 63 1 ||| mk 60 60 1, r.w1)
          ∧ t.rgf .l2Cnt0 [n] 63 32 = satAdd 32 (s.rgf .l2Cnt0 [n] 63 32) 1)
    ∧ (∀ w, r.kind = 0 → w < 4 → holds w → (∀ v < w, ¬holds v) → l2Port (at_ (4 * set + w)) = l2Port k →
        Goes (.learnApply n) s [.pk] fun t =>
          taken t ∧ same t (4 * set + w) (ins (at_ (4 * set + w)).1 60 60 1, (at_ (4 * set + w)).2))
    ∧ (∀ w, r.kind = 0 → w < 4 → holds w → (∀ v < w, ¬holds v) → l2Port (at_ (4 * set + w)) ≠ l2Port k →
        l2Static (at_ (4 * set + w)) = true →
        Goes (.learnApply n) s [.pk, .regs] fun t => taken t ∧ (t.tl n).l2 = tl.l2 ∧ t.regs = (s.bump .l2Cnt2 [n] 63 48).regs)
    ∧ (∀ w, r.kind = 1 → l2Valid k = true → (∀ v < 4, ¬holds v) → s.freeWay n set = some w →
        Goes (.learnApply n) s [.pk] fun t => taken t ∧ same t (4 * set + w) k)
    ∧ (∀ w, (r.kind = 1 ∨ r.kind = 2) → w < 4 → holds w → (∀ v < w, ¬holds v) →
        Goes (.learnApply n) s [.pk] fun t => taken t ∧ same t (4 * set + w) (if r.kind = 1 ∧ l2Valid k then k else (0, 0))))
  ∧ (tl.reseed = none → s.rgf .l2Cfg [n] 31 16 ≠ 0 → tl.sweepTick + s.rgf .l2Cfg [n] 31 16 * 390625 ≤ 16 * s.mast.tick →
      Goes (.ageSweepVisit n) s [.pk, .host, .cmd, .out, .regs] fun t =>
        (t.tl n).sweepPos = (tl.sweepPos + 1) % 32768 ∧ (t.tl n).sweepTick = tl.sweepTick + s.rgf .l2Cfg [n] 31 16 * 390625
        ∧ (∀ j, j ≠ n → t.tl j = s.tl j) ∧ ∀ j, tget (0, 0) (t.tl n).l2 j =
          if j / 4 ≠ tl.sweepPos ∨ l2Valid (at_ j) = false ∨ l2Static (at_ j) = true then at_ j
          else if l2Hit (at_ j) then (ins (ins (at_ j).1 60 60 0) 59 59 0, (at_ j).2)
          else if l2Mark (at_ j) then (0, 0) else (ins (at_ j).1 59 59 1, (at_ j).2))

/-- BUF_QUEUE_CONFIG gives a queue its admission profile (R158). XBAR_PLANE_ENABLE under the crossbar's epoch starts the heartbeats of a faulty
plane with its pointers at their reset values, and does nothing to one in service (R177). A declared fault takes a plane out, with its cells, which are
lost, and accepts, advances the epoch and raises PLANE_FAULT (R176); 64 good windows bring it back, advance the epoch and raise PLANE_READMITTED (R177).
An arriving pull queues the packet for a request, a discard pull frees its cells (R163, R189). A grant window asks again for what is pulled and
launches on the planes of its accepts only; a plane that was sent the last requests matches them (R164). A detected fault is declared at the
next window; a cell whose header is uncorrectable is lost and counted, and 16 in 1 ms are a detected fault (R175). A cell in order is delivered, one ahead is held, one behind is counted as late and its credit
returns; RSQ_TIMEOUT skips to the oldest held cell and counts what was lost (R168, R169). An audit pass starts on time (R173), and at its end
gives back the cells found in two passes where AUDIT_CTL says so (R174). -/
def Obligations.BufferAndCrossbar : Prop := ∀ (c : Cmd) (s : State),
  let x := s.pk.xbar
  (Taken 0x0600 queueDomain c s → c.n 0 < 8192 → c.n 1 < 16 →
      Completes (.bufQueueConfig c) c s [] [.pk] [] fun t =>
        t.tmq (c.n 0) = { s.tmq (c.n 0) with profile := c.n 1 } ∧ ∀ k, k ≠ c.n 0 → t.tmq k = s.tmq k)
  ∧ (let p := fld (c.p 0) 3 0;
      Taken 0x0601 noDomain c s → p < 12 → fld (c.p 0) 15 4 = 0 → fld (c.p 0) 63 32 = 0 → s.epoch ekXbar = fld (c.p 0) 31 16 →
      ((s.plane p).fault = false → Completes (.xbarPlaneEnable c) c s [] [] [] fun _ => True)
      ∧ ((s.plane p).fault = true → Completes (.xbarPlaneEnable c) c s [] [.pk] [] fun t =>
          t.plane p = { s.plane p with windows := some s.mast.tick } ∧ (∀ k, k ≠ p → t.plane k = s.plane k)
          ∧ ∀ j < 16, t.gPtr p j = (j + p) % 16 ∧ t.aPtr p j = (j + p) % 16
            ∧ ∀ k, k ≠ p → t.gPtr k j = s.gPtr k j ∧ t.aPtr k j = s.aPtr k j))
  ∧ (∀ p cause, Live s → p < 12 → 1 ≤ cause → cause ≤ 5 → (s.plane p).fault = false → s.planeOff p = false →
      (cause = 5 → (s.fault 13 (16 + p)).forced.testBit 5 = true ∨ (s.fault 13 (16 + p)).forced.testBit 6 = true) →
      Goes (.planeFault p cause) s [.pk, .host, .cmd, .out, .flt, .epochs, .regs, .power] fun t =>
        t.plane p = { fault := true, cause := cause, windows := none }
        ∧ t.pk.xbar.lost = x.lost ++ (x.flight.filter fun d => d.plane == p).map Cell.asLost ∧ (∀ k, k ≠ p → t.plane k = s.plane k)
        ∧ t.pk.xbar.flight = x.flight.filter (fun d => d.plane != p) ∧ t.pk.xbar.accepts = x.accepts.filter (fun a => a.1 != p)
        ∧ t.epoch ekXbar = (s.epoch ekXbar + 1) % 65536 ∧ bitAt (t.rg .xbarIntStatus []) 0 = true)
  ∧ (∀ p t0, Live s → (s.plane p).windows = some t0 → t0 + 512 ≤ s.mast.tick →
      Goes (.planeReadmit p false) s [.pk, .host, .cmd, .out, .flt, .epochs, .regs, .power] fun t =>
        t.plane p = { s.plane p with fault := false, windows := none } ∧ (∀ k, k ≠ p → t.plane k = s.plane k)
        ∧ t.epoch ekXbar = (s.epoch ekXbar + 1) % 65536 ∧ bitAt (t.rg .xbarIntStatus []) 2 = true)
  ∧ (∀ i v, i < 16 → Live s → s.pk.pulls.find? (fun v => v.slice == i) = some v →
      Goes (.pull i) s [.pk, .power] fun t =>
        t.pk.pulls = s.pk.pulls.erase v ∧ (∀ j, j ≠ i → t.slice j = s.slice j)
        ∧ (v.discard = false →
            let key := 4 * tileOf v.ref.port + s.classOf v.ref.queue
            t.slice i = { s.slice i with pulled := tset [] (s.slice i).pulled key (tget [] (s.slice i).pulled key ++ [v.ref]) })
        ∧ (v.discard = true → t.slice i = (releaseCells i v.ref v.ref.next v.ref.cells s).slice i))
  ∧ (∀ p, Live s → x.window + 8 ≤ s.mast.tick → p < 12 → (s.plane p).detected ≠ 0 → (s.plane p).fault = false →
      Goes .grantWindow s [.pk, .host, .cmd, .out, .flt, .epochs, .regs, .power] fun t =>
        (t.plane p).fault = true ∧ (t.plane p).cause = (s.plane p).detected ∧ t.epoch ekXbar ≠ s.epoch ekXbar
        ∧ bitAt (t.rg .xbarIntStatus []) 0 = true)
  ∧ (Live s → x.window + 8 ≤ s.mast.tick → (∀ p < 12, (s.plane p).detected = 0) →
      Goes .grantWindow s [.pk, .host, .cmd, .out, .flt, .regs, .power] fun t =>
        t.pk.xbar.window = s.mast.tick ∧ t.pk.xbar.asked = t.planesIn
        ∧ (∀ a ∈ t.pk.xbar.accepts, a.1 ∈ x.asked ∧ s.planeIn a.1 = true ∧ a.2.2 ∈ x.requests.getD a.2.1 [])
        ∧ t.pk.xbar.requests = (List.range 16).map (fun i => (List.range 16).filter fun j => ((t.slice i).launchClass j).isSome)
        ∧ ∃ new, t.pk.xbar.flight = x.flight ++ new
          ∧ ∀ d ∈ new, (d.plane, d.src, d.dst) ∈ x.accepts ∧ s.planeIn d.plane = true ∧ s.mast.tick + 20 ≤ d.arrive)
  ∧ (∀ n k d, n < 16 → Live s → (x.flight.filter fun d => d.dst == n)[k]? = some d → d.arrive ≤ s.mast.tick →
      let key := 64 * n + 4 * d.src + d.cls
      let z := s.stream key
      (8192 ≤ dist14 d.seq z.e →
        Goes (.cellArrival n ⟨k, false⟩) s [.mast, .pk, .out, .flt, .regs] fun t =>
          (d.first = false ∨ d.md.ts = none → Frame [.pk, .regs] s t) ∧
          t.pk.xbar.flight = x.flight.erase d ∧ t.stream key = z ∧ t.rgf .rsqCnt [n] 15 0 = satAdd 16 (s.rgf .rsqCnt [n] 15 0) 1
          ∧ (t.tmp d.port).out = (s.tmp d.port).out - 1)
      ∧ (d.seq ≠ z.e → dist14 d.seq z.e < 8192 → (∀ h ∈ z.held, h.2.seq ≠ z.e) → Clean s →
        Goes (.cellArrival n ⟨k, false⟩) s [.pk] fun t =>
          t.pk.xbar.flight = x.flight.erase d ∧ t.stream key = { z with held := z.held ++ [(s.mast.tick, d)] } ∧ t.tl n = s.tl n)
      ∧ (d.seq = z.e → z.held = [] → z.gap = false → d.first = true → d.last = true → Clean s →
        Goes (.cellArrival n ⟨k, false⟩) s [.pk] fun t =>
          t.pk.xbar.flight = x.flight.erase d
          ∧ t.stream key = { z with e := (z.e + 1) % 16384, p := (d.pktSeq + 1) % 16384, open_ := [], md := none, openCells := 0 }
          ∧ t.tl n = { s.tl n with egress := (s.tl n).egress ++ [{ d.md with bytes := d.data }] })
      ∧ (d.plane < 12 →
        Goes (.cellArrival n ⟨k, true⟩) s [.pk, .host, .cmd, .out, .flt, .regs, .power] fun t =>
          let errs := (s.mast.tick :: (s.plane d.plane).hdrErrs).filter fun y => decide (s.mast.tick < y + msTicks)
          t.pk.xbar.flight = x.flight.erase d ∧ t.pk.xbar.lost = x.lost ++ [d.asLost] ∧ t.pk.xbar.streams = x.streams
          ∧ t.rgf .xbarPlaneCnt [d.plane] 23 0 = satAdd 24 (s.rgf .xbarPlaneCnt [d.plane] 23 0) 1
          ∧ t.plane d.plane = { s.plane d.plane with
              hdrErrs := errs, detected := if 16 ≤ errs.length then 4 else (s.plane d.plane).detected }))
  ∧ (∀ n k h d, n < 16 → k < 64 → Live s → Clean s → (s.stream (64 * n + k)).held = [(h, d)] →
      h + s.rgf .rsqTimeout [] 15 0 * 8 ≤ s.mast.tick → d.seq < 16384 → (s.stream (64 * n + k)).e < 16384 →
      Goes (.rsqTimeout n k) s [.mast, .pk, .out, .flt, .regs] fun t =>
        t.pk.xbar.lost = x.lost.filter (fun y => !(y.1 == 64 * n + k && decide
          (dist14 y.2.1 (s.stream (64 * n + k)).e < dist14 d.seq (s.stream (64 * n + k)).e))) ∧
        (t.stream (64 * n + k)).e = (d.seq + 1) % 16384 ∧ (t.stream (64 * n + k)).held = []
        ∧ t.rgf .rsqCnt [n] 63 40 = satAdd 24 (s.rgf .rsqCnt [n] 63 40) (dist14 d.seq (s.stream (64 * n + k)).e))
  ∧ (∀ i, i < 16 → Live s → s.rgf .auditCtl [i] 15 0 ≠ 0 → (s.slice i).passStart = none → (s.slice i).nextPass ≤ s.mast.tick →
      s.awake (domTile i) = true →
      Goes (.auditPassStart i) s [.pk, .host, .cmd, .out, .flt, .regs, .power] fun t =>
        (t.slice i).passStart = some s.mast.tick ∧ (t.slice i).nextPass = s.mast.tick + s.rgf .auditCtl [i] 15 0 * msTicks
        ∧ (t.slice i).stored = (s.slice i).stored ∧ (t.slice i).leaked = (s.slice i).leaked ∧ ∀ j, j ≠ i → t.slice j = s.slice j)
  ∧ (∀ i a, i < 16 → Live s → (s.slice i).passStart = some a →
      Goes (.auditPassEnd i) s [.pk, .host, .cmd, .out, .flt, .regs, .power] fun t =>
        (t.slice i).passStart = none ∧ (t.slice i).passes = ((s.slice i).passes + 1) % 131072 ∧ (t.slice i).stored = (s.slice i).stored
        ∧ (∀ d, d ∈ (t.slice i).leaked ↔ d ∈ (s.slice i).leaked
            ∧ ¬(bitAt (s.rg .auditCtl [i]) 16 = true ∧ d ∈ (s.slice i).snap ∧ d ∈ (s.slice i).cands))
        ∧ ∀ j, j ≠ i → t.slice j = s.slice j)

/-- A frame that a port takes in, that parses, that no rule looks at and whose port's default forwards it to a port is stored in its Tile's
slice for the queue that R121 gives it; one that fails to parse under a DROP default is counted and goes nowhere; a Hello is taken by the port
block. The packet at an injection input is stored for its own port and queue (R7). The egress pipeline hands its next packet to a port block that
can send, and its credit returns (R163, R272); one whose port is down is dropped and counted (R188). The port block sends the frame it holds
once its hand-off time has passed (R474): it leaves as an output frame and its line symbols (R76 to R78), its timestamp action is answered (R27),
and the port is busy for the frame's length; a capture for a CPRI port waits for its basic frame, or is lost when it is late (R96). A frame given
as line symbols enters as what it decodes to (R76 to R79). A frame of the management controller enters at the injection input (R9, log 76). -/
def Obligations.PacketPath : Prop := ∀ (p : Nat) (s : State), p < 512 → Live s →
  let n := tileOf p
  let j := p % 32
  (∀ (f : RxFrame), f.line = [] → s.canReceive p f = true → helloGood p f.bytes s = false → s.awake (domTile n) = true →
    let a := parse (s.parseCfgOf n p) f.bytes
    mgmtFrame s p a (receivedPkt s p f).macsec = none →
    (let w := s.rg .portDefaultNomatch [n, j];
      let x := fld w 53 45;
      let q := if bitAt w 37 then fld w 36 33
        else if a.tagged then fld (s.rg .portQos [n, j]) (4 * a.opcp + 3) (4 * a.opcp) else fld (s.rg .portQos [n, j]) 47 44;
      f.fcsGood = true → a.fail = 0 → keyFormat (s.rg .portKeySel [n, j]) a.cls false = 7 → actDisp w = 2 → actSpread w = 0 →
      actMirror w = 0 → actPolice w = none → bitAt (s.rg .telPortCfg [p]) 63 = false → f.bytes.length + 4 ≤ 16384 →
      Room n x q (cellsOf (f.bytes.length + 4)) false s →
      Goes (.packetIngress p f) s [.pk, .host, .cmd, .out, .flt, .regs, .power]
        (Queued n x q (fun k => k.bytes = f.bytes ∧ k.inPort = p ∧ k.rx16 = (receivedPkt s p f).rx16 ∧ k.encap = actEncap w) s))
    ∧ (let w := s.rg .portDefaultParsefail [n, j];
      a.fail ≠ 0 → actDisp w = 3 → actMirror w = 0 → actPolice w = none →
      Goes (.packetIngress p f) s [.regs, .power] fun t =>
        t.rgf .portParseCnt [n, j] 63 32 = satAdd 32 (s.rgf .portParseCnt [n, j] 63 32) 1
        ∧ t.rg .portParseLast [n, j] = BitVec.ofNat 64 (min 255 a.off * 256 + a.fail)
        ∧ t.rgf .pipeDropCnt [n, 1] 47 0 = satAdd 48 (s.rgf .pipeDropCnt [n, 1] 47 0) 1))
  ∧ (∀ (f : RxFrame), f.line ≠ [] → match (decodeFrame p f s).1 with
    | none => Goes (.packetIngress p f) s [.regs] fun t => t.regs = (decodeFrame p f s).2.regs
    | some g => exec (.packetIngress p f) s = exec (.packetIngress p g) (decodeFrame p f s).2)
  ∧ (∀ (f : RxFrame), f.line = [] → s.linkUp p = true → s.rxAwake p = true → f.fcsGood = true → helloGood p f.bytes s = true →
      ∃ t, exec (.packetIngress p f) s = .next t ∧ t.port = (helloRx p f.bytes s).port ∧ t.pk = s.pk)
  ∧ (∀ k o rest, s.awake (domTile n) = true → (s.tl n).inject = (o, k) :: rest → k.len ≤ 16384 →
      Room n k.eport k.queue (cellsOf k.len) k.yellow s →
      Goes (.injectionAdmit n) s [.pk, .flt, .power] fun t =>
        Queued n k.eport k.queue (fun v => v = { k with
          ctl := s.isControl n k.eport k.bytes, tile := n, injected := true, rx16 := s.now16, rxTick := s.mast.tick, tsEpoch := s.mast.tsEpoch, hold := s.holdoverMark
          uncal := false }) s t ∧ t.tl n = { s.tl n with inject := rest })
  ∧ (∀ x, s.awake (domTile n) = true → (s.tl n).inject = [] → (s.tl n).recirc = [] →
      s.out.mgmtTx.find? (fun x => x.1 / 32 == n) = some x → x.2.length + 4 ≤ 16384 →
      (∀ q < 16, Room n x.1 q (cellsOf (x.2.length + 4)) false s) →
      Goes (.injectionAdmit n) s [.pk, .out, .flt, .power, .freeCtr] fun t =>
        t.out = { s.out with mgmtTx := s.out.mgmtTx.erase x }
        ∧ ∃ q < 16, Queued n x.1 q (fun v => v.bytes = x.2 ∧ v.eport = x.1 ∧ v.mgmt = true ∧ v.rx16 = s.now16) s t)
  ∧ (∀ k, (s.tl n).egress.find? (fun k => k.eport == p) = some k → s.linkUp p = false →
      Goes (.egressHandoff p) s [.mast, .pk, .out, .flt, .regs, .power] fun t =>
        (t.tl n).egress = (s.tl n).egress.erase k ∧ (t.tmp p).out = (s.tmp p).out - k.cells
        ∧ t.rgf .tmDropCnt [n, j] 63 32 = satAdd 32 (s.rgf .tmDropCnt [n, j] 63 32) 1 ∧ bitAt (t.rg .tmIntStatus [n]) 0 = true)
  ∧ (∀ k, (s.tl n).egress.find? (fun k => k.eport == p) = some k → s.linkUp p = true → (s.prt p).inFlight = none →
      s.txAwake p = true → s.epochHeld p = false → s.awake (domTile n) = true →
      k.mark = false → k.route = none → k.encap = 0 → k.mirror = true → bitAt (s.rg .telPortCfg [p]) 59 = false →
      Goes (.egressHandoff p) s [.port, .pk, .regs] fun t =>
        (t.tl n).egress = (s.tl n).egress.erase k ∧ (t.tmp p).out = (s.tmp p).out - k.cells
        ∧ t.prt p = { s.prt p with inFlight := some {
            bytes := k.bytes, tsId := k.ts, rx16 := k.rx16, rxEpoch := k.tsEpoch, rxKnown := !k.injected && !k.host && !k.mgmt
            handTick := s.mast.tick } }
        ∧ ∀ v, v ≠ p → t.prt v = s.prt v)
  ∧ (∀ f, (s.prt p).inFlight = some f → s.linkUp p = true → s.txAwake p = true → (s.prt p).txBusy16 ≤ s.now16 →
      handedOver p f s = true → ((s.prt p).isCpri = false ∨ (s.prt p).fastCm = true) →
      isTxCapture p (s.prt p).option f.bytes = false → (s.prt p).macsec = false → (s.txts p).entries.length < 16 →
      (parse { s.parseCfgOf n p with inner := false } f.bytes).ptp = false →
      Goes (.frameTransmit p) s [.mast, .port, .flt, .out, .freeCtr] fun t =>
        (∃ at16 k, t.out.frames = s.out.frames ++ [{ port := p, bytes := f.bytes, at16 := at16, line := s.txLine p k f.bytes }]
          ∧ (t.txts p).entries = (s.txts p).entries ++ match f.tsId with | some id => [txtsWords p id (some at16) s] | none => [])
        ∧ t.prt p = { s.prt p with
            inFlight := none
            txBusy16 := s.now16 + ((f.bytes.length + 24) * 8 * 65536 / speedGbps (s.prt p).speed : Nat) }
        ∧ ∀ v, v ≠ p → t.prt v = s.prt v)
  ∧ (∀ f, (s.prt p).inFlight = some f → s.linkUp p = true → handedOver p f s = false → Goes (.frameTransmit p) s [] fun _ => True)
  ∧ (∀ f, (s.prt p).inFlight = some f → s.linkUp p = true → s.txAwake p = true → (s.prt p).txBusy16 ≤ s.now16 →
      handedOver p f s = true → isTxCapture p (s.prt p).option f.bytes = true → f.tsId = none →
      Goes (.frameTransmit p) s [.port] fun t =>
        let w : W := BitVec.ofNat 64 (bytesNat f.bytes 0 8)
        let d := (f.bytes.drop 8).take (fld w 13 0)
        t.prt p = (if bitAt w 29 then { s.prt p with inFlight := none, cpriCtrl := d }
          else if s.cpriLate p (cpriIndex w) then { s.prt p with inFlight := none }
          else { s.prt p with inFlight := none, cpriTx := (s.prt p).cpriTx ++ [(cpriIndex w, d)], cpriGroup := fld w 35 34 })
        ∧ ∀ v, v ≠ p → t.prt v = s.prt v)

/-- TM_QUEUE_CONFIG and TM_PORT_CONFIG set a queue and a port and raise CONFIG_APPLIED; queues that enter or leave the weighted group lose their
deficit (R185). SHAPER_SET sets a shaper of a queue or a port from the next tick, its buckets full or empty (R193). TM_COUNTER_READ returns the
four counters of a queue, and clears them where asked (R478). A selection sends a pull for the head packet of the queue that it chooses, takes
pull credit, charges the shapers and counts (R163, R181, R192); of a poisoned packet it sends a discard pull, counted (R397, R478); of a port that is down, or of a dozing one under DROP, a discard pull (R188 to
R190); a port without pull credit waits and counts it. Reading TXTS_WORD1 pops the head entry for the owner (R29). -/
def Obligations.TrafficManager : Prop := ∀ (c : Cmd) (s : State),
  (Taken 0x0602 queueDomain c s → c.n 0 < 8192 → fld (c.p 1) 63 48 ≠ 0 → fld (c.p 1) 47 46 ≠ 3 → fld (c.p 1) 43 23 ≤ 1572864 →
      fld (c.p 1) 22 2 ≤ 1572864 →
      Completes (.tmQueueConfig c) c s [] [.pk] [regAddr .tmIntStatus [c.n 0 / 512], regAddr .intSignalCnt []] fun t =>
        t.tmq (c.n 0) = { s.tmq (c.n 0) with cfg := ins (c.p 1) 1 0 0 } ∧ (∀ k, k ≠ c.n 0 → t.tmq k = s.tmq k)
        ∧ t.rg .tmIntStatus [c.n 0 / 512] = s.rg .tmIntStatus [c.n 0 / 512] ||| 4)
  ∧ (Taken 0x0603 tmPortDomain c s → c.n 0 < 512 → fld (c.p 1) 62 60 ≤ 4 →
      Completes (.tmPortConfig c) c s [] [.pk] [regAddr .tmIntStatus [tileOf (c.n 0)], regAddr .intSignalCnt []] fun t =>
        let old := (s.tmp (c.n 0)).strict
        let new := fld (c.p 1) 62 60
        t.tmp (c.n 0) = { s.tmp (c.n 0) with cfg := ins (c.p 1) 51 0 0 } ∧ (∀ k, k ≠ c.n 0 → t.tmp k = s.tmp k)
        ∧ (∀ k, t.tmq k = if k / 16 = c.n 0 ∧ 16 - max old new ≤ k % 16 ∧ k % 16 < 16 - min old new
            then { s.tmq k with deficit := 0 } else s.tmq k)
        ∧ t.rg .tmIntStatus [tileOf (c.n 0)] = s.rg .tmIntStatus [tileOf (c.n 0)] ||| 4)
  ∧ (let i := fld (c.p 0) 62 0;
      let z : Shaper := { en := c.n 1 == 1, cir := c.n 2, cbs := c.n 3, eir := c.n 4, ebs := c.n 5, ctok := if c.n 6 = 0 then c.n 3 * 32768 else 0, etok := if c.n 6 = 0 then c.n 5 * 32768 else 0, last := s.mast.tick + 1 };
      Taken 0x0604 shaperDomain c s → c.n 1 < 2 → c.n 2 < 33554432 → c.n 3 < 16777216 → c.n 4 < 33554432 → c.n 5 < 16777216 → c.n 6 < 2 →
      (bitAt (c.p 0) 63 = true → i < 512 →
        Completes (.shaperSet c) c s [] [.pk] [regAddr .tmIntStatus [tileOf i], regAddr .intSignalCnt []] fun t =>
          t.tmp i = { s.tmp i with shaper := (s.tmp i).sh s.mast.tick, shaperNext := some z } ∧ (∀ k, k ≠ i → t.tmp k = s.tmp k))
      ∧ (bitAt (c.p 0) 63 = false → i < 8192 →
        Completes (.shaperSet c) c s [] [.pk] [regAddr .tmIntStatus [i / 512], regAddr .intSignalCnt []] fun t =>
          t.tmq i = { s.tmq i with shaper := (s.tmq i).sh s.mast.tick, shaperNext := some z } ∧ (∀ k, k ≠ i → t.tmq k = s.tmq k)))
  ∧ (let i := fld (c.p 0) 12 0;
      let q := s.tmq i;
      Taken 0x0605 counterDomain c s → fld (c.p 0) 62 13 = 0 →
      Completes (.tmCounterRead c) c s ([q.pulled, q.bytes, q.marked, q.discarded].map (BitVec.ofNat 64)) [.pk] [] fun t =>
        t.tmq i = (if bitAt (c.p 0) 63 then { q with pulled := 0, bytes := 0, marked := 0, discarded := 0 } else q)
        ∧ ∀ k, k ≠ i → t.tmq k = s.tmq k)
  ∧ (∀ p, p < 512 → Live s → s.awake (domTile (tileOf p)) = true →
      ¬((tget {} s.pk.turns (p / 8)).tick = s.mast.tick ∧ 4 ≤ (tget {} s.pk.turns (p / 8)).count) →
      (s.choice p = some .waits →
        Goes (.queueSelection p) s [.regs] fun t => t.regs = (s.bump .tmPortCnt [tileOf p, p % 32] 23 0).regs)
      ∧ (∀ k i r, s.choice p = some (.pull k) → s.turnOf p = true → s.head p k.queue = some (i, r) → s.poisoned p k.queue = false →
        Goes (.queueSelection p) s [.pk, .regs, .power] fun t =>
          let key := 16 * p + k.queue
          let n : Int := r.len + (s.tmp p).lenAdj
          (∃ m, t.pk.pulls = s.pk.pulls ++ [{ slice := i, ref := { r with mark := m }, discard := false }])
          ∧ tget [] (t.slice i).voq key = (tget [] (s.slice i).voq key).drop 1 ∧ (t.slice i).stored = (s.slice i).stored
          ∧ (t.tl (tileOf p)).credit = (s.tl (tileOf p)).credit + r.cells ∧ (t.tmp p).out = (s.tmp p).out + r.cells
          ∧ (t.tmq key).pulled = satAdd 64 (s.tmq key).pulled 1 ∧ (t.tmq key).bytes = satAdd 64 (s.tmq key).bytes r.len
          ∧ (t.tmq key).shaper = ((s.tmq key).sh s.mast.tick).charge s.mast.tick k.committed n
          ∧ (t.tmp p).shaper = ((s.tmp p).sh s.mast.tick).charge s.mast.tick (((s.tmp p).sh s.mast.tick).state s.mast.tick == 0) n
          ∧ (tget {} t.pk.turns (p / 8)).last = p % 8 ∧ (tget {} t.pk.turns (p / 8)).tick = s.mast.tick
          ∧ t.rgf .tmPortCnt [tileOf p, p % 32] 63 24 = satAdd 40 (s.rgf .tmPortCnt [tileOf p, p % 32] 63 24) 1)
      ∧ (∀ k i r, s.choice p = some (.pull k) → s.turnOf p = true → s.head p k.queue = some (i, r) → s.poisoned p k.queue = true → i < 16 →
        Goes (.queueSelection p) s [.mast, .pk, .out, .flt, .regs, .power] fun t =>
          t.pk.pulls = s.pk.pulls ++ [{ slice := i, ref := r, discard := true }]
          ∧ tget [] (t.slice i).voq (16 * p + k.queue) = (tget [] (s.slice i).voq (16 * p + k.queue)).drop 1
          ∧ (t.tmq (16 * p + k.queue)).discarded = satAdd 64 (s.tmq (16 * p + k.queue)).discarded 1
          ∧ t.rgf .bufDropCnt [i, 6] 47 0 = satAdd 48 (s.rgf .bufDropCnt [i, 6] 47 0) 1 ∧ bitAt (t.rg .bufIntStatus [i]) 2 = true)
      ∧ (∀ q down i r, (s.choice p = some (.drain q) ∧ down = true ∨ ∃ k, s.choice p = some (.doze k) ∧ k.queue = q ∧ down = false) →
          s.turnOf p = true → s.head p q = some (i, r) →
        Goes (.queueSelection p) s [.mast, .pk, .out, .flt, .regs, .power] fun t =>
          t.pk.pulls = s.pk.pulls ++ [{ slice := i, ref := r, discard := true }]
          ∧ tget [] (t.slice i).voq (16 * p + q) = (tget [] (s.slice i).voq (16 * p + q)).drop 1
          ∧ (t.tmq (16 * p + q)).discarded = satAdd 64 (s.tmq (16 * p + q)).discarded 1
          ∧ t.rgf .tmDropCnt [tileOf p, p % 32] 63 32 = satAdd 32 (s.rgf .tmDropCnt [tileOf p, p % 32] 63 32) (b2n down)
          ∧ t.rgf .tmDropCnt [tileOf p, p % 32] 31 0 = satAdd 32 (s.rgf .tmDropCnt [tileOf p, p % 32] 31 0) (b2n (!down))
          ∧ bitAt (t.rg .tmIntStatus [tileOf p]) (if down then 0 else 1) = true))
  ∧ (∀ p path, p < 512 → Live s → Clean s →
      (ownerPath (s.txtsOwner p) path = true → ∀ e rest, (s.txts p).entries = e :: rest →
        Goes (.txtsWord1Read p path) s [.mast, .out] fun t =>
          t.out.readData = s.out.readData ++ [e.2] ∧ t.txts p = { head := ((s.txts p).head + 1) % 16, entries := rest }
          ∧ ∀ k, k ≠ p → t.txts k = s.txts k)
      ∧ (ownerPath (s.txtsOwner p) path = true → (s.txts p).entries = [] →
        Goes (.txtsWord1Read p path) s [.out] fun t => t.out.readData = s.out.readData ++ [0])
      ∧ (ownerPath (s.txtsOwner p) path = false →
        Goes (.txtsWord1Read p path) s [.out, .regs] fun t =>
          t.out.readData = s.out.readData ++ [0] ∧ t.regs = (s.bump .tsCounters [p] 31 0).regs))

/-- TELEM_CONFIG writes a class's configuration and, where that changes it, clears its sampling counter in every Tile (R279). TELEM_HIST_READ
returns a latency histogram with LAT_MAX, or a window histogram, clears it where asked, and ends HIST_RESET (R277). The postcards
of one collector in a Tile's FIFO, 16 or fewer after TEL_FLUSH, leave it as one event for the Tile's cluster (R281). -/
def Obligations.Telemetry : Prop := ∀ (c : Cmd) (s : State),
  let tel : Cmd → State → Option Nat := fun _ _ => some domTelemetry
  (Taken 0x0900 tel c s → c.n 0 < 8 → fld (c.p 1) 63 62 ≠ 3 →
      Completes (.telemConfig c) c s [] [.pk] [regAddr .telClassCfg [c.n 0]] fun t =>
        t.rg .telClassCfg [c.n 0] = ins (c.p 1) 42 0 0
        ∧ ∀ k < 16, t.tl k = if s.rg .telClassCfg [c.n 0] = ins (c.p 1) 42 0 0 then s.tl k
          else { s.tl k with samples := (s.tl k).samples.set (c.n 0) 0 })
  ∧ (let k := 8 * fld (c.p 0) 7 4 + fld (c.p 0) 2 0;
      let tm := s.pk.telem;
      Taken 0x0901 tel c s → Clean s → fld (c.p 0) 61 8 = 0 → fld (c.p 0) 3 3 = 0 →
      (bitAt (c.p 0) 62 = false →
        Completes (.telemHistRead c) c s
          (((List.range 22).map (tget 0 (tget [] tm.lat k)) ++ [tget 0 (tget [] tm.lat k) 255]).map (BitVec.ofNat 64)) [.pk] [] fun t =>
            t.pk = { s.pk with telem := { tm with
              histReset := false, lat := if bitAt (c.p 0) 63 then tset [] tm.lat k [] else tm.lat } })
      ∧ (bitAt (c.p 0) 62 = true →
        Completes (.telemHistRead c) c s (((List.range 64).map (tget 0 (tget [] tm.win k))).map (BitVec.ofNat 64)) [.pk] [] fun t =>
            t.pk = { s.pk with telem := { tm with
              histReset := false, win := if bitAt (c.p 0) 63 then tset [] tm.win k [] else tm.win } }))
  ∧ (∀ n h, n < 16 → Live s → Clean s → s.awake domTelemetry = true → HookTakes (n / 4) 0x30 s →
      let of_ := fun (k : Nat) => ((s.tl n).postcards.filter fun c => c.collector == k).take 16
      let run := of_ h.collector
      (s.tl n).postcards.find? (fun h => decide ((of_ h.collector).length = 16)
        || decide (h.tick + s.rgf .telFlush [] 9 0 * usTicks ≤ s.mast.tick)) = some h →
      Goes (.postcardFlush n) s [.pk, .hk, .power] fun t =>
        t.tl n = { s.tl n with postcards := run.foldl (fun l c => l.erase c) (s.tl n).postcards } ∧ (∀ k, k ≠ n → t.tl k = s.tl k)
        ∧ Posted (n / 4) {
            w0 := evWord0 0x30 4 (run.flatMap (·.bytes)).length (n + 16 * h.collector)
            pkt := run.flatMap (·.bytes) } s t)

/-- SKEIN_CREATE places a new Skein: its footprint at the lowest free region that holds it, its home on the engine in service with the fewest
homed Skeins, its Strands in the table, its weight pages empty (R198, R199); a Strand entry outside Table 9-5 or R226 is refused with its word. SKEIN_MODIFY changes words 1 and 2 and EPOCH. SKEIN_DESTROY frees
a Skein that has no instance, and stops one that has. SKEIN_MOVE re-places a Skein in a cluster, at once or after its last instance (R199).
SKEIN_READ returns descriptor and counters, and clears the counters where asked. -/
def Obligations.SkeinCommands : Prop := ∀ (c : Cmd) (s : State),
  let k := fld (c.p 0) 15 0
  let x := s.skein k
  let others := fun (t : State) => ∀ j, j ≠ k → t.skein j = s.skein j
  let home := fun (q : Nat) => (s.setSkein k {}).newHome q
  (∀ base, let y := skeinOf c
    let d := s.timeline y.tlNo
    let es := (c.params.drop 5).take y.numStrands
    let n := footprintOf y.numPrb y.numStrands y.groups
    let w0 := ins (ins y.w0 59 58 y.cluster) 57 54 (home y.cluster)
    Taken 0x0700 createDomain c s → x.valid = false → descBad d y = none →
    (∀ e ∈ es, strandBad e = false) → s.fit y.cluster n = some base → indexClash es = none →
    bindClash s es = none → d.configured = true →
    Completes (.skeinCreate c) c s [w0, mk 63 48 y.epoch ||| mk 47 26 base ||| mk 25 9 n] [.sk, .flt] [] fun t =>
      t.skein k = { y with w0 := w0, qbase := base, footprint := n, since := d.symAt s.now16 + 1 } ∧ others t
      ∧ ∀ a, tget 0 t.sk.strands a = if y.strandBase ≤ a ∧ a < y.strandBase + es.length then es.getD (a - y.strandBase) 0
        else tget 0 s.sk.strands a)
  ∧ (∀ i, Taken 0x0700 createDomain c s → x.valid = false → descBad (s.timeline (skeinOf c).tlNo) (skeinOf c) = none →
      (let es := (c.params.drop 5).take (skeinOf c).numStrands
       (List.range es.length).find? (fun i => strandBad (es.getD i 0)) = some i) →
      BodyRefused (.skeinCreate c) c s .skeinInvalid (5 + i))
  ∧ (let y : Skein := { x with w1 := c.p 1, w2 := c.p 2, epoch := fld (c.p 3) 63 48 };
      Taken 0x0701 skeinDomain c s → x.valid = true → x.destroying = false → descBad (s.timeline x.tlNo) y = none →
      Completes (.skeinModify c) c s [] [.sk, .flt] [] fun t => t.skein k = y ∧ others t)
  ∧ (Taken 0x0702 skeinDomain c s → x.valid = true → x.destroying = false → x.move = none → x.insts = [] →
      Completes (.skeinDestroy c) c s [] [.sk, .flt] [] fun t =>
        t.skein k = {} ∧ others t ∧ ∀ a, tget 0 t.sk.strands a =
          if x.strandBase ≤ a ∧ a < x.strandBase + x.numStrands then 0 else tget 0 s.sk.strands a)
  ∧ (Taken 0x0702 skeinDomain c s → x.valid = true → x.destroying = false → x.insts ≠ [] →
      Completes (.skeinDestroy c) c s [] [.sk] [] fun t => t.skein k = { x with destroying := true } ∧ others t)
  ∧ (∀ base, let q := fld (c.p 0) 17 16
      Taken 0x0703 moveDomain c s → x.valid = true → x.destroying = false → s.fit q x.footprint = some base →
      (x.insts = [] → (∀ o ∈ s.cmd.opened, ¬(o.kind = 0x0703 ∧ o.key = k)) →
        let w0 := ins (ins x.w0 59 58 q) 57 54 (home q)
        Completes (.skeinMove c) c s [w0] [.sk, .flt] [] fun t =>
          t.skein k = { x with
            w0 := w0, qbase := base, page0 := none, page1 := none, strandSt := [], move := none, rehomeAfter := none, closed := [], floor16 := none
            since := (s.timeline x.tlNo).symAt s.now16 + 1 } ∧ others t ∧ t.sk.strands = s.sk.strands)
      ∧ (x.insts ≠ [] →
        Goes (.skeinMove c) s [.sk, .cmd, .regs] fun t =>
          t.skein k = { x with destroying := true, move := some (q, base) } ∧ others t
          ∧ t.cmd = { (noteIntake c s).cmd with opened := s.cmd.opened ++ [{ cmd := c, kind := 0x0703, key := k }] }
          ∧ RegsBut [regAddr .cmdSrcCnt [srcCode c.src]] s t))
  ∧ (Taken 0x0704 noDomain c s → Clean s →
      Completes (.skeinRead c) c s
        ([x.w0, x.w1, x.w2, if x.valid then mk 63 48 x.epoch ||| mk 47 26 x.qbase ||| mk 25 9 x.footprint else 0, BitVec.ofNat 64 x.seq]
          ++ ((List.range 8).map fun i => BitVec.ofNat 64 (tget 0 x.counts (i + 2)))
          ++ [BitVec.ofNat 64 x.weightNone, BitVec.ofNat 64 x.inexact, BitVec.ofNat 64 x.sat]) [.sk] [] fun t =>
        others t ∧ t.skein k = if bitAt (c.p 0) 63 then { x with counts := [], weightNone := 0, inexact := 0, sat := 0 } else x)

/-- The head of a Tile's feed link goes to the clusters that its binding names, a capture to the Tile's own, and is counted as NO_BIND where no
Strand is bound (R200, R95); a full cluster's packet is dropped after 2 µs (R254). A good section of an ACTIVE Strand is admitted as a STITCH event
and moves the Strand's NEXT_PRB (R202, R203). A weight message writes its weights into the page of its slot (R205). The occurrence that falls
due next begins its close at CLOSE_LIMIT, with every earlier one that is still open, and one that no section opened is closed empty (R207,
R210, R219). The close of an instance emits its packets, frees it and counts it (R208, R211, R241). A failed engine's Skeins get
homes in service (R219). -/
def Obligations.SkeinWork : Prop := ∀ (s : State), Live s →
  (∀ n k rest, n < 16 → (s.tl n).feed = k :: rest →
    let p := parse (s.parseCfgOf n k.inPort) k.bytes
    let moved := fun (i : Nat) (qs : List Nat) (t : State) => t.tl n = { s.tl n with feed := rest } ∧ (∀ j, j ≠ n → t.tl j = s.tl j)
      ∧ ∀ q, (t.cluster q).feed = if q ∈ qs then (s.cluster q).feed ++ [feedItem i k s.mast.tick] else (s.cluster q).feed
    (k.capture = true → Goes (.skeinFeedPacket n) s [.pk, .hk, .power] (moved 2 [n / 4]))
    ∧ (k.capture = false → p.dravua = true → p.dravuaType = 0x11 → (s.skein (bytesNat k.bytes (p.msgOff + 6) 2)).valid = true →
        Goes (.skeinFeedPacket n) s [.pk, .hk, .power] (moved 1 [(s.skein (bytesNat k.bytes (p.msgOff + 6) 2)).cluster]))
    ∧ (∀ key, k.capture = false → ¬(p.dravua = true ∧ p.dravuaType = 0x11) → feedKey p k.inPort k.bytes = some key →
        s.bound key ≠ [] →
        Goes (.skeinFeedPacket n) s [.pk, .hk, .power] (moved 0 ((s.bound key).map fun x => (s.skein x.1).cluster)))
    ∧ (k.capture = false → ¬(p.dravua = true ∧ p.dravuaType = 0x11) → (∀ key, feedKey p k.inPort k.bytes = some key → s.bound key = []) →
        Goes (.skeinFeedPacket n) s [.pk, .regs] fun t => moved 0 [] t ∧ t.regs = (s.bump .skDropCnt [0, 1] 47 0).regs))
  ∧ (∀ q f rest, q < 4 → (s.cluster q).feed = f :: rest → 8192 ≤ (s.cluster q).queue.length → f.since + 2 * usTicks ≤ s.mast.tick →
      Goes (.feedStallDrop q) s [.hk, .out, .regs] fun t =>
        t.cluster q = { s.cluster q with feed := rest } ∧ (∀ j, j ≠ q → t.cluster j = s.cluster j)
        ∧ t.rgf .hkCnt0 [q] 31 16 = satAdd 16 (s.rgf .hkCnt0 [q] 31 16) 1 ∧ bitAt (t.rg .hkIntStatus [q]) 5 = true)
  ∧ (∀ q f rest, q < 4 → (s.cluster q).feed = f :: rest → f.kind ≠ 1 → s.awake (domCluster q) = true → s.queueFull q = true →
      Goes (.sectionAdmit q) s [] fun _ => True)
  ∧ (∀ q f rest k slot e sec n i, q < 4 → Clean s → (s.cluster q).feed = f :: rest → f.kind = 0 → f.left = none → s.awake (domCluster q) = true →
      s.enginesOk q ≠ 0 → packetSections q f s = [(k, slot, e, [sec])] → HookTakes q 0 s →
      let x := s.skein k
      let d := s.timeline x.tlNo
      let p0 := max sec.start x.startPrb
      let p1 := min (sec.start + sec.nprb) (x.startPrb + x.numPrb)
      let rel := p0 - x.startPrb
      let own := tget {} i.strands slot
      let need := needBits e sec
      sec.typeOk = true → sec.whole = true → sec.comp = stComp e → p0 < p1 → d.mode ≠ 2 →
      namedSymbol d s.now16 sec.frame sec.sub sec.slot sec.sym = some n → x.instOf n = some i → isOcc d i.w1 n = true →
      i.closing = false → x.isClosed d n = false → i.fault = false → (x.strandState slot).st = 0 → (x.strandState slot).from_ = none →
      own.next ≤ rel → (∀ y ∈ i.strands, y.1 ≠ slot → y.2.bits &&& need = 0) →
      ((∃ y ∈ i.strands, y.1 = slot) → stPartial e = true → own.bits = need) →
      Goes (.sectionAdmit q) s [.hk, .sk, .power] fun t =>
        (t.cluster q).feed = rest ∧ Posted q (stitchEvent k slot i sec p0 (p1 - p0) (recBytes sec.comp) x.startPrb s.sk.nextOrder f) s t
        ∧ (t.skein k).instOf n = some { i with
            strands := tset {} i.strands slot {
              next := p1 - x.startPrb, gap := own.gap || decide (own.next < rel), bits := need
              incomplete := own.incomplete ||| sec.incomplete }
            outstanding := i.outstanding ++ [{ order := s.sk.nextOrder, slot := slot, first := rel, nprb := p1 - p0 }]
            trace := i.trace ++ [(slot, rel, p1 - p0)]
            carried := i.carried ||| (sec.flags &&& 0xDB) })
  ∧ (∀ q f rest, q < 4 → Clean s → (s.cluster q).feed = f :: rest → f.kind = 2 → s.awake (domCluster q) = true → HookTakes q 6 s →
      Goes (.sectionAdmit q) s [.hk, .power] fun t =>
        (t.cluster q).feed = rest ∧ Posted q { w0 := evWord0 6 0 f.bytes.length 0, w2 := f.w2, w3 := f.w3, pkt := f.bytes } s t)
  ∧ (∀ q f rest sym page claim, q < 4 → (s.cluster q).feed = f :: rest → f.kind = 1 → s.awake (domCluster q) = true →
      let o := (parse (s.parseCfgOf (tileOf f.inPort) f.inPort) f.bytes).msgOff
      let b := f.bytes
      let k := bytesNat b (o + 6) 2
      let x := s.skein k
      let d := s.timeline x.tlNo
      let first := byteAt b (o + 13)
      let n := byteAt b (o + 14) + 1
      let fg := bytesNat b (o + 16) 2
      let ng := bytesNat b (o + 18) 2
      x.valid = true → bytesNat b (o + 8) 2 = x.epoch →
      namedSymbol d s.now16 (byteAt b (o + 10)) (byteAt b (o + 11) % 16) (byteAt b (o + 12) % 64) 0 = some sym →
      first + n ≤ x.numStrands → 0 < ng → fg + ng ≤ x.groups → o + 20 + 5 * n * ng ≤ b.length →
      (∀ i ∈ x.insts, i.ix < 2 → i.closing = false → i.occ / d.symsPerSlot < sym / d.symsPerSlot) →
      x.pageToWrite (sym / d.symsPerSlot) = some (page, claim) →
      Goes (.weightMessage q) s [.hk, .sk, .host, .cmd, .out, .flt, .regs, .power] fun t =>
        (t.cluster q).feed = rest
        ∧ t.skein k = (if page = 0 then { x with page0 := some (sym / d.symsPerSlot) } else { x with page1 := some (sym / d.symsPerSlot) })
        ∧ ∀ a < n, ∀ g < ng, pageField page (t.qword x.cluster (x.weightAddr (first + a) (fg + g)))
            = bytesNat b (o + 20 + 5 * (a * ng + g)) 5 % 2 ^ 36)
  ∧ (∀ k n, k < 65536 → let x := s.skein k
      let due := s.closeDue x n
      x.valid = true → s.nextToClose x = some n → due ≤ s.mast.tick →
      Goes (.closeBackstop k) s [.hk, .sk, .host, .cmd, .out, .flt, .regs, .power] fun t =>
        (∀ j, j ≠ k → t.skein j = s.skein j)
        ∧ (∀ m ∈ s.unclosedBefore x n, (x.instOf m).all (fun y => !y.closing) = true →
            (∃ c ∈ (t.skein k).closed, c.occ = m ∧ c.tick = due.toNat) ∨ ∃ y, (t.skein k).instOf m = some y ∧ y.deferred.isSome)
        ∧ (∀ i, x.instOf n = some i → i.closing = false →
            let how := i.deferred.getD (if closeSrc i.w1 = 0 then 1 else 2, closeSrc i.w1 == 0)
            (∃ l, (t.skein k).closed = { occ := n, tick := due.toNat, w1 := i.w1, opened := decide (i.ix < 2) } :: l)
            ∧ ∃ j, (t.skein k).instOf n = some j ∧ j.closing = true ∧ j.closeTick = due.toNat ∧ j.closeSrc = how.1 ∧ j.noEvent = how.2
              ∧ j.disc = false)
        ∧ (x.instOf n = none →
            (∃ l, (t.skein k).closed = { occ := n, tick := due.toNat, w1 := x.w1, opened := false } :: l)
            ∧ (if emitEmpty x.w1 = true ∧ s.enginesOk x.cluster ≠ 0 then
                ∃ j, (t.skein k).instOf n = some j ∧ j.closing = true ∧ j.ix = 2 ∧ j.closeTick = due.toNat
              else (t.skein k).instOf n = none)))
  ∧ (∀ k i, k < 65536 → Clean s → let x := s.skein k
      let size := if outSplit i.w2 = 0 then x.numPrb else outSplit i.w2
      x.firstClosing = some i → s.closeReady k i = true → x.destroying = false → x.move = none →
      (i.contrib ≠ 0 ∨ emitEmpty i.w1 = true) →
      Goes (.instanceClose k) s [.pk, .hk, .sk, .host, .cmd, .out, .flt, .regs, .power] fun t =>
        (t.skein k).insts = x.insts.filter (fun j => j.occ != i.occ) ∧ (t.skein k).seq = (x.seq + 1) % 2 ^ 32
        ∧ (t.skein k).inexact = satAdd 48 x.inexact (s.inexactPrbs x i)
        ∧ t.rgf .skCloseCnt [x.cluster] 63 32 = satAdd 32 (s.rgf .skCloseCnt [x.cluster] 63 32) 1
        ∧ ∃ l, (t.tl (tileOf (outPort i.w2))).inject = (s.tl (tileOf (outPort i.w2))).inject ++ l
          ∧ l.length = (x.numPrb + size - 1) / size + b2n (orderTrace i.w1)
          ∧ ∀ y ∈ l, y.2.eport = outPort i.w2 ∧ y.2.queue = outQueue i.w2 ∧ y.2.flow = outFlow i.w2)
  ∧ (∀ q k0 x0, q < 4 → s.enginesOk q ≠ 0 →
      let due := fun (x : Skein) => x.valid && x.cluster == q && match x.rehomeAfter with
        | some (a, _, _) => decide (s.boundaryAfter x.tlNo a ≤ s.mast.tick)
        | none => false
      s.sk.descs.find? (fun x => due x.2) = some (k0, x0) →
      Goes (.skeinRehome q) s [.hk, .sk, .host, .cmd, .out, .flt, .regs, .power] fun t =>
        (t.skein k0).rehomeAfter = none ∧ (s.enginesOk q).testBit (t.skein k0).home = true ∧ bitAt (t.rg .skIntStatus [q]) 0 = true
        ∧ ∀ k, k ∉ ((s.sk.descs.filter fun x => due x.2 && x.2.home == x0.home).map (·.1)) → t.skein k = s.skein k)

/-- What each arithmetic, field, move and time microword of an engine leaves: the result in D (W0 ignores it, R243), the flags that Table 11-4
gives it, and the next microaddress; no other register, flag, engine or part of the cluster changes. C after a difference, and results that the
table names no operation for, are free values: the statement holds for every one. -/
def Obligations.MicroArithmetic : Prop := ∀ (q e w : Nat) (s : State), Issues q e w s →
  let n := s.eng q e
  let d := mwD w
  let a := (n.reg (mwA w)).setWidth 64
  let b := (n.reg (mwB w)).setWidth 64
  let o := (n.reg d).setWidth 64
  let imm : W := BitVec.ofInt 64 (sgn 13 (mwImm w))
  let put := fun (v : W) => { n.setReg d (v.setWidth 72) with pc := n.pc + 1 }
  let zn := fun (v : W) => { put v with z := v == 0, n := v.msb }
  let sum := fun (x y : W) => { zn (x + y) with c := decide (2 ^ 64 ≤ x.toNat + y.toNat), v := x.msb == y.msb && (x + y).msb != x.msb }
  let overSub := a.msb != b.msb && (a - b).msb != a.msb
  let shift := fun (k i : Nat) => match k with | 0 => a <<< i | 1 => a >>> i | 2 => a.sshiftRight i | _ => a.rotateRight i
  let gives := fun (i : Instr) (m : Engine) => Goes i s [.hk] (EngineIs q e m s)
  let free := fun (i : Instr) (m : W → W → Engine) => ∃ x y, Goes i s [.hk, .freeCtr] (EngineIs q e (m x y) s)
  (mwOp w = 0x00 → gives (.microNop q e) { n with pc := n.pc + 1 })
  ∧ (mwOp w = 0x01 → gives (.microAdd q e) (sum a b))
  ∧ (mwOp w = 0x02 → free (.microSub q e) fun x _ => { zn (a - b) with c := x.getLsbD 0, v := overSub })
  ∧ (mwOp w = 0x03 → gives (.microAnd q e) (zn (a &&& b)))
  ∧ (mwOp w = 0x04 → gives (.microOr q e) (zn (a ||| b)))
  ∧ (mwOp w = 0x05 → gives (.microXor q e) (zn (a ^^^ b)))
  ∧ (mwOp w = 0x06 → mwFn w < 4 → gives (.microShift q e) (zn (shift (mwFn w) (fld b 5 0))))
  ∧ (mwOp w = 0x06 → 4 ≤ mwFn w → free (.microShift q e) fun x _ => zn x)
  ∧ (mwOp w = 0x07 → gives (.microShifti q e) (zn (shift (mwKind w) (mwAmt w))))
  ∧ (mwOp w = 0x08 → gives (.microAddi q e) (sum o imm))
  ∧ (mwOp w = 0x09 → gives (.microMovi q e) (put imm))
  ∧ (mwOp w = 0x0A → gives (.microCati q e) (put (o <<< 13 ||| BitVec.ofNat 64 (mwImm w))))
  ∧ (mwOp w = 0x0B → gives (.microMul q e) (zn (BitVec.ofInt 64 (sgn 32 (fld a 31 0) * sgn 32 (fld b 31 0)))))
  ∧ (mwOp w = 0x0C → free (.microCmp q e) fun x _ =>
      { n with pc := n.pc + 1, z := a - b == 0, n := (a - b).msb, c := x.getLsbD 0, v := overSub })
  ∧ (mwOp w = 0x0D →
      let x := (a >>> fld b 5 0) &&& BitVec.ofNat 64 (2 ^ (fld b 11 6 + 1) - 1)
      gives (.microExt q e) { put x with z := x == 0 })
  ∧ (mwOp w = 0x0E →
      let m : W := BitVec.ofNat 64 (2 ^ (fld b 11 6 + 1) - 1)
      gives (.microIns q e) (put ((o &&& ~~~(m <<< fld b 5 0)) ||| ((a &&& m) <<< fld b 5 0))))
  ∧ (mwOp w = 0x0F → gives (.microMov q e) { n.setReg d (n.reg (mwA w)) with pc := n.pc + 1 })
  ∧ (∀ f : BitVec 36 → BitVec 36 → BitVec 36, mwOp w = 0x10 → (mwFn w = 0 ∧ f = (· + ·) ∨ mwFn w = 1 ∧ f = (· - ·)) →
      let x := n.reg (mwA w)
      let y := n.reg (mwB w)
      gives (.microPair q e) { n.setReg d (f (x.extractLsb' 36 36) (y.extractLsb' 36 36) ++ f (x.extractLsb' 0 36) (y.extractLsb' 0 36)) with
        pc := n.pc + 1 })
  ∧ (mwOp w = 0x10 → 2 ≤ mwFn w → free (.microPair q e) fun x y =>
      { n.setReg d (BitVec.ofNat 72 (x.toNat + 2 ^ 64 * y.toNat)) with pc := n.pc + 1 })
  ∧ (let z := (s.time.replicas.getD (16 + q) {}).t;
      mwOp w = 0x22 →
      (mwFn w = 0 → gives (.microTime q e) (put (mk 63 32 z.sec ||| mk 31 0 z.ns)))
      ∧ (mwFn w = 1 → gives (.microTime q e)
          (put (mk 63 48 (z.sec / 2 ^ 32) ||| mk 47 32 z.frac ||| mk 3 2 s.mast.tsEpoch ||| mk 1 1 (b2n s.holdoverMark))))
      ∧ (2 ≤ mwFn w → free (.microTime q e) fun x _ => put x))

/-- LD puts a word of its space into D and ST stores one (R244), a BLOCK word through the registers; branches, JMP and JR go to a target up to
49,151, CALL pushes and RET pops the link stack (R246). WAIT starts a wait that stops the routine's clocks (R257), SIGNAL sets a signal, POST enters
dispatch queues, END ends the routine and counts it. TRAP takes the SOFT trap, a word with an undefined operation the ILLEGAL trap (R258), and
RETT restores what the frame holds, and the link stack (R259). -/
def Obligations.MicroControl : Prop := ∀ (q e w : Nat) (s : State), Issues q e w s →
  let n := s.eng q e
  let a := (n.reg (mwA w)).setWidth 64
  let addr := fld72 (n.reg (mwA w)) 31 0 + mwOff w
  let sp := mwSpace w
  let o := (n.reg (mwD w)).setWidth 64
  let next := { n with pc := n.pc + 1 }
  let loads := fun (v : W72) => { n.setReg (mwD w) v with pc := n.pc + 1 }
  let v := n.reg (mwD w)
  let target : Int := n.pc + 1 + sgn 13 (mwImm w)
  let gives := fun (i : Instr) (m : Engine) => Goes i s [.hk] (EngineIs q e m s)
  let branches := fun (i : Instr) (c : Bool) => 0 ≤ target → target ≤ 49151 →
    gives i (if c then { n with pc := target.toNat } else next)
  (mwOp w = 0x11 → sp = 0 → addr < 2048 → gives (.microLd q e) (loads (n.local_ addr)))
  ∧ (mwOp w = 0x11 → sp = 1 → addr < 65536 → gives (.microLd q e) (loads (tget 0 (s.cluster q).mem addr)))
  ∧ (mwOp w = 0x11 → sp = 2 → addr < 3145728 → s.hidden q addr = false → gives (.microLd q e) (loads (s.qword q addr)))
  ∧ (mwOp w = 0x11 → sp = 2 → addr < 3145728 → s.hidden q addr = true →
      ∃ x, Goes (.microLd q e) s [.hk, .freeCtr] (EngineIs q e (loads x) s))
  ∧ (mwOp w = 0x11 → sp = 3 → addr < 786432 → gives (.microLd q e) (loads ((s.descWord addr).setWidth 72)))
  ∧ (mwOp w = 0x11 → sp = 4 → addr < 2052 → ∃ x r, n.routine = some r ∧
      Goes (.microLd q e) s [.hk, .freeCtr] (EngineIs q e (loads ((r.event.word addr x).setWidth 72)) s))
  ∧ (mwOp w = 0x11 → sp = 5 → addr < 4096 → gives (.microLd q e) (loads (tget 0 n.txbuf addr)))
  ∧ (∀ x, mwOp w = 0x11 → sp = 6 → s.spaceOk q e 6 addr false = true → s.blockLater q addr = false →
      (pathRead (.hook q) (8 * addr) .whole s).1 = some x →
      ∃ t, exec (.microLd q e) s = .next t ∧ (t.eng q e).reg (mwD w) = (if mwD w = 0 then 0 else x.setWidth 72)
        ∧ (t.eng q e).pc = n.pc + 1 ∧ t.regs = (pathRead (.hook q) (8 * addr) .whole s).2.regs)
  ∧ (mwOp w = 0x12 → sp = 0 → addr < 2048 → gives (.microSt q e) { next with scratch := tset none n.scratch addr (some v) })
  ∧ (mwOp w = 0x12 → sp = 1 → addr < 65536 → Goes (.microSt q e) s [.hk] fun t =>
      t.eng q e = next ∧ ∀ k, tget 0 (t.cluster q).mem k = if k = addr then v else tget 0 (s.cluster q).mem k)
  ∧ (mwOp w = 0x12 → sp = 2 → addr < 3145728 → Goes (.microSt q e) s [.hk, .sk] fun t =>
      EngineIs q e next s t ∧ t.sk.descs = s.sk.descs ∧ ∀ k < 3145728, t.qword q k = if k = addr then v else s.qword q k)
  ∧ (mwOp w = 0x12 → sp = 5 → addr < 4096 → gives (.microSt q e) { next with txbuf := tset 0 n.txbuf addr v })
  ∧ (mwOp w = 0x12 → sp = 6 → s.spaceOk q e 6 addr true = true → s.blockLater q addr = false →
      ∃ t, exec (.microSt q e) s = .next t ∧ t.regs = (pathWrite (.hook q) (8 * addr) .whole (v.setWidth 64) s).regs)
  ∧ (mwOp w = 0x14 → branches (.microBz q e) (o == 0))
  ∧ (mwOp w = 0x15 → branches (.microBnz q e) (o != 0))
  ∧ (mwOp w = 0x16 → branches (.microBneg q e) o.msb)
  ∧ (mwOp w = 0x17 → mwD w < 10 → branches (.microBflag q e) (flagCond n (mwD w)))
  ∧ (mwOp w = 0x18 → mwTarget w ≤ 49151 → gives (.microJmp q e) { n with pc := mwTarget w })
  ∧ (mwOp w = 0x19 → n.links.length < 8 → mwTarget w ≤ 49151 →
      gives (.microCall q e) { n with pc := mwTarget w, links := (n.pc + 1) :: n.links })
  ∧ (∀ k rest, mwOp w = 0x1A → n.links = k :: rest → k ≤ 49151 → gives (.microRet q e) { n with pc := k, links := rest })
  ∧ (mwOp w = 0x1B → fld a 15 0 ≤ 49151 → gives (.microJr q e) { n with pc := fld a 15 0 })
  ∧ (mwOp w = 0x1C → sp < 6 → n.under = none → (sp = 3 → ownerPath (s.txtsOwner (fld a 8 0)) (.hook q) = true) →
      let x := (n.reg (mwOff w)).setWidth 64
      gives (.microWait q e) { next with
        wait := some {
          cond := sp, arg := a, dreg := mwD w, deadline := if x = (0 : W) then none else some (s.mast.tick + x.toNat)
          watch := if sp = 1 then (s.skein (fld a 63 48)).oldest else none }
        routine := n.routine.map fun r => r.pause s.mast.tick })
  ∧ (mwOp w = 0x1D → let i := fld ((n.reg (mwB w)).setWidth 64) 4 0
      Goes (.microSignal q e) s [.hk] fun t => ∀ y < 16, t.eng q y =
        (let m := if y = e then next else s.eng q y
         { m with signals := if (fld a 15 0).testBit y then m.signals ||| 2 ^ i else m.signals }))
  ∧ (∀ r, mwOp w = 0x1E → n.routine = some r → n.under = none →
      Goes (.microEnd q e) s [.pk, .hk, .sk, .host, .cmd, .out, .flt, .regs, .power, .freeCtr] fun t =>
        let k := n.busy + r.count s.mast.tick
        t.eng q e = { n with routine := none, handler := none, wait := none, swap := false, busy := k % 1024 }
        ∧ t.rgf .hkEngineCnt [q, e] 31 0 = satAdd 32 (s.rgf .hkEngineCnt [q, e] 31 0) (k / 1024)
        ∧ t.rgf .hkEngineCnt [q, e] 63 32 = satAdd 32 (s.rgf .hkEngineCnt [q, e] 63 32) 1)
  ∧ (∀ r, mwOp w = 0x1F → n.routine = some r → n.handler = none →
      Goes (.microTrap q e) s [.hk] (Trapped q e 3 (nfld w 7 0) n.pc r.bank s))
  ∧ (∀ r, opListed (mwOp w) = false → n.routine = some r → n.handler = none →
      Goes (.illegalOp q e) s [.hk] (Trapped q e 1 w n.pc r.bank s))
  ∧ (∀ r, mwOp w = 0x20 → n.routine = some r → n.swap = false → fld72 (n.local_ 1984) 31 31 = r.bank % 2 →
      let f := n.local_ 1984
      let saved := bitsOf 32 (fld72 (n.local_ 1985) 63 33 * 2)
      Goes (.microRett q e) s [.hk] fun t =>
        let m := t.eng q e
        m.pc = (if fld72 f 43 40 < 4 then fld72 f 63 48 + 1 else fld72 f 63 48) ∧ m.handler = none ∧ m.links = r.links
        ∧ m.z = f.getLsbD 44 ∧ m.n = f.getLsbD 45 ∧ m.c = f.getLsbD 46 ∧ m.v = f.getLsbD 47
        ∧ m.wait = (if fld72 f 30 30 = 1 then r.wait else none)
        ∧ (∀ j < saved.length, m.reg (saved.getD j 0) = n.local_ (1986 + j)) ∧ ∀ k, k ∉ saved → m.reg k = n.reg k)
  ∧ (mwOp w = 0x21 → 0x10 ≤ fld a 7 0 → fld a 7 0 ≤ 0xF7 → (∀ k < 4, (fld a 47 44).testBit k = true → HookTakes k (fld a 7 0) s) →
      Goes (.microPost q e) s [.hk, .power] fun t =>
        (t.eng q e).pc = n.pc + 1 ∧ ∀ k < 4,
          if (fld a 47 44).testBit k = true then Posted k { w0 := evWord0 (fld a 7 0) 3 0 (fld a 39 8) } s t
          else (t.cluster k).queue = (s.cluster k).queue)

/-- The first event in the order of dispatch that an idle engine can take leaves the queue and starts its routine there; one whose entry is no
longer valid is dropped and counted (R252, R253). A priority-3 event with PREEMPT takes an engine by the frame of class 5 (R255). A wait that is over
writes its status and the routine's clocks run on (R257). A vector operation that is done writes its status and commits where it says so (R249); a
Stitch has then changed the accumulators and is no longer outstanding (R248). A routine past its BUDGET takes the WATCHDOG trap (R256); a
WATCHDOG handler that hangs, and an error that the hardware detects, fail the engine (R267, R268); its shares move (R268), and an engine that passes
its self-test comes back (R269). -/
def Obligations.EngineEvents : Prop := ∀ (q e : Nat) (s : State), q < 4 → e < 16 → Live s →
  let c := s.cluster q
  let n := s.eng q e
  let ent := fun (v : HkEvent) => c.entry c.active v.opcode
  let takes := fun (v : HkEvent) => c.inTurn v && (!deValid (ent v) || (s.dispatchTo q v (ent v)).isSome)
  let others := fun (t : State) => ∀ x y, ¬(x = q ∧ y = e) → t.eng x y = s.eng x y
  (∀ v, Clean s → s.awake (domCluster q) = true → c.ordered.find? takes = some v → deValid (ent v) = true →
      s.dispatchTo q v (ent v) = some e →
      Goes (.eventDispatch q) s [.hk] fun t =>
        (t.cluster q).queue = c.queue.erase v ∧ others t ∧ t.eng q e = { n with
          links := [], pc := deEntry (ent v), routine := some (routineOf v (ent v) c.active s.mast.tick), under := none, handler := none
          wait := none })
  ∧ (∀ v, Clean s → s.awake (domCluster q) = true → c.ordered.find? takes = some v → deValid (ent v) = false → v.opcode ≠ 0 →
      Goes (.eventDispatch q) s [.hk, .regs] fun t =>
        (t.cluster q).queue = c.queue.erase v ∧ t.regs = (s.bump .hkCnt0 [q] 63 48).regs ∧ ∀ y, t.eng q y = s.eng q y)
  ∧ (∀ v r, let fits := fun (v : HkEvent) => v.prio == 3 && c.inTurn v && deValid (ent v) && dePreempt (ent v)
        && (s.dispatchTo q v (ent v)).isNone && (s.preemptable q (s.targets q v (ent v))).isSome
      Clean s → s.awake (domCluster q) = true → c.ordered.find? fits = some v →
      s.preemptable q (s.targets q v (ent v)) = some e → n.interruptible false = true → n.swap = false → n.routine = some r →
      Goes (.preempt q) s [.hk, .regs] fun t =>
        let m := t.eng q e
        (t.cluster q).queue = c.queue.erase v ∧ others t ∧ m.under = some { (r.pause s.mast.tick) with wait := n.wait, links := n.links }
        ∧ m.routine = some (routineOf v (ent v) c.active s.mast.tick) ∧ m.pc = deEntry (ent v) ∧ m.wait = none ∧ m.regs = n.regs
        ∧ m.local_ 1984 = frameWord n.pc 5 r.event.opcode r.bank n n.wait.isSome false
        ∧ t.rgf .hkCnt1 [q] 31 0 = satAdd 32 (s.rgf .hkCnt1 [q] 31 0) 1)
  ∧ (∀ w v r, Clean s → s.awake (domCluster q) = true → n.wait = some w → s.waitStatus q e w = some v → n.routine = some r →
      Goes (.waitEnd q e) s [.hk] (EngineIs q e { n.setReg w.dreg v with
        wait := none, routine := some (r.resume s.mast.tick)
        signals := if w.cond = 5 ∧ n.signals.testBit (fld w.arg 4 0) then n.signals - 2 ^ fld w.arg 4 0 else n.signals } s))
  ∧ (∀ v r, Clean s → s.awake (domCluster q) = true → n.vec = some v → v.stitch = false → v.below = false → v.ue = none →
      n.swap = false → n.routine = some r →
      Goes (.vectorOpDone q e) s [.hk] (EngineIs q e { n.setReg v.dreg v.status with
        vec := none
        routine := some { (if n.wait.isNone then r.resume s.mast.tick else r) with committed := r.committed || v.commit } } s))
  ∧ (∀ v r i, let x := s.skein r.event.skein
      Clean s → s.awake (domCluster q) = true → n.vec = some v → v.stitch = true → v.below = false → v.ue = none →
      n.swap = false → n.routine = some r → s.stitchReady r.event = true →
      x.insts.find? (fun i => i.ix == fld r.event.w1 39 39 && i.outstanding.any fun o => o.order == r.event.order) = some i →
      x.instOf i.occ = some i →
      Goes (.vectorOpDone q e) s [.hk, .sk, .flt, .regs, .out, .power] fun t =>
        t.eng q e = { n.setReg v.dreg v.status with
          vec := none
          routine := some { (if n.wait.isNone then r.resume s.mast.tick else r) with committed := r.committed || v.commit } }
        ∧ t.sk.quarter = (stitchRun r.event s).st.sk.quarter
        ∧ ∃ j, (t.skein r.event.skein).instOf i.occ = some j ∧ j.outstanding = i.outstanding.filter fun o => o.order != r.event.order)
  ∧ (∀ r, Clean s → n.routine = some r → r.budget ≠ 0 → r.budget * 1024 < r.count s.mast.tick → r.barked = false →
      n.interruptible false = true → n.swap = false →
      Goes (.watchdog q e) s [.hk, .out, .regs] fun t =>
        Trapped q e 4 (r.count s.mast.tick / 1024) n.pc r.bank s t ∧ others t
        ∧ t.rgf .hkCnt1 [q] 47 32 = satAdd 16 (s.rgf .hkCnt1 [q] 47 32) 1 ∧ bitAt (t.rg .hkIntStatus [q]) 6 = true)
  ∧ (n.handler = some 4 → n.trapTick + 32768 ≤ s.mast.tick → n.failed = false →
      Goes (.watchdogHang q e) s [.hk, .sk, .host, .cmd, .out, .flt, .epochs, .regs, .power, .freeCtr] (EngineFailed q e 5 s))
  ∧ (∀ k, n.failed = false → (k = 2 ∨ k = 3 ∨ k = 4 ∨ k = 6 ∧
        ((s.fault 8 q).forced.testBit 7 = true ∨ (s.fault 8 q).forced.testBit 8 = true)) →
      Goes (.engineFailure q e k) s [.hk, .sk, .host, .cmd, .out, .flt, .epochs, .regs, .power, .freeCtr] (EngineFailed q e k s))
  ∧ (∀ m, Clean s → c.moves.find? (fun m => s.moveDue m && (s.leastShares q (svMask (c.service m.service))).isSome) = some m →
      s.leastShares q (svMask (c.service m.service)) = some e → bitAt (c.entry c.active 7) 63 = true →
      Goes (.shareMove q) s [.hk, .power] fun t =>
        (t.cluster q).shares = tset 0 c.shares (4 * m.service + m.share) e ∧ (t.cluster q).moves = c.moves.erase m
        ∧ Posted q { w0 := evWord0 7 4 0 (m.service + 16 * m.old + 256 * m.share), hard := true } s t)
  ∧ (∀ k, n.selftest = some k → k + 2048 ≤ s.mast.tick →
      Goes (.engineSelftestDone q e true) s [.hk, .host, .cmd, .out, .flt, .epochs, .regs, .power] (fun t =>
        EngineIs q e { n with selftest := none, handler := none, failed := false } s t ∧ t.epoch (ekCluster q) = (s.epoch (ekCluster q) + 1) % 65536)
      ∧ Goes (.engineSelftestDone q e false) s [.hk] (EngineIs q e { n with selftest := none, handler := none } s))

/-- A vector microword acts on its operands and stays in progress, its status bound for the register of its A field, until its completion: STITCH for
the current STITCH event waits for the ordering unit (R248); RESCALE gives every PRB of its range the target exponent (R250); PACK recompresses a
CLOSE event's PRBs into a build buffer; REPACK changes the width of samples; DMOVE copies words; CRC gives the check of its bytes; SEND hands a
frame to the injection input of its port's Tile, or says that the port is not LINK_UP (R251). -/
def Obligations.VectorWords : Prop := ∀ (q e w : Nat) (s : State), Issues q e w s → mwFlags w < 4 →
  let n := s.eng q e
  let x := (n.reg (mwD w)).setWidth 64
  let inProgress := fun (stitch : Bool) (status : W72) (m : Engine) =>
    m.pc = n.pc + 1 ∧ m.regs = n.regs ∧ m.vec = some {
      pc := n.pc, dreg := mwA w, status := status, commit := (mwFlags w).testBit 0, async := (mwFlags w).testBit 1, stitch := stitch }
  (∀ r, mwOp w = 0x28 → n.routine = some r → r.event.opcode = 0 → n.under = none →
      Goes (.microStitch q e) s [.hk] fun t => inProgress true 0 (t.eng q e) ∧ ∀ y, y ≠ e → t.eng q y = s.eng q y)
  ∧ (let a := fld x 63 42;
      let k := fld x 41 33;
      let goal := fld x 32 27;
      let b := 8 * fld x 26 5 + fld x 4 2;
      mwOp w = 0x29 → a + 12 * k ≤ 3145728 → 8 * 3145728 ≥ b + k → (b + k ≤ 8 * a ∨ 8 * (a + 12 * k) ≤ 8 * fld x 26 5) →
      Goes (.microRescale q e) s [.hk, .sk] fun t => inProgress false 0 (t.eng q e) ∧ t.sk.descs = s.sk.descs
        ∧ ∀ j < k, let old := wordByte (s.qword q ((b + j) / 8)) ((b + j) % 8)
          let acc := fun (u : State) => (List.range 12).flatMap fun i => accOf (u.qword q (a + 12 * j + i))
          if goal ≤ old % 64 then acc t = acc s
          else acc t = (acc s).map (fun v => sgn 36 (twos 36 (rneShift v (goal - (old % 64 : Nat)))))
            ∧ wordByte (t.qword q ((b + j) / 8)) ((b + j) % 8) % 64 = goal)
  ∧ (∀ r, let comp := fld x 45 38
      let o := fld x 37 24
      let k := fld x 54 46
      let y := s.skein r.event.skein
      mwOp w = 0x2A → n.routine = some r → r.event.opcode = 1 → compOut comp = true → y.valid = true → y.cluster = q →
      o + k * recBytes comp ≤ 16384 → (k = 0 ∨ y.accAddr (fld x 22 22) (fld x 63 55 + k) ≤ 3145728) →
      Goes (.microPack q e) s [.hk, .sk] fun t =>
        let recs := (List.range k).map fun j =>
          match (readPrb r.event.skein (fld x 22 22) (fld x 63 55 + j) s).1 with
          | .ok acc => recompress acc comp
          | .error _ => ([], 0)
        inProgress false (recs.foldl (fun n z => n + BitVec.ofNat 72 z.2) 0) (t.eng q e)
        ∧ (bufRead q e (fld x 23 23) o (k * recBytes comp) t).1 = (recs.map (·.1)).flatten)
  ∧ (∀ r, let src := fld x 63 50
      let dst := fld x 49 36
      let ws := fld x 35 31
      let wd := fld x 30 26
      let k := fld x 25 14
      mwOp w = 0x2B → n.routine = some r → ws ≠ 0 → wd ≠ 0 → src + sampleBytes ws k ≤ 32 + r.event.pkt.length →
      src + sampleBytes ws k ≤ 16416 → dst + sampleBytes wd k ≤ 16384 →
      Goes (.microRepack q e) s [.hk] fun t =>
        inProgress false 0 (t.eng q e)
        ∧ ∀ i < k, sampleAt (bufRead q e (fld x 13 13) dst (sampleBytes wd k) t).1 wd i =
          resample ws wd (sampleAt ((List.range (sampleBytes ws k)).map fun j => (r.event.byte (src + j)).getD 0) ws i))
  ∧ (let src := fld x 63 42;
      let dst := fld x 38 17;
      let k := fld x 13 0;
      mwOp w = 0x2C → fld x 41 39 = 1 → fld x 16 14 = 5 → src + k ≤ 65536 → dst + k ≤ 4096 →
      Goes (.microDmove q e) s [.hk] fun t =>
        inProgress false 0 (t.eng q e) ∧ (t.cluster q).mem = (s.cluster q).mem
        ∧ ∀ i, tget 0 (t.eng q e).txbuf i = if dst ≤ i ∧ i < dst + k then tget 0 (s.cluster q).mem (src + (i - dst))
          else tget 0 n.txbuf i)
  ∧ (∀ r v, let o := fld x 63 50
      let k := fld x 49 36
      mwOp w = 0x2D → mwD w % 2 = 0 → n.routine = some r → fld x 35 33 = 4 → o + k ≤ 16416 → o + k ≤ 32 + r.event.pkt.length →
      crcOver (fld x 32 31) ((n.reg (mwD w + 1)).setWidth 64 : W).toNat
        ((List.range k).map fun j => (r.event.byte (o + j)).getD 0) = some v →
      Goes (.microCrc q e) s [.hk] fun t => inProgress false (BitVec.ofNat 72 v) (t.eng q e) ∧ ∀ y, y ≠ e → t.eng q y = s.eng q y)
  ∧ (let p := fld x 63 55;
      let k := fld x 50 37;
      mwOp w = 0x2E → 60 ≤ k → k ≤ 16380 →
      (s.linkUp p = false → Goes (.microSend q e) s [.hk] fun t => inProgress false 1 (t.eng q e))
      ∧ (s.linkUp p = true → Goes (.microSend q e) s [.pk, .hk, .power] fun t =>
          inProgress false 0 (t.eng q e)
          ∧ (t.tl (tileOf p)).inject = (s.tl (tileOf p)).inject ++ [(p / 8, {
              bytes := (bufRead q e (fld x 36 36) 0 k s).1, eport := p, queue := fld x 54 51, flow := fld x 18 16
              ts := if bitAt x 35 then some (fld x 34 19) else none, injected := true })]))

/-- HOOK_LOAD writes a good image into a bank that is neither active nor draining of every named cluster, and only there (R261). HOOK_BANK_SWITCH, at
once or in its switch tick, makes the loaded bank active; the old one drains while a routine runs in it (R262), until none does, or until DRAIN_LIMIT or
HOOK_FORCE_SWAP swaps the engines that still do: an interruptible one runs its FORCED_SWAP handler in the new bank, another one waits (R264, R265).
HOOK_DISPATCH_WRITE, HOOK_SERVICE_CONFIG and HOOK_ENGINE_ENABLE change one entry, one service and its shares alone, and start one self-test (R266, R480, R269); HOOK_CALL
enters the queues of the named clusters (R305). -/
def Obligations.HookCommands : Prop := ∀ (c : Cmd) (s : State),
  let mask := hookMask c
  let switched := fun (qs : List Nat) (t : State) => ∀ q, if q ∈ qs then
      (t.cluster q).active = 1 - (s.cluster q).active ∧ (t.cluster q).queue = (s.cluster q).queue
      ∧ (t.cluster q).draining = (if (s.cluster q).runsIn (s.cluster q).active then some (s.cluster q).active else none)
      ∧ bitAt (t.rg .hkIntStatus [q]) 1 = true
    else t.cluster q = s.cluster q
  let swapped := fun (q : Nat) (t : State) => ∀ e < 16, ∀ r, (s.eng q e).routine = some r → r.bank ≠ (s.cluster q).active →
      if (s.eng q e).interruptible true = true then (t.eng q e).handler = some 6 ∧ (t.eng q e).swap = false
        ∧ ∃ r', (t.eng q e).routine = some r' ∧ r'.bank = (s.cluster q).active ∧ r'.committed = true
      else (t.eng q e).swap = true
  (let bank := fld (c.p 0) 4 4;
    let b := c.hostBytes (c.n 1) ((imLen (c.hostBytes (c.n 1) 4) + sigBytes + 7) / 8);
    Taken 0x0800 hookDomain c s → mask ≠ [] → fld (c.p 0) 62 5 = 0 → (∀ q ∈ mask, s.bankBusy q bank = false) →
    s.imageFault b c.verified = none →
    Answered (.hookLoad c) c s [] [.mast, .hk, .flt, .epochs, .sec] fun t =>
      (∀ q, q ∉ mask → t.cluster q = s.cluster q) ∧ ∀ q ∈ mask,
        tget 0 (t.cluster q).epochs bank = imEpoch b ∧ t.epoch (ekHook q bank) = imEpoch b
        ∧ tget 0 (t.cluster q).versions bank = imVersion b ∧ tget 0 (t.cluster q).words bank = imWords b
        ∧ (∀ i < imWords b, tget 0 (t.cluster q).store (16384 * bank + i) = BitVec.ofNat 72 (bytesNat b (32 + 9 * i) 9))
        ∧ (∀ i < 256, tget 0 (t.cluster q).disp (256 * bank + i) = BitVec.ofNat 64 (bytesNat b (32 + 9 * imWords b + 8 * i) 8))
        ∧ (∀ i < imServices b, tget 0 (t.cluster q).services (16 * bank + i) =
            BitVec.ofNat 64 (bytesNat b (32 + 9 * imWords b + 2048 + 8 * i) 8))
        ∧ (t.cluster q).active = (s.cluster q).active ∧ (t.cluster q).engines = (s.cluster q).engines)
  ∧ (let ep := fld (c.p 0) 31 16;
      Taken 0x0801 hookDomain c s → mask ≠ [] → fld (c.p 0) 63 32 = 0 → fld (c.p 0) 15 4 = 0 → ep ≠ 0 →
      (∀ q ∈ mask, tget 0 (s.cluster q).epochs (1 - (s.cluster q).active) = ep ∧ s.switchPending q = false ∧ (s.cluster q).draining = none) →
      Answered (.hookBankSwitch c) c s [] [.mast, .hk, .cmd] (switched mask))
  ∧ (∀ q t, let qs := hookMask t.cmd
      let ep := fld (t.cmd.p 0) 31 16
      q < 4 → Live s → s.cmd.timed.find? (fun t => t.opcode == 0x801 && (hookMask t.cmd).contains q && s.timedDue t && s.turn t) = some t →
      t.own = false → fld (t.cmd.p 0) 63 32 = 0 → fld (t.cmd.p 0) 15 4 = 0 → ep ≠ 0 →
      (∀ y ∈ qs, tget 0 (s.cluster y).epochs (1 - (s.cluster y).active) = ep ∧ (s.cluster y).draining = none
        ∧ ∀ u ∈ s.cmd.timed.erase t, u.opcode = 0x801 → y ∉ hookMask u.cmd) →
      Goes (.hookSwitchTick q) s [.mast, .hk, .host, .cmd, .out, .regs] fun u =>
        switched qs u ∧ Answers t.cmd .ok 0 [] u ∧ u.cmd.timed = s.cmd.timed.erase t)
  ∧ (∀ q b, q < 4 → Live s → (s.cluster q).draining = some b → (s.cluster q).runsIn b = false →
      Goes (.hookDrainEnd q) s [.hk] fun t => t.cluster q = { s.cluster q with draining := none } ∧ ∀ y, y ≠ q → t.cluster y = s.cluster y)
  ∧ (∀ q b, q < 4 → Live s → Clean s → (s.cluster q).draining = some b → (s.cluster q).runsIn b = true →
      (s.cluster q).drainTick + s.rgf .hkDrainLimit [q] 23 0 * usTicks ≤ s.mast.tick →
      Goes (.drainTimeout q) s [.hk, .sk, .host, .cmd, .out, .flt, .regs, .power] fun t =>
        swapped q t ∧ bitAt (t.rg .hkIntStatus [q]) 2 = true)
  ∧ (Taken 0x0802 hookDomain c s → Clean s → mask ≠ [] → fld (c.p 0) 63 4 = 0 →
      Answered (.hookForceSwap c) c s [] [.hk, .sk, .cmd, .flt, .power] fun t =>
        ∀ q ∈ mask, (s.cluster q).draining ≠ none → swapped q t)
  ∧ (let q := fld (c.p 0) 9 8;
      let bank := fld (c.p 0) 10 10;
      let i := fld (c.p 0) 7 0;
      Taken 0x0803 dispatchDomain c s → fld (c.p 0) 63 11 = 0 → (i = 0xFF → bitAt (c.p 1) 63 = false) → s.bankBusy q bank = false →
      Completes (.hookDispatchWrite c) c s [] [.hk, .flt] [] fun t =>
        t.cluster q = { s.cluster q with disp := (t.cluster q).disp } ∧ (∀ y, y ≠ q → t.cluster y = s.cluster y)
        ∧ ∀ k, tget 0 (t.cluster q).disp k = if k = 256 * bank + i then c.p 1 else tget 0 (s.cluster q).disp k)
  ∧ (let q := fld (c.p 0) 5 4;
      let e := fld (c.p 0) 3 0;
      Taken 0x0804 enableDomain c s → fld (c.p 0) 63 32 = 0 → fld (c.p 0) 15 6 = 0 → fld (c.p 0) 31 16 = s.epoch (ekCluster q) →
      Completes (.hookEngineEnable c) c s [] [.hk] [] (EngineIs q e (if (s.eng q e).failed
        then { s.eng q e with selftest := some s.mast.tick } else s.eng q e) s))
  ∧ (let q := fld (c.p 0) 17 16;
      let v := fld (c.p 0) 3 0;
      Taken 0x0805 serviceDomain c s → fld (c.p 0) 63 18 = 0 → fld (c.p 0) 15 4 = 0 → svOk (c.p 1) = true →
      Completes (.hookServiceConfig c) c s [] [.mast, .hk] [] fun t =>
        (t.cluster q).service v = c.p 1 ∧ (∀ k < 16, k ≠ v → (t.cluster q).service k = (s.cluster q).service k)
        ∧ (∀ k, tget 0 (t.cluster q).shares k =
            if k / 4 = v then (if k % 4 < svShares (c.p 1) then svHolder (c.p 1) (k % 4) else 0) else tget 0 (s.cluster q).shares k)
        ∧ ∀ y, y ≠ q → t.cluster y = s.cluster y)
  ∧ (let qs := bitsOf 4 (fld (c.p 0) 47 44);
      let op := fld (c.p 0) 7 0;
      Taken 0x0806 noDomain c s → Clean s → 0x10 ≤ op → op ≤ 0xF7 → (∀ q ∈ qs, s.awake (domCluster q) = true ∧ HookTakes q op s) →
      Completes (.hookCall c) c s [] [.hk, .power] [] fun t => ∀ q,
        if q ∈ qs then Posted q { w0 := evWord0 op 5 0 (fld (c.p 0) 39 8) } s t else t.cluster q = s.cluster q)

/-- CAST_ON makes a queue pair and BIND_OFF ends an idle one, each under a new epoch (R316, R317); DMA_CHANNEL_CONFIG and POOL_CONFIG set up a
channel and a pool (R328, R331); the legacy rows switch a function's mode and configure a legacy queue (R326). A doorbell under its object's epoch, unless the
PCIe domain is in PS3 or PS4, moves the ring's end, a completion doorbell frees slots (R311, R325), one under another epoch is counted and does nothing. A rescan ends a break (R312). ENABLE
of an admin queue starts its rings under a new epoch (R313); FN_QP_RANGE and the assignment registers take what R315 allows; a channel stops and starts
(R330); a function reset ends what the function holds (R335), and PERST_N resets all of them (R449). -/
def Obligations.HostObjects : Prop := ∀ (c : Cmd) (f : Nat) (s : State), f < 64 →
  let good := fun (k : Nat) => ∀ x ∈ ringChecks c f k, x.2 = true
  let owned := s.poolsOk f (c.n 8) = true
  let new := fun (q : Nat) => mk 31 16 ((s.epoch (ekQp q) + 1) % 65536) ||| mk 11 0 q
  let next := fun (k : Nat) (t : State) => t.epoch k = (s.epoch k + 1) % 65536
  let stale := fun (t : State) => t.regs = (s.bump .fnCnt [f] 63 48).regs
  (let q := s.qpBase f + c.n 0;
    Taken 0x0A00 noDomain c s → srcFn c.src = some f → c.n 0 < s.qpCount f → good 1 → owned → (s.qp q).live = false →
    (s.fn f).legacy = false →
    Completes (.castOn c) c s [new q] [.epochs] [] fun t =>
      t.qp q = { live := true, sq := (ringsOf c 1).1, cq := (ringsOf c 1).2, pools := c.n 8 } ∧ (∀ k, k ≠ q → t.qp k = s.qp k)
      ∧ next (ekQp q) t)
  ∧ (let q := s.qpBase f + fld (c.p 0) 11 0;
      Taken 0x0A01 noDomain c s → srcFn c.src = some f → fld (c.p 0) 11 0 < s.qpCount f → fld (c.p 0) 63 32 = 0 →
      fld (c.p 0) 15 12 = 0 → (s.qp q).live = true → fld (c.p 0) 31 16 = s.epoch (ekQp q) → s.qpIdle q = true →
      Completes (.bindOff c) c s [] [.epochs] [] fun t => t.qp q = {} ∧ (∀ k, k ≠ q → t.qp k = s.qp k) ∧ next (ekQp q) t)
  ∧ (Taken 0x0A02 noDomain c s → srcFn c.src = some f → c.n 0 < 32 → good 1 → s.chanFn (c.n 0) = f → (s.chan (c.n 0)).enabled = false →
      Completes (.dmaChannelConfig c) c s [] [.epochs] [] fun t =>
        t.chan (c.n 0) = { config := true, ring := (ringsOf c 1).1, cq := (ringsOf c 1).2 }
        ∧ (∀ k, k ≠ c.n 0 → t.chan k = s.chan k) ∧ next (ekChan (c.n 0)) t)
  ∧ (Taken 0x0A03 noDomain c s → srcFn c.src = some f → c.n 0 < 8 → s.poolFn (c.n 0) = f → 8 ≤ c.n 1 → c.n 1 ≤ 16 →
      c.n 2 % 2 ^ c.n 1 = 0 → 1 ≤ c.n 3 → c.n 3 ≤ 2 ^ c.n 5 → c.n 4 % 4096 = 0 → 7 ≤ c.n 5 → c.n 5 ≤ 15 → c.n 6 < 2 →
      (s.pool (c.n 0)).enabled = false →
      Completes (.poolConfig c) c s [] [.epochs] [] fun t =>
        t.pool (c.n 0) = { size := c.n 1, base := c.n 2, count := c.n 3, ring := { base := c.n 4, log := c.n 5 }, enabled := c.n 6 == 1 }
        ∧ (∀ k, k ≠ c.n 0 → t.pool k = s.pool k) ∧ next (ekPool (c.n 0)) t)
  ∧ (Taken 0x0A04 noDomain c s → srcFn c.src = some f → c.p 0 = 1 → (s.fn f).legacy = false → 64 ≤ s.qpCount f →
      (∀ i < s.qpCount f, (s.qp (s.qpBase f + i)).live = false) →
      Completes (.legacyModeSwitch c) c s [] [.epochs] [] fun t =>
        (t.fn f).legacy = true ∧ ∀ i < 64, t.qp (s.qpBase f + i) = { live := true, enable := false, sq := { log := 6 }, cq := { log := 6 } })
  ∧ (Taken 0x0A04 noDomain c s → srcFn c.src = some f → c.p 0 = 0 → (s.fn f).legacy = true →
      (∀ i < s.qpCount f, (s.qp (s.qpBase f + i)).live = true → s.qpIdle (s.qpBase f + i) = true) →
      Completes (.legacyModeSwitch c) c s [] [.epochs] [] fun t =>
        (t.fn f).legacy = false ∧ ∀ i < s.qpCount f, (s.qp (s.qpBase f + i)).live = true → t.qp (s.qpBase f + i) = {})
  ∧ (let q := s.qpBase f + fld (c.p 0) 5 0;
      Taken 0x0A04 noDomain c s → srcFn c.src = some f → bitAt (c.p 0) 63 = true → fld (c.p 0) 62 6 = 0 → (s.fn f).legacy = true →
      good 1 → owned → 1 ≤ c.n 9 → c.n 9 ≤ 255 → 1 ≤ c.n 10 → c.n 10 ≤ 64 → c.n 11 < 2 → s.qpIdle q = true →
      Completes (.legacyQueueConfig c) c s [new q] [.epochs] [] fun t =>
        t.qp q =
          { live := true, sq := (ringsOf c 1).1, cq := (ringsOf c 1).2, pools := c.n 8, weight := c.n 9, burst := c.n 10, enable := c.n 11 == 1 }
        ∧ (∀ k, k ≠ q → t.qp k = s.qp k) ∧ next (ekQp q) t)
  ∧ (∀ (v : W) (i : Nat), Live s →
      let q := s.qpBase f + i
      let n := fld v 15 0
      let room := fun (r : HRing) => (n + 65536 - r.h) % 65536 ≤ 2 ^ r.log
      let rung := fun (r : HRing) => { r with d := n, miss := none }
      let frees := fun (c : CRing) => (n + 65536 - c.head) % 65536 ≤ (c.tail + 65536 - c.head) % 65536
      let hears := (s.domain domPcie).state ≤ 2
      (hears → fld v 63 48 = s.epoch (ekAdmin f) → room (s.fn f).sq →
        Goes (.adminSqDb f v) s [.host, .power] fun t => t.fn f = { s.fn f with sq := rung (s.fn f).sq } ∧ ∀ k, k ≠ f → t.fn k = s.fn k)
      ∧ (hears → fld v 63 48 ≠ s.epoch (ekAdmin f) → Goes (.adminSqDb f v) s [.regs, .power] stale)
      ∧ (hears → fld v 63 48 = s.epoch (ekAdmin f) → frees (s.fn f).cq →
        Goes (.adminCqDb f v) s [.host, .cmd, .out, .regs, .power] fun t => (t.fn f).cq.head = n)
      ∧ (hears → i < s.qpCount f → (s.qp q).live = true → fld v 63 48 = s.epoch (ekQp q) → room (s.qp q).sq →
        Goes (.qpSqDb f i v) s [.host, .power] fun t =>
          t.qp q = { s.qp q with sq := rung (s.qp q).sq } ∧ ∀ k, k ≠ q → t.qp k = s.qp k)
      ∧ (hears → i < s.qpCount f → fld v 63 48 ≠ s.epoch (ekQp q) → Goes (.qpSqDb f i v) s [.regs, .power] stale)
      ∧ (hears → i < s.qpCount f → (s.qp q).live = true → fld v 63 48 = s.epoch (ekQp q) → frees (s.qp q).cq →
        Goes (.qpCqDb f i v) s [.host, .out, .power] fun t => (t.qp q).cq.head = n ∧ (t.qp q).sq = (s.qp q).sq)
      ∧ (hears → i < 8 → s.poolFn i = f → fld v 63 48 = s.epoch (ekPool i) → room (s.pool i).ring →
        Goes (.poolDb f i v) s [.host, .power] fun t =>
          t.pool i = { s.pool i with ring := rung (s.pool i).ring } ∧ ∀ k, k ≠ i → t.pool k = s.pool k)
      ∧ (hears → i < 8 → s.poolFn i = f → fld v 63 48 ≠ s.epoch (ekPool i) → Goes (.poolDb f i v) s [.regs, .power] stale)
      ∧ (hears → i < 32 → s.chanFn i = f → fld v 63 48 = s.epoch (ekChan i) → room (s.chan i).ring →
        Goes (.chanDb f i v) s [.host, .power] fun t =>
          t.chan i = { s.chan i with ring := rung (s.chan i).ring } ∧ ∀ k, k ≠ i → t.chan k = s.chan k)
      ∧ (hears → i < 32 → s.chanFn i = f → fld v 63 48 ≠ s.epoch (ekChan i) → Goes (.chanDb f i v) s [.regs, .power] stale)
      ∧ (hears → i < 32 → s.chanFn i = f → fld v 63 48 = s.epoch (ekChan i) → frees (s.chan i).cq →
        Goes (.chanCqDb f i v) s [.hk, .host, .out, .flt, .power] fun t => (t.chan i).cq.head = n ∧ (t.chan i).ring = (s.chan i).ring)
      ∧ (i < 32 → s.chanFn i = f → (s.chan i).enabled = true →
        Goes (.chanDisable f i) s [.hk, .host, .flt, .freeCtr] fun t =>
          (t.chan i).enabled = false ∧ (t.chan i).ready = [] ∧ (t.chan i).running = none ∧ (t.chan i).ring = (s.chan i).ring
          ∧ ∀ k, k ≠ i → t.chan k = s.chan k)
      ∧ (i < 32 → s.chanFn i = f → (s.chan i).enabled = false →
        Goes (.chanEnable f i) s [.host] fun t => t.chan i = { s.chan i with
          enabled := true, jobs := 0, bytes := 0, stopped := none, ring := { (s.chan i).ring with h := 0, d := 0, miss := none } })
      ∧ (∀ a, (s.fn f).sq.miss = some a → a + 2 * usTicks ≤ s.mast.tick →
        Goes (.ringRescan (.admin f)) s [.host] fun t => t.fn f = { s.fn f with sq := { (s.fn f).sq with miss := none } })
      ∧ (∀ a, (s.qp i).sq.miss = some a → a + 2 * usTicks ≤ s.mast.tick →
        Goes (.ringRescan (.qp i)) s [.host] fun t => t.qp i = { s.qp i with sq := { (s.qp i).sq with miss := none } })
      ∧ (∀ a, (s.chan i).ring.miss = some a → a + 2 * usTicks ≤ s.mast.tick →
        Goes (.ringRescan (.chan i)) s [.host] fun t => t.chan i = { s.chan i with ring := { (s.chan i).ring with miss := none } })
      ∧ (let a := (s.rg .adminSqBase [f]).toNat;
        let b := (s.rg .adminCqBase [f]).toNat;
        bitAt v 63 = true → 4 ≤ fld v 11 8 → fld v 11 8 ≤ 12 → 4 ≤ fld v 3 0 → fld v 3 0 ≤ 12 → a % 4096 = 0 → b % 4096 = 0 →
        Goes (.adminQueueEnable f v) s [.host, .cmd, .out, .epochs, .regs] fun t =>
          (t.fn f).enabled = true ∧ (t.fn f).lost = false ∧ (t.fn f).sq = { base := a, log := fld v 11 8 } ∧ (t.fn f).cq.base = b
          ∧ (t.fn f).cq.log = fld v 3 0 ∧ next (ekAdmin f) t ∧ t.rg .adminCfg [f] = v &&& 0x8000000000000F0F)
      ∧ (bitAt v 63 = false → Goes (.adminQueueEnable f v) s [.host, .regs] fun t =>
          t.fn f = { s.fn f with enabled := false } ∧ t.rg .adminCfg [f] = v &&& 0x8000000000000F0F)
      ∧ (let b := fld v 27 16;
        let m := fld v 12 0;
        b + m ≤ 4096 → (∀ g < 64, g ≠ f → m = 0 ∨ s.qpCount g = 0 ∨ s.qpBase g + s.qpCount g ≤ b ∨ b + m ≤ s.qpBase g) →
        (∀ x ∈ s.host.qps, x.2.live = true → s.qpFn x.1 = some f → b ≤ x.1 ∧ x.1 < b + m) →
        Goes (.fnQpRangeWrite f v) s [.regs] fun t =>
          t.rg .fnQpRange [f] = v &&& 0xFFF1FFF ∧ RegsBut [regAddr .fnQpRange [f]] s t)
      ∧ Goes (.resAssignWrite (0x4300 + 8 * f) v) s [.regs] (fun t => t.regs = (s.setRg .fnTxCfg [f] (v &&& 0xFF01FF)).regs)
      ∧ (i < 32 → (s.chan i).enabled = false → Goes (.resAssignWrite (0x4500 + 8 * i) v) s [.regs] fun t =>
          t.regs = (s.setRg .chanOwner [i] (v &&& 0x800000000001033F)).regs)
      ∧ (i < 8 → (s.pool i).enabled = false → Goes (.resAssignWrite (0x4600 + 8 * i) v) s [.regs] fun t =>
          t.regs = (s.setRg .poolOwner [i] (v &&& 0x3F)).regs))
  ∧ (let ended := fun (g : Nat) (t : State) =>
        (t.fn g).enabled = false ∧ (t.fn g).legacy = false ∧ t.rg .adminCfg [g] = 0
        ∧ (∀ q, s.qpFn q = some g → t.qp q = {} ∨ (s.qp q).live = false)
        ∧ (∀ k < 32, s.chanFn k = g → s.chanCluster k = none → (t.chan k).enabled = false)
        ∧ (∀ k < 8, s.poolFn k = g → (t.pool k).enabled = false ∧ (t.pool k).cache = [])
        ∧ ∀ y ∈ t.cmd.timed, y.cmd.src ≠ fnSrc g
      let parts : List Part := [.rig, .pk, .hk, .sk, .host, .cmd, .out, .flt, .epochs, .regs, .boot, .freeCtr];
      Live s →
      Goes (.functionLevelReset f) s parts (fun t => ∀ g ∈ resetSet f, ended g t)
      ∧ (s.power.perstN = true → Goes .perstNAssert s (parts ++ [.power]) fun t =>
          t.power = { s.power with perstN := false } ∧ ∀ g < 64, ended g t))

/-- Owned entries that a fetch returns are taken in order: a command of an admin ring is carried out, a descriptor and a job join their chain, a free
buffer the pool's cache (R312, R319, R331); a descriptor of a poisoned TLP ends its chain with PCIE_ERROR. The chain whose turn it is starts; when its frame has entered the Tile, or it failed a check, its TX_DONE
entry is written (R320, R322). A received packet goes into a buffer with its RX entry, or is dropped and counted (R324, R334). A chain of a channel runs, and
moves its block before its DMA_DONE entry (R328, R329). COAL_TIME signals what a queue has not signalled (R325). -/
def Obligations.HostTraffic : Prop := ∀ (i : Nat) (s : State), Live s →
  let x := s.qp i
  let z := s.chan i
  (∀ f e, i < 4096 → s.qpFn i = some f → x.live = true → x.sq.fetches = true → s.pcieUp = true → 1 ≤ x.sq.span 16 →
      e ≠ [] → x.sq.owned 63 e = true → (txUse e).shared = false →
      Goes (.ringFetchDone (.qp i) [e]) s [.host] fun t => t.qp i = { x with
        sq := { x.sq with h := (x.sq.h + 1) % 65536 }, taking := (chainTake x.taking x.sq.h e 0).1
        ready := x.ready ++ (chainTake x.taking x.sq.h e 0).2.toList })
  ∧ (∀ f, i < 4096 → s.qpFn i = some f → x.live = true → x.sq.fetches = true → s.pcieUp = true → 1 ≤ x.sq.span 16 →
      Goes (.ringFetchDone (.qp i) [[]]) s [.host, .cmd, .out, .flt, .regs] fun t => t.qp i = { x with
        sq := { x.sq with h := (x.sq.h + 1) % 65536 }, taking := none, ready := x.ready ++ [chainPoison x.taking x.sq.h] })
  ∧ (∀ e, s.chanCluster i = none → z.enabled = true → z.ring.fetches = true → s.pcieUp = true → 1 ≤ z.ring.span 16 →
      e ≠ [] → z.ring.owned 63 e = true → (jobUse e).shared = false →
      Goes (.ringFetchDone (.chan i) [e]) s [.host] fun t => t.chan i = { z with
        ring := { z.ring with h := (z.ring.h + 1) % 65536 }, taking := (chainTake z.taking z.ring.h e 0).1
        ready := z.ready ++ (chainTake z.taking z.ring.h e 0).2.toList })
  ∧ (∀ e, i < 64 → let y := s.fn i
      y.enabled = true → y.sq.fetches = true → s.pcieUp = true → 1 ≤ y.sq.span 16 → e ≠ [] → y.sq.owned 63 e = true →
      s.outstanding (fnSrc i) < maxOutstanding (fnSrc i) →
      let u := (s.setFn i { y with sq := { y.sq with h := (y.sq.h + 1) % 65536 } }).inClock
      exec (.ringFetchDone (.admin i) [e]) s = keepTaken s (takeCommand (adminCmd i u.1 e) u.2))
  ∧ (∀ e, i < 8 → let y := s.pool i
      let a := fld e 63 8 * 256
      y.enabled = true → s.pcieUp = true → y.ring.h ≠ y.ring.d → y.ring.miss = none → y.cache.length < 64 → 1 ≤ y.ring.span 64 →
      y.ring.owned 0 [e] = true → fld e 7 1 = 0 → y.holds a = true →
      Goes (.poolFetchDone i [some e]) s [.host] fun t =>
        t.pool i = { y with ring := { y.ring with h := (y.ring.h + 1) % 65536 }, cache := y.cache ++ [a] })
  ∧ (∀ f u c rest data, i < 4096 → s.qpFn i = some f → txTurn 1200 s = some (i, u) → s.pcieUp = true → x.ready = c :: rest →
      c.status = 0 → 60 ≤ c.txLen → c.txLen ≤ 16380 → fld (c.word 0) 57 56 < 2 →
      (f < 2 ∨ fld (c.word 0) 57 56 = 1 ∧ fld (c.word 0) 55 47 = s.rgf .fnTxCfg [f] 8 0) →
      (∀ y ∈ c.items, (txUse y.2).ret = false ∧ (txUse y.2).shared = false) → data.length = c.txLen →
      Goes (.txChainStart i data) s [.host] fun t => (t.qp i).running = x.running ++ [(c, data)] ∧ (t.qp i).ready = rest)
  ∧ (∀ c data more, i < 4096 → x.running = (c, data) :: more → c.status ≠ 0 → CqRoom (.qp i) s →
      Goes (.txChainDone i) s [.host, .out] fun t => (t.qp i).running = more ∧ CqHas (.qp i) (txDone c) [] s t)
  ∧ (∀ c data more, let k := hostPkt s c data
      i < 4096 → x.running = (c, data) :: more → c.status = 0 → fld (c.word 0) 57 56 = 0 → s.awake (domTile k.tile) = true →
      k.len ≤ 16384 → Room k.tile k.eport k.queue (cellsOf k.len) false s → CqRoom (.qp i) s →
      Goes (.txChainDone i) s [.pk, .host, .out, .flt, .power] fun t =>
        (t.qp i).running = more
        ∧ Queued k.tile k.eport k.queue (fun v => v = { k with ctl := s.isControl k.tile k.eport k.bytes }) s t ∧ CqHas (.qp i) (txDone c) [] s t)
  ∧ (∀ k rest f p a, i < 16 → (s.tl i).hostRx = k :: rest → s.pcieUp = true → (s.qp k.eport).live = true → s.qpFn k.eport = some f →
      s.rxBuffers f (s.qp k.eport).pools k.bytes.length = some (p, 1) → (s.pool p).cache.head? = some a → CqRoom (.qp k.eport) s →
      Goes (.hostRxDeliver i) s [.pk, .host, .out] fun t =>
        t.tl i = { s.tl i with hostRx := rest } ∧ t.pool p = { s.pool p with cache := (s.pool p).cache.drop 1 }
        ∧ CqHas (.qp k.eport) (rxEntry k p a k.bytes.length 0 1) [{ fn := f, addr := a, bytes := k.bytes, relaxed := true }] s t)
  ∧ (∀ k rest, i < 16 → (s.tl i).hostRx = k :: rest → s.pcieUp = true → ((s.qp k.eport).live = false ∨ s.qpFn k.eport = none) →
      Goes (.hostRxDeliver i) s [.pk, .regs] fun t =>
        t.tl i = { s.tl i with hostRx := rest } ∧ t.regs = (s.bump .hqDropCnt [2] 47 0).regs)
  ∧ (∀ r first later, let c := s.cqOf r
      c.armed = true → c.unsig = first :: later → c.time ≠ 0 → first + c.time * usTicks ≤ s.mast.tick →
      Goes (.cqCoalTimeout r) s [.host, .out] fun t =>
        t.cqOf r = { c with armed := false, unsig := [] } ∧ t.out = (fnSignal (s.cqFn r) c.vector s).out)
  ∧ (∀ k rest data, i < 32 → z.ready = k :: rest → z.running = none → z.enabled = true →
      (s.pcieUp = true ∨ s.chanCluster i ≠ none) → k.status = 0 → (∀ y ∈ k.items, jobCheck (s.devAccess i) y.2 = 0 ∧ (jobUse y.2).ret = false) →
      Goes (.dmaChainStart i data) s [.host] fun t => t.chan i = { z with ready := rest, running := some (k, data) })
  ∧ (∀ k data n e, let w := e.getD 0 0
      i < 32 → z.running = some (k, data) → k.status = 0 → k.items = [(n, e)] → jbCrc w = 0 → jbSrcDev w = false → jbDstDev w = false →
      jbLen w ≤ data.length → (jobUse e).ret = false → (jobUse e).shared = false → CqRoom (.chan i) s →
      Goes (.dmaChainDone i 0) s [.hk, .host, .out] fun t =>
        (t.chan i).running = none ∧ (t.chan i).jobs = (z.jobs + 1) % 2 ^ 24 ∧ (t.chan i).bytes = z.bytes + jbLen w
        ∧ CqHas (.chan i) (dmaDone k 0 0 (jbLen w))
            [{ fn := s.chanFn i, addr := (e.getD 2 0).toNat, bytes := data.take (jbLen w) }] s t)

/-- POWER_TOLERANCE sets the tolerance of one group or of all eight (R341). OP_POINT_SET writes an entry that keeps the entries rising, and makes it the
preferred one of the phases it names (R350). POWER_CAP sets CAP (R357). DOMAIN_FORCE gives one domain or all its policy: a deeper state is entered at
once, from a deeper one the exit begins (R346). The device-wide PS3 or PS4, with no timeline configured, answers and takes every domain down (R348). -/
def Obligations.PowerCommands : Prop := ∀ (c : Cmd) (s : State),
  let change := [regAddr .pwrIntStatus [], regAddr .intSignalCnt []]
  (Taken 0x0B00 noDomain c s → (c.n 0 < 8 ∨ c.n 0 = 255) → c.n 1 < 2 ^ 32 →
      Completes (.powerTolerance c) c s [] [.power] [] fun t =>
        (∀ g < 8, tget 0 t.power.tolerance g = if c.n 0 = g ∨ c.n 0 = 255 then c.n 1 else tget 0 s.power.tolerance g)
        ∧ t.power = { s.power with tolerance := t.power.tolerance, domains := t.power.domains }
        ∧ ∀ d, (t.domain d).state = (s.domain d).state ∧ (t.domain d).force = (s.domain d).force)
  ∧ (let k := c.n 0
      let lo := s.opEntry (k - 1)
      let hi := s.opEntry (k + 1);
      Taken 0x0B01 noDomain c s → k < 8 → 620 ≤ c.n 1 → c.n 1 ≤ 820 → c.n 1 % 5 = 0 → 400 ≤ c.n 2 → c.n 2 ≤ 1600 → c.n 2 % 25 = 0 →
      c.n 3 ≤ 2 → c.n 4 < 16 → (k = 0 ∨ (lo.vcore ≤ c.n 1 ∧ lo.freq ≤ c.n 2 ∧ c.n 3 ≤ lo.serdes)) →
      (k = 7 ∨ (c.n 1 ≤ hi.vcore ∧ c.n 2 ≤ hi.freq ∧ hi.serdes ≤ c.n 3)) →
      Completes (.opPointSet c) c s [] [.power] [] fun t =>
        t.opEntry k = { vcore := c.n 1, freq := c.n 2, serdes := c.n 3 } ∧ (∀ j, j ≠ k → t.opEntry j = s.opEntry j)
        ∧ (∀ ph < 4, t.preferred ph = if (c.n 4).testBit ph then k else s.preferred ph) ∧ t.power.domains = s.power.domains)
  ∧ (Taken 0x0B02 noDomain c s → 500 ≤ c.n 0 → c.n 0 ≤ 1400 →
      Completes (.powerCap c) c s [] [.power] [] fun t => t.power = { s.power with cap := c.n 0 })
  ∧ (let named := fun (k : Nat) => c.n 0 = 255 ∨ c.n 0 = k
      let f := c.n 1;
      Taken 0x0B03 noDomain c s → (c.n 0 < 38 ∨ c.n 0 = 255) → f ≤ 5 → c.n 2 ≤ 4 → c.n 3 < 256 → 1 ≤ c.n 4 → c.n 4 ≤ 1000000 → 5 ≤ c.n 5 →
      c.n 5 ≤ 50 → (c.n 0 = 255 → f < 4) → (f = 0 ∨ ∀ k < 38, named k → s.forceBad k (f - 1) = false) →
      Completes (.domainForce c) c s [] [.flt, .power] change fun t => ∀ k < 38,
        let x := s.domain k
        let y := t.domain k
        (named k → y.force = f ∧ y.maxState = c.n 2 ∧ y.groupMask = c.n 3 ∧ y.idleHold = c.n 4 ∧ (k = 32 ∨ k = 33 → y.xbarLow = c.n 5)
          ∧ (f = 0 → y.state = x.state ∧ (x.force ≠ 0 → 0 < x.state → y.exiting = true))
          ∧ (x.state + 1 < f → y.state = f - 1 ∧ y.exiting = false)
          ∧ (f ≠ 0 → f ≤ x.state → y.state = x.state ∧ y.exiting = true))
        ∧ (¬named k → y.state = x.state ∧ y.force = x.force ∧ y.maxState = x.maxState))
  ∧ (let f := c.n 1;
      Taken 0x0B03 noDomain c s → c.n 0 = 255 → (f = 4 ∨ f = 5) → c.n 2 ≤ 4 → c.n 3 < 256 → 1 ≤ c.n 4 → c.n 4 ≤ 1000000 → 5 ≤ c.n 5 →
      c.n 5 ≤ 50 → (∀ k < 8, (s.timeline k).configured = false) →
      Completes (.deviceWideForce c) c s [] [.flt, .power] change fun t =>
        (∀ k < 38, (t.domain k).state = f - 1 ∧ (t.domain k).exiting = false ∧ (t.domain k).force = f)
        ∧ t.power.deviceForce = f - 1 ∧ t.deviceState = f - 1)

/-- An AUTO domain enters a deeper state when all of R340 to R344 allows it, and no other; a forced domain does not. A trigger makes an AUTO domain begin
its exit (R345). The exit ends in the state that its policy gives, PS0 for AUTO, once the domains that it depends on have left theirs; one whose repair map has failed stays as it is (R400); a Tile that
returns from PS3 or PS4 has lost its packets, rules and addresses (R338). SIDEBAND_WAKE begins the exit of the management domain, and after a device-wide
PS3 that of every domain (R349). PERST_N rises (R449). -/
def Obligations.DomainMoves : Prop := ∀ (d : Nat) (s : State), d < 38 → Live s →
  let x := s.domain d
  let change := [regAddr .pwrIntStatus [], regAddr .intSignalCnt []]
  let done := fun (t : State) => (t.domain d).state = s.exitState d ∧ (t.domain d).exiting = false ∧ (t.domain d).idleSince = List.replicate 4 s.mast.tick
  (∀ st cells l1 l, x.force = 0 → x.exiting = false → x.state < st → st ≤ x.maxState → autoLatency d st = some l → l ≤ s.tolerance d →
      (2 < st ∨ s.lookahead d (nsTicks l + usTicks) = false) → (st ≤ 2 ∨ s.unconcerned d = true) → (d = 36 → st < 3) →
      s.idleFor d st cells l1 = true → x.idleSince.getD (st - 1) 0 + x.idleHold * usTicks ≤ s.mast.tick → s.dependsOk d st = true →
      Goes (.domainEnter d st cells l1) s [.out, .flt, .regs, .power] fun t =>
        (t.domain d).state = st ∧ (t.domain d).force = 0 ∧ (∀ k, k ≠ d → t.domain k = s.domain k) ∧ RegsBut change s t)
  ∧ (∀ st cells l1, (x.force ≠ 0 ∨ x.maxState < st ∨ st ≤ x.state ∨ autoLatency d st = none ∨ s.dependsOk d st = false) →
      exec (.domainEnter d st cells l1) s = .next s)
  ∧ (x.force = 0 → 0 < x.state → Goes (.domainExit d) s [.power] fun t =>
        t.domain d = { x with exiting := true } ∧ ∀ k, (t.domain k).state = (s.domain k).state)
  ∧ (x.force ≠ 0 → exec (.domainExit d) s = .next s)
  ∧ (x.exiting = true → (s.followers d).all (fun k => !(s.domain k).exiting) = true → s.mayCome d (s.exitState d) = true → d ≠ domMgmt → x.recorded = [] →
      (∀ w ∈ s.cmd.waiting, w.domain ≠ d) →
      (x.state ≤ 1 ∨ (x.state = 2 ∧ ∀ o ∈ s.objectsOf d, (tget {} s.epochs o.1).changed = false) →
        Goes (.domainExitDone d) s [.pk, .out, .regs, .power] fun t =>
          done t ∧ (∀ k, k ≠ d → t.domain k = s.domain k) ∧ RegsBut change s t)
      ∧ (d < 16 → d ∉ s.sec.badMaps → (x.state = 3 ∨ x.state = 4) →
        Goes (.domainExitDone d) s [.mast, .port, .pk, .host, .cmd, .out, .flt, .epochs, .regs, .power, .sec] fun t =>
          done t ∧ t.slice d = {} ∧ (t.tl d).l2 = [] ∧ (t.tl d).rules = [] ∧ (t.tl d).encap = [] ∧ (t.tl d).egress = []
          ∧ (x.state = 3 → (t.tl d).l2Seed = (s.tl d).l2Seed ∧ (t.tl d).emSeed = (s.tl d).emSeed))
      ∧ (d ≠ domMast → d ∈ s.sec.badMaps → 3 ≤ x.state →
        Goes (.domainExitDone d) s [.host, .cmd, .out, .flt, .regs, .power] fun t =>
          (t.domain d).state = x.state ∧ (t.domain d).exiting = false))
  ∧ ((∃ k ∈ s.followers d, (s.domain k).exiting = true) → exec (.domainExitDone d) s = .next s)
  ∧ (s.mayCome d (s.exitState d) = false → exec (.domainExitDone d) s = .next s)
  ∧ (s.power.deviceForce < 3 → 0 < (s.domain domMgmt).state → Goes .sidebandWake s [.power] fun t =>
        (t.domain domMgmt).exiting = true ∧ ∀ k, k ≠ domMgmt → t.domain k = s.domain k)
  ∧ (s.power.deviceForce = 3 → Goes .sidebandWake s [.power] fun t => t.power.deviceForce = 0 ∧ ∀ k < 38,
        (t.domain k).force = 0 ∧ (t.domain k).state = (s.domain k).state ∧ (0 < (s.domain k).state → (t.domain k).exiting = true))
  ∧ Goes .perstNDeassert s [.power] (fun t => t.power = { s.power with perstN := true })

/-- The frame, slew and settle of a voltage step end one after the other, a fall without the last (R353, R354); a Tile's clock reaches its new
frequency. A regulator fault holds the operating points until AVS_FAULT_CLR (R354). An estimation interval moves CEIL and THROTTLE by the cap loop (R357);
at 108 °C the lowest entry and THROTTLE 4 hold (R451), and at 115 °C the part stops (R452). A prewarm without work ramps down (R359), and the
shaper lets the current of a window fall by no more than the limit (R361). -/
def Obligations.VoltageAndPower : Prop := ∀ (d : Nat) (s : State), d < 40 → Live s →
  let p := s.power
  let now := s.mast.tick
  let free := p.removing = none
  (∀ a, p.avs = some a → a.due ≤ now →
      (a.phase = 0 → free → Goes .avsFrameDone s [.power] fun t =>
        t.power = { p with avs := some { a with phase := 1, start := a.due, due := a.due + s.slewTicks a } })
      ∧ (a.phase = 0 → p.removing ≠ none → Goes .avsFrameDone s [.out, .power] fun t =>
        ∃ b, t.power = { p with avs := some b } ∧ b.phase = 3 ∧ b.src = a.src)
      ∧ (a.phase = 3 → Goes .avsFrameDone s [.power] fun t => t.power = { p with avs := none, vcore := a.dst, avsHold := true })
      ∧ (a.phase = 1 → Goes .avsStepComplete s [.out, .power] fun t =>
        t.power.vcore = a.dst ∧ (s.voltageNeed = a.dst → t.power.avs =
          if a.src < a.dst then some { a with phase := 2, start := now, due := now + s.avsSettle } else none))
      ∧ (a.phase = 2 → Goes .avsSettleExpiry s [.out, .power] fun t =>
        t.power.vcore = p.vcore ∧ (s.voltageNeed = p.vcore → t.power.avs = none
          ∧ (free → p.avsFault = false → p.avsHold = false → ∀ i < 16, s.awake i = true → s.freqNext i = none →
              s.freqOf i < s.tileGoal i → vmin (s.tileGoal i) (fMax i) ≤ p.vcore → t.freqNext i = some (s.tileGoal i)))))
  ∧ (∀ f, d < 16 → s.freqNext d = some f → Goes (.tileFreqDone d) s [.out, .power] fun t =>
        t.freqOf d = f ∧ ∀ i, i ≠ d → t.freqOf i = s.freqOf i)
  ∧ Goes .avsFault s [.out, .regs, .power] (fun t =>
        t.power = { p with avsFault := true, avs := none } ∧ bitAt (t.rg .pwrIntStatus []) 4 = true)
  ∧ (∀ v, Goes (.avsFaultClear v) s [.out, .regs, .power] fun t =>
        t.power.avsFault = (p.avsFault && !bitAt v 16) ∧ t.rgf .avsCfg [] 15 8 = fld v 15 8
        ∧ t.rgf .avsCfg [] 3 0 = (if 1 ≤ fld v 3 0 ∧ fld v 3 0 ≤ 5 then fld v 3 0 else s.rgf .avsCfg [] 3 0)
        ∧ RegsBut [regAddr .avsCfg []] s t)
  ∧ (intervalEnd (p.intervals + 1) ≤ now → Goes .estimationInterval s [.out, .regs, .power, .freeCtr] fun t =>
        let q := (Config.freeWord s.freeCtr).toNat % 2 ^ 32
        let h := (q :: p.history).take 16
        let avg := h.foldl (· + ·) 0 / 16
        let cap := 1000 * p.cap
        let run := if 100 * avg < 95 * cap then p.lowRun + 1 else 0
        let still := p.hot = true ∨ s.avsComplete = false
        t.power.history = h ∧ t.power.intervals = p.intervals + 1
        ∧ t.power.ceil = (if still then p.ceil else if cap < avg ∧ 0 < p.ceil then p.ceil - 1
            else if 64 ≤ run ∧ p.ceil < 7 then p.ceil + 1 else p.ceil)
        ∧ t.power.throttle = (if still then p.throttle else if 11 * cap < 10 * q then min 4 (p.throttle + 1)
            else if q ≤ cap then p.throttle - 1 else p.throttle))
  ∧ (∀ sensor reading, 108 ≤ reading → Goes (.thermalThrottle sensor reading) s [.host, .cmd, .out, .flt, .regs, .power] fun t =>
        t.power.ceil = 0 ∧ t.power.throttle = 4 ∧ t.power.hot = true ∧ bitAt (t.rg .pwrIntStatus []) 2 = true
        ∧ t.rg .faultCnt [0, 0, 14] = s.rg .faultCnt [0, 0, 14] + 1)
  ∧ Goes .thermalRecover s [.power] (fun t => t.power = { p with hot := false })
  ∧ Goes .thermTrip s [.out, .power] (fun t => t.power = { p with thermTripN := false, floating := true } ∧ t.halted = true)
  ∧ (let f := (s.domain d).filler;
      f.kind = 1 → f.since + s.rgf .fillProfile [f.profile] 47 38 * usTicks ≤ now → Goes (.prewarmHoldExpiry d) s [.power] fun t =>
        t.domain d = { s.domain d with filler := { f with kind := 2, level := 0, since := now } } ∧ ∀ k, k ≠ d → t.domain k = s.domain k)
  ∧ (∀ current, let lim := 4 * s.rgf .didtLimit [] 15 0
      Goes (.didtWindow current) s [.out, .regs, .power] fun t =>
        t.power = { p with didtCurrent := max current (p.didtCurrent - lim) }
        ∧ t.rgf .pwrCnt [] 63 48 = (if p.didtCurrent + lim < current then satAdd 16 (s.rgf .pwrCnt [] 63 48) 1 else s.rgf .pwrCnt [] 63 48))

/-- CELL_SLEEP SLEEP on an ACTIVE timeline proposes the agreement to every participant and answers later (R362, R364). The proposal goes again
each 1 ms to those that are silent; an accept counts, a refusal dooms it. At the commit point it is committed when all have accepted, else cancelled
(R364). The sleep sets the timeline's MODE and slots (R365); WAKE_LEAD before the wake frame the lanes wake, and with it MODE is ACTIVE again (R366).
A wake request before the commit cancels; after it the first one fixes the wake frame, which every participant is told (R367). Every message goes to the injection input of its port's Tile (log 76). -/
def Obligations.CellSleepSteps : Prop := ∀ (c : Cmd) (s : State) (T : Nat), T < 8 →
  let x := s.sleepOf T
  let now := s.mast.tick
  let sent := fun (typ cause w : Nat) (y : CellSleep) (ps : List Nat) => s.out.mgmtTx ++
    ps.map fun p => (p, dravuaFrame p (sleepMsg typ T cause w y p s) s)
  let told := fun (typ cause w : Nat) (y : CellSleep) (ps : List Nat) (t : State) => t.out.mgmtTx = sent typ cause w y ps
  let becomes := fun (y : CellSleep) (t : State) => t.sleepOf T = y ∧ ∀ k, k ≠ T → t.sleepOf k = s.sleepOf k
  let f := s.wakeFrameFor T x
  let fixed := { x with wakeFixed := true, wakeSfn := sfnOf f, wakeAt := some f }
  (let g := s.sleepFrameFor T (c.n 2) (c.n 5)
    let parts := (s.bank s.rig.active).set (c.n 4);
    Taken 0x0B04 noDomain c s → c.n 0 = T → c.n 1 = 0 → firstBad (cellSleepRanges c) = none → (s.timeline T).mode = 1 → x.state = 0 →
    (∀ p < 512, bitAt (parts.getD (p / 64) 0) (p % 64) = true → s.linkUp p = true ∧ (s.prt p).schedDoze = true) →
    s.awake (domCluster 0) = true →
    Goes (.cellSleepSleep c) s [.cmd, .out, .regs, .power] fun t => ∃ y,
      becomes y t ∧ y.state = 1 ∧ y.agreement = (x.agreement + 1) % 65536 ∧ y.sleepSfn = c.n 2 ∧ y.commitSfn = sfnOf (g - c.n 5)
      ∧ y.wakeSfn = c.n 3 ∧ y.wakeFixed = false ∧ y.accepts = 0 ∧ y.answered = 0 ∧ y.refused = false ∧ y.parts = parts
      ∧ y.sleepFrame = g ∧ y.commitFrame = g - c.n 5 ∧ y.notice = c.n 6 ∧ y.grid = c.n 7 ∧ y.lead = c.n 8
      ∧ told 0x40 0 y.wakeField y (s.participants y) t
      ∧ t.cmd = { (noteIntake c s).cmd with opened := s.cmd.opened ++ [{ cmd := c, kind := 0x0B04, key := T }] })
  ∧ (let wake := Taken 0x0B04 noDomain c s ∧ c.n 0 = T ∧ c.n 1 = 1 ∧ firstBad (cellSleepRanges c) = none;
    (wake → x.state = 0 → x.wakeFixed = false → Completes (.cellSleepWake c) c s [0] [] [regAddr .cellSleepCnt [T]] fun t =>
      t.rgf .cellSleepCnt [T] 31 16 = satAdd 16 (s.rgf .cellSleepCnt [T] 31 16) 1)
    ∧ (wake → 2 ≤ x.state → x.wakeFixed = false →
      Completes (.cellSleepWake c) c s [mk 15 15 1 ||| mk 9 0 (sfnOf f)] [.power] [regAddr .cellSleepCnt [T]] fun t =>
        becomes fixed t ∧ sent 0x45 0 (sfnOf f) x (s.present x) <+: t.out.mgmtTx)
    ∧ (wake → 2 ≤ x.state → x.wakeFixed = true →
      Completes (.cellSleepWake c) c s [mk 15 15 1 ||| mk 9 0 x.wakeSfn] [] [regAddr .cellSleepCnt [T]] fun t =>
        sent 0x45 0 x.wakeSfn x (s.present x) <+: t.out.mgmtTx))
  ∧ (Live s →
    (x.state = 1 → x.lastSend + msTicks ≤ now → Goes (.sleepProposeResend T) s [.out, .power] fun t =>
      becomes { x with lastSend := now } t
      ∧ told 0x40 0 x.wakeField x ((s.participants x).filter fun p => !x.answered.testBit p) t)
    ∧ (∀ p b, p < 512 → byteAt b 20 % 8 = T → byteAt b 15 = 1 → (x.state = 0 ∨ p ∈ s.participants x) →
      (byteAt b 14 = 0x41 → x.matched b = true → x.answered.testBit p = false → Goes (.sleepAccept p b) s [.power]
        (becomes { x with answered := x.answered ||| 2 ^ p, accepts := x.accepts + 1 }))
      ∧ (byteAt b 14 = 0x42 → x.state = 1 → bytesNat b 16 2 = x.agreement → Goes (.sleepRefuse p b) s [.power] (becomes { x with
          refused := true, answered := x.answered ||| 2 ^ p
          accepts := if x.answered.testBit p = true then x.accepts - 1 else x.accepts }))
      ∧ (byteAt b 14 = 0x44 →
        (x.state = 0 → Goes (.cellWake p b) s [.out, .regs] (told 0x45 0 0xFFFF x [p]))
        ∧ (x.state = 1 → Goes (.cellWake p b) s [.host, .cmd, .out, .regs, .power]
            (becomes { x with state := 0, cause := 3, wakeFixed := false }))
        ∧ (2 ≤ x.state → x.wakeFixed = false → Goes (.cellWake p b) s [.out, .regs, .power] fun t =>
            becomes fixed t ∧ told 0x45 0 (sfnOf f) x (s.present x) t)
        ∧ (2 ≤ x.state → x.wakeFixed = true → Goes (.cellWake p b) s [.out, .regs] (told 0x45 0 x.wakeSfn x [p]))))
    ∧ (x.state = 1 → s.frameTick T x.commitFrame ≤ now →
      let mine := fun (o : OpenCmd) => o.kind == 0x0B04 && o.key == T
      let ended := fun (st : Status) (t : State) => t.cmd.opened = s.cmd.opened.filter (fun o => !mine o)
        ∧ ∀ o ∈ s.cmd.opened, mine o = true → ∃ r ∈ t.out.replies, r.src = o.cmd.src ∧ fld r.w0 31 16 = o.cmd.tag ∧ fld r.w1 63 48 = st.code;
      (x.refused = false → x.accepts = (s.participants x).length →
        Goes (.sleepCommitPoint T) s [.host, .cmd, .out, .regs, .power] fun t => becomes { x with state := 2 } t ∧ ended .ok t)
      ∧ ((x.refused = true ∨ x.accepts ≠ (s.participants x).length) →
        Goes (.sleepCommitPoint T) s [.host, .cmd, .out, .regs, .power] fun t =>
          becomes { x with state := 0, cause := if x.refused = true then 2 else 1, wakeFixed := false } t ∧ ended .cancelled t))
    ∧ (x.state = 2 → s.frameTick T x.sleepFrame ≤ now →
      Goes (.cellSleepStart T) s [.mast, .rig, .port, .out, .regs, .power] fun t =>
        becomes { x with state := 3 } t ∧ (t.timeline T).mode = 2
        ∧ ∀ d < 34, (t.domain d).slots = (s.domain d).slots.set T (s.preferred 3 + 1))
    ∧ (∀ w, x.state = 3 → x.wakeAt = some w → s.frameTick T w ≤ now + x.lead →
      Goes (.cellWakeLead T) s [.mast, .port, .out, .regs, .power] (becomes { x with state := 4 }))
    ∧ (∀ w, (x.state = 3 ∨ x.state = 4) → x.wakeAt = some w → s.frameTick T w ≤ now →
      Goes (.cellWakeFrame T) s [.mast, .rig, .port, .pk, .hk, .sk, .host, .cmd, .out, .flt, .regs, .power] fun t =>
        becomes { x with state := 0, wakeFixed := false, wakeAt := none } t ∧ (t.timeline T).mode = 1))

/-- LIFECYCLE_ADVANCE moves to the next state with its record, and to RETIRED through a zeroization (R374). MACSEC_KEY_INSTALL puts a KEK into its
slot, unwraps a SAK or PTP key into its association, and deletes (R380). ZEROIZE begins the sequence (R390). DEBUG_OPEN draws a challenge, stages words, and
with a matching token begins a zeroization (R387, R388); DEBUG_CLOSE closes the level, from FULL through a warm reset (R392). -/
def Obligations.SecurityCommands : Prop := ∀ (c : Cmd) (s : State),
  let k := s.sec
  let opens := fun (kind : Nat) (t : State) =>
    t.cmd = { (noteIntake c s).cmd with opened := s.cmd.opened ++ [{ cmd := c, kind := kind, key := 0 }] }
  (let target := fld (c.p 0) 2 0;
    Taken 0x0C00 noDomain c s → fld (c.p 0) 63 32 = 0x4C435943 →
    (target = k.lifecycle + 1 → target < 4 → k.level = 0 → k.zero = none →
      (target = 2 → k.burned = [] ∨ ∀ i < 48, k.burned.getD i 0 = (hashWords c).getD i 0) →
      Completes (.lifecycleAdvance c) c s [] [.flt, .sec] [] fun t =>
        t.sec.lifecycle = target ∧ t.sec.low = (k.low + 1) % 2 ^ 48 ∧ t.sec.recHead = (k.recHead + 1) % 32
        ∧ (tget [] t.sec.records k.recHead).getD 0 0 = mk 63 56 5 ||| mk 55 48 target ||| mk 47 47 (b2n s.noTime)
        ∧ (tget [] t.sec.records k.recHead).getD 3 0 = BitVec.ofNat 64 t.mono
        ∧ (target = 2 → t.sec.ownerHash = (hashWords c).take 24 ∧ t.sec.debugHash = (hashWords c).drop 24))
    ∧ (target = 4 → k.lifecycle ≠ 4 → k.zero = none →
      Goes (.lifecycleAdvance c) s [.cmd, .flt, .regs, .power, .sec] fun t => ZeroStarted 3 0 s t ∧ opens 0x0C00 t))
  ∧ (let p := kiPort c
    let an := kiAn c
    let kek := tget [] k.kek (kiSlot c)
    let key := Config.unwrapKey kek ((c.params.drop 5).take 5);
    Taken 0x0C01 macsecDomain c s → k.lifecycle ≠ 0 → k.lifecycle ≠ 4 → k.level = 0 → k.keysBlocked = false →
    (kiKind c = 0 → Completes (.macsecKekInstall c) c s [] [.flt, .sec] [] fun t =>
        t.sec = { k with kek := tset [] k.kek (kiSlot c) ((c.params.drop 5).take 4) })
    ∧ (kek ≠ [] → Clean s → c.verified = true →
      (kiKind c = 1 → (s.prt p).formed = true → Completes (.macsecTxSakInstall c) c s [] [.port, .sec] [] fun t =>
        t.sec = { k with
          txSa := tset {} k.txSa (4 * p + an) (saOf c key), txAn := if bitAt (c.p 0) 40 then tset none k.txAn p (some an) else k.txAn }
        ∧ t.prt p = { s.prt p with macsec := true } ∧ ∀ x, x ≠ p → t.prt x = s.prt x)
      ∧ (kiKind c = 2 → (s.prt p).formed = true → Completes (.macsecRxSakInstall c) c s [] [.port, .sec] [] fun t =>
        t.sec = { k with rxSa := tset {} k.rxSa (32 * p + 4 * kiSc c + an) (saOf c key) }
        ∧ t.prt p = { s.prt p with macsec := true } ∧ ∀ x, x ≠ p → t.prt x = s.prt x)
      ∧ (kiKind c = 3 → Completes (.macsecPtpKeyInstall c) c s [] [.sec] [] fun t =>
        t.sec = { k with ptpKeys := tset [] k.ptpKeys (4 * kiSc c + an) key }))
    ∧ (kiKind c = 4 → Completes (.macsecKeyDelete c) c s [] [.flt, .sec] [] fun t =>
        (p = 511 → kiSc c = 7 → t.sec = { k with kek := t.sec.kek } ∧ tget [] t.sec.kek (kiSlot c) = []
          ∧ ∀ i, i ≠ kiSlot c → tget [] t.sec.kek i = tget [] k.kek i)
        ∧ (p = 511 → kiSc c ≠ 7 → t.sec = { k with ptpKeys := t.sec.ptpKeys } ∧ tget [] t.sec.ptpKeys (4 * kiSc c + an) = [])
        ∧ (p ≠ 511 → t.sec = { k with rxSa := t.sec.rxSa, txSa := t.sec.txSa, txAn := t.sec.txAn }
          ∧ tget {} t.sec.rxSa (32 * p + 4 * kiSc c + an) = {} ∧ (kiSc c = 0 → tget {} t.sec.txSa (4 * p + an) = {}))))
  ∧ (Taken 0x0C02 noDomain c s → k.zero = none →
      Goes (.zeroize c) s [.cmd, .flt, .regs, .power, .sec] fun t => ZeroStarted 1 0 s t ∧ opens 0x0C02 t ∧ t.sec.recHead = 1)
  ∧ (Taken 0x0C03 noDomain c s → k.zero = none →
    (let level := fld (c.p 0) 9 8
      let nonce := (List.range 4).map fun i => Config.freeWord (s.freeCtr + i);
      fld (c.p 0) 1 0 = 0 → (level = 1 ∨ level = 2) →
      Completes (.debugChallenge c) c s
        ([Config.deviceUid] ++ nonce ++ [BitVec.ofNat 64 s.mono, mk 2 0 k.lifecycle ||| mk 9 8 k.level]) [.sec, .freeCtr] [] fun t =>
          t.sec = { k with
            challenge := some { src := c.src, level := level, nonce := nonce, mono := s.mono, tick := s.mast.tick } })
    ∧ (∀ ch, k.challenge = some ch → ch.src = c.src →
      (let off := fld (c.p 0) 31 16
        let ws := c.params.drop 1;
        fld (c.p 0) 1 0 = 1 → ws ≠ [] → ws.length ≤ 28 → off + ws.length ≤ 1024 →
        Completes (.debugPart c) c s [] [.flt, .sec] [] fun t =>
          t.sec = { k with staging := t.sec.staging } ∧ ∀ i, tget 0 t.sec.staging i =
            if off ≤ i ∧ i < off + ws.length then ws.getD (i - off) 0 else tget 0 k.staging i)
      ∧ (let given := c.params.drop 1
        let token := if given = [] then (List.range 935).map fun i => tget 0 k.staging i else given;
        fld (c.p 0) 1 0 = 2 → k.level < ch.level →
        (k.lifecycle < 2 ∨ k.lifecycle = 4 ∨ (ch.used = false ∧ Clean s ∧ s.tokenOk ch token c.verified = true)) →
        Goes (.debugOpen c) s [.cmd, .flt, .regs, .power, .sec] fun t =>
          ZeroStarted 0 ch.level s t ∧ opens 0x0C03 t ∧ t.sec.challenge = none ∧ t.sec.level = k.level)))
  ∧ (Taken 0x0C04 noDomain c s →
    (k.level = 1 → Completes (.debugClose c) c s [] [.flt, .sec] [regAddr .secIntStatus [], regAddr .intSignalCnt []] fun t =>
        t.sec = { k with level := 0, keysBlocked := k.secFault || k.zero.isSome } ∧ bitAt (t.rg .secIntStatus []) 3 = true)
    ∧ (k.level = 0 → Completes (.debugClose c) c s [] [] [] fun _ => True)
    ∧ (k.level = 2 → s.resetHeld = false → ∃ t, exec (.debugClose c) s = .next t ∧ Answers c .ok 0 [] t ∧ WarmStarted 6 s t))

/-- A zeroization whose woken domains are in PS0 clears every association, PTP key, challenge and staged word, and ends as its cause says: the level
of an OPEN, CLOSED after a tamper or a removal, RETIRED, or the reply to ZEROIZE (R390, R391); a failed read-back leaves keys blocked and sets
SEC_FAULT. A challenge lapses after 60 s (R387). A tamper response closes the debug level and zeroizes, in a running zeroization it is noted, and on VBAT
alone it clears the locker (R385); source VBAT is none while main power is present. -/
def Obligations.SecurityEvents : Prop := ∀ (s : State),
  let k := s.sec
  let ended := fun (kind : Nat) (st : Status) (t : State) => ∀ o ∈ s.cmd.opened, o.kind = kind → o.key = 0 →
    ∃ r ∈ t.out.replies, r.src = o.cmd.src ∧ fld r.w0 31 16 = o.cmd.tag ∧ fld r.w1 63 48 = st.code
  let gone := fun (t : State) => t.sec.zero = none ∧ t.sec.txSa = [] ∧ t.sec.rxSa = [] ∧ t.sec.txAn = [] ∧ t.sec.ptpKeys = []
    ∧ t.sec.challenge = none ∧ t.sec.staging = [] ∧ bitAt (t.rg .secIntStatus []) 1 = true
  let parts : List Part := [.host, .cmd, .out, .flt, .regs, .power, .sec]
  (∀ z, Live s → k.zero = some z → (∀ d ∈ z.woken, (s.domain d).state = 0) →
      ((s.fault 3 0).forced.testBit 12 = false →
        (z.cause = 0 → z.tampered = false → z.removal = false → Goes .zeroizeKeysClear s parts fun t =>
          gone t ∧ t.sec.level = z.level ∧ t.sec.keysBlocked = k.keysBlocked ∧ ended 0x0C03 .ok t ∧ bitAt (t.rg .secIntStatus []) 2 = true)
        ∧ (z.cause = 0 → (z.tampered = true ∨ z.removal = true) → Goes .zeroizeKeysClear s parts fun t =>
          gone t ∧ t.sec.level = 0 ∧ t.sec.keysBlocked = k.secFault ∧ ended 0x0C03 .notPermitted t)
        ∧ (z.cause = 3 → Goes .zeroizeKeysClear s parts fun t =>
          gone t ∧ t.sec.lifecycle = 4 ∧ t.sec.level = k.level ∧ t.sec.keysBlocked = (k.secFault || k.level != 0)
          ∧ t.sec.low = (k.low + 1) % 2 ^ 48 ∧ ended 0x0C00 .ok t)
        ∧ (z.cause ≠ 0 → z.cause ≠ 3 → Goes .zeroizeKeysClear s parts fun t =>
          gone t ∧ t.sec.level = k.level ∧ t.sec.keysBlocked = (k.secFault || k.level != 0) ∧ ended 0x0C02 .ok t))
      ∧ ((s.fault 3 0).forced.testBit 12 = true → z.cause ≠ 3 → Goes .zeroizeKeysClear s parts fun t =>
          gone t ∧ t.sec.secFault = true ∧ t.sec.level = k.level ∧ t.sec.keysBlocked = k.keysBlocked ∧ ended 0x0C03 .notPermitted t
          ∧ ended 0x0C02 .internalError t ∧ t.rg .faultCnt [3, 0, 12] = s.rg .faultCnt [3, 0, 12] + 1))
  ∧ (∀ z d, Live s → k.zero = some z → d ∈ z.woken → (s.domain d).state ≠ 0 → exec .zeroizeKeysClear s = .next s)
  ∧ (∀ ch, Live s → k.challenge = some ch →
      (ch.tick + 60 * secTicks ≤ s.mast.tick → Goes .challengeLapse s [.sec] fun t => t.sec = { k with challenge := none })
      ∧ (s.mast.tick < ch.tick + 60 * secTicks → exec .challengeLapse s = .next s))
  ∧ (∀ b, b < 5 →
      (Live s → s.power.mainPower = true → b ≠ 1 → k.zero = none → Goes (.tamper b) s [.out, .flt, .regs, .power, .sec] fun t =>
        ZeroStarted 2 0 s t ∧ t.sec.tamper = 2 ^ b ∧ t.sec.level = 0 ∧ bitAt (t.rg .secIntStatus []) 0 = true
        ∧ (tget [] t.sec.records 0).getD 0 0 = mk 63 56 2 ||| mk 55 48 (2 ^ b) ||| mk 47 47 (b2n s.noTime))
      ∧ (∀ z, Live s → s.power.mainPower = true → b ≠ 1 → k.zero = some z → Goes (.tamper b) s [.out, .flt, .regs, .sec] fun t =>
        t.sec.zero = some { z with tampered := true } ∧ t.sec.tamper = 2 ^ b ∧ t.sec.level = 0 ∧ t.sec.low = (k.low + 1) % 2 ^ 48)
      ∧ (Live s → s.power.mainPower = true → b = 1 → exec (.tamper b) s = .next s)
      ∧ (s.power.mainPower = false → TimeStands s → Goes (.tamper b) s [.flt, .sec] fun t =>
        t.sec.tamper = 2 ^ b ∧ t.sec.kek = [] ∧ t.sec.low = (k.low + 1) % 2 ^ 48 ∧ t.sec.recHead = 1
        ∧ (tget [] t.sec.records 0).getD 0 0 = mk 63 56 2 ||| mk 55 48 (2 ^ b) ||| mk 47 47 1))

/-- EARLY_PRESENT_N rises and falls, a short pulse counted (R370). A declared removal records itself, takes the ports down and announces itself; 500 µs later
the outputs float and REMOVED is set, and the part is halted (R371, R372). LATE_PRESENT_N low for 10 ms drives the outputs (R369). PWR_GOOD falling stops
the part (R440); the loss of main power leaves fuses, locker and profile slots alone (R441). -/
def Obligations.Presence : Prop := ∀ (s : State),
  let p := s.power
  let now := s.mast.tick
  (TimeStands s → p.earlyN = false → Goes .earlyPresentRise s [.power] fun t =>
        t.power = { p with earlyN := true, earlySince := some now, seatSince := none })
  ∧ (TimeStands s → p.earlyN = true →
      (∀ a, p.earlySince = some a → now < a + 2 * usTicks → p.removing = none → p.removed = false →
        Goes .earlyPresentFall s [.power] fun t =>
          t.power = { p with earlyN := false, earlySince := none, glitch := satAdd 16 p.glitch 1, seatSince := none })
      ∧ ((p.removing ≠ none ∨ p.removed = true ∨ p.earlySince = none ∨ ∃ a, p.earlySince = some a ∧ a + 2 * usTicks ≤ now) →
        Goes .earlyPresentFall s [.power] fun t =>
          t.power = { p with earlyN := false, earlySince := none, seatSince := if p.removed = true then some now else none }))
  ∧ (∀ a, Live s → p.earlySince = some a → a + 2 * usTicks ≤ now → p.removing = none →
      Goes .removalDeclared s [.mast, .port, .host, .cmd, .out, .flt, .regs, .power, .sec] fun t =>
        t.power.removing = some now ∧ t.halted = false ∧ bitAt (t.rg .pwrIntStatus []) 6 = true
        ∧ (∀ v < 512, (s.prt v).formed = true → (t.prt v).state = 4 ∧ (t.prt v).cause = 12 ∧ (t.prt v).adminUp = false)
        ∧ t.sec.recHead = (s.sec.recHead + 1) % 32
        ∧ (tget [] t.sec.records s.sec.recHead).getD 0 0 = mk 63 56 1 ||| mk 47 47 (b2n s.noTime)
        ∧ ∀ z, s.sec.zero = some z → t.sec.zero = some { z with removal := true })
  ∧ (∀ a, Live s → p.earlySince = some a → now < a + 2 * usTicks → exec .removalDeclared s = .next s)
  ∧ (∀ d, Live s → p.removing = some d → d + 500 * usTicks ≤ now → Goes .removalFloat s [.out, .power] fun t =>
        t.power = { p with removed := true, removing := none, floating := true, seatSince := if p.earlyN = true then none else some now }
        ∧ t.halted = true)
  ∧ (s.halted = false → TimeStands s → p.floating = true → p.goodSince + 10 * msTicks ≤ now → Goes .outputEnable s [.out, .power] fun t =>
        t.power = { p with lateN := false, floating := false })
  ∧ (TimeStands s → p.pwrGood = true → Goes .powerDown s [.out, .power] fun t =>
        t.power = { p with pwrGood := false, floating := true, thermTripN := true, removing := none, removed := false, seatSince := none }
        ∧ t.halted = true)
  ∧ (∃ t, exec .mainPowerLoss s = .next t ∧ t.halted = true ∧ t.power.mainPower = false ∧ t.time = {} ∧ t.pending = s.pending
      ∧ t.boot.slots = s.boot.slots ∧ t.sec.lifecycle = s.sec.lifecycle ∧ t.sec.floors = s.sec.floors ∧ t.sec.kek = s.sec.kek
      ∧ t.sec.records = s.sec.records ∧ t.sec.low = s.sec.low ∧ t.sec.loss = s.sec.loss ∧ t.sec.txSa = [] ∧ t.sec.ptpKeys = []
      ∧ t.regs = [] ∧ t.port = {} ∧ t.pk = {} ∧ t.hk = {} ∧ t.sk = {} ∧ t.host = {} ∧ t.cmd = {})

/-- RESET_N, the cold and warm commands, the return from the device-wide PS4 and the re-seat after a removal reset the part as Table 18-1 says, each with its
cause in RESET_CAUSE (R417, R434); none acts during a removal or after it (R418), and a write of DEV_RESET_CTL acts only with its key and one of its two bits.
The power-on reset also clears what only a loss of power clears, and leaves the outputs floating. -/
def Obligations.Resets : Prop := ∀ (s : State),
  (s.halted = false → s.resetHeld = false → ∃ t, exec .resetNColdReset s = .next t ∧ ColdStarted 1 s t)
  ∧ (∀ v, s.halted = false → fld v 63 48 = 0x5253 → s.resetHeld = false →
      (bitAt v 1 = true → bitAt v 0 = false → ∃ t, exec (.coldResetCmd v) s = .next t ∧ ColdStarted 2 s t
        ∧ t.rg .devResetCtl [] = mk 10 8 (fld v 10 8))
      ∧ (bitAt v 1 = false → bitAt v 0 = true → ∃ t, exec (.warmResetCmd v) s = .next t ∧ WarmStarted 5 s t
        ∧ t.rg .devResetCtl [] = mk 10 8 (fld v 10 8)))
  ∧ (∀ v, s.halted = false → (fld v 63 48 ≠ 0x5253 ∨ bitAt v 1 = bitAt v 0 ∨ s.resetHeld = true) →
      exec (.coldResetCmd v) s = .next s ∧ exec (.warmResetCmd v) s = .next s)
  ∧ (s.resetHeld = true → exec .resetNColdReset s = .next s)
  ∧ (s.halted = false → s.resetHeld = false → s.power.deviceForce = 4 → ∃ t, exec .sidebandWake s = .next t ∧ ColdStarted 4 s t)
  ∧ (∀ a, s.power.seatSince = some a → s.power.removed = true → s.power.pwrGood = true → s.power.mainPower = true →
      s.power.thermTripN = true → a + 100 * msTicks ≤ s.mast.tick → ∃ t, exec .reinsertReset s = .next t ∧ ColdStarted 3 s t
        ∧ t.power.removed = false ∧ t.power.floating = true ∧ t.power.lateN = true ∧ t.power.goodSince = s.mast.tick)
  ∧ (s.power.pwrGood = false → ∃ t, exec .powerOnReset s = .next t ∧ t.halted = false
      ∧ t.boot = { stage := 1, slots := s.boot.slots } ∧ t.time = {} ∧ t.mast = { tick := s.mast.tick }
      ∧ t.sec = { s.sec.kept false with tamper := 0, lockerLost := false } ∧ t.power.floating = true ∧ t.power.vcore = 820 ∧ t.power.goodSince = s.mast.tick
      ∧ t.rg .resetCause [] = 0 ∧ t.rg .devResetCtl [] = 0 ∧ t.port = {} ∧ t.pk = {} ∧ t.hk = {} ∧ t.sk = {} ∧ t.host = {} ∧ t.cmd = {})

/-- Stage 1 samples the boot pins, or fails over the repair map of a domain that it needs (R400); stages 2 and 3 take an image from SPI slot A, else slot B, else go into recovery (R419, R420), or one that the host gives
through the mailbox (R421). Stage 4 reads the board record and starts the Mast clock
(R422), and leaves a domain with a bad repair map off (R400). Stage 5 takes the selected profile or fails into stage 10 (R427);
stage 6 loads the Hook image; stage 7 leads to 8 or 9 as TIME_VALID stands (R425), stage 8 ends with TIME_VALID or its wait, stage 9 makes the profile's own
commit or leads to 10 (R426), and stage 10 sets READY (R423). -/
def Obligations.StartUp : Prop := ∀ (bs : Bool) (sel : Nat) (a b : SpiImage) (v : W) (record : List Byte) (ok vf : Bool) (s : State),
  s.halted = false → TimeStands s →
  let k := s.boot
  let parts : List Part := [.out, .flt, .regs, .sec, .boot]
  let taken := fun (typ slot : Nat) (i : SpiImage) (t : State) => t.boot.stage = typ + 3
    ∧ (typ = 0 → t.boot.bfwSlot = slot ∧ t.boot.imgBoot = spiVersion i) ∧ (typ = 1 → t.boot.folSlot = slot ∧ t.boot.imgFol = spiVersion i)
  let recovers := fun (typ cause : Nat) (t : State) => t.boot = { k with
    recovery := true, bootSrc := 1, mboxWant := typ, failStage := typ + 2, failCause := cause } ∧ bitAt (t.rg .bootIntStatus []) 1 = true
  (k.stage = 1 → s.power.floating = false → k.failStage ≠ 1 → (∀ d ∈ s.sec.badMaps, d ≠ domMgmt ∧ d < 38) →
    Goes (.stageFuses bs sel vf) s parts fun t =>
      let next := bitAt (s.rg .devResetCtl []) 10
      t.boot = { k with
        stage := 2, bootSel := b2n bs, bootSrc := b2n bs, profileSel := sel % 4
        selected := if next = true then s.rgf .devResetCtl [] 9 8 else sel % 4, selectedBy := b2n next }
      ∧ bitAt (t.rg .devResetCtl []) 10 = false
      ∧ (vf = true → s.rgf .resetCause [] 2 0 = 0 → t.sec.lockerLost = true ∧ t.sec.kek = [] ∧ t.sec.low = 0)
      ∧ (vf = false → t.sec = s.sec))
  ∧ (∀ d ∈ s.sec.badMaps, k.stage = 1 → s.power.floating = false → k.failStage ≠ 1 → (d = domMgmt ∨ 38 ≤ d) →
      Goes (.stageFuses bs sel vf) s [.host, .cmd, .out, .flt, .regs, .power, .boot] fun t =>
        t.boot = { k with failStage := 1, failCause := 4 } ∧ bitAt (t.rg .bootIntStatus []) 1 = true)
  ∧ (k.stage = 2 → k.bootSrc = 0 → (k.warm = false ∨ k.selected ≠ 4) →
      (s.imageFail 0 a = none → Goes (.stageBootFw bs sel a b) s parts (taken 0 0 a))
      ∧ (s.imageFail 0 a ≠ none → s.imageFail 0 b = none → Goes (.stageBootFw bs sel a b) s parts (taken 0 1 b))
      ∧ (∀ f, s.imageFail 0 a ≠ none → s.imageFail 0 b = some f → Goes (.stageBootFw bs sel a b) s parts (recovers 0 f)))
  ∧ (k.stage = 3 → k.bootSrc = 0 →
      (s.imageFail 1 a = none → Goes (.stageFololmane a b) s ([.host, .cmd] ++ parts) (taken 1 0 a))
      ∧ (s.imageFail 1 a ≠ none → s.imageFail 1 b = none → Goes (.stageFololmane a b) s ([.host, .cmd] ++ parts) (taken 1 1 b))
      ∧ (∀ f, s.imageFail 1 a ≠ none → s.imageFail 1 b = some f → Goes (.stageFololmane a b) s parts (recovers 1 f)))
  ∧ (let want := k.mboxWant
      let i := { a with bytes := a.bytes.take (fld v 31 0) };
      bitAt v 63 = true → k.bootSrc = 1 → s.power.perstN = true → want < 2 → k.stage = want + 2 →
      (fld v 57 56 = want → s.imageFail want i = none →
        Goes (.bootMboxGo v a) s ([.host, .cmd] ++ parts) fun t => t.boot.stage = want + 3 ∧ t.boot.mboxResult = 0)
      ∧ (∀ f, (if fld v 57 56 ≠ want then some 2 else s.imageFail want i) = some f →
        Goes (.bootMboxGo v a) s [.out, .regs, .boot] fun t => t.boot = { k with mboxResult := f }
          ∧ t.rgf .secCnt [] 47 32 = satAdd 16 (s.rgf .secCnt [] 47 32) 1))
  ∧ (k.stage = 4 → Goes (.stageDomains record) s [.mast, .pk, .host, .cmd, .out, .flt, .regs, .power, .boot, .deviceId] fun t =>
      t.mast = { s.mast with running := true } ∧ (∀ d < 38, (t.domain d).state = if d ∈ s.sec.badMaps then 4 else (s.domain d).state) ∧ match boardRecord record with
        | some r => t.deviceId = r.2 ∧ t.boot = { k with stage := 5, refoscFreq := r.1, boardRecBad := false }
        | none => t.deviceId = 0 ∧ t.boot = { k with stage := 5, refoscFreq := 2, boardRecBad := true }
          ∧ bitAt (t.rg .bootIntStatus []) 4 = true)
  ∧ (let x := s.profileSlot k.selected;
      k.stage = 5 →
      (ok = true → x.image ≠ [] → profileRefusal x.image vf s = none → Goes (.stageProfile ok vf) s parts fun t =>
        t.boot = { k with stage := 6, running := x.image, activeProfile := k.selected, activeEpoch := x.epoch, profileFail := 0 })
      ∧ ((ok = false ∨ x.image = [] ∨ profileRefusal x.image vf s ≠ none) → ∃ t, exec (.stageProfile ok vf) s = .next t
        ∧ t.boot.stage = 10 ∧ t.boot.failStage = 5 ∧ t.boot.profileFail = 1 ∧ t.boot.running = [] ∧ t.boot.activeProfile = 4
        ∧ bitAt (t.rg .bootIntStatus []) 2 = true
        ∧ ∀ y ∈ s.port.ports, (t.prt y.1).formed = true → (t.prt y.1).state = 4))
  ∧ (let want := pfHookEpoch k.running
      let inB := want != 0 && imEpoch a.bytes != want
      let i := if inB then b else a;
      k.stage = 6 → (inB = true → imEpoch b.bytes = want) →
      (i.bytes ≠ [] → i.readOk = true → s.imageFault i.bytes i.verified = none →
        Goes (.stageHook a b) s [.mast, .hk, .out, .flt, .epochs, .regs, .sec, .boot] fun t =>
          t.boot = { k with stage := 7, hookSlot := b2n inB } ∧ ∀ q < 4, (t.cluster q).active = 0)
      ∧ (i.bytes = [] → Goes (.stageHook a b) s [.out, .regs, .boot] fun t => t.boot = { k with failStage := 6, failCause := 7 }))
  ∧ (k.stage = 7 → ∃ t, exec .stagePorts s = .next t ∧ t.boot.stage = (if t.mast.timeValid = true then 9 else 8) ∧ t.boot.skipTime = false)
  ∧ (s.mast.timeValid = true → Goes .timeValidSet s [.mast, .boot] fun t =>
      t.boot = { k with stepHeld := false, stage := if k.stage = 8 then 9 else k.stage } ∧ t.mast.timeValid = true)
  ∧ (k.stage = 8 → s.mast.timeValid = false → k.timeWaitTick ≤ s.mast.tick → Goes .timeWaitExpiry s [.out, .regs, .boot] fun t =>
      t.boot = { k with stage := 9, skipTime := true } ∧ bitAt (t.rg .bootIntStatus []) 3 = true)
  ∧ (k.stage = 9 → s.pendingCommit = none →
      ((k.skipTime = true ∨ configuredBy k.running = []) → ∃ t, exec .stageSchedule s = .next t ∧ t.boot.stage = 10)
      ∧ (∀ n l, k.skipTime = false → configuredBy k.running = n :: l → ∃ t x, exec .stageSchedule s = .next t
        ∧ t.cmd.timed.getLast? = some x ∧ x.own = true ∧ x.opcode = 0x0202 ∧ x.cmd.timeline = n))
  ∧ (k.stage = 10 → k.ready = false → Goes .stageReady s [.out, .regs, .boot] fun t =>
      t.boot = { k with ready := true } ∧ bitAt (t.rg .bootIntStatus []) 0 = true)

/-- PROFILE_WRITE stores an image that every check accepts and advances its slot's epoch; PROFILE_READ returns the stored image (R431). A TACK that meets R432
is held with the answer PENDING and stages its profile; in its switch tick the Rigging banks swap, the profile runs, and the final reply follows (R433). A
due timed command whose turn it is runs its body with its second check, and answers what that gives (R295): a POWER_TOLERANCE, for one, sets its tolerances then. -/
def Obligations.ProfilesAndTack : Prop := ∀ (c : Cmd) (s : State),
  let n := fld (c.p 0) 1 0
  let img := c.params.drop 1
  let x := s.profileSlot n
  let left := fun (u : TimedCmd) => { s with cmd := { s.cmd with timed := s.cmd.timed.erase u } }
  let switches := [0x0202, 0x0801, 0x0D00]
  (Taken 0x0D01 noDomain c s → fld (c.p 0) 63 2 = 0 →
      (s.cmd.timed.all fun u => !(u.opcode == 0x0D00 && fld (u.cmd.p 0) 1 0 == n)) = true → profileRefusal img c.verified s = none →
      Completes (.profileWrite c) c s [] [.boot] [] fun t =>
        t.profileSlot n = { image := img, epoch := (x.epoch + 1) % 65536 } ∧ (∀ k, k ≠ n → t.profileSlot k = s.profileSlot k)
        ∧ t.boot = { s.boot with slots := t.boot.slots })
  ∧ (Taken 0x0D02 noDomain c s → fld (c.p 0) 63 2 = 0 → Completes (.profileRead c) c s x.image [] [] fun _ => True)
  ∧ (Held 0x0D00 noDomain c s → fld (c.p 0) 63 32 = 0 → fld (c.p 0) 15 2 = 0 → fld (c.p 0) 31 16 = x.epoch →
      profileRefusal x.image c.verified s = none → sectionWords x.image 1 = sectionWords s.boot.running 1 →
      (∀ u ∈ s.cmd.timed, u.opcode ∉ switches) → tackTimeline c x.image s = none →
      (∀ i ∈ (itemsOf x.image 7).getD [], skeinDiffers i s = false) →
      (stageSkeins ((itemsOf x.image 7).getD []) (withTimelines x.image s)).isOk = true →
      ∃ t k, exec (.tack c) s = .next t ∧ Pends c k t ∧ t.boot = { s.boot with staged := x.image } ∧ t.pending = s.pending
        ∧ ∃ u ∈ t.cmd.timed, u.cmd = c ∧ u.opcode = 0x0D00 ∧ u.at16 = s.switch16 c.timeline c.sfn)
  ∧ (∀ u, Live s → s.cmd.timed.find? (fun u => u.opcode == 0x0D00 && s.timedDue u && s.turn u) = some u → u.own = false →
      ∃ t, exec .tackApply s = .next t ∧ t.pending = s.pending
        ∧ Answers u.cmd .ok 0 [mk 31 16 (pfRigEpoch s.boot.staged) ||| mk 1 0 (fld (u.cmd.p 0) 1 0)] t
        ∧ t.boot.running = s.boot.staged ∧ t.boot.staged = [] ∧ t.boot.activeProfile = fld (u.cmd.p 0) 1 0
        ∧ t.boot.activeEpoch = fld (u.cmd.p 0) 31 16 ∧ t.boot.selectedBy = 2 ∧ bitAt (t.rg .bootIntStatus []) 5 = true)
  ∧ (∀ order u m, Live s →
      s.cmd.timed.find? (fun u => u.order == order && s.timedDue u && s.turn u && !([0x202, 0x801, 0xD00].contains u.opcode)) = some u →
      meaningOf u.opcode = some m → u.own = false →
      (∀ res w, m.2 u.cmd (left u) = .done res w → ∃ t, exec (.timedCommandApply order) s = .next t ∧ Answers u.cmd .ok 0 res t
        ∧ t.pending = s.pending ∧ ∀ p, p ∉ [Part.time, .host, .out, .regs] → p.same w t)
      ∧ (∀ st d, m.2 u.cmd (left u) = .refuse st d → ∃ t, exec (.timedCommandApply order) s = .next t ∧ Answers u.cmd st d [] t
        ∧ Frame [.cmd, .host, .out, .regs, .sk, .boot] s t)
      ∧ (u.opcode = 0x0B00 → (u.cmd.n 0 < 8 ∨ u.cmd.n 0 = 255) → u.cmd.n 1 < 2 ^ 32 →
        ∃ t, exec (.timedCommandApply order) s = .next t ∧ Answers u.cmd .ok 0 [] t ∧ t.cmd.timed = s.cmd.timed.erase u
          ∧ ∀ g < 8, tget 0 t.power.tolerance g =
              if u.cmd.n 0 = g ∨ u.cmd.n 0 = 255 then u.cmd.n 1 else tget 0 s.power.tolerance g))

/-- FAULT_READ returns a record and its 16 counters, and clears the counters when told (R408). FAULT_ACK and a write of FAULT_CTL with the record's SEQ
free the record (R407). FORCE_SET arms a force bit; a class that no check of its own raises is raised at once and counted (R411); a write of FAULT_FORCE
arms what rises and disarms what falls. FLIP_MASK_SET and the register arm a flip-mask (R409); a register write that R412 refuses sets FORCE_DENIED, and one of
a poisoned TLP is ignored and reported (Table 17-2). A
scrubber reads one word and goes on to the next, and counts its passes (R397, R399); a broken control-store word is rewritten (R401). -/
def Obligations.Faults : Prop := ∀ (c : Cmd) (b n : Nat) (s : State), srcOk b n = true →
  let f := s.fault b n
  let named := fcBlock c = b ∧ fcInst c = n
  let rest := fun (t : State) => (∀ k, k ≠ 64 * b + n → tget {} t.flt.srcs k = tget {} s.flt.srcs k) ∧ t.flt.ecc = s.flt.ecc
  let freed := fun (g : FaultSrc) => { g with valid := false, pending := false, w0 := ins f.w0 63 63 0 }
  let counts := (List.range 16).map fun k => regAddr .faultCnt [b, n, k]
  let stays := fun (k : Nat) => k < 4 ∨ k = 12 ∨ (b = 7 ∧ n ≠ 0) ∨ (b = 8 ∧ k ≠ 13) ∨ (b = 13 ∧ 16 ≤ n ∧ k ≠ 13)
  let raise : List Part := [.mast, .host, .cmd, .out, .flt, .regs, .power]
  (Taken 0x0E00 noDomain c s → named →
      let words := f.words ++ (List.range 16).map fun k => s.rg .faultCnt [b, n, k]
      (bitAt (c.p 0) 63 = false → Completes (.faultRead c) c s words [] [] fun _ => True)
      ∧ (bitAt (c.p 0) 63 = true → Completes (.faultRead c) c s words [] counts fun t => ∀ k < 16, t.rg .faultCnt [b, n, k] = 0))
  ∧ (Taken 0x0E01 noDomain c s → named → f.valid = true → fld (c.p 0) 15 0 = f.seq →
      Completes (.faultAck c) c s f.words [.flt] [] fun t => t.fault b n = freed f ∧ rest t)
  ∧ (∀ v, Live s → Goes (.faultCtlAck b n v) s [.out, .flt, .regs] fun t =>
      let g := { f with denied := f.denied && !bitAt v 61 }
      t.fault b n = (if bitAt v 63 = true ∧ f.valid = true ∧ fld v 47 32 = f.seq then freed g else g) ∧ rest t
      ∧ t.rg .faultCtl [b, n] = (mk 60 60 (fld v 60 60) ||| mk 15 0 (fld v 15 0))
      ∧ RegsBut [regAddr .faultCtl [b, n], regAddr .intSignalCnt []] s t)
  ∧ (let k := fld (c.p 0) 3 0
      let mem := fld (c.p 0) 15 8;
      Taken 0x0E02 faultDomain c s → named → s.forceAllowed false = true → (detects b n).testBit k = true →
      (4 ≤ k ∨ (memsOf b n).any (fun m => m.1 == mem && (m.2.2 || k % 2 == 0)) = true) →
      (stays k → Completes (.forceSet c) c s [] [.flt] [] fun t =>
        (t.fault b n).forced = f.forced ||| 2 ^ k ∧ (k < 4 → nfld (t.fault b n).forceMem (8 * k + 7) (8 * k) = mem) ∧ rest t)
      ∧ (¬stays k → Answered (.forceSet c) c s [] [.mast, .cmd, .flt, .power] fun t =>
        t.rg .faultCnt [b, n, k] = s.rg .faultCnt [b, n, k] + 1 ∧ (t.fault b n).forced.testBit k = false))
  ∧ (∀ path v, Live s → path ≠ .poisoned → s.forceAllowed (path == .tap) = true → Goes (.faultForceWrite path b n v) s raise fun t => ∀ k < 16,
      (t.fault b n).forced.testBit k = ((fld v 15 0).testBit k && (f.forced.testBit k || ((detects b n).testBit k && decide (stays k)))))
  ∧ (let mem := fld (c.p 0) 15 8;
      Taken 0x0E03 faultDomain c s → named → s.forceAllowed false = true → (memsOf b n).any (fun m => m.1 == mem) = true → c.n 2 < 65536 →
      Completes (.flipMaskSet c) c s [] [.flt] [] fun t =>
        tget 0 (t.fault b n).flips mem = c.n 1 + c.n 2 * 2 ^ 64 ∧ t.fault b n = { f with flips := (t.fault b n).flips } ∧ rest t)
  ∧ (∀ path (high : Bool) v, let mem := s.rgf .flipSel [b, n] 7 0
      let old := tget 0 f.flips mem;
      Live s → path ≠ .poisoned → s.forceAllowed (path == .tap) = true → (memsOf b n).any (fun m => m.1 == mem) = true →
      Goes (.flipMaskWrite path b n high v) s [.flt] fun t =>
        tget 0 (t.fault b n).flips mem = (if high = true then old % 2 ^ 64 + fld v 15 0 * 2 ^ 64 else old / 2 ^ 64 * 2 ^ 64 + v.toNat)
        ∧ t.fault b n = { f with flips := (t.fault b n).flips } ∧ rest t)
  ∧ (∀ path high v, Live s → path ≠ .poisoned → s.forceAllowed (path == .tap) = false →
      Goes (.flipMaskWrite path b n high v) s [.flt] (fun t => t.fault b n = { f with denied := true } ∧ rest t)
      ∧ Goes (.faultForceWrite path b n v) s [.flt] (fun t => t.fault b n = { f with denied := true } ∧ rest t))
  ∧ (∀ high v, Live s →
      let ignored := fun (t : State) => t.rg .faultCnt [4, 0, 11] = s.rg .faultCnt [4, 0, 11] + 1
        ∧ (t.fault b n).forced = f.forced ∧ (t.fault b n).flips = f.flips
      Goes (.flipMaskWrite .poisoned b n high v) s [.host, .cmd, .out, .flt, .regs] ignored
      ∧ Goes (.faultForceWrite .poisoned b n v) s [.host, .cmd, .out, .flt, .regs] ignored)
  ∧ (∀ mem m, Live s → Clean s → (memsOf b n).find? (fun m => m.1 == mem && m.2.2) = some m → (s.domain (srcDomain b n)).state ≤ 1 →
      Goes (.scrubRead b n mem) s [.flt] fun t =>
        let a := tget 0 f.scrubPos mem
        tget 0 (t.fault b n).scrubPos mem = (if m.2.1 ≤ a + 1 then 0 else a + 1) ∧ rest t
        ∧ (t.fault b n).scrubPasses = (if m.2.1 ≤ a + 1 then (f.scrubPasses + 1) % 65536 else f.scrubPasses))
  ∧ (∀ q k a, Live s → q < 4 → k < 2 → a < 16384 → tget 0 s.flt.ecc (eccKey 8 q k a) ≠ 0 → tget 0 (s.fault 8 q).flips k = 0 →
      Goes (.controlStoreRewrite q k a) s [.flt] fun t =>
        tget 0 t.flt.ecc (eccKey 8 q k a) = 0 ∧ t.flt.srcs = s.flt.srcs
        ∧ ∀ j, j ≠ eccKey 8 q k a → tget 0 t.flt.ecc j = tget 0 s.flt.ecc j)

/-- A step with command c at the front of the queue is exec of c on the state whose queue is the rest. On an empty queue the block idles: that
is the model's choice (log 1). -/
def Obligations.StepRunsFront : Prop :=
  (∀ (c : Instr) (s : State), step { s with pending := c :: s.pending } = exec c s) ∧ ∀ s : State, s.pending = [] → step s = .next s

/-- Every command, on every state, answers a next state, and no command adds to the queue of waiting commands, takes from it or reorders it: no
row of this block stops by fault or refusal. -/
def Obligations.EveryCommandAnswers : Prop := ∀ (c : Instr) (s : State), ∃ t, exec c s = .next t ∧ t.pending = s.pending

/-- At reset every field of Mast time lies in its range, in the master counter and in each of its 20 replicas. -/
def Obligations.ResetTimeLegal : Prop := TimeLegal State.reset

/-- If every field of Mast time lies in its range (Table 2-1: nanoseconds below 1,000,000,000, each field in its width) in the master counter and in
every one of its 20 replicas, then so it does after any step, whatever the command: a tick, a set, a slew, a step, a replica reload, a profile, a
reset. -/
def Obligations.StepKeepsTimeLegal : Prop := ∀ s t : State, TimeLegal s → step s = .next t → TimeLegal t

/-- While the Mast clock counts, no command but the tick, the replica check, a step, and what may set the time (MAST_SET_TIME itself, or a packet, an
admin ring entry or a domain's exit that delivers it) changes the master counter or any replica. A command packet behind which packets of lower source
codes of the same clock wait takes those first (R300), and may so take a MAST_SET_TIME: it is not among the claim's commands. -/
def Obligations.OnlyTheClockMovesTime : Prop := ∀ (c : Instr) (s t : State), exec c s = .next t → t.mast.running = true →
  (match c with
    | .mastTick .. => False | .replicaCheck => False | .stepApply => False | .mastSetTime .. => False | .packetIngress .. => False
    | .ringFetchDone .. => False | .domainExitDone .. => False | i => ∀ d, cmdOfInstr i = some d → s.ahead d = []) → t.time = s.time

/-- While PWR_GOOD is low, after REMOVED, and after a thermal trip, no command changes anything, but for the pins and resets that end that state
(presence, power, PERST_N), the time that the model counts, and the Sail locker's tamper inputs. -/
def Obligations.HaltedPartStands : Prop := ∀ (c : Instr) (s : State), s.halted = true →
  (match c with
    | .earlyPresentRise => False | .earlyPresentFall => False | .powerDown => False | .perstNDeassert => False | .tamper .. => False
    | .mastTick .. => False | .powerOnReset => False | .reinsertReset => False | .mainPowerLoss => False | _ => True) → exec c s = .next s

/-- At reset the queue is empty, Mast time is 0 and not valid, the Mast clock waits for stage 4, the start-up is at stage 1 and not READY, every gate
is open, every source speaks version 1, the debug level is CLOSED, no command, fault or event is pending, and registers read their reset values:
SOURCE_ALLOW 0x7FFF7FFF0A01, INT_ROUTE of block b VECTOR 1 + b, DIDT_LIMIT 800. The place of each value in State is the model's. -/
def Obligations.ResetState : Prop :=
  State.reset.pending = [] ∧ State.reset.now16 = 0 ∧ State.reset.mast.timeValid = false ∧ State.reset.mast.running = false
  ∧ State.reset.boot.stage = 1 ∧ State.reset.boot.ready = false
  ∧ (∀ src, State.reset.cmdVersion src = 1) ∧ State.reset.sec.level = 0 ∧ State.reset.cmd.timed = []
  ∧ (∀ q, (State.reset.tmq q).gate = true)
  ∧ (∀ b n, (State.reset.fault b n).valid = false) ∧ State.reset.rg .sourceAllow = 0x7FFF7FFF0A01
  ∧ (∀ b < 15, State.reset.rg .intRoute [b] = BitVec.ofNat 64 (1 + b)) ∧ State.reset.rg .didtLimit = 800

/-- For every row of Table 13-7: a packet that fails one of the seven checks and none before it is refused with that check's status. The only
effects are the final reply and the count of refused commands. -/
def Obligations.HeaderChecks : Prop := ∀ r ∈ cmdRows, ∀ (c : Cmd) (s : State), IntakeOpen c s →
  let cur := s.cmdVersion c.src
  let badHeader : Prop := (c.src = .sideband ∧ hdrCrcOf c ≠ c.hdrCrc) ∨ fld c.w1 51 16 ≠ 0 ∨ c.paramBytes % 8 ≠ 0
    ∨ (c.version = 1 ∧ fld c.w0 45 32 ≠ 0)
  let onLink : Prop := c.src = .inband ∨ ∃ d, c.src = .dravua d
  let wrongDevice : Prop := onLink ∧ c.dest ≠ s.deviceId ∧ c.dest ≠ 0xFFF
  let badVersion : Prop := r.code ≠ 1 ∧ c.version ≠ cur
  ∃ row, opRow r.code = some row ∧
    let notPermitted : Prop := s.permitted c.src row = false
    let words := paramWords r.code c
    let badLength : Prop := maxBytes c.src < c.paramBytes ∨ c.paramBytes / 8 < words.1 ∨ words.2 < c.paramBytes / 8
    let badTiming : Prop := (c.timed = true ∧ row.timing = .no) ∨ (c.timed = false ∧ row.timing = .required)
    (badHeader → Refused (r.instr c) c s .badHeader 0)
    ∧ (¬badHeader → wrongDevice → Refused (r.instr c) c s .wrongDevice s.deviceId)
    ∧ (¬badHeader → ¬wrongDevice → badVersion → Refused (r.instr c) c s .badVersion cur)
    ∧ (¬badHeader → ¬wrongDevice → ¬badVersion → cur < row.since → Refused (r.instr c) c s .badOpcode 0)
    ∧ (¬badHeader → ¬wrongDevice → ¬badVersion → row.since ≤ cur → notPermitted → Refused (r.instr c) c s .notPermitted 0)
    ∧ (¬badHeader → ¬wrongDevice → ¬badVersion → row.since ≤ cur → ¬notPermitted → badLength →
        Refused (r.instr c) c s .badLength (min words.2 (maxBytes c.src / 8)))
    ∧ (¬badHeader → ¬wrongDevice → ¬badVersion → row.since ≤ cur → ¬notPermitted → ¬badLength → badTiming →
        Refused (r.instr c) c s .timingUnsupported 0)

/-- For every row of Table 13-7, of a packet before which no other of its clock goes: before the end of stage 3 nothing is taken; a source at its
limit is not heard; behind a command of its source that waits for a domain an immediate one waits too; before READY all but eight opcodes are
answered BUSY_PENDING; a target in a forced sleeping domain answers TARGET_ASLEEP and one in an AUTO domain wakes it, the command waiting; a
prevailing command of the same clock supersedes; a command that its own checks refuse changes nothing, and one that fails is answered so. -/
def Obligations.IntakeRules : Prop := ∀ r ∈ cmdRows, ∀ (c : Cmd) (s : State), Live s → c ∉ s.cmd.early → s.ahead c = [] →
  let passes := IntakeOpen c s ∧ headerCheck r.code c s = none
  let early := r.code ∈ [0x0000, 0x0001, 0x0002, 0x0006, 0x0007, 0x0E00, 0x0E01, 0x0D02]
  let waits := fun (d : Nat) (t : State) => t.cmd = { s.cmd with waiting := s.cmd.waiting ++ [{ cmd := c, opcode := r.code, domain := d }] }
    ∧ Frame [.cmd, .power] s t
  let superseded := fun (w : Source) => ∃ t, exec (r.instr c) s = .next t ∧ Answers c .conflictSuperseded (srcCode w) [] t
    ∧ Frame [.host, .out, .regs] s t ∧ bitAt (t.rg .cmdIntStatus []) 0 = true
    ∧ t.rgf .cmdSrcCnt [srcCode c.src] 15 0 = satAdd 16 (s.rgf .cmdSrcCnt [srcCode c.src] 15 0) 1
  (s.boot.stage < 4 → exec (r.instr c) s = .next s)
  ∧ (4 ≤ s.boot.stage → (s.domain domMgmt).state ≠ 0 → (s.domain domMgmt).force = 0 → c.src ≠ .sideband →
      ∃ t, exec (r.instr c) s = .next t ∧ waits domMgmt t ∧ (t.domain domMgmt).exiting = true)
  ∧ (4 ≤ s.boot.stage → (s.domain domMgmt).state = 0 → maxOutstanding c.src ≤ s.outstanding c.src → c.src ≠ .sideband →
      exec (r.instr c) s = .next s)
  ∧ (∀ w, 4 ≤ s.boot.stage → (s.domain domMgmt).state = 0 → s.outstanding c.src < maxOutstanding c.src → s.queuesBehind c = some w →
      ∃ t, exec (r.instr c) s = .next t ∧ t.cmd.waiting = s.cmd.waiting ++ [{ cmd := c, opcode := r.code, domain := w.domain }]
        ∧ t.cmd = { s.cmd with waiting := t.cmd.waiting } ∧ Frame [.cmd] s t)
  ∧ (passes → s.boot.ready = false → ¬early → Refused (r.instr c) c s .busyPending 0)
  ∧ (∀ d, passes → (s.boot.ready = true ∨ early) → r.domain c s = some d → s.mustLeave d = true →
      ((s.domain d).force ≠ 0 → Refused (r.instr c) c s .targetAsleep d)
      ∧ ((s.domain d).force = 0 → ∃ t, exec (r.instr c) s = .next t ∧ waits d t))
  ∧ (passes → (s.boot.ready = true ∨ early) → (r.domain c s).all (fun d => !s.mustLeave d) = true → c.timed = false →
      (∀ w, intakeWinner c s = some w → superseded w)
      ∧ (∀ w, intakeWinner c s = none → queuedWinner c s.pending = some w → superseded w)
      ∧ (∀ st d, intakeWinner c s = none → queuedWinner c s.pending = none → r.body c (noteIntake c s) = .refuse st d →
          BodyRefused (r.instr c) c s st d)
      ∧ (∀ st d u, intakeWinner c s = none → queuedWinner c s.pending = none → r.body c (noteIntake c s) = .failed st d u →
          ∃ t, exec (r.instr c) s = .next t ∧ Answers c st d [] t))

/-- For every row of Table 13-7 but TACK, which the profile statements cover: a timed command that meets no refusal of R294 and R301, and whose own
checks it passes at acceptance, those it ends taken away, is answered PENDING and stands last in the list of pending commands, to apply in the switch
tick of its frame; pending overlapping commands of lower rank in that tick are ended. One whose own checks refuse it changes nothing, and one that fails
is answered so. -/
def Obligations.TimedCommands : Prop := ∀ r ∈ cmdRows, r.code ≠ 0x0D00 → ∀ (c : Cmd) (s : State),
  (Held r.code r.domain c s → (∀ st d, r.body c (s.without c) ≠ .refuse st d) → (∀ st d u, r.body c (s.without c) ≠ .failed st d u) →
    let at16 := s.switch16 c.timeline c.sfn
    let ended := fun (t : TimedCmd) => s.switchTick t = s.boundaryTick at16 ∧ mayConflict c.src t.cmd.src = true
      ∧ rank c.src < rank t.cmd.src ∧ overlaps c t.cmd = true
    ∃ t, exec (r.instr c) s = .next t
      ∧ (∃ kept, t.cmd.timed = kept ++ [{ cmd := c, opcode := r.code, at16 := at16, order := s.cmd.nextOrder }]
          ∧ ∀ x, x ∈ kept ↔ x ∈ s.cmd.timed ∧ ¬ended x)
      ∧ Pends c (t.cmd.timed.filter fun x => x.cmd.src = c.src && !x.own).length t
      ∧ t.cmd = { s.cmd with timed := t.cmd.timed, nextOrder := s.cmd.nextOrder + 1 }
      ∧ Frame [.rig, .sk, .host, .cmd, .out, .regs, .boot] s t)
  ∧ (∀ st d, Held r.code r.domain c s → r.body c (s.without c) = .refuse st d → ∃ t, exec (r.instr c) s = .next t ∧ Answers c st d [] t
      ∧ Frame [.host, .out, .regs] s t)
  ∧ (∀ st d u, Held r.code r.domain c s → r.body c (s.without c) = .failed st d u → ∃ t, exec (r.instr c) s = .next t ∧ Answers c st d [] t)

/-- Whatever the header's VERSION, NEGOTIATE_VERSION with versions 1 to 3 in bits [3:1] makes the highest version set there current for its source
alone, and returns it in [7:0] with 0x0E in [15:8], in a reply whose VERSION is the selected version; with no common version it is refused with
BAD_VERSION and the current version stays, and while the source has another outstanding command with BUSY_PENDING. -/
def Obligations.NegotiateVersion : Prop := ∀ (c : Cmd) (s : State),
  let bit := fun v => (fld (c.p 0) 3 1).testBit (v - 1) = true
  (∀ v, c.src ≠ .sideband → fld c.w0 45 32 = 0 →
      headerCheck 0x0001 { c with w0 := ins c.w0 47 46 v } s = headerCheck 0x0001 c s)
  ∧ (Taken 0x0001 noDomain c s → c.opcode = 1 → s.outstanding c.src = 0 →
      (∀ v, 1 ≤ v → v ≤ 3 → bit v → (∀ u, v < u → u ≤ 3 → ¬bit u) →
        Completes (.negotiateVersion c) c s [mk 7 0 v ||| mk 15 8 0x0E] [.cmd] [] fun t =>
          t.cmdVersion c.src = v ∧ (∀ x, srcKey x ≠ srcKey c.src → t.cmdVersion x = s.cmdVersion x)
          ∧ (t.out.replies.getLast?.map fun r => fld r.w0 47 46) = some v)
      ∧ ((∀ v, 1 ≤ v → v ≤ 3 → ¬bit v) → BodyRefused (.negotiateVersion c) c s .badVersion (s.cmdVersion c.src)))
  ∧ (Taken 0x0001 noDomain c s → s.outstanding c.src ≠ 0 → BodyRefused (.negotiateVersion c) c s .busyPending 0)

/-- An OPEN, of the live challenge's issuer, whose LEVEL is at or below the current level is refused with PARAM_INVALID and begins
nothing; every phase of DEBUG_OPEN and ZEROIZE is refused with BUSY_PENDING while a zeroization runs; and no OPEN lowers the level. -/
def Obligations.DebugLevel : Prop := ∀ (c : Cmd) (s : State),
  let rows : List Instr := [.debugChallenge c, .debugPart c, .debugOpen c]
  (∀ i ∈ rows, Taken 0x0C03 noDomain c s → s.sec.zero.isSome = true → BodyRefused i c s .busyPending 0)
  ∧ (Taken 0x0C02 noDomain c s → s.sec.zero.isSome = true → BodyRefused (.zeroize c) c s .busyPending 0)
  ∧ (∀ ch, Taken 0x0C03 noDomain c s → s.sec.zero = none → s.sec.challenge = some ch → ch.src = c.src → fld (c.p 0) 1 0 = 2 →
      ch.level ≤ s.sec.level →
      ∃ t, exec (.debugOpen c) s = .next t ∧ Answers c .paramInvalid 0 [] t ∧ Frame [.host, .out, .regs, .sec] (noteIntake c s) t
        ∧ t.sec = { s.sec with challenge := t.sec.challenge })
  ∧ ∀ i ∈ rows, ∀ t z, exec i s = .next t → t.mast.running = true → s.ahead c = [] → s.sec.zero = none → t.sec.zero = some z →
      t.sec.level = s.sec.level ∧ s.sec.level < z.level

/-- Adding any count of 2^-48 ns to a Mast time gives a time whose fields lie in their ranges and whose value, in units of 2^-48 ns, is the sum modulo
2^48 s: a nanoseconds field past 999,999,999 has lost 1,000,000,000 to one more second. One tick adds 81,920 x 2^32 and FREQ_ADJ to the master counter and
to every replica with its own sub-fraction. -/
def Obligations.TimeFormat : Prop :=
  (∀ (t : MTime) (d : Int), (t.add48 d).legal = true ∧ ∃ k : Int, (t.add48 d).to48 = t.to48 + d + k * (2 ^ 48 * 10 ^ 9 * 65536 * 2 ^ 32))
  ∧ (∀ (t : MTime) (d : Int), t.legal = true → 0 ≤ d → d < 10 ^ 9 * 65536 * 2 ^ 32 → t.sec + 1 < 2 ^ 48 →
      let low := (t.to48 + d) - (t.sec : Int) * (10 ^ 9 * 65536 * 2 ^ 32)
      (t.add48 d).sec = (if low < 10 ^ 9 * 65536 * 2 ^ 32 then t.sec else t.sec + 1))
  ∧ (∀ s : State, Live s → s.awake domMast = true → ∃ t, exec (.mastTick 1) s = .next t
      ∧ t.time.master = s.time.master.add48 (81920 * 2 ^ 32 + s.mast.servo.freqAdj)
      ∧ t.time.replicas = s.time.replicas.map fun r => { t := r.t.add48 (81920 * 2 ^ 32 + s.mast.servo.freqAdj) })

/-- For a word of 64 or 72 data bits: syndrome 0 is no error; a syndrome equal to the column of a data bit of the word corrects that bit; one of
weight 1 names a check bit; any other is uncorrectable, as are any two flipped bits. A functional read of a word whose codeword has one flipped data bit returns good data, of one
with one flipped check bit returns the data unchanged, and of one with an uncorrectable syndrome returns nothing. -/
def Obligations.EccDecode : Prop :=
  (∀ w, w = 64 ∨ w = 72 → ∀ syn < 256,
    (syn = 0 → eccDecode w syn = .none)
    ∧ (∀ j < w, syn = eccColumns.getD j 0 → eccDecode w syn = .data j)
    ∧ (∀ i < 8, syn = 2 ^ i → eccDecode w syn = .check i)
    ∧ (syn ≠ 0 → (∀ j < w, syn ≠ eccColumns.getD j 0) → (∀ i < 8, syn ≠ 2 ^ i) → eccDecode w syn = .uncorrectable))
  ∧ (∀ w, w = 64 ∨ w = 72 → ∀ j < w + 8, ∀ i < j, eccDecode w (eccSyndrome w (2 ^ i + 2 ^ j)) = .uncorrectable)
  ∧ eccSyndrome 64 (2 ^ 5) = 0x15 ∧ eccSyndrome 64 3 = 0x0C
  ∧ ∀ b n mem addr req (s : State),
    let p := tget 0 s.flt.ecc (eccKey b n mem addr)
    let w := eccWidth b n mem
    let r := memRead b n mem addr req s
    (s.fault b n).forced = 0 →
      (∀ j < w, p = 2 ^ j → r.ok = true ∧ r.diff = 0)
      ∧ (∀ i < 8, p = 2 ^ (w + i) → r.ok = true ∧ r.diff = 0)
      ∧ (p = 0 → r.ok = true ∧ r.diff = 0 ∧ r.st = s)
      ∧ (p ≠ 0 → eccDecode w (eccSyndrome w p) = .uncorrectable → r.ok = false)

/-- Whatever the record and CAPTURE_MASK of the source, a report of an error adds one to the 64-bit FAULT_CNT of its source and class, and to no other
FAULT_CNT. -/
def Obligations.FaultCounting : Prop := ∀ (f : FaultInfo) (s : State), srcOk f.block f.inst = true → f.cls < 16 →
  (reportFault f s).rg .faultCnt [f.block, f.inst, f.cls] = s.rg .faultCnt [f.block, f.inst, f.cls] + 1
  ∧ ∀ b n k, srcOk b n = true → k < 16 → ¬(b = f.block ∧ n = f.inst ∧ k = f.cls) →
      (reportFault f s).rg .faultCnt [b, n, k] = s.rg .faultCnt [b, n, k]

/-- An error that CAPTURE_MASK passes is captured in the record of a source that holds none: word 0 names class, severity, requester, block, instance and
memory, SEQ goes up by one, and Mast time is kept. While VALID is 1, a further one adds 1 to MERGE_COUNT, at most 0xFFFF, sets its class in
MERGED_CLASSES, changes no other field, and posts no event. One outside the mask leaves the record alone. -/
def Obligations.FaultRecords : Prop := ∀ (f : FaultInfo) (s : State), srcOk f.block f.inst = true → f.cls < 16 →
  let x := s.fault f.block f.inst
  let t := reportFault f s
  let y := t.fault f.block f.inst
  let rest := ∀ k, k ≠ 64 * f.block + f.inst → tget {} t.flt.srcs k = tget {} s.flt.srcs k
  let passed := bitAt (s.rg .faultCtl [f.block, f.inst]) f.cls = true
  (passed → x.valid = true →
      y = { x with w3 := y.w3 } ∧ fld y.w3 63 32 = fld x.w3 63 32 ∧ fld y.w3 31 16 = min (fld x.w3 31 16 + 1) 0xFFFF
      ∧ fld y.w3 15 0 = fld x.w3 15 0 ||| 2 ^ f.cls ∧ rest ∧ t.out = s.out ∧ t.cmd = s.cmd)
  ∧ (passed → x.valid = false → f.block ≠ 0 →
      y.valid = true ∧ y.pending = true ∧ y.seq = (x.seq + 1) % 65536 ∧ y.denied = x.denied ∧ y.forced = x.forced ∧ y.flips = x.flips
      ∧ fld y.w0 58 55 = f.cls ∧ fld y.w0 60 59 = f.sev % 4 ∧ fld y.w0 54 51 = f.req % 16 ∧ fld y.w0 47 32 = y.seq
      ∧ fld y.w0 31 24 = f.block ∧ fld y.w0 23 16 = f.inst ∧ fld y.w0 15 8 = f.mem % 256 ∧ fld y.w0 7 0 = f.synd % 256
      ∧ bitAt y.w0 62 = f.forced ∧ bitAt y.w0 61 = f.flipped ∧ y.w2 = s.time.master.hi ∧ y.w3 = s.time.master.lo ∧ rest)
  ∧ (¬passed → t.flt = s.flt ∧ t.out = s.out ∧ t.cmd = s.cmd)

/-- The register that an address names lies at that address, and no two registers, nor two elements of one array, share an address that names one. Some
registers stand where their tables put them: CMD_STATUS at 0, SOURCE_ALLOW at 0x18, INT_ROUTE of block 14 at 0x870, DEV_RESET_CTL at 0x1018. -/
def Obligations.RegisterMap : Prop :=
  (∀ a r ix, regAt a = some (r, ix) → regAddr r ix = a ∧ regExists r ix = true)
  ∧ (∀ a b r ix, regAt a = some (r, ix) → regAt b = some (r, ix) → a = b)
  ∧ regAt 0 = some (.cmdStatus, []) ∧ regAt 0x18 = some (.sourceAllow, []) ∧ regAt 0x870 = some (.intRoute, [14])
  ∧ regAt 0x1018 = some (.devResetCtl, [])

/-- PAM4 maps the pairs 00, 01, 11 and 10 to levels 0 to 3, and the receiver maps back (R76). Precoding sends P(j) = (G(j) - P(j-1)) mod 4, and the
receiver recovers G (R77). A Topsail block of a codeword of 5,440 bits has 5,808 bits: its 16-bit marker, 0x3C5A on even and 0xC3A5 on odd blocks, and
32 segments of 170 bits with 11 parity bits each; the receiver takes the codeword out again, also where one bit of a segment has
flipped (R78). A 257-bit alignment marker is told by its PATTERN (R79). -/
def Obligations.LineCoding : Prop :=
  (grayLevel false false = 0 ∧ grayLevel false true = 1 ∧ grayLevel true true = 2 ∧ grayLevel true false = 3)
  ∧ (∀ l : List Bool, l.length % 2 = 0 → toBits (toLevels l) = l)
  ∧ (∀ (p g : Nat) (r : List Nat), p < 4 → g < 4 →
      precode p (g :: r) = (g + 4 - p) % 4 :: precode ((g + 4 - p) % 4) r)
  ∧ (∀ (p : Nat) (l : List Nat), p < 4 → (∀ g ∈ l, g < 4) → deprecode p (precode p l) = l)
  ∧ (∀ d : List Bool, d.length = 170 → (segment d).length = 181 ∧ fixSegment (segment d) = d
      ∧ ∀ i < 181, fixSegment ((segment d).set i !((segment d).getD i false)) = d)
  ∧ (∀ (n : Nat) (cw : List Bool), cw.length = 5440 → (topsailBlock n cw).length = 5808 ∧ blockCodeword (topsailBlock n cw) = cw
      ∧ (topsailBlock n cw).take 16 = msbBits 16 (if n % 2 = 0 then 0x3C5A else 0xC3A5))
  ∧ ∀ pos width count, (alignmentMarker pos width count).length = 257 ∧ isMarker (alignmentMarker pos width count) = true
end

