-- ==== Sys2Proof/Laws/State.lean ====
section
/-! SUPPORT. One lemma per part of State per update: an update of one part leaves every other part as it was. -/

namespace Sys2Proof.Machine

/-! `State.setRg` -/

@[simp] theorem State.setRg_pending (s : State) (r : RegId) (ix : List ℕ) (v : W) : (State.setRg s r ix v).pending = s.pending := (rfl)
@[simp] theorem State.setRg_time (s : State) (r : RegId) (ix : List ℕ) (v : W) : (State.setRg s r ix v).time = s.time := (rfl)
@[simp] theorem State.setRg_mast (s : State) (r : RegId) (ix : List ℕ) (v : W) : (State.setRg s r ix v).mast = s.mast := (rfl)
@[simp] theorem State.setRg_rig (s : State) (r : RegId) (ix : List ℕ) (v : W) : (State.setRg s r ix v).rig = s.rig := (rfl)
@[simp] theorem State.setRg_port (s : State) (r : RegId) (ix : List ℕ) (v : W) : (State.setRg s r ix v).port = s.port := (rfl)
@[simp] theorem State.setRg_pk (s : State) (r : RegId) (ix : List ℕ) (v : W) : (State.setRg s r ix v).pk = s.pk := (rfl)
@[simp] theorem State.setRg_hk (s : State) (r : RegId) (ix : List ℕ) (v : W) : (State.setRg s r ix v).hk = s.hk := (rfl)
@[simp] theorem State.setRg_sk (s : State) (r : RegId) (ix : List ℕ) (v : W) : (State.setRg s r ix v).sk = s.sk := (rfl)
@[simp] theorem State.setRg_host (s : State) (r : RegId) (ix : List ℕ) (v : W) : (State.setRg s r ix v).host = s.host := (rfl)
@[simp] theorem State.setRg_cmd (s : State) (r : RegId) (ix : List ℕ) (v : W) : (State.setRg s r ix v).cmd = s.cmd := (rfl)
@[simp] theorem State.setRg_out (s : State) (r : RegId) (ix : List ℕ) (v : W) : (State.setRg s r ix v).out = s.out := (rfl)
@[simp] theorem State.setRg_flt (s : State) (r : RegId) (ix : List ℕ) (v : W) : (State.setRg s r ix v).flt = s.flt := (rfl)
@[simp] theorem State.setRg_epochs (s : State) (r : RegId) (ix : List ℕ) (v : W) : (State.setRg s r ix v).epochs = s.epochs := (rfl)
@[simp] theorem State.setRg_power (s : State) (r : RegId) (ix : List ℕ) (v : W) : (State.setRg s r ix v).power = s.power := (rfl)
@[simp] theorem State.setRg_sec (s : State) (r : RegId) (ix : List ℕ) (v : W) : (State.setRg s r ix v).sec = s.sec := (rfl)
@[simp] theorem State.setRg_boot (s : State) (r : RegId) (ix : List ℕ) (v : W) : (State.setRg s r ix v).boot = s.boot := (rfl)
@[simp] theorem State.setRg_deviceId (s : State) (r : RegId) (ix : List ℕ) (v : W) : (State.setRg s r ix v).deviceId = s.deviceId := (rfl)
@[simp] theorem State.setRg_freeCtr (s : State) (r : RegId) (ix : List ℕ) (v : W) : (State.setRg s r ix v).freeCtr = s.freeCtr := (rfl)

/-! `State.setRgf` -/

@[simp] theorem State.setRgf_pending (s : State) (r : RegId) (ix : List ℕ) (hi : ℕ) (lo : ℕ) (v : ℕ) : (State.setRgf s r ix hi lo v).pending = s.pending := (rfl)
@[simp] theorem State.setRgf_time (s : State) (r : RegId) (ix : List ℕ) (hi : ℕ) (lo : ℕ) (v : ℕ) : (State.setRgf s r ix hi lo v).time = s.time := (rfl)
@[simp] theorem State.setRgf_mast (s : State) (r : RegId) (ix : List ℕ) (hi : ℕ) (lo : ℕ) (v : ℕ) : (State.setRgf s r ix hi lo v).mast = s.mast := (rfl)
@[simp] theorem State.setRgf_rig (s : State) (r : RegId) (ix : List ℕ) (hi : ℕ) (lo : ℕ) (v : ℕ) : (State.setRgf s r ix hi lo v).rig = s.rig := (rfl)
@[simp] theorem State.setRgf_port (s : State) (r : RegId) (ix : List ℕ) (hi : ℕ) (lo : ℕ) (v : ℕ) : (State.setRgf s r ix hi lo v).port = s.port := (rfl)
@[simp] theorem State.setRgf_pk (s : State) (r : RegId) (ix : List ℕ) (hi : ℕ) (lo : ℕ) (v : ℕ) : (State.setRgf s r ix hi lo v).pk = s.pk := (rfl)
@[simp] theorem State.setRgf_hk (s : State) (r : RegId) (ix : List ℕ) (hi : ℕ) (lo : ℕ) (v : ℕ) : (State.setRgf s r ix hi lo v).hk = s.hk := (rfl)
@[simp] theorem State.setRgf_sk (s : State) (r : RegId) (ix : List ℕ) (hi : ℕ) (lo : ℕ) (v : ℕ) : (State.setRgf s r ix hi lo v).sk = s.sk := (rfl)
@[simp] theorem State.setRgf_host (s : State) (r : RegId) (ix : List ℕ) (hi : ℕ) (lo : ℕ) (v : ℕ) : (State.setRgf s r ix hi lo v).host = s.host := (rfl)
@[simp] theorem State.setRgf_cmd (s : State) (r : RegId) (ix : List ℕ) (hi : ℕ) (lo : ℕ) (v : ℕ) : (State.setRgf s r ix hi lo v).cmd = s.cmd := (rfl)
@[simp] theorem State.setRgf_out (s : State) (r : RegId) (ix : List ℕ) (hi : ℕ) (lo : ℕ) (v : ℕ) : (State.setRgf s r ix hi lo v).out = s.out := (rfl)
@[simp] theorem State.setRgf_flt (s : State) (r : RegId) (ix : List ℕ) (hi : ℕ) (lo : ℕ) (v : ℕ) : (State.setRgf s r ix hi lo v).flt = s.flt := (rfl)
@[simp] theorem State.setRgf_epochs (s : State) (r : RegId) (ix : List ℕ) (hi : ℕ) (lo : ℕ) (v : ℕ) : (State.setRgf s r ix hi lo v).epochs = s.epochs := (rfl)
@[simp] theorem State.setRgf_power (s : State) (r : RegId) (ix : List ℕ) (hi : ℕ) (lo : ℕ) (v : ℕ) : (State.setRgf s r ix hi lo v).power = s.power := (rfl)
@[simp] theorem State.setRgf_sec (s : State) (r : RegId) (ix : List ℕ) (hi : ℕ) (lo : ℕ) (v : ℕ) : (State.setRgf s r ix hi lo v).sec = s.sec := (rfl)
@[simp] theorem State.setRgf_boot (s : State) (r : RegId) (ix : List ℕ) (hi : ℕ) (lo : ℕ) (v : ℕ) : (State.setRgf s r ix hi lo v).boot = s.boot := (rfl)
@[simp] theorem State.setRgf_deviceId (s : State) (r : RegId) (ix : List ℕ) (hi : ℕ) (lo : ℕ) (v : ℕ) : (State.setRgf s r ix hi lo v).deviceId = s.deviceId := (rfl)
@[simp] theorem State.setRgf_freeCtr (s : State) (r : RegId) (ix : List ℕ) (hi : ℕ) (lo : ℕ) (v : ℕ) : (State.setRgf s r ix hi lo v).freeCtr = s.freeCtr := (rfl)

/-! `State.bump` -/

@[simp] theorem State.bump_pending (s : State) (r : RegId) (ix : List ℕ) (hi : ℕ) (lo : ℕ) (n : optParam ℕ 1) : (State.bump s r ix hi lo n).pending = s.pending := (rfl)
@[simp] theorem State.bump_time (s : State) (r : RegId) (ix : List ℕ) (hi : ℕ) (lo : ℕ) (n : optParam ℕ 1) : (State.bump s r ix hi lo n).time = s.time := (rfl)
@[simp] theorem State.bump_mast (s : State) (r : RegId) (ix : List ℕ) (hi : ℕ) (lo : ℕ) (n : optParam ℕ 1) : (State.bump s r ix hi lo n).mast = s.mast := (rfl)
@[simp] theorem State.bump_rig (s : State) (r : RegId) (ix : List ℕ) (hi : ℕ) (lo : ℕ) (n : optParam ℕ 1) : (State.bump s r ix hi lo n).rig = s.rig := (rfl)
@[simp] theorem State.bump_port (s : State) (r : RegId) (ix : List ℕ) (hi : ℕ) (lo : ℕ) (n : optParam ℕ 1) : (State.bump s r ix hi lo n).port = s.port := (rfl)
@[simp] theorem State.bump_pk (s : State) (r : RegId) (ix : List ℕ) (hi : ℕ) (lo : ℕ) (n : optParam ℕ 1) : (State.bump s r ix hi lo n).pk = s.pk := (rfl)
@[simp] theorem State.bump_hk (s : State) (r : RegId) (ix : List ℕ) (hi : ℕ) (lo : ℕ) (n : optParam ℕ 1) : (State.bump s r ix hi lo n).hk = s.hk := (rfl)
@[simp] theorem State.bump_sk (s : State) (r : RegId) (ix : List ℕ) (hi : ℕ) (lo : ℕ) (n : optParam ℕ 1) : (State.bump s r ix hi lo n).sk = s.sk := (rfl)
@[simp] theorem State.bump_host (s : State) (r : RegId) (ix : List ℕ) (hi : ℕ) (lo : ℕ) (n : optParam ℕ 1) : (State.bump s r ix hi lo n).host = s.host := (rfl)
@[simp] theorem State.bump_cmd (s : State) (r : RegId) (ix : List ℕ) (hi : ℕ) (lo : ℕ) (n : optParam ℕ 1) : (State.bump s r ix hi lo n).cmd = s.cmd := (rfl)
@[simp] theorem State.bump_out (s : State) (r : RegId) (ix : List ℕ) (hi : ℕ) (lo : ℕ) (n : optParam ℕ 1) : (State.bump s r ix hi lo n).out = s.out := (rfl)
@[simp] theorem State.bump_flt (s : State) (r : RegId) (ix : List ℕ) (hi : ℕ) (lo : ℕ) (n : optParam ℕ 1) : (State.bump s r ix hi lo n).flt = s.flt := (rfl)
@[simp] theorem State.bump_epochs (s : State) (r : RegId) (ix : List ℕ) (hi : ℕ) (lo : ℕ) (n : optParam ℕ 1) : (State.bump s r ix hi lo n).epochs = s.epochs := (rfl)
@[simp] theorem State.bump_power (s : State) (r : RegId) (ix : List ℕ) (hi : ℕ) (lo : ℕ) (n : optParam ℕ 1) : (State.bump s r ix hi lo n).power = s.power := (rfl)
@[simp] theorem State.bump_sec (s : State) (r : RegId) (ix : List ℕ) (hi : ℕ) (lo : ℕ) (n : optParam ℕ 1) : (State.bump s r ix hi lo n).sec = s.sec := (rfl)
@[simp] theorem State.bump_boot (s : State) (r : RegId) (ix : List ℕ) (hi : ℕ) (lo : ℕ) (n : optParam ℕ 1) : (State.bump s r ix hi lo n).boot = s.boot := (rfl)
@[simp] theorem State.bump_deviceId (s : State) (r : RegId) (ix : List ℕ) (hi : ℕ) (lo : ℕ) (n : optParam ℕ 1) : (State.bump s r ix hi lo n).deviceId = s.deviceId := (rfl)
@[simp] theorem State.bump_freeCtr (s : State) (r : RegId) (ix : List ℕ) (hi : ℕ) (lo : ℕ) (n : optParam ℕ 1) : (State.bump s r ix hi lo n).freeCtr = s.freeCtr := (rfl)

/-! `State.setDomain` -/

@[simp] theorem State.setDomain_pending (s : State) (d : ℕ) (v : Domain) : (State.setDomain s d v).pending = s.pending := (rfl)
@[simp] theorem State.setDomain_time (s : State) (d : ℕ) (v : Domain) : (State.setDomain s d v).time = s.time := (rfl)
@[simp] theorem State.setDomain_mast (s : State) (d : ℕ) (v : Domain) : (State.setDomain s d v).mast = s.mast := (rfl)
@[simp] theorem State.setDomain_rig (s : State) (d : ℕ) (v : Domain) : (State.setDomain s d v).rig = s.rig := (rfl)
@[simp] theorem State.setDomain_port (s : State) (d : ℕ) (v : Domain) : (State.setDomain s d v).port = s.port := (rfl)
@[simp] theorem State.setDomain_pk (s : State) (d : ℕ) (v : Domain) : (State.setDomain s d v).pk = s.pk := (rfl)
@[simp] theorem State.setDomain_hk (s : State) (d : ℕ) (v : Domain) : (State.setDomain s d v).hk = s.hk := (rfl)
@[simp] theorem State.setDomain_sk (s : State) (d : ℕ) (v : Domain) : (State.setDomain s d v).sk = s.sk := (rfl)
@[simp] theorem State.setDomain_host (s : State) (d : ℕ) (v : Domain) : (State.setDomain s d v).host = s.host := (rfl)
@[simp] theorem State.setDomain_cmd (s : State) (d : ℕ) (v : Domain) : (State.setDomain s d v).cmd = s.cmd := (rfl)
@[simp] theorem State.setDomain_out (s : State) (d : ℕ) (v : Domain) : (State.setDomain s d v).out = s.out := (rfl)
@[simp] theorem State.setDomain_flt (s : State) (d : ℕ) (v : Domain) : (State.setDomain s d v).flt = s.flt := (rfl)
@[simp] theorem State.setDomain_epochs (s : State) (d : ℕ) (v : Domain) : (State.setDomain s d v).epochs = s.epochs := (rfl)
@[simp] theorem State.setDomain_regs (s : State) (d : ℕ) (v : Domain) : (State.setDomain s d v).regs = s.regs := (rfl)
@[simp] theorem State.setDomain_sec (s : State) (d : ℕ) (v : Domain) : (State.setDomain s d v).sec = s.sec := (rfl)
@[simp] theorem State.setDomain_boot (s : State) (d : ℕ) (v : Domain) : (State.setDomain s d v).boot = s.boot := (rfl)
@[simp] theorem State.setDomain_deviceId (s : State) (d : ℕ) (v : Domain) : (State.setDomain s d v).deviceId = s.deviceId := (rfl)
@[simp] theorem State.setDomain_freeCtr (s : State) (d : ℕ) (v : Domain) : (State.setDomain s d v).freeCtr = s.freeCtr := (rfl)

/-! `State.setFault` -/

@[simp] theorem State.setFault_pending (s : State) (b : ℕ) (n : ℕ) (v : FaultSrc) : (State.setFault s b n v).pending = s.pending := (rfl)
@[simp] theorem State.setFault_time (s : State) (b : ℕ) (n : ℕ) (v : FaultSrc) : (State.setFault s b n v).time = s.time := (rfl)
@[simp] theorem State.setFault_mast (s : State) (b : ℕ) (n : ℕ) (v : FaultSrc) : (State.setFault s b n v).mast = s.mast := (rfl)
@[simp] theorem State.setFault_rig (s : State) (b : ℕ) (n : ℕ) (v : FaultSrc) : (State.setFault s b n v).rig = s.rig := (rfl)
@[simp] theorem State.setFault_port (s : State) (b : ℕ) (n : ℕ) (v : FaultSrc) : (State.setFault s b n v).port = s.port := (rfl)
@[simp] theorem State.setFault_pk (s : State) (b : ℕ) (n : ℕ) (v : FaultSrc) : (State.setFault s b n v).pk = s.pk := (rfl)
@[simp] theorem State.setFault_hk (s : State) (b : ℕ) (n : ℕ) (v : FaultSrc) : (State.setFault s b n v).hk = s.hk := (rfl)
@[simp] theorem State.setFault_sk (s : State) (b : ℕ) (n : ℕ) (v : FaultSrc) : (State.setFault s b n v).sk = s.sk := (rfl)
@[simp] theorem State.setFault_host (s : State) (b : ℕ) (n : ℕ) (v : FaultSrc) : (State.setFault s b n v).host = s.host := (rfl)
@[simp] theorem State.setFault_cmd (s : State) (b : ℕ) (n : ℕ) (v : FaultSrc) : (State.setFault s b n v).cmd = s.cmd := (rfl)
@[simp] theorem State.setFault_out (s : State) (b : ℕ) (n : ℕ) (v : FaultSrc) : (State.setFault s b n v).out = s.out := (rfl)
@[simp] theorem State.setFault_epochs (s : State) (b : ℕ) (n : ℕ) (v : FaultSrc) : (State.setFault s b n v).epochs = s.epochs := (rfl)
@[simp] theorem State.setFault_regs (s : State) (b : ℕ) (n : ℕ) (v : FaultSrc) : (State.setFault s b n v).regs = s.regs := (rfl)
@[simp] theorem State.setFault_power (s : State) (b : ℕ) (n : ℕ) (v : FaultSrc) : (State.setFault s b n v).power = s.power := (rfl)
@[simp] theorem State.setFault_sec (s : State) (b : ℕ) (n : ℕ) (v : FaultSrc) : (State.setFault s b n v).sec = s.sec := (rfl)
@[simp] theorem State.setFault_boot (s : State) (b : ℕ) (n : ℕ) (v : FaultSrc) : (State.setFault s b n v).boot = s.boot := (rfl)
@[simp] theorem State.setFault_deviceId (s : State) (b : ℕ) (n : ℕ) (v : FaultSrc) : (State.setFault s b n v).deviceId = s.deviceId := (rfl)
@[simp] theorem State.setFault_freeCtr (s : State) (b : ℕ) (n : ℕ) (v : FaultSrc) : (State.setFault s b n v).freeCtr = s.freeCtr := (rfl)

/-! `State.signal` -/

@[simp] theorem State.signal_pending (s : State) (x : Signal) : (State.signal s x).pending = s.pending := (rfl)
@[simp] theorem State.signal_time (s : State) (x : Signal) : (State.signal s x).time = s.time := (rfl)
@[simp] theorem State.signal_mast (s : State) (x : Signal) : (State.signal s x).mast = s.mast := (rfl)
@[simp] theorem State.signal_rig (s : State) (x : Signal) : (State.signal s x).rig = s.rig := (rfl)
@[simp] theorem State.signal_port (s : State) (x : Signal) : (State.signal s x).port = s.port := (rfl)
@[simp] theorem State.signal_pk (s : State) (x : Signal) : (State.signal s x).pk = s.pk := (rfl)
@[simp] theorem State.signal_hk (s : State) (x : Signal) : (State.signal s x).hk = s.hk := (rfl)
@[simp] theorem State.signal_sk (s : State) (x : Signal) : (State.signal s x).sk = s.sk := (rfl)
@[simp] theorem State.signal_host (s : State) (x : Signal) : (State.signal s x).host = s.host := (rfl)
@[simp] theorem State.signal_cmd (s : State) (x : Signal) : (State.signal s x).cmd = s.cmd := (rfl)
@[simp] theorem State.signal_flt (s : State) (x : Signal) : (State.signal s x).flt = s.flt := (rfl)
@[simp] theorem State.signal_epochs (s : State) (x : Signal) : (State.signal s x).epochs = s.epochs := (rfl)
@[simp] theorem State.signal_regs (s : State) (x : Signal) : (State.signal s x).regs = s.regs := (rfl)
@[simp] theorem State.signal_power (s : State) (x : Signal) : (State.signal s x).power = s.power := (rfl)
@[simp] theorem State.signal_sec (s : State) (x : Signal) : (State.signal s x).sec = s.sec := (rfl)
@[simp] theorem State.signal_boot (s : State) (x : Signal) : (State.signal s x).boot = s.boot := (rfl)
@[simp] theorem State.signal_deviceId (s : State) (x : Signal) : (State.signal s x).deviceId = s.deviceId := (rfl)
@[simp] theorem State.signal_freeCtr (s : State) (x : Signal) : (State.signal s x).freeCtr = s.freeCtr := (rfl)

/-! `State.setFn` -/

@[simp] theorem State.setFn_pending (s : State) (f : ℕ) (v : Fn) : (State.setFn s f v).pending = s.pending := (rfl)
@[simp] theorem State.setFn_time (s : State) (f : ℕ) (v : Fn) : (State.setFn s f v).time = s.time := (rfl)
@[simp] theorem State.setFn_mast (s : State) (f : ℕ) (v : Fn) : (State.setFn s f v).mast = s.mast := (rfl)
@[simp] theorem State.setFn_rig (s : State) (f : ℕ) (v : Fn) : (State.setFn s f v).rig = s.rig := (rfl)
@[simp] theorem State.setFn_port (s : State) (f : ℕ) (v : Fn) : (State.setFn s f v).port = s.port := (rfl)
@[simp] theorem State.setFn_pk (s : State) (f : ℕ) (v : Fn) : (State.setFn s f v).pk = s.pk := (rfl)
@[simp] theorem State.setFn_hk (s : State) (f : ℕ) (v : Fn) : (State.setFn s f v).hk = s.hk := (rfl)
@[simp] theorem State.setFn_sk (s : State) (f : ℕ) (v : Fn) : (State.setFn s f v).sk = s.sk := (rfl)
@[simp] theorem State.setFn_cmd (s : State) (f : ℕ) (v : Fn) : (State.setFn s f v).cmd = s.cmd := (rfl)
@[simp] theorem State.setFn_out (s : State) (f : ℕ) (v : Fn) : (State.setFn s f v).out = s.out := (rfl)
@[simp] theorem State.setFn_flt (s : State) (f : ℕ) (v : Fn) : (State.setFn s f v).flt = s.flt := (rfl)
@[simp] theorem State.setFn_epochs (s : State) (f : ℕ) (v : Fn) : (State.setFn s f v).epochs = s.epochs := (rfl)
@[simp] theorem State.setFn_regs (s : State) (f : ℕ) (v : Fn) : (State.setFn s f v).regs = s.regs := (rfl)
@[simp] theorem State.setFn_power (s : State) (f : ℕ) (v : Fn) : (State.setFn s f v).power = s.power := (rfl)
@[simp] theorem State.setFn_sec (s : State) (f : ℕ) (v : Fn) : (State.setFn s f v).sec = s.sec := (rfl)
@[simp] theorem State.setFn_boot (s : State) (f : ℕ) (v : Fn) : (State.setFn s f v).boot = s.boot := (rfl)
@[simp] theorem State.setFn_deviceId (s : State) (f : ℕ) (v : Fn) : (State.setFn s f v).deviceId = s.deviceId := (rfl)
@[simp] theorem State.setFn_freeCtr (s : State) (f : ℕ) (v : Fn) : (State.setFn s f v).freeCtr = s.freeCtr := (rfl)

/-! `State.setSub` -/

@[simp] theorem State.setSub_pending (s : State) (src : Source) (v : Subscriber) : (State.setSub s src v).pending = s.pending := (rfl)
@[simp] theorem State.setSub_time (s : State) (src : Source) (v : Subscriber) : (State.setSub s src v).time = s.time := (rfl)
@[simp] theorem State.setSub_mast (s : State) (src : Source) (v : Subscriber) : (State.setSub s src v).mast = s.mast := (rfl)
@[simp] theorem State.setSub_rig (s : State) (src : Source) (v : Subscriber) : (State.setSub s src v).rig = s.rig := (rfl)
@[simp] theorem State.setSub_port (s : State) (src : Source) (v : Subscriber) : (State.setSub s src v).port = s.port := (rfl)
@[simp] theorem State.setSub_pk (s : State) (src : Source) (v : Subscriber) : (State.setSub s src v).pk = s.pk := (rfl)
@[simp] theorem State.setSub_hk (s : State) (src : Source) (v : Subscriber) : (State.setSub s src v).hk = s.hk := (rfl)
@[simp] theorem State.setSub_sk (s : State) (src : Source) (v : Subscriber) : (State.setSub s src v).sk = s.sk := (rfl)
@[simp] theorem State.setSub_host (s : State) (src : Source) (v : Subscriber) : (State.setSub s src v).host = s.host := (rfl)
@[simp] theorem State.setSub_out (s : State) (src : Source) (v : Subscriber) : (State.setSub s src v).out = s.out := (rfl)
@[simp] theorem State.setSub_flt (s : State) (src : Source) (v : Subscriber) : (State.setSub s src v).flt = s.flt := (rfl)
@[simp] theorem State.setSub_epochs (s : State) (src : Source) (v : Subscriber) : (State.setSub s src v).epochs = s.epochs := (rfl)
@[simp] theorem State.setSub_regs (s : State) (src : Source) (v : Subscriber) : (State.setSub s src v).regs = s.regs := (rfl)
@[simp] theorem State.setSub_power (s : State) (src : Source) (v : Subscriber) : (State.setSub s src v).power = s.power := (rfl)
@[simp] theorem State.setSub_sec (s : State) (src : Source) (v : Subscriber) : (State.setSub s src v).sec = s.sec := (rfl)
@[simp] theorem State.setSub_boot (s : State) (src : Source) (v : Subscriber) : (State.setSub s src v).boot = s.boot := (rfl)
@[simp] theorem State.setSub_deviceId (s : State) (src : Source) (v : Subscriber) : (State.setSub s src v).deviceId = s.deviceId := (rfl)
@[simp] theorem State.setSub_freeCtr (s : State) (src : Source) (v : Subscriber) : (State.setSub s src v).freeCtr = s.freeCtr := (rfl)

/-! `State.setEpoch` -/

@[simp] theorem State.setEpoch_pending (s : State) (k : ℕ) (v : ℕ) : (State.setEpoch s k v).pending = s.pending := (rfl)
@[simp] theorem State.setEpoch_time (s : State) (k : ℕ) (v : ℕ) : (State.setEpoch s k v).time = s.time := (rfl)
@[simp] theorem State.setEpoch_mast (s : State) (k : ℕ) (v : ℕ) : (State.setEpoch s k v).mast = s.mast := (rfl)
@[simp] theorem State.setEpoch_rig (s : State) (k : ℕ) (v : ℕ) : (State.setEpoch s k v).rig = s.rig := (rfl)
@[simp] theorem State.setEpoch_port (s : State) (k : ℕ) (v : ℕ) : (State.setEpoch s k v).port = s.port := (rfl)
@[simp] theorem State.setEpoch_pk (s : State) (k : ℕ) (v : ℕ) : (State.setEpoch s k v).pk = s.pk := (rfl)
@[simp] theorem State.setEpoch_hk (s : State) (k : ℕ) (v : ℕ) : (State.setEpoch s k v).hk = s.hk := (rfl)
@[simp] theorem State.setEpoch_sk (s : State) (k : ℕ) (v : ℕ) : (State.setEpoch s k v).sk = s.sk := (rfl)
@[simp] theorem State.setEpoch_host (s : State) (k : ℕ) (v : ℕ) : (State.setEpoch s k v).host = s.host := (rfl)
@[simp] theorem State.setEpoch_cmd (s : State) (k : ℕ) (v : ℕ) : (State.setEpoch s k v).cmd = s.cmd := (rfl)
@[simp] theorem State.setEpoch_out (s : State) (k : ℕ) (v : ℕ) : (State.setEpoch s k v).out = s.out := (rfl)
@[simp] theorem State.setEpoch_flt (s : State) (k : ℕ) (v : ℕ) : (State.setEpoch s k v).flt = s.flt := (rfl)
@[simp] theorem State.setEpoch_regs (s : State) (k : ℕ) (v : ℕ) : (State.setEpoch s k v).regs = s.regs := (rfl)
@[simp] theorem State.setEpoch_power (s : State) (k : ℕ) (v : ℕ) : (State.setEpoch s k v).power = s.power := (rfl)
@[simp] theorem State.setEpoch_sec (s : State) (k : ℕ) (v : ℕ) : (State.setEpoch s k v).sec = s.sec := (rfl)
@[simp] theorem State.setEpoch_boot (s : State) (k : ℕ) (v : ℕ) : (State.setEpoch s k v).boot = s.boot := (rfl)
@[simp] theorem State.setEpoch_deviceId (s : State) (k : ℕ) (v : ℕ) : (State.setEpoch s k v).deviceId = s.deviceId := (rfl)
@[simp] theorem State.setEpoch_freeCtr (s : State) (k : ℕ) (v : ℕ) : (State.setEpoch s k v).freeCtr = s.freeCtr := (rfl)

/-! `bumpEpoch` -/

@[simp] theorem bumpEpoch_pending (k : ℕ) (dom : ℕ) (s : State) : (bumpEpoch k dom s).pending = s.pending := (rfl)
@[simp] theorem bumpEpoch_time (k : ℕ) (dom : ℕ) (s : State) : (bumpEpoch k dom s).time = s.time := (rfl)
@[simp] theorem bumpEpoch_mast (k : ℕ) (dom : ℕ) (s : State) : (bumpEpoch k dom s).mast = s.mast := (rfl)
@[simp] theorem bumpEpoch_rig (k : ℕ) (dom : ℕ) (s : State) : (bumpEpoch k dom s).rig = s.rig := (rfl)
@[simp] theorem bumpEpoch_port (k : ℕ) (dom : ℕ) (s : State) : (bumpEpoch k dom s).port = s.port := (rfl)
@[simp] theorem bumpEpoch_pk (k : ℕ) (dom : ℕ) (s : State) : (bumpEpoch k dom s).pk = s.pk := (rfl)
@[simp] theorem bumpEpoch_hk (k : ℕ) (dom : ℕ) (s : State) : (bumpEpoch k dom s).hk = s.hk := (rfl)
@[simp] theorem bumpEpoch_sk (k : ℕ) (dom : ℕ) (s : State) : (bumpEpoch k dom s).sk = s.sk := (rfl)
@[simp] theorem bumpEpoch_host (k : ℕ) (dom : ℕ) (s : State) : (bumpEpoch k dom s).host = s.host := (rfl)
@[simp] theorem bumpEpoch_cmd (k : ℕ) (dom : ℕ) (s : State) : (bumpEpoch k dom s).cmd = s.cmd := (rfl)
@[simp] theorem bumpEpoch_out (k : ℕ) (dom : ℕ) (s : State) : (bumpEpoch k dom s).out = s.out := (rfl)
@[simp] theorem bumpEpoch_flt (k : ℕ) (dom : ℕ) (s : State) : (bumpEpoch k dom s).flt = s.flt := (rfl)
@[simp] theorem bumpEpoch_regs (k : ℕ) (dom : ℕ) (s : State) : (bumpEpoch k dom s).regs = s.regs := (rfl)
@[simp] theorem bumpEpoch_power (k : ℕ) (dom : ℕ) (s : State) : (bumpEpoch k dom s).power = s.power := (rfl)
@[simp] theorem bumpEpoch_sec (k : ℕ) (dom : ℕ) (s : State) : (bumpEpoch k dom s).sec = s.sec := (rfl)
@[simp] theorem bumpEpoch_boot (k : ℕ) (dom : ℕ) (s : State) : (bumpEpoch k dom s).boot = s.boot := (rfl)
@[simp] theorem bumpEpoch_deviceId (k : ℕ) (dom : ℕ) (s : State) : (bumpEpoch k dom s).deviceId = s.deviceId := (rfl)
@[simp] theorem bumpEpoch_freeCtr (k : ℕ) (dom : ℕ) (s : State) : (bumpEpoch k dom s).freeCtr = s.freeCtr := (rfl)

/-! `hostWrite` -/

@[simp] theorem hostWrite_pending (fn : ℕ) (addr : ℕ) (b : List Byte) (poison : Bool) (s : State) (relaxed : Bool) : (hostWrite fn addr b poison s relaxed).pending = s.pending := (rfl)
@[simp] theorem hostWrite_time (fn : ℕ) (addr : ℕ) (b : List Byte) (poison : Bool) (s : State) (relaxed : Bool) : (hostWrite fn addr b poison s relaxed).time = s.time := (rfl)
@[simp] theorem hostWrite_mast (fn : ℕ) (addr : ℕ) (b : List Byte) (poison : Bool) (s : State) (relaxed : Bool) : (hostWrite fn addr b poison s relaxed).mast = s.mast := (rfl)
@[simp] theorem hostWrite_rig (fn : ℕ) (addr : ℕ) (b : List Byte) (poison : Bool) (s : State) (relaxed : Bool) : (hostWrite fn addr b poison s relaxed).rig = s.rig := (rfl)
@[simp] theorem hostWrite_port (fn : ℕ) (addr : ℕ) (b : List Byte) (poison : Bool) (s : State) (relaxed : Bool) : (hostWrite fn addr b poison s relaxed).port = s.port := (rfl)
@[simp] theorem hostWrite_pk (fn : ℕ) (addr : ℕ) (b : List Byte) (poison : Bool) (s : State) (relaxed : Bool) : (hostWrite fn addr b poison s relaxed).pk = s.pk := (rfl)
@[simp] theorem hostWrite_hk (fn : ℕ) (addr : ℕ) (b : List Byte) (poison : Bool) (s : State) (relaxed : Bool) : (hostWrite fn addr b poison s relaxed).hk = s.hk := (rfl)
@[simp] theorem hostWrite_sk (fn : ℕ) (addr : ℕ) (b : List Byte) (poison : Bool) (s : State) (relaxed : Bool) : (hostWrite fn addr b poison s relaxed).sk = s.sk := (rfl)
@[simp] theorem hostWrite_host (fn : ℕ) (addr : ℕ) (b : List Byte) (poison : Bool) (s : State) (relaxed : Bool) : (hostWrite fn addr b poison s relaxed).host = s.host := (rfl)
@[simp] theorem hostWrite_cmd (fn : ℕ) (addr : ℕ) (b : List Byte) (poison : Bool) (s : State) (relaxed : Bool) : (hostWrite fn addr b poison s relaxed).cmd = s.cmd := (rfl)
@[simp] theorem hostWrite_flt (fn : ℕ) (addr : ℕ) (b : List Byte) (poison : Bool) (s : State) (relaxed : Bool) : (hostWrite fn addr b poison s relaxed).flt = s.flt := (rfl)
@[simp] theorem hostWrite_epochs (fn : ℕ) (addr : ℕ) (b : List Byte) (poison : Bool) (s : State) (relaxed : Bool) : (hostWrite fn addr b poison s relaxed).epochs = s.epochs := (rfl)
@[simp] theorem hostWrite_regs (fn : ℕ) (addr : ℕ) (b : List Byte) (poison : Bool) (s : State) (relaxed : Bool) : (hostWrite fn addr b poison s relaxed).regs = s.regs := (rfl)
@[simp] theorem hostWrite_power (fn : ℕ) (addr : ℕ) (b : List Byte) (poison : Bool) (s : State) (relaxed : Bool) : (hostWrite fn addr b poison s relaxed).power = s.power := (rfl)
@[simp] theorem hostWrite_sec (fn : ℕ) (addr : ℕ) (b : List Byte) (poison : Bool) (s : State) (relaxed : Bool) : (hostWrite fn addr b poison s relaxed).sec = s.sec := (rfl)
@[simp] theorem hostWrite_boot (fn : ℕ) (addr : ℕ) (b : List Byte) (poison : Bool) (s : State) (relaxed : Bool) : (hostWrite fn addr b poison s relaxed).boot = s.boot := (rfl)
@[simp] theorem hostWrite_deviceId (fn : ℕ) (addr : ℕ) (b : List Byte) (poison : Bool) (s : State) (relaxed : Bool) : (hostWrite fn addr b poison s relaxed).deviceId = s.deviceId := (rfl)
@[simp] theorem hostWrite_freeCtr (fn : ℕ) (addr : ℕ) (b : List Byte) (poison : Bool) (s : State) (relaxed : Bool) : (hostWrite fn addr b poison s relaxed).freeCtr = s.freeCtr := (rfl)

/-! `mgmtFrameOut` -/

@[simp] theorem mgmtFrameOut_pending (typ : ℕ) (port : ℕ) (dmac : ℕ) (words : List W) (s : State) : (mgmtFrameOut typ port dmac words s).pending = s.pending := (rfl)
@[simp] theorem mgmtFrameOut_time (typ : ℕ) (port : ℕ) (dmac : ℕ) (words : List W) (s : State) : (mgmtFrameOut typ port dmac words s).time = s.time := (rfl)
@[simp] theorem mgmtFrameOut_mast (typ : ℕ) (port : ℕ) (dmac : ℕ) (words : List W) (s : State) : (mgmtFrameOut typ port dmac words s).mast = s.mast := (rfl)
@[simp] theorem mgmtFrameOut_rig (typ : ℕ) (port : ℕ) (dmac : ℕ) (words : List W) (s : State) : (mgmtFrameOut typ port dmac words s).rig = s.rig := (rfl)
@[simp] theorem mgmtFrameOut_port (typ : ℕ) (port : ℕ) (dmac : ℕ) (words : List W) (s : State) : (mgmtFrameOut typ port dmac words s).port = s.port := (rfl)
@[simp] theorem mgmtFrameOut_pk (typ : ℕ) (port : ℕ) (dmac : ℕ) (words : List W) (s : State) : (mgmtFrameOut typ port dmac words s).pk = s.pk := (rfl)
@[simp] theorem mgmtFrameOut_hk (typ : ℕ) (port : ℕ) (dmac : ℕ) (words : List W) (s : State) : (mgmtFrameOut typ port dmac words s).hk = s.hk := (rfl)
@[simp] theorem mgmtFrameOut_sk (typ : ℕ) (port : ℕ) (dmac : ℕ) (words : List W) (s : State) : (mgmtFrameOut typ port dmac words s).sk = s.sk := (rfl)
@[simp] theorem mgmtFrameOut_host (typ : ℕ) (port : ℕ) (dmac : ℕ) (words : List W) (s : State) : (mgmtFrameOut typ port dmac words s).host = s.host := (rfl)
@[simp] theorem mgmtFrameOut_cmd (typ : ℕ) (port : ℕ) (dmac : ℕ) (words : List W) (s : State) : (mgmtFrameOut typ port dmac words s).cmd = s.cmd := (rfl)
@[simp] theorem mgmtFrameOut_flt (typ : ℕ) (port : ℕ) (dmac : ℕ) (words : List W) (s : State) : (mgmtFrameOut typ port dmac words s).flt = s.flt := (rfl)
@[simp] theorem mgmtFrameOut_epochs (typ : ℕ) (port : ℕ) (dmac : ℕ) (words : List W) (s : State) : (mgmtFrameOut typ port dmac words s).epochs = s.epochs := (rfl)
@[simp] theorem mgmtFrameOut_regs (typ : ℕ) (port : ℕ) (dmac : ℕ) (words : List W) (s : State) : (mgmtFrameOut typ port dmac words s).regs = s.regs := (rfl)
@[simp] theorem mgmtFrameOut_power (typ : ℕ) (port : ℕ) (dmac : ℕ) (words : List W) (s : State) : (mgmtFrameOut typ port dmac words s).power = s.power := (rfl)
@[simp] theorem mgmtFrameOut_sec (typ : ℕ) (port : ℕ) (dmac : ℕ) (words : List W) (s : State) : (mgmtFrameOut typ port dmac words s).sec = s.sec := (rfl)
@[simp] theorem mgmtFrameOut_boot (typ : ℕ) (port : ℕ) (dmac : ℕ) (words : List W) (s : State) : (mgmtFrameOut typ port dmac words s).boot = s.boot := (rfl)
@[simp] theorem mgmtFrameOut_deviceId (typ : ℕ) (port : ℕ) (dmac : ℕ) (words : List W) (s : State) : (mgmtFrameOut typ port dmac words s).deviceId = s.deviceId := (rfl)
@[simp] theorem mgmtFrameOut_freeCtr (typ : ℕ) (port : ℕ) (dmac : ℕ) (words : List W) (s : State) : (mgmtFrameOut typ port dmac words s).freeCtr = s.freeCtr := (rfl)

/-! `mgmtSend` -/

@[simp] theorem mgmtSend_pending (port : ℕ) (b : List Byte) (s : State) : (mgmtSend port b s).pending = s.pending := (rfl)
@[simp] theorem mgmtSend_time (port : ℕ) (b : List Byte) (s : State) : (mgmtSend port b s).time = s.time := (rfl)
@[simp] theorem mgmtSend_mast (port : ℕ) (b : List Byte) (s : State) : (mgmtSend port b s).mast = s.mast := (rfl)
@[simp] theorem mgmtSend_rig (port : ℕ) (b : List Byte) (s : State) : (mgmtSend port b s).rig = s.rig := (rfl)
@[simp] theorem mgmtSend_port (port : ℕ) (b : List Byte) (s : State) : (mgmtSend port b s).port = s.port := (rfl)
@[simp] theorem mgmtSend_pk (port : ℕ) (b : List Byte) (s : State) : (mgmtSend port b s).pk = s.pk := (rfl)
@[simp] theorem mgmtSend_hk (port : ℕ) (b : List Byte) (s : State) : (mgmtSend port b s).hk = s.hk := (rfl)
@[simp] theorem mgmtSend_sk (port : ℕ) (b : List Byte) (s : State) : (mgmtSend port b s).sk = s.sk := (rfl)
@[simp] theorem mgmtSend_host (port : ℕ) (b : List Byte) (s : State) : (mgmtSend port b s).host = s.host := (rfl)
@[simp] theorem mgmtSend_cmd (port : ℕ) (b : List Byte) (s : State) : (mgmtSend port b s).cmd = s.cmd := (rfl)
@[simp] theorem mgmtSend_flt (port : ℕ) (b : List Byte) (s : State) : (mgmtSend port b s).flt = s.flt := (rfl)
@[simp] theorem mgmtSend_epochs (port : ℕ) (b : List Byte) (s : State) : (mgmtSend port b s).epochs = s.epochs := (rfl)
@[simp] theorem mgmtSend_regs (port : ℕ) (b : List Byte) (s : State) : (mgmtSend port b s).regs = s.regs := (rfl)
@[simp] theorem mgmtSend_power (port : ℕ) (b : List Byte) (s : State) : (mgmtSend port b s).power = s.power := (rfl)
@[simp] theorem mgmtSend_sec (port : ℕ) (b : List Byte) (s : State) : (mgmtSend port b s).sec = s.sec := (rfl)
@[simp] theorem mgmtSend_boot (port : ℕ) (b : List Byte) (s : State) : (mgmtSend port b s).boot = s.boot := (rfl)
@[simp] theorem mgmtSend_deviceId (port : ℕ) (b : List Byte) (s : State) : (mgmtSend port b s).deviceId = s.deviceId := (rfl)
@[simp] theorem mgmtSend_freeCtr (port : ℕ) (b : List Byte) (s : State) : (mgmtSend port b s).freeCtr = s.freeCtr := (rfl)

/-! `sendLink` -/

@[simp] theorem sendLink_pending (port : ℕ) (b : List Byte) (s : State) : (sendLink port b s).pending = s.pending := (rfl)
@[simp] theorem sendLink_time (port : ℕ) (b : List Byte) (s : State) : (sendLink port b s).time = s.time := (rfl)
@[simp] theorem sendLink_mast (port : ℕ) (b : List Byte) (s : State) : (sendLink port b s).mast = s.mast := (rfl)
@[simp] theorem sendLink_rig (port : ℕ) (b : List Byte) (s : State) : (sendLink port b s).rig = s.rig := (rfl)
@[simp] theorem sendLink_port (port : ℕ) (b : List Byte) (s : State) : (sendLink port b s).port = s.port := (rfl)
@[simp] theorem sendLink_pk (port : ℕ) (b : List Byte) (s : State) : (sendLink port b s).pk = s.pk := (rfl)
@[simp] theorem sendLink_hk (port : ℕ) (b : List Byte) (s : State) : (sendLink port b s).hk = s.hk := (rfl)
@[simp] theorem sendLink_sk (port : ℕ) (b : List Byte) (s : State) : (sendLink port b s).sk = s.sk := (rfl)
@[simp] theorem sendLink_host (port : ℕ) (b : List Byte) (s : State) : (sendLink port b s).host = s.host := (rfl)
@[simp] theorem sendLink_cmd (port : ℕ) (b : List Byte) (s : State) : (sendLink port b s).cmd = s.cmd := (rfl)
@[simp] theorem sendLink_flt (port : ℕ) (b : List Byte) (s : State) : (sendLink port b s).flt = s.flt := (rfl)
@[simp] theorem sendLink_epochs (port : ℕ) (b : List Byte) (s : State) : (sendLink port b s).epochs = s.epochs := (rfl)
@[simp] theorem sendLink_regs (port : ℕ) (b : List Byte) (s : State) : (sendLink port b s).regs = s.regs := (rfl)
@[simp] theorem sendLink_power (port : ℕ) (b : List Byte) (s : State) : (sendLink port b s).power = s.power := (rfl)
@[simp] theorem sendLink_sec (port : ℕ) (b : List Byte) (s : State) : (sendLink port b s).sec = s.sec := (rfl)
@[simp] theorem sendLink_boot (port : ℕ) (b : List Byte) (s : State) : (sendLink port b s).boot = s.boot := (rfl)
@[simp] theorem sendLink_deviceId (port : ℕ) (b : List Byte) (s : State) : (sendLink port b s).deviceId = s.deviceId := (rfl)
@[simp] theorem sendLink_freeCtr (port : ℕ) (b : List Byte) (s : State) : (sendLink port b s).freeCtr = s.freeCtr := (rfl)

/-! `pinEdge` -/

@[simp] theorem pinEdge_pending (pin : ℕ) (level : Bool) (note : ℕ) (s : State) : (pinEdge pin level note s).pending = s.pending := (rfl)
@[simp] theorem pinEdge_time (pin : ℕ) (level : Bool) (note : ℕ) (s : State) : (pinEdge pin level note s).time = s.time := (rfl)
@[simp] theorem pinEdge_mast (pin : ℕ) (level : Bool) (note : ℕ) (s : State) : (pinEdge pin level note s).mast = s.mast := (rfl)
@[simp] theorem pinEdge_rig (pin : ℕ) (level : Bool) (note : ℕ) (s : State) : (pinEdge pin level note s).rig = s.rig := (rfl)
@[simp] theorem pinEdge_port (pin : ℕ) (level : Bool) (note : ℕ) (s : State) : (pinEdge pin level note s).port = s.port := (rfl)
@[simp] theorem pinEdge_pk (pin : ℕ) (level : Bool) (note : ℕ) (s : State) : (pinEdge pin level note s).pk = s.pk := (rfl)
@[simp] theorem pinEdge_hk (pin : ℕ) (level : Bool) (note : ℕ) (s : State) : (pinEdge pin level note s).hk = s.hk := (rfl)
@[simp] theorem pinEdge_sk (pin : ℕ) (level : Bool) (note : ℕ) (s : State) : (pinEdge pin level note s).sk = s.sk := (rfl)
@[simp] theorem pinEdge_host (pin : ℕ) (level : Bool) (note : ℕ) (s : State) : (pinEdge pin level note s).host = s.host := (rfl)
@[simp] theorem pinEdge_cmd (pin : ℕ) (level : Bool) (note : ℕ) (s : State) : (pinEdge pin level note s).cmd = s.cmd := (rfl)
@[simp] theorem pinEdge_flt (pin : ℕ) (level : Bool) (note : ℕ) (s : State) : (pinEdge pin level note s).flt = s.flt := (rfl)
@[simp] theorem pinEdge_epochs (pin : ℕ) (level : Bool) (note : ℕ) (s : State) : (pinEdge pin level note s).epochs = s.epochs := (rfl)
@[simp] theorem pinEdge_regs (pin : ℕ) (level : Bool) (note : ℕ) (s : State) : (pinEdge pin level note s).regs = s.regs := (rfl)
@[simp] theorem pinEdge_power (pin : ℕ) (level : Bool) (note : ℕ) (s : State) : (pinEdge pin level note s).power = s.power := (rfl)
@[simp] theorem pinEdge_sec (pin : ℕ) (level : Bool) (note : ℕ) (s : State) : (pinEdge pin level note s).sec = s.sec := (rfl)
@[simp] theorem pinEdge_boot (pin : ℕ) (level : Bool) (note : ℕ) (s : State) : (pinEdge pin level note s).boot = s.boot := (rfl)
@[simp] theorem pinEdge_deviceId (pin : ℕ) (level : Bool) (note : ℕ) (s : State) : (pinEdge pin level note s).deviceId = s.deviceId := (rfl)
@[simp] theorem pinEdge_freeCtr (pin : ℕ) (level : Bool) (note : ℕ) (s : State) : (pinEdge pin level note s).freeCtr = s.freeCtr := (rfl)

/-! `readOut` -/

@[simp] theorem readOut_pending (w : W) (s : State) : (readOut w s).pending = s.pending := (rfl)
@[simp] theorem readOut_time (w : W) (s : State) : (readOut w s).time = s.time := (rfl)
@[simp] theorem readOut_mast (w : W) (s : State) : (readOut w s).mast = s.mast := (rfl)
@[simp] theorem readOut_rig (w : W) (s : State) : (readOut w s).rig = s.rig := (rfl)
@[simp] theorem readOut_port (w : W) (s : State) : (readOut w s).port = s.port := (rfl)
@[simp] theorem readOut_pk (w : W) (s : State) : (readOut w s).pk = s.pk := (rfl)
@[simp] theorem readOut_hk (w : W) (s : State) : (readOut w s).hk = s.hk := (rfl)
@[simp] theorem readOut_sk (w : W) (s : State) : (readOut w s).sk = s.sk := (rfl)
@[simp] theorem readOut_host (w : W) (s : State) : (readOut w s).host = s.host := (rfl)
@[simp] theorem readOut_cmd (w : W) (s : State) : (readOut w s).cmd = s.cmd := (rfl)
@[simp] theorem readOut_flt (w : W) (s : State) : (readOut w s).flt = s.flt := (rfl)
@[simp] theorem readOut_epochs (w : W) (s : State) : (readOut w s).epochs = s.epochs := (rfl)
@[simp] theorem readOut_regs (w : W) (s : State) : (readOut w s).regs = s.regs := (rfl)
@[simp] theorem readOut_power (w : W) (s : State) : (readOut w s).power = s.power := (rfl)
@[simp] theorem readOut_sec (w : W) (s : State) : (readOut w s).sec = s.sec := (rfl)
@[simp] theorem readOut_boot (w : W) (s : State) : (readOut w s).boot = s.boot := (rfl)
@[simp] theorem readOut_deviceId (w : W) (s : State) : (readOut w s).deviceId = s.deviceId := (rfl)
@[simp] theorem readOut_freeCtr (w : W) (s : State) : (readOut w s).freeCtr = s.freeCtr := (rfl)

/-! `setPattern` -/

@[simp] theorem setPattern_pending (k : ℕ) (p : ℕ) (s : State) : (setPattern k p s).pending = s.pending := (rfl)
@[simp] theorem setPattern_time (k : ℕ) (p : ℕ) (s : State) : (setPattern k p s).time = s.time := (rfl)
@[simp] theorem setPattern_mast (k : ℕ) (p : ℕ) (s : State) : (setPattern k p s).mast = s.mast := (rfl)
@[simp] theorem setPattern_rig (k : ℕ) (p : ℕ) (s : State) : (setPattern k p s).rig = s.rig := (rfl)
@[simp] theorem setPattern_port (k : ℕ) (p : ℕ) (s : State) : (setPattern k p s).port = s.port := (rfl)
@[simp] theorem setPattern_pk (k : ℕ) (p : ℕ) (s : State) : (setPattern k p s).pk = s.pk := (rfl)
@[simp] theorem setPattern_hk (k : ℕ) (p : ℕ) (s : State) : (setPattern k p s).hk = s.hk := (rfl)
@[simp] theorem setPattern_sk (k : ℕ) (p : ℕ) (s : State) : (setPattern k p s).sk = s.sk := (rfl)
@[simp] theorem setPattern_host (k : ℕ) (p : ℕ) (s : State) : (setPattern k p s).host = s.host := (rfl)
@[simp] theorem setPattern_cmd (k : ℕ) (p : ℕ) (s : State) : (setPattern k p s).cmd = s.cmd := (rfl)
@[simp] theorem setPattern_out (k : ℕ) (p : ℕ) (s : State) : (setPattern k p s).out = s.out := (rfl)
@[simp] theorem setPattern_epochs (k : ℕ) (p : ℕ) (s : State) : (setPattern k p s).epochs = s.epochs := (rfl)
@[simp] theorem setPattern_regs (k : ℕ) (p : ℕ) (s : State) : (setPattern k p s).regs = s.regs := (rfl)
@[simp] theorem setPattern_power (k : ℕ) (p : ℕ) (s : State) : (setPattern k p s).power = s.power := (rfl)
@[simp] theorem setPattern_sec (k : ℕ) (p : ℕ) (s : State) : (setPattern k p s).sec = s.sec := (rfl)
@[simp] theorem setPattern_boot (k : ℕ) (p : ℕ) (s : State) : (setPattern k p s).boot = s.boot := (rfl)
@[simp] theorem setPattern_deviceId (k : ℕ) (p : ℕ) (s : State) : (setPattern k p s).deviceId = s.deviceId := (rfl)
@[simp] theorem setPattern_freeCtr (k : ℕ) (p : ℕ) (s : State) : (setPattern k p s).freeCtr = s.freeCtr := (rfl)

/-! `memClearWhere` -/

@[simp] theorem memClearWhere_pending (p : ℕ → Bool) (s : State) : (memClearWhere p s).pending = s.pending := (rfl)
@[simp] theorem memClearWhere_time (p : ℕ → Bool) (s : State) : (memClearWhere p s).time = s.time := (rfl)
@[simp] theorem memClearWhere_mast (p : ℕ → Bool) (s : State) : (memClearWhere p s).mast = s.mast := (rfl)
@[simp] theorem memClearWhere_rig (p : ℕ → Bool) (s : State) : (memClearWhere p s).rig = s.rig := (rfl)
@[simp] theorem memClearWhere_port (p : ℕ → Bool) (s : State) : (memClearWhere p s).port = s.port := (rfl)
@[simp] theorem memClearWhere_pk (p : ℕ → Bool) (s : State) : (memClearWhere p s).pk = s.pk := (rfl)
@[simp] theorem memClearWhere_hk (p : ℕ → Bool) (s : State) : (memClearWhere p s).hk = s.hk := (rfl)
@[simp] theorem memClearWhere_sk (p : ℕ → Bool) (s : State) : (memClearWhere p s).sk = s.sk := (rfl)
@[simp] theorem memClearWhere_host (p : ℕ → Bool) (s : State) : (memClearWhere p s).host = s.host := (rfl)
@[simp] theorem memClearWhere_cmd (p : ℕ → Bool) (s : State) : (memClearWhere p s).cmd = s.cmd := (rfl)
@[simp] theorem memClearWhere_out (p : ℕ → Bool) (s : State) : (memClearWhere p s).out = s.out := (rfl)
@[simp] theorem memClearWhere_epochs (p : ℕ → Bool) (s : State) : (memClearWhere p s).epochs = s.epochs := (rfl)
@[simp] theorem memClearWhere_regs (p : ℕ → Bool) (s : State) : (memClearWhere p s).regs = s.regs := (rfl)
@[simp] theorem memClearWhere_power (p : ℕ → Bool) (s : State) : (memClearWhere p s).power = s.power := (rfl)
@[simp] theorem memClearWhere_sec (p : ℕ → Bool) (s : State) : (memClearWhere p s).sec = s.sec := (rfl)
@[simp] theorem memClearWhere_boot (p : ℕ → Bool) (s : State) : (memClearWhere p s).boot = s.boot := (rfl)
@[simp] theorem memClearWhere_deviceId (p : ℕ → Bool) (s : State) : (memClearWhere p s).deviceId = s.deviceId := (rfl)
@[simp] theorem memClearWhere_freeCtr (p : ℕ → Bool) (s : State) : (memClearWhere p s).freeCtr = s.freeCtr := (rfl)

/-! `State.setVersion` -/

@[simp] theorem State.setVersion_pending (s : State) (src : Source) (v : ℕ) : (State.setVersion s src v).pending = s.pending := (rfl)
@[simp] theorem State.setVersion_time (s : State) (src : Source) (v : ℕ) : (State.setVersion s src v).time = s.time := (rfl)
@[simp] theorem State.setVersion_mast (s : State) (src : Source) (v : ℕ) : (State.setVersion s src v).mast = s.mast := (rfl)
@[simp] theorem State.setVersion_rig (s : State) (src : Source) (v : ℕ) : (State.setVersion s src v).rig = s.rig := (rfl)
@[simp] theorem State.setVersion_port (s : State) (src : Source) (v : ℕ) : (State.setVersion s src v).port = s.port := (rfl)
@[simp] theorem State.setVersion_pk (s : State) (src : Source) (v : ℕ) : (State.setVersion s src v).pk = s.pk := (rfl)
@[simp] theorem State.setVersion_hk (s : State) (src : Source) (v : ℕ) : (State.setVersion s src v).hk = s.hk := (rfl)
@[simp] theorem State.setVersion_sk (s : State) (src : Source) (v : ℕ) : (State.setVersion s src v).sk = s.sk := (rfl)
@[simp] theorem State.setVersion_host (s : State) (src : Source) (v : ℕ) : (State.setVersion s src v).host = s.host := (rfl)
@[simp] theorem State.setVersion_out (s : State) (src : Source) (v : ℕ) : (State.setVersion s src v).out = s.out := (rfl)
@[simp] theorem State.setVersion_flt (s : State) (src : Source) (v : ℕ) : (State.setVersion s src v).flt = s.flt := (rfl)
@[simp] theorem State.setVersion_epochs (s : State) (src : Source) (v : ℕ) : (State.setVersion s src v).epochs = s.epochs := (rfl)
@[simp] theorem State.setVersion_regs (s : State) (src : Source) (v : ℕ) : (State.setVersion s src v).regs = s.regs := (rfl)
@[simp] theorem State.setVersion_power (s : State) (src : Source) (v : ℕ) : (State.setVersion s src v).power = s.power := (rfl)
@[simp] theorem State.setVersion_sec (s : State) (src : Source) (v : ℕ) : (State.setVersion s src v).sec = s.sec := (rfl)
@[simp] theorem State.setVersion_boot (s : State) (src : Source) (v : ℕ) : (State.setVersion s src v).boot = s.boot := (rfl)
@[simp] theorem State.setVersion_deviceId (s : State) (src : Source) (v : ℕ) : (State.setVersion s src v).deviceId = s.deviceId := (rfl)
@[simp] theorem State.setVersion_freeCtr (s : State) (src : Source) (v : ℕ) : (State.setVersion s src v).freeCtr = s.freeCtr := (rfl)

/-! `openCmd` -/

@[simp] theorem openCmd_pending (kind : ℕ) (key : ℕ) (c : Cmd) (s : State) : (openCmd kind key c s).pending = s.pending := (rfl)
@[simp] theorem openCmd_time (kind : ℕ) (key : ℕ) (c : Cmd) (s : State) : (openCmd kind key c s).time = s.time := (rfl)
@[simp] theorem openCmd_mast (kind : ℕ) (key : ℕ) (c : Cmd) (s : State) : (openCmd kind key c s).mast = s.mast := (rfl)
@[simp] theorem openCmd_rig (kind : ℕ) (key : ℕ) (c : Cmd) (s : State) : (openCmd kind key c s).rig = s.rig := (rfl)
@[simp] theorem openCmd_port (kind : ℕ) (key : ℕ) (c : Cmd) (s : State) : (openCmd kind key c s).port = s.port := (rfl)
@[simp] theorem openCmd_pk (kind : ℕ) (key : ℕ) (c : Cmd) (s : State) : (openCmd kind key c s).pk = s.pk := (rfl)
@[simp] theorem openCmd_hk (kind : ℕ) (key : ℕ) (c : Cmd) (s : State) : (openCmd kind key c s).hk = s.hk := (rfl)
@[simp] theorem openCmd_sk (kind : ℕ) (key : ℕ) (c : Cmd) (s : State) : (openCmd kind key c s).sk = s.sk := (rfl)
@[simp] theorem openCmd_host (kind : ℕ) (key : ℕ) (c : Cmd) (s : State) : (openCmd kind key c s).host = s.host := (rfl)
@[simp] theorem openCmd_out (kind : ℕ) (key : ℕ) (c : Cmd) (s : State) : (openCmd kind key c s).out = s.out := (rfl)
@[simp] theorem openCmd_flt (kind : ℕ) (key : ℕ) (c : Cmd) (s : State) : (openCmd kind key c s).flt = s.flt := (rfl)
@[simp] theorem openCmd_epochs (kind : ℕ) (key : ℕ) (c : Cmd) (s : State) : (openCmd kind key c s).epochs = s.epochs := (rfl)
@[simp] theorem openCmd_regs (kind : ℕ) (key : ℕ) (c : Cmd) (s : State) : (openCmd kind key c s).regs = s.regs := (rfl)
@[simp] theorem openCmd_power (kind : ℕ) (key : ℕ) (c : Cmd) (s : State) : (openCmd kind key c s).power = s.power := (rfl)
@[simp] theorem openCmd_sec (kind : ℕ) (key : ℕ) (c : Cmd) (s : State) : (openCmd kind key c s).sec = s.sec := (rfl)
@[simp] theorem openCmd_boot (kind : ℕ) (key : ℕ) (c : Cmd) (s : State) : (openCmd kind key c s).boot = s.boot := (rfl)
@[simp] theorem openCmd_deviceId (kind : ℕ) (key : ℕ) (c : Cmd) (s : State) : (openCmd kind key c s).deviceId = s.deviceId := (rfl)
@[simp] theorem openCmd_freeCtr (kind : ℕ) (key : ℕ) (c : Cmd) (s : State) : (openCmd kind key c s).freeCtr = s.freeCtr := (rfl)

/-! `State.setCluster` -/

@[simp] theorem State.setCluster_pending (s : State) (q : ℕ) (v : Cluster) : (State.setCluster s q v).pending = s.pending := (rfl)
@[simp] theorem State.setCluster_time (s : State) (q : ℕ) (v : Cluster) : (State.setCluster s q v).time = s.time := (rfl)
@[simp] theorem State.setCluster_mast (s : State) (q : ℕ) (v : Cluster) : (State.setCluster s q v).mast = s.mast := (rfl)
@[simp] theorem State.setCluster_rig (s : State) (q : ℕ) (v : Cluster) : (State.setCluster s q v).rig = s.rig := (rfl)
@[simp] theorem State.setCluster_port (s : State) (q : ℕ) (v : Cluster) : (State.setCluster s q v).port = s.port := (rfl)
@[simp] theorem State.setCluster_pk (s : State) (q : ℕ) (v : Cluster) : (State.setCluster s q v).pk = s.pk := (rfl)
@[simp] theorem State.setCluster_sk (s : State) (q : ℕ) (v : Cluster) : (State.setCluster s q v).sk = s.sk := (rfl)
@[simp] theorem State.setCluster_host (s : State) (q : ℕ) (v : Cluster) : (State.setCluster s q v).host = s.host := (rfl)
@[simp] theorem State.setCluster_cmd (s : State) (q : ℕ) (v : Cluster) : (State.setCluster s q v).cmd = s.cmd := (rfl)
@[simp] theorem State.setCluster_out (s : State) (q : ℕ) (v : Cluster) : (State.setCluster s q v).out = s.out := (rfl)
@[simp] theorem State.setCluster_flt (s : State) (q : ℕ) (v : Cluster) : (State.setCluster s q v).flt = s.flt := (rfl)
@[simp] theorem State.setCluster_epochs (s : State) (q : ℕ) (v : Cluster) : (State.setCluster s q v).epochs = s.epochs := (rfl)
@[simp] theorem State.setCluster_regs (s : State) (q : ℕ) (v : Cluster) : (State.setCluster s q v).regs = s.regs := (rfl)
@[simp] theorem State.setCluster_power (s : State) (q : ℕ) (v : Cluster) : (State.setCluster s q v).power = s.power := (rfl)
@[simp] theorem State.setCluster_sec (s : State) (q : ℕ) (v : Cluster) : (State.setCluster s q v).sec = s.sec := (rfl)
@[simp] theorem State.setCluster_boot (s : State) (q : ℕ) (v : Cluster) : (State.setCluster s q v).boot = s.boot := (rfl)
@[simp] theorem State.setCluster_deviceId (s : State) (q : ℕ) (v : Cluster) : (State.setCluster s q v).deviceId = s.deviceId := (rfl)
@[simp] theorem State.setCluster_freeCtr (s : State) (q : ℕ) (v : Cluster) : (State.setCluster s q v).freeCtr = s.freeCtr := (rfl)

/-! `State.setTl` -/

@[simp] theorem State.setTl_pending (s : State) (t : ℕ) (v : TileState) : (State.setTl s t v).pending = s.pending := (rfl)
@[simp] theorem State.setTl_time (s : State) (t : ℕ) (v : TileState) : (State.setTl s t v).time = s.time := (rfl)
@[simp] theorem State.setTl_mast (s : State) (t : ℕ) (v : TileState) : (State.setTl s t v).mast = s.mast := (rfl)
@[simp] theorem State.setTl_rig (s : State) (t : ℕ) (v : TileState) : (State.setTl s t v).rig = s.rig := (rfl)
@[simp] theorem State.setTl_port (s : State) (t : ℕ) (v : TileState) : (State.setTl s t v).port = s.port := (rfl)
@[simp] theorem State.setTl_hk (s : State) (t : ℕ) (v : TileState) : (State.setTl s t v).hk = s.hk := (rfl)
@[simp] theorem State.setTl_sk (s : State) (t : ℕ) (v : TileState) : (State.setTl s t v).sk = s.sk := (rfl)
@[simp] theorem State.setTl_host (s : State) (t : ℕ) (v : TileState) : (State.setTl s t v).host = s.host := (rfl)
@[simp] theorem State.setTl_cmd (s : State) (t : ℕ) (v : TileState) : (State.setTl s t v).cmd = s.cmd := (rfl)
@[simp] theorem State.setTl_out (s : State) (t : ℕ) (v : TileState) : (State.setTl s t v).out = s.out := (rfl)
@[simp] theorem State.setTl_flt (s : State) (t : ℕ) (v : TileState) : (State.setTl s t v).flt = s.flt := (rfl)
@[simp] theorem State.setTl_epochs (s : State) (t : ℕ) (v : TileState) : (State.setTl s t v).epochs = s.epochs := (rfl)
@[simp] theorem State.setTl_regs (s : State) (t : ℕ) (v : TileState) : (State.setTl s t v).regs = s.regs := (rfl)
@[simp] theorem State.setTl_power (s : State) (t : ℕ) (v : TileState) : (State.setTl s t v).power = s.power := (rfl)
@[simp] theorem State.setTl_sec (s : State) (t : ℕ) (v : TileState) : (State.setTl s t v).sec = s.sec := (rfl)
@[simp] theorem State.setTl_boot (s : State) (t : ℕ) (v : TileState) : (State.setTl s t v).boot = s.boot := (rfl)
@[simp] theorem State.setTl_deviceId (s : State) (t : ℕ) (v : TileState) : (State.setTl s t v).deviceId = s.deviceId := (rfl)
@[simp] theorem State.setTl_freeCtr (s : State) (t : ℕ) (v : TileState) : (State.setTl s t v).freeCtr = s.freeCtr := (rfl)

/-! `State.modTl` -/

@[simp] theorem State.modTl_pending (s : State) (t : ℕ) (f : TileState → TileState) : (State.modTl s t f).pending = s.pending := (rfl)
@[simp] theorem State.modTl_time (s : State) (t : ℕ) (f : TileState → TileState) : (State.modTl s t f).time = s.time := (rfl)
@[simp] theorem State.modTl_mast (s : State) (t : ℕ) (f : TileState → TileState) : (State.modTl s t f).mast = s.mast := (rfl)
@[simp] theorem State.modTl_rig (s : State) (t : ℕ) (f : TileState → TileState) : (State.modTl s t f).rig = s.rig := (rfl)
@[simp] theorem State.modTl_port (s : State) (t : ℕ) (f : TileState → TileState) : (State.modTl s t f).port = s.port := (rfl)
@[simp] theorem State.modTl_hk (s : State) (t : ℕ) (f : TileState → TileState) : (State.modTl s t f).hk = s.hk := (rfl)
@[simp] theorem State.modTl_sk (s : State) (t : ℕ) (f : TileState → TileState) : (State.modTl s t f).sk = s.sk := (rfl)
@[simp] theorem State.modTl_host (s : State) (t : ℕ) (f : TileState → TileState) : (State.modTl s t f).host = s.host := (rfl)
@[simp] theorem State.modTl_cmd (s : State) (t : ℕ) (f : TileState → TileState) : (State.modTl s t f).cmd = s.cmd := (rfl)
@[simp] theorem State.modTl_out (s : State) (t : ℕ) (f : TileState → TileState) : (State.modTl s t f).out = s.out := (rfl)
@[simp] theorem State.modTl_flt (s : State) (t : ℕ) (f : TileState → TileState) : (State.modTl s t f).flt = s.flt := (rfl)
@[simp] theorem State.modTl_epochs (s : State) (t : ℕ) (f : TileState → TileState) : (State.modTl s t f).epochs = s.epochs := (rfl)
@[simp] theorem State.modTl_regs (s : State) (t : ℕ) (f : TileState → TileState) : (State.modTl s t f).regs = s.regs := (rfl)
@[simp] theorem State.modTl_power (s : State) (t : ℕ) (f : TileState → TileState) : (State.modTl s t f).power = s.power := (rfl)
@[simp] theorem State.modTl_sec (s : State) (t : ℕ) (f : TileState → TileState) : (State.modTl s t f).sec = s.sec := (rfl)
@[simp] theorem State.modTl_boot (s : State) (t : ℕ) (f : TileState → TileState) : (State.modTl s t f).boot = s.boot := (rfl)
@[simp] theorem State.modTl_deviceId (s : State) (t : ℕ) (f : TileState → TileState) : (State.modTl s t f).deviceId = s.deviceId := (rfl)
@[simp] theorem State.modTl_freeCtr (s : State) (t : ℕ) (f : TileState → TileState) : (State.modTl s t f).freeCtr = s.freeCtr := (rfl)

/-! `State.setLane` -/

@[simp] theorem State.setLane_pending (s : State) (n : ℕ) (v : Lane) : (State.setLane s n v).pending = s.pending := (rfl)
@[simp] theorem State.setLane_time (s : State) (n : ℕ) (v : Lane) : (State.setLane s n v).time = s.time := (rfl)
@[simp] theorem State.setLane_mast (s : State) (n : ℕ) (v : Lane) : (State.setLane s n v).mast = s.mast := (rfl)
@[simp] theorem State.setLane_rig (s : State) (n : ℕ) (v : Lane) : (State.setLane s n v).rig = s.rig := (rfl)
@[simp] theorem State.setLane_pk (s : State) (n : ℕ) (v : Lane) : (State.setLane s n v).pk = s.pk := (rfl)
@[simp] theorem State.setLane_hk (s : State) (n : ℕ) (v : Lane) : (State.setLane s n v).hk = s.hk := (rfl)
@[simp] theorem State.setLane_sk (s : State) (n : ℕ) (v : Lane) : (State.setLane s n v).sk = s.sk := (rfl)
@[simp] theorem State.setLane_host (s : State) (n : ℕ) (v : Lane) : (State.setLane s n v).host = s.host := (rfl)
@[simp] theorem State.setLane_cmd (s : State) (n : ℕ) (v : Lane) : (State.setLane s n v).cmd = s.cmd := (rfl)
@[simp] theorem State.setLane_out (s : State) (n : ℕ) (v : Lane) : (State.setLane s n v).out = s.out := (rfl)
@[simp] theorem State.setLane_flt (s : State) (n : ℕ) (v : Lane) : (State.setLane s n v).flt = s.flt := (rfl)
@[simp] theorem State.setLane_epochs (s : State) (n : ℕ) (v : Lane) : (State.setLane s n v).epochs = s.epochs := (rfl)
@[simp] theorem State.setLane_regs (s : State) (n : ℕ) (v : Lane) : (State.setLane s n v).regs = s.regs := (rfl)
@[simp] theorem State.setLane_power (s : State) (n : ℕ) (v : Lane) : (State.setLane s n v).power = s.power := (rfl)
@[simp] theorem State.setLane_sec (s : State) (n : ℕ) (v : Lane) : (State.setLane s n v).sec = s.sec := (rfl)
@[simp] theorem State.setLane_boot (s : State) (n : ℕ) (v : Lane) : (State.setLane s n v).boot = s.boot := (rfl)
@[simp] theorem State.setLane_deviceId (s : State) (n : ℕ) (v : Lane) : (State.setLane s n v).deviceId = s.deviceId := (rfl)
@[simp] theorem State.setLane_freeCtr (s : State) (n : ℕ) (v : Lane) : (State.setLane s n v).freeCtr = s.freeCtr := (rfl)

/-! `State.setPort` -/

@[simp] theorem State.setPort_pending (s : State) (p : ℕ) (v : Port) : (State.setPort s p v).pending = s.pending := (rfl)
@[simp] theorem State.setPort_time (s : State) (p : ℕ) (v : Port) : (State.setPort s p v).time = s.time := (rfl)
@[simp] theorem State.setPort_mast (s : State) (p : ℕ) (v : Port) : (State.setPort s p v).mast = s.mast := (rfl)
@[simp] theorem State.setPort_rig (s : State) (p : ℕ) (v : Port) : (State.setPort s p v).rig = s.rig := (rfl)
@[simp] theorem State.setPort_pk (s : State) (p : ℕ) (v : Port) : (State.setPort s p v).pk = s.pk := (rfl)
@[simp] theorem State.setPort_hk (s : State) (p : ℕ) (v : Port) : (State.setPort s p v).hk = s.hk := (rfl)
@[simp] theorem State.setPort_sk (s : State) (p : ℕ) (v : Port) : (State.setPort s p v).sk = s.sk := (rfl)
@[simp] theorem State.setPort_host (s : State) (p : ℕ) (v : Port) : (State.setPort s p v).host = s.host := (rfl)
@[simp] theorem State.setPort_cmd (s : State) (p : ℕ) (v : Port) : (State.setPort s p v).cmd = s.cmd := (rfl)
@[simp] theorem State.setPort_out (s : State) (p : ℕ) (v : Port) : (State.setPort s p v).out = s.out := (rfl)
@[simp] theorem State.setPort_flt (s : State) (p : ℕ) (v : Port) : (State.setPort s p v).flt = s.flt := (rfl)
@[simp] theorem State.setPort_epochs (s : State) (p : ℕ) (v : Port) : (State.setPort s p v).epochs = s.epochs := (rfl)
@[simp] theorem State.setPort_regs (s : State) (p : ℕ) (v : Port) : (State.setPort s p v).regs = s.regs := (rfl)
@[simp] theorem State.setPort_power (s : State) (p : ℕ) (v : Port) : (State.setPort s p v).power = s.power := (rfl)
@[simp] theorem State.setPort_sec (s : State) (p : ℕ) (v : Port) : (State.setPort s p v).sec = s.sec := (rfl)
@[simp] theorem State.setPort_boot (s : State) (p : ℕ) (v : Port) : (State.setPort s p v).boot = s.boot := (rfl)
@[simp] theorem State.setPort_deviceId (s : State) (p : ℕ) (v : Port) : (State.setPort s p v).deviceId = s.deviceId := (rfl)
@[simp] theorem State.setPort_freeCtr (s : State) (p : ℕ) (v : Port) : (State.setPort s p v).freeCtr = s.freeCtr := (rfl)

/-! `State.modPort` -/

@[simp] theorem State.modPort_pending (s : State) (p : ℕ) (f : Port → Port) : (State.modPort s p f).pending = s.pending := (rfl)
@[simp] theorem State.modPort_time (s : State) (p : ℕ) (f : Port → Port) : (State.modPort s p f).time = s.time := (rfl)
@[simp] theorem State.modPort_mast (s : State) (p : ℕ) (f : Port → Port) : (State.modPort s p f).mast = s.mast := (rfl)
@[simp] theorem State.modPort_rig (s : State) (p : ℕ) (f : Port → Port) : (State.modPort s p f).rig = s.rig := (rfl)
@[simp] theorem State.modPort_pk (s : State) (p : ℕ) (f : Port → Port) : (State.modPort s p f).pk = s.pk := (rfl)
@[simp] theorem State.modPort_hk (s : State) (p : ℕ) (f : Port → Port) : (State.modPort s p f).hk = s.hk := (rfl)
@[simp] theorem State.modPort_sk (s : State) (p : ℕ) (f : Port → Port) : (State.modPort s p f).sk = s.sk := (rfl)
@[simp] theorem State.modPort_host (s : State) (p : ℕ) (f : Port → Port) : (State.modPort s p f).host = s.host := (rfl)
@[simp] theorem State.modPort_cmd (s : State) (p : ℕ) (f : Port → Port) : (State.modPort s p f).cmd = s.cmd := (rfl)
@[simp] theorem State.modPort_out (s : State) (p : ℕ) (f : Port → Port) : (State.modPort s p f).out = s.out := (rfl)
@[simp] theorem State.modPort_flt (s : State) (p : ℕ) (f : Port → Port) : (State.modPort s p f).flt = s.flt := (rfl)
@[simp] theorem State.modPort_epochs (s : State) (p : ℕ) (f : Port → Port) : (State.modPort s p f).epochs = s.epochs := (rfl)
@[simp] theorem State.modPort_regs (s : State) (p : ℕ) (f : Port → Port) : (State.modPort s p f).regs = s.regs := (rfl)
@[simp] theorem State.modPort_power (s : State) (p : ℕ) (f : Port → Port) : (State.modPort s p f).power = s.power := (rfl)
@[simp] theorem State.modPort_sec (s : State) (p : ℕ) (f : Port → Port) : (State.modPort s p f).sec = s.sec := (rfl)
@[simp] theorem State.modPort_boot (s : State) (p : ℕ) (f : Port → Port) : (State.modPort s p f).boot = s.boot := (rfl)
@[simp] theorem State.modPort_deviceId (s : State) (p : ℕ) (f : Port → Port) : (State.modPort s p f).deviceId = s.deviceId := (rfl)
@[simp] theorem State.modPort_freeCtr (s : State) (p : ℕ) (f : Port → Port) : (State.modPort s p f).freeCtr = s.freeCtr := (rfl)

/-! `State.modLane` -/

@[simp] theorem State.modLane_pending (s : State) (n : ℕ) (f : Lane → Lane) : (State.modLane s n f).pending = s.pending := (rfl)
@[simp] theorem State.modLane_time (s : State) (n : ℕ) (f : Lane → Lane) : (State.modLane s n f).time = s.time := (rfl)
@[simp] theorem State.modLane_mast (s : State) (n : ℕ) (f : Lane → Lane) : (State.modLane s n f).mast = s.mast := (rfl)
@[simp] theorem State.modLane_rig (s : State) (n : ℕ) (f : Lane → Lane) : (State.modLane s n f).rig = s.rig := (rfl)
@[simp] theorem State.modLane_pk (s : State) (n : ℕ) (f : Lane → Lane) : (State.modLane s n f).pk = s.pk := (rfl)
@[simp] theorem State.modLane_hk (s : State) (n : ℕ) (f : Lane → Lane) : (State.modLane s n f).hk = s.hk := (rfl)
@[simp] theorem State.modLane_sk (s : State) (n : ℕ) (f : Lane → Lane) : (State.modLane s n f).sk = s.sk := (rfl)
@[simp] theorem State.modLane_host (s : State) (n : ℕ) (f : Lane → Lane) : (State.modLane s n f).host = s.host := (rfl)
@[simp] theorem State.modLane_cmd (s : State) (n : ℕ) (f : Lane → Lane) : (State.modLane s n f).cmd = s.cmd := (rfl)
@[simp] theorem State.modLane_out (s : State) (n : ℕ) (f : Lane → Lane) : (State.modLane s n f).out = s.out := (rfl)
@[simp] theorem State.modLane_flt (s : State) (n : ℕ) (f : Lane → Lane) : (State.modLane s n f).flt = s.flt := (rfl)
@[simp] theorem State.modLane_epochs (s : State) (n : ℕ) (f : Lane → Lane) : (State.modLane s n f).epochs = s.epochs := (rfl)
@[simp] theorem State.modLane_regs (s : State) (n : ℕ) (f : Lane → Lane) : (State.modLane s n f).regs = s.regs := (rfl)
@[simp] theorem State.modLane_power (s : State) (n : ℕ) (f : Lane → Lane) : (State.modLane s n f).power = s.power := (rfl)
@[simp] theorem State.modLane_sec (s : State) (n : ℕ) (f : Lane → Lane) : (State.modLane s n f).sec = s.sec := (rfl)
@[simp] theorem State.modLane_boot (s : State) (n : ℕ) (f : Lane → Lane) : (State.modLane s n f).boot = s.boot := (rfl)
@[simp] theorem State.modLane_deviceId (s : State) (n : ℕ) (f : Lane → Lane) : (State.modLane s n f).deviceId = s.deviceId := (rfl)
@[simp] theorem State.modLane_freeCtr (s : State) (n : ℕ) (f : Lane → Lane) : (State.modLane s n f).freeCtr = s.freeCtr := (rfl)

/-! `State.setSleep` -/

@[simp] theorem State.setSleep_pending (s : State) (t : ℕ) (v : CellSleep) : (State.setSleep s t v).pending = s.pending := (rfl)
@[simp] theorem State.setSleep_time (s : State) (t : ℕ) (v : CellSleep) : (State.setSleep s t v).time = s.time := (rfl)
@[simp] theorem State.setSleep_mast (s : State) (t : ℕ) (v : CellSleep) : (State.setSleep s t v).mast = s.mast := (rfl)
@[simp] theorem State.setSleep_rig (s : State) (t : ℕ) (v : CellSleep) : (State.setSleep s t v).rig = s.rig := (rfl)
@[simp] theorem State.setSleep_port (s : State) (t : ℕ) (v : CellSleep) : (State.setSleep s t v).port = s.port := (rfl)
@[simp] theorem State.setSleep_pk (s : State) (t : ℕ) (v : CellSleep) : (State.setSleep s t v).pk = s.pk := (rfl)
@[simp] theorem State.setSleep_hk (s : State) (t : ℕ) (v : CellSleep) : (State.setSleep s t v).hk = s.hk := (rfl)
@[simp] theorem State.setSleep_sk (s : State) (t : ℕ) (v : CellSleep) : (State.setSleep s t v).sk = s.sk := (rfl)
@[simp] theorem State.setSleep_host (s : State) (t : ℕ) (v : CellSleep) : (State.setSleep s t v).host = s.host := (rfl)
@[simp] theorem State.setSleep_cmd (s : State) (t : ℕ) (v : CellSleep) : (State.setSleep s t v).cmd = s.cmd := (rfl)
@[simp] theorem State.setSleep_out (s : State) (t : ℕ) (v : CellSleep) : (State.setSleep s t v).out = s.out := (rfl)
@[simp] theorem State.setSleep_flt (s : State) (t : ℕ) (v : CellSleep) : (State.setSleep s t v).flt = s.flt := (rfl)
@[simp] theorem State.setSleep_epochs (s : State) (t : ℕ) (v : CellSleep) : (State.setSleep s t v).epochs = s.epochs := (rfl)
@[simp] theorem State.setSleep_regs (s : State) (t : ℕ) (v : CellSleep) : (State.setSleep s t v).regs = s.regs := (rfl)
@[simp] theorem State.setSleep_sec (s : State) (t : ℕ) (v : CellSleep) : (State.setSleep s t v).sec = s.sec := (rfl)
@[simp] theorem State.setSleep_boot (s : State) (t : ℕ) (v : CellSleep) : (State.setSleep s t v).boot = s.boot := (rfl)
@[simp] theorem State.setSleep_deviceId (s : State) (t : ℕ) (v : CellSleep) : (State.setSleep s t v).deviceId = s.deviceId := (rfl)
@[simp] theorem State.setSleep_freeCtr (s : State) (t : ℕ) (v : CellSleep) : (State.setSleep s t v).freeCtr = s.freeCtr := (rfl)

/-! `State.setServo` -/

@[simp] theorem State.setServo_pending (s : State) (v : Servo) : (State.setServo s v).pending = s.pending := (rfl)
@[simp] theorem State.setServo_time (s : State) (v : Servo) : (State.setServo s v).time = s.time := (rfl)
@[simp] theorem State.setServo_rig (s : State) (v : Servo) : (State.setServo s v).rig = s.rig := (rfl)
@[simp] theorem State.setServo_port (s : State) (v : Servo) : (State.setServo s v).port = s.port := (rfl)
@[simp] theorem State.setServo_pk (s : State) (v : Servo) : (State.setServo s v).pk = s.pk := (rfl)
@[simp] theorem State.setServo_hk (s : State) (v : Servo) : (State.setServo s v).hk = s.hk := (rfl)
@[simp] theorem State.setServo_sk (s : State) (v : Servo) : (State.setServo s v).sk = s.sk := (rfl)
@[simp] theorem State.setServo_host (s : State) (v : Servo) : (State.setServo s v).host = s.host := (rfl)
@[simp] theorem State.setServo_cmd (s : State) (v : Servo) : (State.setServo s v).cmd = s.cmd := (rfl)
@[simp] theorem State.setServo_out (s : State) (v : Servo) : (State.setServo s v).out = s.out := (rfl)
@[simp] theorem State.setServo_flt (s : State) (v : Servo) : (State.setServo s v).flt = s.flt := (rfl)
@[simp] theorem State.setServo_epochs (s : State) (v : Servo) : (State.setServo s v).epochs = s.epochs := (rfl)
@[simp] theorem State.setServo_regs (s : State) (v : Servo) : (State.setServo s v).regs = s.regs := (rfl)
@[simp] theorem State.setServo_power (s : State) (v : Servo) : (State.setServo s v).power = s.power := (rfl)
@[simp] theorem State.setServo_sec (s : State) (v : Servo) : (State.setServo s v).sec = s.sec := (rfl)
@[simp] theorem State.setServo_boot (s : State) (v : Servo) : (State.setServo s v).boot = s.boot := (rfl)
@[simp] theorem State.setServo_deviceId (s : State) (v : Servo) : (State.setServo s v).deviceId = s.deviceId := (rfl)
@[simp] theorem State.setServo_freeCtr (s : State) (v : Servo) : (State.setServo s v).freeCtr = s.freeCtr := (rfl)

/-! `setFreq` -/

@[simp] theorem setFreq_pending (f : ℤ) (s : State) : (setFreq f s).pending = s.pending := (rfl)
@[simp] theorem setFreq_time (f : ℤ) (s : State) : (setFreq f s).time = s.time := (rfl)
@[simp] theorem setFreq_rig (f : ℤ) (s : State) : (setFreq f s).rig = s.rig := (rfl)
@[simp] theorem setFreq_port (f : ℤ) (s : State) : (setFreq f s).port = s.port := (rfl)
@[simp] theorem setFreq_pk (f : ℤ) (s : State) : (setFreq f s).pk = s.pk := (rfl)
@[simp] theorem setFreq_hk (f : ℤ) (s : State) : (setFreq f s).hk = s.hk := (rfl)
@[simp] theorem setFreq_sk (f : ℤ) (s : State) : (setFreq f s).sk = s.sk := (rfl)
@[simp] theorem setFreq_host (f : ℤ) (s : State) : (setFreq f s).host = s.host := (rfl)
@[simp] theorem setFreq_cmd (f : ℤ) (s : State) : (setFreq f s).cmd = s.cmd := (rfl)
@[simp] theorem setFreq_out (f : ℤ) (s : State) : (setFreq f s).out = s.out := (rfl)
@[simp] theorem setFreq_flt (f : ℤ) (s : State) : (setFreq f s).flt = s.flt := (rfl)
@[simp] theorem setFreq_epochs (f : ℤ) (s : State) : (setFreq f s).epochs = s.epochs := (rfl)
@[simp] theorem setFreq_regs (f : ℤ) (s : State) : (setFreq f s).regs = s.regs := (rfl)
@[simp] theorem setFreq_power (f : ℤ) (s : State) : (setFreq f s).power = s.power := (rfl)
@[simp] theorem setFreq_sec (f : ℤ) (s : State) : (setFreq f s).sec = s.sec := (rfl)
@[simp] theorem setFreq_boot (f : ℤ) (s : State) : (setFreq f s).boot = s.boot := (rfl)
@[simp] theorem setFreq_deviceId (f : ℤ) (s : State) : (setFreq f s).deviceId = s.deviceId := (rfl)
@[simp] theorem setFreq_freeCtr (f : ℤ) (s : State) : (setFreq f s).freeCtr = s.freeCtr := (rfl)

/-! `loadTime` -/

@[simp] theorem loadTime_pending (t : MTime) (s : State) : (loadTime t s).pending = s.pending := (rfl)
@[simp] theorem loadTime_rig (t : MTime) (s : State) : (loadTime t s).rig = s.rig := (rfl)
@[simp] theorem loadTime_port (t : MTime) (s : State) : (loadTime t s).port = s.port := (rfl)
@[simp] theorem loadTime_pk (t : MTime) (s : State) : (loadTime t s).pk = s.pk := (rfl)
@[simp] theorem loadTime_hk (t : MTime) (s : State) : (loadTime t s).hk = s.hk := (rfl)
@[simp] theorem loadTime_sk (t : MTime) (s : State) : (loadTime t s).sk = s.sk := (rfl)
@[simp] theorem loadTime_host (t : MTime) (s : State) : (loadTime t s).host = s.host := (rfl)
@[simp] theorem loadTime_cmd (t : MTime) (s : State) : (loadTime t s).cmd = s.cmd := (rfl)
@[simp] theorem loadTime_out (t : MTime) (s : State) : (loadTime t s).out = s.out := (rfl)
@[simp] theorem loadTime_flt (t : MTime) (s : State) : (loadTime t s).flt = s.flt := (rfl)
@[simp] theorem loadTime_epochs (t : MTime) (s : State) : (loadTime t s).epochs = s.epochs := (rfl)
@[simp] theorem loadTime_regs (t : MTime) (s : State) : (loadTime t s).regs = s.regs := (rfl)
@[simp] theorem loadTime_power (t : MTime) (s : State) : (loadTime t s).power = s.power := (rfl)
@[simp] theorem loadTime_sec (t : MTime) (s : State) : (loadTime t s).sec = s.sec := (rfl)
@[simp] theorem loadTime_boot (t : MTime) (s : State) : (loadTime t s).boot = s.boot := (rfl)
@[simp] theorem loadTime_deviceId (t : MTime) (s : State) : (loadTime t s).deviceId = s.deviceId := (rfl)
@[simp] theorem loadTime_freeCtr (t : MTime) (s : State) : (loadTime t s).freeCtr = s.freeCtr := (rfl)

/-! `State.modPk` -/

@[simp] theorem State.modPk_pending (s : State) (f : Packets → Packets) : (State.modPk s f).pending = s.pending := (rfl)
@[simp] theorem State.modPk_time (s : State) (f : Packets → Packets) : (State.modPk s f).time = s.time := (rfl)
@[simp] theorem State.modPk_mast (s : State) (f : Packets → Packets) : (State.modPk s f).mast = s.mast := (rfl)
@[simp] theorem State.modPk_rig (s : State) (f : Packets → Packets) : (State.modPk s f).rig = s.rig := (rfl)
@[simp] theorem State.modPk_port (s : State) (f : Packets → Packets) : (State.modPk s f).port = s.port := (rfl)
@[simp] theorem State.modPk_hk (s : State) (f : Packets → Packets) : (State.modPk s f).hk = s.hk := (rfl)
@[simp] theorem State.modPk_sk (s : State) (f : Packets → Packets) : (State.modPk s f).sk = s.sk := (rfl)
@[simp] theorem State.modPk_host (s : State) (f : Packets → Packets) : (State.modPk s f).host = s.host := (rfl)
@[simp] theorem State.modPk_cmd (s : State) (f : Packets → Packets) : (State.modPk s f).cmd = s.cmd := (rfl)
@[simp] theorem State.modPk_out (s : State) (f : Packets → Packets) : (State.modPk s f).out = s.out := (rfl)
@[simp] theorem State.modPk_flt (s : State) (f : Packets → Packets) : (State.modPk s f).flt = s.flt := (rfl)
@[simp] theorem State.modPk_epochs (s : State) (f : Packets → Packets) : (State.modPk s f).epochs = s.epochs := (rfl)
@[simp] theorem State.modPk_regs (s : State) (f : Packets → Packets) : (State.modPk s f).regs = s.regs := (rfl)
@[simp] theorem State.modPk_power (s : State) (f : Packets → Packets) : (State.modPk s f).power = s.power := (rfl)
@[simp] theorem State.modPk_sec (s : State) (f : Packets → Packets) : (State.modPk s f).sec = s.sec := (rfl)
@[simp] theorem State.modPk_boot (s : State) (f : Packets → Packets) : (State.modPk s f).boot = s.boot := (rfl)
@[simp] theorem State.modPk_deviceId (s : State) (f : Packets → Packets) : (State.modPk s f).deviceId = s.deviceId := (rfl)
@[simp] theorem State.modPk_freeCtr (s : State) (f : Packets → Packets) : (State.modPk s f).freeCtr = s.freeCtr := (rfl)

/-! `State.setSlice` -/

@[simp] theorem State.setSlice_pending (s : State) (i : ℕ) (v : Slice) : (State.setSlice s i v).pending = s.pending := (rfl)
@[simp] theorem State.setSlice_time (s : State) (i : ℕ) (v : Slice) : (State.setSlice s i v).time = s.time := (rfl)
@[simp] theorem State.setSlice_mast (s : State) (i : ℕ) (v : Slice) : (State.setSlice s i v).mast = s.mast := (rfl)
@[simp] theorem State.setSlice_rig (s : State) (i : ℕ) (v : Slice) : (State.setSlice s i v).rig = s.rig := (rfl)
@[simp] theorem State.setSlice_port (s : State) (i : ℕ) (v : Slice) : (State.setSlice s i v).port = s.port := (rfl)
@[simp] theorem State.setSlice_hk (s : State) (i : ℕ) (v : Slice) : (State.setSlice s i v).hk = s.hk := (rfl)
@[simp] theorem State.setSlice_sk (s : State) (i : ℕ) (v : Slice) : (State.setSlice s i v).sk = s.sk := (rfl)
@[simp] theorem State.setSlice_host (s : State) (i : ℕ) (v : Slice) : (State.setSlice s i v).host = s.host := (rfl)
@[simp] theorem State.setSlice_cmd (s : State) (i : ℕ) (v : Slice) : (State.setSlice s i v).cmd = s.cmd := (rfl)
@[simp] theorem State.setSlice_out (s : State) (i : ℕ) (v : Slice) : (State.setSlice s i v).out = s.out := (rfl)
@[simp] theorem State.setSlice_flt (s : State) (i : ℕ) (v : Slice) : (State.setSlice s i v).flt = s.flt := (rfl)
@[simp] theorem State.setSlice_epochs (s : State) (i : ℕ) (v : Slice) : (State.setSlice s i v).epochs = s.epochs := (rfl)
@[simp] theorem State.setSlice_regs (s : State) (i : ℕ) (v : Slice) : (State.setSlice s i v).regs = s.regs := (rfl)
@[simp] theorem State.setSlice_power (s : State) (i : ℕ) (v : Slice) : (State.setSlice s i v).power = s.power := (rfl)
@[simp] theorem State.setSlice_sec (s : State) (i : ℕ) (v : Slice) : (State.setSlice s i v).sec = s.sec := (rfl)
@[simp] theorem State.setSlice_boot (s : State) (i : ℕ) (v : Slice) : (State.setSlice s i v).boot = s.boot := (rfl)
@[simp] theorem State.setSlice_deviceId (s : State) (i : ℕ) (v : Slice) : (State.setSlice s i v).deviceId = s.deviceId := (rfl)
@[simp] theorem State.setSlice_freeCtr (s : State) (i : ℕ) (v : Slice) : (State.setSlice s i v).freeCtr = s.freeCtr := (rfl)

/-! `State.setXbar` -/

@[simp] theorem State.setXbar_pending (s : State) (x : Xbar) : (State.setXbar s x).pending = s.pending := (rfl)
@[simp] theorem State.setXbar_time (s : State) (x : Xbar) : (State.setXbar s x).time = s.time := (rfl)
@[simp] theorem State.setXbar_mast (s : State) (x : Xbar) : (State.setXbar s x).mast = s.mast := (rfl)
@[simp] theorem State.setXbar_rig (s : State) (x : Xbar) : (State.setXbar s x).rig = s.rig := (rfl)
@[simp] theorem State.setXbar_port (s : State) (x : Xbar) : (State.setXbar s x).port = s.port := (rfl)
@[simp] theorem State.setXbar_hk (s : State) (x : Xbar) : (State.setXbar s x).hk = s.hk := (rfl)
@[simp] theorem State.setXbar_sk (s : State) (x : Xbar) : (State.setXbar s x).sk = s.sk := (rfl)
@[simp] theorem State.setXbar_host (s : State) (x : Xbar) : (State.setXbar s x).host = s.host := (rfl)
@[simp] theorem State.setXbar_cmd (s : State) (x : Xbar) : (State.setXbar s x).cmd = s.cmd := (rfl)
@[simp] theorem State.setXbar_out (s : State) (x : Xbar) : (State.setXbar s x).out = s.out := (rfl)
@[simp] theorem State.setXbar_flt (s : State) (x : Xbar) : (State.setXbar s x).flt = s.flt := (rfl)
@[simp] theorem State.setXbar_epochs (s : State) (x : Xbar) : (State.setXbar s x).epochs = s.epochs := (rfl)
@[simp] theorem State.setXbar_regs (s : State) (x : Xbar) : (State.setXbar s x).regs = s.regs := (rfl)
@[simp] theorem State.setXbar_power (s : State) (x : Xbar) : (State.setXbar s x).power = s.power := (rfl)
@[simp] theorem State.setXbar_sec (s : State) (x : Xbar) : (State.setXbar s x).sec = s.sec := (rfl)
@[simp] theorem State.setXbar_boot (s : State) (x : Xbar) : (State.setXbar s x).boot = s.boot := (rfl)
@[simp] theorem State.setXbar_deviceId (s : State) (x : Xbar) : (State.setXbar s x).deviceId = s.deviceId := (rfl)
@[simp] theorem State.setXbar_freeCtr (s : State) (x : Xbar) : (State.setXbar s x).freeCtr = s.freeCtr := (rfl)

/-! `State.setTmq` -/

@[simp] theorem State.setTmq_pending (s : State) (q : ℕ) (v : TmQueue) : (State.setTmq s q v).pending = s.pending := (rfl)
@[simp] theorem State.setTmq_time (s : State) (q : ℕ) (v : TmQueue) : (State.setTmq s q v).time = s.time := (rfl)
@[simp] theorem State.setTmq_mast (s : State) (q : ℕ) (v : TmQueue) : (State.setTmq s q v).mast = s.mast := (rfl)
@[simp] theorem State.setTmq_rig (s : State) (q : ℕ) (v : TmQueue) : (State.setTmq s q v).rig = s.rig := (rfl)
@[simp] theorem State.setTmq_port (s : State) (q : ℕ) (v : TmQueue) : (State.setTmq s q v).port = s.port := (rfl)
@[simp] theorem State.setTmq_hk (s : State) (q : ℕ) (v : TmQueue) : (State.setTmq s q v).hk = s.hk := (rfl)
@[simp] theorem State.setTmq_sk (s : State) (q : ℕ) (v : TmQueue) : (State.setTmq s q v).sk = s.sk := (rfl)
@[simp] theorem State.setTmq_host (s : State) (q : ℕ) (v : TmQueue) : (State.setTmq s q v).host = s.host := (rfl)
@[simp] theorem State.setTmq_cmd (s : State) (q : ℕ) (v : TmQueue) : (State.setTmq s q v).cmd = s.cmd := (rfl)
@[simp] theorem State.setTmq_out (s : State) (q : ℕ) (v : TmQueue) : (State.setTmq s q v).out = s.out := (rfl)
@[simp] theorem State.setTmq_flt (s : State) (q : ℕ) (v : TmQueue) : (State.setTmq s q v).flt = s.flt := (rfl)
@[simp] theorem State.setTmq_epochs (s : State) (q : ℕ) (v : TmQueue) : (State.setTmq s q v).epochs = s.epochs := (rfl)
@[simp] theorem State.setTmq_regs (s : State) (q : ℕ) (v : TmQueue) : (State.setTmq s q v).regs = s.regs := (rfl)
@[simp] theorem State.setTmq_power (s : State) (q : ℕ) (v : TmQueue) : (State.setTmq s q v).power = s.power := (rfl)
@[simp] theorem State.setTmq_sec (s : State) (q : ℕ) (v : TmQueue) : (State.setTmq s q v).sec = s.sec := (rfl)
@[simp] theorem State.setTmq_boot (s : State) (q : ℕ) (v : TmQueue) : (State.setTmq s q v).boot = s.boot := (rfl)
@[simp] theorem State.setTmq_deviceId (s : State) (q : ℕ) (v : TmQueue) : (State.setTmq s q v).deviceId = s.deviceId := (rfl)
@[simp] theorem State.setTmq_freeCtr (s : State) (q : ℕ) (v : TmQueue) : (State.setTmq s q v).freeCtr = s.freeCtr := (rfl)

/-! `State.setTmp` -/

@[simp] theorem State.setTmp_pending (s : State) (p : ℕ) (v : TmPort) : (State.setTmp s p v).pending = s.pending := (rfl)
@[simp] theorem State.setTmp_time (s : State) (p : ℕ) (v : TmPort) : (State.setTmp s p v).time = s.time := (rfl)
@[simp] theorem State.setTmp_mast (s : State) (p : ℕ) (v : TmPort) : (State.setTmp s p v).mast = s.mast := (rfl)
@[simp] theorem State.setTmp_rig (s : State) (p : ℕ) (v : TmPort) : (State.setTmp s p v).rig = s.rig := (rfl)
@[simp] theorem State.setTmp_port (s : State) (p : ℕ) (v : TmPort) : (State.setTmp s p v).port = s.port := (rfl)
@[simp] theorem State.setTmp_hk (s : State) (p : ℕ) (v : TmPort) : (State.setTmp s p v).hk = s.hk := (rfl)
@[simp] theorem State.setTmp_sk (s : State) (p : ℕ) (v : TmPort) : (State.setTmp s p v).sk = s.sk := (rfl)
@[simp] theorem State.setTmp_host (s : State) (p : ℕ) (v : TmPort) : (State.setTmp s p v).host = s.host := (rfl)
@[simp] theorem State.setTmp_cmd (s : State) (p : ℕ) (v : TmPort) : (State.setTmp s p v).cmd = s.cmd := (rfl)
@[simp] theorem State.setTmp_out (s : State) (p : ℕ) (v : TmPort) : (State.setTmp s p v).out = s.out := (rfl)
@[simp] theorem State.setTmp_flt (s : State) (p : ℕ) (v : TmPort) : (State.setTmp s p v).flt = s.flt := (rfl)
@[simp] theorem State.setTmp_epochs (s : State) (p : ℕ) (v : TmPort) : (State.setTmp s p v).epochs = s.epochs := (rfl)
@[simp] theorem State.setTmp_regs (s : State) (p : ℕ) (v : TmPort) : (State.setTmp s p v).regs = s.regs := (rfl)
@[simp] theorem State.setTmp_power (s : State) (p : ℕ) (v : TmPort) : (State.setTmp s p v).power = s.power := (rfl)
@[simp] theorem State.setTmp_sec (s : State) (p : ℕ) (v : TmPort) : (State.setTmp s p v).sec = s.sec := (rfl)
@[simp] theorem State.setTmp_boot (s : State) (p : ℕ) (v : TmPort) : (State.setTmp s p v).boot = s.boot := (rfl)
@[simp] theorem State.setTmp_deviceId (s : State) (p : ℕ) (v : TmPort) : (State.setTmp s p v).deviceId = s.deviceId := (rfl)
@[simp] theorem State.setTmp_freeCtr (s : State) (p : ℕ) (v : TmPort) : (State.setTmp s p v).freeCtr = s.freeCtr := (rfl)

/-! `State.setPlane` -/

@[simp] theorem State.setPlane_pending (s : State) (p : ℕ) (v : Plane) : (State.setPlane s p v).pending = s.pending := (rfl)
@[simp] theorem State.setPlane_time (s : State) (p : ℕ) (v : Plane) : (State.setPlane s p v).time = s.time := (rfl)
@[simp] theorem State.setPlane_mast (s : State) (p : ℕ) (v : Plane) : (State.setPlane s p v).mast = s.mast := (rfl)
@[simp] theorem State.setPlane_rig (s : State) (p : ℕ) (v : Plane) : (State.setPlane s p v).rig = s.rig := (rfl)
@[simp] theorem State.setPlane_port (s : State) (p : ℕ) (v : Plane) : (State.setPlane s p v).port = s.port := (rfl)
@[simp] theorem State.setPlane_hk (s : State) (p : ℕ) (v : Plane) : (State.setPlane s p v).hk = s.hk := (rfl)
@[simp] theorem State.setPlane_sk (s : State) (p : ℕ) (v : Plane) : (State.setPlane s p v).sk = s.sk := (rfl)
@[simp] theorem State.setPlane_host (s : State) (p : ℕ) (v : Plane) : (State.setPlane s p v).host = s.host := (rfl)
@[simp] theorem State.setPlane_cmd (s : State) (p : ℕ) (v : Plane) : (State.setPlane s p v).cmd = s.cmd := (rfl)
@[simp] theorem State.setPlane_out (s : State) (p : ℕ) (v : Plane) : (State.setPlane s p v).out = s.out := (rfl)
@[simp] theorem State.setPlane_flt (s : State) (p : ℕ) (v : Plane) : (State.setPlane s p v).flt = s.flt := (rfl)
@[simp] theorem State.setPlane_epochs (s : State) (p : ℕ) (v : Plane) : (State.setPlane s p v).epochs = s.epochs := (rfl)
@[simp] theorem State.setPlane_regs (s : State) (p : ℕ) (v : Plane) : (State.setPlane s p v).regs = s.regs := (rfl)
@[simp] theorem State.setPlane_power (s : State) (p : ℕ) (v : Plane) : (State.setPlane s p v).power = s.power := (rfl)
@[simp] theorem State.setPlane_sec (s : State) (p : ℕ) (v : Plane) : (State.setPlane s p v).sec = s.sec := (rfl)
@[simp] theorem State.setPlane_boot (s : State) (p : ℕ) (v : Plane) : (State.setPlane s p v).boot = s.boot := (rfl)
@[simp] theorem State.setPlane_deviceId (s : State) (p : ℕ) (v : Plane) : (State.setPlane s p v).deviceId = s.deviceId := (rfl)
@[simp] theorem State.setPlane_freeCtr (s : State) (p : ℕ) (v : Plane) : (State.setPlane s p v).freeCtr = s.freeCtr := (rfl)

/-! `State.setStream` -/

@[simp] theorem State.setStream_pending (s : State) (k : ℕ) (v : Stream) : (State.setStream s k v).pending = s.pending := (rfl)
@[simp] theorem State.setStream_time (s : State) (k : ℕ) (v : Stream) : (State.setStream s k v).time = s.time := (rfl)
@[simp] theorem State.setStream_mast (s : State) (k : ℕ) (v : Stream) : (State.setStream s k v).mast = s.mast := (rfl)
@[simp] theorem State.setStream_rig (s : State) (k : ℕ) (v : Stream) : (State.setStream s k v).rig = s.rig := (rfl)
@[simp] theorem State.setStream_port (s : State) (k : ℕ) (v : Stream) : (State.setStream s k v).port = s.port := (rfl)
@[simp] theorem State.setStream_hk (s : State) (k : ℕ) (v : Stream) : (State.setStream s k v).hk = s.hk := (rfl)
@[simp] theorem State.setStream_sk (s : State) (k : ℕ) (v : Stream) : (State.setStream s k v).sk = s.sk := (rfl)
@[simp] theorem State.setStream_host (s : State) (k : ℕ) (v : Stream) : (State.setStream s k v).host = s.host := (rfl)
@[simp] theorem State.setStream_cmd (s : State) (k : ℕ) (v : Stream) : (State.setStream s k v).cmd = s.cmd := (rfl)
@[simp] theorem State.setStream_out (s : State) (k : ℕ) (v : Stream) : (State.setStream s k v).out = s.out := (rfl)
@[simp] theorem State.setStream_flt (s : State) (k : ℕ) (v : Stream) : (State.setStream s k v).flt = s.flt := (rfl)
@[simp] theorem State.setStream_epochs (s : State) (k : ℕ) (v : Stream) : (State.setStream s k v).epochs = s.epochs := (rfl)
@[simp] theorem State.setStream_regs (s : State) (k : ℕ) (v : Stream) : (State.setStream s k v).regs = s.regs := (rfl)
@[simp] theorem State.setStream_power (s : State) (k : ℕ) (v : Stream) : (State.setStream s k v).power = s.power := (rfl)
@[simp] theorem State.setStream_sec (s : State) (k : ℕ) (v : Stream) : (State.setStream s k v).sec = s.sec := (rfl)
@[simp] theorem State.setStream_boot (s : State) (k : ℕ) (v : Stream) : (State.setStream s k v).boot = s.boot := (rfl)
@[simp] theorem State.setStream_deviceId (s : State) (k : ℕ) (v : Stream) : (State.setStream s k v).deviceId = s.deviceId := (rfl)
@[simp] theorem State.setStream_freeCtr (s : State) (k : ℕ) (v : Stream) : (State.setStream s k v).freeCtr = s.freeCtr := (rfl)

/-! `State.setSkein` -/

@[simp] theorem State.setSkein_pending (s : State) (k : ℕ) (v : Skein) : (State.setSkein s k v).pending = s.pending := (rfl)
@[simp] theorem State.setSkein_time (s : State) (k : ℕ) (v : Skein) : (State.setSkein s k v).time = s.time := (rfl)
@[simp] theorem State.setSkein_mast (s : State) (k : ℕ) (v : Skein) : (State.setSkein s k v).mast = s.mast := (rfl)
@[simp] theorem State.setSkein_rig (s : State) (k : ℕ) (v : Skein) : (State.setSkein s k v).rig = s.rig := (rfl)
@[simp] theorem State.setSkein_port (s : State) (k : ℕ) (v : Skein) : (State.setSkein s k v).port = s.port := (rfl)
@[simp] theorem State.setSkein_pk (s : State) (k : ℕ) (v : Skein) : (State.setSkein s k v).pk = s.pk := (rfl)
@[simp] theorem State.setSkein_hk (s : State) (k : ℕ) (v : Skein) : (State.setSkein s k v).hk = s.hk := (rfl)
@[simp] theorem State.setSkein_host (s : State) (k : ℕ) (v : Skein) : (State.setSkein s k v).host = s.host := (rfl)
@[simp] theorem State.setSkein_cmd (s : State) (k : ℕ) (v : Skein) : (State.setSkein s k v).cmd = s.cmd := (rfl)
@[simp] theorem State.setSkein_out (s : State) (k : ℕ) (v : Skein) : (State.setSkein s k v).out = s.out := (rfl)
@[simp] theorem State.setSkein_flt (s : State) (k : ℕ) (v : Skein) : (State.setSkein s k v).flt = s.flt := (rfl)
@[simp] theorem State.setSkein_epochs (s : State) (k : ℕ) (v : Skein) : (State.setSkein s k v).epochs = s.epochs := (rfl)
@[simp] theorem State.setSkein_regs (s : State) (k : ℕ) (v : Skein) : (State.setSkein s k v).regs = s.regs := (rfl)
@[simp] theorem State.setSkein_power (s : State) (k : ℕ) (v : Skein) : (State.setSkein s k v).power = s.power := (rfl)
@[simp] theorem State.setSkein_sec (s : State) (k : ℕ) (v : Skein) : (State.setSkein s k v).sec = s.sec := (rfl)
@[simp] theorem State.setSkein_boot (s : State) (k : ℕ) (v : Skein) : (State.setSkein s k v).boot = s.boot := (rfl)
@[simp] theorem State.setSkein_deviceId (s : State) (k : ℕ) (v : Skein) : (State.setSkein s k v).deviceId = s.deviceId := (rfl)
@[simp] theorem State.setSkein_freeCtr (s : State) (k : ℕ) (v : Skein) : (State.setSkein s k v).freeCtr = s.freeCtr := (rfl)

/-! `State.modSkein` -/

@[simp] theorem State.modSkein_pending (s : State) (k : ℕ) (f : Skein → Skein) : (State.modSkein s k f).pending = s.pending := (rfl)
@[simp] theorem State.modSkein_time (s : State) (k : ℕ) (f : Skein → Skein) : (State.modSkein s k f).time = s.time := (rfl)
@[simp] theorem State.modSkein_mast (s : State) (k : ℕ) (f : Skein → Skein) : (State.modSkein s k f).mast = s.mast := (rfl)
@[simp] theorem State.modSkein_rig (s : State) (k : ℕ) (f : Skein → Skein) : (State.modSkein s k f).rig = s.rig := (rfl)
@[simp] theorem State.modSkein_port (s : State) (k : ℕ) (f : Skein → Skein) : (State.modSkein s k f).port = s.port := (rfl)
@[simp] theorem State.modSkein_pk (s : State) (k : ℕ) (f : Skein → Skein) : (State.modSkein s k f).pk = s.pk := (rfl)
@[simp] theorem State.modSkein_hk (s : State) (k : ℕ) (f : Skein → Skein) : (State.modSkein s k f).hk = s.hk := (rfl)
@[simp] theorem State.modSkein_host (s : State) (k : ℕ) (f : Skein → Skein) : (State.modSkein s k f).host = s.host := (rfl)
@[simp] theorem State.modSkein_cmd (s : State) (k : ℕ) (f : Skein → Skein) : (State.modSkein s k f).cmd = s.cmd := (rfl)
@[simp] theorem State.modSkein_out (s : State) (k : ℕ) (f : Skein → Skein) : (State.modSkein s k f).out = s.out := (rfl)
@[simp] theorem State.modSkein_flt (s : State) (k : ℕ) (f : Skein → Skein) : (State.modSkein s k f).flt = s.flt := (rfl)
@[simp] theorem State.modSkein_epochs (s : State) (k : ℕ) (f : Skein → Skein) : (State.modSkein s k f).epochs = s.epochs := (rfl)
@[simp] theorem State.modSkein_regs (s : State) (k : ℕ) (f : Skein → Skein) : (State.modSkein s k f).regs = s.regs := (rfl)
@[simp] theorem State.modSkein_power (s : State) (k : ℕ) (f : Skein → Skein) : (State.modSkein s k f).power = s.power := (rfl)
@[simp] theorem State.modSkein_sec (s : State) (k : ℕ) (f : Skein → Skein) : (State.modSkein s k f).sec = s.sec := (rfl)
@[simp] theorem State.modSkein_boot (s : State) (k : ℕ) (f : Skein → Skein) : (State.modSkein s k f).boot = s.boot := (rfl)
@[simp] theorem State.modSkein_deviceId (s : State) (k : ℕ) (f : Skein → Skein) : (State.modSkein s k f).deviceId = s.deviceId := (rfl)
@[simp] theorem State.modSkein_freeCtr (s : State) (k : ℕ) (f : Skein → Skein) : (State.modSkein s k f).freeCtr = s.freeCtr := (rfl)

/-! `State.modSec` -/

@[simp] theorem State.modSec_pending (s : State) (f : Security → Security) : (State.modSec s f).pending = s.pending := (rfl)
@[simp] theorem State.modSec_time (s : State) (f : Security → Security) : (State.modSec s f).time = s.time := (rfl)
@[simp] theorem State.modSec_mast (s : State) (f : Security → Security) : (State.modSec s f).mast = s.mast := (rfl)
@[simp] theorem State.modSec_rig (s : State) (f : Security → Security) : (State.modSec s f).rig = s.rig := (rfl)
@[simp] theorem State.modSec_port (s : State) (f : Security → Security) : (State.modSec s f).port = s.port := (rfl)
@[simp] theorem State.modSec_pk (s : State) (f : Security → Security) : (State.modSec s f).pk = s.pk := (rfl)
@[simp] theorem State.modSec_hk (s : State) (f : Security → Security) : (State.modSec s f).hk = s.hk := (rfl)
@[simp] theorem State.modSec_sk (s : State) (f : Security → Security) : (State.modSec s f).sk = s.sk := (rfl)
@[simp] theorem State.modSec_host (s : State) (f : Security → Security) : (State.modSec s f).host = s.host := (rfl)
@[simp] theorem State.modSec_cmd (s : State) (f : Security → Security) : (State.modSec s f).cmd = s.cmd := (rfl)
@[simp] theorem State.modSec_out (s : State) (f : Security → Security) : (State.modSec s f).out = s.out := (rfl)
@[simp] theorem State.modSec_flt (s : State) (f : Security → Security) : (State.modSec s f).flt = s.flt := (rfl)
@[simp] theorem State.modSec_epochs (s : State) (f : Security → Security) : (State.modSec s f).epochs = s.epochs := (rfl)
@[simp] theorem State.modSec_regs (s : State) (f : Security → Security) : (State.modSec s f).regs = s.regs := (rfl)
@[simp] theorem State.modSec_power (s : State) (f : Security → Security) : (State.modSec s f).power = s.power := (rfl)
@[simp] theorem State.modSec_boot (s : State) (f : Security → Security) : (State.modSec s f).boot = s.boot := (rfl)
@[simp] theorem State.modSec_deviceId (s : State) (f : Security → Security) : (State.modSec s f).deviceId = s.deviceId := (rfl)
@[simp] theorem State.modSec_freeCtr (s : State) (f : Security → Security) : (State.modSec s f).freeCtr = s.freeCtr := (rfl)

/-! `State.modEng` -/

@[simp] theorem State.modEng_pending (s : State) (q : ℕ) (e : ℕ) (f : Engine → Engine) : (State.modEng s q e f).pending = s.pending := (rfl)
@[simp] theorem State.modEng_time (s : State) (q : ℕ) (e : ℕ) (f : Engine → Engine) : (State.modEng s q e f).time = s.time := (rfl)
@[simp] theorem State.modEng_mast (s : State) (q : ℕ) (e : ℕ) (f : Engine → Engine) : (State.modEng s q e f).mast = s.mast := (rfl)
@[simp] theorem State.modEng_rig (s : State) (q : ℕ) (e : ℕ) (f : Engine → Engine) : (State.modEng s q e f).rig = s.rig := (rfl)
@[simp] theorem State.modEng_port (s : State) (q : ℕ) (e : ℕ) (f : Engine → Engine) : (State.modEng s q e f).port = s.port := (rfl)
@[simp] theorem State.modEng_pk (s : State) (q : ℕ) (e : ℕ) (f : Engine → Engine) : (State.modEng s q e f).pk = s.pk := (rfl)
@[simp] theorem State.modEng_sk (s : State) (q : ℕ) (e : ℕ) (f : Engine → Engine) : (State.modEng s q e f).sk = s.sk := (rfl)
@[simp] theorem State.modEng_host (s : State) (q : ℕ) (e : ℕ) (f : Engine → Engine) : (State.modEng s q e f).host = s.host := (rfl)
@[simp] theorem State.modEng_cmd (s : State) (q : ℕ) (e : ℕ) (f : Engine → Engine) : (State.modEng s q e f).cmd = s.cmd := (rfl)
@[simp] theorem State.modEng_out (s : State) (q : ℕ) (e : ℕ) (f : Engine → Engine) : (State.modEng s q e f).out = s.out := (rfl)
@[simp] theorem State.modEng_flt (s : State) (q : ℕ) (e : ℕ) (f : Engine → Engine) : (State.modEng s q e f).flt = s.flt := (rfl)
@[simp] theorem State.modEng_epochs (s : State) (q : ℕ) (e : ℕ) (f : Engine → Engine) : (State.modEng s q e f).epochs = s.epochs := (rfl)
@[simp] theorem State.modEng_regs (s : State) (q : ℕ) (e : ℕ) (f : Engine → Engine) : (State.modEng s q e f).regs = s.regs := (rfl)
@[simp] theorem State.modEng_power (s : State) (q : ℕ) (e : ℕ) (f : Engine → Engine) : (State.modEng s q e f).power = s.power := (rfl)
@[simp] theorem State.modEng_sec (s : State) (q : ℕ) (e : ℕ) (f : Engine → Engine) : (State.modEng s q e f).sec = s.sec := (rfl)
@[simp] theorem State.modEng_boot (s : State) (q : ℕ) (e : ℕ) (f : Engine → Engine) : (State.modEng s q e f).boot = s.boot := (rfl)
@[simp] theorem State.modEng_deviceId (s : State) (q : ℕ) (e : ℕ) (f : Engine → Engine) : (State.modEng s q e f).deviceId = s.deviceId := (rfl)
@[simp] theorem State.modEng_freeCtr (s : State) (q : ℕ) (e : ℕ) (f : Engine → Engine) : (State.modEng s q e f).freeCtr = s.freeCtr := (rfl)

/-! `State.setQp` -/

@[simp] theorem State.setQp_pending (s : State) (q : ℕ) (v : QPair) : (State.setQp s q v).pending = s.pending := (rfl)
@[simp] theorem State.setQp_time (s : State) (q : ℕ) (v : QPair) : (State.setQp s q v).time = s.time := (rfl)
@[simp] theorem State.setQp_mast (s : State) (q : ℕ) (v : QPair) : (State.setQp s q v).mast = s.mast := (rfl)
@[simp] theorem State.setQp_rig (s : State) (q : ℕ) (v : QPair) : (State.setQp s q v).rig = s.rig := (rfl)
@[simp] theorem State.setQp_port (s : State) (q : ℕ) (v : QPair) : (State.setQp s q v).port = s.port := (rfl)
@[simp] theorem State.setQp_pk (s : State) (q : ℕ) (v : QPair) : (State.setQp s q v).pk = s.pk := (rfl)
@[simp] theorem State.setQp_hk (s : State) (q : ℕ) (v : QPair) : (State.setQp s q v).hk = s.hk := (rfl)
@[simp] theorem State.setQp_sk (s : State) (q : ℕ) (v : QPair) : (State.setQp s q v).sk = s.sk := (rfl)
@[simp] theorem State.setQp_cmd (s : State) (q : ℕ) (v : QPair) : (State.setQp s q v).cmd = s.cmd := (rfl)
@[simp] theorem State.setQp_out (s : State) (q : ℕ) (v : QPair) : (State.setQp s q v).out = s.out := (rfl)
@[simp] theorem State.setQp_flt (s : State) (q : ℕ) (v : QPair) : (State.setQp s q v).flt = s.flt := (rfl)
@[simp] theorem State.setQp_epochs (s : State) (q : ℕ) (v : QPair) : (State.setQp s q v).epochs = s.epochs := (rfl)
@[simp] theorem State.setQp_regs (s : State) (q : ℕ) (v : QPair) : (State.setQp s q v).regs = s.regs := (rfl)
@[simp] theorem State.setQp_power (s : State) (q : ℕ) (v : QPair) : (State.setQp s q v).power = s.power := (rfl)
@[simp] theorem State.setQp_sec (s : State) (q : ℕ) (v : QPair) : (State.setQp s q v).sec = s.sec := (rfl)
@[simp] theorem State.setQp_boot (s : State) (q : ℕ) (v : QPair) : (State.setQp s q v).boot = s.boot := (rfl)
@[simp] theorem State.setQp_deviceId (s : State) (q : ℕ) (v : QPair) : (State.setQp s q v).deviceId = s.deviceId := (rfl)
@[simp] theorem State.setQp_freeCtr (s : State) (q : ℕ) (v : QPair) : (State.setQp s q v).freeCtr = s.freeCtr := (rfl)

/-! `State.setChan` -/

@[simp] theorem State.setChan_pending (s : State) (c : ℕ) (v : Chan) : (State.setChan s c v).pending = s.pending := (rfl)
@[simp] theorem State.setChan_time (s : State) (c : ℕ) (v : Chan) : (State.setChan s c v).time = s.time := (rfl)
@[simp] theorem State.setChan_mast (s : State) (c : ℕ) (v : Chan) : (State.setChan s c v).mast = s.mast := (rfl)
@[simp] theorem State.setChan_rig (s : State) (c : ℕ) (v : Chan) : (State.setChan s c v).rig = s.rig := (rfl)
@[simp] theorem State.setChan_port (s : State) (c : ℕ) (v : Chan) : (State.setChan s c v).port = s.port := (rfl)
@[simp] theorem State.setChan_pk (s : State) (c : ℕ) (v : Chan) : (State.setChan s c v).pk = s.pk := (rfl)
@[simp] theorem State.setChan_hk (s : State) (c : ℕ) (v : Chan) : (State.setChan s c v).hk = s.hk := (rfl)
@[simp] theorem State.setChan_sk (s : State) (c : ℕ) (v : Chan) : (State.setChan s c v).sk = s.sk := (rfl)
@[simp] theorem State.setChan_cmd (s : State) (c : ℕ) (v : Chan) : (State.setChan s c v).cmd = s.cmd := (rfl)
@[simp] theorem State.setChan_out (s : State) (c : ℕ) (v : Chan) : (State.setChan s c v).out = s.out := (rfl)
@[simp] theorem State.setChan_flt (s : State) (c : ℕ) (v : Chan) : (State.setChan s c v).flt = s.flt := (rfl)
@[simp] theorem State.setChan_epochs (s : State) (c : ℕ) (v : Chan) : (State.setChan s c v).epochs = s.epochs := (rfl)
@[simp] theorem State.setChan_regs (s : State) (c : ℕ) (v : Chan) : (State.setChan s c v).regs = s.regs := (rfl)
@[simp] theorem State.setChan_power (s : State) (c : ℕ) (v : Chan) : (State.setChan s c v).power = s.power := (rfl)
@[simp] theorem State.setChan_sec (s : State) (c : ℕ) (v : Chan) : (State.setChan s c v).sec = s.sec := (rfl)
@[simp] theorem State.setChan_boot (s : State) (c : ℕ) (v : Chan) : (State.setChan s c v).boot = s.boot := (rfl)
@[simp] theorem State.setChan_deviceId (s : State) (c : ℕ) (v : Chan) : (State.setChan s c v).deviceId = s.deviceId := (rfl)
@[simp] theorem State.setChan_freeCtr (s : State) (c : ℕ) (v : Chan) : (State.setChan s c v).freeCtr = s.freeCtr := (rfl)

/-! `State.setPool` -/

@[simp] theorem State.setPool_pending (s : State) (p : ℕ) (v : Pool) : (State.setPool s p v).pending = s.pending := (rfl)
@[simp] theorem State.setPool_time (s : State) (p : ℕ) (v : Pool) : (State.setPool s p v).time = s.time := (rfl)
@[simp] theorem State.setPool_mast (s : State) (p : ℕ) (v : Pool) : (State.setPool s p v).mast = s.mast := (rfl)
@[simp] theorem State.setPool_rig (s : State) (p : ℕ) (v : Pool) : (State.setPool s p v).rig = s.rig := (rfl)
@[simp] theorem State.setPool_port (s : State) (p : ℕ) (v : Pool) : (State.setPool s p v).port = s.port := (rfl)
@[simp] theorem State.setPool_pk (s : State) (p : ℕ) (v : Pool) : (State.setPool s p v).pk = s.pk := (rfl)
@[simp] theorem State.setPool_hk (s : State) (p : ℕ) (v : Pool) : (State.setPool s p v).hk = s.hk := (rfl)
@[simp] theorem State.setPool_sk (s : State) (p : ℕ) (v : Pool) : (State.setPool s p v).sk = s.sk := (rfl)
@[simp] theorem State.setPool_cmd (s : State) (p : ℕ) (v : Pool) : (State.setPool s p v).cmd = s.cmd := (rfl)
@[simp] theorem State.setPool_out (s : State) (p : ℕ) (v : Pool) : (State.setPool s p v).out = s.out := (rfl)
@[simp] theorem State.setPool_flt (s : State) (p : ℕ) (v : Pool) : (State.setPool s p v).flt = s.flt := (rfl)
@[simp] theorem State.setPool_epochs (s : State) (p : ℕ) (v : Pool) : (State.setPool s p v).epochs = s.epochs := (rfl)
@[simp] theorem State.setPool_regs (s : State) (p : ℕ) (v : Pool) : (State.setPool s p v).regs = s.regs := (rfl)
@[simp] theorem State.setPool_power (s : State) (p : ℕ) (v : Pool) : (State.setPool s p v).power = s.power := (rfl)
@[simp] theorem State.setPool_sec (s : State) (p : ℕ) (v : Pool) : (State.setPool s p v).sec = s.sec := (rfl)
@[simp] theorem State.setPool_boot (s : State) (p : ℕ) (v : Pool) : (State.setPool s p v).boot = s.boot := (rfl)
@[simp] theorem State.setPool_deviceId (s : State) (p : ℕ) (v : Pool) : (State.setPool s p v).deviceId = s.deviceId := (rfl)
@[simp] theorem State.setPool_freeCtr (s : State) (p : ℕ) (v : Pool) : (State.setPool s p v).freeCtr = s.freeCtr := (rfl)

/-! `cntAccepted` -/

@[simp] theorem cntAccepted_pending (c : Cmd) (s : State) : (cntAccepted c s).pending = s.pending := (rfl)
@[simp] theorem cntAccepted_time (c : Cmd) (s : State) : (cntAccepted c s).time = s.time := (rfl)
@[simp] theorem cntAccepted_mast (c : Cmd) (s : State) : (cntAccepted c s).mast = s.mast := (rfl)
@[simp] theorem cntAccepted_rig (c : Cmd) (s : State) : (cntAccepted c s).rig = s.rig := (rfl)
@[simp] theorem cntAccepted_port (c : Cmd) (s : State) : (cntAccepted c s).port = s.port := (rfl)
@[simp] theorem cntAccepted_pk (c : Cmd) (s : State) : (cntAccepted c s).pk = s.pk := (rfl)
@[simp] theorem cntAccepted_hk (c : Cmd) (s : State) : (cntAccepted c s).hk = s.hk := (rfl)
@[simp] theorem cntAccepted_sk (c : Cmd) (s : State) : (cntAccepted c s).sk = s.sk := (rfl)
@[simp] theorem cntAccepted_host (c : Cmd) (s : State) : (cntAccepted c s).host = s.host := (rfl)
@[simp] theorem cntAccepted_cmd (c : Cmd) (s : State) : (cntAccepted c s).cmd = s.cmd := (rfl)
@[simp] theorem cntAccepted_out (c : Cmd) (s : State) : (cntAccepted c s).out = s.out := (rfl)
@[simp] theorem cntAccepted_flt (c : Cmd) (s : State) : (cntAccepted c s).flt = s.flt := (rfl)
@[simp] theorem cntAccepted_epochs (c : Cmd) (s : State) : (cntAccepted c s).epochs = s.epochs := (rfl)
@[simp] theorem cntAccepted_power (c : Cmd) (s : State) : (cntAccepted c s).power = s.power := (rfl)
@[simp] theorem cntAccepted_sec (c : Cmd) (s : State) : (cntAccepted c s).sec = s.sec := (rfl)
@[simp] theorem cntAccepted_boot (c : Cmd) (s : State) : (cntAccepted c s).boot = s.boot := (rfl)
@[simp] theorem cntAccepted_deviceId (c : Cmd) (s : State) : (cntAccepted c s).deviceId = s.deviceId := (rfl)
@[simp] theorem cntAccepted_freeCtr (c : Cmd) (s : State) : (cntAccepted c s).freeCtr = s.freeCtr := (rfl)

/-! `cntRefused` -/

@[simp] theorem cntRefused_pending (c : Cmd) (s : State) : (cntRefused c s).pending = s.pending := (rfl)
@[simp] theorem cntRefused_time (c : Cmd) (s : State) : (cntRefused c s).time = s.time := (rfl)
@[simp] theorem cntRefused_mast (c : Cmd) (s : State) : (cntRefused c s).mast = s.mast := (rfl)
@[simp] theorem cntRefused_rig (c : Cmd) (s : State) : (cntRefused c s).rig = s.rig := (rfl)
@[simp] theorem cntRefused_port (c : Cmd) (s : State) : (cntRefused c s).port = s.port := (rfl)
@[simp] theorem cntRefused_pk (c : Cmd) (s : State) : (cntRefused c s).pk = s.pk := (rfl)
@[simp] theorem cntRefused_hk (c : Cmd) (s : State) : (cntRefused c s).hk = s.hk := (rfl)
@[simp] theorem cntRefused_sk (c : Cmd) (s : State) : (cntRefused c s).sk = s.sk := (rfl)
@[simp] theorem cntRefused_host (c : Cmd) (s : State) : (cntRefused c s).host = s.host := (rfl)
@[simp] theorem cntRefused_cmd (c : Cmd) (s : State) : (cntRefused c s).cmd = s.cmd := (rfl)
@[simp] theorem cntRefused_out (c : Cmd) (s : State) : (cntRefused c s).out = s.out := (rfl)
@[simp] theorem cntRefused_flt (c : Cmd) (s : State) : (cntRefused c s).flt = s.flt := (rfl)
@[simp] theorem cntRefused_epochs (c : Cmd) (s : State) : (cntRefused c s).epochs = s.epochs := (rfl)
@[simp] theorem cntRefused_power (c : Cmd) (s : State) : (cntRefused c s).power = s.power := (rfl)
@[simp] theorem cntRefused_sec (c : Cmd) (s : State) : (cntRefused c s).sec = s.sec := (rfl)
@[simp] theorem cntRefused_boot (c : Cmd) (s : State) : (cntRefused c s).boot = s.boot := (rfl)
@[simp] theorem cntRefused_deviceId (c : Cmd) (s : State) : (cntRefused c s).deviceId = s.deviceId := (rfl)
@[simp] theorem cntRefused_freeCtr (c : Cmd) (s : State) : (cntRefused c s).freeCtr = s.freeCtr := (rfl)

/-! `cntSuperseded` -/

@[simp] theorem cntSuperseded_pending (c : Cmd) (s : State) : (cntSuperseded c s).pending = s.pending := (rfl)
@[simp] theorem cntSuperseded_time (c : Cmd) (s : State) : (cntSuperseded c s).time = s.time := (rfl)
@[simp] theorem cntSuperseded_mast (c : Cmd) (s : State) : (cntSuperseded c s).mast = s.mast := (rfl)
@[simp] theorem cntSuperseded_rig (c : Cmd) (s : State) : (cntSuperseded c s).rig = s.rig := (rfl)
@[simp] theorem cntSuperseded_port (c : Cmd) (s : State) : (cntSuperseded c s).port = s.port := (rfl)
@[simp] theorem cntSuperseded_pk (c : Cmd) (s : State) : (cntSuperseded c s).pk = s.pk := (rfl)
@[simp] theorem cntSuperseded_hk (c : Cmd) (s : State) : (cntSuperseded c s).hk = s.hk := (rfl)
@[simp] theorem cntSuperseded_sk (c : Cmd) (s : State) : (cntSuperseded c s).sk = s.sk := (rfl)
@[simp] theorem cntSuperseded_host (c : Cmd) (s : State) : (cntSuperseded c s).host = s.host := (rfl)
@[simp] theorem cntSuperseded_cmd (c : Cmd) (s : State) : (cntSuperseded c s).cmd = s.cmd := (rfl)
@[simp] theorem cntSuperseded_out (c : Cmd) (s : State) : (cntSuperseded c s).out = s.out := (rfl)
@[simp] theorem cntSuperseded_flt (c : Cmd) (s : State) : (cntSuperseded c s).flt = s.flt := (rfl)
@[simp] theorem cntSuperseded_epochs (c : Cmd) (s : State) : (cntSuperseded c s).epochs = s.epochs := (rfl)
@[simp] theorem cntSuperseded_power (c : Cmd) (s : State) : (cntSuperseded c s).power = s.power := (rfl)
@[simp] theorem cntSuperseded_sec (c : Cmd) (s : State) : (cntSuperseded c s).sec = s.sec := (rfl)
@[simp] theorem cntSuperseded_boot (c : Cmd) (s : State) : (cntSuperseded c s).boot = s.boot := (rfl)
@[simp] theorem cntSuperseded_deviceId (c : Cmd) (s : State) : (cntSuperseded c s).deviceId = s.deviceId := (rfl)
@[simp] theorem cntSuperseded_freeCtr (c : Cmd) (s : State) : (cntSuperseded c s).freeCtr = s.freeCtr := (rfl)

/-! `State.setBank` -/

@[simp] theorem State.setBank_pending (s : State) (b : ℕ) (v : RigBank) : (State.setBank s b v).pending = s.pending := by unfold State.setBank; split <;> rfl
@[simp] theorem State.setBank_time (s : State) (b : ℕ) (v : RigBank) : (State.setBank s b v).time = s.time := by unfold State.setBank; split <;> rfl
@[simp] theorem State.setBank_mast (s : State) (b : ℕ) (v : RigBank) : (State.setBank s b v).mast = s.mast := by unfold State.setBank; split <;> rfl
@[simp] theorem State.setBank_port (s : State) (b : ℕ) (v : RigBank) : (State.setBank s b v).port = s.port := by unfold State.setBank; split <;> rfl
@[simp] theorem State.setBank_pk (s : State) (b : ℕ) (v : RigBank) : (State.setBank s b v).pk = s.pk := by unfold State.setBank; split <;> rfl
@[simp] theorem State.setBank_hk (s : State) (b : ℕ) (v : RigBank) : (State.setBank s b v).hk = s.hk := by unfold State.setBank; split <;> rfl
@[simp] theorem State.setBank_sk (s : State) (b : ℕ) (v : RigBank) : (State.setBank s b v).sk = s.sk := by unfold State.setBank; split <;> rfl
@[simp] theorem State.setBank_host (s : State) (b : ℕ) (v : RigBank) : (State.setBank s b v).host = s.host := by unfold State.setBank; split <;> rfl
@[simp] theorem State.setBank_cmd (s : State) (b : ℕ) (v : RigBank) : (State.setBank s b v).cmd = s.cmd := by unfold State.setBank; split <;> rfl
@[simp] theorem State.setBank_out (s : State) (b : ℕ) (v : RigBank) : (State.setBank s b v).out = s.out := by unfold State.setBank; split <;> rfl
@[simp] theorem State.setBank_flt (s : State) (b : ℕ) (v : RigBank) : (State.setBank s b v).flt = s.flt := by unfold State.setBank; split <;> rfl
@[simp] theorem State.setBank_epochs (s : State) (b : ℕ) (v : RigBank) : (State.setBank s b v).epochs = s.epochs := by unfold State.setBank; split <;> rfl
@[simp] theorem State.setBank_regs (s : State) (b : ℕ) (v : RigBank) : (State.setBank s b v).regs = s.regs := by unfold State.setBank; split <;> rfl
@[simp] theorem State.setBank_power (s : State) (b : ℕ) (v : RigBank) : (State.setBank s b v).power = s.power := by unfold State.setBank; split <;> rfl
@[simp] theorem State.setBank_sec (s : State) (b : ℕ) (v : RigBank) : (State.setBank s b v).sec = s.sec := by unfold State.setBank; split <;> rfl
@[simp] theorem State.setBank_boot (s : State) (b : ℕ) (v : RigBank) : (State.setBank s b v).boot = s.boot := by unfold State.setBank; split <;> rfl
@[simp] theorem State.setBank_deviceId (s : State) (b : ℕ) (v : RigBank) : (State.setBank s b v).deviceId = s.deviceId := by unfold State.setBank; split <;> rfl
@[simp] theorem State.setBank_freeCtr (s : State) (b : ℕ) (v : RigBank) : (State.setBank s b v).freeCtr = s.freeCtr := by unfold State.setBank; split <;> rfl

/-! `toStage` -/

@[simp] theorem toStage_pending (k : ℕ) (s : State) : (toStage k s).pending = s.pending := (rfl)
@[simp] theorem toStage_time (k : ℕ) (s : State) : (toStage k s).time = s.time := (rfl)
@[simp] theorem toStage_mast (k : ℕ) (s : State) : (toStage k s).mast = s.mast := (rfl)
@[simp] theorem toStage_rig (k : ℕ) (s : State) : (toStage k s).rig = s.rig := (rfl)
@[simp] theorem toStage_port (k : ℕ) (s : State) : (toStage k s).port = s.port := (rfl)
@[simp] theorem toStage_pk (k : ℕ) (s : State) : (toStage k s).pk = s.pk := (rfl)
@[simp] theorem toStage_hk (k : ℕ) (s : State) : (toStage k s).hk = s.hk := (rfl)
@[simp] theorem toStage_sk (k : ℕ) (s : State) : (toStage k s).sk = s.sk := (rfl)
@[simp] theorem toStage_host (k : ℕ) (s : State) : (toStage k s).host = s.host := (rfl)
@[simp] theorem toStage_cmd (k : ℕ) (s : State) : (toStage k s).cmd = s.cmd := (rfl)
@[simp] theorem toStage_out (k : ℕ) (s : State) : (toStage k s).out = s.out := (rfl)
@[simp] theorem toStage_flt (k : ℕ) (s : State) : (toStage k s).flt = s.flt := (rfl)
@[simp] theorem toStage_epochs (k : ℕ) (s : State) : (toStage k s).epochs = s.epochs := (rfl)
@[simp] theorem toStage_regs (k : ℕ) (s : State) : (toStage k s).regs = s.regs := (rfl)
@[simp] theorem toStage_power (k : ℕ) (s : State) : (toStage k s).power = s.power := (rfl)
@[simp] theorem toStage_sec (k : ℕ) (s : State) : (toStage k s).sec = s.sec := (rfl)
@[simp] theorem toStage_deviceId (k : ℕ) (s : State) : (toStage k s).deviceId = s.deviceId := (rfl)
@[simp] theorem toStage_freeCtr (k : ℕ) (s : State) : (toStage k s).freeCtr = s.freeCtr := (rfl)

/-! `markWaits` -/

@[simp] theorem markWaits_pending (q : ℕ) (f : WaitOn → WaitOn) (s : State) : (markWaits q f s).pending = s.pending := (rfl)
@[simp] theorem markWaits_time (q : ℕ) (f : WaitOn → WaitOn) (s : State) : (markWaits q f s).time = s.time := (rfl)
@[simp] theorem markWaits_mast (q : ℕ) (f : WaitOn → WaitOn) (s : State) : (markWaits q f s).mast = s.mast := (rfl)
@[simp] theorem markWaits_rig (q : ℕ) (f : WaitOn → WaitOn) (s : State) : (markWaits q f s).rig = s.rig := (rfl)
@[simp] theorem markWaits_port (q : ℕ) (f : WaitOn → WaitOn) (s : State) : (markWaits q f s).port = s.port := (rfl)
@[simp] theorem markWaits_pk (q : ℕ) (f : WaitOn → WaitOn) (s : State) : (markWaits q f s).pk = s.pk := (rfl)
@[simp] theorem markWaits_sk (q : ℕ) (f : WaitOn → WaitOn) (s : State) : (markWaits q f s).sk = s.sk := (rfl)
@[simp] theorem markWaits_host (q : ℕ) (f : WaitOn → WaitOn) (s : State) : (markWaits q f s).host = s.host := (rfl)
@[simp] theorem markWaits_cmd (q : ℕ) (f : WaitOn → WaitOn) (s : State) : (markWaits q f s).cmd = s.cmd := (rfl)
@[simp] theorem markWaits_out (q : ℕ) (f : WaitOn → WaitOn) (s : State) : (markWaits q f s).out = s.out := (rfl)
@[simp] theorem markWaits_flt (q : ℕ) (f : WaitOn → WaitOn) (s : State) : (markWaits q f s).flt = s.flt := (rfl)
@[simp] theorem markWaits_epochs (q : ℕ) (f : WaitOn → WaitOn) (s : State) : (markWaits q f s).epochs = s.epochs := (rfl)
@[simp] theorem markWaits_regs (q : ℕ) (f : WaitOn → WaitOn) (s : State) : (markWaits q f s).regs = s.regs := (rfl)
@[simp] theorem markWaits_power (q : ℕ) (f : WaitOn → WaitOn) (s : State) : (markWaits q f s).power = s.power := (rfl)
@[simp] theorem markWaits_sec (q : ℕ) (f : WaitOn → WaitOn) (s : State) : (markWaits q f s).sec = s.sec := (rfl)
@[simp] theorem markWaits_boot (q : ℕ) (f : WaitOn → WaitOn) (s : State) : (markWaits q f s).boot = s.boot := (rfl)
@[simp] theorem markWaits_deviceId (q : ℕ) (f : WaitOn → WaitOn) (s : State) : (markWaits q f s).deviceId = s.deviceId := (rfl)
@[simp] theorem markWaits_freeCtr (q : ℕ) (f : WaitOn → WaitOn) (s : State) : (markWaits q f s).freeCtr = s.freeCtr := (rfl)

/-! `dmaWaits` -/

@[simp] theorem dmaWaits_pending (chan : ℕ) (tag : ℕ) (s : State) : (dmaWaits chan tag s).pending = s.pending := (rfl)
@[simp] theorem dmaWaits_time (chan : ℕ) (tag : ℕ) (s : State) : (dmaWaits chan tag s).time = s.time := (rfl)
@[simp] theorem dmaWaits_mast (chan : ℕ) (tag : ℕ) (s : State) : (dmaWaits chan tag s).mast = s.mast := (rfl)
@[simp] theorem dmaWaits_rig (chan : ℕ) (tag : ℕ) (s : State) : (dmaWaits chan tag s).rig = s.rig := (rfl)
@[simp] theorem dmaWaits_port (chan : ℕ) (tag : ℕ) (s : State) : (dmaWaits chan tag s).port = s.port := (rfl)
@[simp] theorem dmaWaits_pk (chan : ℕ) (tag : ℕ) (s : State) : (dmaWaits chan tag s).pk = s.pk := (rfl)
@[simp] theorem dmaWaits_sk (chan : ℕ) (tag : ℕ) (s : State) : (dmaWaits chan tag s).sk = s.sk := (rfl)
@[simp] theorem dmaWaits_host (chan : ℕ) (tag : ℕ) (s : State) : (dmaWaits chan tag s).host = s.host := (rfl)
@[simp] theorem dmaWaits_cmd (chan : ℕ) (tag : ℕ) (s : State) : (dmaWaits chan tag s).cmd = s.cmd := (rfl)
@[simp] theorem dmaWaits_out (chan : ℕ) (tag : ℕ) (s : State) : (dmaWaits chan tag s).out = s.out := (rfl)
@[simp] theorem dmaWaits_flt (chan : ℕ) (tag : ℕ) (s : State) : (dmaWaits chan tag s).flt = s.flt := (rfl)
@[simp] theorem dmaWaits_epochs (chan : ℕ) (tag : ℕ) (s : State) : (dmaWaits chan tag s).epochs = s.epochs := (rfl)
@[simp] theorem dmaWaits_regs (chan : ℕ) (tag : ℕ) (s : State) : (dmaWaits chan tag s).regs = s.regs := (rfl)
@[simp] theorem dmaWaits_power (chan : ℕ) (tag : ℕ) (s : State) : (dmaWaits chan tag s).power = s.power := (rfl)
@[simp] theorem dmaWaits_sec (chan : ℕ) (tag : ℕ) (s : State) : (dmaWaits chan tag s).sec = s.sec := (rfl)
@[simp] theorem dmaWaits_boot (chan : ℕ) (tag : ℕ) (s : State) : (dmaWaits chan tag s).boot = s.boot := (rfl)
@[simp] theorem dmaWaits_deviceId (chan : ℕ) (tag : ℕ) (s : State) : (dmaWaits chan tag s).deviceId = s.deviceId := (rfl)
@[simp] theorem dmaWaits_freeCtr (chan : ℕ) (tag : ℕ) (s : State) : (dmaWaits chan tag s).freeCtr = s.freeCtr := (rfl)

/-! `bcUpdate` -/

@[simp] theorem bcUpdate_pending (s : State) : (bcUpdate s).pending = s.pending := (rfl)
@[simp] theorem bcUpdate_time (s : State) : (bcUpdate s).time = s.time := (rfl)
@[simp] theorem bcUpdate_rig (s : State) : (bcUpdate s).rig = s.rig := (rfl)
@[simp] theorem bcUpdate_port (s : State) : (bcUpdate s).port = s.port := (rfl)
@[simp] theorem bcUpdate_pk (s : State) : (bcUpdate s).pk = s.pk := (rfl)
@[simp] theorem bcUpdate_hk (s : State) : (bcUpdate s).hk = s.hk := (rfl)
@[simp] theorem bcUpdate_sk (s : State) : (bcUpdate s).sk = s.sk := (rfl)
@[simp] theorem bcUpdate_host (s : State) : (bcUpdate s).host = s.host := (rfl)
@[simp] theorem bcUpdate_cmd (s : State) : (bcUpdate s).cmd = s.cmd := (rfl)
@[simp] theorem bcUpdate_out (s : State) : (bcUpdate s).out = s.out := (rfl)
@[simp] theorem bcUpdate_flt (s : State) : (bcUpdate s).flt = s.flt := (rfl)
@[simp] theorem bcUpdate_epochs (s : State) : (bcUpdate s).epochs = s.epochs := (rfl)
@[simp] theorem bcUpdate_regs (s : State) : (bcUpdate s).regs = s.regs := (rfl)
@[simp] theorem bcUpdate_power (s : State) : (bcUpdate s).power = s.power := (rfl)
@[simp] theorem bcUpdate_sec (s : State) : (bcUpdate s).sec = s.sec := (rfl)
@[simp] theorem bcUpdate_boot (s : State) : (bcUpdate s).boot = s.boot := (rfl)
@[simp] theorem bcUpdate_deviceId (s : State) : (bcUpdate s).deviceId = s.deviceId := (rfl)
@[simp] theorem bcUpdate_freeCtr (s : State) : (bcUpdate s).freeCtr = s.freeCtr := (rfl)

end Sys2Proof.Machine
end

