-- ==== Sys2Proof/Laws/Ops.lean ====
section
/-! SUPPORT. What the shared operations of the model leave as it was: for each operation, one lemma per part of State that it does not
touch. -/

set_option Elab.async false
set_option linter.unusedTactic false
set_option linter.unreachableTactic false
set_option linter.unusedSimpArgs false

namespace Sys2Proof.Machine

@[simp] theorem ite_pending {c : Prop} [Decidable c] (a b : State) : (if c then a else b).pending = if c then a.pending else b.pending := by
  split <;> rfl
@[simp] theorem when_pending (c : Bool) (f : State → State) (s : State) (h : ∀ x, (f x).pending = x.pending) : (when c f s).pending = s.pending := by
  unfold when; split <;> simp [h]
@[simp] theorem foldl_pending {α : Type} (l : List α) (f : State → α → State) (h : ∀ s x, (f s x).pending = s.pending) (s : State) :
    (l.foldl f s).pending = s.pending := by
  induction l generalizing s with
  | nil => rfl
  | cons a l ih => simp [ih, h]
@[simp] theorem ite_time {c : Prop} [Decidable c] (a b : State) : (if c then a else b).time = if c then a.time else b.time := by
  split <;> rfl
@[simp] theorem when_time (c : Bool) (f : State → State) (s : State) (h : ∀ x, (f x).time = x.time) : (when c f s).time = s.time := by
  unfold when; split <;> simp [h]
@[simp] theorem foldl_time {α : Type} (l : List α) (f : State → α → State) (h : ∀ s x, (f s x).time = s.time) (s : State) :
    (l.foldl f s).time = s.time := by
  induction l generalizing s with
  | nil => rfl
  | cons a l ih => simp [ih, h]
@[simp] theorem ite_mast {c : Prop} [Decidable c] (a b : State) : (if c then a else b).mast = if c then a.mast else b.mast := by
  split <;> rfl
@[simp] theorem when_mast (c : Bool) (f : State → State) (s : State) (h : ∀ x, (f x).mast = x.mast) : (when c f s).mast = s.mast := by
  unfold when; split <;> simp [h]
@[simp] theorem foldl_mast {α : Type} (l : List α) (f : State → α → State) (h : ∀ s x, (f s x).mast = s.mast) (s : State) :
    (l.foldl f s).mast = s.mast := by
  induction l generalizing s with
  | nil => rfl
  | cons a l ih => simp [ih, h]
@[simp] theorem ite_rig {c : Prop} [Decidable c] (a b : State) : (if c then a else b).rig = if c then a.rig else b.rig := by
  split <;> rfl
@[simp] theorem when_rig (c : Bool) (f : State → State) (s : State) (h : ∀ x, (f x).rig = x.rig) : (when c f s).rig = s.rig := by
  unfold when; split <;> simp [h]
@[simp] theorem foldl_rig {α : Type} (l : List α) (f : State → α → State) (h : ∀ s x, (f s x).rig = s.rig) (s : State) :
    (l.foldl f s).rig = s.rig := by
  induction l generalizing s with
  | nil => rfl
  | cons a l ih => simp [ih, h]
@[simp] theorem ite_port {c : Prop} [Decidable c] (a b : State) : (if c then a else b).port = if c then a.port else b.port := by
  split <;> rfl
@[simp] theorem when_port (c : Bool) (f : State → State) (s : State) (h : ∀ x, (f x).port = x.port) : (when c f s).port = s.port := by
  unfold when; split <;> simp [h]
@[simp] theorem foldl_port {α : Type} (l : List α) (f : State → α → State) (h : ∀ s x, (f s x).port = s.port) (s : State) :
    (l.foldl f s).port = s.port := by
  induction l generalizing s with
  | nil => rfl
  | cons a l ih => simp [ih, h]
@[simp] theorem ite_pk {c : Prop} [Decidable c] (a b : State) : (if c then a else b).pk = if c then a.pk else b.pk := by
  split <;> rfl
@[simp] theorem when_pk (c : Bool) (f : State → State) (s : State) (h : ∀ x, (f x).pk = x.pk) : (when c f s).pk = s.pk := by
  unfold when; split <;> simp [h]
@[simp] theorem foldl_pk {α : Type} (l : List α) (f : State → α → State) (h : ∀ s x, (f s x).pk = s.pk) (s : State) :
    (l.foldl f s).pk = s.pk := by
  induction l generalizing s with
  | nil => rfl
  | cons a l ih => simp [ih, h]
@[simp] theorem ite_hk {c : Prop} [Decidable c] (a b : State) : (if c then a else b).hk = if c then a.hk else b.hk := by
  split <;> rfl
@[simp] theorem when_hk (c : Bool) (f : State → State) (s : State) (h : ∀ x, (f x).hk = x.hk) : (when c f s).hk = s.hk := by
  unfold when; split <;> simp [h]
@[simp] theorem foldl_hk {α : Type} (l : List α) (f : State → α → State) (h : ∀ s x, (f s x).hk = s.hk) (s : State) :
    (l.foldl f s).hk = s.hk := by
  induction l generalizing s with
  | nil => rfl
  | cons a l ih => simp [ih, h]
@[simp] theorem ite_sk {c : Prop} [Decidable c] (a b : State) : (if c then a else b).sk = if c then a.sk else b.sk := by
  split <;> rfl
@[simp] theorem when_sk (c : Bool) (f : State → State) (s : State) (h : ∀ x, (f x).sk = x.sk) : (when c f s).sk = s.sk := by
  unfold when; split <;> simp [h]
@[simp] theorem foldl_sk {α : Type} (l : List α) (f : State → α → State) (h : ∀ s x, (f s x).sk = s.sk) (s : State) :
    (l.foldl f s).sk = s.sk := by
  induction l generalizing s with
  | nil => rfl
  | cons a l ih => simp [ih, h]
@[simp] theorem ite_host {c : Prop} [Decidable c] (a b : State) : (if c then a else b).host = if c then a.host else b.host := by
  split <;> rfl
@[simp] theorem when_host (c : Bool) (f : State → State) (s : State) (h : ∀ x, (f x).host = x.host) : (when c f s).host = s.host := by
  unfold when; split <;> simp [h]
@[simp] theorem foldl_host {α : Type} (l : List α) (f : State → α → State) (h : ∀ s x, (f s x).host = s.host) (s : State) :
    (l.foldl f s).host = s.host := by
  induction l generalizing s with
  | nil => rfl
  | cons a l ih => simp [ih, h]
@[simp] theorem ite_cmd {c : Prop} [Decidable c] (a b : State) : (if c then a else b).cmd = if c then a.cmd else b.cmd := by
  split <;> rfl
@[simp] theorem when_cmd (c : Bool) (f : State → State) (s : State) (h : ∀ x, (f x).cmd = x.cmd) : (when c f s).cmd = s.cmd := by
  unfold when; split <;> simp [h]
@[simp] theorem foldl_cmd {α : Type} (l : List α) (f : State → α → State) (h : ∀ s x, (f s x).cmd = s.cmd) (s : State) :
    (l.foldl f s).cmd = s.cmd := by
  induction l generalizing s with
  | nil => rfl
  | cons a l ih => simp [ih, h]
@[simp] theorem ite_out {c : Prop} [Decidable c] (a b : State) : (if c then a else b).out = if c then a.out else b.out := by
  split <;> rfl
@[simp] theorem when_out (c : Bool) (f : State → State) (s : State) (h : ∀ x, (f x).out = x.out) : (when c f s).out = s.out := by
  unfold when; split <;> simp [h]
@[simp] theorem foldl_out {α : Type} (l : List α) (f : State → α → State) (h : ∀ s x, (f s x).out = s.out) (s : State) :
    (l.foldl f s).out = s.out := by
  induction l generalizing s with
  | nil => rfl
  | cons a l ih => simp [ih, h]
@[simp] theorem ite_flt {c : Prop} [Decidable c] (a b : State) : (if c then a else b).flt = if c then a.flt else b.flt := by
  split <;> rfl
@[simp] theorem when_flt (c : Bool) (f : State → State) (s : State) (h : ∀ x, (f x).flt = x.flt) : (when c f s).flt = s.flt := by
  unfold when; split <;> simp [h]
@[simp] theorem foldl_flt {α : Type} (l : List α) (f : State → α → State) (h : ∀ s x, (f s x).flt = s.flt) (s : State) :
    (l.foldl f s).flt = s.flt := by
  induction l generalizing s with
  | nil => rfl
  | cons a l ih => simp [ih, h]
@[simp] theorem ite_epochs {c : Prop} [Decidable c] (a b : State) : (if c then a else b).epochs = if c then a.epochs else b.epochs := by
  split <;> rfl
@[simp] theorem when_epochs (c : Bool) (f : State → State) (s : State) (h : ∀ x, (f x).epochs = x.epochs) : (when c f s).epochs = s.epochs := by
  unfold when; split <;> simp [h]
@[simp] theorem foldl_epochs {α : Type} (l : List α) (f : State → α → State) (h : ∀ s x, (f s x).epochs = s.epochs) (s : State) :
    (l.foldl f s).epochs = s.epochs := by
  induction l generalizing s with
  | nil => rfl
  | cons a l ih => simp [ih, h]
@[simp] theorem ite_regs {c : Prop} [Decidable c] (a b : State) : (if c then a else b).regs = if c then a.regs else b.regs := by
  split <;> rfl
@[simp] theorem when_regs (c : Bool) (f : State → State) (s : State) (h : ∀ x, (f x).regs = x.regs) : (when c f s).regs = s.regs := by
  unfold when; split <;> simp [h]
@[simp] theorem foldl_regs {α : Type} (l : List α) (f : State → α → State) (h : ∀ s x, (f s x).regs = s.regs) (s : State) :
    (l.foldl f s).regs = s.regs := by
  induction l generalizing s with
  | nil => rfl
  | cons a l ih => simp [ih, h]
@[simp] theorem ite_power {c : Prop} [Decidable c] (a b : State) : (if c then a else b).power = if c then a.power else b.power := by
  split <;> rfl
@[simp] theorem when_power (c : Bool) (f : State → State) (s : State) (h : ∀ x, (f x).power = x.power) : (when c f s).power = s.power := by
  unfold when; split <;> simp [h]
@[simp] theorem foldl_power {α : Type} (l : List α) (f : State → α → State) (h : ∀ s x, (f s x).power = s.power) (s : State) :
    (l.foldl f s).power = s.power := by
  induction l generalizing s with
  | nil => rfl
  | cons a l ih => simp [ih, h]
@[simp] theorem ite_sec {c : Prop} [Decidable c] (a b : State) : (if c then a else b).sec = if c then a.sec else b.sec := by
  split <;> rfl
@[simp] theorem when_sec (c : Bool) (f : State → State) (s : State) (h : ∀ x, (f x).sec = x.sec) : (when c f s).sec = s.sec := by
  unfold when; split <;> simp [h]
@[simp] theorem foldl_sec {α : Type} (l : List α) (f : State → α → State) (h : ∀ s x, (f s x).sec = s.sec) (s : State) :
    (l.foldl f s).sec = s.sec := by
  induction l generalizing s with
  | nil => rfl
  | cons a l ih => simp [ih, h]
@[simp] theorem ite_boot {c : Prop} [Decidable c] (a b : State) : (if c then a else b).boot = if c then a.boot else b.boot := by
  split <;> rfl
@[simp] theorem when_boot (c : Bool) (f : State → State) (s : State) (h : ∀ x, (f x).boot = x.boot) : (when c f s).boot = s.boot := by
  unfold when; split <;> simp [h]
@[simp] theorem foldl_boot {α : Type} (l : List α) (f : State → α → State) (h : ∀ s x, (f s x).boot = s.boot) (s : State) :
    (l.foldl f s).boot = s.boot := by
  induction l generalizing s with
  | nil => rfl
  | cons a l ih => simp [ih, h]
@[simp] theorem ite_deviceId {c : Prop} [Decidable c] (a b : State) : (if c then a else b).deviceId = if c then a.deviceId else b.deviceId := by
  split <;> rfl
@[simp] theorem when_deviceId (c : Bool) (f : State → State) (s : State) (h : ∀ x, (f x).deviceId = x.deviceId) : (when c f s).deviceId = s.deviceId := by
  unfold when; split <;> simp [h]
@[simp] theorem foldl_deviceId {α : Type} (l : List α) (f : State → α → State) (h : ∀ s x, (f s x).deviceId = s.deviceId) (s : State) :
    (l.foldl f s).deviceId = s.deviceId := by
  induction l generalizing s with
  | nil => rfl
  | cons a l ih => simp [ih, h]
@[simp] theorem ite_freeCtr {c : Prop} [Decidable c] (a b : State) : (if c then a else b).freeCtr = if c then a.freeCtr else b.freeCtr := by
  split <;> rfl
@[simp] theorem when_freeCtr (c : Bool) (f : State → State) (s : State) (h : ∀ x, (f x).freeCtr = x.freeCtr) : (when c f s).freeCtr = s.freeCtr := by
  unfold when; split <;> simp [h]
@[simp] theorem foldl_freeCtr {α : Type} (l : List α) (f : State → α → State) (h : ∀ s x, (f s x).freeCtr = s.freeCtr) (s : State) :
    (l.foldl f s).freeCtr = s.freeCtr := by
  induction l generalizing s with
  | nil => rfl
  | cons a l ih => simp [ih, h]

/-! `signalBlock` -/

@[simp] theorem signalBlock_pending (b : ℕ) (s : State) :
    (signalBlock b s).pending = s.pending := by
  unfold signalBlock
  repeat' (first | rfl | (simp; done) | split)
@[simp] theorem signalBlock_time (b : ℕ) (s : State) :
    (signalBlock b s).time = s.time := by
  unfold signalBlock
  repeat' (first | rfl | (simp; done) | split)
@[simp] theorem signalBlock_mast (b : ℕ) (s : State) :
    (signalBlock b s).mast = s.mast := by
  unfold signalBlock
  repeat' (first | rfl | (simp; done) | split)
@[simp] theorem signalBlock_rig (b : ℕ) (s : State) :
    (signalBlock b s).rig = s.rig := by
  unfold signalBlock
  repeat' (first | rfl | (simp; done) | split)
@[simp] theorem signalBlock_port (b : ℕ) (s : State) :
    (signalBlock b s).port = s.port := by
  unfold signalBlock
  repeat' (first | rfl | (simp; done) | split)
@[simp] theorem signalBlock_pk (b : ℕ) (s : State) :
    (signalBlock b s).pk = s.pk := by
  unfold signalBlock
  repeat' (first | rfl | (simp; done) | split)
@[simp] theorem signalBlock_hk (b : ℕ) (s : State) :
    (signalBlock b s).hk = s.hk := by
  unfold signalBlock
  repeat' (first | rfl | (simp; done) | split)
@[simp] theorem signalBlock_sk (b : ℕ) (s : State) :
    (signalBlock b s).sk = s.sk := by
  unfold signalBlock
  repeat' (first | rfl | (simp; done) | split)
@[simp] theorem signalBlock_host (b : ℕ) (s : State) :
    (signalBlock b s).host = s.host := by
  unfold signalBlock
  repeat' (first | rfl | (simp; done) | split)
@[simp] theorem signalBlock_cmd (b : ℕ) (s : State) :
    (signalBlock b s).cmd = s.cmd := by
  unfold signalBlock
  repeat' (first | rfl | (simp; done) | split)
@[simp] theorem signalBlock_flt (b : ℕ) (s : State) :
    (signalBlock b s).flt = s.flt := by
  unfold signalBlock
  repeat' (first | rfl | (simp; done) | split)
@[simp] theorem signalBlock_epochs (b : ℕ) (s : State) :
    (signalBlock b s).epochs = s.epochs := by
  unfold signalBlock
  repeat' (first | rfl | (simp; done) | split)
@[simp] theorem signalBlock_power (b : ℕ) (s : State) :
    (signalBlock b s).power = s.power := by
  unfold signalBlock
  repeat' (first | rfl | (simp; done) | split)
@[simp] theorem signalBlock_sec (b : ℕ) (s : State) :
    (signalBlock b s).sec = s.sec := by
  unfold signalBlock
  repeat' (first | rfl | (simp; done) | split)
@[simp] theorem signalBlock_boot (b : ℕ) (s : State) :
    (signalBlock b s).boot = s.boot := by
  unfold signalBlock
  repeat' (first | rfl | (simp; done) | split)
@[simp] theorem signalBlock_deviceId (b : ℕ) (s : State) :
    (signalBlock b s).deviceId = s.deviceId := by
  unfold signalBlock
  repeat' (first | rfl | (simp; done) | split)
@[simp] theorem signalBlock_freeCtr (b : ℕ) (s : State) :
    (signalBlock b s).freeCtr = s.freeCtr := by
  unfold signalBlock
  repeat' (first | rfl | (simp; done) | split)

/-! `intEdge` -/

@[simp] theorem intEdge_pending (b : ℕ) (f : State → State) (s : State) (h : ∀ x, (f x).pending = x.pending) :
    (intEdge b f s).pending = s.pending := by
  simp only [intEdge]; split <;> simp [h]
@[simp] theorem intEdge_time (b : ℕ) (f : State → State) (s : State) (h : ∀ x, (f x).time = x.time) :
    (intEdge b f s).time = s.time := by
  simp only [intEdge]; split <;> simp [h]
@[simp] theorem intEdge_mast (b : ℕ) (f : State → State) (s : State) (h : ∀ x, (f x).mast = x.mast) :
    (intEdge b f s).mast = s.mast := by
  simp only [intEdge]; split <;> simp [h]
@[simp] theorem intEdge_rig (b : ℕ) (f : State → State) (s : State) (h : ∀ x, (f x).rig = x.rig) :
    (intEdge b f s).rig = s.rig := by
  simp only [intEdge]; split <;> simp [h]
@[simp] theorem intEdge_port (b : ℕ) (f : State → State) (s : State) (h : ∀ x, (f x).port = x.port) :
    (intEdge b f s).port = s.port := by
  simp only [intEdge]; split <;> simp [h]
@[simp] theorem intEdge_pk (b : ℕ) (f : State → State) (s : State) (h : ∀ x, (f x).pk = x.pk) :
    (intEdge b f s).pk = s.pk := by
  simp only [intEdge]; split <;> simp [h]
@[simp] theorem intEdge_hk (b : ℕ) (f : State → State) (s : State) (h : ∀ x, (f x).hk = x.hk) :
    (intEdge b f s).hk = s.hk := by
  simp only [intEdge]; split <;> simp [h]
@[simp] theorem intEdge_sk (b : ℕ) (f : State → State) (s : State) (h : ∀ x, (f x).sk = x.sk) :
    (intEdge b f s).sk = s.sk := by
  simp only [intEdge]; split <;> simp [h]
@[simp] theorem intEdge_host (b : ℕ) (f : State → State) (s : State) (h : ∀ x, (f x).host = x.host) :
    (intEdge b f s).host = s.host := by
  simp only [intEdge]; split <;> simp [h]
@[simp] theorem intEdge_cmd (b : ℕ) (f : State → State) (s : State) (h : ∀ x, (f x).cmd = x.cmd) :
    (intEdge b f s).cmd = s.cmd := by
  simp only [intEdge]; split <;> simp [h]
@[simp] theorem intEdge_flt (b : ℕ) (f : State → State) (s : State) (h : ∀ x, (f x).flt = x.flt) :
    (intEdge b f s).flt = s.flt := by
  simp only [intEdge]; split <;> simp [h]
@[simp] theorem intEdge_epochs (b : ℕ) (f : State → State) (s : State) (h : ∀ x, (f x).epochs = x.epochs) :
    (intEdge b f s).epochs = s.epochs := by
  simp only [intEdge]; split <;> simp [h]
@[simp] theorem intEdge_power (b : ℕ) (f : State → State) (s : State) (h : ∀ x, (f x).power = x.power) :
    (intEdge b f s).power = s.power := by
  simp only [intEdge]; split <;> simp [h]
@[simp] theorem intEdge_sec (b : ℕ) (f : State → State) (s : State) (h : ∀ x, (f x).sec = x.sec) :
    (intEdge b f s).sec = s.sec := by
  simp only [intEdge]; split <;> simp [h]
@[simp] theorem intEdge_boot (b : ℕ) (f : State → State) (s : State) (h : ∀ x, (f x).boot = x.boot) :
    (intEdge b f s).boot = s.boot := by
  simp only [intEdge]; split <;> simp [h]
@[simp] theorem intEdge_deviceId (b : ℕ) (f : State → State) (s : State) (h : ∀ x, (f x).deviceId = x.deviceId) :
    (intEdge b f s).deviceId = s.deviceId := by
  simp only [intEdge]; split <;> simp [h]
@[simp] theorem intEdge_freeCtr (b : ℕ) (f : State → State) (s : State) (h : ∀ x, (f x).freeCtr = x.freeCtr) :
    (intEdge b f s).freeCtr = s.freeCtr := by
  simp only [intEdge]; split <;> simp [h]

/-! `raiseInt` -/

@[simp] theorem raiseInt_pending (b : ℕ) (r : RegId) (ix : List ℕ) (bit : ℕ) (s : State) :
    (raiseInt b r ix bit s).pending = s.pending := by
  unfold raiseInt
  repeat' (first | rfl | (simp; done) | split)
@[simp] theorem raiseInt_time (b : ℕ) (r : RegId) (ix : List ℕ) (bit : ℕ) (s : State) :
    (raiseInt b r ix bit s).time = s.time := by
  unfold raiseInt
  repeat' (first | rfl | (simp; done) | split)
@[simp] theorem raiseInt_mast (b : ℕ) (r : RegId) (ix : List ℕ) (bit : ℕ) (s : State) :
    (raiseInt b r ix bit s).mast = s.mast := by
  unfold raiseInt
  repeat' (first | rfl | (simp; done) | split)
@[simp] theorem raiseInt_rig (b : ℕ) (r : RegId) (ix : List ℕ) (bit : ℕ) (s : State) :
    (raiseInt b r ix bit s).rig = s.rig := by
  unfold raiseInt
  repeat' (first | rfl | (simp; done) | split)
@[simp] theorem raiseInt_port (b : ℕ) (r : RegId) (ix : List ℕ) (bit : ℕ) (s : State) :
    (raiseInt b r ix bit s).port = s.port := by
  unfold raiseInt
  repeat' (first | rfl | (simp; done) | split)
@[simp] theorem raiseInt_pk (b : ℕ) (r : RegId) (ix : List ℕ) (bit : ℕ) (s : State) :
    (raiseInt b r ix bit s).pk = s.pk := by
  unfold raiseInt
  repeat' (first | rfl | (simp; done) | split)
@[simp] theorem raiseInt_hk (b : ℕ) (r : RegId) (ix : List ℕ) (bit : ℕ) (s : State) :
    (raiseInt b r ix bit s).hk = s.hk := by
  unfold raiseInt
  repeat' (first | rfl | (simp; done) | split)
@[simp] theorem raiseInt_sk (b : ℕ) (r : RegId) (ix : List ℕ) (bit : ℕ) (s : State) :
    (raiseInt b r ix bit s).sk = s.sk := by
  unfold raiseInt
  repeat' (first | rfl | (simp; done) | split)
@[simp] theorem raiseInt_host (b : ℕ) (r : RegId) (ix : List ℕ) (bit : ℕ) (s : State) :
    (raiseInt b r ix bit s).host = s.host := by
  unfold raiseInt
  repeat' (first | rfl | (simp; done) | split)
@[simp] theorem raiseInt_cmd (b : ℕ) (r : RegId) (ix : List ℕ) (bit : ℕ) (s : State) :
    (raiseInt b r ix bit s).cmd = s.cmd := by
  unfold raiseInt
  repeat' (first | rfl | (simp; done) | split)
@[simp] theorem raiseInt_flt (b : ℕ) (r : RegId) (ix : List ℕ) (bit : ℕ) (s : State) :
    (raiseInt b r ix bit s).flt = s.flt := by
  unfold raiseInt
  repeat' (first | rfl | (simp; done) | split)
@[simp] theorem raiseInt_epochs (b : ℕ) (r : RegId) (ix : List ℕ) (bit : ℕ) (s : State) :
    (raiseInt b r ix bit s).epochs = s.epochs := by
  unfold raiseInt
  repeat' (first | rfl | (simp; done) | split)
@[simp] theorem raiseInt_power (b : ℕ) (r : RegId) (ix : List ℕ) (bit : ℕ) (s : State) :
    (raiseInt b r ix bit s).power = s.power := by
  unfold raiseInt
  repeat' (first | rfl | (simp; done) | split)
@[simp] theorem raiseInt_sec (b : ℕ) (r : RegId) (ix : List ℕ) (bit : ℕ) (s : State) :
    (raiseInt b r ix bit s).sec = s.sec := by
  unfold raiseInt
  repeat' (first | rfl | (simp; done) | split)
@[simp] theorem raiseInt_boot (b : ℕ) (r : RegId) (ix : List ℕ) (bit : ℕ) (s : State) :
    (raiseInt b r ix bit s).boot = s.boot := by
  unfold raiseInt
  repeat' (first | rfl | (simp; done) | split)
@[simp] theorem raiseInt_deviceId (b : ℕ) (r : RegId) (ix : List ℕ) (bit : ℕ) (s : State) :
    (raiseInt b r ix bit s).deviceId = s.deviceId := by
  unfold raiseInt
  repeat' (first | rfl | (simp; done) | split)
@[simp] theorem raiseInt_freeCtr (b : ℕ) (r : RegId) (ix : List ℕ) (bit : ℕ) (s : State) :
    (raiseInt b r ix bit s).freeCtr = s.freeCtr := by
  unfold raiseInt
  repeat' (first | rfl | (simp; done) | split)

/-! `fnSignal` -/

@[simp] theorem fnSignal_pending (f : ℕ) (v : ℕ) (s : State) :
    (fnSignal f v s).pending = s.pending := by
  unfold fnSignal
  repeat' (first | rfl | (simp; done) | split)
@[simp] theorem fnSignal_time (f : ℕ) (v : ℕ) (s : State) :
    (fnSignal f v s).time = s.time := by
  unfold fnSignal
  repeat' (first | rfl | (simp; done) | split)
@[simp] theorem fnSignal_mast (f : ℕ) (v : ℕ) (s : State) :
    (fnSignal f v s).mast = s.mast := by
  unfold fnSignal
  repeat' (first | rfl | (simp; done) | split)
@[simp] theorem fnSignal_rig (f : ℕ) (v : ℕ) (s : State) :
    (fnSignal f v s).rig = s.rig := by
  unfold fnSignal
  repeat' (first | rfl | (simp; done) | split)
@[simp] theorem fnSignal_port (f : ℕ) (v : ℕ) (s : State) :
    (fnSignal f v s).port = s.port := by
  unfold fnSignal
  repeat' (first | rfl | (simp; done) | split)
@[simp] theorem fnSignal_pk (f : ℕ) (v : ℕ) (s : State) :
    (fnSignal f v s).pk = s.pk := by
  unfold fnSignal
  repeat' (first | rfl | (simp; done) | split)
@[simp] theorem fnSignal_hk (f : ℕ) (v : ℕ) (s : State) :
    (fnSignal f v s).hk = s.hk := by
  unfold fnSignal
  repeat' (first | rfl | (simp; done) | split)
@[simp] theorem fnSignal_sk (f : ℕ) (v : ℕ) (s : State) :
    (fnSignal f v s).sk = s.sk := by
  unfold fnSignal
  repeat' (first | rfl | (simp; done) | split)
@[simp] theorem fnSignal_host (f : ℕ) (v : ℕ) (s : State) :
    (fnSignal f v s).host = s.host := by
  unfold fnSignal
  repeat' (first | rfl | (simp; done) | split)
@[simp] theorem fnSignal_cmd (f : ℕ) (v : ℕ) (s : State) :
    (fnSignal f v s).cmd = s.cmd := by
  unfold fnSignal
  repeat' (first | rfl | (simp; done) | split)
@[simp] theorem fnSignal_flt (f : ℕ) (v : ℕ) (s : State) :
    (fnSignal f v s).flt = s.flt := by
  unfold fnSignal
  repeat' (first | rfl | (simp; done) | split)
@[simp] theorem fnSignal_epochs (f : ℕ) (v : ℕ) (s : State) :
    (fnSignal f v s).epochs = s.epochs := by
  unfold fnSignal
  repeat' (first | rfl | (simp; done) | split)
@[simp] theorem fnSignal_regs (f : ℕ) (v : ℕ) (s : State) :
    (fnSignal f v s).regs = s.regs := by
  unfold fnSignal
  repeat' (first | rfl | (simp; done) | split)
@[simp] theorem fnSignal_power (f : ℕ) (v : ℕ) (s : State) :
    (fnSignal f v s).power = s.power := by
  unfold fnSignal
  repeat' (first | rfl | (simp; done) | split)
@[simp] theorem fnSignal_sec (f : ℕ) (v : ℕ) (s : State) :
    (fnSignal f v s).sec = s.sec := by
  unfold fnSignal
  repeat' (first | rfl | (simp; done) | split)
@[simp] theorem fnSignal_boot (f : ℕ) (v : ℕ) (s : State) :
    (fnSignal f v s).boot = s.boot := by
  unfold fnSignal
  repeat' (first | rfl | (simp; done) | split)
@[simp] theorem fnSignal_deviceId (f : ℕ) (v : ℕ) (s : State) :
    (fnSignal f v s).deviceId = s.deviceId := by
  unfold fnSignal
  repeat' (first | rfl | (simp; done) | split)
@[simp] theorem fnSignal_freeCtr (f : ℕ) (v : ℕ) (s : State) :
    (fnSignal f v s).freeCtr = s.freeCtr := by
  unfold fnSignal
  repeat' (first | rfl | (simp; done) | split)

/-! `raiseFn` -/

@[simp] theorem raiseFn_pending (f : ℕ) (bit : ℕ) (s : State) :
    (raiseFn f bit s).pending = s.pending := by
  unfold raiseFn
  repeat' (first | rfl | (simp; done) | split)
@[simp] theorem raiseFn_time (f : ℕ) (bit : ℕ) (s : State) :
    (raiseFn f bit s).time = s.time := by
  unfold raiseFn
  repeat' (first | rfl | (simp; done) | split)
@[simp] theorem raiseFn_mast (f : ℕ) (bit : ℕ) (s : State) :
    (raiseFn f bit s).mast = s.mast := by
  unfold raiseFn
  repeat' (first | rfl | (simp; done) | split)
@[simp] theorem raiseFn_rig (f : ℕ) (bit : ℕ) (s : State) :
    (raiseFn f bit s).rig = s.rig := by
  unfold raiseFn
  repeat' (first | rfl | (simp; done) | split)
@[simp] theorem raiseFn_port (f : ℕ) (bit : ℕ) (s : State) :
    (raiseFn f bit s).port = s.port := by
  unfold raiseFn
  repeat' (first | rfl | (simp; done) | split)
@[simp] theorem raiseFn_pk (f : ℕ) (bit : ℕ) (s : State) :
    (raiseFn f bit s).pk = s.pk := by
  unfold raiseFn
  repeat' (first | rfl | (simp; done) | split)
@[simp] theorem raiseFn_hk (f : ℕ) (bit : ℕ) (s : State) :
    (raiseFn f bit s).hk = s.hk := by
  unfold raiseFn
  repeat' (first | rfl | (simp; done) | split)
@[simp] theorem raiseFn_sk (f : ℕ) (bit : ℕ) (s : State) :
    (raiseFn f bit s).sk = s.sk := by
  unfold raiseFn
  repeat' (first | rfl | (simp; done) | split)
@[simp] theorem raiseFn_host (f : ℕ) (bit : ℕ) (s : State) :
    (raiseFn f bit s).host = s.host := by
  unfold raiseFn
  repeat' (first | rfl | (simp; done) | split)
@[simp] theorem raiseFn_cmd (f : ℕ) (bit : ℕ) (s : State) :
    (raiseFn f bit s).cmd = s.cmd := by
  unfold raiseFn
  repeat' (first | rfl | (simp; done) | split)
@[simp] theorem raiseFn_flt (f : ℕ) (bit : ℕ) (s : State) :
    (raiseFn f bit s).flt = s.flt := by
  unfold raiseFn
  repeat' (first | rfl | (simp; done) | split)
@[simp] theorem raiseFn_epochs (f : ℕ) (bit : ℕ) (s : State) :
    (raiseFn f bit s).epochs = s.epochs := by
  unfold raiseFn
  repeat' (first | rfl | (simp; done) | split)
@[simp] theorem raiseFn_power (f : ℕ) (bit : ℕ) (s : State) :
    (raiseFn f bit s).power = s.power := by
  unfold raiseFn
  repeat' (first | rfl | (simp; done) | split)
@[simp] theorem raiseFn_sec (f : ℕ) (bit : ℕ) (s : State) :
    (raiseFn f bit s).sec = s.sec := by
  unfold raiseFn
  repeat' (first | rfl | (simp; done) | split)
@[simp] theorem raiseFn_boot (f : ℕ) (bit : ℕ) (s : State) :
    (raiseFn f bit s).boot = s.boot := by
  unfold raiseFn
  repeat' (first | rfl | (simp; done) | split)
@[simp] theorem raiseFn_deviceId (f : ℕ) (bit : ℕ) (s : State) :
    (raiseFn f bit s).deviceId = s.deviceId := by
  unfold raiseFn
  repeat' (first | rfl | (simp; done) | split)
@[simp] theorem raiseFn_freeCtr (f : ℕ) (bit : ℕ) (s : State) :
    (raiseFn f bit s).freeCtr = s.freeCtr := by
  unfold raiseFn
  repeat' (first | rfl | (simp; done) | split)

/-! `pumpAdmin` -/

@[simp] theorem pumpAdmin_pending (f : ℕ) (fuel : ℕ) (s : State) :
    (pumpAdmin f fuel s).pending = s.pending := by
  induction fuel generalizing s with
  | zero => rfl
  | succ fuel ih =>
    simp only [pumpAdmin]
    repeat' (first | rfl | (simp [ih]; done) | split)
@[simp] theorem pumpAdmin_time (f : ℕ) (fuel : ℕ) (s : State) :
    (pumpAdmin f fuel s).time = s.time := by
  induction fuel generalizing s with
  | zero => rfl
  | succ fuel ih =>
    simp only [pumpAdmin]
    repeat' (first | rfl | (simp [ih]; done) | split)
@[simp] theorem pumpAdmin_mast (f : ℕ) (fuel : ℕ) (s : State) :
    (pumpAdmin f fuel s).mast = s.mast := by
  induction fuel generalizing s with
  | zero => rfl
  | succ fuel ih =>
    simp only [pumpAdmin]
    repeat' (first | rfl | (simp [ih]; done) | split)
@[simp] theorem pumpAdmin_rig (f : ℕ) (fuel : ℕ) (s : State) :
    (pumpAdmin f fuel s).rig = s.rig := by
  induction fuel generalizing s with
  | zero => rfl
  | succ fuel ih =>
    simp only [pumpAdmin]
    repeat' (first | rfl | (simp [ih]; done) | split)
@[simp] theorem pumpAdmin_port (f : ℕ) (fuel : ℕ) (s : State) :
    (pumpAdmin f fuel s).port = s.port := by
  induction fuel generalizing s with
  | zero => rfl
  | succ fuel ih =>
    simp only [pumpAdmin]
    repeat' (first | rfl | (simp [ih]; done) | split)
@[simp] theorem pumpAdmin_pk (f : ℕ) (fuel : ℕ) (s : State) :
    (pumpAdmin f fuel s).pk = s.pk := by
  induction fuel generalizing s with
  | zero => rfl
  | succ fuel ih =>
    simp only [pumpAdmin]
    repeat' (first | rfl | (simp [ih]; done) | split)
@[simp] theorem pumpAdmin_hk (f : ℕ) (fuel : ℕ) (s : State) :
    (pumpAdmin f fuel s).hk = s.hk := by
  induction fuel generalizing s with
  | zero => rfl
  | succ fuel ih =>
    simp only [pumpAdmin]
    repeat' (first | rfl | (simp [ih]; done) | split)
@[simp] theorem pumpAdmin_sk (f : ℕ) (fuel : ℕ) (s : State) :
    (pumpAdmin f fuel s).sk = s.sk := by
  induction fuel generalizing s with
  | zero => rfl
  | succ fuel ih =>
    simp only [pumpAdmin]
    repeat' (first | rfl | (simp [ih]; done) | split)
@[simp] theorem pumpAdmin_cmd (f : ℕ) (fuel : ℕ) (s : State) :
    (pumpAdmin f fuel s).cmd = s.cmd := by
  induction fuel generalizing s with
  | zero => rfl
  | succ fuel ih =>
    simp only [pumpAdmin]
    repeat' (first | rfl | (simp [ih]; done) | split)
@[simp] theorem pumpAdmin_flt (f : ℕ) (fuel : ℕ) (s : State) :
    (pumpAdmin f fuel s).flt = s.flt := by
  induction fuel generalizing s with
  | zero => rfl
  | succ fuel ih =>
    simp only [pumpAdmin]
    repeat' (first | rfl | (simp [ih]; done) | split)
@[simp] theorem pumpAdmin_epochs (f : ℕ) (fuel : ℕ) (s : State) :
    (pumpAdmin f fuel s).epochs = s.epochs := by
  induction fuel generalizing s with
  | zero => rfl
  | succ fuel ih =>
    simp only [pumpAdmin]
    repeat' (first | rfl | (simp [ih]; done) | split)
@[simp] theorem pumpAdmin_power (f : ℕ) (fuel : ℕ) (s : State) :
    (pumpAdmin f fuel s).power = s.power := by
  induction fuel generalizing s with
  | zero => rfl
  | succ fuel ih =>
    simp only [pumpAdmin]
    repeat' (first | rfl | (simp [ih]; done) | split)
@[simp] theorem pumpAdmin_sec (f : ℕ) (fuel : ℕ) (s : State) :
    (pumpAdmin f fuel s).sec = s.sec := by
  induction fuel generalizing s with
  | zero => rfl
  | succ fuel ih =>
    simp only [pumpAdmin]
    repeat' (first | rfl | (simp [ih]; done) | split)
@[simp] theorem pumpAdmin_boot (f : ℕ) (fuel : ℕ) (s : State) :
    (pumpAdmin f fuel s).boot = s.boot := by
  induction fuel generalizing s with
  | zero => rfl
  | succ fuel ih =>
    simp only [pumpAdmin]
    repeat' (first | rfl | (simp [ih]; done) | split)
@[simp] theorem pumpAdmin_deviceId (f : ℕ) (fuel : ℕ) (s : State) :
    (pumpAdmin f fuel s).deviceId = s.deviceId := by
  induction fuel generalizing s with
  | zero => rfl
  | succ fuel ih =>
    simp only [pumpAdmin]
    repeat' (first | rfl | (simp [ih]; done) | split)
@[simp] theorem pumpAdmin_freeCtr (f : ℕ) (fuel : ℕ) (s : State) :
    (pumpAdmin f fuel s).freeCtr = s.freeCtr := by
  induction fuel generalizing s with
  | zero => rfl
  | succ fuel ih =>
    simp only [pumpAdmin]
    repeat' (first | rfl | (simp [ih]; done) | split)

/-! `adminEntry` -/

@[simp] theorem adminEntry_pending (f : ℕ) (e : List W) (s : State) :
    (adminEntry f e s).pending = s.pending := by
  unfold adminEntry
  repeat' (first | rfl | (simp; done) | split)
@[simp] theorem adminEntry_time (f : ℕ) (e : List W) (s : State) :
    (adminEntry f e s).time = s.time := by
  unfold adminEntry
  repeat' (first | rfl | (simp; done) | split)
@[simp] theorem adminEntry_mast (f : ℕ) (e : List W) (s : State) :
    (adminEntry f e s).mast = s.mast := by
  unfold adminEntry
  repeat' (first | rfl | (simp; done) | split)
@[simp] theorem adminEntry_rig (f : ℕ) (e : List W) (s : State) :
    (adminEntry f e s).rig = s.rig := by
  unfold adminEntry
  repeat' (first | rfl | (simp; done) | split)
@[simp] theorem adminEntry_port (f : ℕ) (e : List W) (s : State) :
    (adminEntry f e s).port = s.port := by
  unfold adminEntry
  repeat' (first | rfl | (simp; done) | split)
@[simp] theorem adminEntry_pk (f : ℕ) (e : List W) (s : State) :
    (adminEntry f e s).pk = s.pk := by
  unfold adminEntry
  repeat' (first | rfl | (simp; done) | split)
@[simp] theorem adminEntry_hk (f : ℕ) (e : List W) (s : State) :
    (adminEntry f e s).hk = s.hk := by
  unfold adminEntry
  repeat' (first | rfl | (simp; done) | split)
@[simp] theorem adminEntry_sk (f : ℕ) (e : List W) (s : State) :
    (adminEntry f e s).sk = s.sk := by
  unfold adminEntry
  repeat' (first | rfl | (simp; done) | split)
@[simp] theorem adminEntry_cmd (f : ℕ) (e : List W) (s : State) :
    (adminEntry f e s).cmd = s.cmd := by
  unfold adminEntry
  repeat' (first | rfl | (simp; done) | split)
@[simp] theorem adminEntry_flt (f : ℕ) (e : List W) (s : State) :
    (adminEntry f e s).flt = s.flt := by
  unfold adminEntry
  repeat' (first | rfl | (simp; done) | split)
@[simp] theorem adminEntry_epochs (f : ℕ) (e : List W) (s : State) :
    (adminEntry f e s).epochs = s.epochs := by
  unfold adminEntry
  repeat' (first | rfl | (simp; done) | split)
@[simp] theorem adminEntry_power (f : ℕ) (e : List W) (s : State) :
    (adminEntry f e s).power = s.power := by
  unfold adminEntry
  repeat' (first | rfl | (simp; done) | split)
@[simp] theorem adminEntry_sec (f : ℕ) (e : List W) (s : State) :
    (adminEntry f e s).sec = s.sec := by
  unfold adminEntry
  repeat' (first | rfl | (simp; done) | split)
@[simp] theorem adminEntry_boot (f : ℕ) (e : List W) (s : State) :
    (adminEntry f e s).boot = s.boot := by
  unfold adminEntry
  repeat' (first | rfl | (simp; done) | split)
@[simp] theorem adminEntry_deviceId (f : ℕ) (e : List W) (s : State) :
    (adminEntry f e s).deviceId = s.deviceId := by
  unfold adminEntry
  repeat' (first | rfl | (simp; done) | split)
@[simp] theorem adminEntry_freeCtr (f : ℕ) (e : List W) (s : State) :
    (adminEntry f e s).freeCtr = s.freeCtr := by
  unfold adminEntry
  repeat' (first | rfl | (simp; done) | split)

/-! `pumpEvents` -/

@[simp] theorem pumpEvents_pending (src : Source) (fuel : ℕ) (s : State) :
    (pumpEvents src fuel s).pending = s.pending := by
  induction fuel generalizing s with
  | zero => rfl
  | succ fuel ih =>
    simp only [pumpEvents]
    repeat' (first | rfl | (simp [ih]; done) | split)
@[simp] theorem pumpEvents_time (src : Source) (fuel : ℕ) (s : State) :
    (pumpEvents src fuel s).time = s.time := by
  induction fuel generalizing s with
  | zero => rfl
  | succ fuel ih =>
    simp only [pumpEvents]
    repeat' (first | rfl | (simp [ih]; done) | split)
@[simp] theorem pumpEvents_mast (src : Source) (fuel : ℕ) (s : State) :
    (pumpEvents src fuel s).mast = s.mast := by
  induction fuel generalizing s with
  | zero => rfl
  | succ fuel ih =>
    simp only [pumpEvents]
    repeat' (first | rfl | (simp [ih]; done) | split)
@[simp] theorem pumpEvents_rig (src : Source) (fuel : ℕ) (s : State) :
    (pumpEvents src fuel s).rig = s.rig := by
  induction fuel generalizing s with
  | zero => rfl
  | succ fuel ih =>
    simp only [pumpEvents]
    repeat' (first | rfl | (simp [ih]; done) | split)
@[simp] theorem pumpEvents_port (src : Source) (fuel : ℕ) (s : State) :
    (pumpEvents src fuel s).port = s.port := by
  induction fuel generalizing s with
  | zero => rfl
  | succ fuel ih =>
    simp only [pumpEvents]
    repeat' (first | rfl | (simp [ih]; done) | split)
@[simp] theorem pumpEvents_pk (src : Source) (fuel : ℕ) (s : State) :
    (pumpEvents src fuel s).pk = s.pk := by
  induction fuel generalizing s with
  | zero => rfl
  | succ fuel ih =>
    simp only [pumpEvents]
    repeat' (first | rfl | (simp [ih]; done) | split)
@[simp] theorem pumpEvents_hk (src : Source) (fuel : ℕ) (s : State) :
    (pumpEvents src fuel s).hk = s.hk := by
  induction fuel generalizing s with
  | zero => rfl
  | succ fuel ih =>
    simp only [pumpEvents]
    repeat' (first | rfl | (simp [ih]; done) | split)
@[simp] theorem pumpEvents_sk (src : Source) (fuel : ℕ) (s : State) :
    (pumpEvents src fuel s).sk = s.sk := by
  induction fuel generalizing s with
  | zero => rfl
  | succ fuel ih =>
    simp only [pumpEvents]
    repeat' (first | rfl | (simp [ih]; done) | split)
@[simp] theorem pumpEvents_flt (src : Source) (fuel : ℕ) (s : State) :
    (pumpEvents src fuel s).flt = s.flt := by
  induction fuel generalizing s with
  | zero => rfl
  | succ fuel ih =>
    simp only [pumpEvents]
    repeat' (first | rfl | (simp [ih]; done) | split)
@[simp] theorem pumpEvents_epochs (src : Source) (fuel : ℕ) (s : State) :
    (pumpEvents src fuel s).epochs = s.epochs := by
  induction fuel generalizing s with
  | zero => rfl
  | succ fuel ih =>
    simp only [pumpEvents]
    repeat' (first | rfl | (simp [ih]; done) | split)
@[simp] theorem pumpEvents_power (src : Source) (fuel : ℕ) (s : State) :
    (pumpEvents src fuel s).power = s.power := by
  induction fuel generalizing s with
  | zero => rfl
  | succ fuel ih =>
    simp only [pumpEvents]
    repeat' (first | rfl | (simp [ih]; done) | split)
@[simp] theorem pumpEvents_sec (src : Source) (fuel : ℕ) (s : State) :
    (pumpEvents src fuel s).sec = s.sec := by
  induction fuel generalizing s with
  | zero => rfl
  | succ fuel ih =>
    simp only [pumpEvents]
    repeat' (first | rfl | (simp [ih]; done) | split)
@[simp] theorem pumpEvents_boot (src : Source) (fuel : ℕ) (s : State) :
    (pumpEvents src fuel s).boot = s.boot := by
  induction fuel generalizing s with
  | zero => rfl
  | succ fuel ih =>
    simp only [pumpEvents]
    repeat' (first | rfl | (simp [ih]; done) | split)
@[simp] theorem pumpEvents_deviceId (src : Source) (fuel : ℕ) (s : State) :
    (pumpEvents src fuel s).deviceId = s.deviceId := by
  induction fuel generalizing s with
  | zero => rfl
  | succ fuel ih =>
    simp only [pumpEvents]
    repeat' (first | rfl | (simp [ih]; done) | split)
@[simp] theorem pumpEvents_freeCtr (src : Source) (fuel : ℕ) (s : State) :
    (pumpEvents src fuel s).freeCtr = s.freeCtr := by
  induction fuel generalizing s with
  | zero => rfl
  | succ fuel ih =>
    simp only [pumpEvents]
    repeat' (first | rfl | (simp [ih]; done) | split)

/-! `postEvent` -/

@[simp] theorem postEvent_pending (k : ℕ) (params : List W) (s : State) :
    (postEvent k params s).pending = s.pending := by
  unfold postEvent
  repeat' (first | rfl | (simp; done) | split)
@[simp] theorem postEvent_time (k : ℕ) (params : List W) (s : State) :
    (postEvent k params s).time = s.time := by
  unfold postEvent
  repeat' (first | rfl | (simp; done) | split)
@[simp] theorem postEvent_mast (k : ℕ) (params : List W) (s : State) :
    (postEvent k params s).mast = s.mast := by
  unfold postEvent
  repeat' (first | rfl | (simp; done) | split)
@[simp] theorem postEvent_rig (k : ℕ) (params : List W) (s : State) :
    (postEvent k params s).rig = s.rig := by
  unfold postEvent
  repeat' (first | rfl | (simp; done) | split)
@[simp] theorem postEvent_port (k : ℕ) (params : List W) (s : State) :
    (postEvent k params s).port = s.port := by
  unfold postEvent
  repeat' (first | rfl | (simp; done) | split)
@[simp] theorem postEvent_pk (k : ℕ) (params : List W) (s : State) :
    (postEvent k params s).pk = s.pk := by
  unfold postEvent
  repeat' (first | rfl | (simp; done) | split)
@[simp] theorem postEvent_hk (k : ℕ) (params : List W) (s : State) :
    (postEvent k params s).hk = s.hk := by
  unfold postEvent
  repeat' (first | rfl | (simp; done) | split)
@[simp] theorem postEvent_sk (k : ℕ) (params : List W) (s : State) :
    (postEvent k params s).sk = s.sk := by
  unfold postEvent
  repeat' (first | rfl | (simp; done) | split)
@[simp] theorem postEvent_flt (k : ℕ) (params : List W) (s : State) :
    (postEvent k params s).flt = s.flt := by
  unfold postEvent
  repeat' (first | rfl | (simp; done) | split)
@[simp] theorem postEvent_epochs (k : ℕ) (params : List W) (s : State) :
    (postEvent k params s).epochs = s.epochs := by
  unfold postEvent
  repeat' (first | rfl | (simp; done) | split)
@[simp] theorem postEvent_power (k : ℕ) (params : List W) (s : State) :
    (postEvent k params s).power = s.power := by
  unfold postEvent
  repeat' (first | rfl | (simp; done) | split)
@[simp] theorem postEvent_sec (k : ℕ) (params : List W) (s : State) :
    (postEvent k params s).sec = s.sec := by
  unfold postEvent
  repeat' (first | rfl | (simp; done) | split)
@[simp] theorem postEvent_boot (k : ℕ) (params : List W) (s : State) :
    (postEvent k params s).boot = s.boot := by
  unfold postEvent
  repeat' (first | rfl | (simp; done) | split)
@[simp] theorem postEvent_deviceId (k : ℕ) (params : List W) (s : State) :
    (postEvent k params s).deviceId = s.deviceId := by
  unfold postEvent
  repeat' (first | rfl | (simp; done) | split)
@[simp] theorem postEvent_freeCtr (k : ℕ) (params : List W) (s : State) :
    (postEvent k params s).freeCtr = s.freeCtr := by
  unfold postEvent
  repeat' (first | rfl | (simp; done) | split)

/-! `domainChange` -/

@[simp] theorem domainChange_pending (s : State) :
    (domainChange s).pending = s.pending := by
  unfold domainChange
  repeat' (first | rfl | (simp; done) | split)
@[simp] theorem domainChange_time (s : State) :
    (domainChange s).time = s.time := by
  unfold domainChange
  repeat' (first | rfl | (simp; done) | split)
@[simp] theorem domainChange_mast (s : State) :
    (domainChange s).mast = s.mast := by
  unfold domainChange
  repeat' (first | rfl | (simp; done) | split)
@[simp] theorem domainChange_rig (s : State) :
    (domainChange s).rig = s.rig := by
  unfold domainChange
  repeat' (first | rfl | (simp; done) | split)
@[simp] theorem domainChange_port (s : State) :
    (domainChange s).port = s.port := by
  unfold domainChange
  repeat' (first | rfl | (simp; done) | split)
@[simp] theorem domainChange_pk (s : State) :
    (domainChange s).pk = s.pk := by
  unfold domainChange
  repeat' (first | rfl | (simp; done) | split)
@[simp] theorem domainChange_hk (s : State) :
    (domainChange s).hk = s.hk := by
  unfold domainChange
  repeat' (first | rfl | (simp; done) | split)
@[simp] theorem domainChange_sk (s : State) :
    (domainChange s).sk = s.sk := by
  unfold domainChange
  repeat' (first | rfl | (simp; done) | split)
@[simp] theorem domainChange_host (s : State) :
    (domainChange s).host = s.host := by
  unfold domainChange
  repeat' (first | rfl | (simp; done) | split)
@[simp] theorem domainChange_cmd (s : State) :
    (domainChange s).cmd = s.cmd := by
  unfold domainChange
  repeat' (first | rfl | (simp; done) | split)
@[simp] theorem domainChange_flt (s : State) :
    (domainChange s).flt = s.flt := by
  unfold domainChange
  repeat' (first | rfl | (simp; done) | split)
@[simp] theorem domainChange_epochs (s : State) :
    (domainChange s).epochs = s.epochs := by
  unfold domainChange
  repeat' (first | rfl | (simp; done) | split)
@[simp] theorem domainChange_power (s : State) :
    (domainChange s).power = s.power := by
  unfold domainChange
  repeat' (first | rfl | (simp; done) | split)
@[simp] theorem domainChange_sec (s : State) :
    (domainChange s).sec = s.sec := by
  unfold domainChange
  repeat' (first | rfl | (simp; done) | split)
@[simp] theorem domainChange_boot (s : State) :
    (domainChange s).boot = s.boot := by
  unfold domainChange
  repeat' (first | rfl | (simp; done) | split)
@[simp] theorem domainChange_deviceId (s : State) :
    (domainChange s).deviceId = s.deviceId := by
  unfold domainChange
  repeat' (first | rfl | (simp; done) | split)
@[simp] theorem domainChange_freeCtr (s : State) :
    (domainChange s).freeCtr = s.freeCtr := by
  unfold domainChange
  repeat' (first | rfl | (simp; done) | split)

/-! `beginExit` -/

@[simp] theorem beginExit_pending (d : ℕ) (s : State) :
    (beginExit d s).pending = s.pending := by
  unfold beginExit
  repeat' (first | rfl | (simp; done) | split)
@[simp] theorem beginExit_time (d : ℕ) (s : State) :
    (beginExit d s).time = s.time := by
  unfold beginExit
  repeat' (first | rfl | (simp; done) | split)
@[simp] theorem beginExit_mast (d : ℕ) (s : State) :
    (beginExit d s).mast = s.mast := by
  unfold beginExit
  repeat' (first | rfl | (simp; done) | split)
@[simp] theorem beginExit_rig (d : ℕ) (s : State) :
    (beginExit d s).rig = s.rig := by
  unfold beginExit
  repeat' (first | rfl | (simp; done) | split)
@[simp] theorem beginExit_port (d : ℕ) (s : State) :
    (beginExit d s).port = s.port := by
  unfold beginExit
  repeat' (first | rfl | (simp; done) | split)
@[simp] theorem beginExit_pk (d : ℕ) (s : State) :
    (beginExit d s).pk = s.pk := by
  unfold beginExit
  repeat' (first | rfl | (simp; done) | split)
@[simp] theorem beginExit_hk (d : ℕ) (s : State) :
    (beginExit d s).hk = s.hk := by
  unfold beginExit
  repeat' (first | rfl | (simp; done) | split)
@[simp] theorem beginExit_sk (d : ℕ) (s : State) :
    (beginExit d s).sk = s.sk := by
  unfold beginExit
  repeat' (first | rfl | (simp; done) | split)
@[simp] theorem beginExit_host (d : ℕ) (s : State) :
    (beginExit d s).host = s.host := by
  unfold beginExit
  repeat' (first | rfl | (simp; done) | split)
@[simp] theorem beginExit_cmd (d : ℕ) (s : State) :
    (beginExit d s).cmd = s.cmd := by
  unfold beginExit
  repeat' (first | rfl | (simp; done) | split)
@[simp] theorem beginExit_out (d : ℕ) (s : State) :
    (beginExit d s).out = s.out := by
  unfold beginExit
  repeat' (first | rfl | (simp; done) | split)
@[simp] theorem beginExit_flt (d : ℕ) (s : State) :
    (beginExit d s).flt = s.flt := by
  unfold beginExit
  repeat' (first | rfl | (simp; done) | split)
@[simp] theorem beginExit_epochs (d : ℕ) (s : State) :
    (beginExit d s).epochs = s.epochs := by
  unfold beginExit
  repeat' (first | rfl | (simp; done) | split)
@[simp] theorem beginExit_regs (d : ℕ) (s : State) :
    (beginExit d s).regs = s.regs := by
  unfold beginExit
  repeat' (first | rfl | (simp; done) | split)
@[simp] theorem beginExit_sec (d : ℕ) (s : State) :
    (beginExit d s).sec = s.sec := by
  unfold beginExit
  repeat' (first | rfl | (simp; done) | split)
@[simp] theorem beginExit_boot (d : ℕ) (s : State) :
    (beginExit d s).boot = s.boot := by
  unfold beginExit
  repeat' (first | rfl | (simp; done) | split)
@[simp] theorem beginExit_deviceId (d : ℕ) (s : State) :
    (beginExit d s).deviceId = s.deviceId := by
  unfold beginExit
  repeat' (first | rfl | (simp; done) | split)
@[simp] theorem beginExit_freeCtr (d : ℕ) (s : State) :
    (beginExit d s).freeCtr = s.freeCtr := by
  unfold beginExit
  repeat' (first | rfl | (simp; done) | split)

/-! `startExit` -/

@[simp] theorem startExit_pending (d : ℕ) (s : State) :
    (startExit d s).pending = s.pending := by
  simp only [startExit]
  exact (foldl_pending _ _ (fun s k => by split <;> simp) _).trans (by simp)
@[simp] theorem startExit_time (d : ℕ) (s : State) :
    (startExit d s).time = s.time := by
  simp only [startExit]
  exact (foldl_time _ _ (fun s k => by split <;> simp) _).trans (by simp)
@[simp] theorem startExit_mast (d : ℕ) (s : State) :
    (startExit d s).mast = s.mast := by
  simp only [startExit]
  exact (foldl_mast _ _ (fun s k => by split <;> simp) _).trans (by simp)
@[simp] theorem startExit_rig (d : ℕ) (s : State) :
    (startExit d s).rig = s.rig := by
  simp only [startExit]
  exact (foldl_rig _ _ (fun s k => by split <;> simp) _).trans (by simp)
@[simp] theorem startExit_port (d : ℕ) (s : State) :
    (startExit d s).port = s.port := by
  simp only [startExit]
  exact (foldl_port _ _ (fun s k => by split <;> simp) _).trans (by simp)
@[simp] theorem startExit_pk (d : ℕ) (s : State) :
    (startExit d s).pk = s.pk := by
  simp only [startExit]
  exact (foldl_pk _ _ (fun s k => by split <;> simp) _).trans (by simp)
@[simp] theorem startExit_hk (d : ℕ) (s : State) :
    (startExit d s).hk = s.hk := by
  simp only [startExit]
  exact (foldl_hk _ _ (fun s k => by split <;> simp) _).trans (by simp)
@[simp] theorem startExit_sk (d : ℕ) (s : State) :
    (startExit d s).sk = s.sk := by
  simp only [startExit]
  exact (foldl_sk _ _ (fun s k => by split <;> simp) _).trans (by simp)
@[simp] theorem startExit_host (d : ℕ) (s : State) :
    (startExit d s).host = s.host := by
  simp only [startExit]
  exact (foldl_host _ _ (fun s k => by split <;> simp) _).trans (by simp)
@[simp] theorem startExit_cmd (d : ℕ) (s : State) :
    (startExit d s).cmd = s.cmd := by
  simp only [startExit]
  exact (foldl_cmd _ _ (fun s k => by split <;> simp) _).trans (by simp)
@[simp] theorem startExit_out (d : ℕ) (s : State) :
    (startExit d s).out = s.out := by
  simp only [startExit]
  exact (foldl_out _ _ (fun s k => by split <;> simp) _).trans (by simp)
@[simp] theorem startExit_flt (d : ℕ) (s : State) :
    (startExit d s).flt = s.flt := by
  simp only [startExit]
  exact (foldl_flt _ _ (fun s k => by split <;> simp) _).trans (by simp)
@[simp] theorem startExit_epochs (d : ℕ) (s : State) :
    (startExit d s).epochs = s.epochs := by
  simp only [startExit]
  exact (foldl_epochs _ _ (fun s k => by split <;> simp) _).trans (by simp)
@[simp] theorem startExit_regs (d : ℕ) (s : State) :
    (startExit d s).regs = s.regs := by
  simp only [startExit]
  exact (foldl_regs _ _ (fun s k => by split <;> simp) _).trans (by simp)
@[simp] theorem startExit_sec (d : ℕ) (s : State) :
    (startExit d s).sec = s.sec := by
  simp only [startExit]
  exact (foldl_sec _ _ (fun s k => by split <;> simp) _).trans (by simp)
@[simp] theorem startExit_boot (d : ℕ) (s : State) :
    (startExit d s).boot = s.boot := by
  simp only [startExit]
  exact (foldl_boot _ _ (fun s k => by split <;> simp) _).trans (by simp)
@[simp] theorem startExit_deviceId (d : ℕ) (s : State) :
    (startExit d s).deviceId = s.deviceId := by
  simp only [startExit]
  exact (foldl_deviceId _ _ (fun s k => by split <;> simp) _).trans (by simp)
@[simp] theorem startExit_freeCtr (d : ℕ) (s : State) :
    (startExit d s).freeCtr = s.freeCtr := by
  simp only [startExit]
  exact (foldl_freeCtr _ _ (fun s k => by split <;> simp) _).trans (by simp)

/-! `wakeDomain` -/

@[simp] theorem wakeDomain_pending (d : ℕ) (s : State) :
    (wakeDomain d s).pending = s.pending := by
  unfold wakeDomain
  repeat' (first | rfl | (simp; done) | split)
@[simp] theorem wakeDomain_time (d : ℕ) (s : State) :
    (wakeDomain d s).time = s.time := by
  unfold wakeDomain
  repeat' (first | rfl | (simp; done) | split)
@[simp] theorem wakeDomain_mast (d : ℕ) (s : State) :
    (wakeDomain d s).mast = s.mast := by
  unfold wakeDomain
  repeat' (first | rfl | (simp; done) | split)
@[simp] theorem wakeDomain_rig (d : ℕ) (s : State) :
    (wakeDomain d s).rig = s.rig := by
  unfold wakeDomain
  repeat' (first | rfl | (simp; done) | split)
@[simp] theorem wakeDomain_port (d : ℕ) (s : State) :
    (wakeDomain d s).port = s.port := by
  unfold wakeDomain
  repeat' (first | rfl | (simp; done) | split)
@[simp] theorem wakeDomain_pk (d : ℕ) (s : State) :
    (wakeDomain d s).pk = s.pk := by
  unfold wakeDomain
  repeat' (first | rfl | (simp; done) | split)
@[simp] theorem wakeDomain_hk (d : ℕ) (s : State) :
    (wakeDomain d s).hk = s.hk := by
  unfold wakeDomain
  repeat' (first | rfl | (simp; done) | split)
@[simp] theorem wakeDomain_sk (d : ℕ) (s : State) :
    (wakeDomain d s).sk = s.sk := by
  unfold wakeDomain
  repeat' (first | rfl | (simp; done) | split)
@[simp] theorem wakeDomain_host (d : ℕ) (s : State) :
    (wakeDomain d s).host = s.host := by
  unfold wakeDomain
  repeat' (first | rfl | (simp; done) | split)
@[simp] theorem wakeDomain_cmd (d : ℕ) (s : State) :
    (wakeDomain d s).cmd = s.cmd := by
  unfold wakeDomain
  repeat' (first | rfl | (simp; done) | split)
@[simp] theorem wakeDomain_out (d : ℕ) (s : State) :
    (wakeDomain d s).out = s.out := by
  unfold wakeDomain
  repeat' (first | rfl | (simp; done) | split)
@[simp] theorem wakeDomain_flt (d : ℕ) (s : State) :
    (wakeDomain d s).flt = s.flt := by
  unfold wakeDomain
  repeat' (first | rfl | (simp; done) | split)
@[simp] theorem wakeDomain_epochs (d : ℕ) (s : State) :
    (wakeDomain d s).epochs = s.epochs := by
  unfold wakeDomain
  repeat' (first | rfl | (simp; done) | split)
@[simp] theorem wakeDomain_regs (d : ℕ) (s : State) :
    (wakeDomain d s).regs = s.regs := by
  unfold wakeDomain
  repeat' (first | rfl | (simp; done) | split)
@[simp] theorem wakeDomain_sec (d : ℕ) (s : State) :
    (wakeDomain d s).sec = s.sec := by
  unfold wakeDomain
  repeat' (first | rfl | (simp; done) | split)
@[simp] theorem wakeDomain_boot (d : ℕ) (s : State) :
    (wakeDomain d s).boot = s.boot := by
  unfold wakeDomain
  repeat' (first | rfl | (simp; done) | split)
@[simp] theorem wakeDomain_deviceId (d : ℕ) (s : State) :
    (wakeDomain d s).deviceId = s.deviceId := by
  unfold wakeDomain
  repeat' (first | rfl | (simp; done) | split)
@[simp] theorem wakeDomain_freeCtr (d : ℕ) (s : State) :
    (wakeDomain d s).freeCtr = s.freeCtr := by
  unfold wakeDomain
  repeat' (first | rfl | (simp; done) | split)

/-! `postRecord` -/

@[simp] theorem postRecord_pending (b : ℕ) (n : ℕ) (s : State) :
    (postRecord b n s).pending = s.pending := by
  unfold postRecord
  repeat' (first | rfl | (simp; done) | split)
@[simp] theorem postRecord_time (b : ℕ) (n : ℕ) (s : State) :
    (postRecord b n s).time = s.time := by
  unfold postRecord
  repeat' (first | rfl | (simp; done) | split)
@[simp] theorem postRecord_mast (b : ℕ) (n : ℕ) (s : State) :
    (postRecord b n s).mast = s.mast := by
  unfold postRecord
  repeat' (first | rfl | (simp; done) | split)
@[simp] theorem postRecord_rig (b : ℕ) (n : ℕ) (s : State) :
    (postRecord b n s).rig = s.rig := by
  unfold postRecord
  repeat' (first | rfl | (simp; done) | split)
@[simp] theorem postRecord_port (b : ℕ) (n : ℕ) (s : State) :
    (postRecord b n s).port = s.port := by
  unfold postRecord
  repeat' (first | rfl | (simp; done) | split)
@[simp] theorem postRecord_pk (b : ℕ) (n : ℕ) (s : State) :
    (postRecord b n s).pk = s.pk := by
  unfold postRecord
  repeat' (first | rfl | (simp; done) | split)
@[simp] theorem postRecord_hk (b : ℕ) (n : ℕ) (s : State) :
    (postRecord b n s).hk = s.hk := by
  unfold postRecord
  repeat' (first | rfl | (simp; done) | split)
@[simp] theorem postRecord_sk (b : ℕ) (n : ℕ) (s : State) :
    (postRecord b n s).sk = s.sk := by
  unfold postRecord
  repeat' (first | rfl | (simp; done) | split)
@[simp] theorem postRecord_flt (b : ℕ) (n : ℕ) (s : State) :
    (postRecord b n s).flt = s.flt := by
  unfold postRecord
  repeat' (first | rfl | (simp; done) | split)
@[simp] theorem postRecord_epochs (b : ℕ) (n : ℕ) (s : State) :
    (postRecord b n s).epochs = s.epochs := by
  unfold postRecord
  repeat' (first | rfl | (simp; done) | split)
@[simp] theorem postRecord_power (b : ℕ) (n : ℕ) (s : State) :
    (postRecord b n s).power = s.power := by
  unfold postRecord
  repeat' (first | rfl | (simp; done) | split)
@[simp] theorem postRecord_sec (b : ℕ) (n : ℕ) (s : State) :
    (postRecord b n s).sec = s.sec := by
  unfold postRecord
  repeat' (first | rfl | (simp; done) | split)
@[simp] theorem postRecord_boot (b : ℕ) (n : ℕ) (s : State) :
    (postRecord b n s).boot = s.boot := by
  unfold postRecord
  repeat' (first | rfl | (simp; done) | split)
@[simp] theorem postRecord_deviceId (b : ℕ) (n : ℕ) (s : State) :
    (postRecord b n s).deviceId = s.deviceId := by
  unfold postRecord
  repeat' (first | rfl | (simp; done) | split)
@[simp] theorem postRecord_freeCtr (b : ℕ) (n : ℕ) (s : State) :
    (postRecord b n s).freeCtr = s.freeCtr := by
  unfold postRecord
  repeat' (first | rfl | (simp; done) | split)

/-! `reportFault` -/

@[simp] theorem reportFault_pending (f : FaultInfo) (s : State) :
    (reportFault f s).pending = s.pending := by
  unfold reportFault
  repeat' (first | rfl | (simp; done) | split)
@[simp] theorem reportFault_time (f : FaultInfo) (s : State) :
    (reportFault f s).time = s.time := by
  unfold reportFault
  repeat' (first | rfl | (simp; done) | split)
@[simp] theorem reportFault_mast (f : FaultInfo) (s : State) :
    (reportFault f s).mast = s.mast := by
  unfold reportFault
  repeat' (first | rfl | (simp; done) | split)
@[simp] theorem reportFault_rig (f : FaultInfo) (s : State) :
    (reportFault f s).rig = s.rig := by
  unfold reportFault
  repeat' (first | rfl | (simp; done) | split)
@[simp] theorem reportFault_port (f : FaultInfo) (s : State) :
    (reportFault f s).port = s.port := by
  unfold reportFault
  repeat' (first | rfl | (simp; done) | split)
@[simp] theorem reportFault_pk (f : FaultInfo) (s : State) :
    (reportFault f s).pk = s.pk := by
  unfold reportFault
  repeat' (first | rfl | (simp; done) | split)
@[simp] theorem reportFault_hk (f : FaultInfo) (s : State) :
    (reportFault f s).hk = s.hk := by
  unfold reportFault
  repeat' (first | rfl | (simp; done) | split)
@[simp] theorem reportFault_sk (f : FaultInfo) (s : State) :
    (reportFault f s).sk = s.sk := by
  unfold reportFault
  repeat' (first | rfl | (simp; done) | split)
@[simp] theorem reportFault_epochs (f : FaultInfo) (s : State) :
    (reportFault f s).epochs = s.epochs := by
  unfold reportFault
  repeat' (first | rfl | (simp; done) | split)
@[simp] theorem reportFault_sec (f : FaultInfo) (s : State) :
    (reportFault f s).sec = s.sec := by
  unfold reportFault
  repeat' (first | rfl | (simp; done) | split)
@[simp] theorem reportFault_boot (f : FaultInfo) (s : State) :
    (reportFault f s).boot = s.boot := by
  unfold reportFault
  repeat' (first | rfl | (simp; done) | split)
@[simp] theorem reportFault_deviceId (f : FaultInfo) (s : State) :
    (reportFault f s).deviceId = s.deviceId := by
  unfold reportFault
  repeat' (first | rfl | (simp; done) | split)
@[simp] theorem reportFault_freeCtr (f : FaultInfo) (s : State) :
    (reportFault f s).freeCtr = s.freeCtr := by
  unfold reportFault
  repeat' (first | rfl | (simp; done) | split)

/-! `postHeld` -/

@[simp] theorem postHeld_pending (s : State) :
    (postHeld s).pending = s.pending := by
  unfold postHeld
  repeat' (first | rfl | (simp; done) | split)
@[simp] theorem postHeld_time (s : State) :
    (postHeld s).time = s.time := by
  unfold postHeld
  repeat' (first | rfl | (simp; done) | split)
@[simp] theorem postHeld_mast (s : State) :
    (postHeld s).mast = s.mast := by
  unfold postHeld
  repeat' (first | rfl | (simp; done) | split)
@[simp] theorem postHeld_rig (s : State) :
    (postHeld s).rig = s.rig := by
  unfold postHeld
  repeat' (first | rfl | (simp; done) | split)
@[simp] theorem postHeld_port (s : State) :
    (postHeld s).port = s.port := by
  unfold postHeld
  repeat' (first | rfl | (simp; done) | split)
@[simp] theorem postHeld_pk (s : State) :
    (postHeld s).pk = s.pk := by
  unfold postHeld
  repeat' (first | rfl | (simp; done) | split)
@[simp] theorem postHeld_hk (s : State) :
    (postHeld s).hk = s.hk := by
  unfold postHeld
  repeat' (first | rfl | (simp; done) | split)
@[simp] theorem postHeld_sk (s : State) :
    (postHeld s).sk = s.sk := by
  unfold postHeld
  repeat' (first | rfl | (simp; done) | split)
@[simp] theorem postHeld_epochs (s : State) :
    (postHeld s).epochs = s.epochs := by
  unfold postHeld
  repeat' (first | rfl | (simp; done) | split)
@[simp] theorem postHeld_power (s : State) :
    (postHeld s).power = s.power := by
  unfold postHeld
  repeat' (first | rfl | (simp; done) | split)
@[simp] theorem postHeld_sec (s : State) :
    (postHeld s).sec = s.sec := by
  unfold postHeld
  repeat' (first | rfl | (simp; done) | split)
@[simp] theorem postHeld_boot (s : State) :
    (postHeld s).boot = s.boot := by
  unfold postHeld
  repeat' (first | rfl | (simp; done) | split)
@[simp] theorem postHeld_deviceId (s : State) :
    (postHeld s).deviceId = s.deviceId := by
  unfold postHeld
  repeat' (first | rfl | (simp; done) | split)
@[simp] theorem postHeld_freeCtr (s : State) :
    (postHeld s).freeCtr = s.freeCtr := by
  unfold postHeld
  repeat' (first | rfl | (simp; done) | split)

/-! `memClear` -/

@[simp] theorem memClear_pending (b : ℕ) (n : ℕ) (mem : ℕ) (addr : ℕ) (s : State) :
    (memClear b n mem addr s).pending = s.pending := by
  unfold memClear
  repeat' (first | rfl | (simp; done) | split)
@[simp] theorem memClear_time (b : ℕ) (n : ℕ) (mem : ℕ) (addr : ℕ) (s : State) :
    (memClear b n mem addr s).time = s.time := by
  unfold memClear
  repeat' (first | rfl | (simp; done) | split)
@[simp] theorem memClear_mast (b : ℕ) (n : ℕ) (mem : ℕ) (addr : ℕ) (s : State) :
    (memClear b n mem addr s).mast = s.mast := by
  unfold memClear
  repeat' (first | rfl | (simp; done) | split)
@[simp] theorem memClear_rig (b : ℕ) (n : ℕ) (mem : ℕ) (addr : ℕ) (s : State) :
    (memClear b n mem addr s).rig = s.rig := by
  unfold memClear
  repeat' (first | rfl | (simp; done) | split)
@[simp] theorem memClear_port (b : ℕ) (n : ℕ) (mem : ℕ) (addr : ℕ) (s : State) :
    (memClear b n mem addr s).port = s.port := by
  unfold memClear
  repeat' (first | rfl | (simp; done) | split)
@[simp] theorem memClear_pk (b : ℕ) (n : ℕ) (mem : ℕ) (addr : ℕ) (s : State) :
    (memClear b n mem addr s).pk = s.pk := by
  unfold memClear
  repeat' (first | rfl | (simp; done) | split)
@[simp] theorem memClear_hk (b : ℕ) (n : ℕ) (mem : ℕ) (addr : ℕ) (s : State) :
    (memClear b n mem addr s).hk = s.hk := by
  unfold memClear
  repeat' (first | rfl | (simp; done) | split)
@[simp] theorem memClear_sk (b : ℕ) (n : ℕ) (mem : ℕ) (addr : ℕ) (s : State) :
    (memClear b n mem addr s).sk = s.sk := by
  unfold memClear
  repeat' (first | rfl | (simp; done) | split)
@[simp] theorem memClear_host (b : ℕ) (n : ℕ) (mem : ℕ) (addr : ℕ) (s : State) :
    (memClear b n mem addr s).host = s.host := by
  unfold memClear
  repeat' (first | rfl | (simp; done) | split)
@[simp] theorem memClear_cmd (b : ℕ) (n : ℕ) (mem : ℕ) (addr : ℕ) (s : State) :
    (memClear b n mem addr s).cmd = s.cmd := by
  unfold memClear
  repeat' (first | rfl | (simp; done) | split)
@[simp] theorem memClear_out (b : ℕ) (n : ℕ) (mem : ℕ) (addr : ℕ) (s : State) :
    (memClear b n mem addr s).out = s.out := by
  unfold memClear
  repeat' (first | rfl | (simp; done) | split)
@[simp] theorem memClear_epochs (b : ℕ) (n : ℕ) (mem : ℕ) (addr : ℕ) (s : State) :
    (memClear b n mem addr s).epochs = s.epochs := by
  unfold memClear
  repeat' (first | rfl | (simp; done) | split)
@[simp] theorem memClear_regs (b : ℕ) (n : ℕ) (mem : ℕ) (addr : ℕ) (s : State) :
    (memClear b n mem addr s).regs = s.regs := by
  unfold memClear
  repeat' (first | rfl | (simp; done) | split)
@[simp] theorem memClear_power (b : ℕ) (n : ℕ) (mem : ℕ) (addr : ℕ) (s : State) :
    (memClear b n mem addr s).power = s.power := by
  unfold memClear
  repeat' (first | rfl | (simp; done) | split)
@[simp] theorem memClear_sec (b : ℕ) (n : ℕ) (mem : ℕ) (addr : ℕ) (s : State) :
    (memClear b n mem addr s).sec = s.sec := by
  unfold memClear
  repeat' (first | rfl | (simp; done) | split)
@[simp] theorem memClear_boot (b : ℕ) (n : ℕ) (mem : ℕ) (addr : ℕ) (s : State) :
    (memClear b n mem addr s).boot = s.boot := by
  unfold memClear
  repeat' (first | rfl | (simp; done) | split)
@[simp] theorem memClear_deviceId (b : ℕ) (n : ℕ) (mem : ℕ) (addr : ℕ) (s : State) :
    (memClear b n mem addr s).deviceId = s.deviceId := by
  unfold memClear
  repeat' (first | rfl | (simp; done) | split)
@[simp] theorem memClear_freeCtr (b : ℕ) (n : ℕ) (mem : ℕ) (addr : ℕ) (s : State) :
    (memClear b n mem addr s).freeCtr = s.freeCtr := by
  unfold memClear
  repeat' (first | rfl | (simp; done) | split)

/-! `memWrite` -/

@[simp] theorem memWrite_pending (b : ℕ) (n : ℕ) (mem : ℕ) (addr : ℕ) (s : State) :
    (memWrite b n mem addr s).pending = s.pending := by
  unfold memWrite
  repeat' (first | rfl | (simp; done) | split)
@[simp] theorem memWrite_time (b : ℕ) (n : ℕ) (mem : ℕ) (addr : ℕ) (s : State) :
    (memWrite b n mem addr s).time = s.time := by
  unfold memWrite
  repeat' (first | rfl | (simp; done) | split)
@[simp] theorem memWrite_mast (b : ℕ) (n : ℕ) (mem : ℕ) (addr : ℕ) (s : State) :
    (memWrite b n mem addr s).mast = s.mast := by
  unfold memWrite
  repeat' (first | rfl | (simp; done) | split)
@[simp] theorem memWrite_rig (b : ℕ) (n : ℕ) (mem : ℕ) (addr : ℕ) (s : State) :
    (memWrite b n mem addr s).rig = s.rig := by
  unfold memWrite
  repeat' (first | rfl | (simp; done) | split)
@[simp] theorem memWrite_port (b : ℕ) (n : ℕ) (mem : ℕ) (addr : ℕ) (s : State) :
    (memWrite b n mem addr s).port = s.port := by
  unfold memWrite
  repeat' (first | rfl | (simp; done) | split)
@[simp] theorem memWrite_pk (b : ℕ) (n : ℕ) (mem : ℕ) (addr : ℕ) (s : State) :
    (memWrite b n mem addr s).pk = s.pk := by
  unfold memWrite
  repeat' (first | rfl | (simp; done) | split)
@[simp] theorem memWrite_hk (b : ℕ) (n : ℕ) (mem : ℕ) (addr : ℕ) (s : State) :
    (memWrite b n mem addr s).hk = s.hk := by
  unfold memWrite
  repeat' (first | rfl | (simp; done) | split)
@[simp] theorem memWrite_sk (b : ℕ) (n : ℕ) (mem : ℕ) (addr : ℕ) (s : State) :
    (memWrite b n mem addr s).sk = s.sk := by
  unfold memWrite
  repeat' (first | rfl | (simp; done) | split)
@[simp] theorem memWrite_host (b : ℕ) (n : ℕ) (mem : ℕ) (addr : ℕ) (s : State) :
    (memWrite b n mem addr s).host = s.host := by
  unfold memWrite
  repeat' (first | rfl | (simp; done) | split)
@[simp] theorem memWrite_cmd (b : ℕ) (n : ℕ) (mem : ℕ) (addr : ℕ) (s : State) :
    (memWrite b n mem addr s).cmd = s.cmd := by
  unfold memWrite
  repeat' (first | rfl | (simp; done) | split)
@[simp] theorem memWrite_out (b : ℕ) (n : ℕ) (mem : ℕ) (addr : ℕ) (s : State) :
    (memWrite b n mem addr s).out = s.out := by
  unfold memWrite
  repeat' (first | rfl | (simp; done) | split)
@[simp] theorem memWrite_epochs (b : ℕ) (n : ℕ) (mem : ℕ) (addr : ℕ) (s : State) :
    (memWrite b n mem addr s).epochs = s.epochs := by
  unfold memWrite
  repeat' (first | rfl | (simp; done) | split)
@[simp] theorem memWrite_regs (b : ℕ) (n : ℕ) (mem : ℕ) (addr : ℕ) (s : State) :
    (memWrite b n mem addr s).regs = s.regs := by
  unfold memWrite
  repeat' (first | rfl | (simp; done) | split)
@[simp] theorem memWrite_power (b : ℕ) (n : ℕ) (mem : ℕ) (addr : ℕ) (s : State) :
    (memWrite b n mem addr s).power = s.power := by
  unfold memWrite
  repeat' (first | rfl | (simp; done) | split)
@[simp] theorem memWrite_sec (b : ℕ) (n : ℕ) (mem : ℕ) (addr : ℕ) (s : State) :
    (memWrite b n mem addr s).sec = s.sec := by
  unfold memWrite
  repeat' (first | rfl | (simp; done) | split)
@[simp] theorem memWrite_boot (b : ℕ) (n : ℕ) (mem : ℕ) (addr : ℕ) (s : State) :
    (memWrite b n mem addr s).boot = s.boot := by
  unfold memWrite
  repeat' (first | rfl | (simp; done) | split)
@[simp] theorem memWrite_deviceId (b : ℕ) (n : ℕ) (mem : ℕ) (addr : ℕ) (s : State) :
    (memWrite b n mem addr s).deviceId = s.deviceId := by
  unfold memWrite
  repeat' (first | rfl | (simp; done) | split)
@[simp] theorem memWrite_freeCtr (b : ℕ) (n : ℕ) (mem : ℕ) (addr : ℕ) (s : State) :
    (memWrite b n mem addr s).freeCtr = s.freeCtr := by
  unfold memWrite
  repeat' (first | rfl | (simp; done) | split)

/-! `unforce` -/

@[simp] theorem unforce_pending (b : ℕ) (n : ℕ) (cls : ℕ) (s : State) :
    (unforce b n cls s).pending = s.pending := by
  unfold unforce
  repeat' (first | rfl | (simp; done) | split)
@[simp] theorem unforce_time (b : ℕ) (n : ℕ) (cls : ℕ) (s : State) :
    (unforce b n cls s).time = s.time := by
  unfold unforce
  repeat' (first | rfl | (simp; done) | split)
@[simp] theorem unforce_mast (b : ℕ) (n : ℕ) (cls : ℕ) (s : State) :
    (unforce b n cls s).mast = s.mast := by
  unfold unforce
  repeat' (first | rfl | (simp; done) | split)
@[simp] theorem unforce_rig (b : ℕ) (n : ℕ) (cls : ℕ) (s : State) :
    (unforce b n cls s).rig = s.rig := by
  unfold unforce
  repeat' (first | rfl | (simp; done) | split)
@[simp] theorem unforce_port (b : ℕ) (n : ℕ) (cls : ℕ) (s : State) :
    (unforce b n cls s).port = s.port := by
  unfold unforce
  repeat' (first | rfl | (simp; done) | split)
@[simp] theorem unforce_pk (b : ℕ) (n : ℕ) (cls : ℕ) (s : State) :
    (unforce b n cls s).pk = s.pk := by
  unfold unforce
  repeat' (first | rfl | (simp; done) | split)
@[simp] theorem unforce_hk (b : ℕ) (n : ℕ) (cls : ℕ) (s : State) :
    (unforce b n cls s).hk = s.hk := by
  unfold unforce
  repeat' (first | rfl | (simp; done) | split)
@[simp] theorem unforce_sk (b : ℕ) (n : ℕ) (cls : ℕ) (s : State) :
    (unforce b n cls s).sk = s.sk := by
  unfold unforce
  repeat' (first | rfl | (simp; done) | split)
@[simp] theorem unforce_host (b : ℕ) (n : ℕ) (cls : ℕ) (s : State) :
    (unforce b n cls s).host = s.host := by
  unfold unforce
  repeat' (first | rfl | (simp; done) | split)
@[simp] theorem unforce_cmd (b : ℕ) (n : ℕ) (cls : ℕ) (s : State) :
    (unforce b n cls s).cmd = s.cmd := by
  unfold unforce
  repeat' (first | rfl | (simp; done) | split)
@[simp] theorem unforce_out (b : ℕ) (n : ℕ) (cls : ℕ) (s : State) :
    (unforce b n cls s).out = s.out := by
  unfold unforce
  repeat' (first | rfl | (simp; done) | split)
@[simp] theorem unforce_epochs (b : ℕ) (n : ℕ) (cls : ℕ) (s : State) :
    (unforce b n cls s).epochs = s.epochs := by
  unfold unforce
  repeat' (first | rfl | (simp; done) | split)
@[simp] theorem unforce_regs (b : ℕ) (n : ℕ) (cls : ℕ) (s : State) :
    (unforce b n cls s).regs = s.regs := by
  unfold unforce
  repeat' (first | rfl | (simp; done) | split)
@[simp] theorem unforce_power (b : ℕ) (n : ℕ) (cls : ℕ) (s : State) :
    (unforce b n cls s).power = s.power := by
  unfold unforce
  repeat' (first | rfl | (simp; done) | split)
@[simp] theorem unforce_sec (b : ℕ) (n : ℕ) (cls : ℕ) (s : State) :
    (unforce b n cls s).sec = s.sec := by
  unfold unforce
  repeat' (first | rfl | (simp; done) | split)
@[simp] theorem unforce_boot (b : ℕ) (n : ℕ) (cls : ℕ) (s : State) :
    (unforce b n cls s).boot = s.boot := by
  unfold unforce
  repeat' (first | rfl | (simp; done) | split)
@[simp] theorem unforce_deviceId (b : ℕ) (n : ℕ) (cls : ℕ) (s : State) :
    (unforce b n cls s).deviceId = s.deviceId := by
  unfold unforce
  repeat' (first | rfl | (simp; done) | split)
@[simp] theorem unforce_freeCtr (b : ℕ) (n : ℕ) (cls : ℕ) (s : State) :
    (unforce b n cls s).freeCtr = s.freeCtr := by
  unfold unforce
  repeat' (first | rfl | (simp; done) | split)

/-! `memFault` -/

@[simp] theorem memFault_pending (b : ℕ) (n : ℕ) (mem : ℕ) (addr : ℕ) (req : ℕ) (cls : ℕ) (out : EccOutcome) (syn : ℕ) (s : State) :
    (memFault b n mem addr req cls out syn s).pending = s.pending := by
  unfold memFault
  repeat' (first | rfl | (simp; done) | split)
@[simp] theorem memFault_time (b : ℕ) (n : ℕ) (mem : ℕ) (addr : ℕ) (req : ℕ) (cls : ℕ) (out : EccOutcome) (syn : ℕ) (s : State) :
    (memFault b n mem addr req cls out syn s).time = s.time := by
  unfold memFault
  repeat' (first | rfl | (simp; done) | split)
@[simp] theorem memFault_mast (b : ℕ) (n : ℕ) (mem : ℕ) (addr : ℕ) (req : ℕ) (cls : ℕ) (out : EccOutcome) (syn : ℕ) (s : State) :
    (memFault b n mem addr req cls out syn s).mast = s.mast := by
  unfold memFault
  repeat' (first | rfl | (simp; done) | split)
@[simp] theorem memFault_rig (b : ℕ) (n : ℕ) (mem : ℕ) (addr : ℕ) (req : ℕ) (cls : ℕ) (out : EccOutcome) (syn : ℕ) (s : State) :
    (memFault b n mem addr req cls out syn s).rig = s.rig := by
  unfold memFault
  repeat' (first | rfl | (simp; done) | split)
@[simp] theorem memFault_port (b : ℕ) (n : ℕ) (mem : ℕ) (addr : ℕ) (req : ℕ) (cls : ℕ) (out : EccOutcome) (syn : ℕ) (s : State) :
    (memFault b n mem addr req cls out syn s).port = s.port := by
  unfold memFault
  repeat' (first | rfl | (simp; done) | split)
@[simp] theorem memFault_pk (b : ℕ) (n : ℕ) (mem : ℕ) (addr : ℕ) (req : ℕ) (cls : ℕ) (out : EccOutcome) (syn : ℕ) (s : State) :
    (memFault b n mem addr req cls out syn s).pk = s.pk := by
  unfold memFault
  repeat' (first | rfl | (simp; done) | split)
@[simp] theorem memFault_hk (b : ℕ) (n : ℕ) (mem : ℕ) (addr : ℕ) (req : ℕ) (cls : ℕ) (out : EccOutcome) (syn : ℕ) (s : State) :
    (memFault b n mem addr req cls out syn s).hk = s.hk := by
  unfold memFault
  repeat' (first | rfl | (simp; done) | split)
@[simp] theorem memFault_sk (b : ℕ) (n : ℕ) (mem : ℕ) (addr : ℕ) (req : ℕ) (cls : ℕ) (out : EccOutcome) (syn : ℕ) (s : State) :
    (memFault b n mem addr req cls out syn s).sk = s.sk := by
  unfold memFault
  repeat' (first | rfl | (simp; done) | split)
@[simp] theorem memFault_epochs (b : ℕ) (n : ℕ) (mem : ℕ) (addr : ℕ) (req : ℕ) (cls : ℕ) (out : EccOutcome) (syn : ℕ) (s : State) :
    (memFault b n mem addr req cls out syn s).epochs = s.epochs := by
  unfold memFault
  repeat' (first | rfl | (simp; done) | split)
@[simp] theorem memFault_sec (b : ℕ) (n : ℕ) (mem : ℕ) (addr : ℕ) (req : ℕ) (cls : ℕ) (out : EccOutcome) (syn : ℕ) (s : State) :
    (memFault b n mem addr req cls out syn s).sec = s.sec := by
  unfold memFault
  repeat' (first | rfl | (simp; done) | split)
@[simp] theorem memFault_boot (b : ℕ) (n : ℕ) (mem : ℕ) (addr : ℕ) (req : ℕ) (cls : ℕ) (out : EccOutcome) (syn : ℕ) (s : State) :
    (memFault b n mem addr req cls out syn s).boot = s.boot := by
  unfold memFault
  repeat' (first | rfl | (simp; done) | split)
@[simp] theorem memFault_deviceId (b : ℕ) (n : ℕ) (mem : ℕ) (addr : ℕ) (req : ℕ) (cls : ℕ) (out : EccOutcome) (syn : ℕ) (s : State) :
    (memFault b n mem addr req cls out syn s).deviceId = s.deviceId := by
  unfold memFault
  repeat' (first | rfl | (simp; done) | split)
@[simp] theorem memFault_freeCtr (b : ℕ) (n : ℕ) (mem : ℕ) (addr : ℕ) (req : ℕ) (cls : ℕ) (out : EccOutcome) (syn : ℕ) (s : State) :
    (memFault b n mem addr req cls out syn s).freeCtr = s.freeCtr := by
  unfold memFault
  repeat' (first | rfl | (simp; done) | split)

/-! `eccReport` -/

@[simp] theorem eccReport_pending (ce : ℕ) (ue : ℕ) (b : ℕ) (n : ℕ) (mem : ℕ) (addr : ℕ) (req : ℕ) (out : EccOutcome) (syn : ℕ) (s : State) :
    (eccReport ce ue b n mem addr req out syn s).pending = s.pending := by
  unfold eccReport
  repeat' (first | rfl | (simp; done) | split)
@[simp] theorem eccReport_time (ce : ℕ) (ue : ℕ) (b : ℕ) (n : ℕ) (mem : ℕ) (addr : ℕ) (req : ℕ) (out : EccOutcome) (syn : ℕ) (s : State) :
    (eccReport ce ue b n mem addr req out syn s).time = s.time := by
  unfold eccReport
  repeat' (first | rfl | (simp; done) | split)
@[simp] theorem eccReport_mast (ce : ℕ) (ue : ℕ) (b : ℕ) (n : ℕ) (mem : ℕ) (addr : ℕ) (req : ℕ) (out : EccOutcome) (syn : ℕ) (s : State) :
    (eccReport ce ue b n mem addr req out syn s).mast = s.mast := by
  unfold eccReport
  repeat' (first | rfl | (simp; done) | split)
@[simp] theorem eccReport_rig (ce : ℕ) (ue : ℕ) (b : ℕ) (n : ℕ) (mem : ℕ) (addr : ℕ) (req : ℕ) (out : EccOutcome) (syn : ℕ) (s : State) :
    (eccReport ce ue b n mem addr req out syn s).rig = s.rig := by
  unfold eccReport
  repeat' (first | rfl | (simp; done) | split)
@[simp] theorem eccReport_port (ce : ℕ) (ue : ℕ) (b : ℕ) (n : ℕ) (mem : ℕ) (addr : ℕ) (req : ℕ) (out : EccOutcome) (syn : ℕ) (s : State) :
    (eccReport ce ue b n mem addr req out syn s).port = s.port := by
  unfold eccReport
  repeat' (first | rfl | (simp; done) | split)
@[simp] theorem eccReport_pk (ce : ℕ) (ue : ℕ) (b : ℕ) (n : ℕ) (mem : ℕ) (addr : ℕ) (req : ℕ) (out : EccOutcome) (syn : ℕ) (s : State) :
    (eccReport ce ue b n mem addr req out syn s).pk = s.pk := by
  unfold eccReport
  repeat' (first | rfl | (simp; done) | split)
@[simp] theorem eccReport_hk (ce : ℕ) (ue : ℕ) (b : ℕ) (n : ℕ) (mem : ℕ) (addr : ℕ) (req : ℕ) (out : EccOutcome) (syn : ℕ) (s : State) :
    (eccReport ce ue b n mem addr req out syn s).hk = s.hk := by
  unfold eccReport
  repeat' (first | rfl | (simp; done) | split)
@[simp] theorem eccReport_sk (ce : ℕ) (ue : ℕ) (b : ℕ) (n : ℕ) (mem : ℕ) (addr : ℕ) (req : ℕ) (out : EccOutcome) (syn : ℕ) (s : State) :
    (eccReport ce ue b n mem addr req out syn s).sk = s.sk := by
  unfold eccReport
  repeat' (first | rfl | (simp; done) | split)
@[simp] theorem eccReport_epochs (ce : ℕ) (ue : ℕ) (b : ℕ) (n : ℕ) (mem : ℕ) (addr : ℕ) (req : ℕ) (out : EccOutcome) (syn : ℕ) (s : State) :
    (eccReport ce ue b n mem addr req out syn s).epochs = s.epochs := by
  unfold eccReport
  repeat' (first | rfl | (simp; done) | split)
@[simp] theorem eccReport_sec (ce : ℕ) (ue : ℕ) (b : ℕ) (n : ℕ) (mem : ℕ) (addr : ℕ) (req : ℕ) (out : EccOutcome) (syn : ℕ) (s : State) :
    (eccReport ce ue b n mem addr req out syn s).sec = s.sec := by
  unfold eccReport
  repeat' (first | rfl | (simp; done) | split)
@[simp] theorem eccReport_boot (ce : ℕ) (ue : ℕ) (b : ℕ) (n : ℕ) (mem : ℕ) (addr : ℕ) (req : ℕ) (out : EccOutcome) (syn : ℕ) (s : State) :
    (eccReport ce ue b n mem addr req out syn s).boot = s.boot := by
  unfold eccReport
  repeat' (first | rfl | (simp; done) | split)
@[simp] theorem eccReport_deviceId (ce : ℕ) (ue : ℕ) (b : ℕ) (n : ℕ) (mem : ℕ) (addr : ℕ) (req : ℕ) (out : EccOutcome) (syn : ℕ) (s : State) :
    (eccReport ce ue b n mem addr req out syn s).deviceId = s.deviceId := by
  unfold eccReport
  repeat' (first | rfl | (simp; done) | split)
@[simp] theorem eccReport_freeCtr (ce : ℕ) (ue : ℕ) (b : ℕ) (n : ℕ) (mem : ℕ) (addr : ℕ) (req : ℕ) (out : EccOutcome) (syn : ℕ) (s : State) :
    (eccReport ce ue b n mem addr req out syn s).freeCtr = s.freeCtr := by
  unfold eccReport
  repeat' (first | rfl | (simp; done) | split)

/-! `forcedReport` -/

@[simp] theorem forcedReport_pending (cls : ℕ) (sev : ℕ) (b : ℕ) (n : ℕ) (mem : ℕ) (addr : ℕ) (req : ℕ) (s : State) :
    (forcedReport cls sev b n mem addr req s).pending = s.pending := by
  unfold forcedReport
  repeat' (first | rfl | (simp; done) | split)
@[simp] theorem forcedReport_time (cls : ℕ) (sev : ℕ) (b : ℕ) (n : ℕ) (mem : ℕ) (addr : ℕ) (req : ℕ) (s : State) :
    (forcedReport cls sev b n mem addr req s).time = s.time := by
  unfold forcedReport
  repeat' (first | rfl | (simp; done) | split)
@[simp] theorem forcedReport_mast (cls : ℕ) (sev : ℕ) (b : ℕ) (n : ℕ) (mem : ℕ) (addr : ℕ) (req : ℕ) (s : State) :
    (forcedReport cls sev b n mem addr req s).mast = s.mast := by
  unfold forcedReport
  repeat' (first | rfl | (simp; done) | split)
@[simp] theorem forcedReport_rig (cls : ℕ) (sev : ℕ) (b : ℕ) (n : ℕ) (mem : ℕ) (addr : ℕ) (req : ℕ) (s : State) :
    (forcedReport cls sev b n mem addr req s).rig = s.rig := by
  unfold forcedReport
  repeat' (first | rfl | (simp; done) | split)
@[simp] theorem forcedReport_port (cls : ℕ) (sev : ℕ) (b : ℕ) (n : ℕ) (mem : ℕ) (addr : ℕ) (req : ℕ) (s : State) :
    (forcedReport cls sev b n mem addr req s).port = s.port := by
  unfold forcedReport
  repeat' (first | rfl | (simp; done) | split)
@[simp] theorem forcedReport_pk (cls : ℕ) (sev : ℕ) (b : ℕ) (n : ℕ) (mem : ℕ) (addr : ℕ) (req : ℕ) (s : State) :
    (forcedReport cls sev b n mem addr req s).pk = s.pk := by
  unfold forcedReport
  repeat' (first | rfl | (simp; done) | split)
@[simp] theorem forcedReport_hk (cls : ℕ) (sev : ℕ) (b : ℕ) (n : ℕ) (mem : ℕ) (addr : ℕ) (req : ℕ) (s : State) :
    (forcedReport cls sev b n mem addr req s).hk = s.hk := by
  unfold forcedReport
  repeat' (first | rfl | (simp; done) | split)
@[simp] theorem forcedReport_sk (cls : ℕ) (sev : ℕ) (b : ℕ) (n : ℕ) (mem : ℕ) (addr : ℕ) (req : ℕ) (s : State) :
    (forcedReport cls sev b n mem addr req s).sk = s.sk := by
  unfold forcedReport
  repeat' (first | rfl | (simp; done) | split)
@[simp] theorem forcedReport_epochs (cls : ℕ) (sev : ℕ) (b : ℕ) (n : ℕ) (mem : ℕ) (addr : ℕ) (req : ℕ) (s : State) :
    (forcedReport cls sev b n mem addr req s).epochs = s.epochs := by
  unfold forcedReport
  repeat' (first | rfl | (simp; done) | split)
@[simp] theorem forcedReport_sec (cls : ℕ) (sev : ℕ) (b : ℕ) (n : ℕ) (mem : ℕ) (addr : ℕ) (req : ℕ) (s : State) :
    (forcedReport cls sev b n mem addr req s).sec = s.sec := by
  unfold forcedReport
  repeat' (first | rfl | (simp; done) | split)
@[simp] theorem forcedReport_boot (cls : ℕ) (sev : ℕ) (b : ℕ) (n : ℕ) (mem : ℕ) (addr : ℕ) (req : ℕ) (s : State) :
    (forcedReport cls sev b n mem addr req s).boot = s.boot := by
  unfold forcedReport
  repeat' (first | rfl | (simp; done) | split)
@[simp] theorem forcedReport_deviceId (cls : ℕ) (sev : ℕ) (b : ℕ) (n : ℕ) (mem : ℕ) (addr : ℕ) (req : ℕ) (s : State) :
    (forcedReport cls sev b n mem addr req s).deviceId = s.deviceId := by
  unfold forcedReport
  repeat' (first | rfl | (simp; done) | split)
@[simp] theorem forcedReport_freeCtr (cls : ℕ) (sev : ℕ) (b : ℕ) (n : ℕ) (mem : ℕ) (addr : ℕ) (req : ℕ) (s : State) :
    (forcedReport cls sev b n mem addr req s).freeCtr = s.freeCtr := by
  unfold forcedReport
  repeat' (first | rfl | (simp; done) | split)

/-! `eccReadAs` -/

@[simp] theorem eccReadAs_pending (ce : ℕ) (ue : ℕ) (b : ℕ) (n : ℕ) (mem : ℕ) (addr : ℕ) (req : ℕ) (s : State) :
    (eccReadAs ce ue b n mem addr req s).st.pending = s.pending := by
  simp [eccReadAs]
@[simp] theorem eccReadAs_time (ce : ℕ) (ue : ℕ) (b : ℕ) (n : ℕ) (mem : ℕ) (addr : ℕ) (req : ℕ) (s : State) :
    (eccReadAs ce ue b n mem addr req s).st.time = s.time := by
  simp [eccReadAs]
@[simp] theorem eccReadAs_mast (ce : ℕ) (ue : ℕ) (b : ℕ) (n : ℕ) (mem : ℕ) (addr : ℕ) (req : ℕ) (s : State) :
    (eccReadAs ce ue b n mem addr req s).st.mast = s.mast := by
  simp [eccReadAs]
@[simp] theorem eccReadAs_rig (ce : ℕ) (ue : ℕ) (b : ℕ) (n : ℕ) (mem : ℕ) (addr : ℕ) (req : ℕ) (s : State) :
    (eccReadAs ce ue b n mem addr req s).st.rig = s.rig := by
  simp [eccReadAs]
@[simp] theorem eccReadAs_port (ce : ℕ) (ue : ℕ) (b : ℕ) (n : ℕ) (mem : ℕ) (addr : ℕ) (req : ℕ) (s : State) :
    (eccReadAs ce ue b n mem addr req s).st.port = s.port := by
  simp [eccReadAs]
@[simp] theorem eccReadAs_pk (ce : ℕ) (ue : ℕ) (b : ℕ) (n : ℕ) (mem : ℕ) (addr : ℕ) (req : ℕ) (s : State) :
    (eccReadAs ce ue b n mem addr req s).st.pk = s.pk := by
  simp [eccReadAs]
@[simp] theorem eccReadAs_hk (ce : ℕ) (ue : ℕ) (b : ℕ) (n : ℕ) (mem : ℕ) (addr : ℕ) (req : ℕ) (s : State) :
    (eccReadAs ce ue b n mem addr req s).st.hk = s.hk := by
  simp [eccReadAs]
@[simp] theorem eccReadAs_sk (ce : ℕ) (ue : ℕ) (b : ℕ) (n : ℕ) (mem : ℕ) (addr : ℕ) (req : ℕ) (s : State) :
    (eccReadAs ce ue b n mem addr req s).st.sk = s.sk := by
  simp [eccReadAs]
@[simp] theorem eccReadAs_epochs (ce : ℕ) (ue : ℕ) (b : ℕ) (n : ℕ) (mem : ℕ) (addr : ℕ) (req : ℕ) (s : State) :
    (eccReadAs ce ue b n mem addr req s).st.epochs = s.epochs := by
  simp [eccReadAs]
@[simp] theorem eccReadAs_sec (ce : ℕ) (ue : ℕ) (b : ℕ) (n : ℕ) (mem : ℕ) (addr : ℕ) (req : ℕ) (s : State) :
    (eccReadAs ce ue b n mem addr req s).st.sec = s.sec := by
  simp [eccReadAs]
@[simp] theorem eccReadAs_boot (ce : ℕ) (ue : ℕ) (b : ℕ) (n : ℕ) (mem : ℕ) (addr : ℕ) (req : ℕ) (s : State) :
    (eccReadAs ce ue b n mem addr req s).st.boot = s.boot := by
  simp [eccReadAs]
@[simp] theorem eccReadAs_deviceId (ce : ℕ) (ue : ℕ) (b : ℕ) (n : ℕ) (mem : ℕ) (addr : ℕ) (req : ℕ) (s : State) :
    (eccReadAs ce ue b n mem addr req s).st.deviceId = s.deviceId := by
  simp [eccReadAs]
@[simp] theorem eccReadAs_freeCtr (ce : ℕ) (ue : ℕ) (b : ℕ) (n : ℕ) (mem : ℕ) (addr : ℕ) (req : ℕ) (s : State) :
    (eccReadAs ce ue b n mem addr req s).st.freeCtr = s.freeCtr := by
  simp [eccReadAs]

/-! `memRead` -/

@[simp] theorem memRead_pending (b : ℕ) (n : ℕ) (mem : ℕ) (addr : ℕ) (req : ℕ) (s : State) :
    (memRead b n mem addr req s).st.pending = s.pending := by
  unfold memRead
  repeat' (first | rfl | (simp; done) | split)
@[simp] theorem memRead_time (b : ℕ) (n : ℕ) (mem : ℕ) (addr : ℕ) (req : ℕ) (s : State) :
    (memRead b n mem addr req s).st.time = s.time := by
  unfold memRead
  repeat' (first | rfl | (simp; done) | split)
@[simp] theorem memRead_mast (b : ℕ) (n : ℕ) (mem : ℕ) (addr : ℕ) (req : ℕ) (s : State) :
    (memRead b n mem addr req s).st.mast = s.mast := by
  unfold memRead
  repeat' (first | rfl | (simp; done) | split)
@[simp] theorem memRead_rig (b : ℕ) (n : ℕ) (mem : ℕ) (addr : ℕ) (req : ℕ) (s : State) :
    (memRead b n mem addr req s).st.rig = s.rig := by
  unfold memRead
  repeat' (first | rfl | (simp; done) | split)
@[simp] theorem memRead_port (b : ℕ) (n : ℕ) (mem : ℕ) (addr : ℕ) (req : ℕ) (s : State) :
    (memRead b n mem addr req s).st.port = s.port := by
  unfold memRead
  repeat' (first | rfl | (simp; done) | split)
@[simp] theorem memRead_pk (b : ℕ) (n : ℕ) (mem : ℕ) (addr : ℕ) (req : ℕ) (s : State) :
    (memRead b n mem addr req s).st.pk = s.pk := by
  unfold memRead
  repeat' (first | rfl | (simp; done) | split)
@[simp] theorem memRead_hk (b : ℕ) (n : ℕ) (mem : ℕ) (addr : ℕ) (req : ℕ) (s : State) :
    (memRead b n mem addr req s).st.hk = s.hk := by
  unfold memRead
  repeat' (first | rfl | (simp; done) | split)
@[simp] theorem memRead_sk (b : ℕ) (n : ℕ) (mem : ℕ) (addr : ℕ) (req : ℕ) (s : State) :
    (memRead b n mem addr req s).st.sk = s.sk := by
  unfold memRead
  repeat' (first | rfl | (simp; done) | split)
@[simp] theorem memRead_epochs (b : ℕ) (n : ℕ) (mem : ℕ) (addr : ℕ) (req : ℕ) (s : State) :
    (memRead b n mem addr req s).st.epochs = s.epochs := by
  unfold memRead
  repeat' (first | rfl | (simp; done) | split)
@[simp] theorem memRead_sec (b : ℕ) (n : ℕ) (mem : ℕ) (addr : ℕ) (req : ℕ) (s : State) :
    (memRead b n mem addr req s).st.sec = s.sec := by
  unfold memRead
  repeat' (first | rfl | (simp; done) | split)
@[simp] theorem memRead_boot (b : ℕ) (n : ℕ) (mem : ℕ) (addr : ℕ) (req : ℕ) (s : State) :
    (memRead b n mem addr req s).st.boot = s.boot := by
  unfold memRead
  repeat' (first | rfl | (simp; done) | split)
@[simp] theorem memRead_deviceId (b : ℕ) (n : ℕ) (mem : ℕ) (addr : ℕ) (req : ℕ) (s : State) :
    (memRead b n mem addr req s).st.deviceId = s.deviceId := by
  unfold memRead
  repeat' (first | rfl | (simp; done) | split)
@[simp] theorem memRead_freeCtr (b : ℕ) (n : ℕ) (mem : ℕ) (addr : ℕ) (req : ℕ) (s : State) :
    (memRead b n mem addr req s).st.freeCtr = s.freeCtr := by
  unfold memRead
  repeat' (first | rfl | (simp; done) | split)

/-! `memReadN` -/

@[simp] theorem memReadN_pending (b : ℕ) (n : ℕ) (mem : ℕ) (addr : ℕ) (req : ℕ) (fuel : ℕ) (s : State) :
    (memReadN b n mem addr req fuel s).2.pending = s.pending := by
  induction fuel generalizing addr s with
  | zero => rfl
  | succ fuel ih =>
    simp only [memReadN]
    repeat' (first | rfl | (simp [ih]; done) | split)
@[simp] theorem memReadN_time (b : ℕ) (n : ℕ) (mem : ℕ) (addr : ℕ) (req : ℕ) (fuel : ℕ) (s : State) :
    (memReadN b n mem addr req fuel s).2.time = s.time := by
  induction fuel generalizing addr s with
  | zero => rfl
  | succ fuel ih =>
    simp only [memReadN]
    repeat' (first | rfl | (simp [ih]; done) | split)
@[simp] theorem memReadN_mast (b : ℕ) (n : ℕ) (mem : ℕ) (addr : ℕ) (req : ℕ) (fuel : ℕ) (s : State) :
    (memReadN b n mem addr req fuel s).2.mast = s.mast := by
  induction fuel generalizing addr s with
  | zero => rfl
  | succ fuel ih =>
    simp only [memReadN]
    repeat' (first | rfl | (simp [ih]; done) | split)
@[simp] theorem memReadN_rig (b : ℕ) (n : ℕ) (mem : ℕ) (addr : ℕ) (req : ℕ) (fuel : ℕ) (s : State) :
    (memReadN b n mem addr req fuel s).2.rig = s.rig := by
  induction fuel generalizing addr s with
  | zero => rfl
  | succ fuel ih =>
    simp only [memReadN]
    repeat' (first | rfl | (simp [ih]; done) | split)
@[simp] theorem memReadN_port (b : ℕ) (n : ℕ) (mem : ℕ) (addr : ℕ) (req : ℕ) (fuel : ℕ) (s : State) :
    (memReadN b n mem addr req fuel s).2.port = s.port := by
  induction fuel generalizing addr s with
  | zero => rfl
  | succ fuel ih =>
    simp only [memReadN]
    repeat' (first | rfl | (simp [ih]; done) | split)
@[simp] theorem memReadN_pk (b : ℕ) (n : ℕ) (mem : ℕ) (addr : ℕ) (req : ℕ) (fuel : ℕ) (s : State) :
    (memReadN b n mem addr req fuel s).2.pk = s.pk := by
  induction fuel generalizing addr s with
  | zero => rfl
  | succ fuel ih =>
    simp only [memReadN]
    repeat' (first | rfl | (simp [ih]; done) | split)
@[simp] theorem memReadN_hk (b : ℕ) (n : ℕ) (mem : ℕ) (addr : ℕ) (req : ℕ) (fuel : ℕ) (s : State) :
    (memReadN b n mem addr req fuel s).2.hk = s.hk := by
  induction fuel generalizing addr s with
  | zero => rfl
  | succ fuel ih =>
    simp only [memReadN]
    repeat' (first | rfl | (simp [ih]; done) | split)
@[simp] theorem memReadN_sk (b : ℕ) (n : ℕ) (mem : ℕ) (addr : ℕ) (req : ℕ) (fuel : ℕ) (s : State) :
    (memReadN b n mem addr req fuel s).2.sk = s.sk := by
  induction fuel generalizing addr s with
  | zero => rfl
  | succ fuel ih =>
    simp only [memReadN]
    repeat' (first | rfl | (simp [ih]; done) | split)
@[simp] theorem memReadN_epochs (b : ℕ) (n : ℕ) (mem : ℕ) (addr : ℕ) (req : ℕ) (fuel : ℕ) (s : State) :
    (memReadN b n mem addr req fuel s).2.epochs = s.epochs := by
  induction fuel generalizing addr s with
  | zero => rfl
  | succ fuel ih =>
    simp only [memReadN]
    repeat' (first | rfl | (simp [ih]; done) | split)
@[simp] theorem memReadN_sec (b : ℕ) (n : ℕ) (mem : ℕ) (addr : ℕ) (req : ℕ) (fuel : ℕ) (s : State) :
    (memReadN b n mem addr req fuel s).2.sec = s.sec := by
  induction fuel generalizing addr s with
  | zero => rfl
  | succ fuel ih =>
    simp only [memReadN]
    repeat' (first | rfl | (simp [ih]; done) | split)
@[simp] theorem memReadN_boot (b : ℕ) (n : ℕ) (mem : ℕ) (addr : ℕ) (req : ℕ) (fuel : ℕ) (s : State) :
    (memReadN b n mem addr req fuel s).2.boot = s.boot := by
  induction fuel generalizing addr s with
  | zero => rfl
  | succ fuel ih =>
    simp only [memReadN]
    repeat' (first | rfl | (simp [ih]; done) | split)
@[simp] theorem memReadN_deviceId (b : ℕ) (n : ℕ) (mem : ℕ) (addr : ℕ) (req : ℕ) (fuel : ℕ) (s : State) :
    (memReadN b n mem addr req fuel s).2.deviceId = s.deviceId := by
  induction fuel generalizing addr s with
  | zero => rfl
  | succ fuel ih =>
    simp only [memReadN]
    repeat' (first | rfl | (simp [ih]; done) | split)
@[simp] theorem memReadN_freeCtr (b : ℕ) (n : ℕ) (mem : ℕ) (addr : ℕ) (req : ℕ) (fuel : ℕ) (s : State) :
    (memReadN b n mem addr req fuel s).2.freeCtr = s.freeCtr := by
  induction fuel generalizing addr s with
  | zero => rfl
  | succ fuel ih =>
    simp only [memReadN]
    repeat' (first | rfl | (simp [ih]; done) | split)

/-! `memWriteN` -/

@[simp] theorem memWriteN_pending (b : ℕ) (n : ℕ) (mem : ℕ) (addr : ℕ) (fuel : ℕ) (s : State) :
    (memWriteN b n mem addr fuel s).pending = s.pending := by
  induction fuel generalizing addr s with
  | zero => rfl
  | succ fuel ih =>
    simp only [memWriteN]
    repeat' (first | rfl | (simp [ih]; done) | split)
@[simp] theorem memWriteN_time (b : ℕ) (n : ℕ) (mem : ℕ) (addr : ℕ) (fuel : ℕ) (s : State) :
    (memWriteN b n mem addr fuel s).time = s.time := by
  induction fuel generalizing addr s with
  | zero => rfl
  | succ fuel ih =>
    simp only [memWriteN]
    repeat' (first | rfl | (simp [ih]; done) | split)
@[simp] theorem memWriteN_mast (b : ℕ) (n : ℕ) (mem : ℕ) (addr : ℕ) (fuel : ℕ) (s : State) :
    (memWriteN b n mem addr fuel s).mast = s.mast := by
  induction fuel generalizing addr s with
  | zero => rfl
  | succ fuel ih =>
    simp only [memWriteN]
    repeat' (first | rfl | (simp [ih]; done) | split)
@[simp] theorem memWriteN_rig (b : ℕ) (n : ℕ) (mem : ℕ) (addr : ℕ) (fuel : ℕ) (s : State) :
    (memWriteN b n mem addr fuel s).rig = s.rig := by
  induction fuel generalizing addr s with
  | zero => rfl
  | succ fuel ih =>
    simp only [memWriteN]
    repeat' (first | rfl | (simp [ih]; done) | split)
@[simp] theorem memWriteN_port (b : ℕ) (n : ℕ) (mem : ℕ) (addr : ℕ) (fuel : ℕ) (s : State) :
    (memWriteN b n mem addr fuel s).port = s.port := by
  induction fuel generalizing addr s with
  | zero => rfl
  | succ fuel ih =>
    simp only [memWriteN]
    repeat' (first | rfl | (simp [ih]; done) | split)
@[simp] theorem memWriteN_pk (b : ℕ) (n : ℕ) (mem : ℕ) (addr : ℕ) (fuel : ℕ) (s : State) :
    (memWriteN b n mem addr fuel s).pk = s.pk := by
  induction fuel generalizing addr s with
  | zero => rfl
  | succ fuel ih =>
    simp only [memWriteN]
    repeat' (first | rfl | (simp [ih]; done) | split)
@[simp] theorem memWriteN_hk (b : ℕ) (n : ℕ) (mem : ℕ) (addr : ℕ) (fuel : ℕ) (s : State) :
    (memWriteN b n mem addr fuel s).hk = s.hk := by
  induction fuel generalizing addr s with
  | zero => rfl
  | succ fuel ih =>
    simp only [memWriteN]
    repeat' (first | rfl | (simp [ih]; done) | split)
@[simp] theorem memWriteN_sk (b : ℕ) (n : ℕ) (mem : ℕ) (addr : ℕ) (fuel : ℕ) (s : State) :
    (memWriteN b n mem addr fuel s).sk = s.sk := by
  induction fuel generalizing addr s with
  | zero => rfl
  | succ fuel ih =>
    simp only [memWriteN]
    repeat' (first | rfl | (simp [ih]; done) | split)
@[simp] theorem memWriteN_host (b : ℕ) (n : ℕ) (mem : ℕ) (addr : ℕ) (fuel : ℕ) (s : State) :
    (memWriteN b n mem addr fuel s).host = s.host := by
  induction fuel generalizing addr s with
  | zero => rfl
  | succ fuel ih =>
    simp only [memWriteN]
    repeat' (first | rfl | (simp [ih]; done) | split)
@[simp] theorem memWriteN_cmd (b : ℕ) (n : ℕ) (mem : ℕ) (addr : ℕ) (fuel : ℕ) (s : State) :
    (memWriteN b n mem addr fuel s).cmd = s.cmd := by
  induction fuel generalizing addr s with
  | zero => rfl
  | succ fuel ih =>
    simp only [memWriteN]
    repeat' (first | rfl | (simp [ih]; done) | split)
@[simp] theorem memWriteN_out (b : ℕ) (n : ℕ) (mem : ℕ) (addr : ℕ) (fuel : ℕ) (s : State) :
    (memWriteN b n mem addr fuel s).out = s.out := by
  induction fuel generalizing addr s with
  | zero => rfl
  | succ fuel ih =>
    simp only [memWriteN]
    repeat' (first | rfl | (simp [ih]; done) | split)
@[simp] theorem memWriteN_epochs (b : ℕ) (n : ℕ) (mem : ℕ) (addr : ℕ) (fuel : ℕ) (s : State) :
    (memWriteN b n mem addr fuel s).epochs = s.epochs := by
  induction fuel generalizing addr s with
  | zero => rfl
  | succ fuel ih =>
    simp only [memWriteN]
    repeat' (first | rfl | (simp [ih]; done) | split)
@[simp] theorem memWriteN_regs (b : ℕ) (n : ℕ) (mem : ℕ) (addr : ℕ) (fuel : ℕ) (s : State) :
    (memWriteN b n mem addr fuel s).regs = s.regs := by
  induction fuel generalizing addr s with
  | zero => rfl
  | succ fuel ih =>
    simp only [memWriteN]
    repeat' (first | rfl | (simp [ih]; done) | split)
@[simp] theorem memWriteN_power (b : ℕ) (n : ℕ) (mem : ℕ) (addr : ℕ) (fuel : ℕ) (s : State) :
    (memWriteN b n mem addr fuel s).power = s.power := by
  induction fuel generalizing addr s with
  | zero => rfl
  | succ fuel ih =>
    simp only [memWriteN]
    repeat' (first | rfl | (simp [ih]; done) | split)
@[simp] theorem memWriteN_sec (b : ℕ) (n : ℕ) (mem : ℕ) (addr : ℕ) (fuel : ℕ) (s : State) :
    (memWriteN b n mem addr fuel s).sec = s.sec := by
  induction fuel generalizing addr s with
  | zero => rfl
  | succ fuel ih =>
    simp only [memWriteN]
    repeat' (first | rfl | (simp [ih]; done) | split)
@[simp] theorem memWriteN_boot (b : ℕ) (n : ℕ) (mem : ℕ) (addr : ℕ) (fuel : ℕ) (s : State) :
    (memWriteN b n mem addr fuel s).boot = s.boot := by
  induction fuel generalizing addr s with
  | zero => rfl
  | succ fuel ih =>
    simp only [memWriteN]
    repeat' (first | rfl | (simp [ih]; done) | split)
@[simp] theorem memWriteN_deviceId (b : ℕ) (n : ℕ) (mem : ℕ) (addr : ℕ) (fuel : ℕ) (s : State) :
    (memWriteN b n mem addr fuel s).deviceId = s.deviceId := by
  induction fuel generalizing addr s with
  | zero => rfl
  | succ fuel ih =>
    simp only [memWriteN]
    repeat' (first | rfl | (simp [ih]; done) | split)
@[simp] theorem memWriteN_freeCtr (b : ℕ) (n : ℕ) (mem : ℕ) (addr : ℕ) (fuel : ℕ) (s : State) :
    (memWriteN b n mem addr fuel s).freeCtr = s.freeCtr := by
  induction fuel generalizing addr s with
  | zero => rfl
  | succ fuel ih =>
    simp only [memWriteN]
    repeat' (first | rfl | (simp [ih]; done) | split)

/-! `awaitDomain` -/

@[simp] theorem awaitDomain_pending (code : ℕ) (d : ℕ) (c : Cmd) (s : State) :
    (awaitDomain code d c s).pending = s.pending := by
  unfold awaitDomain
  repeat' (first | rfl | (simp; done) | split)
@[simp] theorem awaitDomain_time (code : ℕ) (d : ℕ) (c : Cmd) (s : State) :
    (awaitDomain code d c s).time = s.time := by
  unfold awaitDomain
  repeat' (first | rfl | (simp; done) | split)
@[simp] theorem awaitDomain_mast (code : ℕ) (d : ℕ) (c : Cmd) (s : State) :
    (awaitDomain code d c s).mast = s.mast := by
  unfold awaitDomain
  repeat' (first | rfl | (simp; done) | split)
@[simp] theorem awaitDomain_rig (code : ℕ) (d : ℕ) (c : Cmd) (s : State) :
    (awaitDomain code d c s).rig = s.rig := by
  unfold awaitDomain
  repeat' (first | rfl | (simp; done) | split)
@[simp] theorem awaitDomain_port (code : ℕ) (d : ℕ) (c : Cmd) (s : State) :
    (awaitDomain code d c s).port = s.port := by
  unfold awaitDomain
  repeat' (first | rfl | (simp; done) | split)
@[simp] theorem awaitDomain_pk (code : ℕ) (d : ℕ) (c : Cmd) (s : State) :
    (awaitDomain code d c s).pk = s.pk := by
  unfold awaitDomain
  repeat' (first | rfl | (simp; done) | split)
@[simp] theorem awaitDomain_hk (code : ℕ) (d : ℕ) (c : Cmd) (s : State) :
    (awaitDomain code d c s).hk = s.hk := by
  unfold awaitDomain
  repeat' (first | rfl | (simp; done) | split)
@[simp] theorem awaitDomain_sk (code : ℕ) (d : ℕ) (c : Cmd) (s : State) :
    (awaitDomain code d c s).sk = s.sk := by
  unfold awaitDomain
  repeat' (first | rfl | (simp; done) | split)
@[simp] theorem awaitDomain_host (code : ℕ) (d : ℕ) (c : Cmd) (s : State) :
    (awaitDomain code d c s).host = s.host := by
  unfold awaitDomain
  repeat' (first | rfl | (simp; done) | split)
@[simp] theorem awaitDomain_out (code : ℕ) (d : ℕ) (c : Cmd) (s : State) :
    (awaitDomain code d c s).out = s.out := by
  unfold awaitDomain
  repeat' (first | rfl | (simp; done) | split)
@[simp] theorem awaitDomain_flt (code : ℕ) (d : ℕ) (c : Cmd) (s : State) :
    (awaitDomain code d c s).flt = s.flt := by
  unfold awaitDomain
  repeat' (first | rfl | (simp; done) | split)
@[simp] theorem awaitDomain_epochs (code : ℕ) (d : ℕ) (c : Cmd) (s : State) :
    (awaitDomain code d c s).epochs = s.epochs := by
  unfold awaitDomain
  repeat' (first | rfl | (simp; done) | split)
@[simp] theorem awaitDomain_regs (code : ℕ) (d : ℕ) (c : Cmd) (s : State) :
    (awaitDomain code d c s).regs = s.regs := by
  unfold awaitDomain
  repeat' (first | rfl | (simp; done) | split)
@[simp] theorem awaitDomain_sec (code : ℕ) (d : ℕ) (c : Cmd) (s : State) :
    (awaitDomain code d c s).sec = s.sec := by
  unfold awaitDomain
  repeat' (first | rfl | (simp; done) | split)
@[simp] theorem awaitDomain_boot (code : ℕ) (d : ℕ) (c : Cmd) (s : State) :
    (awaitDomain code d c s).boot = s.boot := by
  unfold awaitDomain
  repeat' (first | rfl | (simp; done) | split)
@[simp] theorem awaitDomain_deviceId (code : ℕ) (d : ℕ) (c : Cmd) (s : State) :
    (awaitDomain code d c s).deviceId = s.deviceId := by
  unfold awaitDomain
  repeat' (first | rfl | (simp; done) | split)
@[simp] theorem awaitDomain_freeCtr (code : ℕ) (d : ℕ) (c : Cmd) (s : State) :
    (awaitDomain code d c s).freeCtr = s.freeCtr := by
  unfold awaitDomain
  repeat' (first | rfl | (simp; done) | split)

/-! `deliverReply` -/

@[simp] theorem deliverReply_pending (c : Cmd) (w0 : W) (w1 : W) (result : List W) (s : State) :
    (deliverReply c w0 w1 result s).pending = s.pending := by
  unfold deliverReply
  repeat' (first | rfl | (simp; done) | split)
@[simp] theorem deliverReply_time (c : Cmd) (w0 : W) (w1 : W) (result : List W) (s : State) :
    (deliverReply c w0 w1 result s).time = s.time := by
  unfold deliverReply
  repeat' (first | rfl | (simp; done) | split)
@[simp] theorem deliverReply_mast (c : Cmd) (w0 : W) (w1 : W) (result : List W) (s : State) :
    (deliverReply c w0 w1 result s).mast = s.mast := by
  unfold deliverReply
  repeat' (first | rfl | (simp; done) | split)
@[simp] theorem deliverReply_rig (c : Cmd) (w0 : W) (w1 : W) (result : List W) (s : State) :
    (deliverReply c w0 w1 result s).rig = s.rig := by
  unfold deliverReply
  repeat' (first | rfl | (simp; done) | split)
@[simp] theorem deliverReply_port (c : Cmd) (w0 : W) (w1 : W) (result : List W) (s : State) :
    (deliverReply c w0 w1 result s).port = s.port := by
  unfold deliverReply
  repeat' (first | rfl | (simp; done) | split)
@[simp] theorem deliverReply_pk (c : Cmd) (w0 : W) (w1 : W) (result : List W) (s : State) :
    (deliverReply c w0 w1 result s).pk = s.pk := by
  unfold deliverReply
  repeat' (first | rfl | (simp; done) | split)
@[simp] theorem deliverReply_hk (c : Cmd) (w0 : W) (w1 : W) (result : List W) (s : State) :
    (deliverReply c w0 w1 result s).hk = s.hk := by
  unfold deliverReply
  repeat' (first | rfl | (simp; done) | split)
@[simp] theorem deliverReply_sk (c : Cmd) (w0 : W) (w1 : W) (result : List W) (s : State) :
    (deliverReply c w0 w1 result s).sk = s.sk := by
  unfold deliverReply
  repeat' (first | rfl | (simp; done) | split)
@[simp] theorem deliverReply_cmd (c : Cmd) (w0 : W) (w1 : W) (result : List W) (s : State) :
    (deliverReply c w0 w1 result s).cmd = s.cmd := by
  unfold deliverReply
  repeat' (first | rfl | (simp; done) | split)
@[simp] theorem deliverReply_flt (c : Cmd) (w0 : W) (w1 : W) (result : List W) (s : State) :
    (deliverReply c w0 w1 result s).flt = s.flt := by
  unfold deliverReply
  repeat' (first | rfl | (simp; done) | split)
@[simp] theorem deliverReply_epochs (c : Cmd) (w0 : W) (w1 : W) (result : List W) (s : State) :
    (deliverReply c w0 w1 result s).epochs = s.epochs := by
  unfold deliverReply
  repeat' (first | rfl | (simp; done) | split)
@[simp] theorem deliverReply_power (c : Cmd) (w0 : W) (w1 : W) (result : List W) (s : State) :
    (deliverReply c w0 w1 result s).power = s.power := by
  unfold deliverReply
  repeat' (first | rfl | (simp; done) | split)
@[simp] theorem deliverReply_sec (c : Cmd) (w0 : W) (w1 : W) (result : List W) (s : State) :
    (deliverReply c w0 w1 result s).sec = s.sec := by
  unfold deliverReply
  repeat' (first | rfl | (simp; done) | split)
@[simp] theorem deliverReply_boot (c : Cmd) (w0 : W) (w1 : W) (result : List W) (s : State) :
    (deliverReply c w0 w1 result s).boot = s.boot := by
  unfold deliverReply
  repeat' (first | rfl | (simp; done) | split)
@[simp] theorem deliverReply_deviceId (c : Cmd) (w0 : W) (w1 : W) (result : List W) (s : State) :
    (deliverReply c w0 w1 result s).deviceId = s.deviceId := by
  unfold deliverReply
  repeat' (first | rfl | (simp; done) | split)
@[simp] theorem deliverReply_freeCtr (c : Cmd) (w0 : W) (w1 : W) (result : List W) (s : State) :
    (deliverReply c w0 w1 result s).freeCtr = s.freeCtr := by
  unfold deliverReply
  repeat' (first | rfl | (simp; done) | split)

/-! `sendReply` -/

@[simp] theorem sendReply_pending (c : Cmd) (final : Bool) (st : Status) (detail : ℕ) (result : List W) (s : State) :
    (sendReply c final st detail result s).pending = s.pending := by
  unfold sendReply
  repeat' (first | rfl | (simp; done) | split)
@[simp] theorem sendReply_time (c : Cmd) (final : Bool) (st : Status) (detail : ℕ) (result : List W) (s : State) :
    (sendReply c final st detail result s).time = s.time := by
  unfold sendReply
  repeat' (first | rfl | (simp; done) | split)
@[simp] theorem sendReply_mast (c : Cmd) (final : Bool) (st : Status) (detail : ℕ) (result : List W) (s : State) :
    (sendReply c final st detail result s).mast = s.mast := by
  unfold sendReply
  repeat' (first | rfl | (simp; done) | split)
@[simp] theorem sendReply_rig (c : Cmd) (final : Bool) (st : Status) (detail : ℕ) (result : List W) (s : State) :
    (sendReply c final st detail result s).rig = s.rig := by
  unfold sendReply
  repeat' (first | rfl | (simp; done) | split)
@[simp] theorem sendReply_port (c : Cmd) (final : Bool) (st : Status) (detail : ℕ) (result : List W) (s : State) :
    (sendReply c final st detail result s).port = s.port := by
  unfold sendReply
  repeat' (first | rfl | (simp; done) | split)
@[simp] theorem sendReply_pk (c : Cmd) (final : Bool) (st : Status) (detail : ℕ) (result : List W) (s : State) :
    (sendReply c final st detail result s).pk = s.pk := by
  unfold sendReply
  repeat' (first | rfl | (simp; done) | split)
@[simp] theorem sendReply_hk (c : Cmd) (final : Bool) (st : Status) (detail : ℕ) (result : List W) (s : State) :
    (sendReply c final st detail result s).hk = s.hk := by
  unfold sendReply
  repeat' (first | rfl | (simp; done) | split)
@[simp] theorem sendReply_sk (c : Cmd) (final : Bool) (st : Status) (detail : ℕ) (result : List W) (s : State) :
    (sendReply c final st detail result s).sk = s.sk := by
  unfold sendReply
  repeat' (first | rfl | (simp; done) | split)
@[simp] theorem sendReply_cmd (c : Cmd) (final : Bool) (st : Status) (detail : ℕ) (result : List W) (s : State) :
    (sendReply c final st detail result s).cmd = s.cmd := by
  unfold sendReply
  repeat' (first | rfl | (simp; done) | split)
@[simp] theorem sendReply_flt (c : Cmd) (final : Bool) (st : Status) (detail : ℕ) (result : List W) (s : State) :
    (sendReply c final st detail result s).flt = s.flt := by
  unfold sendReply
  repeat' (first | rfl | (simp; done) | split)
@[simp] theorem sendReply_epochs (c : Cmd) (final : Bool) (st : Status) (detail : ℕ) (result : List W) (s : State) :
    (sendReply c final st detail result s).epochs = s.epochs := by
  unfold sendReply
  repeat' (first | rfl | (simp; done) | split)
@[simp] theorem sendReply_power (c : Cmd) (final : Bool) (st : Status) (detail : ℕ) (result : List W) (s : State) :
    (sendReply c final st detail result s).power = s.power := by
  unfold sendReply
  repeat' (first | rfl | (simp; done) | split)
@[simp] theorem sendReply_sec (c : Cmd) (final : Bool) (st : Status) (detail : ℕ) (result : List W) (s : State) :
    (sendReply c final st detail result s).sec = s.sec := by
  unfold sendReply
  repeat' (first | rfl | (simp; done) | split)
@[simp] theorem sendReply_boot (c : Cmd) (final : Bool) (st : Status) (detail : ℕ) (result : List W) (s : State) :
    (sendReply c final st detail result s).boot = s.boot := by
  unfold sendReply
  repeat' (first | rfl | (simp; done) | split)
@[simp] theorem sendReply_deviceId (c : Cmd) (final : Bool) (st : Status) (detail : ℕ) (result : List W) (s : State) :
    (sendReply c final st detail result s).deviceId = s.deviceId := by
  unfold sendReply
  repeat' (first | rfl | (simp; done) | split)
@[simp] theorem sendReply_freeCtr (c : Cmd) (final : Bool) (st : Status) (detail : ℕ) (result : List W) (s : State) :
    (sendReply c final st detail result s).freeCtr = s.freeCtr := by
  unfold sendReply
  repeat' (first | rfl | (simp; done) | split)

/-! `refuse` -/

@[simp] theorem refuse_pending (c : Cmd) (st : Status) (detail : ℕ) (s : State) :
    (refuse c st detail s).pending = s.pending := by
  unfold refuse
  repeat' (first | rfl | (simp; done) | split)
@[simp] theorem refuse_time (c : Cmd) (st : Status) (detail : ℕ) (s : State) :
    (refuse c st detail s).time = s.time := by
  unfold refuse
  repeat' (first | rfl | (simp; done) | split)
@[simp] theorem refuse_mast (c : Cmd) (st : Status) (detail : ℕ) (s : State) :
    (refuse c st detail s).mast = s.mast := by
  unfold refuse
  repeat' (first | rfl | (simp; done) | split)
@[simp] theorem refuse_rig (c : Cmd) (st : Status) (detail : ℕ) (s : State) :
    (refuse c st detail s).rig = s.rig := by
  unfold refuse
  repeat' (first | rfl | (simp; done) | split)
@[simp] theorem refuse_port (c : Cmd) (st : Status) (detail : ℕ) (s : State) :
    (refuse c st detail s).port = s.port := by
  unfold refuse
  repeat' (first | rfl | (simp; done) | split)
@[simp] theorem refuse_pk (c : Cmd) (st : Status) (detail : ℕ) (s : State) :
    (refuse c st detail s).pk = s.pk := by
  unfold refuse
  repeat' (first | rfl | (simp; done) | split)
@[simp] theorem refuse_hk (c : Cmd) (st : Status) (detail : ℕ) (s : State) :
    (refuse c st detail s).hk = s.hk := by
  unfold refuse
  repeat' (first | rfl | (simp; done) | split)
@[simp] theorem refuse_sk (c : Cmd) (st : Status) (detail : ℕ) (s : State) :
    (refuse c st detail s).sk = s.sk := by
  unfold refuse
  repeat' (first | rfl | (simp; done) | split)
@[simp] theorem refuse_cmd (c : Cmd) (st : Status) (detail : ℕ) (s : State) :
    (refuse c st detail s).cmd = s.cmd := by
  unfold refuse
  repeat' (first | rfl | (simp; done) | split)
@[simp] theorem refuse_flt (c : Cmd) (st : Status) (detail : ℕ) (s : State) :
    (refuse c st detail s).flt = s.flt := by
  unfold refuse
  repeat' (first | rfl | (simp; done) | split)
@[simp] theorem refuse_epochs (c : Cmd) (st : Status) (detail : ℕ) (s : State) :
    (refuse c st detail s).epochs = s.epochs := by
  unfold refuse
  repeat' (first | rfl | (simp; done) | split)
@[simp] theorem refuse_power (c : Cmd) (st : Status) (detail : ℕ) (s : State) :
    (refuse c st detail s).power = s.power := by
  unfold refuse
  repeat' (first | rfl | (simp; done) | split)
@[simp] theorem refuse_sec (c : Cmd) (st : Status) (detail : ℕ) (s : State) :
    (refuse c st detail s).sec = s.sec := by
  unfold refuse
  repeat' (first | rfl | (simp; done) | split)
@[simp] theorem refuse_boot (c : Cmd) (st : Status) (detail : ℕ) (s : State) :
    (refuse c st detail s).boot = s.boot := by
  unfold refuse
  repeat' (first | rfl | (simp; done) | split)
@[simp] theorem refuse_deviceId (c : Cmd) (st : Status) (detail : ℕ) (s : State) :
    (refuse c st detail s).deviceId = s.deviceId := by
  unfold refuse
  repeat' (first | rfl | (simp; done) | split)
@[simp] theorem refuse_freeCtr (c : Cmd) (st : Status) (detail : ℕ) (s : State) :
    (refuse c st detail s).freeCtr = s.freeCtr := by
  unfold refuse
  repeat' (first | rfl | (simp; done) | split)

/-! `supersede` -/

@[simp] theorem supersede_pending (c : Cmd) (winner : Source) (s : State) :
    (supersede c winner s).pending = s.pending := by
  unfold supersede
  repeat' (first | rfl | (simp; done) | split)
@[simp] theorem supersede_time (c : Cmd) (winner : Source) (s : State) :
    (supersede c winner s).time = s.time := by
  unfold supersede
  repeat' (first | rfl | (simp; done) | split)
@[simp] theorem supersede_mast (c : Cmd) (winner : Source) (s : State) :
    (supersede c winner s).mast = s.mast := by
  unfold supersede
  repeat' (first | rfl | (simp; done) | split)
@[simp] theorem supersede_rig (c : Cmd) (winner : Source) (s : State) :
    (supersede c winner s).rig = s.rig := by
  unfold supersede
  repeat' (first | rfl | (simp; done) | split)
@[simp] theorem supersede_port (c : Cmd) (winner : Source) (s : State) :
    (supersede c winner s).port = s.port := by
  unfold supersede
  repeat' (first | rfl | (simp; done) | split)
@[simp] theorem supersede_pk (c : Cmd) (winner : Source) (s : State) :
    (supersede c winner s).pk = s.pk := by
  unfold supersede
  repeat' (first | rfl | (simp; done) | split)
@[simp] theorem supersede_hk (c : Cmd) (winner : Source) (s : State) :
    (supersede c winner s).hk = s.hk := by
  unfold supersede
  repeat' (first | rfl | (simp; done) | split)
@[simp] theorem supersede_sk (c : Cmd) (winner : Source) (s : State) :
    (supersede c winner s).sk = s.sk := by
  unfold supersede
  repeat' (first | rfl | (simp; done) | split)
@[simp] theorem supersede_cmd (c : Cmd) (winner : Source) (s : State) :
    (supersede c winner s).cmd = s.cmd := by
  unfold supersede
  repeat' (first | rfl | (simp; done) | split)
@[simp] theorem supersede_flt (c : Cmd) (winner : Source) (s : State) :
    (supersede c winner s).flt = s.flt := by
  unfold supersede
  repeat' (first | rfl | (simp; done) | split)
@[simp] theorem supersede_epochs (c : Cmd) (winner : Source) (s : State) :
    (supersede c winner s).epochs = s.epochs := by
  unfold supersede
  repeat' (first | rfl | (simp; done) | split)
@[simp] theorem supersede_power (c : Cmd) (winner : Source) (s : State) :
    (supersede c winner s).power = s.power := by
  unfold supersede
  repeat' (first | rfl | (simp; done) | split)
@[simp] theorem supersede_sec (c : Cmd) (winner : Source) (s : State) :
    (supersede c winner s).sec = s.sec := by
  unfold supersede
  repeat' (first | rfl | (simp; done) | split)
@[simp] theorem supersede_boot (c : Cmd) (winner : Source) (s : State) :
    (supersede c winner s).boot = s.boot := by
  unfold supersede
  repeat' (first | rfl | (simp; done) | split)
@[simp] theorem supersede_deviceId (c : Cmd) (winner : Source) (s : State) :
    (supersede c winner s).deviceId = s.deviceId := by
  unfold supersede
  repeat' (first | rfl | (simp; done) | split)
@[simp] theorem supersede_freeCtr (c : Cmd) (winner : Source) (s : State) :
    (supersede c winner s).freeCtr = s.freeCtr := by
  unfold supersede
  repeat' (first | rfl | (simp; done) | split)

/-! `closeCmd` -/

@[simp] theorem closeCmd_pending (kind : ℕ) (key : ℕ) (st : Status) (detail : ℕ) (result : List W) (s : State) :
    (closeCmd kind key st detail result s).pending = s.pending := by
  simp [closeCmd]
@[simp] theorem closeCmd_time (kind : ℕ) (key : ℕ) (st : Status) (detail : ℕ) (result : List W) (s : State) :
    (closeCmd kind key st detail result s).time = s.time := by
  simp [closeCmd]
@[simp] theorem closeCmd_mast (kind : ℕ) (key : ℕ) (st : Status) (detail : ℕ) (result : List W) (s : State) :
    (closeCmd kind key st detail result s).mast = s.mast := by
  simp [closeCmd]
@[simp] theorem closeCmd_rig (kind : ℕ) (key : ℕ) (st : Status) (detail : ℕ) (result : List W) (s : State) :
    (closeCmd kind key st detail result s).rig = s.rig := by
  simp [closeCmd]
@[simp] theorem closeCmd_port (kind : ℕ) (key : ℕ) (st : Status) (detail : ℕ) (result : List W) (s : State) :
    (closeCmd kind key st detail result s).port = s.port := by
  simp [closeCmd]
@[simp] theorem closeCmd_pk (kind : ℕ) (key : ℕ) (st : Status) (detail : ℕ) (result : List W) (s : State) :
    (closeCmd kind key st detail result s).pk = s.pk := by
  simp [closeCmd]
@[simp] theorem closeCmd_hk (kind : ℕ) (key : ℕ) (st : Status) (detail : ℕ) (result : List W) (s : State) :
    (closeCmd kind key st detail result s).hk = s.hk := by
  simp [closeCmd]
@[simp] theorem closeCmd_sk (kind : ℕ) (key : ℕ) (st : Status) (detail : ℕ) (result : List W) (s : State) :
    (closeCmd kind key st detail result s).sk = s.sk := by
  simp [closeCmd]
@[simp] theorem closeCmd_flt (kind : ℕ) (key : ℕ) (st : Status) (detail : ℕ) (result : List W) (s : State) :
    (closeCmd kind key st detail result s).flt = s.flt := by
  simp [closeCmd]
@[simp] theorem closeCmd_epochs (kind : ℕ) (key : ℕ) (st : Status) (detail : ℕ) (result : List W) (s : State) :
    (closeCmd kind key st detail result s).epochs = s.epochs := by
  simp [closeCmd]
@[simp] theorem closeCmd_power (kind : ℕ) (key : ℕ) (st : Status) (detail : ℕ) (result : List W) (s : State) :
    (closeCmd kind key st detail result s).power = s.power := by
  simp [closeCmd]
@[simp] theorem closeCmd_sec (kind : ℕ) (key : ℕ) (st : Status) (detail : ℕ) (result : List W) (s : State) :
    (closeCmd kind key st detail result s).sec = s.sec := by
  simp [closeCmd]
@[simp] theorem closeCmd_boot (kind : ℕ) (key : ℕ) (st : Status) (detail : ℕ) (result : List W) (s : State) :
    (closeCmd kind key st detail result s).boot = s.boot := by
  simp [closeCmd]
@[simp] theorem closeCmd_deviceId (kind : ℕ) (key : ℕ) (st : Status) (detail : ℕ) (result : List W) (s : State) :
    (closeCmd kind key st detail result s).deviceId = s.deviceId := by
  simp [closeCmd]
@[simp] theorem closeCmd_freeCtr (kind : ℕ) (key : ℕ) (st : Status) (detail : ℕ) (result : List W) (s : State) :
    (closeCmd kind key st detail result s).freeCtr = s.freeCtr := by
  simp [closeCmd]

/-! `noteIntake` -/

@[simp] theorem noteIntake_pending (c : Cmd) (s : State) :
    (noteIntake c s).pending = s.pending := by
  unfold noteIntake
  repeat' (first | rfl | (simp; done) | split)
@[simp] theorem noteIntake_time (c : Cmd) (s : State) :
    (noteIntake c s).time = s.time := by
  unfold noteIntake
  repeat' (first | rfl | (simp; done) | split)
@[simp] theorem noteIntake_mast (c : Cmd) (s : State) :
    (noteIntake c s).mast = s.mast := by
  unfold noteIntake
  repeat' (first | rfl | (simp; done) | split)
@[simp] theorem noteIntake_rig (c : Cmd) (s : State) :
    (noteIntake c s).rig = s.rig := by
  unfold noteIntake
  repeat' (first | rfl | (simp; done) | split)
@[simp] theorem noteIntake_port (c : Cmd) (s : State) :
    (noteIntake c s).port = s.port := by
  unfold noteIntake
  repeat' (first | rfl | (simp; done) | split)
@[simp] theorem noteIntake_pk (c : Cmd) (s : State) :
    (noteIntake c s).pk = s.pk := by
  unfold noteIntake
  repeat' (first | rfl | (simp; done) | split)
@[simp] theorem noteIntake_hk (c : Cmd) (s : State) :
    (noteIntake c s).hk = s.hk := by
  unfold noteIntake
  repeat' (first | rfl | (simp; done) | split)
@[simp] theorem noteIntake_sk (c : Cmd) (s : State) :
    (noteIntake c s).sk = s.sk := by
  unfold noteIntake
  repeat' (first | rfl | (simp; done) | split)
@[simp] theorem noteIntake_host (c : Cmd) (s : State) :
    (noteIntake c s).host = s.host := by
  unfold noteIntake
  repeat' (first | rfl | (simp; done) | split)
@[simp] theorem noteIntake_out (c : Cmd) (s : State) :
    (noteIntake c s).out = s.out := by
  unfold noteIntake
  repeat' (first | rfl | (simp; done) | split)
@[simp] theorem noteIntake_flt (c : Cmd) (s : State) :
    (noteIntake c s).flt = s.flt := by
  unfold noteIntake
  repeat' (first | rfl | (simp; done) | split)
@[simp] theorem noteIntake_epochs (c : Cmd) (s : State) :
    (noteIntake c s).epochs = s.epochs := by
  unfold noteIntake
  repeat' (first | rfl | (simp; done) | split)
@[simp] theorem noteIntake_regs (c : Cmd) (s : State) :
    (noteIntake c s).regs = s.regs := by
  unfold noteIntake
  repeat' (first | rfl | (simp; done) | split)
@[simp] theorem noteIntake_power (c : Cmd) (s : State) :
    (noteIntake c s).power = s.power := by
  unfold noteIntake
  repeat' (first | rfl | (simp; done) | split)
@[simp] theorem noteIntake_sec (c : Cmd) (s : State) :
    (noteIntake c s).sec = s.sec := by
  unfold noteIntake
  repeat' (first | rfl | (simp; done) | split)
@[simp] theorem noteIntake_boot (c : Cmd) (s : State) :
    (noteIntake c s).boot = s.boot := by
  unfold noteIntake
  repeat' (first | rfl | (simp; done) | split)
@[simp] theorem noteIntake_deviceId (c : Cmd) (s : State) :
    (noteIntake c s).deviceId = s.deviceId := by
  unfold noteIntake
  repeat' (first | rfl | (simp; done) | split)
@[simp] theorem noteIntake_freeCtr (c : Cmd) (s : State) :
    (noteIntake c s).freeCtr = s.freeCtr := by
  unfold noteIntake
  repeat' (first | rfl | (simp; done) | split)

/-! `unstage` -/

@[simp] theorem unstage_pending (s : State) :
    (unstage s).pending = s.pending := by
  unfold unstage
  repeat' (first | rfl | (simp; done) | split)
@[simp] theorem unstage_time (s : State) :
    (unstage s).time = s.time := by
  unfold unstage
  repeat' (first | rfl | (simp; done) | split)
@[simp] theorem unstage_mast (s : State) :
    (unstage s).mast = s.mast := by
  unfold unstage
  repeat' (first | rfl | (simp; done) | split)
@[simp] theorem unstage_rig (s : State) :
    (unstage s).rig = s.rig := by
  unfold unstage
  repeat' (first | rfl | (simp; done) | split)
@[simp] theorem unstage_port (s : State) :
    (unstage s).port = s.port := by
  unfold unstage
  repeat' (first | rfl | (simp; done) | split)
@[simp] theorem unstage_pk (s : State) :
    (unstage s).pk = s.pk := by
  unfold unstage
  repeat' (first | rfl | (simp; done) | split)
@[simp] theorem unstage_hk (s : State) :
    (unstage s).hk = s.hk := by
  unfold unstage
  repeat' (first | rfl | (simp; done) | split)
@[simp] theorem unstage_host (s : State) :
    (unstage s).host = s.host := by
  unfold unstage
  repeat' (first | rfl | (simp; done) | split)
@[simp] theorem unstage_cmd (s : State) :
    (unstage s).cmd = s.cmd := by
  unfold unstage
  repeat' (first | rfl | (simp; done) | split)
@[simp] theorem unstage_out (s : State) :
    (unstage s).out = s.out := by
  unfold unstage
  repeat' (first | rfl | (simp; done) | split)
@[simp] theorem unstage_flt (s : State) :
    (unstage s).flt = s.flt := by
  unfold unstage
  repeat' (first | rfl | (simp; done) | split)
@[simp] theorem unstage_epochs (s : State) :
    (unstage s).epochs = s.epochs := by
  unfold unstage
  repeat' (first | rfl | (simp; done) | split)
@[simp] theorem unstage_regs (s : State) :
    (unstage s).regs = s.regs := by
  unfold unstage
  repeat' (first | rfl | (simp; done) | split)
@[simp] theorem unstage_power (s : State) :
    (unstage s).power = s.power := by
  unfold unstage
  repeat' (first | rfl | (simp; done) | split)
@[simp] theorem unstage_sec (s : State) :
    (unstage s).sec = s.sec := by
  unfold unstage
  repeat' (first | rfl | (simp; done) | split)
@[simp] theorem unstage_deviceId (s : State) :
    (unstage s).deviceId = s.deviceId := by
  unfold unstage
  repeat' (first | rfl | (simp; done) | split)
@[simp] theorem unstage_freeCtr (s : State) :
    (unstage s).freeCtr = s.freeCtr := by
  unfold unstage
  repeat' (first | rfl | (simp; done) | split)

/-! `dropShadow` -/

@[simp] theorem dropShadow_pending (s : State) : (dropShadow s).pending = s.pending := (rfl)
@[simp] theorem dropShadow_time (s : State) : (dropShadow s).time = s.time := (rfl)
@[simp] theorem dropShadow_mast (s : State) : (dropShadow s).mast = s.mast := (rfl)
@[simp] theorem dropShadow_port (s : State) : (dropShadow s).port = s.port := (rfl)
@[simp] theorem dropShadow_pk (s : State) : (dropShadow s).pk = s.pk := (rfl)
@[simp] theorem dropShadow_hk (s : State) : (dropShadow s).hk = s.hk := (rfl)
@[simp] theorem dropShadow_sk (s : State) : (dropShadow s).sk = s.sk := (rfl)
@[simp] theorem dropShadow_host (s : State) : (dropShadow s).host = s.host := (rfl)
@[simp] theorem dropShadow_cmd (s : State) : (dropShadow s).cmd = s.cmd := (rfl)
@[simp] theorem dropShadow_out (s : State) : (dropShadow s).out = s.out := (rfl)
@[simp] theorem dropShadow_flt (s : State) : (dropShadow s).flt = s.flt := (rfl)
@[simp] theorem dropShadow_epochs (s : State) : (dropShadow s).epochs = s.epochs := (rfl)
@[simp] theorem dropShadow_regs (s : State) : (dropShadow s).regs = s.regs := (rfl)
@[simp] theorem dropShadow_power (s : State) : (dropShadow s).power = s.power := (rfl)
@[simp] theorem dropShadow_sec (s : State) : (dropShadow s).sec = s.sec := (rfl)
@[simp] theorem dropShadow_boot (s : State) : (dropShadow s).boot = s.boot := (rfl)
@[simp] theorem dropShadow_deviceId (s : State) : (dropShadow s).deviceId = s.deviceId := (rfl)
@[simp] theorem dropShadow_freeCtr (s : State) : (dropShadow s).freeCtr = s.freeCtr := (rfl)

/-! `switchLost` -/

@[simp] theorem switchLost_pending (t : TimedCmd) (s : State) :
    (switchLost t s).pending = s.pending := by
  unfold switchLost
  repeat' (first | rfl | (simp; done) | split)
@[simp] theorem switchLost_time (t : TimedCmd) (s : State) :
    (switchLost t s).time = s.time := by
  unfold switchLost
  repeat' (first | rfl | (simp; done) | split)
@[simp] theorem switchLost_mast (t : TimedCmd) (s : State) :
    (switchLost t s).mast = s.mast := by
  unfold switchLost
  repeat' (first | rfl | (simp; done) | split)
@[simp] theorem switchLost_port (t : TimedCmd) (s : State) :
    (switchLost t s).port = s.port := by
  unfold switchLost
  repeat' (first | rfl | (simp; done) | split)
@[simp] theorem switchLost_pk (t : TimedCmd) (s : State) :
    (switchLost t s).pk = s.pk := by
  unfold switchLost
  repeat' (first | rfl | (simp; done) | split)
@[simp] theorem switchLost_hk (t : TimedCmd) (s : State) :
    (switchLost t s).hk = s.hk := by
  unfold switchLost
  repeat' (first | rfl | (simp; done) | split)
@[simp] theorem switchLost_host (t : TimedCmd) (s : State) :
    (switchLost t s).host = s.host := by
  unfold switchLost
  repeat' (first | rfl | (simp; done) | split)
@[simp] theorem switchLost_cmd (t : TimedCmd) (s : State) :
    (switchLost t s).cmd = s.cmd := by
  unfold switchLost
  repeat' (first | rfl | (simp; done) | split)
@[simp] theorem switchLost_flt (t : TimedCmd) (s : State) :
    (switchLost t s).flt = s.flt := by
  unfold switchLost
  repeat' (first | rfl | (simp; done) | split)
@[simp] theorem switchLost_epochs (t : TimedCmd) (s : State) :
    (switchLost t s).epochs = s.epochs := by
  unfold switchLost
  repeat' (first | rfl | (simp; done) | split)
@[simp] theorem switchLost_power (t : TimedCmd) (s : State) :
    (switchLost t s).power = s.power := by
  unfold switchLost
  repeat' (first | rfl | (simp; done) | split)
@[simp] theorem switchLost_sec (t : TimedCmd) (s : State) :
    (switchLost t s).sec = s.sec := by
  unfold switchLost
  repeat' (first | rfl | (simp; done) | split)
@[simp] theorem switchLost_deviceId (t : TimedCmd) (s : State) :
    (switchLost t s).deviceId = s.deviceId := by
  unfold switchLost
  repeat' (first | rfl | (simp; done) | split)
@[simp] theorem switchLost_freeCtr (t : TimedCmd) (s : State) :
    (switchLost t s).freeCtr = s.freeCtr := by
  unfold switchLost
  repeat' (first | rfl | (simp; done) | split)

/-! `timedReply` -/

@[simp] theorem timedReply_pending (t : TimedCmd) (st : Status) (detail : ℕ) (result : List W) (s : State) :
    (timedReply t st detail result s).pending = s.pending := by
  unfold timedReply
  repeat' (first | rfl | (simp; done) | split)
@[simp] theorem timedReply_time (t : TimedCmd) (st : Status) (detail : ℕ) (result : List W) (s : State) :
    (timedReply t st detail result s).time = s.time := by
  unfold timedReply
  repeat' (first | rfl | (simp; done) | split)
@[simp] theorem timedReply_mast (t : TimedCmd) (st : Status) (detail : ℕ) (result : List W) (s : State) :
    (timedReply t st detail result s).mast = s.mast := by
  unfold timedReply
  repeat' (first | rfl | (simp; done) | split)
@[simp] theorem timedReply_rig (t : TimedCmd) (st : Status) (detail : ℕ) (result : List W) (s : State) :
    (timedReply t st detail result s).rig = s.rig := by
  unfold timedReply
  repeat' (first | rfl | (simp; done) | split)
@[simp] theorem timedReply_port (t : TimedCmd) (st : Status) (detail : ℕ) (result : List W) (s : State) :
    (timedReply t st detail result s).port = s.port := by
  unfold timedReply
  repeat' (first | rfl | (simp; done) | split)
@[simp] theorem timedReply_pk (t : TimedCmd) (st : Status) (detail : ℕ) (result : List W) (s : State) :
    (timedReply t st detail result s).pk = s.pk := by
  unfold timedReply
  repeat' (first | rfl | (simp; done) | split)
@[simp] theorem timedReply_hk (t : TimedCmd) (st : Status) (detail : ℕ) (result : List W) (s : State) :
    (timedReply t st detail result s).hk = s.hk := by
  unfold timedReply
  repeat' (first | rfl | (simp; done) | split)
@[simp] theorem timedReply_sk (t : TimedCmd) (st : Status) (detail : ℕ) (result : List W) (s : State) :
    (timedReply t st detail result s).sk = s.sk := by
  unfold timedReply
  repeat' (first | rfl | (simp; done) | split)
@[simp] theorem timedReply_cmd (t : TimedCmd) (st : Status) (detail : ℕ) (result : List W) (s : State) :
    (timedReply t st detail result s).cmd = s.cmd := by
  unfold timedReply
  repeat' (first | rfl | (simp; done) | split)
@[simp] theorem timedReply_flt (t : TimedCmd) (st : Status) (detail : ℕ) (result : List W) (s : State) :
    (timedReply t st detail result s).flt = s.flt := by
  unfold timedReply
  repeat' (first | rfl | (simp; done) | split)
@[simp] theorem timedReply_epochs (t : TimedCmd) (st : Status) (detail : ℕ) (result : List W) (s : State) :
    (timedReply t st detail result s).epochs = s.epochs := by
  unfold timedReply
  repeat' (first | rfl | (simp; done) | split)
@[simp] theorem timedReply_power (t : TimedCmd) (st : Status) (detail : ℕ) (result : List W) (s : State) :
    (timedReply t st detail result s).power = s.power := by
  unfold timedReply
  repeat' (first | rfl | (simp; done) | split)
@[simp] theorem timedReply_sec (t : TimedCmd) (st : Status) (detail : ℕ) (result : List W) (s : State) :
    (timedReply t st detail result s).sec = s.sec := by
  unfold timedReply
  repeat' (first | rfl | (simp; done) | split)
@[simp] theorem timedReply_boot (t : TimedCmd) (st : Status) (detail : ℕ) (result : List W) (s : State) :
    (timedReply t st detail result s).boot = s.boot := by
  unfold timedReply
  repeat' (first | rfl | (simp; done) | split)
@[simp] theorem timedReply_deviceId (t : TimedCmd) (st : Status) (detail : ℕ) (result : List W) (s : State) :
    (timedReply t st detail result s).deviceId = s.deviceId := by
  unfold timedReply
  repeat' (first | rfl | (simp; done) | split)
@[simp] theorem timedReply_freeCtr (t : TimedCmd) (st : Status) (detail : ℕ) (result : List W) (s : State) :
    (timedReply t st detail result s).freeCtr = s.freeCtr := by
  unfold timedReply
  repeat' (first | rfl | (simp; done) | split)

/-! `endTimed` -/

@[simp] theorem endTimed_pending (st : Status) (detail : ℕ) (p : TimedCmd → Bool) (s : State) :
    (endTimed st detail p s).pending = s.pending := by
  simp [endTimed]
@[simp] theorem endTimed_time (st : Status) (detail : ℕ) (p : TimedCmd → Bool) (s : State) :
    (endTimed st detail p s).time = s.time := by
  simp [endTimed]
@[simp] theorem endTimed_mast (st : Status) (detail : ℕ) (p : TimedCmd → Bool) (s : State) :
    (endTimed st detail p s).mast = s.mast := by
  simp [endTimed]
@[simp] theorem endTimed_port (st : Status) (detail : ℕ) (p : TimedCmd → Bool) (s : State) :
    (endTimed st detail p s).port = s.port := by
  simp [endTimed]
@[simp] theorem endTimed_pk (st : Status) (detail : ℕ) (p : TimedCmd → Bool) (s : State) :
    (endTimed st detail p s).pk = s.pk := by
  simp [endTimed]
@[simp] theorem endTimed_hk (st : Status) (detail : ℕ) (p : TimedCmd → Bool) (s : State) :
    (endTimed st detail p s).hk = s.hk := by
  simp [endTimed]
@[simp] theorem endTimed_flt (st : Status) (detail : ℕ) (p : TimedCmd → Bool) (s : State) :
    (endTimed st detail p s).flt = s.flt := by
  simp [endTimed]
@[simp] theorem endTimed_epochs (st : Status) (detail : ℕ) (p : TimedCmd → Bool) (s : State) :
    (endTimed st detail p s).epochs = s.epochs := by
  simp [endTimed]
@[simp] theorem endTimed_power (st : Status) (detail : ℕ) (p : TimedCmd → Bool) (s : State) :
    (endTimed st detail p s).power = s.power := by
  simp [endTimed]
@[simp] theorem endTimed_sec (st : Status) (detail : ℕ) (p : TimedCmd → Bool) (s : State) :
    (endTimed st detail p s).sec = s.sec := by
  simp [endTimed]
@[simp] theorem endTimed_deviceId (st : Status) (detail : ℕ) (p : TimedCmd → Bool) (s : State) :
    (endTimed st detail p s).deviceId = s.deviceId := by
  simp [endTimed]
@[simp] theorem endTimed_freeCtr (st : Status) (detail : ℕ) (p : TimedCmd → Bool) (s : State) :
    (endTimed st detail p s).freeCtr = s.freeCtr := by
  simp [endTimed]

/-! `State.without` -/

@[simp] theorem State.without_pending (s : State) (c : Cmd) : (s.without c).pending = s.pending := (rfl)
@[simp] theorem State.without_time (s : State) (c : Cmd) : (s.without c).time = s.time := (rfl)
@[simp] theorem State.without_mast (s : State) (c : Cmd) : (s.without c).mast = s.mast := (rfl)
@[simp] theorem State.without_rig (s : State) (c : Cmd) : (s.without c).rig = s.rig := (rfl)
@[simp] theorem State.without_port (s : State) (c : Cmd) : (s.without c).port = s.port := (rfl)
@[simp] theorem State.without_pk (s : State) (c : Cmd) : (s.without c).pk = s.pk := (rfl)
@[simp] theorem State.without_hk (s : State) (c : Cmd) : (s.without c).hk = s.hk := (rfl)
@[simp] theorem State.without_sk (s : State) (c : Cmd) : (s.without c).sk = s.sk := (rfl)
@[simp] theorem State.without_host (s : State) (c : Cmd) : (s.without c).host = s.host := (rfl)
@[simp] theorem State.without_out (s : State) (c : Cmd) : (s.without c).out = s.out := (rfl)
@[simp] theorem State.without_flt (s : State) (c : Cmd) : (s.without c).flt = s.flt := (rfl)
@[simp] theorem State.without_epochs (s : State) (c : Cmd) : (s.without c).epochs = s.epochs := (rfl)
@[simp] theorem State.without_regs (s : State) (c : Cmd) : (s.without c).regs = s.regs := (rfl)
@[simp] theorem State.without_power (s : State) (c : Cmd) : (s.without c).power = s.power := (rfl)
@[simp] theorem State.without_sec (s : State) (c : Cmd) : (s.without c).sec = s.sec := (rfl)
@[simp] theorem State.without_boot (s : State) (c : Cmd) : (s.without c).boot = s.boot := (rfl)
@[simp] theorem State.without_deviceId (s : State) (c : Cmd) : (s.without c).deviceId = s.deviceId := (rfl)
@[simp] theorem State.without_freeCtr (s : State) (c : Cmd) : (s.without c).freeCtr = s.freeCtr := (rfl)

/-! `holdTimed` -/

@[simp] theorem holdTimed_pending (code : ℕ) (c : Cmd) (s : State) :
    (holdTimed code c s).pending = s.pending := by
  simp [holdTimed]
@[simp] theorem holdTimed_time (code : ℕ) (c : Cmd) (s : State) :
    (holdTimed code c s).time = s.time := by
  simp [holdTimed]
@[simp] theorem holdTimed_mast (code : ℕ) (c : Cmd) (s : State) :
    (holdTimed code c s).mast = s.mast := by
  simp [holdTimed]
@[simp] theorem holdTimed_port (code : ℕ) (c : Cmd) (s : State) :
    (holdTimed code c s).port = s.port := by
  simp [holdTimed]
@[simp] theorem holdTimed_pk (code : ℕ) (c : Cmd) (s : State) :
    (holdTimed code c s).pk = s.pk := by
  simp [holdTimed]
@[simp] theorem holdTimed_hk (code : ℕ) (c : Cmd) (s : State) :
    (holdTimed code c s).hk = s.hk := by
  simp [holdTimed]
@[simp] theorem holdTimed_flt (code : ℕ) (c : Cmd) (s : State) :
    (holdTimed code c s).flt = s.flt := by
  simp [holdTimed]
@[simp] theorem holdTimed_epochs (code : ℕ) (c : Cmd) (s : State) :
    (holdTimed code c s).epochs = s.epochs := by
  simp [holdTimed]
@[simp] theorem holdTimed_power (code : ℕ) (c : Cmd) (s : State) :
    (holdTimed code c s).power = s.power := by
  simp [holdTimed]
@[simp] theorem holdTimed_sec (code : ℕ) (c : Cmd) (s : State) :
    (holdTimed code c s).sec = s.sec := by
  simp [holdTimed]
@[simp] theorem holdTimed_deviceId (code : ℕ) (c : Cmd) (s : State) :
    (holdTimed code c s).deviceId = s.deviceId := by
  simp [holdTimed]
@[simp] theorem holdTimed_freeCtr (code : ℕ) (c : Cmd) (s : State) :
    (holdTimed code c s).freeCtr = s.freeCtr := by
  simp [holdTimed]

/-! `work` -/

@[simp] theorem work_pending (d : ℕ) (s : State) :
    (work d s).pending = s.pending := by
  unfold work
  repeat' (first | rfl | (simp; done) | split)
@[simp] theorem work_time (d : ℕ) (s : State) :
    (work d s).time = s.time := by
  unfold work
  repeat' (first | rfl | (simp; done) | split)
@[simp] theorem work_mast (d : ℕ) (s : State) :
    (work d s).mast = s.mast := by
  unfold work
  repeat' (first | rfl | (simp; done) | split)
@[simp] theorem work_rig (d : ℕ) (s : State) :
    (work d s).rig = s.rig := by
  unfold work
  repeat' (first | rfl | (simp; done) | split)
@[simp] theorem work_port (d : ℕ) (s : State) :
    (work d s).port = s.port := by
  unfold work
  repeat' (first | rfl | (simp; done) | split)
@[simp] theorem work_pk (d : ℕ) (s : State) :
    (work d s).pk = s.pk := by
  unfold work
  repeat' (first | rfl | (simp; done) | split)
@[simp] theorem work_hk (d : ℕ) (s : State) :
    (work d s).hk = s.hk := by
  unfold work
  repeat' (first | rfl | (simp; done) | split)
@[simp] theorem work_sk (d : ℕ) (s : State) :
    (work d s).sk = s.sk := by
  unfold work
  repeat' (first | rfl | (simp; done) | split)
@[simp] theorem work_host (d : ℕ) (s : State) :
    (work d s).host = s.host := by
  unfold work
  repeat' (first | rfl | (simp; done) | split)
@[simp] theorem work_cmd (d : ℕ) (s : State) :
    (work d s).cmd = s.cmd := by
  unfold work
  repeat' (first | rfl | (simp; done) | split)
@[simp] theorem work_out (d : ℕ) (s : State) :
    (work d s).out = s.out := by
  unfold work
  repeat' (first | rfl | (simp; done) | split)
@[simp] theorem work_flt (d : ℕ) (s : State) :
    (work d s).flt = s.flt := by
  unfold work
  repeat' (first | rfl | (simp; done) | split)
@[simp] theorem work_epochs (d : ℕ) (s : State) :
    (work d s).epochs = s.epochs := by
  unfold work
  repeat' (first | rfl | (simp; done) | split)
@[simp] theorem work_regs (d : ℕ) (s : State) :
    (work d s).regs = s.regs := by
  unfold work
  repeat' (first | rfl | (simp; done) | split)
@[simp] theorem work_sec (d : ℕ) (s : State) :
    (work d s).sec = s.sec := by
  unfold work
  repeat' (first | rfl | (simp; done) | split)
@[simp] theorem work_boot (d : ℕ) (s : State) :
    (work d s).boot = s.boot := by
  unfold work
  repeat' (first | rfl | (simp; done) | split)
@[simp] theorem work_deviceId (d : ℕ) (s : State) :
    (work d s).deviceId = s.deviceId := by
  unfold work
  repeat' (first | rfl | (simp; done) | split)
@[simp] theorem work_freeCtr (d : ℕ) (s : State) :
    (work d s).freeCtr = s.freeCtr := by
  unfold work
  repeat' (first | rfl | (simp; done) | split)

/-! `postHook` -/

@[simp] theorem postHook_pending (q : ℕ) (e : HkEvent) (s : State) :
    (postHook q e s).pending = s.pending := by
  unfold postHook
  repeat' (first | rfl | (simp; done) | split)
@[simp] theorem postHook_time (q : ℕ) (e : HkEvent) (s : State) :
    (postHook q e s).time = s.time := by
  unfold postHook
  repeat' (first | rfl | (simp; done) | split)
@[simp] theorem postHook_mast (q : ℕ) (e : HkEvent) (s : State) :
    (postHook q e s).mast = s.mast := by
  unfold postHook
  repeat' (first | rfl | (simp; done) | split)
@[simp] theorem postHook_rig (q : ℕ) (e : HkEvent) (s : State) :
    (postHook q e s).rig = s.rig := by
  unfold postHook
  repeat' (first | rfl | (simp; done) | split)
@[simp] theorem postHook_port (q : ℕ) (e : HkEvent) (s : State) :
    (postHook q e s).port = s.port := by
  unfold postHook
  repeat' (first | rfl | (simp; done) | split)
@[simp] theorem postHook_pk (q : ℕ) (e : HkEvent) (s : State) :
    (postHook q e s).pk = s.pk := by
  unfold postHook
  repeat' (first | rfl | (simp; done) | split)
@[simp] theorem postHook_sk (q : ℕ) (e : HkEvent) (s : State) :
    (postHook q e s).sk = s.sk := by
  unfold postHook
  repeat' (first | rfl | (simp; done) | split)
@[simp] theorem postHook_epochs (q : ℕ) (e : HkEvent) (s : State) :
    (postHook q e s).epochs = s.epochs := by
  unfold postHook
  repeat' (first | rfl | (simp; done) | split)
@[simp] theorem postHook_sec (q : ℕ) (e : HkEvent) (s : State) :
    (postHook q e s).sec = s.sec := by
  unfold postHook
  repeat' (first | rfl | (simp; done) | split)
@[simp] theorem postHook_boot (q : ℕ) (e : HkEvent) (s : State) :
    (postHook q e s).boot = s.boot := by
  unfold postHook
  repeat' (first | rfl | (simp; done) | split)
@[simp] theorem postHook_deviceId (q : ℕ) (e : HkEvent) (s : State) :
    (postHook q e s).deviceId = s.deviceId := by
  unfold postHook
  repeat' (first | rfl | (simp; done) | split)
@[simp] theorem postHook_freeCtr (q : ℕ) (e : HkEvent) (s : State) :
    (postHook q e s).freeCtr = s.freeCtr := by
  unfold postHook
  repeat' (first | rfl | (simp; done) | split)

/-! `secInt` -/

@[simp] theorem secInt_pending (bit : ℕ) (s : State) :
    (secInt bit s).pending = s.pending := by
  unfold secInt
  repeat' (first | rfl | (simp; done) | split)
@[simp] theorem secInt_time (bit : ℕ) (s : State) :
    (secInt bit s).time = s.time := by
  unfold secInt
  repeat' (first | rfl | (simp; done) | split)
@[simp] theorem secInt_mast (bit : ℕ) (s : State) :
    (secInt bit s).mast = s.mast := by
  unfold secInt
  repeat' (first | rfl | (simp; done) | split)
@[simp] theorem secInt_rig (bit : ℕ) (s : State) :
    (secInt bit s).rig = s.rig := by
  unfold secInt
  repeat' (first | rfl | (simp; done) | split)
@[simp] theorem secInt_port (bit : ℕ) (s : State) :
    (secInt bit s).port = s.port := by
  unfold secInt
  repeat' (first | rfl | (simp; done) | split)
@[simp] theorem secInt_pk (bit : ℕ) (s : State) :
    (secInt bit s).pk = s.pk := by
  unfold secInt
  repeat' (first | rfl | (simp; done) | split)
@[simp] theorem secInt_hk (bit : ℕ) (s : State) :
    (secInt bit s).hk = s.hk := by
  unfold secInt
  repeat' (first | rfl | (simp; done) | split)
@[simp] theorem secInt_sk (bit : ℕ) (s : State) :
    (secInt bit s).sk = s.sk := by
  unfold secInt
  repeat' (first | rfl | (simp; done) | split)
@[simp] theorem secInt_host (bit : ℕ) (s : State) :
    (secInt bit s).host = s.host := by
  unfold secInt
  repeat' (first | rfl | (simp; done) | split)
@[simp] theorem secInt_cmd (bit : ℕ) (s : State) :
    (secInt bit s).cmd = s.cmd := by
  unfold secInt
  repeat' (first | rfl | (simp; done) | split)
@[simp] theorem secInt_flt (bit : ℕ) (s : State) :
    (secInt bit s).flt = s.flt := by
  unfold secInt
  repeat' (first | rfl | (simp; done) | split)
@[simp] theorem secInt_epochs (bit : ℕ) (s : State) :
    (secInt bit s).epochs = s.epochs := by
  unfold secInt
  repeat' (first | rfl | (simp; done) | split)
@[simp] theorem secInt_power (bit : ℕ) (s : State) :
    (secInt bit s).power = s.power := by
  unfold secInt
  repeat' (first | rfl | (simp; done) | split)
@[simp] theorem secInt_sec (bit : ℕ) (s : State) :
    (secInt bit s).sec = s.sec := by
  unfold secInt
  repeat' (first | rfl | (simp; done) | split)
@[simp] theorem secInt_boot (bit : ℕ) (s : State) :
    (secInt bit s).boot = s.boot := by
  unfold secInt
  repeat' (first | rfl | (simp; done) | split)
@[simp] theorem secInt_deviceId (bit : ℕ) (s : State) :
    (secInt bit s).deviceId = s.deviceId := by
  unfold secInt
  repeat' (first | rfl | (simp; done) | split)
@[simp] theorem secInt_freeCtr (bit : ℕ) (s : State) :
    (secInt bit s).freeCtr = s.freeCtr := by
  unfold secInt
  repeat' (first | rfl | (simp; done) | split)

end Sys2Proof.Machine
end

