-- ==== Sys2Proof/Laws/Table.lean ====
section
/-! SUPPORT. Laws of tables: what a key reads as after a write, and that every operation keeps the canonical form. -/

namespace Sys2Proof.Machine

variable {α : Type}

@[simp] theorem tget_nil (d : α) (a : Nat) : tget d [] a = d := rfl

@[simp] theorem tget_terase_self (d : α) (t : Tbl α) (a : Nat) : tget d (terase t a) a = d := by
  induction t with
  | nil => rfl
  | cons x r ih =>
    obtain ⟨k, v⟩ := x
    by_cases h : a = k <;> simp [terase, tget, h] <;> simpa [h] using ih

theorem tget_terase_ne (d : α) (t : Tbl α) {a b : Nat} (h : b ≠ a) : tget d (terase t a) b = tget d t b := by
  induction t with
  | nil => rfl
  | cons x r ih =>
    obtain ⟨k, v⟩ := x
    by_cases hk : a = k
    · subst hk; simp [terase, tget, h, ih]
    · simp [terase, tget, hk, ih]

variable [DecidableEq α]

/-- A key that was written reads as what was written. -/
@[simp] theorem tget_tset_self (d : α) (t : Tbl α) (a : Nat) (v : α) : tget d (tset d t a v) a = v := by
  induction t with
  | nil => by_cases h : v = d <;> simp [tset, tget, h]
  | cons x r ih =>
    obtain ⟨k, w⟩ := x
    unfold tset
    by_cases h1 : a < k
    · have hk : a ≠ k := by omega
      by_cases h2 : v = d <;> simp [h1, h2, tget, hk]
    · by_cases h3 : a = k
      · by_cases h2 : v = d <;> simp [h2, h3, tget]
      · simp [h1, h3, tget, ih]

/-- A write leaves every other key alone, whatever an unlisted key reads as. -/
theorem tget_tset_ne (d e : α) (t : Tbl α) {a b : Nat} (v : α) (h : b ≠ a) : tget e (tset d t a v) b = tget e t b := by
  induction t with
  | nil => by_cases h2 : v = d <;> simp [tset, tget, h2, h]
  | cons x r ih =>
    obtain ⟨k, w⟩ := x
    unfold tset
    by_cases h1 : a < k
    · by_cases h2 : v = d <;> simp [h1, h2, tget, h, tget_terase_ne e r h]
    · by_cases h3 : a = k
      · have hk : b ≠ k := by omega
        by_cases h2 : v = d <;> simp [h2, h3, tget, hk]
        exact tget_terase_ne e r hk
      · simp [h1, h3, tget, ih]

/-- What a table reads as after a write. -/
theorem tget_tset (d : α) (t : Tbl α) (a b : Nat) (v : α) :
    tget d (tset d t a v) b = if b = a then v else tget d t b := by
  by_cases h : b = a
  · simp [h]
  · simp [h, tget_tset_ne]

/-! ### The canonical form -/

theorem keysAbove_mono {b c : Nat} (h : c ≤ b) (t : Tbl α) (k : keysAbove b t = true) : keysAbove c t = true := by
  induction t with
  | nil => rfl
  | cons x r ih =>
    obtain ⟨y, v⟩ := x
    simp only [keysAbove, Bool.and_eq_true, decide_eq_true_eq] at k ⊢
    exact ⟨by omega, ih k.2⟩

theorem terase_of_above {a : Nat} (t : Tbl α) (k : keysAbove a t = true) : terase t a = t := by
  induction t with
  | nil => rfl
  | cons x r ih =>
    obtain ⟨y, v⟩ := x
    simp only [keysAbove, Bool.and_eq_true, decide_eq_true_eq] at k
    have hne : a ≠ y := by omega
    simp [terase, hne, ih k.2]

theorem keysAbove_tset (d : α) {b a : Nat} (v : α) (t : Tbl α) (h : keysAbove b t = true) (hb : b < a) :
    keysAbove b (tset d t a v) = true := by
  induction t with
  | nil => by_cases h2 : v = d <;> simp [tset, keysAbove, h2, hb]
  | cons x r ih =>
    obtain ⟨k, w⟩ := x
    simp only [keysAbove, Bool.and_eq_true, decide_eq_true_eq] at h
    have hr : keysAbove b (terase r a) = true := by
      clear ih
      obtain ⟨_, h⟩ := h
      induction r with
      | nil => rfl
      | cons y q iq =>
        obtain ⟨j, u⟩ := y
        simp only [keysAbove, Bool.and_eq_true, decide_eq_true_eq] at h
        by_cases hj : a = j
        · simp [terase, hj]; simpa [hj] using iq h.2
        · simp [terase, hj, keysAbove, h.1, iq h.2]
    unfold tset
    by_cases h1 : a < k
    · by_cases h2 : v = d
      · simp [h1, h2, keysAbove, h.1, hr]
      · simp [h1, h2, keysAbove, h.1, h.2, hb]
    · by_cases h3 : a = k
      · subst h3
        by_cases h2 : v = d
        · simpa [h2] using hr
        · simp [h2, keysAbove, h.1, h.2]
      · simp [h1, h3, keysAbove, h.1, ih h.2]

/-- A write keeps the canonical form. -/
theorem wf_tset (d : α) (t : Tbl α) (a : Nat) (v : α) (h : Tbl.wf d t = true) : Tbl.wf d (tset d t a v) = true := by
  induction t with
  | nil => by_cases h2 : v = d <;> simp [tset, Tbl.wf, keysAbove, h2]
  | cons x r ih =>
    obtain ⟨k, w⟩ := x
    simp only [Tbl.wf, Bool.and_eq_true] at h
    obtain ⟨⟨hw, hk⟩, hr⟩ := h
    unfold tset
    by_cases h1 : a < k
    · have ha : keysAbove a r = true := keysAbove_mono (by omega) r hk
      by_cases h2 : v = d
      · simp [h1, h2, Tbl.wf, terase_of_above r ha, hw, hk, hr]
      · simp [h1, h2, Tbl.wf, keysAbove, hk, hr, ha]; simpa using hw
    · by_cases h3 : a = k
      · subst h3
        by_cases h2 : v = d
        · simp [h2, terase_of_above r hk, hr]
        · simp [h2, Tbl.wf, hk, hr]
      · simp only [h1, h3, if_false, Tbl.wf, Bool.and_eq_true]
        exact ⟨⟨hw, keysAbove_tset d v r hk (by omega)⟩, ih hr⟩

/-- Changing listed values keeps the canonical form. -/
theorem wf_tmapv (d : α) (f : Nat → α → α) (t : Tbl α) : Tbl.wf d (tmapv d f t) = true := by
  have key : ∀ (l : Tbl α) (r : Tbl α), Tbl.wf d r = true →
      Tbl.wf d (l.foldl (fun r x => tset d r x.1 (f x.1 x.2)) r) = true := by
    intro l
    induction l with
    | nil => exact fun r h => h
    | cons x l ih => exact fun r h => ih _ (wf_tset d r x.1 _ h)
  exact key t [] rfl

/-- Taking entries out keeps the canonical form. -/
theorem wf_filter (d : α) (p : Nat × α → Bool) (t : Tbl α) (h : Tbl.wf d t = true) : Tbl.wf d (t.filter p) = true := by
  have above : ∀ (b : Nat) (r : Tbl α), keysAbove b r = true → keysAbove b (r.filter p) = true := by
    intro b r
    induction r with
    | nil => exact fun h => h
    | cons y r ih =>
      intro h
      simp only [keysAbove, Bool.and_eq_true, decide_eq_true_eq] at h
      by_cases hp : p y = true <;> simp [hp, keysAbove, h.1, ih h.2]
  induction t with
  | nil => rfl
  | cons x r ih =>
    obtain ⟨k, v⟩ := x
    simp only [Tbl.wf, Bool.and_eq_true] at h
    by_cases hp : p (k, v) = true
    · simp only [List.filter_cons, hp, if_true, Tbl.wf, Bool.and_eq_true]
      exact ⟨⟨h.1.1, above k r h.1.2⟩, ih h.2⟩
    · simp only [List.filter_cons, hp]
      exact ih h.2

end Sys2Proof.Machine
end

