-- ==== Sys2Proof/Laws/Command.lean ====
section
/-! SUPPORT. What taking a command packet comes to: a command that is taken and whose body is done has the body's effect, is counted and
answered; and the reply that `sendReply` leaves. -/

namespace Sys2Proof.Machine

@[simp] theorem signal_replies (s : State) (x : Signal) : (s.signal x).out.replies = s.out.replies := rfl
@[simp] theorem hostWrite_replies (fn addr : ℕ) (b : List Byte) (p : Bool) (s : State) :
    (hostWrite fn addr b p s).out.replies = s.out.replies := rfl
@[simp] theorem mgmtFrameOut_replies (typ port dmac : ℕ) (w : List W) (s : State) :
    (mgmtFrameOut typ port dmac w s).out.replies = s.out.replies := rfl
@[simp] theorem fnSignal_replies (f v : ℕ) (s : State) : (fnSignal f v s).out.replies = s.out.replies := by
  unfold fnSignal; split <;> simp
@[simp] theorem raiseFn_replies (f b : ℕ) (s : State) : (raiseFn f b s).out.replies = s.out.replies := by
  simp only [raiseFn]; split <;> simp
@[simp] theorem pumpAdmin_replies (f n : ℕ) (s : State) : (pumpAdmin f n s).out.replies = s.out.replies := by
  induction n generalizing s with
  | zero => rfl
  | succ n ih =>
    simp only [pumpAdmin]
    split
    · rfl
    · split
      · rfl
      · rw [ih]; simp
@[simp] theorem adminEntry_replies (f : ℕ) (e : List W) (s : State) : (adminEntry f e s).out.replies = s.out.replies := by
  simp [adminEntry]

/-- Delivering a reply adds no reply. -/
@[simp] theorem deliverReply_replies (c : Cmd) (w0 w1 : W) (l : List W) (s : State) :
    (deliverReply c w0 w1 l s).out.replies = s.out.replies := by
  unfold deliverReply
  split
  · simp
  · split
    · rfl
    · dsimp only; split <;> simp
  · simp

theorem nfld_lt (n hi lo : ℕ) : nfld n hi lo < 2 ^ (hi + 1 - lo) := Nat.mod_lt _ (by positivity)

theorem fld_lt (w : W) (hi lo : ℕ) : fld w hi lo < 2 ^ (hi + 1 - lo) := nfld_lt _ _ _

theorem b2n_le (b : Bool) : b2n b ≤ 1 := by cases b <;> simp [b2n]

/-- The codes of Table 13-9 fit their field. -/
theorem status_code_lt (st : Status) : st.code < 65536 := by cases st <;> decide

/-- What a reply's header words say (Tables 13-3 and 13-4). -/
theorem reply_fields (op v b tag n st d e x : ℕ) (ho : op < 65536) (hb : b ≤ 1) (ht : tag < 65536) (hs : st < 65536) (hx : x < 65536)
    (he : e < 4096) :
    fld (BitVec.ofNat 64 (op * 2 ^ 48 + v % 4 * 2 ^ 46 + b * 2 ^ 45 + tag * 2 ^ 16 + n % 65536)) 63 48 = op
    ∧ bitAt (BitVec.ofNat 64 (op * 2 ^ 48 + v % 4 * 2 ^ 46 + b * 2 ^ 45 + tag * 2 ^ 16 + n % 65536)) 45 = decide (b = 1)
    ∧ fld (BitVec.ofNat 64 (op * 2 ^ 48 + v % 4 * 2 ^ 46 + b * 2 ^ 45 + tag * 2 ^ 16 + n % 65536)) 31 16 = tag
    ∧ fld (BitVec.ofNat 64 (st * 2 ^ 48 + d % 65536 * 2 ^ 32 + e * 2 ^ 20 + x)) 63 48 = st
    ∧ fld (BitVec.ofNat 64 (st * 2 ^ 48 + d % 65536 * 2 ^ 32 + e * 2 ^ 20 + x)) 47 32 = d % 65536 := by
  refine ⟨?_, ?_, ?_, ?_, ?_⟩
  · simp only [fld, nfld, BitVec.toNat_ofNat]; omega
  · simp only [bitAt, BitVec.getLsbD_ofNat, Nat.testBit_eq_decide_div_mod_eq]; norm_num
    constructor <;> intro h <;> omega
  · simp only [fld, nfld, BitVec.toNat_ofNat]; omega
  · simp only [fld, nfld, BitVec.toNat_ofNat]; omega
  · simp only [fld, nfld, BitVec.toNat_ofNat]; omega

/-- The checksum of a header fits its field. -/
theorem crc16_lt (l : List Byte) : crc16 l < 65536 := by
  have bit : ∀ (c : ℕ) (b : Bool), c < 65536 → crc16Bit c b < 65536 := by
    intro c b _
    have h1 : c * 2 % 65536 < 65536 := Nat.mod_lt _ (by norm_num)
    unfold crc16Bit
    dsimp only
    split
    · exact Nat.xor_lt_two_pow (n := 16) h1 (by norm_num)
    · exact h1
  have byte : ∀ (m : List ℕ) (b : Byte) (c : ℕ), c < 65536 →
      m.foldl (fun c i => crc16Bit c (b.getLsbD (7 - i))) c < 65536 := by
    intro m b
    induction m with
    | nil => exact fun c h => h
    | cons i m ih => exact fun c h => ih _ (bit c _ h)
  have all : ∀ (m : List Byte) (c : ℕ), c < 65536 →
      m.foldl (fun c b => (List.range 8).foldl (fun c i => crc16Bit c (b.getLsbD (7 - i))) c) c < 65536 := by
    intro m
    induction m with
    | nil => exact fun c h => h
    | cons b m ih => exact fun c h => ih _ (byte _ b c h)
  exact all l _ (by norm_num)

/-- The checksum of a reply's header fits its field. -/
theorem replyCrc_lt (src : Source) (w0 w1 : W) : replyCrc src w0 w1 < 65536 := by
  unfold replyCrc
  split
  · exact crc16_lt _
  · norm_num

/-- A final reply answers its command. -/
theorem answers_sendReply (c : Cmd) (st : Status) (d : ℕ) (l : List W) (s : State) :
    Answers c st d l (sendReply c true st d l s) := by
  unfold Answers sendReply
  simp only [deliverReply_replies, List.getLast?_append, List.getLast?_singleton]
  refine ⟨_, rfl, rfl, ?_⟩
  have h := reply_fields c.opcode (if c.opcode = 1 ∧ st = .ok then s.cmdVersion c.src else c.version) (b2n true) c.tag (8 * l.length)
    st.code d (s.deviceId % 4096)
  obtain ⟨h1, h2, h3, h4, h5⟩ :=
    h _ (fld_lt _ _ _) (b2n_le _) (fld_lt _ _ _) (status_code_lt st) (replyCrc_lt _ _ _) (Nat.mod_lt _ (by norm_num))
  exact ⟨h1, h2.trans (by simp [b2n]), h3, h4, h5, rfl⟩

/-- Only the replies decide whether a command is answered. -/
theorem answers_congr {c : Cmd} {st : Status} {d : ℕ} {l : List W} {s t : State} (h : t.out = s.out) (a : Answers c st d l s) :
    Answers c st d l t := by
  unfold Answers at *
  rw [h]
  exact a

/-- A command that is taken is answered by what its body says (R287). -/
theorem runCommand_taken {code : ℕ} {dom : Cmd → State → Option ℕ} {body : CmdBody} {c : Cmd} {s : State} (h : Taken code dom c s) :
    runCommand code dom body c s = answer c (body c (noteIntake c s)) (noteIntake c s) := by
  obtain ⟨_, h4, hm, ho, ⟨_, _, hb⟩, hh, hr, hd, ht, hi, hq⟩ := h
  unfold runCommand
  have hr' : (!s.boot.ready && !earlyOpcode code) = false := by rcases hr with hr | hr <;> simp [hr]
  rw [if_neg (by omega), if_neg (by simp [hm]), if_neg (by omega)]
  simp only [hb, hh, hr', Bool.false_eq_true, if_false, ht, hi, hq]
  cases hx : dom c s with
  | none => rfl
  | some d =>
    have hd' : s.mustLeave d = false := by simpa [hx] using hd
    simp [hd']

/-- A command that is taken and whose body is done: the body's effect, the count, the reply. -/
theorem runCommand_done {code : ℕ} {dom : Cmd → State → Option ℕ} {body : CmdBody} {c : Cmd} {s u : State} {res : List W}
    (h : Taken code dom c s) (hb : body c (noteIntake c s) = .done res u) :
    runCommand code dom body c s = sendReply c true .ok 0 res (cntAccepted c u) := by
  rw [runCommand_taken h, hb]; rfl

/-- A command that is taken and whose body refuses it changes nothing but the intake, the count and the reply (R287). -/
theorem runCommand_refused {code : ℕ} {dom : Cmd → State → Option ℕ} {body : CmdBody} {c : Cmd} {s : State} {st : Status} {d : ℕ}
    (h : Taken code dom c s) (hb : body c (noteIntake c s) = .refuse st d) :
    runCommand code dom body c s = refuse c st d (noteIntake c s) := by
  rw [runCommand_taken h, hb]; rfl

/-- The end of a command that is no command of Mast time, on a part that runs. -/
theorem keep_live {s t : State} (h : Live s) (hm : t.mast.running = true) : keep s t = .next { t with pending := s.pending, time := s.time } := by
  simp [keep, h.1, timeAfter, hm]

/-- As above, of a command that leaves the Mast clock as it was. -/
theorem keep_live' {s t : State} (h : Live s) (hm : t.mast = s.mast) : keep s t = .next { t with pending := s.pending, time := s.time } :=
  keep_live h (by rw [hm, h.2])

/-- The row of a command packet whose turn has come takes it alone. -/
theorem commandRow_turn {run : State → State} {c : Cmd} {s : State} (h : Turn c s) : commandRow run c s = keep s (run s) := by
  simp [commandRow, inTurn, h.1, h.2.1]

/-- As above, for a row that may move Mast time. -/
theorem clockRow_turn {run : State → State} {c : Cmd} {s : State} (h : Turn c s) : clockRow run c s = keepTaken s (run s) := by
  simp [clockRow, inTurn, h.1, h.2.1]

/-! ### Frames -/

theorem Frame.refl (l : List Part) (s : State) : Frame l s s := ⟨rfl, fun p _ => by cases p <;> rfl⟩

theorem Frame.mono {l m : List Part} {s t : State} (h : ∀ p ∈ l, p ∈ m) (f : Frame l s t) : Frame m s t :=
  ⟨f.1, fun p hp => f.2 p fun hl => hp (h p hl)⟩

theorem Part.same_trans {p : Part} {s t u : State} (h : p.same s t) (k : p.same t u) : p.same s u := by
  cases p <;> exact Eq.trans k h

theorem Frame.trans {l : List Part} {s t u : State} (f : Frame l s t) (g : Frame l t u) : Frame l s u :=
  ⟨g.1.trans f.1, fun p hp => Part.same_trans (f.2 p hp) (g.2 p hp)⟩

/-! ### Registers -/

/-- A register that was written reads as what was written. -/
@[simp] theorem rg_setRg_self (s : State) (r : RegId) (ix : List ℕ) (v : W) : (s.setRg r ix v).rg r ix = v := by
  simp [State.rg, State.setRg]

/-- A write of a register leaves a register at another address alone. -/
theorem rg_setRg_ne (s : State) {r q : RegId} {ix jx : List ℕ} (v : W) (h : regAddr q jx ≠ regAddr r ix) :
    (s.setRg r ix v).rg q jx = s.rg q jx := by
  simp [State.rg, State.setRg, tget_tset_ne _ _ _ _ h]

theorem RegsBut.refl (l : List ℕ) (s : State) : RegsBut l s s := fun _ _ _ => rfl

theorem RegsBut.trans {l : List ℕ} {s t u : State} (h : RegsBut l s t) (k : RegsBut l t u) : RegsBut l s u :=
  fun r ix hr => (k r ix hr).trans (h r ix hr)

theorem RegsBut.mono {l m : List ℕ} {s t : State} (h : ∀ a ∈ l, a ∈ m) (f : RegsBut l s t) : RegsBut m s t :=
  fun r ix hr => f r ix fun hl => hr (h _ hl)

/-- Registers read as before where the store is the same. -/
theorem RegsBut.of_eq {l : List ℕ} {s t : State} (h : t.regs = s.regs) : RegsBut l s t :=
  fun r ix _ => by simp [State.rg, h]

theorem regsBut_setRg {l : List ℕ} (s : State) {r : RegId} {ix : List ℕ} (v : W) (h : regAddr r ix ∈ l) : RegsBut l s (s.setRg r ix v) :=
  fun q jx hq => rg_setRg_ne s v fun e => hq (e ▸ h)

theorem regsBut_bump {l : List ℕ} (s : State) {r : RegId} {ix : List ℕ} (hi lo n : ℕ) (h : regAddr r ix ∈ l) :
    RegsBut l s (s.bump r ix hi lo n) := regsBut_setRg s _ h

theorem regsBut_when {l : List ℕ} (c : Bool) (f : State → State) (s : State) (h : ∀ x, RegsBut l x (f x)) : RegsBut l s (when c f s) := by
  unfold when
  split
  · exact h s
  · exact RegsBut.refl l s

theorem regsBut_foldl {α : Type} {l : List ℕ} (m : List α) (f : State → α → State) (h : ∀ s x, RegsBut l s (f s x)) (s : State) :
    RegsBut l s (m.foldl f s) := by
  induction m generalizing s with
  | nil => exact RegsBut.refl l s
  | cons a m ih => exact RegsBut.trans (h s a) (ih _)

theorem regsBut_signalBlock {l : List ℕ} (b : ℕ) (s : State) (h : regAddr .intSignalCnt [] ∈ l) : RegsBut l s (signalBlock b s) := by
  unfold signalBlock
  split
  · exact RegsBut.trans (RegsBut.of_eq (by simp)) (regsBut_bump _ _ _ _ h)
  · exact RegsBut.refl l s
  · split
    · exact RegsBut.trans (RegsBut.of_eq (by simp)) (regsBut_bump _ _ _ _ h)
    · exact regsBut_bump _ _ _ _ h

theorem regsBut_intEdge {l : List ℕ} (b : ℕ) (f : State → State) (s : State) (hf : RegsBut l s (f s)) (h : regAddr .intSignalCnt [] ∈ l) :
    RegsBut l s (intEdge b f s) := by
  simp only [intEdge]
  split
  · exact RegsBut.trans hf (regsBut_signalBlock b _ h)
  · exact hf

/-- Raising an interrupt changes the INT_STATUS register it names and the count of signals. -/
theorem regsBut_raiseInt {l : List ℕ} (b : ℕ) (r : RegId) (ix : List ℕ) (bit : ℕ) (s : State) (hr : regAddr r ix ∈ l)
    (h : regAddr .intSignalCnt [] ∈ l) : RegsBut l s (raiseInt b r ix bit s) :=
  regsBut_intEdge b _ s (regsBut_setRg s _ hr) h

theorem regsBut_raiseFn {l : List ℕ} (f bit : ℕ) (s : State) (h : regAddr .fnIntStatus [f] ∈ l) : RegsBut l s (raiseFn f bit s) := by
  have hs : ∀ (v : W), RegsBut l s (s.setRg .fnIntStatus [f] v) := fun v => regsBut_setRg s v h
  simp only [raiseFn]
  split
  · exact RegsBut.trans (hs _) (RegsBut.of_eq (fnSignal_regs _ _ _))
  · exact hs _

theorem regsBut_pumpAdmin {l : List ℕ} (f n : ℕ) (s : State) (h : regAddr .fnIntStatus [f] ∈ l) : RegsBut l s (pumpAdmin f n s) := by
  induction n generalizing s with
  | zero => exact RegsBut.refl l s
  | succ n ih =>
    simp only [pumpAdmin]
    split
    · exact RegsBut.refl l s
    · split
      · exact RegsBut.refl l s
      · exact RegsBut.trans (RegsBut.trans (RegsBut.of_eq (by simp)) (regsBut_raiseFn _ _ _ h)) (ih _)

theorem regsBut_adminEntry {l : List ℕ} (f : ℕ) (e : List W) (s : State) (h : regAddr .fnIntStatus [f] ∈ l) :
    RegsBut l s (adminEntry f e s) := RegsBut.trans (RegsBut.of_eq (by simp)) (regsBut_pumpAdmin _ _ _ h)

theorem regsBut_deliverReply {l : List ℕ} (c : Cmd) (w0 w1 : W) (res : List W) (s : State)
    (h : regAddr .fnIntStatus [(srcFn c.src).getD 0] ∈ l) : RegsBut l s (deliverReply c w0 w1 res s) := by
  unfold deliverReply
  split
  · exact RegsBut.of_eq (by simp)
  · rename_i k hk _
    have hk' : regAddr .fnIntStatus [k] ∈ l := by rw [hk] at h; exact h
    split
    · exact RegsBut.of_eq rfl
    · refine RegsBut.trans (RegsBut.of_eq ?_) (regsBut_adminEntry _ _ _ hk')
      split <;> simp
  · exact RegsBut.of_eq (by simp)

/-- A reply changes FN_INT_STATUS of the source's function at most. -/
theorem regsBut_sendReply {l : List ℕ} (c : Cmd) (f : Bool) (st : Status) (d : ℕ) (res : List W) (s : State)
    (h : regAddr .fnIntStatus [(srcFn c.src).getD 0] ∈ l) : RegsBut l s (sendReply c f st d res s) :=
  RegsBut.trans (t := { s with out := { s.out with replies := s.out.replies ++ [_] } }) (RegsBut.of_eq rfl)
    (regsBut_deliverReply c _ _ res _ h)

/-! ### How a command that is taken completes -/

theorem noteIntake_regs' (c : Cmd) (s : State) : (noteIntake c s).regs = s.regs := by simp

/-- The rule by which the statements about commands are proved: the command is taken, its body is done with u, and u keeps to the frame. -/
theorem answered_of_done {i : Instr} {code : ℕ} {dom : Cmd → State → Option ℕ} {body : CmdBody} {c : Cmd} {s u : State} {res : List W}
    {l : List Part} {P : State → Prop} (hx : exec i s = commandRow (runCommand code dom body c) c s) (h : Taken code dom c s)
    (hb : body c (noteIntake c s) = .done res u) (hm : u.mast.running = true) (hf : ∀ p, p ∉ ([.host, .out, .regs] ++ l) → p ≠ .time →
      p.same (noteIntake c s) u) (hP : P { sendReply c true .ok 0 res (cntAccepted c u) with pending := s.pending, time := s.time }) :
    Answered i c s res l P := by
  refine ⟨_, ?_, ?_, ?_, hP⟩
  · rw [hx, commandRow_turn h.2.2.2.2.1, runCommand_done h hb]
    exact keep_live h.1 (by simpa using hm)
  · exact answers_congr rfl (answers_sendReply c .ok 0 res (cntAccepted c u))
  · refine ⟨by simp, fun p hp => ?_⟩
    by_cases ht : p = .time
    · subst ht; simp [Part.same]
    · have := hf p hp ht
      cases p <;> simp_all [Part.same]

/-- As above, with the registers that the body changes. -/
theorem completes_of_done {i : Instr} {code : ℕ} {dom : Cmd → State → Option ℕ} {body : CmdBody} {c : Cmd} {s u : State} {res : List W}
    {l : List Part} {ra : List ℕ} {P : State → Prop} (hx : exec i s = commandRow (runCommand code dom body c) c s) (h : Taken code dom c s)
    (hb : body c (noteIntake c s) = .done res u) (hm : u.mast.running = true) (hf : ∀ p, p ∉ ([.host, .out, .regs] ++ l) → p ≠ .time →
      p.same (noteIntake c s) u) (hr : RegsBut (cmdRegs c ++ ra) (noteIntake c s) u)
    (hP : P { sendReply c true .ok 0 res (cntAccepted c u) with pending := s.pending, time := s.time }) :
    Completes i c s res l ra P := by
  refine answered_of_done hx h hb hm hf ⟨?_, hP⟩
  refine RegsBut.trans (RegsBut.of_eq (by simp)) (RegsBut.trans hr (RegsBut.trans (regsBut_bump _ _ _ _ ?_)
    (RegsBut.trans (regsBut_sendReply _ _ _ _ _ _ ?_) (RegsBut.of_eq rfl)))) <;> simp [cmdRegs]

end Sys2Proof.Machine
end

