-- ==== Sys2Proof/Laws/More.lean ====
section
/-! SUPPORT. Small laws of the helpers that the statements speak of: bit lists, fields, the intake note, free values, table views. -/

namespace Sys2Proof.Machine

theorem mem_bitsOf (n m k : ℕ) : k ∈ bitsOf n m ↔ k < n ∧ m.testBit k = true := by simp [bitsOf]

theorem nodup_bitsOf (n m : ℕ) : (bitsOf n m).Nodup := List.Nodup.filter _ List.nodup_range

/-- A field has no bit above its width. -/
theorem fld_testBit_ge (w : W) (hi lo k : ℕ) (h : hi + 1 - lo ≤ k) : (fld w hi lo).testBit k = false := by
  apply Nat.testBit_lt_two_pow
  exact lt_of_lt_of_le (fld_lt w hi lo) (Nat.pow_le_pow_right (by norm_num) h)

/-! The packet noted at the intake changes nothing that a body looks at. -/

@[simp] theorem note_outstanding (c : Cmd) (s : State) (x : Source) : (noteIntake c s).outstanding x = s.outstanding x := by
  unfold noteIntake State.outstanding; split <;> rfl
@[simp] theorem note_routeOf (c : Cmd) (s : State) (k : ℕ) : (noteIntake c s).routeOf k = s.routeOf k := by
  unfold noteIntake State.routeOf; split <;> rfl
@[simp] theorem note_timed (c : Cmd) (s : State) : (noteIntake c s).cmd.timed = s.cmd.timed := by
  unfold noteIntake; split <;> rfl
@[simp] theorem note_version (c : Cmd) (s : State) : (noteIntake c s).cmd.version = s.cmd.version := by
  unfold noteIntake; split <;> rfl
@[simp] theorem note_route (c : Cmd) (s : State) : (noteIntake c s).cmd.route = s.cmd.route := by
  unfold noteIntake; split <;> rfl
@[simp] theorem note_subs (c : Cmd) (s : State) : (noteIntake c s).cmd.subs = s.cmd.subs := by
  unfold noteIntake; split <;> rfl
@[simp] theorem note_relays (c : Cmd) (s : State) : (noteIntake c s).cmd.relays = s.cmd.relays := by
  unfold noteIntake; split <;> rfl
@[simp] theorem note_waiting (c : Cmd) (s : State) : (noteIntake c s).cmd.waiting = s.cmd.waiting := by
  unfold noteIntake; split <;> rfl
@[simp] theorem note_opened (c : Cmd) (s : State) : (noteIntake c s).cmd.opened = s.cmd.opened := by
  unfold noteIntake; split <;> rfl
@[simp] theorem note_nextOrder (c : Cmd) (s : State) : (noteIntake c s).cmd.nextOrder = s.cmd.nextOrder := by
  unfold noteIntake; split <;> rfl
@[simp] theorem note_nextRelay (c : Cmd) (s : State) : (noteIntake c s).cmd.nextRelay = s.cmd.nextRelay := by
  unfold noteIntake; split <;> rfl
@[simp] theorem note_msixOff (c : Cmd) (s : State) : (noteIntake c s).cmd.msixOff = s.cmd.msixOff := by
  unfold noteIntake; split <;> rfl
@[simp] theorem note_rg (c : Cmd) (s : State) (r : RegId) (ix : List ℕ) : (noteIntake c s).rg r ix = s.rg r ix := by
  simp [State.rg]

/-- Taking a free value changes the counter behind the free values alone. -/
theorem takeFree_snd (s : State) : (takeFree s).2 = { s with freeCtr := s.freeCtr + 1 } := rfl

/-! Clean memories read as stored and take writes without a trace. -/

theorem tget_of_all {α : Type} (p : α → Bool) (d : α) (hd : p d = true) (t : Tbl α) (h : t.all (fun x => p x.2) = true) (k : ℕ) :
    p (tget d t k) = true := by
  induction t with
  | nil => simpa [tget]
  | cons x t ih =>
    obtain ⟨a, v⟩ := x
    simp only [List.all_cons, Bool.and_eq_true] at h
    simp only [tget]
    split
    · exact h.1
    · exact ih h.2

theorem clean_forced {s : State} (h : Clean s) (b n : ℕ) : (s.fault b n).forced = 0 ∧ (s.fault b n).flips = [] := by
  have := tget_of_all (fun x : FaultSrc => x.forced == 0 && x.flips == []) {} (by decide) _ h.2 (64 * b + n)
  simpa [State.fault] using this

theorem clean_memRead {s : State} (h : Clean s) (b n mem addr req : ℕ) : memRead b n mem addr req s = ⟨true, 0, s⟩ := by
  have e : ∀ k, tget 0 s.flt.ecc k = 0 := fun k => by rw [h.1]; rfl
  simp [Machine.memRead, eccReadAs, e, forcedFor, (clean_forced h b n).1, eccReport, when]

theorem clean_memReadN {s : State} (h : Clean s) (b n mem addr req k : ℕ) : memReadN b n mem addr req k s = (true, s) := by
  induction k generalizing addr with
  | zero => rfl
  | succ k ih => simp [Machine.memReadN, clean_memRead h, ih]

theorem clean_memWrite {s : State} (h : Clean s) (b n mem addr : ℕ) : memWrite b n mem addr s = s := by
  simp [Machine.memWrite, (clean_forced h b n).2, memClear, h.1]

theorem clean_memWriteN {s : State} (h : Clean s) (b n mem addr k : ℕ) : memWriteN b n mem addr k s = s := by
  induction k generalizing addr with
  | zero => rfl
  | succ k ih => simp [Machine.memWriteN, clean_memWrite h, ih]

theorem clean_data (w : W) (s : State) : (EccRead.mk true 0 s).data w = w := by simp [EccRead.data]

/-! What an event and a fault report change in the register store. -/

theorem regsBut_pumpEvents {l : List ℕ} (src : Source) (n : ℕ) (s : State) (h : regAddr .fnIntStatus [(srcFn src).getD 0] ∈ l) :
    RegsBut l s (pumpEvents src n s) := by
  induction n generalizing s with
  | zero => exact RegsBut.refl l s
  | succ n ih =>
    simp only [pumpEvents]
    split
    · exact RegsBut.refl l s
    · split
      · exact RegsBut.trans (RegsBut.of_eq (by simp)) (ih _)
      · exact RegsBut.trans (RegsBut.of_eq (by simp)) (ih _)
      · rename_i k _ _ _ hk
        have hk' : regAddr .fnIntStatus [k] ∈ l := by simpa [hk] using h
        split
        · exact RegsBut.trans (RegsBut.trans (RegsBut.of_eq (State.setSub_regs _ _ _))
            (regsBut_foldl _ _ (fun s x => regsBut_adminEntry k x s hk') _)) (ih _)
        · exact RegsBut.refl l s
      · exact RegsBut.refl l s

/-- Posting an event changes the registers of `eventRegs` alone. -/
theorem regsBut_postEvent {l : List ℕ} (k : ℕ) (p : List W) (s : State) (h : ∀ a ∈ eventRegs k s, a ∈ l) : RegsBut l s (postEvent k p s) := by
  have h0 := h (regAddr .intSignalCnt []) (by simp [eventRegs])
  have h1 := h (regAddr .cmdIntStatus []) (by simp [eventRegs])
  have h2 := h (regAddr .eventLostCnt []) (by simp [eventRegs])
  have h3 := h (regAddr .fnIntStatus [((s.routeOf k).bind srcFn).getD 0]) (by simp [eventRegs])
  unfold postEvent
  split
  · exact RegsBut.trans (regsBut_bump _ _ _ _ h2) (regsBut_raiseInt _ _ _ _ _ h1 h0)
  · rename_i src hs
    simp only []
    by_cases hq : 1024 ≤ (s.sub src).queue.length
    · rw [if_pos hq]
      exact RegsBut.trans (RegsBut.trans (RegsBut.of_eq (State.setSub_regs _ _ _)) (regsBut_bump _ _ _ _ h2)) (regsBut_raiseInt _ _ _ _ _ h1 h0)
    · rw [if_neg hq]
      exact RegsBut.trans (RegsBut.of_eq (State.setSub_regs _ _ _)) (regsBut_pumpEvents _ _ _ (by simpa [hs] using h3))

/-- Reporting a fault changes the registers of `faultRegs` alone. -/
theorem regsBut_reportFault {l : List ℕ} (f : FaultInfo) (s : State) (h : ∀ a ∈ faultRegs f.block f.inst f.cls s, a ∈ l) :
    RegsBut l s (reportFault f s) := by
  have hc := h (regAddr .faultCnt [f.block, f.inst, f.cls]) (by simp [faultRegs])
  have hi := h (regAddr .intSignalCnt []) (by simp [faultRegs, eventRegs])
  have h0 := regsBut_setRg s (s.rg .faultCnt [f.block, f.inst, f.cls] + 1) hc
  simp only [reportFault]
  split
  · exact h0
  · split
    · exact RegsBut.trans h0 (RegsBut.of_eq (by simp))
    · have h1 := fun r => RegsBut.trans h0 (regsBut_intEdge f.block (fun s => s.setFault f.block f.inst r) _ (RegsBut.of_eq (by simp)) hi)
      split
      · refine RegsBut.trans (h1 _) (regsBut_postEvent _ _ _ fun a ha => h a ?_)
        have hr : ∀ b x r, (intEdge b (fun s => s.setFault f.block f.inst r) x).routeOf 11 = x.routeOf 11 := fun b x r => by
          simp [State.routeOf]
        have hs : ∀ v, (s.setRg .faultCnt [f.block, f.inst, f.cls] v).routeOf 11 = s.routeOf 11 := fun v => by simp [State.routeOf]
        simp only [eventRegs, hr, hs] at ha
        exact List.mem_cons_of_mem _ ha
      · exact RegsBut.trans (h1 _) (RegsBut.of_eq (wakeDomain_regs _ _))

end Sys2Proof.Machine
end

