-- ==== Sys2Proof/WellFormed.lean ====
section
/-! DEFINITION. Well-formed commands: every operand lies in the range the manual gives it, and a command packet is
carried by the row of its opcode. -/

namespace Sys2Proof

/-- A source exists: 62 virtual functions, 12-bit device identifiers other than the broadcast one (R2, Table 13-5). -/
def sourceOk : Source → Bool
  | .dravua d => decide (d < 0xFFF)
  | .vf v => decide (v < 62)
  | _ => true

/-- A packet spells the opcode of its row, and carries PARAM_BYTES of parameters (R285). -/
def cmdOk (code : Nat) (c : Cmd) : Bool :=
  sourceOk c.src && c.w0.toNat / 2 ^ 48 == code && c.w0.toNat % 65536 == 8 * c.params.length

/-- A received frame: its timestamp point is one of the 64 points of a tick (R20). -/
def frameOk (f : RxFrame) : Bool :=
  decide (f.sub < 64) && decide (f.bytes.length < 16384) && decide (f.line.length ≤ 8) && f.line.all fun l => l.all (· < 4)

/-- A ring exists. -/
def ringOk : Ring → Bool
  | .admin f => decide (f < 64)
  | .qp q => decide (q < 4096)
  | .chan c => decide (c < 32)

/-- A completion queue exists. -/
def cqOk : CqRef → Bool
  | .qp q => decide (q < 4096)
  | .chan c => decide (c < 32)

/-- A path exists. -/
def pathOk : Path → Bool
  | .cmd s => sourceOk s
  | .hook q => decide (q < 4)
  | .bar0 f => decide (f < 64)
  | _ => true

/-- A path exists on which a read may come. -/
def readPathOk (p : Path) : Bool := pathOk p && p != .poisoned

/-- The well-formedness of each command. -/
def wellFormed : Instr → Bool
  | .nop c => cmdOk 0x0 c
  | .negotiateVersion c => cmdOk 0x1 c
  | .deviceInfo c => cmdOk 0x2 c
  | .cmdCancel c => cmdOk 0x3 c
  | .eventSubscribe c => cmdOk 0x4 c
  | .eventUnsubscribe c => cmdOk 0x4 c
  | .mgmtRelay c => cmdOk 0x5 c
  | .relayReply _ _ _ _ => true
  | .relayTimeout _ => true
  | .regRead c => cmdOk 0x6 c
  | .regWrite c => cmdOk 0x7 c
  | .mastConfig c => cmdOk 0x100 c
  | .mastSetTime c => cmdOk 0x101 c
  | .timelineSet c => cmdOk 0x102 c
  | .timelineApply timeline => decide (timeline < 8)
  | .riggingWriteEntries c => cmdOk 0x200 c
  | .riggingWriteTargetSets c => cmdOk 0x200 c
  | .riggingRead c => cmdOk 0x201 c
  | .riggingCommit c => cmdOk 0x202 c
  | .riggingCancel c => cmdOk 0x203 c
  | .bankSwitch => true
  | .riggingEvaluate bank entry => decide (bank < 2) && decide (entry < 16384)
  | .gateOpen bank entry => decide (bank < 2) && decide (entry < 16384)
  | .gateClose bank entry => decide (bank < 2) && decide (entry < 16384)
  | .skeinClose bank entry => decide (bank < 2) && decide (entry < 16384)
  | .laneSleepRx bank entry => decide (bank < 2) && decide (entry < 16384)
  | .laneSleepTx bank entry => decide (bank < 2) && decide (entry < 16384)
  | .laneWakeRx bank entry => decide (bank < 2) && decide (entry < 16384)
  | .laneWakeTx bank entry => decide (bank < 2) && decide (entry < 16384)
  | .opSet bank entry => decide (bank < 2) && decide (entry < 16384)
  | .opPhase bank entry => decide (bank < 2) && decide (entry < 16384)
  | .prewarm bank entry => decide (bank < 2) && decide (entry < 16384)
  | .rampDown bank entry => decide (bank < 2) && decide (entry < 16384)
  | .hookPost bank entry => decide (bank < 2) && decide (entry < 16384)
  | .symbolBoundary timeline => decide (timeline < 8)
  | .stepApply => true
  | .resolveReplay => true
  | .portAdmin c => cmdOk 0x300 c
  | .laneDozeConfig c => cmdOk 0x301 c
  | .classRuleWrite c => cmdOk 0x400 c
  | .classMode c => cmdOk 0x401 c
  | .classBankSwap c => cmdOk 0x402 c
  | .classCounterRead c => cmdOk 0x403 c
  | .policerSet c => cmdOk 0x404 c
  | .indirWrite c => cmdOk 0x405 c
  | .cpuCodeWrite c => cmdOk 0x406 c
  | .encapWrite c => cmdOk 0x407 c
  | .packetIngress port frame => decide (port < 512) && frameOk frame
  | .injectionAdmit tile => decide (tile < 16)
  | .learnApply tile => decide (tile < 16)
  | .ageSweepVisit tile => decide (tile < 16)
  | .l2EntryWrite c => cmdOk 0x500 c
  | .l2EntryDelete c => cmdOk 0x501 c
  | .l2Flush c => cmdOk 0x502 c
  | .l2FlushDone tile => decide (tile < 16)
  | .l2Dump c => cmdOk 0x503 c
  | .l2Reseed c => cmdOk 0x504 c
  | .reseedDone tile => decide (tile < 16)
  | .l2RehashAck c => cmdOk 0x505 c
  | .lpmWrite c => cmdOk 0x506 c
  | .lpmSync c => cmdOk 0x507 c
  | .floodSetWrite c => cmdOk 0x508 c
  | .bufQueueConfig c => cmdOk 0x600 c
  | .xbarPlaneEnable c => cmdOk 0x601 c
  | .planeReadmit plane _ => decide (plane < 12)
  | .planeFault plane _ => decide (plane < 12)
  | .grantWindow => true
  | .cellArrival tile _ => decide (tile < 16)
  | .rsqTimeout tile stream => decide (tile < 16) && decide (stream < 64)
  | .auditPassStart slice => decide (slice < 16)
  | .auditPassEnd slice => decide (slice < 16)
  | .queueSelection port => decide (port < 512)
  | .pull slice => decide (slice < 16)
  | .egressHandoff port => decide (port < 512)
  | .frameTransmit port => decide (port < 512)
  | .txtsWord1Read port path => decide (port < 512) && readPathOk path
  | .tmQueueConfig c => cmdOk 0x602 c
  | .tmPortConfig c => cmdOk 0x603 c
  | .shaperSet c => cmdOk 0x604 c
  | .tmCounterRead c => cmdOk 0x605 c
  | .timedCommandApply _ => true
  | .skeinCreate c => cmdOk 0x700 c
  | .skeinModify c => cmdOk 0x701 c
  | .skeinDestroy c => cmdOk 0x702 c
  | .skeinMove c => cmdOk 0x703 c
  | .skeinRead c => cmdOk 0x704 c
  | .skeinFeedPacket tile => decide (tile < 16)
  | .feedStallDrop cluster => decide (cluster < 4)
  | .sectionAdmit cluster => decide (cluster < 4)
  | .weightMessage cluster => decide (cluster < 4)
  | .closeBackstop skein => decide (skein < 65536)
  | .instanceClose skein => decide (skein < 65536)
  | .skeinRehome cluster => decide (cluster < 4)
  | .eventDispatch cluster => decide (cluster < 4)
  | .preempt cluster => decide (cluster < 4)
  | .microNop cluster engine => decide (cluster < 4) && decide (engine < 16)
  | .microAdd cluster engine => decide (cluster < 4) && decide (engine < 16)
  | .microSub cluster engine => decide (cluster < 4) && decide (engine < 16)
  | .microAnd cluster engine => decide (cluster < 4) && decide (engine < 16)
  | .microOr cluster engine => decide (cluster < 4) && decide (engine < 16)
  | .microXor cluster engine => decide (cluster < 4) && decide (engine < 16)
  | .microShift cluster engine => decide (cluster < 4) && decide (engine < 16)
  | .microShifti cluster engine => decide (cluster < 4) && decide (engine < 16)
  | .microAddi cluster engine => decide (cluster < 4) && decide (engine < 16)
  | .microMovi cluster engine => decide (cluster < 4) && decide (engine < 16)
  | .microCati cluster engine => decide (cluster < 4) && decide (engine < 16)
  | .microMul cluster engine => decide (cluster < 4) && decide (engine < 16)
  | .microCmp cluster engine => decide (cluster < 4) && decide (engine < 16)
  | .microExt cluster engine => decide (cluster < 4) && decide (engine < 16)
  | .microIns cluster engine => decide (cluster < 4) && decide (engine < 16)
  | .microMov cluster engine => decide (cluster < 4) && decide (engine < 16)
  | .microPair cluster engine => decide (cluster < 4) && decide (engine < 16)
  | .microLd cluster engine => decide (cluster < 4) && decide (engine < 16)
  | .microSt cluster engine => decide (cluster < 4) && decide (engine < 16)
  | .microBz cluster engine => decide (cluster < 4) && decide (engine < 16)
  | .microBnz cluster engine => decide (cluster < 4) && decide (engine < 16)
  | .microBneg cluster engine => decide (cluster < 4) && decide (engine < 16)
  | .microBflag cluster engine => decide (cluster < 4) && decide (engine < 16)
  | .microJmp cluster engine => decide (cluster < 4) && decide (engine < 16)
  | .microCall cluster engine => decide (cluster < 4) && decide (engine < 16)
  | .microRet cluster engine => decide (cluster < 4) && decide (engine < 16)
  | .microJr cluster engine => decide (cluster < 4) && decide (engine < 16)
  | .microWait cluster engine => decide (cluster < 4) && decide (engine < 16)
  | .waitEnd cluster engine => decide (cluster < 4) && decide (engine < 16)
  | .microSignal cluster engine => decide (cluster < 4) && decide (engine < 16)
  | .microEnd cluster engine => decide (cluster < 4) && decide (engine < 16)
  | .microTrap cluster engine => decide (cluster < 4) && decide (engine < 16)
  | .microRett cluster engine => decide (cluster < 4) && decide (engine < 16)
  | .microPost cluster engine => decide (cluster < 4) && decide (engine < 16)
  | .microTime cluster engine => decide (cluster < 4) && decide (engine < 16)
  | .microStitch cluster engine => decide (cluster < 4) && decide (engine < 16)
  | .microRescale cluster engine => decide (cluster < 4) && decide (engine < 16)
  | .microPack cluster engine => decide (cluster < 4) && decide (engine < 16)
  | .microRepack cluster engine => decide (cluster < 4) && decide (engine < 16)
  | .microDmove cluster engine => decide (cluster < 4) && decide (engine < 16)
  | .microCrc cluster engine => decide (cluster < 4) && decide (engine < 16)
  | .microSend cluster engine => decide (cluster < 4) && decide (engine < 16)
  | .vectorOpDone cluster engine => decide (cluster < 4) && decide (engine < 16)
  | .illegalOp cluster engine => decide (cluster < 4) && decide (engine < 16)
  | .watchdog cluster engine => decide (cluster < 4) && decide (engine < 16)
  | .watchdogHang cluster engine => decide (cluster < 4) && decide (engine < 16)
  | .engineFailure cluster engine _ => decide (cluster < 4) && decide (engine < 16)
  | .shareMove cluster => decide (cluster < 4)
  | .hookLoad c => cmdOk 0x800 c
  | .hookBankSwitch c => cmdOk 0x801 c
  | .hookSwitchTick cluster => decide (cluster < 4)
  | .hookDrainEnd cluster => decide (cluster < 4)
  | .drainTimeout cluster => decide (cluster < 4)
  | .hookForceSwap c => cmdOk 0x802 c
  | .hookDispatchWrite c => cmdOk 0x803 c
  | .hookEngineEnable c => cmdOk 0x804 c
  | .engineSelftestDone cluster engine _ => decide (cluster < 4) && decide (engine < 16)
  | .hookServiceConfig c => cmdOk 0x805 c
  | .hookCall c => cmdOk 0x806 c
  | .telemConfig c => cmdOk 0x900 c
  | .telemHistRead c => cmdOk 0x901 c
  | .postcardFlush tile => decide (tile < 16)
  | .castOn c => cmdOk 0xa00 c
  | .bindOff c => cmdOk 0xa01 c
  | .dmaChannelConfig c => cmdOk 0xa02 c
  | .poolConfig c => cmdOk 0xa03 c
  | .legacyModeSwitch c => cmdOk 0xa04 c
  | .legacyQueueConfig c => cmdOk 0xa04 c
  | .adminSqDb fn _ => decide (fn < 64)
  | .adminCqDb fn _ => decide (fn < 64)
  | .qpSqDb fn _ _ => decide (fn < 64)
  | .qpCqDb fn _ _ => decide (fn < 64)
  | .poolDb fn pool _ => decide (fn < 64) && decide (pool < 8)
  | .chanDb fn chan _ => decide (fn < 64) && decide (chan < 32)
  | .chanCqDb fn chan _ => decide (fn < 64) && decide (chan < 32)
  | .ringFetchDone ring _ => ringOk ring
  | .ringRescan ring => ringOk ring
  | .txChainStart qp _ => decide (qp < 4096)
  | .txChainDone qp => decide (qp < 4096)
  | .hostRxDeliver tile => decide (tile < 16)
  | .cqCoalTimeout cq => cqOk cq
  | .dmaChainStart chan _ => decide (chan < 32)
  | .dmaChainDone chan _ => decide (chan < 32)
  | .poolFetchDone pool _ => decide (pool < 8)
  | .chanDisable fn chan => decide (fn < 64) && decide (chan < 32)
  | .chanEnable fn chan => decide (fn < 64) && decide (chan < 32)
  | .adminQueueEnable fn _ => decide (fn < 64)
  | .fnQpRangeWrite fn _ => decide (fn < 64)
  | .resAssignWrite _ _ => true
  | .functionLevelReset fn => decide (fn < 64)
  | .perstNAssert => true
  | .powerTolerance c => cmdOk 0xb00 c
  | .opPointSet c => cmdOk 0xb01 c
  | .powerCap c => cmdOk 0xb02 c
  | .domainForce c => cmdOk 0xb03 c
  | .deviceWideForce c => cmdOk 0xb03 c
  | .domainEnter domain _ _ _ => decide (domain < 38)
  | .domainExit domain => decide (domain < 38)
  | .domainExitDone domain => decide (domain < 38)
  | .estimationInterval => true
  | .avsFrameDone => true
  | .avsStepComplete => true
  | .avsSettleExpiry => true
  | .tileFreqDone tile => decide (tile < 16)
  | .avsFault => true
  | .avsFaultClear _ => true
  | .prewarmHoldExpiry domain => decide (domain < 38)
  | .didtWindow _ => true
  | .cellSleepSleep c => cmdOk 0xb04 c
  | .cellSleepWake c => cmdOk 0xb04 c
  | .sleepProposeResend timeline => decide (timeline < 8)
  | .sleepAccept port _ => decide (port < 512)
  | .sleepRefuse port _ => decide (port < 512)
  | .cellWake port _ => decide (port < 512)
  | .sleepCommitPoint timeline => decide (timeline < 8)
  | .cellSleepStart timeline => decide (timeline < 8)
  | .cellWakeLead timeline => decide (timeline < 8)
  | .cellWakeFrame timeline => decide (timeline < 8)
  | .lifecycleAdvance c => cmdOk 0xc00 c
  | .macsecKekInstall c => cmdOk 0xc01 c
  | .macsecTxSakInstall c => cmdOk 0xc01 c
  | .macsecRxSakInstall c => cmdOk 0xc01 c
  | .macsecPtpKeyInstall c => cmdOk 0xc01 c
  | .macsecKeyDelete c => cmdOk 0xc01 c
  | .zeroize c => cmdOk 0xc02 c
  | .zeroizeKeysClear => true
  | .debugChallenge c => cmdOk 0xc03 c
  | .debugPart c => cmdOk 0xc03 c
  | .debugOpen c => cmdOk 0xc03 c
  | .challengeLapse => true
  | .debugClose c => cmdOk 0xc04 c
  | .tamper _ => true
  | .tack c => cmdOk 0xd00 c
  | .tackApply => true
  | .profileWrite c => cmdOk 0xd01 c
  | .profileRead c => cmdOk 0xd02 c
  | .faultRead c => cmdOk 0xe00 c
  | .faultAck c => cmdOk 0xe01 c
  | .faultCtlAck block _ _ => decide (block < 15)
  | .forceSet c => cmdOk 0xe02 c
  | .faultForceWrite path block _ _ => pathOk path && decide (block < 15)
  | .flipMaskSet c => cmdOk 0xe03 c
  | .flipMaskWrite path block _ _ _ => pathOk path && decide (block < 15)
  | .scrubRead block _ _ => decide (block < 15)
  | .controlStoreRewrite cluster bank _ => decide (cluster < 4) && decide (bank < 2)
  | .servoSample _ => true
  | .sourceLost _ => true
  | .sampleTimeout => true
  | .ppsInEdge sub => decide (sub < 64)
  | .ppsInLoss => true
  | .todInMessage _ => true
  | .freqGate _ _ _ => true
  | .mastTick _ => true
  | .todOutStart => true
  | .replicaCheck => true
  | .refoscLoss => true
  | .refoscRestore => true
  | .mcSnapTrigger _ => true
  | .synceOutCtlWrite _ => true
  | .tlPosRead timeline path => decide (timeline < 8) && readPathOk path
  | .tlFrameCntRead timeline path => decide (timeline < 8) && readPathOk path
  | .laneSignalDetect lane => decide (lane < 512)
  | .laneSignalLoss lane => decide (lane < 512)
  | .cdrLock lane => decide (lane < 512)
  | .cdrLockLoss lane => decide (lane < 512)
  | .alignLock lane _ => decide (lane < 512)
  | .alignLoss loss => decide (loss.lane < 512)
  | .hiSer port => decide (port < 512)
  | .bringupStageComplete port _ => decide (port < 512)
  | .dvarMeasured lane _ _ => decide (lane < 512)
  | .trainTimerExpiry port => decide (port < 512)
  | .backoffExpiry port => decide (port < 512)
  | .linkStable port => decide (port < 512)
  | .portRestart port => decide (port < 512)
  | .helloProbeTimer port => decide (port < 512)
  | .helloRx port _ => decide (port < 512)
  | .topsailGo port => decide (port < 512)
  | .topsailRetune port => decide (port < 512)
  | .epochAgreeTimeout port => decide (port < 512)
  | .cpriCapture port _ _ => decide (port < 512)
  | .cpriTxFrame port => decide (port < 512)
  | .laneDozeEntered lane => decide (lane < 512)
  | .wakeInstant lane => decide (lane < 512)
  | .wakeWindowOpen lane _ => decide (lane < 512)
  | .wakeSequenceSeen lane => decide (lane < 512)
  | .wakeWindowClose lane => decide (lane < 512)
  | .wakeFailTimeout lane => decide (lane < 512)
  | .wakeReqRx lane => decide (lane < 512)
  | .fastRetrainDone lane => decide (lane < 512)
  | .lpiRequest port _ _ => decide (port < 512)
  | .earlyPresentRise => true
  | .removalDeclared => true
  | .removalFloat => true
  | .reinsertReset => true
  | .outputEnable => true
  | .powerOnReset => true
  | .resetNColdReset => true
  | .coldResetCmd _ => true
  | .warmResetCmd _ => true
  | .powerDown => true
  | .mainPowerLoss => true
  | .thermalThrottle _ _ => true
  | .thermTrip => true
  | .sidebandWake => true
  | .stageFuses _ _ _ => true
  | .stageBootFw _ _ _ _ => true
  | .stageFololmane _ _ => true
  | .stageDomains _ => true
  | .stageProfile _ _ => true
  | .stageHook _ _ => true
  | .stagePorts => true
  | .timeValidSet => true
  | .timeWaitExpiry => true
  | .stageSchedule => true
  | .stageReady => true
  | .bootMboxGo _ _ => true
  | .mgmtPortCfgWrite path _ _ => pathOk path
  | .rcRegisterRead path _ => readPathOk path
  | .rw1cRegisterWrite path _ _ => pathOk path
  | .registerWrite path _ _ _ => pathOk path
  | .earlyPresentFall => true
  | .signalLossExpiry lane => decide (lane < 512)
  | .wakeSequenceEnd lane => decide (lane < 512)
  | .ppsUnlabelled => true
  | .thermalRecover => true
  | .perstNDeassert => true
  | .i3cBusReset => true

end Sys2Proof
end

