-- ==== Sys2Proof/Tests/Slice0.lean ====
section
/-! SUPPORT. The model's own tests: witnesses of the premises of every statement, values of the manual's worked examples, and ill-formed
commands. -/

set_option maxRecDepth 20000
set_option Elab.async false

namespace Sys2Proof.Tests

open Sys2Proof Sys2Proof.Machine

/-! ### States and operands -/

/-- A part that is up: start-up is done, the Mast clock counts, outputs drive, and PF0 speaks version 3. -/
def ready : State :=
  { boot := { stage := 10, ready := true }, mast := { running := true }, power := { floating := false }, cmd := { version := [(1, 3)] } }

/-- The same part n ticks later. -/
def at_ (n : Nat) : State := { ready with mast := { running := true, tick := n } }

/-- A command packet of PF0 at version 3. -/
def cmdOf (op : Nat) (params : List W) : Cmd :=
  { src := .pf0, clock := 7, w0 := mk 63 48 op ||| mk 47 46 3 ||| mk 15 0 (8 * params.length), w1 := 0, params := params }

/-- A timed command packet of PF0 for SFN 2 of timeline 0. -/
def timedOf (op : Nat) (params : List W) : Cmd := { cmdOf op params with w0 := (cmdOf op params).w0 ||| mk 45 45 1 ||| mk 41 32 2 }

/-- A state whose part `pk` is changed. -/
def withPk (f : Packets → Packets) (s : State) : State := { s with pk := f s.pk }

/-- A state whose part `cmd` is changed. -/
def withCmd (f : CmdState → CmdState) (s : State) : State := { s with cmd := f s.cmd }

/-- A state whose part `power` is changed. -/
def withPower (f : Power → Power) (s : State) : State := { s with power := f s.power }

/-- A state whose part `mast` is changed. -/
def withMast (f : Mast → Mast) (s : State) : State := { s with mast := f s.mast }

/-- A state whose part `rig` is changed. -/
def withRig (f : Rig → Rig) (s : State) : State := { s with rig := f s.rig }

/-- A state whose part `boot` is changed. -/
def withBoot (f : Boot → Boot) (s : State) : State := { s with boot := f s.boot }

/-- A reference to a stored packet of one cell. -/
def ref0 : Ref := { id := 0, port := 480, queue := 15, cells := 1, len := 64, mirror := false }

/-- A cell in flight from slice 0 to Tile 15. -/
def cell0 : Cell :=
  { src := 0, dst := 15, cls := 0, seq := 0, pktSeq := 0, first := true, last := true, port := 480, data := [], md := {}, plane := 0
    arrive := 0 }

/-- A part with one cell in flight. -/
def flying (d : Cell) : State := ready.setXbar { flight := [d] }

/-- A port that is up, with an agreed Dravua version and scheduled doze. -/
def upPort : Port := { formed := true, state := 2, ver := 3, schedDoze := true, adminUp := true }

/-- Timeline 0 configured and active. -/
def active0 (s : State) : State := withRig (fun r => { r with timelines := tset {} r.timelines 0 { w0 := mk 50 49 1 } }) s

/-- The state after a command. -/
def after (i : Instr) (s : State) : State := match exec i s with
  | .next t => t
  | _ => s

/-- An event of opcode 0x10 by command. -/
def ev0 : HkEvent := { w0 := mk 63 56 16 }

/-- A routine of that event in bank 0. -/
def rout0 : Routine := { event := ev0, bank := 0, service := 0, budget := 0, restart := false, prio := 0 }

/-- Engine 15 of cluster 3 as given. -/
def withEng (n : Engine) : State := ready.setCluster 3 { engines := [(15, n)] }

/-- Engine 15 of cluster 3 runs routine r, whose next microword is w. -/
def runsR (w : Nat) (n : Engine) (r : Routine) : State :=
  ready.setCluster 3 { store := tset 0 [] 0 (BitVec.ofNat 72 w), engines := [(15, { n with routine := some r })] }

/-- The same with routine rout0. -/
def runs (w : Nat) (n : Engine) : State := runsR w n rout0

/-- It issues that microword. -/
theorem issues_runsR (w : Nat) (n : Engine) (r : Routine) (f : State → State)
    (hf : (f (runsR w n r)).hk = (runsR w n r).hk ∧ (f (runsR w n r)).flt = (runsR w n r).flt ∧ Live (f (runsR w n r)))
    (h : (f (runsR w n r)).mayIssue 3 15 = true ∧ ((runsR w n r).eng 3 15).vec = none ∧ ((runsR w n r).eng 3 15).pc ≤ 49151
      ∧ ((runsR w n r).eng 3 15).routine = some r ∧ r.bank = 0
      ∧ fld72 (tget 0 ((runsR w n r).cluster 3).store (((runsR w n r).eng 3 15).pc / 3))
          (24 * (((runsR w n r).eng 3 15).pc % 3) + 23) (24 * (((runsR w n r).eng 3 15).pc % 3)) = w) :
    Issues 3 15 w (f (runsR w n r)) := by
  have e : (f (runsR w n r)).eng 3 15 = (runsR w n r).eng 3 15 := by rw [State.eng, State.cluster, hf.1]; rfl
  have c : (f (runsR w n r)).cluster 3 = (runsR w n r).cluster 3 := by rw [State.cluster, hf.1]; rfl
  refine ⟨hf.2.2, ⟨by rw [hf.2.1]; rfl, by rw [hf.2.1]; rfl⟩, by decide, by decide, h.1, e ▸ h.2.1, e ▸ h.2.2.1, r, e ▸ h.2.2.2.1, ?_⟩
  rw [e, c, h.2.2.2.2.1, Nat.mul_zero, Nat.zero_add]
  exact h.2.2.2.2.2

/-- A part in which one queue pair is in use. -/
def withQp (i : Nat) (x : QPair) : State := ready.setQp i x

/-- A frame of 60 zero bytes that a host sends in one chain. -/
def chain60 : Chain := { items := [(0, [mk 14 0 60, 0, 0, 0])] }

/-- The host part of the row list: the last row. -/
def lastRow : CmdRow := ⟨0x0E03, .flipMaskSet, faultDomain, flipMaskSetBody⟩

/-- The row of BUF_QUEUE_CONFIG. -/
def queueRow : CmdRow := ⟨0x0600, .bufQueueConfig, queueDomain, bufQueueConfigBody⟩

theorem queueRow_mem : queueRow ∈ cmdRows := by simp [queueRow, cmdRows, cmdRowsA, cmdRowsB]

theorem lastRow_mem : lastRow ∈ cmdRows := by simp [lastRow, cmdRows, cmdRowsA, cmdRowsB, cmdRowsC, cmdRowsD]

/-- Port 511 up, its lane 511 as given. -/
def withLane (l : Lane) (n : Nat) : State := ((at_ n).setPort 511 upPort).setLane 511 l

/-- A learn request of port 0 for MAC address 0 of VID 0. -/
def learn0 : LearnReq := { kind := 0, w0 := 0, w1 := 0, tick := 0 }

/-- Tile 15 with one learn request, and in way 3 of its set an entry. -/
def learning (r : LearnReq) (e : W) : State :=
  (at_ 2).setTl 15 { learnQ := [r], l2 := tset (0, 0) [] (4 * l2Set 0 0 0 + 3) (e, 0) }

/-- Port p, up, in a part at tick n. -/
def withPort (p n : Nat) (x : Port) : State := (at_ n).setPort p x

/-- A frame of 60 zero bytes as it comes in on a port. -/
def rx60 : RxFrame := { bytes := List.replicate 60 0, sub := 0, fcsGood := true, macsecOk := false }

/-- Port 511 up, its default rules as given: no key format, no match sends to port 511. -/
def receiving : State :=
  (((withPort 511 0 upPort).setRg .portKeySel [15, 31] (0 - 1)).setRg .portDefaultNomatch [15, 31] (mk 59 57 2 ||| mk 56 45 511)).setRg
    .portDefaultParsefail [15, 31] (mk 59 57 3)

/-- A port in bring-up. -/
def upping : Port := { upPort with state := 1, ver := 0 }

/-- A Hello as it comes in on port 511, with bytes 16 and on as given. -/
def hello (l : List Byte) : List Byte := bytesBE 6 dravuaMac ++ bytesBE 6 0 ++ bytesBE 2 0x88B5 ++ [1, 1] ++ l ++ List.replicate (48 - l.length) 0

/-- A profile with an empty port map. -/
def profile0 : List W :=
  [mk 63 32 0x50524F46 ||| mk 31 16 1 ||| 1, 0, 0, 0, mk 63 56 1 ||| 48, 0, mk 63 32 0x5349474E ||| mk 31 24 3, 48] ++ List.replicate 927 0

/-- An image of boot firmware (0) or of Fololmane (1): nothing but its signature block. -/
def image0 (typ : Nat) : SpiImage := { bytes := [0x53, 0x49, 0x47, 0x4E, BitVec.ofNat 8 typ] ++ List.replicate 7427 0 }

/-- A part in start-up at a stage. -/
def starting (k n : Nat) : State := withBoot (fun b => { b with stage := k, ready := false, selected := 3 }) (at_ n)

/-- Skein 65535 in use in cluster 3: one PRB, one Strand, symbol 0 of every slot of timeline 0. -/
def skein0 : Skein := { w0 := mk 63 63 1 ||| mk 59 58 3 ||| mk 43 35 1 ||| mk 30 22 1 ||| mk 18 0 524287, w1 := mk 50 50 1 ||| mk 35 16 1, footprint := 100 }

/-- The Strand of stream 5 on port 511. -/
def strand0 : W := mk 63 63 1 ||| mk 61 53 511 ||| mk 52 37 5 ||| mk 24 17 255

/-- A part with that Skein, its timeline active. -/
def skeins (x : Skein) : State :=
  let s := (active0 ready).setSkein 65535 x
  { s with sk := { s.sk with strands := [(524287, strand0)] } }

/-- Symbol 0 of frame -31596481900, which starts at Mast time 0. -/
def occ0 : Int := -4423507466000

/-- An instance of that symbol. -/
def inst0 : Instance := { ix := 0, occ := occ0, w1 := skein0.w1, w2 := 0, epoch := 0 }

/-- A U-plane message of stream 5 with one section of one PRB in the first symbol of frame -31596481900. -/
def iq0 : List Byte :=
  List.replicate 12 0 ++ [0xAE, 0xFE, 0x10, 0, 0, 60, 0, 5, 0, 0, 0x10, BitVec.ofNat 8 ((-31596481900 % 256 : Int).toNat), 0, 0, 0, 0, 0, 1]
    ++ List.replicate 48 0

/-- A packet on a feed link. -/
def fed (b : List Byte) : Pkt := { bytes := b, inPort := 511, tile := 15 }

/-- A packet at a cluster's feed input. -/
def item0 (kind : Nat) (b : List Byte) : FeedItem := { kind := kind, bytes := b, inPort := 511, w2 := 0, w3 := 0, rx16 := 0, rxTick := 0, since := 0 }

/-- A weight message for Skein 65535: one Strand, one group. -/
def weight0 : List Byte :=
  List.replicate 12 0 ++ [0x88, 0xB5, 0x11, 1, 0, 0, 0, 0, 255, 255, 0, 0, BitVec.ofNat 8 ((-31596481900 % 256 : Int).toNat), 0, 0, 0, 0, 0, 0, 0, 0, 1]
    ++ List.replicate 30 0

/-- A part in which an evaluated occurrence of entry 16383 of the active bank is due; the entry has an action and its words. -/
def due (a : Nat) (w1 : W) : State :=
  withRig (fun r => { r with
    bank0 := { entries := [(16383, (mk 63 63 1 ||| mk 7 0 a, w1))], sets := [(1023, List.replicate 7 0 ++ [mk 63 63 1])] }
    evaluated := [{ bank := 0, entry := 16383, anchor := 0, sched := 0 }] }) ready

/-- That occurrence. -/
def due0 : RigEvent := { bank := 0, entry := 16383, anchor := 0, sched := 0 }

/-- A pending RIGGING_COMMIT. -/
def commit0 : TimedCmd := { cmd := timedOf 0x202 [0], opcode := 0x202, at16 := 0, order := 0 }

/-- A part in which commands are pending. -/
def holding (l : List TimedCmd) (s : State) : State := withCmd (fun k => { k with timed := l }) s

/-- A HOOK_LOAD for cluster 3 of a control-store image of one microword and 256 dispatch entries, all 0, at address 0 of host memory: its header
with the CRC, its signature block from byte 2089 on. -/
def load0 : Cmd :=
  { cmdOf 0x800 [24, 0] with host := [(0, 0x484F4F4B00010001), (8, 0x0000000000010000), (16, BitVec.ofNat 64 (2 ^ 48 + 37238253)),
    (2088, 0x005349474E020000), (2096, 0x0000010000000008), (2104, 0x2900000000000000)] }

/-- The bytes of that image. -/
def hook0 : List Byte := load0.hostBytes 0 1191

theorem load0_bytes : load0.hostBytes (load0.n 1) ((imLen (load0.hostBytes (load0.n 1) 4) + sigBytes + 7) / 8) = hook0 := by
  rw [show (imLen (load0.hostBytes (load0.n 1) 4) + sigBytes + 7) / 8 = 1191 by decide +kernel, show load0.n 1 = 0 by decide]; rfl

/-- n steps of f, each forced before the next one. -/
def forced (f : Nat → Nat) : Nat → Nat → Nat
  | 0, c => c
  | n + 1, c => match f c with
    | 0 => forced f n 0
    | k + 1 => forced f n (k + 1)
theorem forced_eq (f : Nat → Byte → Nat) (n c : Nat) : forced (fun c => f c 0) n c = (List.replicate n (0 : Byte)).foldl f c := by
  induction n generalizing c with
  | zero => rfl
  | succ n h =>
    rw [List.replicate_succ, List.foldl_cons, ← h]
    change (match f c 0 with | 0 => forced (fun c => f c 0) n 0 | k + 1 => forced (fun c => f c 0) n (k + 1)) = _
    cases f c 0 <;> rfl
theorem crc_2057 : forced (fun c => crcReflByte 0x82F63B78 c 0) 2057 0xFFFFFFFF = 37238253 ^^^ 0xFFFFFFFF := by decide +kernel
theorem crc_body : crc32c (List.replicate 2057 0) = 37238253 := by
  rw [crc32c, ← forced_eq, crc_2057]; decide +kernel

theorem hook0_good : ready.imageFault hook0 true = none := by
  have r : decide (byteAt hook0 14 ≤ Config.revision.toNat) = true := by
    rw [show byteAt hook0 14 = 0 by decide +kernel]; exact decide_eq_true (Nat.zero_le _)
  have c : ¬bytesNat hook0 20 4 ≠ crc32c ((hook0.take (imLen hook0)).drop 32) := by
    rw [show (hook0.take (imLen hook0)).drop 32 = List.replicate 2057 0 by decide +kernel, crc_body]; decide +kernel
  rw [State.imageFault, if_neg (by decide +kernel)]
  simp only [r, if_neg c]
  decide +kernel

/-- A profile that configures timeline 7. -/
def profile1 : List W :=
  [mk 63 32 0x50524F46 ||| mk 31 16 1 ||| 1, 0, 0, 0, mk 63 56 4 ||| 48, 112, mk 63 48 0x102 ||| 104, 7,
    mk 62 60 6 ||| mk 58 55 1 ||| mk 50 49 1, 1] ++ List.replicate 10 0 ++ List.replicate 929 0

/-- A good ToD message. -/
def tod0 : List Byte := [0xC5] ++ (1 :: List.replicate 12 0) ++ bytesBE 2 (crc16 (1 :: List.replicate 12 0))

/-- Service 0 of cluster 3 may access every block. -/
def served (s : State) : State := s.setCluster 3 { s.cluster 3 with services := [(0, mk 14 0 32767)] }

theorem issues_served (w : Nat) (h : (served (runs w {})).mayIssue 3 15 = true ∧ ((served (runs w {})).eng 3 15).vec = none
      ∧ ((served (runs w {})).eng 3 15).pc ≤ 49151 ∧ ((served (runs w {})).eng 3 15).routine = some rout0)
    (e : fld72 (tget 0 ((served (runs w {})).cluster 3).store (16384 * rout0.bank + ((served (runs w {})).eng 3 15).pc / 3))
          (24 * (((served (runs w {})).eng 3 15).pc % 3) + 23) (24 * (((served (runs w {})).eng 3 15).pc % 3)) = w) :
    Issues 3 15 w (served (runs w {})) :=
  ⟨⟨rfl, rfl⟩, ⟨rfl, rfl⟩, by decide, by decide, h.1, h.2.1, h.2.2.1, rout0, h.2.2.2, e⟩

/-- A TACK that is due. -/
def tack0 : TimedCmd := { cmd := timedOf 0xD00 [0], opcode := 0xD00, at16 := 0, order := 0 }

/-- A BUF_QUEUE_CONFIG with profile n that is due. -/
def queue0 (n : W) : TimedCmd := { cmd := timedOf 0x600 [0, n], opcode := 0x600, at16 := 0, order := 0 }

/-- A POWER_TOLERANCE that is due. -/
def tol0 : TimedCmd := { cmd := timedOf 0xB00 [7, 5], opcode := 0xB00, at16 := 0, order := 0 }

/-- Port 511 formed, KEK slot 63 in use, the part DEPLOYED. -/
def keyed : State := (withPort 511 0 upPort).modSec fun k => { k with lifecycle := 3, kek := [(63, [1, 2, 3, 4])] }

/-- A packet of queue 15 of port 511. -/
def ref1 : Ref := { ref0 with port := 511 }

/-- Port 511 up, that packet in slice 0. -/
def waiting0 : State := (withPort 511 0 upPort).setSlice 0 { voq := [(8191, [ref1])] }

/-- A routine of a STITCH event. -/
def stitch0 : Routine := { rout0 with event := { w0 := 0 } }

/-- A routine of the CLOSE event of Skein 65535. -/
def close0 : Routine := { rout0 with event := { w0 := mk 63 56 1, w1 := mk 63 48 65535 } }

/-- The row of DEBUG_OPEN. -/
def openRow : CmdRow := ⟨0x0C03, .debugOpen, noDomain, debugBody⟩

theorem openRow_mem : openRow ∈ cmdRows := by simp [openRow, cmdRows, cmdRowsA, cmdRowsB, cmdRowsC, cmdRowsD]

/-- The row of RIGGING_COMMIT. -/
def commitRow : CmdRow := ⟨0x0202, .riggingCommit, noDomain, riggingCommitBody⟩

theorem commitRow_mem : commitRow ∈ cmdRows := by simp [commitRow, cmdRows, cmdRowsA]

/-- A part whose shadow bank holds one entry, the first word of which is uncorrectable. -/
def badBank : State :=
  { withRig (fun r => { r with bank1 := { entries := [(0, (mk 63 63 1, 0))] } }) (active0 ready) with flt := { ecc := [(eccKey 5 0 1 0, 3)] } }

/-- The clusters asleep. -/
def asleep (s : State) : State := [24, 25, 26, 27].foldl (fun s d => s.setDomain d { state := 2 }) s

/-- A frame of the management controller waits for port 511. -/
def mgmtWaits : State := { ready with out := { mgmtTx := [(511, List.replicate 60 0)] } }

/-- No row of Table 2-16 but its own six gives a latency. -/
theorem fused_none (s : State) (k : Nat) (h : s.latency 511 = 6) : fused (s.latency 511) k = 0 := by
  rw [h]; simp [fused, latencyTable, Nat.mod_one]

/-- A frame on such a port may be at the balls at once. -/
theorem handed (s : State) (f : TxFrame) (h : s.latency 511 = 6) (m : (s.prt 511).macsec = false) :
    handedOver 511 f s = decide (f.handTick * 81920 ≤ s.tick * 81920 + if s.txUncal 511 then 0 else (s.lane 511).dvarTx) := by
  simp [handedOver, State.handOff, State.dTx, fused_none s _ h, m]

/-- A BUF_QUEUE_CONFIG that comes in over Dravua port d. -/
def relayed (d : Nat) : Cmd := { cmdOf 0x600 [8191, 0] with src := .dravua d, w0 := mk 63 48 0x600 ||| mk 47 46 1 ||| mk 15 0 16 }

/-! ### Witnesses -/

/-- States and operands that meet the premises of ManagementCommands, clause by clause. -/
theorem witness_ManagementCommands :
    (∃ (c : Cmd) (s : State), Taken 0 noDomain c s)
    ∧ (∃ (c : Cmd) (s : State) (v : Nat), Taken 1 noDomain c s ∧ s.outstanding c.src = 0 ∧ commonVersion (fld (c.p 0) 3 0) = some v)
    ∧ (∃ (c : Cmd) (s : State), Taken 2 noDomain c s)
    ∧ (∃ (c : Cmd) (s : State), Taken 4 noDomain c s ∧ bitAt (c.p 0) 63 = false)
    ∧ (∃ (c : Cmd) (s : State), Taken 4 noDomain c s ∧ bitAt (c.p 0) 63 = true)
    ∧ (∃ (s : State), Live s) :=
  ⟨⟨cmdOf 0 [], ready, by decide⟩,
    ⟨cmdOf 1 [8], ready, 3, by decide⟩,
    ⟨cmdOf 2 [], ready, by decide⟩,
    ⟨cmdOf 4 [0xFFF], ready, by decide⟩,
    ⟨cmdOf 4 [mk 63 63 1 ||| 1], ready, by decide⟩,
    ⟨ready, by decide⟩⟩

/-- States and operands that meet the premises of CancelAndRelay, clause by clause. -/
theorem witness_CancelAndRelay :
    (∃ (c : Cmd) (s : State) (p : TimedCmd), Taken 3 noDomain c s
        ∧ List.find? (fun t => t.cmd.src == c.src && t.cmd.tag == fld (c.p 0) 15 0 && !t.own) s.cmd.timed = some p ∧ 64 ≤ s.switchTick p - s.tick)
    ∧ (∃ (c : Cmd) (s : State), Taken 5 noDomain c s ∧ s.linkUp (fld (c.p 0) 8 0) = true ∧ (s.prt (fld (c.p 0) 8 0)).ver ≠ 0 ∧ fld (c.p 0) 31 16 ≤ 1000
        ∧ fld (c.p 1) 63 48 ≠ 5)
    ∧ (∃ (s : State) (id : Nat) (w0 : W) (r : Relay), Live s ∧ List.find? (fun r => r.id == id) s.cmd.relays = some r
        ∧ (bitAt w0 45 = true ∨ r.timed = false))
    ∧ (∃ (s : State) (id : Nat) (w0 : W) (r : Relay), Live s ∧ List.find? (fun r => r.id == id) s.cmd.relays = some r ∧ bitAt w0 45 = false
        ∧ r.timed = true)
    ∧ (∃ (s : State) (id : Nat) (r : Relay), Live s
        ∧ List.find? (fun r => r.id == id && !r.answered && decide (r.dueTick ≤ s.tick)) s.cmd.relays = some r) :=
  ⟨⟨cmdOf 3 [0], withCmd (fun k => { k with timed := [{ cmd := timedOf 0x600 [0, 0], opcode := 0x600, at16 := 81920 * 64, order := 0 }] }) ready,
    { cmd := timedOf 0x600 [0, 0], opcode := 0x600, at16 := 81920 * 64, order := 0 }, by decide⟩,
    ⟨cmdOf 5 [mk 31 16 1000 ||| 511, 0, 0], ready.setPort 511 upPort, by decide⟩,
    ⟨withCmd (fun k => { k with relays := [{ id := 0, cmd := cmdOf 5 [], inner := 0, port := 0, dueTick := 0, timed := true, answered := true }] }) ready,
      0, mk 45 45 1, { id := 0, cmd := cmdOf 5 [], inner := 0, port := 0, dueTick := 0, timed := true, answered := true }, by decide⟩,
    ⟨withCmd (fun k => { k with relays := [{ id := 0, cmd := cmdOf 5 [], inner := 0, port := 0, dueTick := 0, timed := true, answered := false }] }) ready,
      0, 0, { id := 0, cmd := cmdOf 5 [], inner := 0, port := 0, dueTick := 0, timed := true, answered := false }, by decide⟩,
    ⟨withCmd (fun k => { k with relays := [{ id := 0, cmd := cmdOf 5 [], inner := 0, port := 0, dueTick := 0, timed := true, answered := false }] }) ready,
      0, { id := 0, cmd := cmdOf 5 [], inner := 0, port := 0, dueTick := 0, timed := true, answered := false }, by decide⟩⟩

/-- States and operands that meet the premises of RegisterReads, clause by clause. -/
theorem witness_RegisterReads :
    (∃ (c : Cmd) (s : State) (r : RegId) (ix : List Nat), Taken 6 regReadDomain c s ∧ (blockOf (c.n 0)).isSome = true ∧ regAt (c.n 0) = some (r, ix)
        ∧ s.awake (keyDomain (c.n 0)) = true ∧ (regDesc r).acc ≠ Access.wo ∧ (regDesc r).acc ≠ Access.rc ∧ r ≠ RegId.txtsWord0 ∧ r ≠ RegId.tlPos
        ∧ r ≠ RegId.tlFrameCnt ∧ r ≠ RegId.lockerRecord ∧ s.foreign r ix = false)
    ∧ (∃ (c : Cmd) (s : State) (r : RegId) (ix : List Nat), Taken 6 regReadDomain c s ∧ (blockOf (c.n 0)).isSome = true ∧ regAt (c.n 0) = some (r, ix)
        ∧ s.awake (keyDomain (c.n 0)) = true ∧ (regDesc r).acc = Access.rc ∧ r ≠ RegId.txtsWord1 ∧ regAddr r ix ∉ cmdRegs c)
    ∧ (∃ (c : Cmd) (s : State), Taken 6 regReadDomain c s ∧ (blockOf (c.n 0)).isSome = true ∧ regAt (c.n 0) = none ∧ s.awake (keyDomain (c.n 0)) = true)
    ∧ (∃ (c : Cmd) (s : State), Taken 6 regReadDomain c s ∧ (blockOf (c.n 0)).isSome = true ∧ 3 ≤ (s.domain (keyDomain (c.n 0))).state)
    ∧ (∃ (s : State) (path : Path) (a : Nat) (key : Nat) (r : RegId) (ix : List Nat), Live s ∧ s.tapMay path false = true ∧ keyAt path a = some key
        ∧ regAt key = some (r, ix) ∧ (regDesc r).acc = Access.rc ∧ r ≠ RegId.txtsWord1 ∧ s.awake (keyDomain key) = true) :=
  ⟨⟨cmdOf 6 [2160], ready, .intRoute, [14], by decide⟩,
    ⟨cmdOf 6 [88], ready, .cmdSrcCnt, [5], by decide⟩,
    ⟨cmdOf 6 [4088], ready, by decide⟩,
    ⟨cmdOf 6 [0x4000], ready.setDomain domPcie { state := 3 }, by decide⟩,
    ⟨ready, .bar2, 88, 88, .cmdSrcCnt, [5], by decide⟩⟩

/-- States and operands that meet the premises of RegisterWrites, clause by clause. -/
theorem witness_RegisterWrites :
    (∃ (c : Cmd) (s : State) (r : RegId) (ix : List Nat), Taken 7 regWriteDomain c s ∧ (blockOf (c.n 0)).isSome = true ∧ regAt (c.n 0) = some (r, ix)
        ∧ mayWrite (Path.cmd c.src) r = true ∧ valueOk r (c.p 1) = true ∧ writeSpecial (Path.cmd c.src) r ix (c.p 1) = none
        ∧ ((regDesc r).acc = Access.rw ∨ (regDesc r).acc = Access.rws))
    ∧ (∃ (c : Cmd) (s : State) (r : RegId) (ix : List Nat), Taken 7 regWriteDomain c s ∧ (blockOf (c.n 0)).isSome = true ∧ regAt (c.n 0) = some (r, ix)
        ∧ mayWrite (Path.cmd c.src) r = true ∧ valueOk r (c.p 1) = true ∧ writeSpecial (Path.cmd c.src) r ix (c.p 1) = none
        ∧ (regDesc r).acc = Access.rw1c)
    ∧ (∃ (s : State) (path : Path) (a : Nat) (key : Nat) (r : RegId) (ix : List Nat) (half : Half) (v : W), Live s ∧ path ≠ Path.poisoned
        ∧ s.tapMay path true = true ∧ keyAt path a = some key ∧ regAt key = some (r, ix) ∧ s.awake (keyDomain key) = true
        ∧ (half = Half.whole ∨ (regDesc r).acc.halves = true) ∧ mayWrite path r = true
        ∧ valueOk r (if half = Half.whole then v else mergeHalf half ((wakeDomain (keyDomain key) s).regView r ix) v) = true
        ∧ writeSpecial path r ix (if half = Half.whole then v else mergeHalf half ((wakeDomain (keyDomain key) s).regView r ix) v) = none
        ∧ ((regDesc r).acc = Access.rw ∨ (regDesc r).acc = Access.rws))
    ∧ (∃ (s : State) (path : Path) (a : Nat) (key : Nat) (r : RegId) (ix : List Nat) (v : W), Live s ∧ path ≠ Path.poisoned ∧ s.tapMay path true = true
        ∧ keyAt path a = some key ∧ regAt key = some (r, ix) ∧ s.awake (keyDomain key) = true ∧ mayWrite path r = true ∧ valueOk r v = true
        ∧ writeSpecial path r ix v = none ∧ (regDesc r).acc = Access.rw1c)
    ∧ (∃ (s : State) (path : Path), Live s ∧ (path = Path.bar2 ∨ path = Path.tap
        ∧ s.sec.level = 2 ∨ path = Path.cmd Source.sideband ∨ path = Path.cmd Source.pf0) ∧ s.awake domMgmt = true)
    ∧ (∃ (s : State), Live s) :=
  ⟨⟨cmdOf 7 [16, 0], ready, .cmdIntEnable, [], by decide⟩,
    ⟨cmdOf 7 [8, 1], ready, .cmdIntStatus, [], by decide⟩,
    ⟨ready, .bar2, 16, 16, .cmdIntEnable, [], .high, 0, by decide⟩,
    ⟨ready, .bar2, 8, 8, .cmdIntStatus, [], 1, by decide⟩,
    ⟨ready, .bar2, by decide⟩,
    ⟨ready, by decide⟩⟩

/-- States and operands that meet the premises of ServoRules, clause by clause. -/
theorem witness_ServoRules :
    (∃ (v : W) (s : State) (e : Int), Live s ∧ bitAt v 63 = true ∧ bitAt v 62 = false ∧ fld v 61 60 = s.mast.params.servoDomain
        ∧ s.mast.params.servoSrc = 0 ∧ e = sgn 48 (fld v 47 0) ∧ s.mast.servo.state = ServoState.locked ∧ e.natAbs ≤ s.mast.params.outlierLimit * 65536
        ∧ e.natAbs ≤ s.mast.params.stepThreshold * 65536)
    ∧ (∃ (v : W) (s : State) (e : Int), Live s ∧ bitAt v 63 = true ∧ bitAt v 62 = false ∧ fld v 61 60 = s.mast.params.servoDomain
        ∧ s.mast.params.servoSrc = 0 ∧ e = sgn 48 (fld v 47 0) ∧ s.mast.servo.state = ServoState.locked ∧ s.mast.params.outlierLimit * 65536 < e.natAbs
        ∧ s.mast.servo.rejects < s.mast.params.outlierRun)
    ∧ (∃ (v : W) (s : State), Live s ∧ bitAt v 63 = true ∧ bitAt v 62 = false ∧ fld v 61 60 ≠ s.mast.params.servoDomain)
    ∧ (∃ (v : W) (s : State), Live s ∧ bitAt v 63 = false ∧ bitAt v 62 = true ∧ fld v 61 60 = s.mast.params.servoDomain
        ∧ s.mast.servo.state ≠ ServoState.freerun ∧ s.mast.servo.state ≠ ServoState.holdover)
    ∧ (∃ (s : State), Live s ∧ s.mast.servo.lastAccept + s.mast.params.sampleTimeout * 50000000 ≤ s.mast.tick ∧ s.mast.servo.state ≠ ServoState.freerun
        ∧ s.mast.servo.state ≠ ServoState.holdover) :=
  ⟨⟨mk 63 63 1 ||| mk 47 0 32768000, withMast (fun m => { m with servo := { state := .locked } }) ready, 32768000, by decide⟩,
    ⟨mk 63 63 1 ||| mk 47 0 32768001, withMast (fun m => { m with servo := { state := .locked, rejects := 3 } }) ready, 32768001, by decide⟩,
    ⟨mk 63 63 1 ||| mk 61 60 3, ready, by decide⟩,
    ⟨mk 62 62 1, withMast (fun m => { m with servo := { state := .locked } }) ready, by decide⟩,
    ⟨withMast (fun m => { m with servo := { state := .locked } }) (at_ 800000000), by decide⟩⟩

/-- States and operands that meet the premises of TimeInputs, clause by clause. -/
theorem witness_TimeInputs :
    (∃ (s : State), Live s ∧ s.mast.params.todInEn = 1)
    ∧ (∃ (s : State), Live s ∧ s.mast.params.todInEn ≠ 1 ∧ s.mast.params.servoSrc ≠ 1)
    ∧ (∃ (s : State), Live s ∧ s.mast.ppsInOk = true ∧ 3 * sec48 + us48 < ppsInSince s)
    ∧ (∃ (s : State) (e : PpsEdge) (l : List PpsEdge), Live s ∧ s.mast.ppsInWaiting = e :: l ∧ s.mast.params.todInEn = 1
        ∧ e.tick + 720000000 ≤ s.mast.tick)
    ∧ (∃ (s : State) (b : List Byte), Live s ∧ s.mast.params.todInEn = 1 ∧ todGood b = false)
    ∧ (∃ (s : State) (b : List Byte) (l : List PpsEdge) (e : PpsEdge), Live s ∧ s.mast.params.todInEn = 1 ∧ todGood b = true
        ∧ s.mast.params.servoSrc ≠ 1 ∧ s.mast.ppsInWaiting = l ++ [e] ∧ s.mast.tick ≤ e.tick + 720000000)
    ∧ (∃ (s : State) (src : Nat), Live s ∧ src ≠ 0 ∧ src = s.mast.params.freqSrc ∧ s.mast.servo.state ≠ ServoState.holdover)
    ∧ (∃ (s : State) (src : Nat), Live s ∧ src ≠ 0 ∧ src = s.mast.params.freqSrc ∧ s.mast.servo.state = ServoState.holdover)
    ∧ (∃ (s : State) (d : Nat), Live s ∧ s.mast.todDue = some d ∧ d ≤ s.mast.tick ∧ (s.mast.bcRunning = false ∨ s.mast.params.servoSrc ≠ 0))
    ∧ (∃ (s : State), Live s ∧ s.mast.refoscOk = true)
    ∧ (∃ (s : State), Live s)
    ∧ (∃ (s : State) (v : W), Live s ∧ bitAt v 0 = true) :=
  ⟨⟨withMast (fun m => { m with params := { m.params with todInEn := 1 } }) ready, by decide⟩,
    ⟨ready, by decide⟩,
    ⟨withMast (fun m => { m with ppsInOk := true }) (at_ 2400000801), by decide⟩,
    ⟨withMast (fun m => { m with params := { m.params with todInEn := 1 }, ppsInWaiting := [{ time16 := 0, tick := 0 }] }) (at_ 720000000),
      { time16 := 0, tick := 0 }, [], by decide⟩,
    ⟨withMast (fun m => { m with params := { m.params with todInEn := 1 } }) ready, [], by decide⟩,
    ⟨withMast (fun m => { m with params := { m.params with todInEn := 1 }, ppsInWaiting := [{ time16 := 0, tick := 0 }] }) (at_ 720000000), tod0, [],
      { time16 := 0, tick := 0 }, by decide⟩,
    ⟨withMast (fun m => { m with params := { m.params with freqSrc := 5 } }) ready, 5, by decide⟩,
    ⟨withMast (fun m => { m with params := { m.params with freqSrc := 5 }, servo := { state := .holdover } }) ready, 5, by decide⟩,
    ⟨withMast (fun m => { m with todDue := some 0 }) ready, 0, by decide⟩,
    ⟨withMast (fun m => { m with refoscOk := true }) ready, by decide⟩,
    ⟨ready, by decide⟩,
    ⟨ready, 1, by decide⟩⟩

/-- States and operands that meet the premises of MastTime, clause by clause. -/
theorem witness_MastTime :
    (∃ (c : Cmd) (s : State), Taken 256 noDomain c s ∧ firstBad (mastRanges c) = none
        ∧ (s.mast.servo.state ≠ ServoState.freerun ∨ s.mast.servo.everAccepted = true) ∧ (s.freqAssist = false ∨ c.n 1 = s.mast.params.freqSrc))
    ∧ (∃ (c : Cmd) (s : State), Taken 257 noDomain c s ∧ (∀ k < 8, (s.timeline k).configured = false) ∧ (setTimeOf c).ns < 1000000000)
    ∧ (∃ (s : State), Live s ∧ s.awake domMast = true)
    ∧ (∃ (s : State), Live s ∧ s.mast.tick % 1024 = 0)
    ∧ (∃ (s : State), Live s) :=
  ⟨⟨{ cmdOf 0x100 [1, 5, 65535, 31, 65535, 31, 65535, 255, 65535, 15, 256, 1000000000, 1, 16, 65535, 100000, 1024, 3, 65535, 255, 3, 87960930222, 4294967295, 4294967295, 1000000, 400000, 1000000, 1, 2, 300] with clock := 7 },
    withMast (fun m => { m with servo := { state := .locked } }) ready, by decide⟩,
    ⟨cmdOf 0x101 [0, mk 47 16 999999999], ready, by decide⟩,
    ⟨ready, by decide⟩,
    ⟨at_ 1024, by decide⟩,
    ⟨ready, by decide⟩⟩

/-- States and operands that meet the premises of RiggingCommands, clause by clause. -/
theorem witness_RiggingCommands :
    (∃ (c : Cmd) (s : State), Taken 258 noDomain c s ∧ timelineBad (c.n 0) (timelineOf c) = none ∧ tget none s.rig.tlPending (c.n 0) = none
        ∧ (s.referenced (c.n 0) = false ∨ sameGrid (s.timeline (c.n 0)) (timelineOf c) = true ∧ (timelineOf c).configured = true))
    ∧ (∃ (s : State) (n : Nat) (p : TlPending), n < 8 ∧ Live s ∧ tget none s.rig.tlPending n = some p ∧ s.tlDue n p = true)
    ∧ (∃ (c : Cmd) (s : State), Taken 512 noDomain c s ∧ rwKind c = 0 ∧ rwFirst c + rwCount c ≤ 16384 ∧ s.pendingCommit = none)
    ∧ (∃ (c : Cmd) (s : State), Taken 512 noDomain c s ∧ rwKind c = 1 ∧ rwFirst c + rwCount c ≤ 1024 ∧ s.pendingCommit = none)
    ∧ (∃ (c : Cmd) (s : State), Taken 513 noDomain c s ∧ Clean s ∧ rwKind c = 0 ∧ rwFirst c + rwCount c ≤ 16384)
    ∧ (∃ (c : Cmd) (s : State), Taken 513 noDomain c s ∧ Clean s ∧ rwKind c = 1 ∧ rwFirst c + rwCount c ≤ 1024)
    ∧ (∃ (c : Cmd) (s : State), Held 514 noDomain c s ∧ Clean s ∧ s.pendingCommit = none ∧ firstFailing s (s.bank s.shadow) = none)
    ∧ (∃ (c : Cmd) (s : State) (p : TimedCmd), Taken 515 noDomain c s ∧ s.pendingCommit = some p ∧ rank c.src ≤ rank p.cmd.src
        ∧ s.mast.tick + 64 ≤ s.switchTick p) :=
  ⟨⟨cmdOf 0x102 ([7, mk 62 60 6 ||| mk 58 55 1 ||| mk 50 49 2, 1] ++ List.replicate 10 0), ready, by decide⟩,
    ⟨withRig (fun r => { r with tlPending := [(7, some { desc := {}, accepted := 0, notBefore := 0 })] }) ready, 7,
      { desc := {}, accepted := 0, notBefore := 0 }, by decide⟩,
    ⟨cmdOf 0x200 [mk 61 48 16383 ||| mk 47 32 1, 0, 0], ready, by decide⟩,
    ⟨cmdOf 0x200 [mk 63 62 1 ||| mk 61 48 1023 ||| mk 47 32 1, 0, 0, 0, 0, 0, 0, 0, 0], ready, by decide⟩,
    ⟨cmdOf 0x201 [mk 61 48 16383 ||| mk 47 32 1], ready, by decide⟩,
    ⟨cmdOf 0x201 [mk 63 62 1 ||| mk 61 48 1023 ||| mk 47 32 1], ready, by decide⟩,
    ⟨timedOf 0x202 [0], active0 ready, by decide⟩,
    ⟨cmdOf 0x203 [], holding [{ commit0 with at16 := 81920 * 80 }] ready, { commit0 with at16 := 81920 * 80 }, by decide⟩⟩

/-- States and operands that meet the premises of RiggingRuns, clause by clause. -/
theorem witness_RiggingRuns :
    (∃ (s : State) (p : TimedCmd), Live s ∧ List.find? (fun p => p.opcode == 514 && s.timedDue p && s.turn p) s.cmd.timed = some p
        ∧ firstFailing s (s.bank s.shadow) = none ∧ s.rig.active ≤ 1)
    ∧ (∃ (s : State) (b : Nat) (i : Nat) (a : Int) (x : Int), Live s ∧ b ≤ 1 ∧ i < 16384 ∧ Clean s ∧ entValid ((s.bank b).entry i) = true
        ∧ s.latestOcc ((s.bank b).entry i) (s.mast.tick + 32) = some (a, x) ∧ (∀ (k : Int), tget none s.rig.lastAnchor (entKey b i) = some k → k < a)
        ∧ s.bankFires b x = true ∧ s.cellAsleep (entTimeline ((s.bank b).entry i)) = false ∧ s.rig.notBefore ≤ x)
    ∧ (∃ (s : State) (n : Nat), Live s ∧ n < 8 ∧ (s.timeline n).configured = true)
    ∧ (∃ (s : State), Live s ∧ s.stepNow = true)
    ∧ (∃ (s : State) (n : Nat), Live s ∧ s.rig.stepTick = some n ∧ n + 288 ≤ s.mast.tick)
    ∧ (∃ (s : State) (n : Nat), Live s ∧ n < 8)
    ∧ (∃ (s : State) (n : Nat) (path : Path) (l : PosLatch), Live s ∧ n < 8
        ∧ List.find? (fun x => x.timeline == n && x.path == pathKey path) s.rig.posLatch = some l) :=
  ⟨⟨holding [commit0] ready, commit0, by decide⟩,
    ⟨withRig (fun r => { r with bank0 := { entries := [(16383, (mk 63 63 1, 0))] } }) (active0 ready), 0, 16383, occ0, 0, by decide⟩,
    ⟨active0 ready, 0, by decide⟩,
    ⟨withMast (fun m => { m with servo := { state := .stepPending } }) { active0 ready with time := { master := { ns := 20000000 } } }, by decide⟩,
    ⟨withRig (fun r => { r with stepTick := some 0 }) (at_ 288), 0, by decide⟩,
    ⟨ready, 7, by decide⟩,
    ⟨withRig (fun r => { r with posLatch := [{ timeline := 7, path := pathKey .bar2, frame := 0 }] }) ready, 7, .bar2,
      { timeline := 7, path := pathKey .bar2, frame := 0 }, by decide⟩⟩

/-- States and operands that meet the premises of RiggingActions, clause by clause. -/
theorem witness_RiggingActions :
    (∃ (b : Nat) (i : Nat) (v : RigEvent) (s : State), EventDue 16 b i v s)
    ∧ (∃ (b : Nat) (i : Nat) (v : RigEvent) (s : State), EventDue 17 b i v s)
    ∧ (∃ (b : Nat) (i : Nat) (v : RigEvent) (s : State), EventDue 48 b i v s)
    ∧ (∃ (b : Nat) (i : Nat) (v : RigEvent) (s : State), EventDue 49 b i v s)
    ∧ (∃ (b : Nat) (i : Nat) (v : RigEvent) (s : State), EventDue 50 b i v s)
    ∧ (∃ (b : Nat) (i : Nat) (v : RigEvent) (s : State), EventDue 51 b i v s)
    ∧ (∃ (b : Nat) (i : Nat) (v : RigEvent) (s : State), EventDue 64 b i v s)
    ∧ (∃ (b : Nat) (i : Nat) (v : RigEvent) (s : State), EventDue 65 b i v s)
    ∧ (∃ (b : Nat) (i : Nat) (v : RigEvent) (s : State), EventDue 80 b i v s)
    ∧ (∃ (b : Nat) (i : Nat) (v : RigEvent) (s : State), EventDue 81 b i v s)
    ∧ (∃ (b : Nat) (i : Nat) (v : RigEvent) (s : State), EventDue 32 b i v s ∧ (∀ x ∈ s.sk.descs, s.awake (domCluster x.2.cluster) = true))
    ∧ (∃ (b : Nat) (i : Nat) (v : RigEvent) (s : State), EventDue 32 b i v s ∧ (∀ q < 4, s.awake (domCluster q) = false)
        ∧ (∀ x ∈ s.sk.descs, x.2.cluster < 4))
    ∧ (∃ (b : Nat) (i : Nat) (v : RigEvent) (s : State), EventDue 96 b i v s
        ∧ (∀ q < 4, (entArg ((s.bank (b % 2)).entry i) / 2 ^ 44).testBit q = true → s.awake (domCluster q) = true
        ∧ bitAt ((s.cluster q).entry (s.cluster q).active (entArg ((s.bank (b % 2)).entry i) % 256)) 63 = true ∧ (s.cluster q).queue.length < 8192)
        ∧ 16 ≤ entArg ((s.bank (b % 2)).entry i) % 256 ∧ entArg ((s.bank (b % 2)).entry i) % 256 ≤ 247)
    ∧ (∃ (b : Nat) (i : Nat) (v : RigEvent) (s : State), EventDue 96 b i v s ∧ (∀ q < 4, s.awake (domCluster q) = false)) :=
  ⟨⟨0, 16383, due0, due 16 (mk 63 54 1023), by decide⟩,
    ⟨0, 16383, due0, due 17 (mk 63 54 1023), by decide⟩,
    ⟨0, 16383, due0, due 48 (mk 63 54 1023), by decide⟩,
    ⟨0, 16383, due0, due 49 (mk 63 54 1023), by decide⟩,
    ⟨0, 16383, due0, due 50 (mk 63 54 1023), by decide⟩,
    ⟨0, 16383, due0, due 51 (mk 63 54 1023), by decide⟩,
    ⟨0, 16383, due0, due 64 (mk 63 54 1023), by decide⟩,
    ⟨0, 16383, due0, due 65 (mk 63 54 1023), by decide⟩,
    ⟨0, 16383, due0, due 80 (mk 63 54 1023), by decide⟩,
    ⟨0, 16383, due0, due 81 (mk 63 54 1023), by decide⟩,
    ⟨0, 16383, due0, due 32 (mk 63 54 1023), by decide⟩,
    ⟨0, 16383, due0, asleep (due 32 (mk 63 54 1023)), by decide⟩,
    ⟨0, 16383, due0, (due 96 (mk 47 44 8 ||| 247)).setCluster 3 { disp := [(247, mk 63 63 1)] }, by decide⟩,
    ⟨0, 16383, due0, asleep (due 96 (mk 47 44 8 ||| 247)), by decide⟩⟩

/-- States and operands that meet the premises of PortBringUp, clause by clause. -/
theorem witness_PortBringUp :
    (∃ (c : Cmd) (n : Nat) (p : Nat) (s : State), n < 512 ∧ p < 512 ∧ Taken 768 portDomain c s ∧ c.n 0 = p ∧ (s.prt p).formed = true ∧ c.n 2 ≤ 1
        ∧ c.n 3 < 256 ∧ (c.n 4 = 0 ∨ 10 ≤ c.n 4 ∧ c.n 4 ≤ 10000) ∧ c.n 5 ≤ 1 ∧ c.n 1 = 1 ∧ (s.prt p).state = 4)
    ∧ (∃ (c : Cmd) (n : Nat) (p : Nat) (s : State), n < 512 ∧ p < 512 ∧ Taken 768 portDomain c s ∧ c.n 0 = p ∧ (s.prt p).formed = true ∧ c.n 2 ≤ 1
        ∧ c.n 3 < 256 ∧ (c.n 4 = 0 ∨ 10 ≤ c.n 4 ∧ c.n 4 ≤ 10000) ∧ c.n 5 ≤ 1 ∧ c.n 1 = 0 ∧ (s.prt p).state ≠ 4)
    ∧ (∃ (c : Cmd) (n : Nat) (p : Nat) (s : State), n < 512 ∧ p < 512 ∧ Taken 768 portDomain c s ∧ c.n 0 = p ∧ (s.prt p).formed = true ∧ c.n 2 ≤ 1
        ∧ c.n 3 < 256 ∧ (c.n 4 = 0 ∨ 10 ≤ c.n 4 ∧ c.n 4 ≤ 10000) ∧ c.n 5 ≤ 1 ∧ c.n 1 = 1 ∧ c.n 2 = 0 ∧ (s.prt p).state ≠ 4)
    ∧ (∃ (c : Cmd) (n : Nat) (p : Nat) (s : State), n < 512 ∧ p < 512 ∧ Taken 769 portDomain c s ∧ c.n 0 = p ∧ (s.prt p).formed = true
        ∧ p + (s.prt p).lanes ≤ 512 ∧ c.n 1 ≤ 1 ∧ (c.n 2 = 0 ∨ c.n 2 = 1 ∧ c.n 1 = 0 ∧ lpiAvailable (s.prt p) = true) ∧ c.n 3 ≤ 65535 ∧ 100 ≤ c.n 4
        ∧ c.n 4 ≤ c.n 5 ∧ c.n 4 % 10 = 0 ∧ 200 ≤ c.n 5 ∧ c.n 5 ≤ 12800 ∧ c.n 5 % 10 = 0 ∧ c.n 6 ≤ 1)
    ∧ (∃ (n : Nat) (p : Nat) (s : State), n < 512 ∧ p < 512 ∧ Live s ∧ (s.lane n).sig = false
        ∧ (∀ (q : Nat), s.portOf n = some q → (s.prt q).state ≠ 3))
    ∧ (∃ (n : Nat) (p : Nat) (s : State), n < 512 ∧ p < 512 ∧ Live s ∧ (s.lane n).sig = true ∧ s.portOf n = some p ∧ s.linkUp p = true
        ∧ (s.lane n).rxDoze = 0)
    ∧ (∃ (n : Nat) (p : Nat) (s : State) (d : Nat), n < 512 ∧ p < 512 ∧ Live s ∧ (s.lane n).sig = false ∧ s.portOf n = some p ∧ s.linkUp p = true
        ∧ (s.lane n).sigLost = some d ∧ d + 800 < s.mast.tick ∧ (s.lane n).rxDoze = 0)
    ∧ (∃ (n : Nat) (p : Nat) (s : State), n < 512 ∧ p < 512 ∧ Live s ∧ s.portOf n = some p ∧ (s.lane n).sig = true ∧ (s.prt p).state = 1
        ∧ (s.lane n).sigTick + 8000 ≤ s.mast.tick ∧ (s.lane n).stage ≤ 2)
    ∧ (∃ (n : Nat) (p : Nat) (s : State), n < 512 ∧ p < 512 ∧ Live s ∧ (s.lane n).cdr = true ∧ s.portOf n = some p ∧ s.linkUp p = true
        ∧ (s.lane n).rxDoze = 0)
    ∧ (∃ (n : Nat) (p : Nat) (s : State) (h : Hunt), n < 512 ∧ p < 512 ∧ Live s ∧ s.portOf n = some p ∧ (s.prt p).state = 1 ∧ (s.lane n).cdr = true
        ∧ ((s.lane n).stage = 3 ∨ (s.lane n).stage = 4) ∧ s.alignsBy n p h = true)
    ∧ (∃ (n : Nat) (p : Nat) (s : State) (h : Hunt), n < 512 ∧ p < 512 ∧ Live s ∧ s.portOf n = some p ∧ s.alignsBy n p h = false)
    ∧ (∃ (n : Nat) (p : Nat) (s : State) (h : Hunt), n < 512 ∧ p < 512 ∧ Live s ∧ (s.lane n).aligned = true ∧ s.portOf n = some p ∧ s.linkUp p = true
        ∧ (s.lane n).rxDoze = 0 ∧ s.lostBy n h = true)
    ∧ (∃ (n : Nat) (p : Nat) (s : State) (h : Hunt), n < 512 ∧ p < 512 ∧ Live s ∧ (s.lane n).aligned = true ∧ s.portOf n = some p ∧ s.linkUp p = true
        ∧ (s.lane n).rxDoze = 0 ∧ s.lostBy n h = false ∧ h.deskewLost = true)
    ∧ (∃ (n : Nat) (p : Nat) (s : State), n < 512 ∧ p < 512 ∧ Live s ∧ s.linkUp p = true)
    ∧ (∃ (n : Nat) (p : Nat) (s : State) (i : BringUp), n < 512 ∧ p < 512 ∧ Live s ∧ (s.prt p).formed = true ∧ (s.prt p).state = 1
        ∧ (s.prt p).stage = 5 ∧ mapOk (s.prt p).lanes i.laneMap = true ∧ (∀ x ∈ i.skew, x ≤ 256))
    ∧ (∃ (n : Nat) (p : Nat) (s : State), n < 512 ∧ p < 512 ∧ Live s ∧ (s.prt p).formed = true ∧ (s.prt p).state = 1 ∧ (s.prt p).stage = 6)
    ∧ (∃ (n : Nat) (p : Nat) (s : State) (i : BringUp), n < 512 ∧ p < 512 ∧ Live s ∧ (s.prt p).formed = true ∧ (s.prt p).state = 1
        ∧ (s.prt p).stage = 7
        ∧ if (s.prt p).isCpri = true then i.cpriVersion = 1 ∨ i.cpriVersion = 2 else ((s.prt p).forTopsail = false ∨ (s.prt p).topsailEnded = true)
        ∧ s.mayLink p = true)
    ∧ (∃ (n : Nat) (p : Nat) (s : State), n < 512 ∧ p < 512 ∧ Live s ∧ (s.lane n).aligned = true) :=
  ⟨⟨cmdOf 0x300 [511, 1, 1, 255, 10000, 1], 511, 511, withPort 511 0 { upping with state := 4 }, by decide⟩,
    ⟨cmdOf 0x300 [511, 0, 0, 0, 0, 0], 511, 511, withPort 511 0 upPort, by decide⟩,
    ⟨cmdOf 0x300 [511, 1, 0, 0, 10, 0], 511, 511, withPort 511 0 upPort, by decide⟩,
    ⟨cmdOf 0x301 [511, 1, 0, 65535, 200, 12800, 1], 511, 511, withPort 511 0 upPort, by decide⟩,
    ⟨511, 0, ready, by decide⟩,
    ⟨511, 511, withLane { sig := true } 0, by decide⟩,
    ⟨511, 511, withLane { sigLost := some 0 } 801, 0, by decide⟩,
    ⟨511, 511, (withPort 511 8000 upping).setLane 511 { sig := true }, by decide⟩,
    ⟨511, 511, withLane { cdr := true } 0, by decide⟩,
    ⟨511, 511, (withPort 511 0 upping).setLane 511 { cdr := true, stage := 4, mode := 1 }, { commas := [true, false, false], standard := true },
      by decide⟩,
    ⟨511, 511, withLane {} 0, {}, by decide⟩,
    ⟨511, 511, withLane { aligned := true } 0, {}, by decide⟩,
    ⟨511, 511, withLane { aligned := true } 0, { standard := true, deskewLost := true }, by decide⟩,
    ⟨511, 511, withLane {} 0, by decide⟩,
    ⟨0, 511, withPort 511 0 { upping with stage := 5 }, { laneMap := [0], skew := [256] }, by decide⟩,
    ⟨0, 511, withPort 511 0 { upping with stage := 6 }, by decide⟩,
    ⟨0, 511, withPort 511 0 { upping with stage := 7 }, { laneMap := [], skew := [] }, by decide⟩,
    ⟨511, 511, withLane { aligned := true } 0, by decide⟩⟩

/-- States and operands that meet the premises of PortProtocol, clause by clause. -/
theorem witness_PortProtocol :
    (∃ (p : Nat) (s : State), p < 512 ∧ Live s ∧ (s.prt p).formed = true ∧ (s.prt p).state = 1 ∧ (s.prt p).idleTick = none
        ∧ (s.prt p).startTick + attemptMs (s.prt p) * 800000 ≤ s.mast.tick)
    ∧ (∃ (p : Nat) (s : State), p < 512 ∧ Live s ∧ (s.prt p).formed = true ∧ (s.prt p).state = 3
        ∧ (s.prt p).absentTick + 8000000 * 2 ^ (s.prt p).backoff ≤ s.mast.tick)
    ∧ (∃ (p : Nat) (s : State), p < 512 ∧ Live s ∧ s.linkUp p = true ∧ (s.prt p).upTick + 800000000 ≤ s.mast.tick)
    ∧ (∃ (p : Nat) (s : State), p < 512 ∧ Live s ∧ (s.prt p).formed = true ∧ ((s.prt p).state = 1 ∨ (s.prt p).state = 3))
    ∧ (∃ (p : Nat) (s : State), p < 512 ∧ Live s ∧ s.linkUp p = true)
    ∧ (∃ (p : Nat) (s : State), p < 512 ∧ Live s ∧ (s.prt p).formed = true ∧ (s.prt p).isCpri = false ∧ (s.prt p).state = 1 ∧ (s.prt p).stage = 7
        ∧ (s.prt p).helloTick + 800000 ≤ s.mast.tick)
    ∧ (∃ (p : Nat) (s : State), p < 512 ∧ Live s ∧ (s.prt p).isCpri = false ∧ s.linkUp p = true ∧ (s.prt p).ver ≠ 0 ∧ s.txAwake p = true
        ∧ (s.prt p).helloTick + 80000000 ≤ s.mast.tick)
    ∧ (∃ (p : Nat) (s : State) (b : List Byte), p < 512 ∧ Live s ∧ s.linkUp p = true ∧ s.rxAwake p = true ∧ (s.prt p).isCpri = false
        ∧ helloGood p b s = true ∧ byteAt b 17 = 3)
    ∧ (∃ (p : Nat) (s : State), p < 512 ∧ Live s ∧ s.linkUp p = true ∧ s.rxAwake p = false)
    ∧ (∃ (p : Nat) (s : State) (b : List Byte), p < 512 ∧ Live s ∧ (s.prt p).formed = true ∧ s.rxAwake p = true ∧ (s.prt p).isCpri = false
        ∧ helloGood p b s = true ∧ (s.prt p).state = 1 ∧ (s.prt p).stage = 7 ∧ byteAt b 16 % 4 = 3 ∧ byteAt b 17 = 1 ∧ byteAt b 23 = 2
        ∧ (s.prt p).forTopsail = false ∧ s.mayLink p = true)
    ∧ (∃ (p : Nat) (s : State) (x : Nat) (y : Nat), p < 512 ∧ Live s ∧ s.linkUp p = true ∧ (s.prt p).goSent = some x ∧ (s.prt p).goRx = some y
        ∧ (s.prt p).idleTick = none ∧ max x y + 80000 ≤ s.mast.tick)
    ∧ (∃ (p : Nat) (s : State) (x : Nat), p < 512 ∧ Live s ∧ (s.prt p).idleTick = some x ∧ (s.prt p).state = 1 ∧ x + 80000 ≤ s.mast.tick)
    ∧ (∃ (p : Nat) (s : State) (x : Nat), p < 512 ∧ Live s ∧ s.linkUp p = true ∧ (s.prt p).epochDue = some x ∧ x ≤ s.mast.tick)
    ∧ (∃ (p : Nat) (s : State), p < 512 ∧ Live s ∧ s.linkUp p = true ∧ (s.prt p).lpiEn = true)
    ∧ (∃ (p : Nat) (s : State) (ctrl : Bool) (b : List Byte), p < 512 ∧ Live s ∧ s.linkUp p = true ∧ s.rxAwake p = true ∧ (s.prt p).option ≠ 0
        ∧ s.awake (domTile (tileOf p)) = true ∧ bytesNat b 0 4 / 4096 % 256 < 150 ∧ if ctrl = true then b.length = 4 + 256 * cpriWord (s.prt p).option
        ∧ bytesNat b 0 4 / 16 % 256 = 0 else b.length = 4 + cpriGroup (s.prt p).rxGroup * cpriIq (s.prt p).option
        ∧ bytesNat b 0 4 / 16 % 256 % cpriGroup (s.prt p).rxGroup = 0)
    ∧ (∃ (p : Nat) (s : State), p < 512 ∧ Live s ∧ s.linkUp p = true ∧ s.txAwake p = true ∧ (s.prt p).option ≠ 0
        ∧ (s.timeline (s.prt p).cpriTimeline).configured = true
        ∧ (s.prt p).cpriNext.getD (s.cpriNow p) % (if (s.prt p).cpriNext.getD (s.cpriNow p) % (cpriGroup (s.prt p).cpriGroup) = 0 then cpriGroup (s.prt p).cpriGroup else 4) = 0
        ∧ s.cpri16 p ((s.prt p).cpriNext.getD (s.cpriNow p)) ≤ s.now16) :=
  ⟨⟨511, withPort 511 80000000 upping, by decide⟩,
    ⟨511, withPort 511 8000000 { upping with state := 3 }, by decide⟩,
    ⟨511, withPort 511 800000000 upPort, by decide⟩,
    ⟨511, withPort 511 0 { upping with state := 3 }, by decide⟩,
    ⟨511, withPort 511 0 upPort, by decide⟩,
    ⟨511, withPort 511 800000 { upping with stage := 7 }, by decide⟩,
    ⟨511, withPort 511 80000000 upPort, by decide⟩,
    ⟨511, withPort 511 0 upPort, hello [0, 3], by decide⟩,
    ⟨511, withLane { rxDoze := 2 } 0, by decide⟩,
    ⟨511, withPort 511 0 { upping with stage := 7 }, hello [3, 1, 0, 0, 0, 0, 0, 2], by decide⟩,
    ⟨511, withPort 511 80000 { upPort with goSent := some 0, goRx := some 0 }, 0, 0, by decide⟩,
    ⟨511, withPort 511 80000 { upping with idleTick := some 0 }, 0, by decide⟩,
    ⟨511, withPort 511 0 { upPort with epochDue := some 0 }, 0, by decide⟩,
    ⟨511, withPort 511 0 { upPort with lpiEn := true }, by decide⟩,
    ⟨511, withPort 511 0 { upPort with entry := mk 54 51 13 ||| mk 48 45 3 }, false, List.replicate 244 0, by decide⟩,
    ⟨0, (active0 ready).setPort 0 { upPort with entry := mk 54 51 13 ||| mk 48 45 3, cpriNext := some (-1300000000000000) }, by decide⟩⟩

/-- States and operands that meet the premises of LaneDoze, clause by clause. -/
theorem witness_LaneDoze :
    (∃ (n : Nat) (p : Nat) (s : State), n < 512 ∧ Live s ∧ s.portOf n = some p ∧ (s.lane n).txDoze = 1 ∧ (s.lane n).txSleepDue ≤ s.mast.tick)
    ∧ (∃ (n : Nat) (p : Nat) (s : State), n < 512 ∧ Live s ∧ s.portOf n = some p ∧ (s.lane n).txDoze = 3 ∧ (s.lane n).seqTx = none
        ∧ (s.lane n).wakeTx + nsTicks ((s.lane n).wakeG + 100) ≤ s.mast.tick ∧ bursting (s.lane n) s = false)
    ∧ (∃ (n : Nat) (p : Nat) (s : State), n < 512 ∧ Live s ∧ s.portOf n = some p ∧ bursting (s.lane n) s = true)
    ∧ (∃ (n : Nat) (p : Nat) (s : State), n < 512 ∧ Live s ∧ s.portOf n = some p ∧ (s.lane n).rxDoze = 3 ∧ (s.lane n).window = 0
        ∧ windowOpenTick (s.prt p) (s.lane n) ≤ s.mast.tick)
    ∧ (∃ (n : Nat) (p : Nat) (s : State), n < 512 ∧ Live s ∧ s.portOf n = some p ∧ (s.lane n).rxDoze = 3 ∧ (s.lane n).window = 0
        ∧ windowOpenTick (s.prt p) (s.lane n) ≤ s.mast.tick ∧ ¬((s.lane n).guardCeil ≤ (s.lane n).guard ∧ 15 ≤ (s.lane n).missRun))
    ∧ (∃ (n : Nat) (p : Nat) (s : State), n < 512 ∧ Live s ∧ s.portOf n = some p ∧ (s.lane n).rxDoze = 3 ∧ (s.lane n).window = 0
        ∧ windowOpenTick (s.prt p) (s.lane n) ≤ s.mast.tick ∧ (s.lane n).guardCeil ≤ (s.lane n).guard ∧ 15 ≤ (s.lane n).missRun)
    ∧ (∃ (n : Nat) (p : Nat) (s : State), n < 512 ∧ Live s ∧ s.portOf n = some p ∧ (s.lane n).rxDoze = 3 ∧ (s.lane n).window ≠ 0
        ∧ (s.lane n).seqRx = none ∧ s.mast.tick ≤ windowCloseTick (s.prt p) (s.lane n))
    ∧ (∃ (n : Nat) (p : Nat) (s : State), n < 512 ∧ Live s ∧ s.portOf n = some p ∧ (s.lane n).rxDoze = 3 ∧ (s.lane n).window ≠ 0
        ∧ (s.lane n).seqRx = none ∧ windowCloseTick (s.prt p) (s.lane n) < s.mast.tick)
    ∧ (∃ (n : Nat) (p : Nat) (s : State), n < 512 ∧ Live s ∧ s.portOf n = some p ∧ (s.lane n).rxDoze = 4 ∧ (s.lane n).seqRx = none)
    ∧ (∃ (n : Nat) (p : Nat) (s : State), n < 512 ∧ Live s ∧ s.portOf n = some p ∧ (s.lane n).rxDoze = 3 ∧ (s.lane n).window = 1
        ∧ (s.lane n).seqRx = none ∧ windowCloseTick (s.prt p) (s.lane n) ≤ s.mast.tick)
    ∧ (∃ (n : Nat) (p : Nat) (s : State), n < 512 ∧ Live s ∧ s.portOf n = some p ∧ s.linkUp p = true ∧ ((s.lane n).rxDoze = 3 ∨ (s.lane n).rxDoze = 4)
        ∧ (s.lane n).seqRx = none ∧ wakeFailTick (s.prt p) (s.lane n) ≤ s.mast.tick)
    ∧ (∃ (n : Nat) (p : Nat) (s : State), n < 512 ∧ Live s ∧ s.portOf n = some p ∧ s.linkUp p = true)
    ∧ (∃ (n : Nat) (p : Nat) (s : State) (d : Nat), n < 512 ∧ Live s ∧ s.portOf n = some p ∧ (s.lane n).txDoze = 3 ∧ (s.lane n).seqTx = some d
        ∧ d + 80 ≤ s.mast.tick ∧ (s.lane n).rxDoze ≠ 3)
    ∧ (∃ (n : Nat) (p : Nat) (s : State) (d : Nat), n < 512 ∧ Live s ∧ s.portOf n = some p ∧ (s.lane n).rxDoze = 3 ∧ (s.lane n).seqRx = some d
        ∧ d + 80 ≤ s.mast.tick ∧ (s.lane n).txDoze ≠ 3)
    ∧ (∃ (n : Nat) (p : Nat) (s : State) (d : Nat), n < 512 ∧ Live s ∧ s.portOf n = some p ∧ (s.lane n).txDoze = 4 ∧ (s.lane n).reqUntil = some d
        ∧ d ≤ s.mast.tick ∧ (s.lane n).rxDoze ≠ 4)
    ∧ (∃ (n : Nat) (p : Nat) (s : State) (d : Nat), n < 512 ∧ Live s ∧ s.portOf n = some p ∧ (s.lane n).rxDoze = 4 ∧ (s.lane n).seqRx = some d
        ∧ (s.lane n).txDoze ≠ 4) :=
  ⟨⟨511, 511, withLane { txDoze := 1 } 0, by decide⟩,
    ⟨511, 511, withLane { txDoze := 3 } 240, by decide⟩,
    ⟨511, 511, withLane { burstUntil := some 1 } 0, by decide⟩,
    ⟨511, 511, withLane { rxDoze := 3 } 80, by decide⟩,
    ⟨511, 511, withLane { rxDoze := 3 } 80, by decide⟩,
    ⟨511, 511, withLane { rxDoze := 3, guardCeil := 100, missRun := 15 } 8000, by decide⟩,
    ⟨511, 511, withLane { rxDoze := 3, window := 1 } 400, by decide⟩,
    ⟨511, 511, withLane { rxDoze := 3, window := 1 } 100000, by decide⟩,
    ⟨511, 511, withLane { rxDoze := 4 } 0, by decide⟩,
    ⟨511, 511, withLane { rxDoze := 3, window := 1 } 400, by decide⟩,
    ⟨511, 511, withLane { rxDoze := 4 } 8400, by decide⟩,
    ⟨511, 511, withLane {} 0, by decide⟩,
    ⟨511, 511, withLane { txDoze := 3, seqTx := some 0 } 80, 0, by decide⟩,
    ⟨511, 511, withLane { rxDoze := 3, seqRx := some 0 } 80, 0, by decide⟩,
    ⟨511, 511, withLane { txDoze := 4, reqUntil := some 0 } 0, 0, by decide⟩,
    ⟨511, 511, withLane { rxDoze := 4, seqRx := some 0 } 0, 0, by decide⟩⟩

/-- States and operands that meet the premises of PipelineTables, clause by clause. -/
theorem witness_PipelineTables :
    (∃ (c : Cmd) (s : State), Taken 1024 maskDomain c s ∧ tilesOf c ≠ [] ∧ fld (c.p 0) 31 13 = 0 ∧ (bitAt (c.p 1) 63 = false ∨ fld (c.p 1) 62 60 < 6
        ∧ actionOk (c.p 1) = true) ∧ (∀ k ∈ tilesOf c, (s.tl k).staged = true))
    ∧ (∃ (c : Cmd) (s : State), Taken 1024 maskDomain c s ∧ tilesOf c ≠ [] ∧ fld (c.p 0) 31 13 = 0 ∧ (bitAt (c.p 1) 63 = false ∨ fld (c.p 1) 62 60 < 6
        ∧ actionOk (c.p 1) = true) ∧ (∀ k ∈ tilesOf c, (s.tl k).staged = false ∧ (s.tl k).active ≠ ruleBank (ruleIndex c)))
    ∧ (∃ (c : Cmd) (s : State), Taken 1025 maskDomain c s ∧ tilesOf c ≠ [] ∧ fld (c.p 0) 47 1 = 0 ∧ bitAt (c.p 0) 0 = true
        ∧ (∀ k ∈ tilesOf c, (s.tl k).staged = true → ∀ x ∈ (s.tl k).rules, 4096 ≤ x.1 → bitAt (x.2.getD 0 0) 63 = false))
    ∧ (∃ (c : Cmd) (s : State), Taken 1025 maskDomain c s ∧ tilesOf c ≠ [] ∧ fld (c.p 0) 47 1 = 0 ∧ bitAt (c.p 0) 0 = false)
    ∧ (∃ (c : Cmd) (s : State), Taken 1026 tileDomain c s ∧ (s.tl (fld (c.p 0) 63 60)).staged = false ∧ fld (c.p 0) 59 16 = 0
        ∧ fld (c.p 0) 15 0 = s.epoch (ekClass (fld (c.p 0) 63 60) (1 - (s.tl (fld (c.p 0) 63 60)).active)))
    ∧ (∃ (c : Cmd) (s : State), Taken 1027 tileDomain c s ∧ 0 < readCount c ∧ readCount c < 8192 ∧ readFirst c + readCount c ≤ 8192
        ∧ fld (c.p 0) 59 48 = 0)
    ∧ (∃ (c : Cmd) (s : State), Taken 1028 word0Tile c s ∧ c.n 0 < 16 ∧ c.n 1 < 65536 ∧ c.n 2 < 2 ∧ c.n 3 < 2 ∧ c.n 4 < 33554432 ∧ c.n 5 < 16777216
        ∧ c.n 6 < 33554432 ∧ c.n 7 < 16777216 ∧ -32 ≤ BitVec.toInt (c.p 8) ∧ BitVec.toInt (c.p 8) ≤ 31 ∧ c.n 9 < 3)
    ∧ (∃ (c : Cmd) (s : State), Taken 1029 maskDomain c s ∧ tilesOf c ≠ [] ∧ readFirst c < 512 ∧ fld (c.p 0) 47 32 = 0)
    ∧ (∃ (c : Cmd) (s : State), Taken 1030 noDomain c s ∧ c.n 0 < 4096 ∧ ¬(bitAt (c.p 1) 63 = true ∧ bitAt (c.p 1) 62 = true ∧ fld (c.p 1) 49 46 = 0))
    ∧ (∃ (c : Cmd) (s : State), Taken 1031 maskDomain c s ∧ tilesOf c ≠ [] ∧ 1 ≤ readFirst c ∧ readFirst c < 256 ∧ fld (c.p 0) 47 32 = 0
        ∧ 1 ≤ fld (c.p 1) 63 56 ∧ fld (c.p 1) 63 56 ≤ 8 ∧ fld (c.p 1) 7 0 ≤ 96 ∧ c.params.length = 2 + (fld (c.p 1) 7 0 + 7) / 8) :=
  ⟨⟨cmdOf 0x400 [mk 63 48 0x8000 ||| 8191, 0, 0, 0, 0, 0, 0, 0, 0], ready.setTl 15 { staged := true }, by decide⟩,
    ⟨cmdOf 0x400 [mk 63 48 0x8000 ||| 4095, mk 63 63 1 ||| mk 62 60 5 ||| mk 59 57 3, 0, 0, 0, 0, 0, 0, 0], ready.setTl 15 { active := 1 },
      by decide⟩,
    ⟨cmdOf 0x401 [mk 63 48 0x8000 ||| 1], ready, by decide⟩,
    ⟨cmdOf 0x401 [mk 63 48 0x8000], ready, by decide⟩,
    ⟨{ cmdOf 0x402 [mk 63 60 15] with clock := 7 }, ready, by decide⟩,
    ⟨cmdOf 0x403 [mk 63 60 15 ||| mk 47 32 8191 ||| 1], ready, by decide⟩,
    ⟨cmdOf 0x404 [15, 65535, 1, 1, 33554431, 16777215, 33554431, 16777215, 31, 2], ready, by decide⟩,
    ⟨cmdOf 0x405 [mk 63 48 0x8000 ||| 511, 0], ready, by decide⟩,
    ⟨cmdOf 0x406 [4095, 0], ready, by decide⟩,
    ⟨cmdOf 0x407 [mk 63 48 0x8000 ||| 255, mk 63 56 8 ||| 96, 0, 0, 0, 0, 0, 0, 0, 0, 0, 0, 0, 0], ready, by decide⟩⟩

/-- States and operands that meet the premises of L2Commands, clause by clause. -/
theorem witness_L2Commands :
    (∃ (c : Cmd) (s : State), Taken 1280 maskDomain c s ∧ tilesOf c ≠ [] ∧ fld (c.p 0) 47 0 = 0 ∧ (∀ k ∈ tilesOf c, (s.tl k).hostReqs < 64))
    ∧ (∃ (c : Cmd) (s : State), Taken 1281 maskDomain c s ∧ tilesOf c ≠ [] ∧ fld (c.p 0) 47 0 = 0 ∧ (∀ k ∈ tilesOf c, (s.tl k).hostReqs < 64))
    ∧ (∃ (c : Cmd) (s : State), Taken 1282 maskDomain c s ∧ tilesOf c ≠ [] ∧ (bitAt (c.p 0) 31 = true ∨ bitAt (c.p 0) 30 = true)
        ∧ (∀ k ∈ tilesOf c, (s.tl k).flush = none))
    ∧ (∃ (s : State) (k : Nat) (f : Flush), k < 16 ∧ Live s ∧ (s.tl k).flush = some f ∧ f.start + 16384 ≤ s.mast.tick)
    ∧ (∃ (c : Cmd) (s : State), Taken 1283 tileDomain c s ∧ Clean s ∧ 0 < readCount c ∧ readCount c ≤ 1023 ∧ readFirst c + readCount c ≤ 32768
        ∧ fld (c.p 0) 59 48 = 0)
    ∧ (∃ (c : Cmd) (s : State), Taken 1284 tileDomain c s ∧ fld (c.p 0) 59 48 = 0 ∧ (s.tl (fld (c.p 0) 63 60)).reseed = none
        ∧ (∀ x ∈ imageOf (c.n 1) c.host, l2Set (fld (c.p 0) 31 0) (l2Vid x.2) (l2Mac x.2) = x.1 / 4))
    ∧ (∃ (s : State) (k : Nat) (r : Reseed), k < 16 ∧ Live s ∧ (s.tl k).reseed = some r ∧ r.loaded s.mast.tick = 32768)
    ∧ (∃ (c : Cmd) (s : State), Taken 1285 tileDomain c s ∧ fld (c.p 0) 59 0 = 0)
    ∧ (∃ (c : Cmd) (s : State), Taken 1286 maskDomain c s ∧ tilesOf c ≠ [] ∧ fld (c.p 0) 47 32 = 0
        ∧ fld (c.p 0) 27 0 + (List.drop 2 c.params).length ≤ lpmWords (fld (c.p 0) 31 28))
    ∧ (∃ (c : Cmd) (s : State), Taken 1287 noDomain c s)
    ∧ (∃ (c : Cmd) (s : State), Taken 1288 maskDomain c s ∧ tilesOf c ≠ [] ∧ fld (c.p 0) 47 32 = 0 ∧ fld (c.p 0) 30 12 = 0 ∧ bitAt (c.p 0) 31 = false
        ∧ c.params.length = 9)
    ∧ (∃ (c : Cmd) (s : State), Taken 1288 maskDomain c s ∧ tilesOf c ≠ [] ∧ fld (c.p 0) 47 32 = 0 ∧ fld (c.p 0) 30 12 = 0 ∧ bitAt (c.p 0) 31 = true
        ∧ c.params.length = 2 ∧ c.n 1 < 4096) :=
  ⟨⟨cmdOf 0x500 [mk 63 48 0x8000, 0, 0], ready, by decide⟩,
    ⟨cmdOf 0x501 [mk 63 48 0x8000, 0], ready, by decide⟩,
    ⟨cmdOf 0x502 [mk 63 48 0x8000 ||| mk 31 31 1], ready, by decide⟩,
    ⟨(at_ 16384).setTl 15 { flush := some { byPort := true, byVid := false, port := 0, vid := 0, start := 0 } }, 15,
      { byPort := true, byVid := false, port := 0, vid := 0, start := 0 }, by decide⟩,
    ⟨cmdOf 0x503 [mk 63 60 15 ||| mk 47 32 1023 ||| 31745], ready, by decide⟩,
    ⟨cmdOf 0x504 [mk 63 60 15, 0, 0], ready, by decide⟩,
    ⟨(at_ 16384).setTl 15 { reseed := some { seed := 0, epoch := 0, image := [], start := 0 } }, 15,
      { seed := 0, epoch := 0, image := [], start := 0 }, by decide⟩,
    ⟨cmdOf 0x505 [mk 63 60 15], ready, by decide⟩,
    ⟨cmdOf 0x506 [mk 63 48 0x8000 ||| mk 31 28 9 ||| 4095, 0, 0], ready, by decide⟩,
    ⟨cmdOf 0x507 [], ready, by decide⟩,
    ⟨cmdOf 0x508 [mk 63 48 0x8000 ||| 4095, 0, 0, 0, 0, 0, 0, 0, 0], ready, by decide⟩,
    ⟨cmdOf 0x508 [mk 63 48 0x8000 ||| mk 31 31 1 ||| 4095, 4095], ready, by decide⟩⟩

/-- States and operands that meet the premises of Learning, clause by clause. -/
theorem witness_Learning :
    (∃ (n : Nat) (s : State) (r : LearnReq) (rest : List LearnReq) (w : Nat), n < 16 ∧ Live s ∧ Clean s ∧ s.awake (domTile n) = true
        ∧ (s.tl n).learnQ = r :: rest ∧ (s.tl n).reseed = none ∧ r.tick + 2 ≤ s.mast.tick ∧ (s.tl n).lastLearn + 1 ≤ s.mast.tick ∧ r.kind = 0
        ∧ (∀ v < 4, ¬(l2Valid (tget (0, 0) (s.tl n).l2 (4 * l2Set (s.tl n).l2Seed (l2Vid (r.w0, r.w1)) (l2Mac (r.w0, r.w1)) + v)) = true
        ∧ l2Vid (tget (0, 0) (s.tl n).l2 (4 * l2Set (s.tl n).l2Seed (l2Vid (r.w0, r.w1)) (l2Mac (r.w0, r.w1)) + v)) = l2Vid (r.w0, r.w1)
        ∧ l2Mac (tget (0, 0) (s.tl n).l2 (4 * l2Set (s.tl n).l2Seed (l2Vid (r.w0, r.w1)) (l2Mac (r.w0, r.w1)) + v)) = l2Mac (r.w0, r.w1)))
        ∧ s.freeWay n (l2Set (s.tl n).l2Seed (l2Vid (r.w0, r.w1)) (l2Mac (r.w0, r.w1))) = some w)
    ∧ (∃ (n : Nat) (s : State) (r : LearnReq) (rest : List LearnReq) (w : Nat), n < 16 ∧ Live s ∧ Clean s ∧ s.awake (domTile n) = true
        ∧ (s.tl n).learnQ = r :: rest ∧ (s.tl n).reseed = none ∧ r.tick + 2 ≤ s.mast.tick ∧ (s.tl n).lastLearn + 1 ≤ s.mast.tick ∧ r.kind = 0 ∧ w < 4
        ∧ l2Valid (tget (0, 0) (s.tl n).l2 (4 * l2Set (s.tl n).l2Seed (l2Vid (r.w0, r.w1)) (l2Mac (r.w0, r.w1)) + w)) = true
        ∧ l2Vid (tget (0, 0) (s.tl n).l2 (4 * l2Set (s.tl n).l2Seed (l2Vid (r.w0, r.w1)) (l2Mac (r.w0, r.w1)) + w)) = l2Vid (r.w0, r.w1)
        ∧ l2Mac (tget (0, 0) (s.tl n).l2 (4 * l2Set (s.tl n).l2Seed (l2Vid (r.w0, r.w1)) (l2Mac (r.w0, r.w1)) + w)) = l2Mac (r.w0, r.w1)
        ∧ (∀ v < w, ¬(l2Valid (tget (0, 0) (s.tl n).l2 (4 * l2Set (s.tl n).l2Seed (l2Vid (r.w0, r.w1)) (l2Mac (r.w0, r.w1)) + v)) = true
        ∧ l2Vid (tget (0, 0) (s.tl n).l2 (4 * l2Set (s.tl n).l2Seed (l2Vid (r.w0, r.w1)) (l2Mac (r.w0, r.w1)) + v)) = l2Vid (r.w0, r.w1)
        ∧ l2Mac (tget (0, 0) (s.tl n).l2 (4 * l2Set (s.tl n).l2Seed (l2Vid (r.w0, r.w1)) (l2Mac (r.w0, r.w1)) + v)) = l2Mac (r.w0, r.w1)))
        ∧ l2Port (tget (0, 0) (s.tl n).l2 (4 * l2Set (s.tl n).l2Seed (l2Vid (r.w0, r.w1)) (l2Mac (r.w0, r.w1)) + w)) = l2Port (r.w0, r.w1))
    ∧ (∃ (n : Nat) (s : State) (r : LearnReq) (rest : List LearnReq) (w : Nat), n < 16 ∧ Live s ∧ Clean s ∧ s.awake (domTile n) = true
        ∧ (s.tl n).learnQ = r :: rest ∧ (s.tl n).reseed = none ∧ r.tick + 2 ≤ s.mast.tick ∧ (s.tl n).lastLearn + 1 ≤ s.mast.tick ∧ r.kind = 0 ∧ w < 4
        ∧ l2Valid (tget (0, 0) (s.tl n).l2 (4 * l2Set (s.tl n).l2Seed (l2Vid (r.w0, r.w1)) (l2Mac (r.w0, r.w1)) + w)) = true
        ∧ l2Vid (tget (0, 0) (s.tl n).l2 (4 * l2Set (s.tl n).l2Seed (l2Vid (r.w0, r.w1)) (l2Mac (r.w0, r.w1)) + w)) = l2Vid (r.w0, r.w1)
        ∧ l2Mac (tget (0, 0) (s.tl n).l2 (4 * l2Set (s.tl n).l2Seed (l2Vid (r.w0, r.w1)) (l2Mac (r.w0, r.w1)) + w)) = l2Mac (r.w0, r.w1)
        ∧ (∀ v < w, ¬(l2Valid (tget (0, 0) (s.tl n).l2 (4 * l2Set (s.tl n).l2Seed (l2Vid (r.w0, r.w1)) (l2Mac (r.w0, r.w1)) + v)) = true
        ∧ l2Vid (tget (0, 0) (s.tl n).l2 (4 * l2Set (s.tl n).l2Seed (l2Vid (r.w0, r.w1)) (l2Mac (r.w0, r.w1)) + v)) = l2Vid (r.w0, r.w1)
        ∧ l2Mac (tget (0, 0) (s.tl n).l2 (4 * l2Set (s.tl n).l2Seed (l2Vid (r.w0, r.w1)) (l2Mac (r.w0, r.w1)) + v)) = l2Mac (r.w0, r.w1)))
        ∧ l2Port (tget (0, 0) (s.tl n).l2 (4 * l2Set (s.tl n).l2Seed (l2Vid (r.w0, r.w1)) (l2Mac (r.w0, r.w1)) + w)) ≠ l2Port (r.w0, r.w1)
        ∧ l2Static (tget (0, 0) (s.tl n).l2 (4 * l2Set (s.tl n).l2Seed (l2Vid (r.w0, r.w1)) (l2Mac (r.w0, r.w1)) + w)) = true)
    ∧ (∃ (n : Nat) (s : State) (r : LearnReq) (rest : List LearnReq) (w : Nat), n < 16 ∧ Live s ∧ Clean s ∧ s.awake (domTile n) = true
        ∧ (s.tl n).learnQ = r :: rest ∧ (s.tl n).reseed = none ∧ r.tick + 2 ≤ s.mast.tick ∧ (s.tl n).lastLearn + 1 ≤ s.mast.tick ∧ r.kind = 1
        ∧ l2Valid (r.w0, r.w1) = true
        ∧ (∀ v < 4, ¬(l2Valid (tget (0, 0) (s.tl n).l2 (4 * l2Set (s.tl n).l2Seed (l2Vid (r.w0, r.w1)) (l2Mac (r.w0, r.w1)) + v)) = true
        ∧ l2Vid (tget (0, 0) (s.tl n).l2 (4 * l2Set (s.tl n).l2Seed (l2Vid (r.w0, r.w1)) (l2Mac (r.w0, r.w1)) + v)) = l2Vid (r.w0, r.w1)
        ∧ l2Mac (tget (0, 0) (s.tl n).l2 (4 * l2Set (s.tl n).l2Seed (l2Vid (r.w0, r.w1)) (l2Mac (r.w0, r.w1)) + v)) = l2Mac (r.w0, r.w1)))
        ∧ s.freeWay n (l2Set (s.tl n).l2Seed (l2Vid (r.w0, r.w1)) (l2Mac (r.w0, r.w1))) = some w)
    ∧ (∃ (n : Nat) (s : State) (r : LearnReq) (rest : List LearnReq) (w : Nat), n < 16 ∧ Live s ∧ Clean s ∧ s.awake (domTile n) = true
        ∧ (s.tl n).learnQ = r :: rest ∧ (s.tl n).reseed = none ∧ r.tick + 2 ≤ s.mast.tick ∧ (s.tl n).lastLearn + 1 ≤ s.mast.tick
        ∧ (r.kind = 1 ∨ r.kind = 2) ∧ w < 4
        ∧ l2Valid (tget (0, 0) (s.tl n).l2 (4 * l2Set (s.tl n).l2Seed (l2Vid (r.w0, r.w1)) (l2Mac (r.w0, r.w1)) + w)) = true
        ∧ l2Vid (tget (0, 0) (s.tl n).l2 (4 * l2Set (s.tl n).l2Seed (l2Vid (r.w0, r.w1)) (l2Mac (r.w0, r.w1)) + w)) = l2Vid (r.w0, r.w1)
        ∧ l2Mac (tget (0, 0) (s.tl n).l2 (4 * l2Set (s.tl n).l2Seed (l2Vid (r.w0, r.w1)) (l2Mac (r.w0, r.w1)) + w)) = l2Mac (r.w0, r.w1)
        ∧ (∀ v < w, ¬(l2Valid (tget (0, 0) (s.tl n).l2 (4 * l2Set (s.tl n).l2Seed (l2Vid (r.w0, r.w1)) (l2Mac (r.w0, r.w1)) + v)) = true
        ∧ l2Vid (tget (0, 0) (s.tl n).l2 (4 * l2Set (s.tl n).l2Seed (l2Vid (r.w0, r.w1)) (l2Mac (r.w0, r.w1)) + v)) = l2Vid (r.w0, r.w1)
        ∧ l2Mac (tget (0, 0) (s.tl n).l2 (4 * l2Set (s.tl n).l2Seed (l2Vid (r.w0, r.w1)) (l2Mac (r.w0, r.w1)) + v)) = l2Mac (r.w0, r.w1))))
    ∧ (∃ (n : Nat) (s : State), n < 16 ∧ Live s ∧ Clean s ∧ s.awake (domTile n) = true ∧ (s.tl n).reseed = none ∧ s.rgf RegId.l2Cfg [n] 31 16 ≠ 0
        ∧ (s.tl n).sweepTick + s.rgf RegId.l2Cfg [n] 31 16 * 390625 ≤ 16 * s.mast.tick) :=
  ⟨⟨15, learning learn0 0, learn0, [], 0, by decide⟩,
    ⟨15, learning learn0 (mk 63 63 1), learn0, [], 3, by decide⟩,
    ⟨15, learning learn0 (mk 63 62 3 ||| mk 34 26 511), learn0, [], 3, by decide⟩,
    ⟨15, learning { learn0 with kind := 1, w0 := mk 63 63 1 } 0, { learn0 with kind := 1, w0 := mk 63 63 1 }, [], 0, by decide⟩,
    ⟨15, learning { learn0 with kind := 2 } (mk 63 63 1), { learn0 with kind := 2 }, [], 3, by decide⟩,
    ⟨15, (at_ 24415).setRg .l2Cfg [15] (mk 31 16 1), by decide⟩⟩

/-- States and operands that meet the premises of BufferAndCrossbar, clause by clause. -/
theorem witness_BufferAndCrossbar :
    (∃ (c : Cmd) (s : State), Taken 1536 queueDomain c s ∧ c.n 0 < 8192 ∧ c.n 1 < 16)
    ∧ (∃ (c : Cmd) (s : State), Taken 1537 noDomain c s ∧ fld (c.p 0) 3 0 < 12 ∧ fld (c.p 0) 15 4 = 0 ∧ fld (c.p 0) 63 32 = 0
        ∧ s.epoch ekXbar = fld (c.p 0) 31 16 ∧ (s.plane (fld (c.p 0) 3 0)).fault = false)
    ∧ (∃ (c : Cmd) (s : State), Taken 1537 noDomain c s ∧ fld (c.p 0) 3 0 < 12 ∧ fld (c.p 0) 15 4 = 0 ∧ fld (c.p 0) 63 32 = 0
        ∧ s.epoch ekXbar = fld (c.p 0) 31 16 ∧ (s.plane (fld (c.p 0) 3 0)).fault = true)
    ∧ (∃ (s : State) (p : Nat) (cause : Nat), Live s ∧ p < 12 ∧ 1 ≤ cause ∧ cause ≤ 5 ∧ (s.plane p).fault = false ∧ s.planeOff p = false
        ∧ (cause = 5 → (s.fault 13 (16 + p)).forced.testBit 5 = true ∨ (s.fault 13 (16 + p)).forced.testBit 6 = true))
    ∧ (∃ (s : State) (p : Nat) (t0 : Nat), Live s ∧ (s.plane p).windows = some t0 ∧ t0 + 512 ≤ s.mast.tick)
    ∧ (∃ (s : State) (i : Nat) (v : Pull), i < 16 ∧ Live s ∧ List.find? (fun v => v.slice == i) s.pk.pulls = some v)
    ∧ (∃ (s : State) (p : Nat), Live s ∧ s.pk.xbar.window + 8 ≤ s.mast.tick ∧ p < 12 ∧ (s.plane p).detected ≠ 0 ∧ (s.plane p).fault = false)
    ∧ (∃ (s : State), Live s ∧ s.pk.xbar.window + 8 ≤ s.mast.tick ∧ (∀ p < 12, (s.plane p).detected = 0))
    ∧ (∃ (s : State) (n : Nat) (k : Nat) (d : Cell), n < 16 ∧ Live s ∧ (List.filter (fun d => d.dst == n) s.pk.xbar.flight)[k]? = some d
        ∧ d.arrive ≤ s.mast.tick ∧ 8192 ≤ dist14 d.seq (s.stream (64 * n + 4 * d.src + d.cls)).e)
    ∧ (∃ (s : State) (n : Nat) (k : Nat) (d : Cell), n < 16 ∧ Live s ∧ (List.filter (fun d => d.dst == n) s.pk.xbar.flight)[k]? = some d
        ∧ d.arrive ≤ s.mast.tick ∧ d.seq ≠ (s.stream (64 * n + 4 * d.src + d.cls)).e ∧ dist14 d.seq (s.stream (64 * n + 4 * d.src + d.cls)).e < 8192
        ∧ (∀ h ∈ (s.stream (64 * n + 4 * d.src + d.cls)).held, h.2.seq ≠ (s.stream (64 * n + 4 * d.src + d.cls)).e) ∧ Clean s)
    ∧ (∃ (s : State) (n : Nat) (k : Nat) (d : Cell), n < 16 ∧ Live s ∧ (List.filter (fun d => d.dst == n) s.pk.xbar.flight)[k]? = some d
        ∧ d.arrive ≤ s.mast.tick ∧ d.seq = (s.stream (64 * n + 4 * d.src + d.cls)).e ∧ (s.stream (64 * n + 4 * d.src + d.cls)).held = []
        ∧ (s.stream (64 * n + 4 * d.src + d.cls)).gap = false ∧ d.first = true ∧ d.last = true ∧ Clean s)
    ∧ (∃ (s : State) (n : Nat) (k : Nat) (d : Cell), n < 16 ∧ Live s ∧ (List.filter (fun d => d.dst == n) s.pk.xbar.flight)[k]? = some d
        ∧ d.arrive ≤ s.mast.tick ∧ d.plane < 12)
    ∧ (∃ (s : State) (n : Nat) (k : Nat) (h : Nat) (d : Cell), n < 16 ∧ k < 64 ∧ Live s ∧ Clean s ∧ (s.stream (64 * n + k)).held = [(h, d)]
        ∧ h + s.rgf RegId.rsqTimeout [] 15 0 * 8 ≤ s.mast.tick ∧ d.seq < 16384 ∧ (s.stream (64 * n + k)).e < 16384)
    ∧ (∃ (s : State) (i : Nat), i < 16 ∧ Live s ∧ s.rgf RegId.auditCtl [i] 15 0 ≠ 0 ∧ (s.slice i).passStart = none ∧ (s.slice i).nextPass ≤ s.mast.tick
        ∧ s.awake (domTile i) = true)
    ∧ (∃ (s : State) (i : Nat) (a : Nat), i < 16 ∧ Live s ∧ (s.slice i).passStart = some a) :=
  ⟨⟨cmdOf 0x600 [8191, 15], ready, by decide⟩,
    ⟨cmdOf 0x601 [11], ready, by decide⟩,
    ⟨cmdOf 0x601 [11], ready.setPlane 11 { fault := true, cause := 1 }, by decide⟩,
    ⟨ready.setFault 13 27 { forced := 64 }, 11, 5, by decide⟩,
    ⟨(at_ 512).setPlane 11 { fault := true, windows := some 0 }, 11, 0, by decide⟩,
    ⟨withPk (fun k => { k with pulls := [{ slice := 15, ref := ref0, discard := false }] }) ready, 15, { slice := 15, ref := ref0, discard := false },
      by decide⟩,
    ⟨(at_ 8).setPlane 11 { detected := 3 }, 11, by decide⟩,
    ⟨at_ 8, by decide⟩,
    ⟨flying { cell0 with seq := 8192 }, 15, 0, { cell0 with seq := 8192 }, by decide⟩,
    ⟨flying { cell0 with seq := 8191 }, 15, 0, { cell0 with seq := 8191 }, by decide⟩,
    ⟨flying cell0, 15, 0, cell0, by decide⟩,
    ⟨flying cell0, 15, 0, cell0, by decide⟩,
    ⟨(at_ 524280).setStream 1023 { held := [(0, { cell0 with seq := 16383 })] }, 15, 63, 0, { cell0 with seq := 16383 }, by decide⟩,
    ⟨ready.setRg .auditCtl [15] 1, 15, by decide⟩,
    ⟨ready.setSlice 15 { passStart := some 0 }, 15, 0, by decide⟩⟩

/-- States and operands that meet the premises of PacketPath, clause by clause. -/
theorem witness_PacketPath :
    (∃ (p : Nat) (s : State) (f : RxFrame), p < 512 ∧ Live s ∧ f.line = [] ∧ s.canReceive p f = true ∧ helloGood p f.bytes s = false
        ∧ s.awake (domTile (tileOf p)) = true ∧ mgmtFrame s p (parse (s.parseCfgOf (tileOf p) p) f.bytes) (receivedPkt s p f).macsec = none
        ∧ f.fcsGood = true ∧ (parse (s.parseCfgOf (tileOf p) p) f.bytes).fail = 0
        ∧ keyFormat (s.rg RegId.portKeySel [tileOf p, p % 32]) (parse (s.parseCfgOf (tileOf p) p) f.bytes).cls false = 7
        ∧ actDisp (s.rg RegId.portDefaultNomatch [tileOf p, p % 32]) = 2 ∧ actSpread (s.rg RegId.portDefaultNomatch [tileOf p, p % 32]) = 0
        ∧ actMirror (s.rg RegId.portDefaultNomatch [tileOf p, p % 32]) = 0 ∧ actPolice (s.rg RegId.portDefaultNomatch [tileOf p, p % 32]) = none
        ∧ bitAt (s.rg RegId.telPortCfg [p]) 63 = false ∧ f.bytes.length + 4 ≤ 16384
        ∧ Room (tileOf p) (fld (s.rg RegId.portDefaultNomatch [tileOf p, p % 32]) 53 45) (if bitAt (s.rg RegId.portDefaultNomatch [tileOf p, p % 32]) 37 = true then fld (s.rg RegId.portDefaultNomatch [tileOf p, p % 32]) 36 33 else if (parse (s.parseCfgOf (tileOf p) p) f.bytes).tagged = true then fld (s.rg RegId.portQos [tileOf p, p % 32]) (4 * (parse (s.parseCfgOf (tileOf p) p) f.bytes).opcp + 3) (4 * (parse (s.parseCfgOf (tileOf p) p) f.bytes).opcp) else fld (s.rg RegId.portQos [tileOf p, p % 32]) 47 44) (cellsOf (f.bytes.length + 4)) false s)
    ∧ (∃ (p : Nat) (s : State) (f : RxFrame), p < 512 ∧ Live s ∧ f.line = [] ∧ s.canReceive p f = true ∧ helloGood p f.bytes s = false
        ∧ s.awake (domTile (tileOf p)) = true ∧ mgmtFrame s p (parse (s.parseCfgOf (tileOf p) p) f.bytes) (receivedPkt s p f).macsec = none
        ∧ (parse (s.parseCfgOf (tileOf p) p) f.bytes).fail ≠ 0 ∧ actDisp (s.rg RegId.portDefaultParsefail [tileOf p, p % 32]) = 3
        ∧ actMirror (s.rg RegId.portDefaultParsefail [tileOf p, p % 32]) = 0 ∧ actPolice (s.rg RegId.portDefaultParsefail [tileOf p, p % 32]) = none)
    ∧ (∃ (p : Nat) (s : State) (f : RxFrame), p < 512 ∧ Live s ∧ f.line ≠ [])
    ∧ (∃ (p : Nat) (s : State) (f : RxFrame), p < 512 ∧ Live s ∧ f.line = [] ∧ s.linkUp p = true ∧ s.rxAwake p = true ∧ f.fcsGood = true
        ∧ helloGood p f.bytes s = true)
    ∧ (∃ (p : Nat) (s : State) (k : Pkt) (o : Nat) (rest : List (Nat × Pkt)), p < 512 ∧ Live s ∧ s.awake (domTile (tileOf p)) = true
        ∧ (s.tl (tileOf p)).inject = (o, k) :: rest ∧ k.len ≤ 16384 ∧ Room (tileOf p) k.eport k.queue (cellsOf k.len) k.yellow s)
    ∧ (∃ (p : Nat) (s : State) (x : Nat × List Byte), p < 512 ∧ Live s ∧ s.awake (domTile (tileOf p)) = true ∧ (s.tl (tileOf p)).inject = []
        ∧ (s.tl (tileOf p)).recirc = [] ∧ List.find? (fun x => x.1 / 32 == tileOf p) s.out.mgmtTx = some x ∧ x.2.length + 4 ≤ 16384
        ∧ (∀ q < 16, Room (tileOf p) x.1 q (cellsOf (x.2.length + 4)) false s))
    ∧ (∃ (p : Nat) (s : State) (k : Pkt), p < 512 ∧ Live s ∧ List.find? (fun k => k.eport == p) (s.tl (tileOf p)).egress = some k ∧ s.linkUp p = false)
    ∧ (∃ (p : Nat) (s : State) (k : Pkt), p < 512 ∧ Live s ∧ List.find? (fun k => k.eport == p) (s.tl (tileOf p)).egress = some k ∧ s.linkUp p = true
        ∧ (s.prt p).inFlight = none ∧ s.txAwake p = true ∧ s.epochHeld p = false ∧ s.awake (domTile (tileOf p)) = true ∧ k.mark = false ∧ k.route = none
        ∧ k.encap = 0 ∧ k.mirror = true ∧ bitAt (s.rg RegId.telPortCfg [p]) 59 = false)
    ∧ (∃ (p : Nat) (s : State) (f : TxFrame), p < 512 ∧ Live s ∧ (s.prt p).inFlight = some f ∧ s.linkUp p = true ∧ s.txAwake p = true
        ∧ (s.prt p).txBusy16 ≤ s.now16 ∧ handedOver p f s = true ∧ ((s.prt p).isCpri = false ∨ (s.prt p).fastCm = true)
        ∧ isTxCapture p (s.prt p).option f.bytes = false ∧ (s.prt p).macsec = false ∧ (s.txts p).entries.length < 16
        ∧ (parse { ecpriPort := (s.parseCfgOf (tileOf p) p).ecpriPort, vxlanPort := (s.parseCfgOf (tileOf p) p).vxlanPort, genevePort := (s.parseCfgOf (tileOf p) p).genevePort, tpid := (s.parseCfgOf (tileOf p) p).tpid, dravua := (s.parseCfgOf (tileOf p) p).dravua } f.bytes).ptp = false)
    ∧ (∃ (p : Nat) (s : State) (f : TxFrame), p < 512 ∧ Live s ∧ (s.prt p).inFlight = some f ∧ s.linkUp p = true ∧ handedOver p f s = false)
    ∧ (∃ (p : Nat) (s : State) (f : TxFrame), p < 512 ∧ Live s ∧ (s.prt p).inFlight = some f ∧ s.linkUp p = true ∧ s.txAwake p = true
        ∧ (s.prt p).txBusy16 ≤ s.now16 ∧ handedOver p f s = true ∧ isTxCapture p (s.prt p).option f.bytes = true ∧ f.tsId = none) :=
  ⟨⟨511, receiving, rx60, by decide, by decide, by decide, by decide, by decide, by decide, by decide, by decide, by decide, by decide, by decide,
    by decide, by decide, by decide, by decide, by decide, ⟨_, _, rfl, rfl⟩⟩,
    ⟨511, receiving, { rx60 with bytes := [] }, by decide⟩,
    ⟨511, ready, { rx60 with line := [[0]] }, by decide⟩,
    ⟨511, receiving, { rx60 with bytes := hello [] }, by decide⟩,
    ⟨511, ready.setTl 15 { inject := [(0, { eport := 511, bytes := List.replicate 60 0 })] }, { eport := 511, bytes := List.replicate 60 0 }, 0, [],
      by decide, by decide, by decide, by decide, by decide, ⟨_, _, rfl, rfl⟩⟩,
    ⟨511, mgmtWaits, (511, List.replicate 60 0), by decide, by decide, by decide, by decide, by decide, by decide, by decide,
      fun q hq => by interval_cases q <;> exact ⟨_, _, rfl, rfl⟩⟩,
    ⟨511, ready.setTl 15 { egress := [{ eport := 511 }] }, { eport := 511 }, by decide⟩,
    ⟨511, (withPort 511 0 upPort).setTl 15 { egress := [{ eport := 511, mirror := true }] }, { eport := 511, mirror := true }, by decide⟩,
    ⟨511, withPort 511 0 { upPort with inFlight := some { bytes := List.replicate 60 0 } }, { bytes := List.replicate 60 0 }, by decide, by decide,
      by decide, by decide, by decide, by decide, (handed _ _ (by decide) (by decide)).trans (by decide), by decide⟩,
    ⟨511, withPort 511 0 { upPort with inFlight := some { bytes := [], handTick := 1 } }, { bytes := [], handTick := 1 }, by decide, by decide,
      by decide, by decide, (handed _ _ (by decide) (by decide)).trans (by decide)⟩,
    ⟨511, withPort 511 0 { upPort with entry := mk 54 51 13 ||| mk 48 45 3, inFlight := some { bytes := bytesBE 8 (3 * 2 ^ 30 + 511 * 2 ^ 14) } },
      { bytes := bytesBE 8 (3 * 2 ^ 30 + 511 * 2 ^ 14) }, by decide, by decide, by decide, by decide, by decide, by decide,
      (handed _ _ (by decide) (by decide)).trans (by decide), by decide⟩⟩

/-- States and operands that meet the premises of TrafficManager, clause by clause. -/
theorem witness_TrafficManager :
    (∃ (c : Cmd) (s : State), Taken 1538 queueDomain c s ∧ c.n 0 < 8192 ∧ fld (c.p 1) 63 48 ≠ 0 ∧ fld (c.p 1) 47 46 ≠ 3 ∧ fld (c.p 1) 43 23 ≤ 1572864
        ∧ fld (c.p 1) 22 2 ≤ 1572864)
    ∧ (∃ (c : Cmd) (s : State), Taken 1539 tmPortDomain c s ∧ c.n 0 < 512 ∧ fld (c.p 1) 62 60 ≤ 4)
    ∧ (∃ (c : Cmd) (s : State), Taken 1540 shaperDomain c s ∧ c.n 1 < 2 ∧ c.n 2 < 33554432 ∧ c.n 3 < 16777216 ∧ c.n 4 < 33554432 ∧ c.n 5 < 16777216
        ∧ c.n 6 < 2 ∧ bitAt (c.p 0) 63 = true ∧ fld (c.p 0) 62 0 < 512)
    ∧ (∃ (c : Cmd) (s : State), Taken 1540 shaperDomain c s ∧ c.n 1 < 2 ∧ c.n 2 < 33554432 ∧ c.n 3 < 16777216 ∧ c.n 4 < 33554432 ∧ c.n 5 < 16777216
        ∧ c.n 6 < 2 ∧ bitAt (c.p 0) 63 = false ∧ fld (c.p 0) 62 0 < 8192)
    ∧ (∃ (c : Cmd) (s : State), Taken 1541 counterDomain c s ∧ fld (c.p 0) 62 13 = 0)
    ∧ (∃ (s : State) (p : Nat), p < 512 ∧ Live s ∧ s.awake (domTile (tileOf p)) = true ∧ ¬((tget { } s.pk.turns (p / 8)).tick = s.mast.tick
        ∧ 4 ≤ (tget { } s.pk.turns (p / 8)).count) ∧ s.choice p = some Choice.waits)
    ∧ (∃ (s : State) (p : Nat) (k : Pick) (i : Nat) (r : Ref), p < 512 ∧ Live s ∧ s.awake (domTile (tileOf p)) = true
        ∧ ¬((tget { } s.pk.turns (p / 8)).tick = s.mast.tick ∧ 4 ≤ (tget { } s.pk.turns (p / 8)).count) ∧ s.choice p = some (Choice.pull k)
        ∧ s.turnOf p = true ∧ s.head p k.queue = some (i, r) ∧ s.poisoned p k.queue = false)
    ∧ (∃ (s : State) (p : Nat) (k : Pick) (i : Nat) (r : Ref), p < 512 ∧ Live s ∧ s.awake (domTile (tileOf p)) = true
        ∧ ¬((tget { } s.pk.turns (p / 8)).tick = s.mast.tick ∧ 4 ≤ (tget { } s.pk.turns (p / 8)).count) ∧ s.choice p = some (Choice.pull k)
        ∧ s.turnOf p = true ∧ s.head p k.queue = some (i, r) ∧ s.poisoned p k.queue = true ∧ i < 16)
    ∧ (∃ (s : State) (p : Nat) (q : Nat) (down : Bool) (i : Nat) (r : Ref), p < 512 ∧ Live s ∧ s.awake (domTile (tileOf p)) = true
        ∧ ¬((tget { } s.pk.turns (p / 8)).tick = s.mast.tick ∧ 4 ≤ (tget { } s.pk.turns (p / 8)).count) ∧ (s.choice p = some (Choice.drain q)
        ∧ down = true ∨ ∃ k, s.choice p = some (Choice.doze k) ∧ k.queue = q ∧ down = false) ∧ s.turnOf p = true ∧ s.head p q = some (i, r))
    ∧ (∃ (s : State) (p : Nat) (path : Path) (e : W × W) (rest : List (W × W)), p < 512 ∧ Live s ∧ Clean s ∧ ownerPath (s.txtsOwner p) path = true
        ∧ (s.txts p).entries = e :: rest)
    ∧ (∃ (s : State) (p : Nat) (path : Path), p < 512 ∧ Live s ∧ Clean s ∧ ownerPath (s.txtsOwner p) path = true ∧ (s.txts p).entries = [])
    ∧ (∃ (s : State) (p : Nat) (path : Path), p < 512 ∧ Live s ∧ Clean s ∧ ownerPath (s.txtsOwner p) path = false) :=
  ⟨⟨cmdOf 0x602 [8191, mk 63 48 1 ||| mk 47 46 2 ||| mk 43 23 1572864 ||| mk 22 2 1572864], ready, by decide⟩,
    ⟨cmdOf 0x603 [511, mk 62 60 4], ready, by decide⟩,
    ⟨cmdOf 0x604 [mk 63 63 1 ||| 511, 1, 33554431, 16777215, 33554431, 16777215, 1], ready, by decide⟩,
    ⟨cmdOf 0x604 [8191, 1, 33554431, 16777215, 33554431, 16777215, 1], ready, by decide⟩,
    ⟨cmdOf 0x605 [mk 63 63 1 ||| 8191], ready, by decide⟩,
    ⟨waiting0.setTl 15 { credit := 8192 }, 511, by decide, by decide, by decide, by decide, rfl⟩,
    ⟨waiting0, 511, _, 0, ref1, by decide, by decide, by decide, by decide, rfl, by decide, by decide, by decide⟩,
    ⟨waiting0.setSlice 0 { voq := [(8191, [ref1])], stored := [(0, { poison := true })] }, 511, _, 0, ref1, by decide, by decide, by decide, by decide,
      rfl, by decide, by decide, by decide, by decide⟩,
    ⟨waiting0.setPort 511 {}, 511, 15, true, 0, ref1, by decide, by decide, by decide, by decide, Or.inl ⟨rfl, rfl⟩, by decide, by decide⟩,
    ⟨withMast (fun m => { m with txts := [(511, { entries := [(0, 0)] })] }) ready, 511, .bar2, (0, 0), [], by decide⟩,
    ⟨ready, 511, .bar2, by decide⟩,
    ⟨ready.setRg .portTsCfg [511] (mk 42 40 4), 511, .bar2, by decide⟩⟩

/-- States and operands that meet the premises of Telemetry, clause by clause. -/
theorem witness_Telemetry :
    (∃ (c : Cmd) (s : State), Taken 2304 (fun _ _ => some domTelemetry) c s ∧ c.n 0 < 8 ∧ fld (c.p 1) 63 62 ≠ 3)
    ∧ (∃ (c : Cmd) (s : State), Taken 2305 (fun _ _ => some domTelemetry) c s ∧ Clean s ∧ fld (c.p 0) 61 8 = 0 ∧ fld (c.p 0) 3 3 = 0
        ∧ bitAt (c.p 0) 62 = false)
    ∧ (∃ (c : Cmd) (s : State), Taken 2305 (fun _ _ => some domTelemetry) c s ∧ Clean s ∧ fld (c.p 0) 61 8 = 0 ∧ fld (c.p 0) 3 3 = 0
        ∧ bitAt (c.p 0) 62 = true)
    ∧ (∃ (s : State) (n : Nat) (h : Postcard), n < 16 ∧ Live s ∧ Clean s ∧ s.awake domTelemetry = true ∧ HookTakes (n / 4) 48 s
        ∧ List.find? (fun h => decide ((List.take 16 (List.filter (fun c => c.collector == h.collector) (s.tl n).postcards)).length = 16) || decide (h.tick + s.rgf RegId.telFlush [] 9 0 * usTicks ≤ s.mast.tick)) (s.tl n).postcards = some h) :=
  ⟨⟨cmdOf 0x900 [7, mk 63 62 2], ready, by decide⟩,
    ⟨cmdOf 0x901 [7], ready, by decide⟩,
    ⟨cmdOf 0x901 [mk 62 62 1 ||| 7], ready, by decide⟩,
    ⟨(at_ 80000000).setTl 15 { postcards := [{ collector := 0, bytes := [], tick := 0 }] } |>.setCluster 3 { disp := [(48, mk 63 63 1)] }, 15,
      { collector := 0, bytes := [], tick := 0 }, by decide⟩⟩

/-- States and operands that meet the premises of SkeinCommands, clause by clause. -/
theorem witness_SkeinCommands :
    (∃ (c : Cmd) (s : State) (base : Nat), Taken 1792 createDomain c s ∧ (s.skein (fld (c.p 0) 15 0)).valid = false
        ∧ descBad (s.timeline (skeinOf c).tlNo) (skeinOf c) = none
        ∧ (∀ e ∈ List.take (skeinOf c).numStrands (List.drop 5 c.params), strandBad e = false)
        ∧ s.fit (skeinOf c).cluster (footprintOf (skeinOf c).numPrb (skeinOf c).numStrands (skeinOf c).groups) = some base
        ∧ indexClash (List.take (skeinOf c).numStrands (List.drop 5 c.params)) = none
        ∧ bindClash s (List.take (skeinOf c).numStrands (List.drop 5 c.params)) = none ∧ (s.timeline (skeinOf c).tlNo).configured = true)
    ∧ (∃ (c : Cmd) (s : State) (i : Nat), Taken 1792 createDomain c s ∧ (s.skein (fld (c.p 0) 15 0)).valid = false
        ∧ descBad (s.timeline (skeinOf c).tlNo) (skeinOf c) = none
        ∧ List.find? (fun i => strandBad ((List.take (skeinOf c).numStrands (List.drop 5 c.params)).getD i 0)) (List.range (List.take (skeinOf c).numStrands (List.drop 5 c.params)).length) = some i)
    ∧ (∃ (c : Cmd) (s : State), Taken 1793 skeinDomain c s ∧ (s.skein (fld (c.p 0) 15 0)).valid = true
        ∧ (s.skein (fld (c.p 0) 15 0)).destroying = false
        ∧ descBad (s.timeline (s.skein (fld (c.p 0) 15 0)).tlNo) { s.skein (fld (c.p 0) 15 0) with w1 := c.p 1, w2 := c.p 2, epoch := fld (c.p 3) 63 48 } = none)
    ∧ (∃ (c : Cmd) (s : State), Taken 1794 skeinDomain c s ∧ (s.skein (fld (c.p 0) 15 0)).valid = true
        ∧ (s.skein (fld (c.p 0) 15 0)).destroying = false ∧ (s.skein (fld (c.p 0) 15 0)).move = none ∧ (s.skein (fld (c.p 0) 15 0)).insts = [])
    ∧ (∃ (c : Cmd) (s : State), Taken 1794 skeinDomain c s ∧ (s.skein (fld (c.p 0) 15 0)).valid = true
        ∧ (s.skein (fld (c.p 0) 15 0)).destroying = false ∧ (s.skein (fld (c.p 0) 15 0)).insts ≠ [])
    ∧ (∃ (c : Cmd) (s : State) (base : Nat), Taken 1795 moveDomain c s ∧ (s.skein (fld (c.p 0) 15 0)).valid = true
        ∧ (s.skein (fld (c.p 0) 15 0)).destroying = false ∧ s.fit (fld (c.p 0) 17 16) (s.skein (fld (c.p 0) 15 0)).footprint = some base
        ∧ (s.skein (fld (c.p 0) 15 0)).insts = [] ∧ (∀ o ∈ s.cmd.opened, ¬(o.kind = 1795 ∧ o.key = fld (c.p 0) 15 0)))
    ∧ (∃ (c : Cmd) (s : State) (base : Nat), Taken 1795 moveDomain c s ∧ (s.skein (fld (c.p 0) 15 0)).valid = true
        ∧ (s.skein (fld (c.p 0) 15 0)).destroying = false ∧ s.fit (fld (c.p 0) 17 16) (s.skein (fld (c.p 0) 15 0)).footprint = some base
        ∧ (s.skein (fld (c.p 0) 15 0)).insts ≠ [])
    ∧ (∃ (c : Cmd) (s : State), Taken 1796 noDomain c s ∧ Clean s) :=
  ⟨⟨cmdOf 0x700 [65535, skein0.w0, skein0.w1, 0, 0, strand0], active0 ready, 0, by decide, by decide, by decide,
    fun e h => by cases List.mem_singleton.mp (show e ∈ [strand0] from h); decide, by decide +kernel, by decide, by decide, by decide⟩,
    ⟨cmdOf 0x700 [65535, skein0.w0, skein0.w1, 0, 0, strand0 ||| mk 16 9 255], active0 ready, 0, by decide⟩,
    ⟨cmdOf 0x701 [65535, skein0.w1, 0, 0], skeins skein0, by decide⟩,
    ⟨cmdOf 0x702 [65535], skeins skein0, by decide⟩,
    ⟨cmdOf 0x702 [65535], skeins { skein0 with insts := [inst0] }, by decide⟩,
    ⟨cmdOf 0x703 [mk 17 16 2 ||| 65535], skeins skein0, 0, by decide +kernel⟩,
    ⟨cmdOf 0x703 [mk 17 16 2 ||| 65535], skeins { skein0 with insts := [inst0] }, 0, by decide +kernel⟩,
    ⟨cmdOf 0x704 [65535], skeins skein0, by decide⟩⟩

/-- States and operands that meet the premises of SkeinWork, clause by clause. -/
theorem witness_SkeinWork :
    (∃ (s : State) (n : Nat) (k : Pkt) (rest : List Pkt), Live s ∧ n < 16 ∧ (s.tl n).feed = k :: rest ∧ k.capture = true)
    ∧ (∃ (s : State) (n : Nat) (k : Pkt) (rest : List Pkt), Live s ∧ n < 16 ∧ (s.tl n).feed = k :: rest ∧ k.capture = false
        ∧ (parse (s.parseCfgOf n k.inPort) k.bytes).dravua = true ∧ (parse (s.parseCfgOf n k.inPort) k.bytes).dravuaType = 17
        ∧ (s.skein (bytesNat k.bytes ((parse (s.parseCfgOf n k.inPort) k.bytes).msgOff + 6) 2)).valid = true)
    ∧ (∃ (s : State) (n : Nat) (k : Pkt) (rest : List Pkt) (key : Nat × Nat × Nat × Nat), Live s ∧ n < 16 ∧ (s.tl n).feed = k :: rest
        ∧ k.capture = false ∧ ¬((parse (s.parseCfgOf n k.inPort) k.bytes).dravua = true ∧ (parse (s.parseCfgOf n k.inPort) k.bytes).dravuaType = 17)
        ∧ feedKey (parse (s.parseCfgOf n k.inPort) k.bytes) k.inPort k.bytes = some key ∧ s.bound key ≠ [])
    ∧ (∃ (s : State) (n : Nat) (k : Pkt) (rest : List Pkt), Live s ∧ n < 16 ∧ (s.tl n).feed = k :: rest ∧ k.capture = false
        ∧ ¬((parse (s.parseCfgOf n k.inPort) k.bytes).dravua = true ∧ (parse (s.parseCfgOf n k.inPort) k.bytes).dravuaType = 17)
        ∧ (∀ (key : Nat × Nat × Nat × Nat), feedKey (parse (s.parseCfgOf n k.inPort) k.bytes) k.inPort k.bytes = some key → s.bound key = []))
    ∧ (∃ (s : State) (q : Nat) (f : FeedItem) (rest : List FeedItem), Live s ∧ q < 4 ∧ (s.cluster q).feed = f :: rest
        ∧ 8192 ≤ (s.cluster q).queue.length ∧ f.since + 2 * usTicks ≤ s.mast.tick)
    ∧ (∃ (s : State) (q : Nat) (f : FeedItem) (rest : List FeedItem), Live s ∧ q < 4 ∧ (s.cluster q).feed = f :: rest ∧ f.kind ≠ 1
        ∧ s.awake (domCluster q) = true ∧ s.queueFull q = true)
    ∧ (∃ (s : State) (q : Nat) (f : FeedItem) (rest : List FeedItem) (k : Nat) (slot : Nat) (e : W) (sec : Section) (n : Int) (i : Instance), Live s
        ∧ q < 4 ∧ Clean s ∧ (s.cluster q).feed = f :: rest ∧ f.kind = 0 ∧ f.left = none ∧ s.awake (domCluster q) = true ∧ s.enginesOk q ≠ 0
        ∧ packetSections q f s = [(k, slot, e, [sec])] ∧ HookTakes q 0 s ∧ sec.typeOk = true ∧ sec.whole = true ∧ sec.comp = stComp e
        ∧ max sec.start (s.skein k).startPrb < min (sec.start + sec.nprb) ((s.skein k).startPrb + (s.skein k).numPrb)
        ∧ (s.timeline (s.skein k).tlNo).mode ≠ 2 ∧ namedSymbol (s.timeline (s.skein k).tlNo) s.now16 sec.frame sec.sub sec.slot sec.sym = some n
        ∧ (s.skein k).instOf n = some i ∧ isOcc (s.timeline (s.skein k).tlNo) i.w1 n = true ∧ i.closing = false
        ∧ (s.skein k).isClosed (s.timeline (s.skein k).tlNo) n = false ∧ i.fault = false ∧ ((s.skein k).strandState slot).st = 0
        ∧ ((s.skein k).strandState slot).from_ = none ∧ (tget { } i.strands slot).next ≤ max sec.start (s.skein k).startPrb - (s.skein k).startPrb
        ∧ (∀ y ∈ i.strands, y.1 ≠ slot → y.2.bits &&& needBits e sec = 0)
        ∧ ((∃ y ∈ i.strands, y.1 = slot) → stPartial e = true → (tget { } i.strands slot).bits = needBits e sec))
    ∧ (∃ (s : State) (q : Nat) (f : FeedItem) (rest : List FeedItem), Live s ∧ q < 4 ∧ Clean s ∧ (s.cluster q).feed = f :: rest ∧ f.kind = 2
        ∧ s.awake (domCluster q) = true ∧ HookTakes q 6 s)
    ∧ (∃ (s : State) (q : Nat) (f : FeedItem) (rest : List FeedItem) (sym : Int) (page : Nat) (claim : Bool), Live s ∧ q < 4
        ∧ (s.cluster q).feed = f :: rest ∧ f.kind = 1 ∧ s.awake (domCluster q) = true
        ∧ (s.skein (bytesNat f.bytes ((parse (s.parseCfgOf (tileOf f.inPort) f.inPort) f.bytes).msgOff + 6) 2)).valid = true
        ∧ bytesNat f.bytes ((parse (s.parseCfgOf (tileOf f.inPort) f.inPort) f.bytes).msgOff + 8) 2 = (s.skein (bytesNat f.bytes ((parse (s.parseCfgOf (tileOf f.inPort) f.inPort) f.bytes).msgOff + 6) 2)).epoch
        ∧ namedSymbol (s.timeline (s.skein (bytesNat f.bytes ((parse (s.parseCfgOf (tileOf f.inPort) f.inPort) f.bytes).msgOff + 6) 2)).tlNo) s.now16 (byteAt f.bytes ((parse (s.parseCfgOf (tileOf f.inPort) f.inPort) f.bytes).msgOff + 10)) (byteAt f.bytes ((parse (s.parseCfgOf (tileOf f.inPort) f.inPort) f.bytes).msgOff + 11) % 16) (byteAt f.bytes ((parse (s.parseCfgOf (tileOf f.inPort) f.inPort) f.bytes).msgOff + 12) % 64) 0 = some sym
        ∧ byteAt f.bytes ((parse (s.parseCfgOf (tileOf f.inPort) f.inPort) f.bytes).msgOff + 13) + (byteAt f.bytes ((parse (s.parseCfgOf (tileOf f.inPort) f.inPort) f.bytes).msgOff + 14) + 1) ≤ (s.skein (bytesNat f.bytes ((parse (s.parseCfgOf (tileOf f.inPort) f.inPort) f.bytes).msgOff + 6) 2)).numStrands
        ∧ 0 < bytesNat f.bytes ((parse (s.parseCfgOf (tileOf f.inPort) f.inPort) f.bytes).msgOff + 18) 2
        ∧ bytesNat f.bytes ((parse (s.parseCfgOf (tileOf f.inPort) f.inPort) f.bytes).msgOff + 16) 2 + bytesNat f.bytes ((parse (s.parseCfgOf (tileOf f.inPort) f.inPort) f.bytes).msgOff + 18) 2 ≤ (s.skein (bytesNat f.bytes ((parse (s.parseCfgOf (tileOf f.inPort) f.inPort) f.bytes).msgOff + 6) 2)).groups
        ∧ (parse (s.parseCfgOf (tileOf f.inPort) f.inPort) f.bytes).msgOff + 20 + 5 * (byteAt f.bytes ((parse (s.parseCfgOf (tileOf f.inPort) f.inPort) f.bytes).msgOff + 14) + 1) * bytesNat f.bytes ((parse (s.parseCfgOf (tileOf f.inPort) f.inPort) f.bytes).msgOff + 18) 2 ≤ f.bytes.length
        ∧ (∀ i ∈ (s.skein (bytesNat f.bytes ((parse (s.parseCfgOf (tileOf f.inPort) f.inPort) f.bytes).msgOff + 6) 2)).insts, i.ix < 2 → i.closing = false → i.occ / (s.timeline (s.skein (bytesNat f.bytes ((parse (s.parseCfgOf (tileOf f.inPort) f.inPort) f.bytes).msgOff + 6) 2)).tlNo).symsPerSlot < sym / (s.timeline (s.skein (bytesNat f.bytes ((parse (s.parseCfgOf (tileOf f.inPort) f.inPort) f.bytes).msgOff + 6) 2)).tlNo).symsPerSlot)
        ∧ (s.skein (bytesNat f.bytes ((parse (s.parseCfgOf (tileOf f.inPort) f.inPort) f.bytes).msgOff + 6) 2)).pageToWrite (sym / (s.timeline (s.skein (bytesNat f.bytes ((parse (s.parseCfgOf (tileOf f.inPort) f.inPort) f.bytes).msgOff + 6) 2)).tlNo).symsPerSlot) = some (page, claim))
    ∧ (∃ (s : State) (k : Nat) (n : Int), Live s ∧ k < 65536 ∧ (s.skein k).valid = true ∧ s.nextToClose (s.skein k) = some n
        ∧ s.closeDue (s.skein k) n ≤ s.mast.tick)
    ∧ (∃ (s : State) (k : Nat) (i : Instance), Live s ∧ k < 65536 ∧ Clean s ∧ (s.skein k).firstClosing = some i ∧ s.closeReady k i = true
        ∧ (s.skein k).destroying = false ∧ (s.skein k).move = none ∧ (i.contrib ≠ 0 ∨ emitEmpty i.w1 = true))
    ∧ (∃ (s : State) (q : Nat) (k0 : Nat) (x0 : Skein), Live s ∧ q < 4 ∧ s.enginesOk q ≠ 0
        ∧ List.find? (fun x => x.2.valid && x.2.cluster == q && match x.2.rehomeAfter with | some (a, _, _) => decide (s.boundaryAfter x.2.tlNo a ≤ s.mast.tick) | none => false) s.sk.descs = some (k0, x0)) :=
  ⟨⟨ready.setTl 15 { feed := [{ capture := true }] }, 15, { capture := true }, [], by decide⟩,
    ⟨(skeins skein0).setTl 15 { feed := [fed weight0] }, 15, fed weight0, [], by decide⟩,
    ⟨(skeins skein0).setTl 15 { feed := [fed iq0] }, 15, fed iq0, [], (0, 511, 0, 5), by decide⟩,
    ⟨ready.setTl 15 { feed := [fed []] }, 15, fed [], [], by decide, by decide, by decide, by decide, by decide, fun _ _ => rfl⟩,
    ⟨(at_ 1600).setCluster 3 { feed := [item0 0 []], queue := List.replicate 8192 ev0 }, 3, item0 0 [], [], by decide +kernel⟩,
    ⟨(at_ 1600).setCluster 3 { feed := [item0 0 []], queue := List.replicate 8192 ev0 }, 3, item0 0 [], [], by decide +kernel⟩,
    ⟨(skeins { skein0 with insts := [inst0] }).setCluster 3 { feed := [item0 0 iq0], disp := [(0, mk 63 63 1)] }, 3, item0 0 iq0, [], 65535, 0,
      strand0, { frame := (-31596481900 % 256 : Int).toNat, nprb := 1, off := 30 }, occ0, inst0, by decide⟩,
    ⟨ready.setCluster 3 { feed := [item0 2 []], disp := [(6, mk 63 63 1)] }, 3, item0 2 [], [], by decide⟩,
    ⟨(skeins skein0).setCluster 3 { feed := [item0 1 weight0] }, 3, item0 1 weight0, [], occ0, 0, true, by decide⟩,
    ⟨skeins { skein0 with insts := [{ inst0 with occ := occ0 - 140 }], since := occ0 }, 65535, occ0 - 140, by decide⟩,
    ⟨skeins { skein0 with insts := [{ inst0 with closing := true, w1 := mk 13 13 1 }] }, 65535, { inst0 with closing := true, w1 := mk 13 13 1 },
      by decide⟩,
    ⟨{ skeins { skein0 with rehomeAfter := some (0, 0, 0) } with mast := { running := true, tick := 800000 }, time := { master := { ns := 1000000 } } },
      3, 65535, { skein0 with rehomeAfter := some (0, 0, 0) }, by decide⟩⟩

/-- States and operands that meet the premises of MicroArithmetic, clause by clause. -/
theorem witness_MicroArithmetic :
    (∃ (q : Nat) (e : Nat) (w : Nat) (s : State), Issues q e w s ∧ mwOp w = 0)
    ∧ (∃ (q : Nat) (e : Nat) (w : Nat) (s : State), Issues q e w s ∧ mwOp w = 1)
    ∧ (∃ (q : Nat) (e : Nat) (w : Nat) (s : State), Issues q e w s ∧ mwOp w = 2)
    ∧ (∃ (q : Nat) (e : Nat) (w : Nat) (s : State), Issues q e w s ∧ mwOp w = 3)
    ∧ (∃ (q : Nat) (e : Nat) (w : Nat) (s : State), Issues q e w s ∧ mwOp w = 4)
    ∧ (∃ (q : Nat) (e : Nat) (w : Nat) (s : State), Issues q e w s ∧ mwOp w = 5)
    ∧ (∃ (q : Nat) (e : Nat) (w : Nat) (s : State), Issues q e w s ∧ mwOp w = 6 ∧ mwFn w < 4)
    ∧ (∃ (q : Nat) (e : Nat) (w : Nat) (s : State), Issues q e w s ∧ mwOp w = 6 ∧ 4 ≤ mwFn w)
    ∧ (∃ (q : Nat) (e : Nat) (w : Nat) (s : State), Issues q e w s ∧ mwOp w = 7)
    ∧ (∃ (q : Nat) (e : Nat) (w : Nat) (s : State), Issues q e w s ∧ mwOp w = 8)
    ∧ (∃ (q : Nat) (e : Nat) (w : Nat) (s : State), Issues q e w s ∧ mwOp w = 9)
    ∧ (∃ (q : Nat) (e : Nat) (w : Nat) (s : State), Issues q e w s ∧ mwOp w = 10)
    ∧ (∃ (q : Nat) (e : Nat) (w : Nat) (s : State), Issues q e w s ∧ mwOp w = 11)
    ∧ (∃ (q : Nat) (e : Nat) (w : Nat) (s : State), Issues q e w s ∧ mwOp w = 12)
    ∧ (∃ (q : Nat) (e : Nat) (w : Nat) (s : State), Issues q e w s ∧ mwOp w = 13)
    ∧ (∃ (q : Nat) (e : Nat) (w : Nat) (s : State), Issues q e w s ∧ mwOp w = 14)
    ∧ (∃ (q : Nat) (e : Nat) (w : Nat) (s : State), Issues q e w s ∧ mwOp w = 15)
    ∧ (∃ (q : Nat) (e : Nat) (w : Nat) (s : State) (f : BitVec 36 → BitVec 36 → BitVec 36), Issues q e w s ∧ mwOp w = 16 ∧ ((mwFn w = 0
        ∧ f = fun x1 x2 => x1 + x2) ∨ mwFn w = 1 ∧ f = fun x1 x2 => x1 - x2))
    ∧ (∃ (q : Nat) (e : Nat) (w : Nat) (s : State), Issues q e w s ∧ mwOp w = 16 ∧ 2 ≤ mwFn w)
    ∧ (∃ (q : Nat) (e : Nat) (w : Nat) (s : State), Issues q e w s ∧ mwOp w = 34 ∧ mwFn w = 0)
    ∧ (∃ (q : Nat) (e : Nat) (w : Nat) (s : State), Issues q e w s ∧ mwOp w = 34 ∧ mwFn w = 1)
    ∧ (∃ (q : Nat) (e : Nat) (w : Nat) (s : State), Issues q e w s ∧ mwOp w = 34 ∧ 2 ≤ mwFn w) :=
  ⟨⟨3, 15, 0 * 2 ^ 18 + 8191, runs (0 * 2 ^ 18 + 8191) {}, issues_runsR _ _ rout0 id ⟨rfl, rfl, by decide⟩ (by decide), by decide⟩,
    ⟨3, 15, 1 * 2 ^ 18 + 8191, runs (1 * 2 ^ 18 + 8191) {}, issues_runsR _ _ rout0 id ⟨rfl, rfl, by decide⟩ (by decide), by decide⟩,
    ⟨3, 15, 2 * 2 ^ 18 + 8191, runs (2 * 2 ^ 18 + 8191) {}, issues_runsR _ _ rout0 id ⟨rfl, rfl, by decide⟩ (by decide), by decide⟩,
    ⟨3, 15, 3 * 2 ^ 18 + 8191, runs (3 * 2 ^ 18 + 8191) {}, issues_runsR _ _ rout0 id ⟨rfl, rfl, by decide⟩ (by decide), by decide⟩,
    ⟨3, 15, 4 * 2 ^ 18 + 8191, runs (4 * 2 ^ 18 + 8191) {}, issues_runsR _ _ rout0 id ⟨rfl, rfl, by decide⟩ (by decide), by decide⟩,
    ⟨3, 15, 5 * 2 ^ 18 + 8191, runs (5 * 2 ^ 18 + 8191) {}, issues_runsR _ _ rout0 id ⟨rfl, rfl, by decide⟩ (by decide), by decide⟩,
    ⟨3, 15, 6 * 2 ^ 18 + 3, runs (6 * 2 ^ 18 + 3) {}, issues_runsR _ _ rout0 id ⟨rfl, rfl, by decide⟩ (by decide), by decide⟩,
    ⟨3, 15, 6 * 2 ^ 18 + 4, runs (6 * 2 ^ 18 + 4) {}, issues_runsR _ _ rout0 id ⟨rfl, rfl, by decide⟩ (by decide), by decide⟩,
    ⟨3, 15, 7 * 2 ^ 18 + 8191, runs (7 * 2 ^ 18 + 8191) {}, issues_runsR _ _ rout0 id ⟨rfl, rfl, by decide⟩ (by decide), by decide⟩,
    ⟨3, 15, 8 * 2 ^ 18 + 8191, runs (8 * 2 ^ 18 + 8191) {}, issues_runsR _ _ rout0 id ⟨rfl, rfl, by decide⟩ (by decide), by decide⟩,
    ⟨3, 15, 9 * 2 ^ 18 + 8191, runs (9 * 2 ^ 18 + 8191) {}, issues_runsR _ _ rout0 id ⟨rfl, rfl, by decide⟩ (by decide), by decide⟩,
    ⟨3, 15, 10 * 2 ^ 18 + 8191, runs (10 * 2 ^ 18 + 8191) {}, issues_runsR _ _ rout0 id ⟨rfl, rfl, by decide⟩ (by decide), by decide⟩,
    ⟨3, 15, 11 * 2 ^ 18 + 8191, runs (11 * 2 ^ 18 + 8191) {}, issues_runsR _ _ rout0 id ⟨rfl, rfl, by decide⟩ (by decide), by decide⟩,
    ⟨3, 15, 12 * 2 ^ 18 + 8191, runs (12 * 2 ^ 18 + 8191) {}, issues_runsR _ _ rout0 id ⟨rfl, rfl, by decide⟩ (by decide), by decide⟩,
    ⟨3, 15, 13 * 2 ^ 18 + 8191, runs (13 * 2 ^ 18 + 8191) {}, issues_runsR _ _ rout0 id ⟨rfl, rfl, by decide⟩ (by decide), by decide⟩,
    ⟨3, 15, 14 * 2 ^ 18 + 8191, runs (14 * 2 ^ 18 + 8191) {}, issues_runsR _ _ rout0 id ⟨rfl, rfl, by decide⟩ (by decide), by decide⟩,
    ⟨3, 15, 15 * 2 ^ 18 + 8191, runs (15 * 2 ^ 18 + 8191) {}, issues_runsR _ _ rout0 id ⟨rfl, rfl, by decide⟩ (by decide), by decide⟩,
    ⟨3, 15, 16 * 2 ^ 18 + 1, runs (16 * 2 ^ 18 + 1) {}, fun x y => x - y, issues_runsR _ _ rout0 id ⟨rfl, rfl, by decide⟩ (by decide), by decide,
      Or.inr ⟨by decide, rfl⟩⟩,
    ⟨3, 15, 16 * 2 ^ 18 + 2, runs (16 * 2 ^ 18 + 2) {}, issues_runsR _ _ rout0 id ⟨rfl, rfl, by decide⟩ (by decide), by decide⟩,
    ⟨3, 15, 34 * 2 ^ 18 + 0, runs (34 * 2 ^ 18 + 0) {}, issues_runsR _ _ rout0 id ⟨rfl, rfl, by decide⟩ (by decide), by decide⟩,
    ⟨3, 15, 34 * 2 ^ 18 + 1, runs (34 * 2 ^ 18 + 1) {}, issues_runsR _ _ rout0 id ⟨rfl, rfl, by decide⟩ (by decide), by decide⟩,
    ⟨3, 15, 34 * 2 ^ 18 + 2, runs (34 * 2 ^ 18 + 2) {}, issues_runsR _ _ rout0 id ⟨rfl, rfl, by decide⟩ (by decide), by decide⟩⟩

/-- States and operands that meet the premises of MicroControl, clause by clause. -/
theorem witness_MicroControl :
    (∃ (q : Nat) (e : Nat) (w : Nat) (s : State), Issues q e w s ∧ mwOp w = 17 ∧ mwSpace w = 0
        ∧ fld72 ((s.eng q e).reg (mwA w)) 31 0 + mwOff w < 2048)
    ∧ (∃ (q : Nat) (e : Nat) (w : Nat) (s : State), Issues q e w s ∧ mwOp w = 17 ∧ mwSpace w = 1
        ∧ fld72 ((s.eng q e).reg (mwA w)) 31 0 + mwOff w < 65536)
    ∧ (∃ (q : Nat) (e : Nat) (w : Nat) (s : State), Issues q e w s ∧ mwOp w = 17 ∧ mwSpace w = 2
        ∧ fld72 ((s.eng q e).reg (mwA w)) 31 0 + mwOff w < 3145728 ∧ s.hidden q (fld72 ((s.eng q e).reg (mwA w)) 31 0 + mwOff w) = false)
    ∧ (∃ (q : Nat) (e : Nat) (w : Nat) (s : State), Issues q e w s ∧ mwOp w = 17 ∧ mwSpace w = 2
        ∧ fld72 ((s.eng q e).reg (mwA w)) 31 0 + mwOff w < 3145728 ∧ s.hidden q (fld72 ((s.eng q e).reg (mwA w)) 31 0 + mwOff w) = true)
    ∧ (∃ (q : Nat) (e : Nat) (w : Nat) (s : State), Issues q e w s ∧ mwOp w = 17 ∧ mwSpace w = 3
        ∧ fld72 ((s.eng q e).reg (mwA w)) 31 0 + mwOff w < 786432)
    ∧ (∃ (q : Nat) (e : Nat) (w : Nat) (s : State), Issues q e w s ∧ mwOp w = 17 ∧ mwSpace w = 4
        ∧ fld72 ((s.eng q e).reg (mwA w)) 31 0 + mwOff w < 2052)
    ∧ (∃ (q : Nat) (e : Nat) (w : Nat) (s : State), Issues q e w s ∧ mwOp w = 17 ∧ mwSpace w = 5
        ∧ fld72 ((s.eng q e).reg (mwA w)) 31 0 + mwOff w < 4096)
    ∧ (∃ (q : Nat) (e : Nat) (w : Nat) (s : State) (x : W), Issues q e w s ∧ mwOp w = 17 ∧ mwSpace w = 6
        ∧ s.spaceOk q e 6 (fld72 ((s.eng q e).reg (mwA w)) 31 0 + mwOff w) false = true
        ∧ s.blockLater q (fld72 ((s.eng q e).reg (mwA w)) 31 0 + mwOff w) = false
        ∧ (pathRead (Path.hook q) (8 * (fld72 ((s.eng q e).reg (mwA w)) 31 0 + mwOff w)) Half.whole s).1 = some x)
    ∧ (∃ (q : Nat) (e : Nat) (w : Nat) (s : State), Issues q e w s ∧ mwOp w = 18 ∧ mwSpace w = 0
        ∧ fld72 ((s.eng q e).reg (mwA w)) 31 0 + mwOff w < 2048)
    ∧ (∃ (q : Nat) (e : Nat) (w : Nat) (s : State), Issues q e w s ∧ mwOp w = 18 ∧ mwSpace w = 1
        ∧ fld72 ((s.eng q e).reg (mwA w)) 31 0 + mwOff w < 65536)
    ∧ (∃ (q : Nat) (e : Nat) (w : Nat) (s : State), Issues q e w s ∧ mwOp w = 18 ∧ mwSpace w = 2
        ∧ fld72 ((s.eng q e).reg (mwA w)) 31 0 + mwOff w < 3145728)
    ∧ (∃ (q : Nat) (e : Nat) (w : Nat) (s : State), Issues q e w s ∧ mwOp w = 18 ∧ mwSpace w = 5
        ∧ fld72 ((s.eng q e).reg (mwA w)) 31 0 + mwOff w < 4096)
    ∧ (∃ (q : Nat) (e : Nat) (w : Nat) (s : State), Issues q e w s ∧ mwOp w = 18 ∧ mwSpace w = 6
        ∧ s.spaceOk q e 6 (fld72 ((s.eng q e).reg (mwA w)) 31 0 + mwOff w) true = true
        ∧ s.blockLater q (fld72 ((s.eng q e).reg (mwA w)) 31 0 + mwOff w) = false)
    ∧ (∃ (q : Nat) (e : Nat) (w : Nat) (s : State), Issues q e w s ∧ mwOp w = 20 ∧ 0 ≤ (s.eng q e).pc + 1 + sgn 13 (mwImm w)
        ∧ (s.eng q e).pc + 1 + sgn 13 (mwImm w) ≤ 49151)
    ∧ (∃ (q : Nat) (e : Nat) (w : Nat) (s : State), Issues q e w s ∧ mwOp w = 21 ∧ 0 ≤ (s.eng q e).pc + 1 + sgn 13 (mwImm w)
        ∧ (s.eng q e).pc + 1 + sgn 13 (mwImm w) ≤ 49151)
    ∧ (∃ (q : Nat) (e : Nat) (w : Nat) (s : State), Issues q e w s ∧ mwOp w = 22 ∧ 0 ≤ (s.eng q e).pc + 1 + sgn 13 (mwImm w)
        ∧ (s.eng q e).pc + 1 + sgn 13 (mwImm w) ≤ 49151)
    ∧ (∃ (q : Nat) (e : Nat) (w : Nat) (s : State), Issues q e w s ∧ mwOp w = 23 ∧ mwD w < 10 ∧ 0 ≤ (s.eng q e).pc + 1 + sgn 13 (mwImm w)
        ∧ (s.eng q e).pc + 1 + sgn 13 (mwImm w) ≤ 49151)
    ∧ (∃ (q : Nat) (e : Nat) (w : Nat) (s : State), Issues q e w s ∧ mwOp w = 24 ∧ mwTarget w ≤ 49151)
    ∧ (∃ (q : Nat) (e : Nat) (w : Nat) (s : State), Issues q e w s ∧ mwOp w = 25 ∧ (s.eng q e).links.length < 8 ∧ mwTarget w ≤ 49151)
    ∧ (∃ (q : Nat) (e : Nat) (w : Nat) (s : State) (k : Nat) (rest : List Nat), Issues q e w s ∧ mwOp w = 26 ∧ (s.eng q e).links = k :: rest
        ∧ k ≤ 49151)
    ∧ (∃ (q : Nat) (e : Nat) (w : Nat) (s : State), Issues q e w s ∧ mwOp w = 27 ∧ fld (BitVec.setWidth 64 ((s.eng q e).reg (mwA w))) 15 0 ≤ 49151)
    ∧ (∃ (q : Nat) (e : Nat) (w : Nat) (s : State), Issues q e w s ∧ mwOp w = 28 ∧ mwSpace w < 6 ∧ (s.eng q e).under = none
        ∧ (mwSpace w = 3 → ownerPath (s.txtsOwner (fld (BitVec.setWidth 64 ((s.eng q e).reg (mwA w))) 8 0)) (Path.hook q) = true))
    ∧ (∃ (q : Nat) (e : Nat) (w : Nat) (s : State), Issues q e w s ∧ mwOp w = 29)
    ∧ (∃ (q : Nat) (e : Nat) (w : Nat) (s : State) (r : Routine), Issues q e w s ∧ mwOp w = 30 ∧ (s.eng q e).routine = some r
        ∧ (s.eng q e).under = none)
    ∧ (∃ (q : Nat) (e : Nat) (w : Nat) (s : State) (r : Routine), Issues q e w s ∧ mwOp w = 31 ∧ (s.eng q e).routine = some r
        ∧ (s.eng q e).handler = none)
    ∧ (∃ (q : Nat) (e : Nat) (w : Nat) (s : State) (r : Routine), Issues q e w s ∧ opListed (mwOp w) = false ∧ (s.eng q e).routine = some r
        ∧ (s.eng q e).handler = none)
    ∧ (∃ (q : Nat) (e : Nat) (w : Nat) (s : State) (r : Routine), Issues q e w s ∧ mwOp w = 32 ∧ (s.eng q e).routine = some r
        ∧ (s.eng q e).swap = false ∧ fld72 ((s.eng q e).local_ 1984) 31 31 = r.bank % 2)
    ∧ (∃ (q : Nat) (e : Nat) (w : Nat) (s : State), Issues q e w s ∧ mwOp w = 33 ∧ 16 ≤ fld (BitVec.setWidth 64 ((s.eng q e).reg (mwA w))) 7 0
        ∧ fld (BitVec.setWidth 64 ((s.eng q e).reg (mwA w))) 7 0 ≤ 247
        ∧ (∀ k < 4, (fld (BitVec.setWidth 64 ((s.eng q e).reg (mwA w))) 47 44).testBit k = true → HookTakes k (fld (BitVec.setWidth 64 ((s.eng q e).reg (mwA w))) 7 0) s)) :=
  ⟨⟨3, 15, 17 * 2 ^ 18 + 256, runs (17 * 2 ^ 18 + 256) { regs := [(1, BitVec.ofNat 72 2047)] }, issues_runsR _ _ rout0 id ⟨rfl, rfl,
    by decide⟩ (by decide), by decide⟩,
    ⟨3, 15, 17 * 2 ^ 18 + 288, runs (17 * 2 ^ 18 + 288) { regs := [(1, BitVec.ofNat 72 65535)] }, issues_runsR _ _ rout0 id ⟨rfl, rfl,
      by decide⟩ (by decide), by decide⟩,
    ⟨3, 15, 17 * 2 ^ 18 + 320, runs (17 * 2 ^ 18 + 320) { regs := [(1, BitVec.ofNat 72 3145727)] }, issues_runsR _ _ rout0 id ⟨rfl, rfl,
      by decide⟩ (by decide), by decide⟩,
    ⟨3, 15, 17 * 2 ^ 18 + 64, (runs (17 * 2 ^ 18 + 64) {}).setSkein 0 { w0 := mk 63 63 1 ||| mk 59 58 3 },
      issues_runsR _ _ rout0 (fun s => s.setSkein 0 { w0 := mk 63 63 1 ||| mk 59 58 3 }) ⟨rfl, rfl, by decide⟩ (by decide), by decide⟩,
    ⟨3, 15, 17 * 2 ^ 18 + 352, runs (17 * 2 ^ 18 + 352) { regs := [(1, BitVec.ofNat 72 786431)] }, issues_runsR _ _ rout0 id ⟨rfl, rfl,
      by decide⟩ (by decide), by decide⟩,
    ⟨3, 15, 17 * 2 ^ 18 + 384, runs (17 * 2 ^ 18 + 384) { regs := [(1, BitVec.ofNat 72 2051)] }, issues_runsR _ _ rout0 id ⟨rfl, rfl,
      by decide⟩ (by decide), by decide⟩,
    ⟨3, 15, 17 * 2 ^ 18 + 416, runs (17 * 2 ^ 18 + 416) { regs := [(1, BitVec.ofNat 72 4095)] }, issues_runsR _ _ rout0 id ⟨rfl, rfl,
      by decide⟩ (by decide), by decide⟩,
    ⟨3, 15, 17 * 2 ^ 18 + 192 + 2, served (runs (17 * 2 ^ 18 + 192 + 2) {}), _, issues_served _ (by decide) (by decide), by decide, by decide,
      by decide, by decide, rfl⟩,
    ⟨3, 15, 18 * 2 ^ 18 + 256, runs (18 * 2 ^ 18 + 256) { regs := [(1, BitVec.ofNat 72 2047)] }, issues_runsR _ _ rout0 id ⟨rfl, rfl,
      by decide⟩ (by decide), by decide⟩,
    ⟨3, 15, 18 * 2 ^ 18 + 288, runs (18 * 2 ^ 18 + 288) { regs := [(1, BitVec.ofNat 72 65535)] }, issues_runsR _ _ rout0 id ⟨rfl, rfl,
      by decide⟩ (by decide), by decide⟩,
    ⟨3, 15, 18 * 2 ^ 18 + 320, runs (18 * 2 ^ 18 + 320) { regs := [(1, BitVec.ofNat 72 3145727)] }, issues_runsR _ _ rout0 id ⟨rfl, rfl,
      by decide⟩ (by decide), by decide⟩,
    ⟨3, 15, 18 * 2 ^ 18 + 416, runs (18 * 2 ^ 18 + 416) { regs := [(1, BitVec.ofNat 72 4095)] }, issues_runsR _ _ rout0 id ⟨rfl, rfl,
      by decide⟩ (by decide), by decide⟩,
    ⟨3, 15, 18 * 2 ^ 18 + 192 + 2, served (runs (18 * 2 ^ 18 + 192 + 2) {}), issues_served _ (by decide) (by decide), by decide, by decide, by decide,
      by decide⟩,
    ⟨3, 15, 20 * 2 ^ 18 + 8191, runs (20 * 2 ^ 18 + 8191) {}, issues_runsR _ _ rout0 id ⟨rfl, rfl, by decide⟩ (by decide), by decide⟩,
    ⟨3, 15, 21 * 2 ^ 18 + 8191, runs (21 * 2 ^ 18 + 8191) {}, issues_runsR _ _ rout0 id ⟨rfl, rfl, by decide⟩ (by decide), by decide⟩,
    ⟨3, 15, 22 * 2 ^ 18 + 8191, runs (22 * 2 ^ 18 + 8191) {}, issues_runsR _ _ rout0 id ⟨rfl, rfl, by decide⟩ (by decide), by decide⟩,
    ⟨3, 15, 23 * 2 ^ 18 + 81919, runs (23 * 2 ^ 18 + 81919) {}, issues_runsR _ _ rout0 id ⟨rfl, rfl, by decide⟩ (by decide), by decide⟩,
    ⟨3, 15, 24 * 2 ^ 18 + 49151, runs (24 * 2 ^ 18 + 49151) {}, issues_runsR _ _ rout0 id ⟨rfl, rfl, by decide⟩ (by decide), by decide⟩,
    ⟨3, 15, 25 * 2 ^ 18 + 49151, runs (25 * 2 ^ 18 + 49151) { links := [0, 0, 0, 0, 0, 0, 0] }, issues_runsR _ _ rout0 id ⟨rfl, rfl,
      by decide⟩ (by decide), by decide⟩,
    ⟨3, 15, 26 * 2 ^ 18, runs (26 * 2 ^ 18) { links := [49151] }, 49151, [], issues_runsR _ _ rout0 id ⟨rfl, rfl, by decide⟩ (by decide), by decide⟩,
    ⟨3, 15, 27 * 2 ^ 18 + 256, runs (27 * 2 ^ 18 + 256) { regs := [(1, BitVec.ofNat 72 49151)] }, issues_runsR _ _ rout0 id ⟨rfl, rfl,
      by decide⟩ (by decide), by decide⟩,
    ⟨3, 15, 28 * 2 ^ 18 + 416, runs (28 * 2 ^ 18 + 416) { regs := [(1, BitVec.ofNat 72 0)] }, issues_runsR _ _ rout0 id ⟨rfl, rfl,
      by decide⟩ (by decide), by decide⟩,
    ⟨3, 15, 29 * 2 ^ 18 + 0, runs (29 * 2 ^ 18 + 0) {}, issues_runsR _ _ rout0 id ⟨rfl, rfl, by decide⟩ (by decide), by decide⟩,
    ⟨3, 15, 30 * 2 ^ 18, runs (30 * 2 ^ 18) {}, rout0, issues_runsR _ _ rout0 id ⟨rfl, rfl, by decide⟩ (by decide), by decide⟩,
    ⟨3, 15, 31 * 2 ^ 18, runs (31 * 2 ^ 18) {}, rout0, issues_runsR _ _ rout0 id ⟨rfl, rfl, by decide⟩ (by decide), by decide⟩,
    ⟨3, 15, 63 * 2 ^ 18, runs (63 * 2 ^ 18) {}, rout0, issues_runsR _ _ rout0 id ⟨rfl, rfl, by decide⟩ (by decide), by decide⟩,
    ⟨3, 15, 32 * 2 ^ 18, runs (32 * 2 ^ 18) {}, rout0, issues_runsR _ _ rout0 id ⟨rfl, rfl, by decide⟩ (by decide), by decide⟩,
    ⟨3, 15, 33 * 2 ^ 18 + 256, runs (33 * 2 ^ 18 + 256) { regs := [(1, BitVec.ofNat 72 247)] }, issues_runsR _ _ rout0 id ⟨rfl, rfl,
      by decide⟩ (by decide), by decide⟩⟩

/-- States and operands that meet the premises of EngineEvents, clause by clause. -/
theorem witness_EngineEvents :
    (∃ (q : Nat) (e : Nat) (s : State) (v : HkEvent), q < 4 ∧ e < 16 ∧ Live s ∧ Clean s ∧ s.awake (domCluster q) = true
        ∧ List.find? (fun v => (s.cluster q).inTurn v && (!deValid ((s.cluster q).entry (s.cluster q).active v.opcode) || (s.dispatchTo q v ((s.cluster q).entry (s.cluster q).active v.opcode)).isSome)) (s.cluster q).ordered = some v
        ∧ deValid ((s.cluster q).entry (s.cluster q).active v.opcode) = true
        ∧ s.dispatchTo q v ((s.cluster q).entry (s.cluster q).active v.opcode) = some e)
    ∧ (∃ (q : Nat) (e : Nat) (s : State) (v : HkEvent), q < 4 ∧ e < 16 ∧ Live s ∧ Clean s ∧ s.awake (domCluster q) = true
        ∧ List.find? (fun v => (s.cluster q).inTurn v && (!deValid ((s.cluster q).entry (s.cluster q).active v.opcode) || (s.dispatchTo q v ((s.cluster q).entry (s.cluster q).active v.opcode)).isSome)) (s.cluster q).ordered = some v
        ∧ deValid ((s.cluster q).entry (s.cluster q).active v.opcode) = false ∧ v.opcode ≠ 0)
    ∧ (∃ (q : Nat) (e : Nat) (s : State) (v : HkEvent) (r : Routine), q < 4 ∧ e < 16 ∧ Live s ∧ Clean s ∧ s.awake (domCluster q) = true
        ∧ List.find? (fun v => v.prio == 3 && (s.cluster q).inTurn v && deValid ((s.cluster q).entry (s.cluster q).active v.opcode) && dePreempt ((s.cluster q).entry (s.cluster q).active v.opcode) && (s.dispatchTo q v ((s.cluster q).entry (s.cluster q).active v.opcode)).isNone && (s.preemptable q (s.targets q v ((s.cluster q).entry (s.cluster q).active v.opcode))).isSome) (s.cluster q).ordered = some v
        ∧ s.preemptable q (s.targets q v ((s.cluster q).entry (s.cluster q).active v.opcode)) = some e ∧ (s.eng q e).interruptible false = true
        ∧ (s.eng q e).swap = false ∧ (s.eng q e).routine = some r)
    ∧ (∃ (q : Nat) (e : Nat) (s : State) (w : WaitOn) (v : W72) (r : Routine), q < 4 ∧ e < 16 ∧ Live s ∧ Clean s ∧ s.awake (domCluster q) = true
        ∧ (s.eng q e).wait = some w ∧ s.waitStatus q e w = some v ∧ (s.eng q e).routine = some r)
    ∧ (∃ (q : Nat) (e : Nat) (s : State) (v : VecOp) (r : Routine), q < 4 ∧ e < 16 ∧ Live s ∧ Clean s ∧ s.awake (domCluster q) = true
        ∧ (s.eng q e).vec = some v ∧ v.stitch = false ∧ v.below = false ∧ v.ue = none ∧ (s.eng q e).swap = false ∧ (s.eng q e).routine = some r)
    ∧ (∃ (q : Nat) (e : Nat) (s : State) (v : VecOp) (r : Routine) (i : Instance), q < 4 ∧ e < 16 ∧ Live s ∧ Clean s ∧ s.awake (domCluster q) = true
        ∧ (s.eng q e).vec = some v ∧ v.stitch = true ∧ v.below = false ∧ v.ue = none ∧ (s.eng q e).swap = false ∧ (s.eng q e).routine = some r
        ∧ s.stitchReady r.event = true
        ∧ List.find? (fun i => i.ix == fld r.event.w1 39 39 && i.outstanding.any fun o => o.order == r.event.order) (s.skein r.event.skein).insts = some i
        ∧ (s.skein r.event.skein).instOf i.occ = some i)
    ∧ (∃ (q : Nat) (e : Nat) (s : State) (r : Routine), q < 4 ∧ e < 16 ∧ Live s ∧ Clean s ∧ (s.eng q e).routine = some r ∧ r.budget ≠ 0
        ∧ r.budget * 1024 < r.count s.mast.tick ∧ r.barked = false ∧ (s.eng q e).interruptible false = true ∧ (s.eng q e).swap = false)
    ∧ (∃ (q : Nat) (e : Nat) (s : State), q < 4 ∧ e < 16 ∧ Live s ∧ (s.eng q e).handler = some 4 ∧ (s.eng q e).trapTick + 32768 ≤ s.mast.tick
        ∧ (s.eng q e).failed = false)
    ∧ (∃ (q : Nat) (e : Nat) (s : State) (k : Nat), q < 4 ∧ e < 16 ∧ Live s ∧ (s.eng q e).failed = false ∧ (k = 2 ∨ k = 3 ∨ k = 4 ∨ k = 6
        ∧ ((s.fault 8 q).forced.testBit 7 = true ∨ (s.fault 8 q).forced.testBit 8 = true)))
    ∧ (∃ (q : Nat) (e : Nat) (s : State) (m : ShareWait), q < 4 ∧ e < 16 ∧ Live s ∧ Clean s
        ∧ List.find? (fun m => s.moveDue m && (s.leastShares q (svMask ((s.cluster q).service m.service))).isSome) (s.cluster q).moves = some m
        ∧ s.leastShares q (svMask ((s.cluster q).service m.service)) = some e ∧ bitAt ((s.cluster q).entry (s.cluster q).active 7) 63 = true)
    ∧ (∃ (q : Nat) (e : Nat) (s : State) (k : Nat), q < 4 ∧ e < 16 ∧ Live s ∧ (s.eng q e).selftest = some k ∧ k + 2048 ≤ s.mast.tick) :=
  ⟨⟨3, 15, ready.setCluster 3 { disp := [(16, mk 63 63 1 ||| mk 40 25 0x8000)], queue := [ev0] }, ev0, by decide⟩,
    ⟨3, 15, ready.setCluster 3 { queue := [ev0] }, ev0, by decide⟩,
    ⟨3, 15,
      ready.setCluster 3 { disp := [(16, mk 63 63 1 ||| mk 58 58 1 ||| mk 40 25 0x8000)], queue := [{ ev0 with prio := 3 }], engines := [(15, { routine := some rout0 })] },
      { ev0 with prio := 3 }, rout0, by decide⟩,
    ⟨3, 15, withEng { routine := some rout0, wait := some { cond := 0, arg := 0, dreg := 0 } }, { cond := 0, arg := 0, dreg := 0 }, 0, rout0,
      by decide⟩,
    ⟨3, 15, withEng { routine := some rout0, vec := some { pc := 0, dreg := 31, status := 0, commit := true, async := true } },
      { pc := 0, dreg := 31, status := 0, commit := true, async := true }, rout0, by decide⟩,
    ⟨3, 15,
      (withEng { routine := some rout0, vec := some { pc := 0, dreg := 0, status := 0, commit := true, async := true, stitch := true } }).setSkein 0 { insts := [{ ix := 0, occ := 0, w1 := 0, w2 := 0, epoch := 0, outstanding := [{ order := 0, slot := 0, first := 0, nprb := 0 }] }] },
      { pc := 0, dreg := 0, status := 0, commit := true, async := true, stitch := true }, rout0,
      { ix := 0, occ := 0, w1 := 0, w2 := 0, epoch := 0, outstanding := [{ order := 0, slot := 0, first := 0, nprb := 0 }] }, by decide⟩,
    ⟨3, 15, withEng { routine := some { rout0 with budget := 255, clocks := 261121 } }, { rout0 with budget := 255, clocks := 261121 }, by decide⟩,
    ⟨3, 15, (at_ 32768).setCluster 3 { engines := [(15, { handler := some 4 })] }, by decide⟩,
    ⟨3, 15, ready.setFault 8 3 { forced := 128 }, 6, by decide⟩,
    ⟨3, 15,
      (at_ 8000).setCluster 3 { disp := [(7, mk 63 63 1)], services := [(15, mk 59 44 0x8000)], moves := [{ service := 15, share := 3, old := 0, tick := 0 }] },
      { service := 15, share := 3, old := 0, tick := 0 }, by decide⟩,
    ⟨3, 15, (at_ 2048).setCluster 3 { engines := [(15, { selftest := some 0 })] }, 0, by decide⟩⟩

/-- States and operands that meet the premises of VectorWords, clause by clause. -/
theorem witness_VectorWords :
    (∃ (q : Nat) (e : Nat) (w : Nat) (s : State) (r : Routine), Issues q e w s ∧ mwFlags w < 4 ∧ mwOp w = 40 ∧ (s.eng q e).routine = some r
        ∧ r.event.opcode = 0 ∧ (s.eng q e).under = none)
    ∧ (∃ (q : Nat) (e : Nat) (w : Nat) (s : State), Issues q e w s ∧ mwFlags w < 4 ∧ mwOp w = 41
        ∧ fld (BitVec.setWidth 64 ((s.eng q e).reg (mwD w))) 63 42 + 12 * fld (BitVec.setWidth 64 ((s.eng q e).reg (mwD w))) 41 33 ≤ 3145728
        ∧ 8 * 3145728 ≥ 8 * fld (BitVec.setWidth 64 ((s.eng q e).reg (mwD w))) 26 5 + fld (BitVec.setWidth 64 ((s.eng q e).reg (mwD w))) 4 2 + fld (BitVec.setWidth 64 ((s.eng q e).reg (mwD w))) 41 33
        ∧ (8 * fld (BitVec.setWidth 64 ((s.eng q e).reg (mwD w))) 26 5 + fld (BitVec.setWidth 64 ((s.eng q e).reg (mwD w))) 4 2 + fld (BitVec.setWidth 64 ((s.eng q e).reg (mwD w))) 41 33 ≤ 8 * fld (BitVec.setWidth 64 ((s.eng q e).reg (mwD w))) 63 42 ∨ 8 * (fld (BitVec.setWidth 64 ((s.eng q e).reg (mwD w))) 63 42 + 12 * fld (BitVec.setWidth 64 ((s.eng q e).reg (mwD w))) 41 33) ≤ 8 * fld (BitVec.setWidth 64 ((s.eng q e).reg (mwD w))) 26 5))
    ∧ (∃ (q : Nat) (e : Nat) (w : Nat) (s : State) (r : Routine), Issues q e w s ∧ mwFlags w < 4 ∧ mwOp w = 42 ∧ (s.eng q e).routine = some r
        ∧ r.event.opcode = 1 ∧ compOut (fld (BitVec.setWidth 64 ((s.eng q e).reg (mwD w))) 45 38) = true ∧ (s.skein r.event.skein).valid = true
        ∧ (s.skein r.event.skein).cluster = q
        ∧ fld (BitVec.setWidth 64 ((s.eng q e).reg (mwD w))) 37 24 + fld (BitVec.setWidth 64 ((s.eng q e).reg (mwD w))) 54 46 * recBytes (fld (BitVec.setWidth 64 ((s.eng q e).reg (mwD w))) 45 38) ≤ 16384
        ∧ (fld (BitVec.setWidth 64 ((s.eng q e).reg (mwD w))) 54 46 = 0 ∨ (s.skein r.event.skein).accAddr (fld (BitVec.setWidth 64 ((s.eng q e).reg (mwD w))) 22 22) (fld (BitVec.setWidth 64 ((s.eng q e).reg (mwD w))) 63 55 + fld (BitVec.setWidth 64 ((s.eng q e).reg (mwD w))) 54 46) ≤ 3145728))
    ∧ (∃ (q : Nat) (e : Nat) (w : Nat) (s : State) (r : Routine), Issues q e w s ∧ mwFlags w < 4 ∧ mwOp w = 43 ∧ (s.eng q e).routine = some r
        ∧ fld (BitVec.setWidth 64 ((s.eng q e).reg (mwD w))) 35 31 ≠ 0 ∧ fld (BitVec.setWidth 64 ((s.eng q e).reg (mwD w))) 30 26 ≠ 0
        ∧ fld (BitVec.setWidth 64 ((s.eng q e).reg (mwD w))) 63 50 + sampleBytes (fld (BitVec.setWidth 64 ((s.eng q e).reg (mwD w))) 35 31) (fld (BitVec.setWidth 64 ((s.eng q e).reg (mwD w))) 25 14) ≤ 32 + r.event.pkt.length
        ∧ fld (BitVec.setWidth 64 ((s.eng q e).reg (mwD w))) 63 50 + sampleBytes (fld (BitVec.setWidth 64 ((s.eng q e).reg (mwD w))) 35 31) (fld (BitVec.setWidth 64 ((s.eng q e).reg (mwD w))) 25 14) ≤ 16416
        ∧ fld (BitVec.setWidth 64 ((s.eng q e).reg (mwD w))) 49 36 + sampleBytes (fld (BitVec.setWidth 64 ((s.eng q e).reg (mwD w))) 30 26) (fld (BitVec.setWidth 64 ((s.eng q e).reg (mwD w))) 25 14) ≤ 16384)
    ∧ (∃ (q : Nat) (e : Nat) (w : Nat) (s : State), Issues q e w s ∧ mwFlags w < 4 ∧ mwOp w = 44
        ∧ fld (BitVec.setWidth 64 ((s.eng q e).reg (mwD w))) 41 39 = 1 ∧ fld (BitVec.setWidth 64 ((s.eng q e).reg (mwD w))) 16 14 = 5
        ∧ fld (BitVec.setWidth 64 ((s.eng q e).reg (mwD w))) 63 42 + fld (BitVec.setWidth 64 ((s.eng q e).reg (mwD w))) 13 0 ≤ 65536
        ∧ fld (BitVec.setWidth 64 ((s.eng q e).reg (mwD w))) 38 17 + fld (BitVec.setWidth 64 ((s.eng q e).reg (mwD w))) 13 0 ≤ 4096)
    ∧ (∃ (q : Nat) (e : Nat) (w : Nat) (s : State) (r : Routine) (v : Nat), Issues q e w s ∧ mwFlags w < 4 ∧ mwOp w = 45 ∧ mwD w % 2 = 0
        ∧ (s.eng q e).routine = some r ∧ fld (BitVec.setWidth 64 ((s.eng q e).reg (mwD w))) 35 33 = 4
        ∧ fld (BitVec.setWidth 64 ((s.eng q e).reg (mwD w))) 63 50 + fld (BitVec.setWidth 64 ((s.eng q e).reg (mwD w))) 49 36 ≤ 16416
        ∧ fld (BitVec.setWidth 64 ((s.eng q e).reg (mwD w))) 63 50 + fld (BitVec.setWidth 64 ((s.eng q e).reg (mwD w))) 49 36 ≤ 32 + r.event.pkt.length
        ∧ crcOver (fld (BitVec.setWidth 64 ((s.eng q e).reg (mwD w))) 32 31) (BitVec.setWidth 64 ((s.eng q e).reg (mwD w + 1))).toNat (List.map (fun j => (r.event.byte (fld (BitVec.setWidth 64 ((s.eng q e).reg (mwD w))) 63 50 + j)).getD 0) (List.range (fld (BitVec.setWidth 64 ((s.eng q e).reg (mwD w))) 49 36))) = some v)
    ∧ (∃ (q : Nat) (e : Nat) (w : Nat) (s : State), Issues q e w s ∧ mwFlags w < 4 ∧ mwOp w = 46
        ∧ 60 ≤ fld (BitVec.setWidth 64 ((s.eng q e).reg (mwD w))) 50 37 ∧ fld (BitVec.setWidth 64 ((s.eng q e).reg (mwD w))) 50 37 ≤ 16380
        ∧ s.linkUp (fld (BitVec.setWidth 64 ((s.eng q e).reg (mwD w))) 63 55) = false)
    ∧ (∃ (q : Nat) (e : Nat) (w : Nat) (s : State), Issues q e w s ∧ mwFlags w < 4 ∧ mwOp w = 46
        ∧ 60 ≤ fld (BitVec.setWidth 64 ((s.eng q e).reg (mwD w))) 50 37 ∧ fld (BitVec.setWidth 64 ((s.eng q e).reg (mwD w))) 50 37 ≤ 16380
        ∧ s.linkUp (fld (BitVec.setWidth 64 ((s.eng q e).reg (mwD w))) 63 55) = true) :=
  ⟨⟨3, 15, 40 * 2 ^ 18, runsR (40 * 2 ^ 18) {} stitch0, stitch0, issues_runsR _ _ _ id ⟨rfl, rfl, by decide⟩ (by decide), by decide⟩,
    ⟨3, 15, 41 * 2 ^ 18 + 8192, runs (41 * 2 ^ 18 + 8192) { regs := [(1, BitVec.ofNat 72 (3145716 * 2 ^ 42 + 2 ^ 33))] }, issues_runsR _ _ _ id ⟨rfl,
      rfl, by decide⟩ (by decide), by decide⟩,
    ⟨3, 15, 42 * 2 ^ 18 + 8192, (runsR (42 * 2 ^ 18 + 8192) { regs := [(1, BitVec.ofNat 72 (2 ^ 46 + 16336 * 2 ^ 24))] } close0).setSkein 65535 skein0,
      close0, issues_runsR _ _ _ (fun s => s.setSkein 65535 skein0) ⟨rfl, rfl, by decide⟩ (by decide), by decide⟩,
    ⟨3, 15, 43 * 2 ^ 18 + 8192, runs (43 * 2 ^ 18 + 8192) { regs := [(1, BitVec.ofNat 72 (31 * 2 ^ 31 + 31 * 2 ^ 26))] }, rout0,
      issues_runsR _ _ _ id ⟨rfl, rfl, by decide⟩ (by decide), by decide⟩,
    ⟨3, 15, 44 * 2 ^ 18 + 8192, runs (44 * 2 ^ 18 + 8192) { regs := [(1, BitVec.ofNat 72 (61440 * 2 ^ 42 + 2 ^ 39 + 5 * 2 ^ 14 + 4096))] },
      issues_runsR _ _ _ id ⟨rfl, rfl, by decide⟩ (by decide), by decide⟩,
    ⟨3, 15, 45 * 2 ^ 18 + 2 * 8192, runs (45 * 2 ^ 18 + 2 * 8192) { regs := [(2, BitVec.ofNat 72 (31 * 2 ^ 50 + 2 ^ 36 + 4 * 2 ^ 33))] }, rout0, _,
      issues_runsR _ _ _ id ⟨rfl, rfl, by decide⟩ (by decide), by decide, by decide, by decide, by decide, by decide, by decide, by decide, rfl⟩,
    ⟨3, 15, 46 * 2 ^ 18 + 8192, runs (46 * 2 ^ 18 + 8192) { regs := [(1, BitVec.ofNat 72 (511 * 2 ^ 55 + 60 * 2 ^ 37))] }, issues_runsR _ _ _ id ⟨rfl,
      rfl, by decide⟩ (by decide), by decide⟩,
    ⟨3, 15, 46 * 2 ^ 18 + 8192, (runs (46 * 2 ^ 18 + 8192) { regs := [(1, BitVec.ofNat 72 (511 * 2 ^ 55 + 16380 * 2 ^ 37))] }).setPort 511 upPort,
      issues_runsR _ _ _ (fun s => s.setPort 511 upPort) ⟨rfl, rfl, by decide⟩ (by decide), by decide⟩⟩

/-- States and operands that meet the premises of HookCommands, clause by clause. -/
theorem witness_HookCommands :
    (∃ (c : Cmd) (s : State), Taken 2048 hookDomain c s ∧ hookMask c ≠ [] ∧ fld (c.p 0) 62 5 = 0
        ∧ (∀ q ∈ hookMask c, s.bankBusy q (fld (c.p 0) 4 4) = false)
        ∧ s.imageFault (c.hostBytes (c.n 1) ((imLen (c.hostBytes (c.n 1) 4) + sigBytes + 7) / 8)) c.verified = none)
    ∧ (∃ (c : Cmd) (s : State), Taken 2049 hookDomain c s ∧ hookMask c ≠ [] ∧ fld (c.p 0) 63 32 = 0 ∧ fld (c.p 0) 15 4 = 0 ∧ fld (c.p 0) 31 16 ≠ 0
        ∧ (∀ q ∈ hookMask c, tget 0 (s.cluster q).epochs (1 - (s.cluster q).active) = fld (c.p 0) 31 16 ∧ s.switchPending q = false
        ∧ (s.cluster q).draining = none))
    ∧ (∃ (s : State) (q : Nat) (t : TimedCmd), q < 4 ∧ Live s
        ∧ List.find? (fun t => t.opcode == 2049 && (hookMask t.cmd).contains q && s.timedDue t && s.turn t) s.cmd.timed = some t ∧ t.own = false
        ∧ fld (t.cmd.p 0) 63 32 = 0 ∧ fld (t.cmd.p 0) 15 4 = 0 ∧ fld (t.cmd.p 0) 31 16 ≠ 0
        ∧ (∀ y ∈ hookMask t.cmd, tget 0 (s.cluster y).epochs (1 - (s.cluster y).active) = fld (t.cmd.p 0) 31 16 ∧ (s.cluster y).draining = none
        ∧ ∀ u ∈ s.cmd.timed.erase t, u.opcode = 2049 → y ∉ hookMask u.cmd))
    ∧ (∃ (s : State) (q : Nat) (b : Nat), q < 4 ∧ Live s ∧ (s.cluster q).draining = some b ∧ (s.cluster q).runsIn b = false)
    ∧ (∃ (s : State) (q : Nat) (b : Nat), q < 4 ∧ Live s ∧ Clean s ∧ (s.cluster q).draining = some b ∧ (s.cluster q).runsIn b = true
        ∧ (s.cluster q).drainTick + s.rgf RegId.hkDrainLimit [q] 23 0 * usTicks ≤ s.mast.tick)
    ∧ (∃ (c : Cmd) (s : State), Taken 2050 hookDomain c s ∧ Clean s ∧ hookMask c ≠ [] ∧ fld (c.p 0) 63 4 = 0)
    ∧ (∃ (c : Cmd) (s : State), Taken 2051 dispatchDomain c s ∧ fld (c.p 0) 63 11 = 0 ∧ (fld (c.p 0) 7 0 = 255 → bitAt (c.p 1) 63 = false)
        ∧ s.bankBusy (fld (c.p 0) 9 8) (fld (c.p 0) 10 10) = false)
    ∧ (∃ (c : Cmd) (s : State), Taken 2052 enableDomain c s ∧ fld (c.p 0) 63 32 = 0 ∧ fld (c.p 0) 15 6 = 0
        ∧ fld (c.p 0) 31 16 = s.epoch (ekCluster (fld (c.p 0) 5 4)))
    ∧ (∃ (c : Cmd) (s : State), Taken 2053 serviceDomain c s ∧ fld (c.p 0) 63 18 = 0 ∧ fld (c.p 0) 15 4 = 0 ∧ svOk (c.p 1) = true)
    ∧ (∃ (c : Cmd) (s : State), Taken 2054 noDomain c s ∧ Clean s ∧ 16 ≤ fld (c.p 0) 7 0 ∧ fld (c.p 0) 7 0 ≤ 247
        ∧ (∀ q ∈ bitsOf 4 (fld (c.p 0) 47 44), s.awake (domCluster q) = true ∧ HookTakes q (fld (c.p 0) 7 0) s)) :=
  ⟨⟨load0, ready, by decide +kernel, by decide +kernel, by decide +kernel, by decide, by rw [load0_bytes]; exact hook0_good⟩,
    ⟨cmdOf 0x801 [mk 31 16 65535 ||| 8], ready.setCluster 3 { epochs := [(1, 65535)] }, by decide⟩,
    ⟨ready.setCluster 3 { epochs := [(1, 65535)] } |> withCmd (fun k => { k with timed := [{ cmd := timedOf 0x801 [mk 31 16 65535 ||| 8], opcode := 0x801, at16 := 0, order := 0 }] }),
      3, { cmd := timedOf 0x801 [mk 31 16 65535 ||| 8], opcode := 0x801, at16 := 0, order := 0 }, by decide⟩,
    ⟨ready.setCluster 3 { draining := some 1 }, 3, 1, by decide⟩,
    ⟨(at_ 13421772000).setCluster 3 { draining := some 0, engines := [(15, { routine := some rout0 })] }, 3, 0, by decide⟩,
    ⟨cmdOf 0x802 [15], ready, by decide⟩,
    ⟨cmdOf 0x803 [mk 10 10 1 ||| mk 9 8 3 ||| 255, 0], ready, by decide⟩,
    ⟨cmdOf 0x804 [mk 5 4 3 ||| 15], ready, by decide⟩,
    ⟨cmdOf 0x805 [mk 17 16 3 ||| 15, mk 63 60 15 ||| mk 59 44 0x8000], ready, by decide⟩,
    ⟨cmdOf 0x806 [mk 47 44 8 ||| 247], ready.setCluster 3 { disp := [(247, mk 63 63 1)] }, by decide⟩⟩

/-- States and operands that meet the premises of HostObjects, clause by clause. -/
theorem witness_HostObjects :
    (∃ (c : Cmd) (f : Nat) (s : State), f < 64 ∧ Taken 2560 noDomain c s ∧ srcFn c.src = some f ∧ c.n 0 < s.qpCount f
        ∧ (∀ x ∈ ringChecks c f 1, x.2 = true) ∧ s.poolsOk f (c.n 8) = true ∧ (s.qp (s.qpBase f + c.n 0)).live = false ∧ (s.fn f).legacy = false)
    ∧ (∃ (c : Cmd) (f : Nat) (s : State), f < 64 ∧ Taken 2561 noDomain c s ∧ srcFn c.src = some f ∧ fld (c.p 0) 11 0 < s.qpCount f
        ∧ fld (c.p 0) 63 32 = 0 ∧ fld (c.p 0) 15 12 = 0 ∧ (s.qp (s.qpBase f + fld (c.p 0) 11 0)).live = true
        ∧ fld (c.p 0) 31 16 = s.epoch (ekQp (s.qpBase f + fld (c.p 0) 11 0)) ∧ s.qpIdle (s.qpBase f + fld (c.p 0) 11 0) = true)
    ∧ (∃ (c : Cmd) (f : Nat) (s : State), f < 64 ∧ Taken 2562 noDomain c s ∧ srcFn c.src = some f ∧ c.n 0 < 32 ∧ (∀ x ∈ ringChecks c f 1, x.2 = true)
        ∧ s.chanFn (c.n 0) = f ∧ (s.chan (c.n 0)).enabled = false)
    ∧ (∃ (c : Cmd) (f : Nat) (s : State), f < 64 ∧ Taken 2563 noDomain c s ∧ srcFn c.src = some f ∧ c.n 0 < 8 ∧ s.poolFn (c.n 0) = f ∧ 8 ≤ c.n 1
        ∧ c.n 1 ≤ 16 ∧ c.n 2 % 2 ^ c.n 1 = 0 ∧ 1 ≤ c.n 3 ∧ c.n 3 ≤ 2 ^ c.n 5 ∧ c.n 4 % 4096 = 0 ∧ 7 ≤ c.n 5 ∧ c.n 5 ≤ 15 ∧ c.n 6 < 2
        ∧ (s.pool (c.n 0)).enabled = false)
    ∧ (∃ (c : Cmd) (f : Nat) (s : State), f < 64 ∧ Taken 2564 noDomain c s ∧ srcFn c.src = some f ∧ c.p 0 = 1 ∧ (s.fn f).legacy = false
        ∧ 64 ≤ s.qpCount f ∧ (∀ i < s.qpCount f, (s.qp (s.qpBase f + i)).live = false))
    ∧ (∃ (c : Cmd) (f : Nat) (s : State), f < 64 ∧ Taken 2564 noDomain c s ∧ srcFn c.src = some f ∧ c.p 0 = 0 ∧ (s.fn f).legacy = true
        ∧ (∀ i < s.qpCount f, (s.qp (s.qpBase f + i)).live = true → s.qpIdle (s.qpBase f + i) = true))
    ∧ (∃ (c : Cmd) (f : Nat) (s : State), f < 64 ∧ Taken 2564 noDomain c s ∧ srcFn c.src = some f ∧ bitAt (c.p 0) 63 = true ∧ fld (c.p 0) 62 6 = 0
        ∧ (s.fn f).legacy = true ∧ (∀ x ∈ ringChecks c f 1, x.2 = true) ∧ s.poolsOk f (c.n 8) = true ∧ 1 ≤ c.n 9 ∧ c.n 9 ≤ 255 ∧ 1 ≤ c.n 10
        ∧ c.n 10 ≤ 64 ∧ c.n 11 < 2 ∧ s.qpIdle (s.qpBase f + fld (c.p 0) 5 0) = true)
    ∧ (∃ (f : Nat) (s : State) (v : W), f < 64 ∧ Live s ∧ (s.domain domPcie).state ≤ 2 ∧ fld v 63 48 = s.epoch (ekAdmin f)
        ∧ (fld v 15 0 + 65536 - (s.fn f).sq.h) % 65536 ≤ 2 ^ (s.fn f).sq.log)
    ∧ (∃ (f : Nat) (s : State) (v : W), f < 64 ∧ Live s ∧ (s.domain domPcie).state ≤ 2 ∧ fld v 63 48 ≠ s.epoch (ekAdmin f))
    ∧ (∃ (f : Nat) (s : State) (v : W), f < 64 ∧ Live s ∧ (s.domain domPcie).state ≤ 2 ∧ fld v 63 48 = s.epoch (ekAdmin f)
        ∧ (fld v 15 0 + 65536 - (s.fn f).cq.head) % 65536 ≤ ((s.fn f).cq.tail + 65536 - (s.fn f).cq.head) % 65536)
    ∧ (∃ (f : Nat) (s : State) (v : W) (i : Nat), f < 64 ∧ Live s ∧ (s.domain domPcie).state ≤ 2 ∧ i < s.qpCount f
        ∧ (s.qp (s.qpBase f + i)).live = true ∧ fld v 63 48 = s.epoch (ekQp (s.qpBase f + i))
        ∧ (fld v 15 0 + 65536 - (s.qp (s.qpBase f + i)).sq.h) % 65536 ≤ 2 ^ (s.qp (s.qpBase f + i)).sq.log)
    ∧ (∃ (f : Nat) (s : State) (v : W) (i : Nat), f < 64 ∧ Live s ∧ (s.domain domPcie).state ≤ 2 ∧ i < s.qpCount f
        ∧ fld v 63 48 ≠ s.epoch (ekQp (s.qpBase f + i)))
    ∧ (∃ (f : Nat) (s : State) (v : W) (i : Nat), f < 64 ∧ Live s ∧ (s.domain domPcie).state ≤ 2 ∧ i < s.qpCount f
        ∧ (s.qp (s.qpBase f + i)).live = true ∧ fld v 63 48 = s.epoch (ekQp (s.qpBase f + i))
        ∧ (fld v 15 0 + 65536 - (s.qp (s.qpBase f + i)).cq.head) % 65536 ≤ ((s.qp (s.qpBase f + i)).cq.tail + 65536 - (s.qp (s.qpBase f + i)).cq.head) % 65536)
    ∧ (∃ (f : Nat) (s : State) (v : W) (i : Nat), f < 64 ∧ Live s ∧ (s.domain domPcie).state ≤ 2 ∧ i < 8 ∧ s.poolFn i = f
        ∧ fld v 63 48 = s.epoch (ekPool i) ∧ (fld v 15 0 + 65536 - (s.pool i).ring.h) % 65536 ≤ 2 ^ (s.pool i).ring.log)
    ∧ (∃ (f : Nat) (s : State) (v : W) (i : Nat), f < 64 ∧ Live s ∧ (s.domain domPcie).state ≤ 2 ∧ i < 8 ∧ s.poolFn i = f
        ∧ fld v 63 48 ≠ s.epoch (ekPool i))
    ∧ (∃ (f : Nat) (s : State) (v : W) (i : Nat), f < 64 ∧ Live s ∧ (s.domain domPcie).state ≤ 2 ∧ i < 32 ∧ s.chanFn i = f
        ∧ fld v 63 48 = s.epoch (ekChan i) ∧ (fld v 15 0 + 65536 - (s.chan i).ring.h) % 65536 ≤ 2 ^ (s.chan i).ring.log)
    ∧ (∃ (f : Nat) (s : State) (v : W) (i : Nat), f < 64 ∧ Live s ∧ (s.domain domPcie).state ≤ 2 ∧ i < 32 ∧ s.chanFn i = f
        ∧ fld v 63 48 ≠ s.epoch (ekChan i))
    ∧ (∃ (f : Nat) (s : State) (v : W) (i : Nat), f < 64 ∧ Live s ∧ (s.domain domPcie).state ≤ 2 ∧ i < 32 ∧ s.chanFn i = f
        ∧ fld v 63 48 = s.epoch (ekChan i)
        ∧ (fld v 15 0 + 65536 - (s.chan i).cq.head) % 65536 ≤ ((s.chan i).cq.tail + 65536 - (s.chan i).cq.head) % 65536)
    ∧ (∃ (f : Nat) (s : State) (i : Nat), f < 64 ∧ Live s ∧ i < 32 ∧ s.chanFn i = f ∧ (s.chan i).enabled = true)
    ∧ (∃ (f : Nat) (s : State) (i : Nat), f < 64 ∧ Live s ∧ i < 32 ∧ s.chanFn i = f ∧ (s.chan i).enabled = false)
    ∧ (∃ (f : Nat) (s : State) (a : Nat), f < 64 ∧ Live s ∧ (s.fn f).sq.miss = some a ∧ a + 2 * usTicks ≤ s.mast.tick)
    ∧ (∃ (f : Nat) (s : State) (i : Nat) (a : Nat), f < 64 ∧ Live s ∧ (s.qp i).sq.miss = some a ∧ a + 2 * usTicks ≤ s.mast.tick)
    ∧ (∃ (f : Nat) (s : State) (i : Nat) (a : Nat), f < 64 ∧ Live s ∧ (s.chan i).ring.miss = some a ∧ a + 2 * usTicks ≤ s.mast.tick)
    ∧ (∃ (f : Nat) (s : State) (v : W), f < 64 ∧ Live s ∧ bitAt v 63 = true ∧ 4 ≤ fld v 11 8 ∧ fld v 11 8 ≤ 12 ∧ 4 ≤ fld v 3 0 ∧ fld v 3 0 ≤ 12
        ∧ BitVec.toNat (s.rg RegId.adminSqBase [f]) % 4096 = 0 ∧ BitVec.toNat (s.rg RegId.adminCqBase [f]) % 4096 = 0)
    ∧ (∃ (f : Nat) (s : State) (v : W), f < 64 ∧ Live s ∧ bitAt v 63 = false)
    ∧ (∃ (f : Nat) (s : State) (v : W), f < 64 ∧ Live s ∧ fld v 27 16 + fld v 12 0 ≤ 4096
        ∧ (∀ g < 64, g ≠ f → fld v 12 0 = 0 ∨ s.qpCount g = 0 ∨ s.qpBase g + s.qpCount g ≤ fld v 27 16 ∨ fld v 27 16 + fld v 12 0 ≤ s.qpBase g)
        ∧ (∀ x ∈ s.host.qps, x.2.live = true → s.qpFn x.1 = some f → fld v 27 16 ≤ x.1 ∧ x.1 < fld v 27 16 + fld v 12 0))
    ∧ (∃ (f : Nat) (s : State), f < 64 ∧ Live s)
    ∧ (∃ (f : Nat) (s : State) (i : Nat), f < 64 ∧ Live s ∧ i < 32 ∧ (s.chan i).enabled = false)
    ∧ (∃ (f : Nat) (s : State) (i : Nat), f < 64 ∧ Live s ∧ i < 8 ∧ (s.pool i).enabled = false)
    ∧ (∃ (f : Nat) (s : State), f < 64 ∧ Live s ∧ s.power.perstN = true) :=
  ⟨⟨cmdOf 0xA00 [63, 4096, 6, 0, 15, 0, 255, 1023, 255], 0, ready, by decide⟩,
    ⟨cmdOf 0xA01 [63], 0, withQp 63 { live := true }, by decide⟩,
    ⟨cmdOf 0xA02 [31, 0, 15, 0, 6, 0, 1, 0], 0, ready, by decide⟩,
    ⟨cmdOf 0xA03 [7, 16, 65536, 32768, 4096, 15, 1], 0, ready, by decide⟩,
    ⟨cmdOf 0xA04 [1], 0, ready, by decide⟩,
    ⟨cmdOf 0xA04 [0], 0, ready.setFn 0 { legacy := true }, by decide⟩,
    ⟨cmdOf 0xA04 [mk 63 63 1 ||| 63, 0, 6, 0, 15, 0, 1, 0, 0, 255, 64, 1], 0, ready.setFn 0 { legacy := true }, by decide⟩,
    ⟨63, ready.setFn 63 { enabled := true, sq := { log := 4 } }, 16, by decide⟩,
    ⟨63, ready, mk 63 48 1, by decide⟩,
    ⟨63, ready.setFn 63 { enabled := true, cq := { log := 4, tail := 16 } }, 16, by decide⟩,
    ⟨0, withQp 63 { live := true, sq := { log := 6 } }, 64, 63, by decide⟩,
    ⟨0, ready, mk 63 48 1, 63, by decide⟩,
    ⟨0, withQp 63 { live := true, cq := { log := 6, tail := 64 } }, 64, 63, by decide⟩,
    ⟨0, ready.setPool 7 { enabled := true, ring := { log := 7 } }, 128, 7, by decide⟩,
    ⟨0, ready, mk 63 48 1, 7, by decide⟩,
    ⟨0, ready.setChan 31 { enabled := true, ring := { log := 6 } }, 64, 31, by decide⟩,
    ⟨0, ready, mk 63 48 1, 31, by decide⟩,
    ⟨0, ready.setChan 31 { config := true, cq := { log := 6, tail := 64 } }, 64, 31, by decide⟩,
    ⟨0, ready.setChan 31 { enabled := true }, 31, by decide⟩,
    ⟨0, ready, 31, by decide⟩,
    ⟨63, (at_ 1600).setFn 63 { sq := { miss := some 0 } }, 0, by decide⟩,
    ⟨0, (at_ 1600).setQp 4095 { sq := { miss := some 0 } }, 4095, 0, by decide⟩,
    ⟨0, (at_ 1600).setChan 31 { ring := { miss := some 0 } }, 31, 0, by decide⟩,
    ⟨63, ready, mk 63 63 1 ||| mk 11 8 12 ||| 4, by decide⟩,
    ⟨63, ready, 0, by decide⟩,
    ⟨0, ready, 64, by decide⟩,
    ⟨63, ready, by decide⟩,
    ⟨63, ready, 31, by decide⟩,
    ⟨63, ready, 7, by decide⟩,
    ⟨63, ready, by decide⟩⟩

/-- States and operands that meet the premises of HostTraffic, clause by clause. -/
theorem witness_HostTraffic :
    (∃ (i : Nat) (s : State) (f : Nat) (e : List W), Live s ∧ i < 4096 ∧ s.qpFn i = some f ∧ (s.qp i).live = true ∧ (s.qp i).sq.fetches = true
        ∧ s.pcieUp = true ∧ 1 ≤ (s.qp i).sq.span 16 ∧ e ≠ [] ∧ (s.qp i).sq.owned 63 e = true ∧ (txUse e).shared = false)
    ∧ (∃ (i : Nat) (s : State) (f : Nat), Live s ∧ i < 4096 ∧ s.qpFn i = some f ∧ (s.qp i).live = true ∧ (s.qp i).sq.fetches = true ∧ s.pcieUp = true
        ∧ 1 ≤ (s.qp i).sq.span 16)
    ∧ (∃ (i : Nat) (s : State) (e : List W), Live s ∧ s.chanCluster i = none ∧ (s.chan i).enabled = true ∧ (s.chan i).ring.fetches = true
        ∧ s.pcieUp = true ∧ 1 ≤ (s.chan i).ring.span 16 ∧ e ≠ [] ∧ (s.chan i).ring.owned 63 e = true ∧ (jobUse e).shared = false)
    ∧ (∃ (i : Nat) (s : State) (e : List W), Live s ∧ i < 64 ∧ (s.fn i).enabled = true ∧ (s.fn i).sq.fetches = true ∧ s.pcieUp = true
        ∧ 1 ≤ (s.fn i).sq.span 16 ∧ e ≠ [] ∧ (s.fn i).sq.owned 63 e = true ∧ s.outstanding (fnSrc i) < maxOutstanding (fnSrc i))
    ∧ (∃ (i : Nat) (s : State) (e : W), Live s ∧ i < 8 ∧ (s.pool i).enabled = true ∧ s.pcieUp = true ∧ (s.pool i).ring.h ≠ (s.pool i).ring.d
        ∧ (s.pool i).ring.miss = none ∧ (s.pool i).cache.length < 64 ∧ 1 ≤ (s.pool i).ring.span 64 ∧ (s.pool i).ring.owned 0 [e] = true ∧ fld e 7 1 = 0
        ∧ (s.pool i).holds (fld e 63 8 * 256) = true)
    ∧ (∃ (i : Nat) (s : State) (f : Nat) (u : State) (c : Chain) (rest : List Chain) (data : List Byte), Live s ∧ i < 4096 ∧ s.qpFn i = some f
        ∧ txTurn 1200 s = some (i, u) ∧ s.pcieUp = true ∧ (s.qp i).ready = c :: rest ∧ c.status = 0 ∧ 60 ≤ c.txLen ∧ c.txLen ≤ 16380
        ∧ fld (c.word 0) 57 56 < 2 ∧ (f < 2 ∨ fld (c.word 0) 57 56 = 1 ∧ fld (c.word 0) 55 47 = s.rgf RegId.fnTxCfg [f] 8 0)
        ∧ (∀ y ∈ c.items, (txUse y.2).ret = false ∧ (txUse y.2).shared = false) ∧ data.length = c.txLen)
    ∧ (∃ (i : Nat) (s : State) (c : Chain) (data : List Byte) (more : List (Chain × List Byte)), Live s ∧ i < 4096
        ∧ (s.qp i).running = (c, data) :: more ∧ c.status ≠ 0 ∧ CqRoom (CqRef.qp i) s)
    ∧ (∃ (i : Nat) (s : State) (c : Chain) (data : List Byte) (more : List (Chain × List Byte)), Live s ∧ i < 4096
        ∧ (s.qp i).running = (c, data) :: more ∧ c.status = 0 ∧ fld (c.word 0) 57 56 = 0 ∧ s.awake (domTile (hostPkt s c data).tile) = true
        ∧ (hostPkt s c data).len ≤ 16384
        ∧ Room (hostPkt s c data).tile (hostPkt s c data).eport (hostPkt s c data).queue (cellsOf (hostPkt s c data).len) false s
        ∧ CqRoom (CqRef.qp i) s)
    ∧ (∃ (i : Nat) (s : State) (k : Pkt) (rest : List Pkt) (f : Nat) (p : Nat) (a : Nat), Live s ∧ i < 16 ∧ (s.tl i).hostRx = k :: rest
        ∧ s.pcieUp = true ∧ (s.qp k.eport).live = true ∧ s.qpFn k.eport = some f ∧ s.rxBuffers f (s.qp k.eport).pools k.bytes.length = some (p, 1)
        ∧ (s.pool p).cache.head? = some a ∧ CqRoom (CqRef.qp k.eport) s)
    ∧ (∃ (i : Nat) (s : State) (k : Pkt) (rest : List Pkt), Live s ∧ i < 16 ∧ (s.tl i).hostRx = k :: rest ∧ s.pcieUp = true
        ∧ ((s.qp k.eport).live = false ∨ s.qpFn k.eport = none))
    ∧ (∃ (s : State) (r : CqRef) (first : Nat) (later : List Nat), Live s ∧ (s.cqOf r).armed = true ∧ (s.cqOf r).unsig = first :: later
        ∧ (s.cqOf r).time ≠ 0 ∧ first + (s.cqOf r).time * usTicks ≤ s.mast.tick)
    ∧ (∃ (i : Nat) (s : State) (k : Chain) (rest : List Chain), Live s ∧ i < 32 ∧ (s.chan i).ready = k :: rest ∧ (s.chan i).running = none
        ∧ (s.chan i).enabled = true ∧ (s.pcieUp = true ∨ s.chanCluster i ≠ none) ∧ k.status = 0 ∧ (∀ y ∈ k.items, jobCheck (s.devAccess i) y.2 = 0
        ∧ (jobUse y.2).ret = false))
    ∧ (∃ (i : Nat) (s : State) (k : Chain) (data : List Byte) (n : Nat) (e : List W), Live s ∧ i < 32 ∧ (s.chan i).running = some (k, data)
        ∧ k.status = 0 ∧ k.items = [(n, e)] ∧ jbCrc (e.getD 0 0) = 0 ∧ jbSrcDev (e.getD 0 0) = false ∧ jbDstDev (e.getD 0 0) = false
        ∧ jbLen (e.getD 0 0) ≤ data.length ∧ (jobUse e).ret = false ∧ (jobUse e).shared = false ∧ CqRoom (CqRef.chan i) s) :=
  ⟨⟨63, withQp 63 { live := true, sq := { log := 6, d := 1 } }, 0, [mk 63 63 1], by decide⟩,
    ⟨63, withQp 63 { live := true, sq := { log := 6, d := 1 } }, 0, by decide⟩,
    ⟨31, ready.setChan 31 { enabled := true, ring := { log := 6, d := 1 } }, [mk 63 63 1], by decide⟩,
    ⟨63, ready.setFn 63 { enabled := true, sq := { log := 4, d := 1 } }, [mk 63 63 1], by decide⟩,
    ⟨7, ready.setPool 7 { enabled := true, count := 1, ring := { log := 7, d := 1 } }, 1, by decide⟩,
    ⟨0, withQp 0 { live := true, ready := [chain60] }, 0, ((txTurn 1200 (withQp 0 { live := true, ready := [chain60] })).getD (0, ready)).2, chain60,
      [], List.replicate 60 0, by decide, by decide, by decide, rfl, by decide⟩,
    ⟨4095, withQp 4095 { running := [({ chain60 with status := 1 }, [])] }, { chain60 with status := 1 }, [], [], by decide⟩,
    ⟨63, withQp 63 { running := [(chain60, List.replicate 60 0)] }, chain60, List.replicate 60 0, [], by decide, by decide, by decide, by decide,
      by decide, by decide, by decide, ⟨_, _, rfl, rfl⟩, by decide⟩,
    ⟨15,
      ((withQp 63 { live := true, pools := 1 }).setPool 0 { enabled := true, count := 1, cache := [0] }).setTl 15 { hostRx := [{ eport := 63, bytes := List.replicate 256 0 }] },
      { eport := 63, bytes := List.replicate 256 0 }, [], 0, 0, 0, by decide⟩,
    ⟨15, ready.setTl 15 { hostRx := [{ eport := 4095 }] }, { eport := 4095 }, [], by decide⟩,
    ⟨(at_ 800).setQp 4095 { cq := { unsig := [0], time := 1 } }, .qp 4095, 0, [], by decide⟩,
    ⟨31, ready.setChan 31 { enabled := true, ready := [{ items := [(0, [1])] }] }, { items := [(0, [1])] }, [], by decide⟩,
    ⟨31, ready.setChan 31 { running := some ({ items := [(0, [1])] }, [0]) }, { items := [(0, [1])] }, [0], 0, [1], by decide⟩⟩

/-- States and operands that meet the premises of PowerCommands, clause by clause. -/
theorem witness_PowerCommands :
    (∃ (c : Cmd) (s : State), Taken 2816 noDomain c s ∧ (c.n 0 < 8 ∨ c.n 0 = 255) ∧ c.n 1 < 2 ^ 32)
    ∧ (∃ (c : Cmd) (s : State), Taken 2817 noDomain c s ∧ c.n 0 < 8 ∧ 620 ≤ c.n 1 ∧ c.n 1 ≤ 820 ∧ c.n 1 % 5 = 0 ∧ 400 ≤ c.n 2 ∧ c.n 2 ≤ 1600
        ∧ c.n 2 % 25 = 0 ∧ c.n 3 ≤ 2 ∧ c.n 4 < 16 ∧ (c.n 0 = 0 ∨ (s.opEntry (c.n 0 - 1)).vcore ≤ c.n 1 ∧ (s.opEntry (c.n 0 - 1)).freq ≤ c.n 2
        ∧ c.n 3 ≤ (s.opEntry (c.n 0 - 1)).serdes) ∧ (c.n 0 = 7 ∨ c.n 1 ≤ (s.opEntry (c.n 0 + 1)).vcore ∧ c.n 2 ≤ (s.opEntry (c.n 0 + 1)).freq
        ∧ (s.opEntry (c.n 0 + 1)).serdes ≤ c.n 3))
    ∧ (∃ (c : Cmd) (s : State), Taken 2818 noDomain c s ∧ 500 ≤ c.n 0 ∧ c.n 0 ≤ 1400)
    ∧ (∃ (c : Cmd) (s : State), Taken 2819 noDomain c s ∧ (c.n 0 < 38 ∨ c.n 0 = 255) ∧ c.n 1 ≤ 5 ∧ c.n 2 ≤ 4 ∧ c.n 3 < 256 ∧ 1 ≤ c.n 4
        ∧ c.n 4 ≤ 1000000 ∧ 5 ≤ c.n 5 ∧ c.n 5 ≤ 50 ∧ (c.n 0 = 255 → c.n 1 < 4)
        ∧ (c.n 1 = 0 ∨ ∀ k < 38, c.n 0 = 255 ∨ c.n 0 = k → s.forceBad k (c.n 1 - 1) = false))
    ∧ (∃ (c : Cmd) (s : State), Taken 2819 noDomain c s ∧ c.n 0 = 255 ∧ (c.n 1 = 4 ∨ c.n 1 = 5) ∧ c.n 2 ≤ 4 ∧ c.n 3 < 256 ∧ 1 ≤ c.n 4 ∧ c.n 4 ≤ 1000000
        ∧ 5 ≤ c.n 5 ∧ c.n 5 ≤ 50 ∧ (∀ k < 8, (s.timeline k).configured = false)) :=
  ⟨⟨cmdOf 0xB00 [255, 4294967295], ready, by decide⟩,
    ⟨cmdOf 0xB01 [7, 820, 1600, 0, 15], ready, by decide⟩,
    ⟨cmdOf 0xB02 [1400], ready, by decide⟩,
    ⟨cmdOf 0xB03 [16, 5, 4, 255, 1000000, 50], ready, by decide⟩,
    ⟨cmdOf 0xB03 [255, 5, 4, 255, 1000000, 50], ready, by decide⟩⟩

/-- States and operands that meet the premises of DomainMoves, clause by clause. -/
theorem witness_DomainMoves :
    (∃ (d : Nat) (s : State) (st : Nat) (cells : Nat) (l1 : Bool) (l : Nat), d < 38 ∧ Live s ∧ (s.domain d).force = 0 ∧ (s.domain d).exiting = false
        ∧ (s.domain d).state < st ∧ st ≤ (s.domain d).maxState ∧ autoLatency d st = some l ∧ l ≤ s.tolerance d
        ∧ (2 < st ∨ s.lookahead d (nsTicks l + usTicks) = false) ∧ (st ≤ 2 ∨ s.unconcerned d = true) ∧ (d = 36 → st < 3)
        ∧ s.idleFor d st cells l1 = true ∧ (s.domain d).idleSince.getD (st - 1) 0 + (s.domain d).idleHold * usTicks ≤ s.mast.tick
        ∧ s.dependsOk d st = true)
    ∧ (∃ (d : Nat) (s : State) (st : Nat), d < 38 ∧ Live s
        ∧ ((s.domain d).force ≠ 0 ∨ (s.domain d).maxState < st ∨ st ≤ (s.domain d).state ∨ autoLatency d st = none ∨ s.dependsOk d st = false))
    ∧ (∃ (d : Nat) (s : State), d < 38 ∧ Live s ∧ (s.domain d).force = 0 ∧ 0 < (s.domain d).state)
    ∧ (∃ (d : Nat) (s : State), d < 38 ∧ Live s ∧ (s.domain d).force ≠ 0)
    ∧ (∃ (d : Nat) (s : State), d < 38 ∧ Live s ∧ (s.domain d).exiting = true ∧ ((s.followers d).all fun k => !(s.domain k).exiting) = true
        ∧ s.mayCome d (s.exitState d) = true ∧ d ≠ domMgmt ∧ (s.domain d).recorded = [] ∧ (∀ w ∈ s.cmd.waiting, w.domain ≠ d)
        ∧ ((s.domain d).state ≤ 1 ∨ (s.domain d).state = 2 ∧ ∀ o ∈ s.objectsOf d, (tget { } s.epochs o.1).changed = false))
    ∧ (∃ (d : Nat) (s : State), d < 38 ∧ Live s ∧ (s.domain d).exiting = true ∧ ((s.followers d).all fun k => !(s.domain k).exiting) = true
        ∧ s.mayCome d (s.exitState d) = true ∧ d ≠ domMgmt ∧ (s.domain d).recorded = [] ∧ (∀ w ∈ s.cmd.waiting, w.domain ≠ d) ∧ d < 16
        ∧ d ∉ s.sec.badMaps ∧ ((s.domain d).state = 3 ∨ (s.domain d).state = 4))
    ∧ (∃ (d : Nat) (s : State), d < 38 ∧ Live s ∧ (s.domain d).exiting = true ∧ ((s.followers d).all fun k => !(s.domain k).exiting) = true
        ∧ s.mayCome d (s.exitState d) = true ∧ d ≠ domMgmt ∧ (s.domain d).recorded = [] ∧ (∀ w ∈ s.cmd.waiting, w.domain ≠ d) ∧ d ≠ domMast
        ∧ d ∈ s.sec.badMaps ∧ 3 ≤ (s.domain d).state)
    ∧ (∃ (d : Nat) (s : State), d < 38 ∧ Live s ∧ (∃ k ∈ s.followers d, (s.domain k).exiting = true))
    ∧ (∃ (d : Nat) (s : State), d < 38 ∧ Live s ∧ s.mayCome d (s.exitState d) = false)
    ∧ (∃ (d : Nat) (s : State), d < 38 ∧ Live s ∧ s.power.deviceForce < 3 ∧ 0 < (s.domain domMgmt).state)
    ∧ (∃ (d : Nat) (s : State), d < 38 ∧ Live s ∧ s.power.deviceForce = 3)
    ∧ (∃ (d : Nat) (s : State), d < 38 ∧ Live s) :=
  ⟨⟨15, withPower (fun p => { p with tolerance := [(0, 200)] }) (at_ 80000), 1, 0, false, 200, by decide⟩,
    ⟨37, ready, 0, by decide⟩,
    ⟨37, ready.setDomain 37 { state := 1 }, by decide⟩,
    ⟨37, ready.setDomain 37 { force := 1 }, by decide⟩,
    ⟨37, ready.setDomain 37 { state := 2, exiting := true }, by decide⟩,
    ⟨15, ready.setDomain 15 { state := 4, exiting := true }, by decide⟩,
    ⟨15, (ready.setDomain 15 { state := 3, exiting := true }).modSec fun k => { k with badMaps := [15] }, by decide⟩,
    ⟨24, ready.setDomain 28 { state := 1, exiting := true }, by decide⟩,
    ⟨23, ready.setDomain 15 { state := 2 }, by decide⟩,
    ⟨0, withPower (fun p => { p with deviceForce := 2 }) (ready.setDomain 34 { state := 2 }), by decide⟩,
    ⟨0, withPower (fun p => { p with deviceForce := 3 }) ready, by decide⟩,
    ⟨37, ready, by decide⟩⟩

/-- States and operands that meet the premises of VoltageAndPower, clause by clause. -/
theorem witness_VoltageAndPower :
    (∃ (d : Nat) (s : State) (a : AvsStep), d < 40 ∧ Live s ∧ s.power.avs = some a ∧ a.due ≤ s.mast.tick ∧ a.phase = 0 ∧ s.power.removing = none)
    ∧ (∃ (d : Nat) (s : State) (a : AvsStep), d < 40 ∧ Live s ∧ s.power.avs = some a ∧ a.due ≤ s.mast.tick ∧ a.phase = 0 ∧ s.power.removing ≠ none)
    ∧ (∃ (d : Nat) (s : State) (a : AvsStep), d < 40 ∧ Live s ∧ s.power.avs = some a ∧ a.due ≤ s.mast.tick ∧ a.phase = 3)
    ∧ (∃ (d : Nat) (s : State) (a : AvsStep), d < 40 ∧ Live s ∧ s.power.avs = some a ∧ a.due ≤ s.mast.tick ∧ a.phase = 1)
    ∧ (∃ (d : Nat) (s : State) (a : AvsStep), d < 40 ∧ Live s ∧ s.power.avs = some a ∧ a.due ≤ s.mast.tick ∧ a.phase = 2)
    ∧ (∃ (d : Nat) (s : State) (f : Nat), d < 40 ∧ Live s ∧ d < 16 ∧ s.freqNext d = some f)
    ∧ (∃ (d : Nat) (s : State), d < 40 ∧ Live s)
    ∧ (∃ (d : Nat) (s : State), d < 40 ∧ Live s ∧ intervalEnd (s.power.intervals + 1) ≤ s.mast.tick)
    ∧ (∃ (d : Nat) (s : State) (reading : Nat), d < 40 ∧ Live s ∧ 108 ≤ reading)
    ∧ (∃ (d : Nat) (s : State), d < 40 ∧ Live s ∧ (s.domain d).filler.kind = 1
        ∧ (s.domain d).filler.since + s.rgf RegId.fillProfile [(s.domain d).filler.profile] 47 38 * usTicks ≤ s.mast.tick) :=
  ⟨⟨39, withPower (fun p => { p with avs := some { src := 820, dst := 620, phase := 0, start := 0, due := 0 } }) ready,
    { src := 820, dst := 620, phase := 0, start := 0, due := 0 }, by decide⟩,
    ⟨39, withPower (fun p => { p with removing := some 0, avs := some { src := 820, dst := 620, phase := 0, start := 0, due := 0 } }) ready,
      { src := 820, dst := 620, phase := 0, start := 0, due := 0 }, by decide⟩,
    ⟨39, withPower (fun p => { p with avs := some { src := 820, dst := 620, phase := 3, start := 0, due := 0 } }) ready,
      { src := 820, dst := 620, phase := 3, start := 0, due := 0 }, by decide⟩,
    ⟨39, withPower (fun p => { p with avs := some { src := 820, dst := 620, phase := 1, start := 0, due := 0 } }) ready,
      { src := 820, dst := 620, phase := 1, start := 0, due := 0 }, by decide⟩,
    ⟨39, withPower (fun p => { p with avs := some { src := 820, dst := 620, phase := 2, start := 0, due := 0 } }) ready,
      { src := 820, dst := 620, phase := 2, start := 0, due := 0 }, by decide⟩,
    ⟨15, withPower (fun p => { p with tileFreqNext := [(15, some 400)] }) ready, 400, by decide⟩,
    ⟨39, ready, by decide⟩,
    ⟨39, at_ 1638, by decide⟩,
    ⟨39, ready, 108, by decide⟩,
    ⟨39, (at_ 800000).setDomain 39 { filler := { kind := 1 } }, by decide⟩⟩

/-- States and operands that meet the premises of CellSleepSteps, clause by clause. -/
theorem witness_CellSleepSteps :
    (∃ (c : Cmd) (s : State) (T : Nat), T < 8 ∧ Taken 2820 noDomain c s ∧ c.n 0 = T ∧ c.n 1 = 0 ∧ firstBad (cellSleepRanges c) = none
        ∧ (s.timeline T).mode = 1 ∧ (s.sleepOf T).state = 0
        ∧ (∀ p < 512, bitAt (((s.bank s.rig.active).set (c.n 4)).getD (p / 64) 0) (p % 64) = true → s.linkUp p = true ∧ (s.prt p).schedDoze = true)
        ∧ s.awake (domCluster 0) = true)
    ∧ (∃ (c : Cmd) (s : State) (T : Nat), T < 8 ∧ Taken 2820 noDomain c s ∧ c.n 0 = T ∧ c.n 1 = 1 ∧ firstBad (cellSleepRanges c) = none
        ∧ (s.sleepOf T).state = 0 ∧ (s.sleepOf T).wakeFixed = false)
    ∧ (∃ (c : Cmd) (s : State) (T : Nat), T < 8 ∧ Taken 2820 noDomain c s ∧ c.n 0 = T ∧ c.n 1 = 1 ∧ firstBad (cellSleepRanges c) = none
        ∧ 2 ≤ (s.sleepOf T).state ∧ (s.sleepOf T).wakeFixed = false)
    ∧ (∃ (c : Cmd) (s : State) (T : Nat), T < 8 ∧ Taken 2820 noDomain c s ∧ c.n 0 = T ∧ c.n 1 = 1 ∧ firstBad (cellSleepRanges c) = none
        ∧ 2 ≤ (s.sleepOf T).state ∧ (s.sleepOf T).wakeFixed = true)
    ∧ (∃ (s : State) (T : Nat), T < 8 ∧ Live s ∧ (s.sleepOf T).state = 1 ∧ (s.sleepOf T).lastSend + msTicks ≤ s.mast.tick)
    ∧ (∃ (s : State) (T : Nat) (p : Nat) (b : List Byte), T < 8 ∧ Live s ∧ p < 512 ∧ byteAt b 20 % 8 = T ∧ byteAt b 15 = 1
        ∧ ((s.sleepOf T).state = 0 ∨ p ∈ s.participants (s.sleepOf T)) ∧ byteAt b 14 = 65 ∧ (s.sleepOf T).matched b = true
        ∧ (s.sleepOf T).answered.testBit p = false)
    ∧ (∃ (s : State) (T : Nat) (p : Nat) (b : List Byte), T < 8 ∧ Live s ∧ p < 512 ∧ byteAt b 20 % 8 = T ∧ byteAt b 15 = 1
        ∧ ((s.sleepOf T).state = 0 ∨ p ∈ s.participants (s.sleepOf T)) ∧ byteAt b 14 = 66 ∧ (s.sleepOf T).state = 1
        ∧ bytesNat b 16 2 = (s.sleepOf T).agreement)
    ∧ (∃ (s : State) (T : Nat) (p : Nat) (b : List Byte), T < 8 ∧ Live s ∧ p < 512 ∧ byteAt b 20 % 8 = T ∧ byteAt b 15 = 1
        ∧ ((s.sleepOf T).state = 0 ∨ p ∈ s.participants (s.sleepOf T)) ∧ byteAt b 14 = 68 ∧ (s.sleepOf T).state = 0)
    ∧ (∃ (s : State) (T : Nat) (p : Nat) (b : List Byte), T < 8 ∧ Live s ∧ p < 512 ∧ byteAt b 20 % 8 = T ∧ byteAt b 15 = 1
        ∧ ((s.sleepOf T).state = 0 ∨ p ∈ s.participants (s.sleepOf T)) ∧ byteAt b 14 = 68 ∧ (s.sleepOf T).state = 1)
    ∧ (∃ (s : State) (T : Nat) (p : Nat) (b : List Byte), T < 8 ∧ Live s ∧ p < 512 ∧ byteAt b 20 % 8 = T ∧ byteAt b 15 = 1
        ∧ ((s.sleepOf T).state = 0 ∨ p ∈ s.participants (s.sleepOf T)) ∧ byteAt b 14 = 68 ∧ 2 ≤ (s.sleepOf T).state ∧ (s.sleepOf T).wakeFixed = false)
    ∧ (∃ (s : State) (T : Nat) (p : Nat) (b : List Byte), T < 8 ∧ Live s ∧ p < 512 ∧ byteAt b 20 % 8 = T ∧ byteAt b 15 = 1
        ∧ ((s.sleepOf T).state = 0 ∨ p ∈ s.participants (s.sleepOf T)) ∧ byteAt b 14 = 68 ∧ 2 ≤ (s.sleepOf T).state ∧ (s.sleepOf T).wakeFixed = true)
    ∧ (∃ (s : State) (T : Nat), T < 8 ∧ Live s ∧ (s.sleepOf T).state = 1 ∧ s.frameTick T (s.sleepOf T).commitFrame ≤ s.mast.tick
        ∧ (s.sleepOf T).refused = false ∧ (s.sleepOf T).accepts = (s.participants (s.sleepOf T)).length)
    ∧ (∃ (s : State) (T : Nat), T < 8 ∧ Live s ∧ (s.sleepOf T).state = 1 ∧ s.frameTick T (s.sleepOf T).commitFrame ≤ s.mast.tick
        ∧ ((s.sleepOf T).refused = true ∨ (s.sleepOf T).accepts ≠ (s.participants (s.sleepOf T)).length))
    ∧ (∃ (s : State) (T : Nat), T < 8 ∧ Live s ∧ (s.sleepOf T).state = 2 ∧ s.frameTick T (s.sleepOf T).sleepFrame ≤ s.mast.tick)
    ∧ (∃ (s : State) (T : Nat) (w : Int), T < 8 ∧ Live s ∧ (s.sleepOf T).state = 3 ∧ (s.sleepOf T).wakeAt = some w
        ∧ s.frameTick T w ≤ s.mast.tick + (s.sleepOf T).lead)
    ∧ (∃ (s : State) (T : Nat) (w : Int), T < 8 ∧ Live s ∧ ((s.sleepOf T).state = 3 ∨ (s.sleepOf T).state = 4) ∧ (s.sleepOf T).wakeAt = some w
        ∧ s.frameTick T w ≤ s.mast.tick) :=
  ⟨⟨cmdOf 0xB04 [0, 0, 1023, 1024, 1023, 64, 16, 8, 1048575], (active0 ready).setPort 0 upPort, 0, by decide⟩,
    ⟨cmdOf 0xB04 [7, 1, 0, 0, 0, 2, 1, 1, 1], ready, 7, by decide⟩,
    ⟨cmdOf 0xB04 [7, 1, 0, 0, 0, 2, 1, 1, 1], ready.setSleep 7 { state := 2 }, 7, by decide⟩,
    ⟨cmdOf 0xB04 [7, 1, 0, 0, 0, 2, 1, 1, 1], ready.setSleep 7 { state := 4, wakeFixed := true }, 7, by decide⟩,
    ⟨(at_ 800000).setSleep 7 { state := 1 }, 7, by decide⟩,
    ⟨ready.setSleep 7 { state := 1, wakeSfn := 0, parts := [0, 0, 0, 0, 0, 0, 0, mk 63 63 1] } |>.setPort 511 upPort, 7, 511,
      List.replicate 14 0 ++ [0x41, 1, 0, 0, 0, 0, 7] ++ List.replicate 20 0, by decide⟩,
    ⟨ready.setSleep 7 { state := 1, parts := [0, 0, 0, 0, 0, 0, 0, mk 63 63 1] } |>.setPort 511 upPort, 7, 511, List.replicate 14 0 ++ [0x42, 1, 0, 0,
      0, 0, 7] ++ List.replicate 20 0, by decide⟩,
    ⟨ready, 7, 511, List.replicate 14 0 ++ [0x44, 1, 0, 0, 0, 0, 7] ++ List.replicate 20 0, by decide⟩,
    ⟨ready.setSleep 7 { state := 1, parts := [0, 0, 0, 0, 0, 0, 0, mk 63 63 1] } |>.setPort 511 upPort, 7, 511, List.replicate 14 0 ++ [0x44, 1, 0, 0,
      0, 0, 7] ++ List.replicate 20 0, by decide⟩,
    ⟨ready.setSleep 7 { state := 2, parts := [0, 0, 0, 0, 0, 0, 0, mk 63 63 1] } |>.setPort 511 upPort, 7, 511, List.replicate 14 0 ++ [0x44, 1, 0, 0,
      0, 0, 7] ++ List.replicate 20 0, by decide⟩,
    ⟨ready.setSleep 7 { state := 2, wakeFixed := true, parts := [0, 0, 0, 0, 0, 0, 0, mk 63 63 1] } |>.setPort 511 upPort, 7, 511,
      List.replicate 14 0 ++ [0x44, 1, 0, 0, 0, 0, 7] ++ List.replicate 20 0, by decide⟩,
    ⟨(active0 ready).setSleep 0 { state := 1, commitFrame := -31596481900 }, 0, by decide⟩,
    ⟨(active0 ready).setSleep 0 { state := 1, commitFrame := -31596481900, refused := true }, 0, by decide⟩,
    ⟨(active0 ready).setSleep 0 { state := 2, sleepFrame := -31596481900 }, 0, by decide⟩,
    ⟨(active0 ready).setSleep 0 { state := 3, wakeAt := some (-31596481900) }, 0, -31596481900, by decide⟩,
    ⟨(active0 ready).setSleep 0 { state := 4, wakeAt := some (-31596481900) }, 0, -31596481900, by decide⟩⟩

/-- States and operands that meet the premises of SecurityCommands, clause by clause. -/
theorem witness_SecurityCommands :
    (∃ (c : Cmd) (s : State), Taken 3072 noDomain c s ∧ fld (c.p 0) 63 32 = 1279482179 ∧ fld (c.p 0) 2 0 = s.sec.lifecycle + 1 ∧ fld (c.p 0) 2 0 < 4
        ∧ s.sec.level = 0 ∧ s.sec.zero = none ∧ (fld (c.p 0) 2 0 = 2 → s.sec.burned = [] ∨ ∀ i < 48, s.sec.burned.getD i 0 = (hashWords c).getD i 0))
    ∧ (∃ (c : Cmd) (s : State), Taken 3072 noDomain c s ∧ fld (c.p 0) 63 32 = 1279482179 ∧ fld (c.p 0) 2 0 = 4 ∧ s.sec.lifecycle ≠ 4
        ∧ s.sec.zero = none)
    ∧ (∃ (c : Cmd) (s : State), Taken 3073 macsecDomain c s ∧ s.sec.lifecycle ≠ 0 ∧ s.sec.lifecycle ≠ 4 ∧ s.sec.level = 0 ∧ s.sec.keysBlocked = false
        ∧ kiKind c = 0)
    ∧ (∃ (c : Cmd) (s : State), Taken 3073 macsecDomain c s ∧ s.sec.lifecycle ≠ 0 ∧ s.sec.lifecycle ≠ 4 ∧ s.sec.level = 0 ∧ s.sec.keysBlocked = false
        ∧ tget [] s.sec.kek (kiSlot c) ≠ [] ∧ Clean s ∧ c.verified = true ∧ kiKind c = 1 ∧ (s.prt (kiPort c)).formed = true)
    ∧ (∃ (c : Cmd) (s : State), Taken 3073 macsecDomain c s ∧ s.sec.lifecycle ≠ 0 ∧ s.sec.lifecycle ≠ 4 ∧ s.sec.level = 0 ∧ s.sec.keysBlocked = false
        ∧ tget [] s.sec.kek (kiSlot c) ≠ [] ∧ Clean s ∧ c.verified = true ∧ kiKind c = 2 ∧ (s.prt (kiPort c)).formed = true)
    ∧ (∃ (c : Cmd) (s : State), Taken 3073 macsecDomain c s ∧ s.sec.lifecycle ≠ 0 ∧ s.sec.lifecycle ≠ 4 ∧ s.sec.level = 0 ∧ s.sec.keysBlocked = false
        ∧ tget [] s.sec.kek (kiSlot c) ≠ [] ∧ Clean s ∧ c.verified = true ∧ kiKind c = 3)
    ∧ (∃ (c : Cmd) (s : State), Taken 3073 macsecDomain c s ∧ s.sec.lifecycle ≠ 0 ∧ s.sec.lifecycle ≠ 4 ∧ s.sec.level = 0 ∧ s.sec.keysBlocked = false
        ∧ kiKind c = 4)
    ∧ (∃ (c : Cmd) (s : State), Taken 3074 noDomain c s ∧ s.sec.zero = none)
    ∧ (∃ (c : Cmd) (s : State), Taken 3075 noDomain c s ∧ s.sec.zero = none ∧ fld (c.p 0) 1 0 = 0 ∧ (fld (c.p 0) 9 8 = 1 ∨ fld (c.p 0) 9 8 = 2))
    ∧ (∃ (c : Cmd) (s : State) (ch : Challenge), Taken 3075 noDomain c s ∧ s.sec.zero = none ∧ s.sec.challenge = some ch ∧ ch.src = c.src
        ∧ fld (c.p 0) 1 0 = 1 ∧ List.drop 1 c.params ≠ [] ∧ (List.drop 1 c.params).length ≤ 28
        ∧ fld (c.p 0) 31 16 + (List.drop 1 c.params).length ≤ 1024)
    ∧ (∃ (c : Cmd) (s : State) (ch : Challenge), Taken 3075 noDomain c s ∧ s.sec.zero = none ∧ s.sec.challenge = some ch ∧ ch.src = c.src
        ∧ fld (c.p 0) 1 0 = 2 ∧ s.sec.level < ch.level ∧ (s.sec.lifecycle < 2 ∨ s.sec.lifecycle = 4 ∨ ch.used = false ∧ Clean s
        ∧ s.tokenOk ch (if List.drop 1 c.params = [] then List.map (fun i => tget 0 s.sec.staging i) (List.range 935) else List.drop 1 c.params) c.verified = true))
    ∧ (∃ (c : Cmd) (s : State), Taken 3076 noDomain c s ∧ s.sec.level = 1)
    ∧ (∃ (c : Cmd) (s : State), Taken 3076 noDomain c s ∧ s.sec.level = 0)
    ∧ (∃ (c : Cmd) (s : State), Taken 3076 noDomain c s ∧ s.sec.level = 2 ∧ s.resetHeld = false) :=
  ⟨⟨cmdOf 0xC00 [mk 63 32 1279482179 ||| 1], ready, by decide⟩,
    ⟨cmdOf 0xC00 [mk 63 32 1279482179 ||| 4], ready, by decide⟩,
    ⟨cmdOf 0xC01 [mk 63 61 0, 0, 0, 0, 0, 0, 0, 0, 0, 0], ready.modSec fun k => { k with lifecycle := 3 }, by decide⟩,
    ⟨cmdOf 0xC01 [mk 63 61 1 ||| mk 37 32 63 ||| mk 31 23 511 ||| mk 17 16 3, 0, 0, 0, 0, 0, 0, 0, 0, 0], keyed, by decide⟩,
    ⟨cmdOf 0xC01 [mk 63 61 2 ||| mk 37 32 63 ||| mk 31 23 511 ||| mk 21 19 7 ||| mk 17 16 3, 0, 0, 0, 0, 0, 0, 0, 0, 0], keyed, by decide⟩,
    ⟨cmdOf 0xC01 [mk 63 61 3 ||| mk 37 32 63 ||| mk 17 16 3, 0, 0, 0, 0, 0, 0, 0, 0, 0], keyed, by decide⟩,
    ⟨cmdOf 0xC01 [mk 63 61 4 ||| mk 31 23 511 ||| mk 17 16 3, 0, 0, 0, 0, 0, 0, 0, 0, 0], keyed, by decide⟩,
    ⟨cmdOf 0xC02 [], ready, by decide⟩,
    ⟨cmdOf 0xC03 [mk 9 8 2], ready, by decide⟩,
    ⟨cmdOf 0xC03 [mk 31 16 1023 ||| 1, 0],
      ready.modSec (fun k => { k with challenge := some { src := .pf0, level := 1, nonce := [], mono := 0, tick := 0 } }),
      { src := .pf0, level := 1, nonce := [], mono := 0, tick := 0 }, by decide⟩,
    ⟨cmdOf 0xC03 [2], ready.modSec (fun k => { k with challenge := some { src := .pf0, level := 1, nonce := [], mono := 0, tick := 0 } }),
      { src := .pf0, level := 1, nonce := [], mono := 0, tick := 0 }, by decide⟩,
    ⟨cmdOf 0xC04 [], ready.modSec fun k => { k with level := 1 }, by decide⟩,
    ⟨cmdOf 0xC04 [], ready, by decide⟩,
    ⟨cmdOf 0xC04 [], ready.modSec fun k => { k with level := 2 }, by decide⟩⟩

/-- States and operands that meet the premises of SecurityEvents, clause by clause. -/
theorem witness_SecurityEvents :
    (∃ (s : State) (z : Zeroizing), Live s ∧ s.sec.zero = some z ∧ (∀ d ∈ z.woken, (s.domain d).state = 0) ∧ (s.fault 3 0).forced.testBit 12 = false
        ∧ z.cause = 0 ∧ z.tampered = false ∧ z.removal = false)
    ∧ (∃ (s : State) (z : Zeroizing), Live s ∧ s.sec.zero = some z ∧ (∀ d ∈ z.woken, (s.domain d).state = 0) ∧ (s.fault 3 0).forced.testBit 12 = false
        ∧ z.cause = 0 ∧ (z.tampered = true ∨ z.removal = true))
    ∧ (∃ (s : State) (z : Zeroizing), Live s ∧ s.sec.zero = some z ∧ (∀ d ∈ z.woken, (s.domain d).state = 0) ∧ (s.fault 3 0).forced.testBit 12 = false
        ∧ z.cause = 3)
    ∧ (∃ (s : State) (z : Zeroizing), Live s ∧ s.sec.zero = some z ∧ (∀ d ∈ z.woken, (s.domain d).state = 0) ∧ (s.fault 3 0).forced.testBit 12 = false
        ∧ z.cause ≠ 0 ∧ z.cause ≠ 3)
    ∧ (∃ (s : State) (z : Zeroizing), Live s ∧ s.sec.zero = some z ∧ (∀ d ∈ z.woken, (s.domain d).state = 0) ∧ (s.fault 3 0).forced.testBit 12 = true
        ∧ z.cause ≠ 3)
    ∧ (∃ (s : State) (z : Zeroizing) (d : Nat), Live s ∧ s.sec.zero = some z ∧ d ∈ z.woken ∧ (s.domain d).state ≠ 0)
    ∧ (∃ (s : State) (ch : Challenge), Live s ∧ s.sec.challenge = some ch ∧ ch.tick + 60 * secTicks ≤ s.mast.tick)
    ∧ (∃ (s : State) (ch : Challenge), Live s ∧ s.sec.challenge = some ch ∧ s.mast.tick < ch.tick + 60 * secTicks)
    ∧ (∃ (s : State) (b : Nat), b < 5 ∧ Live s ∧ s.power.mainPower = true ∧ b ≠ 1 ∧ s.sec.zero = none)
    ∧ (∃ (s : State) (b : Nat) (z : Zeroizing), b < 5 ∧ Live s ∧ s.power.mainPower = true ∧ b ≠ 1 ∧ s.sec.zero = some z)
    ∧ (∃ (s : State) (b : Nat), b < 5 ∧ Live s ∧ s.power.mainPower = true ∧ b = 1)
    ∧ (∃ (s : State) (b : Nat), b < 5 ∧ s.power.mainPower = false ∧ TimeStands s) :=
  ⟨⟨ready.modSec fun k => { k with zero := some { cause := 0, level := 1 } }, { cause := 0, level := 1 }, by decide⟩,
    ⟨ready.modSec fun k => { k with zero := some { cause := 0, level := 1, tampered := true } }, { cause := 0, level := 1, tampered := true },
      by decide⟩,
    ⟨ready.modSec fun k => { k with zero := some { cause := 3 } }, { cause := 3 }, by decide⟩,
    ⟨ready.modSec fun k => { k with zero := some { cause := 1 } }, { cause := 1 }, by decide⟩,
    ⟨(ready.setFault 3 0 { forced := 4096 }).modSec fun k => { k with zero := some { cause := 2 } }, { cause := 2 }, by decide⟩,
    ⟨(ready.setDomain 37 { state := 4 }).modSec fun k => { k with zero := some { cause := 1, woken := [37] } }, { cause := 1, woken := [37] }, 37,
      by decide⟩,
    ⟨(at_ 48000000000).modSec fun k => { k with challenge := some { src := .pf0, level := 1, nonce := [], mono := 0, tick := 0 } },
      { src := .pf0, level := 1, nonce := [], mono := 0, tick := 0 }, by decide⟩,
    ⟨(at_ 47999999999).modSec fun k => { k with challenge := some { src := .pf0, level := 1, nonce := [], mono := 0, tick := 0 } },
      { src := .pf0, level := 1, nonce := [], mono := 0, tick := 0 }, by decide⟩,
    ⟨ready, 4, by decide⟩,
    ⟨ready.modSec (fun k => { k with zero := some { cause := 1 } }), 4, { cause := 1 }, by decide⟩,
    ⟨ready, 1, by decide⟩,
    ⟨{ power := { mainPower := false } }, 4, by decide⟩⟩

/-- States and operands that meet the premises of Presence, clause by clause. -/
theorem witness_Presence :
    (∃ (s : State), TimeStands s ∧ s.power.earlyN = false)
    ∧ (∃ (s : State) (a : Nat), TimeStands s ∧ s.power.earlyN = true ∧ s.power.earlySince = some a ∧ s.mast.tick < a + 2 * usTicks
        ∧ s.power.removing = none ∧ s.power.removed = false)
    ∧ (∃ (s : State), TimeStands s ∧ s.power.earlyN = true
        ∧ (s.power.removing ≠ none ∨ s.power.removed = true ∨ s.power.earlySince = none ∨ ∃ a, s.power.earlySince = some a
        ∧ a + 2 * usTicks ≤ s.mast.tick))
    ∧ (∃ (s : State) (a : Nat), Live s ∧ s.power.earlySince = some a ∧ a + 2 * usTicks ≤ s.mast.tick ∧ s.power.removing = none)
    ∧ (∃ (s : State) (a : Nat), Live s ∧ s.power.earlySince = some a ∧ s.mast.tick < a + 2 * usTicks)
    ∧ (∃ (s : State) (d : Nat), Live s ∧ s.power.removing = some d ∧ d + 500 * usTicks ≤ s.mast.tick)
    ∧ (∃ (s : State), s.halted = false ∧ TimeStands s ∧ s.power.floating = true ∧ s.power.goodSince + 10 * msTicks ≤ s.mast.tick)
    ∧ (∃ (s : State), TimeStands s ∧ s.power.pwrGood = true) :=
  ⟨⟨withPower (fun p => { p with earlyN := false }) ready, by decide⟩,
    ⟨withPower (fun p => { p with earlyN := true, earlySince := some 0 }) (at_ 1599), 0, by decide⟩,
    ⟨withPower (fun p => { p with earlyN := true, earlySince := some 0 }) (at_ 1600), by decide, by decide, Or.inr (Or.inr (Or.inr ⟨0, by decide,
      by decide⟩))⟩,
    ⟨withPower (fun p => { p with earlyN := true, earlySince := some 0 }) (at_ 1600), 0, by decide⟩,
    ⟨withPower (fun p => { p with earlyN := true, earlySince := some 0 }) (at_ 1599), 0, by decide⟩,
    ⟨withPower (fun p => { p with removing := some 0 }) (at_ 400000), 0, by decide⟩,
    ⟨withPower (fun p => { p with floating := true }) (at_ 8000000), by decide⟩,
    ⟨ready, by decide⟩⟩

/-- States and operands that meet the premises of Resets, clause by clause. -/
theorem witness_Resets :
    (∃ (s : State), s.halted = false ∧ s.resetHeld = false)
    ∧ (∃ (s : State) (v : W), s.halted = false ∧ fld v 63 48 = 21075 ∧ s.resetHeld = false ∧ bitAt v 1 = true ∧ bitAt v 0 = false)
    ∧ (∃ (s : State) (v : W), s.halted = false ∧ fld v 63 48 = 21075 ∧ s.resetHeld = false ∧ bitAt v 1 = false ∧ bitAt v 0 = true)
    ∧ (∃ (s : State) (v : W), s.halted = false ∧ (fld v 63 48 ≠ 21075 ∨ bitAt v 1 = bitAt v 0 ∨ s.resetHeld = true))
    ∧ (∃ (s : State), s.resetHeld = true)
    ∧ (∃ (s : State), s.halted = false ∧ s.resetHeld = false ∧ s.power.deviceForce = 4)
    ∧ (∃ (s : State) (a : Nat), s.power.seatSince = some a ∧ s.power.removed = true ∧ s.power.pwrGood = true ∧ s.power.mainPower = true
        ∧ s.power.thermTripN = true ∧ a + 100 * msTicks ≤ s.mast.tick)
    ∧ (∃ (s : State), s.power.pwrGood = false) :=
  ⟨⟨ready, by decide⟩,
    ⟨ready, mk 63 48 21075 ||| 2, by decide⟩,
    ⟨ready, mk 63 48 21075 ||| 1, by decide⟩,
    ⟨ready, mk 63 48 21074 ||| 1, by decide⟩,
    ⟨withPower (fun p => { p with removed := true }) ready, by decide⟩,
    ⟨withPower (fun p => { p with deviceForce := 4 }) ready, by decide⟩,
    ⟨withPower (fun p => { p with removed := true, seatSince := some 0 }) (at_ 80000000), 0, by decide⟩,
    ⟨withPower (fun p => { p with pwrGood := false }) ready, by decide⟩⟩

/-- States and operands that meet the premises of StartUp, clause by clause. -/
theorem witness_StartUp :
    (∃ (s : State), s.halted = false ∧ TimeStands s ∧ s.boot.stage = 1 ∧ s.power.floating = false ∧ s.boot.failStage ≠ 1
        ∧ (∀ d ∈ s.sec.badMaps, d ≠ domMgmt ∧ d < 38))
    ∧ (∃ (s : State) (d : Nat), s.halted = false ∧ TimeStands s ∧ d ∈ s.sec.badMaps ∧ s.boot.stage = 1 ∧ s.power.floating = false
        ∧ s.boot.failStage ≠ 1 ∧ (d = domMgmt ∨ 38 ≤ d))
    ∧ (∃ (a : SpiImage) (s : State), s.halted = false ∧ TimeStands s ∧ s.boot.stage = 2 ∧ s.boot.bootSrc = 0
        ∧ (s.boot.warm = false ∨ s.boot.selected ≠ 4) ∧ s.imageFail 0 a = none)
    ∧ (∃ (a : SpiImage) (b : SpiImage) (s : State), s.halted = false ∧ TimeStands s ∧ s.boot.stage = 2 ∧ s.boot.bootSrc = 0
        ∧ (s.boot.warm = false ∨ s.boot.selected ≠ 4) ∧ s.imageFail 0 a ≠ none ∧ s.imageFail 0 b = none)
    ∧ (∃ (a : SpiImage) (b : SpiImage) (s : State) (f : Nat), s.halted = false ∧ TimeStands s ∧ s.boot.stage = 2 ∧ s.boot.bootSrc = 0
        ∧ (s.boot.warm = false ∨ s.boot.selected ≠ 4) ∧ s.imageFail 0 a ≠ none ∧ s.imageFail 0 b = some f)
    ∧ (∃ (a : SpiImage) (s : State), s.halted = false ∧ TimeStands s ∧ s.boot.stage = 3 ∧ s.boot.bootSrc = 0 ∧ s.imageFail 1 a = none)
    ∧ (∃ (a : SpiImage) (b : SpiImage) (s : State), s.halted = false ∧ TimeStands s ∧ s.boot.stage = 3 ∧ s.boot.bootSrc = 0 ∧ s.imageFail 1 a ≠ none
        ∧ s.imageFail 1 b = none)
    ∧ (∃ (a : SpiImage) (b : SpiImage) (s : State) (f : Nat), s.halted = false ∧ TimeStands s ∧ s.boot.stage = 3 ∧ s.boot.bootSrc = 0
        ∧ s.imageFail 1 a ≠ none ∧ s.imageFail 1 b = some f)
    ∧ (∃ (a : SpiImage) (v : W) (s : State), s.halted = false ∧ TimeStands s ∧ bitAt v 63 = true ∧ s.boot.bootSrc = 1 ∧ s.power.perstN = true
        ∧ s.boot.mboxWant < 2 ∧ s.boot.stage = s.boot.mboxWant + 2 ∧ fld v 57 56 = s.boot.mboxWant
        ∧ s.imageFail s.boot.mboxWant { bytes := List.take (fld v 31 0) a.bytes, readOk := a.readOk, verified := a.verified } = none)
    ∧ (∃ (a : SpiImage) (v : W) (s : State) (f : Nat), s.halted = false ∧ TimeStands s ∧ bitAt v 63 = true ∧ s.boot.bootSrc = 1 ∧ s.power.perstN = true
        ∧ s.boot.mboxWant < 2 ∧ s.boot.stage = s.boot.mboxWant + 2
        ∧ (if fld v 57 56 ≠ s.boot.mboxWant then some 2 else s.imageFail s.boot.mboxWant { bytes := List.take (fld v 31 0) a.bytes, readOk := a.readOk, verified := a.verified }) = some f)
    ∧ (∃ (s : State), s.halted = false ∧ TimeStands s ∧ s.boot.stage = 4)
    ∧ (∃ (ok : Bool) (vf : Bool) (s : State), s.halted = false ∧ TimeStands s ∧ s.boot.stage = 5 ∧ ok = true
        ∧ (s.profileSlot s.boot.selected).image ≠ [] ∧ profileRefusal (s.profileSlot s.boot.selected).image vf s = none)
    ∧ (∃ (ok : Bool) (vf : Bool) (s : State), s.halted = false ∧ TimeStands s ∧ s.boot.stage = 5
        ∧ (ok = false ∨ (s.profileSlot s.boot.selected).image = [] ∨ profileRefusal (s.profileSlot s.boot.selected).image vf s ≠ none))
    ∧ (∃ (a : SpiImage) (b : SpiImage) (s : State), s.halted = false ∧ TimeStands s ∧ s.boot.stage = 6
        ∧ ((pfHookEpoch s.boot.running != 0 && imEpoch a.bytes != pfHookEpoch s.boot.running) = true → imEpoch b.bytes = pfHookEpoch s.boot.running)
        ∧ (if (pfHookEpoch s.boot.running != 0 && imEpoch a.bytes != pfHookEpoch s.boot.running) = true then b else a).bytes ≠ []
        ∧ (if (pfHookEpoch s.boot.running != 0 && imEpoch a.bytes != pfHookEpoch s.boot.running) = true then b else a).readOk = true
        ∧ s.imageFault (if (pfHookEpoch s.boot.running != 0 && imEpoch a.bytes != pfHookEpoch s.boot.running) = true then b else a).bytes (if (pfHookEpoch s.boot.running != 0 && imEpoch a.bytes != pfHookEpoch s.boot.running) = true then b else a).verified = none)
    ∧ (∃ (a : SpiImage) (b : SpiImage) (s : State), s.halted = false ∧ TimeStands s ∧ s.boot.stage = 6
        ∧ ((pfHookEpoch s.boot.running != 0 && imEpoch a.bytes != pfHookEpoch s.boot.running) = true → imEpoch b.bytes = pfHookEpoch s.boot.running)
        ∧ (if (pfHookEpoch s.boot.running != 0 && imEpoch a.bytes != pfHookEpoch s.boot.running) = true then b else a).bytes = [])
    ∧ (∃ (s : State), s.halted = false ∧ TimeStands s ∧ s.boot.stage = 7)
    ∧ (∃ (s : State), s.halted = false ∧ TimeStands s ∧ s.mast.timeValid = true)
    ∧ (∃ (s : State), s.halted = false ∧ TimeStands s ∧ s.boot.stage = 8 ∧ s.mast.timeValid = false ∧ s.boot.timeWaitTick ≤ s.mast.tick)
    ∧ (∃ (s : State), s.halted = false ∧ TimeStands s ∧ s.boot.stage = 9 ∧ s.pendingCommit = none
        ∧ (s.boot.skipTime = true ∨ configuredBy s.boot.running = []))
    ∧ (∃ (s : State) (n : Nat) (l : List Nat), s.halted = false ∧ TimeStands s ∧ s.boot.stage = 9 ∧ s.pendingCommit = none ∧ s.boot.skipTime = false
        ∧ configuredBy s.boot.running = n :: l)
    ∧ (∃ (s : State), s.halted = false ∧ TimeStands s ∧ s.boot.stage = 10 ∧ s.boot.ready = false) :=
  ⟨⟨starting 1 0, by decide⟩,
    ⟨(starting 1 0).modSec fun k => { k with badMaps := [34] }, 34, by decide⟩,
    ⟨image0 0, starting 2 0, by decide +kernel⟩,
    ⟨{ image0 0 with verified := false }, image0 0, starting 2 0, by decide +kernel⟩,
    ⟨{}, { image0 0 with readOk := false }, starting 2 0, 6, by decide⟩,
    ⟨image0 1, starting 3 0, by decide +kernel⟩,
    ⟨{}, image0 1, starting 3 0, by decide +kernel⟩,
    ⟨{}, {}, starting 3 0, 7, by decide⟩,
    ⟨image0 1, mk 63 63 1 ||| mk 57 56 1 ||| 7432, withBoot (fun b => { b with bootSrc := 1, mboxWant := 1 }) (starting 3 0), by decide +kernel⟩,
    ⟨image0 1, mk 63 63 1 ||| 7432, withBoot (fun b => { b with bootSrc := 1, mboxWant := 1 }) (starting 3 0), 2, by decide⟩,
    ⟨starting 4 0, by decide⟩,
    ⟨true, true, withBoot (fun b => { b with slots := [(3, { image := profile0 })] }) (starting 5 0), by decide +kernel⟩,
    ⟨false, true, starting 5 0, by decide⟩,
    ⟨{ bytes := hook0 }, {}, starting 6 0, by decide, by decide, by decide, by decide +kernel, by decide +kernel, by decide +kernel, hook0_good⟩,
    ⟨{}, {}, starting 6 0, by decide⟩,
    ⟨starting 7 0, by decide⟩,
    ⟨withMast (fun m => { m with timeValid := true }) ready, by decide⟩,
    ⟨starting 8 0, by decide⟩,
    ⟨starting 9 0, by decide⟩,
    ⟨withBoot (fun b => { b with running := profile1 }) (starting 9 0), 7, [], by decide +kernel⟩,
    ⟨starting 10 0, by decide⟩⟩

/-- States and operands that meet the premises of ProfilesAndTack, clause by clause. -/
theorem witness_ProfilesAndTack :
    (∃ (c : Cmd) (s : State), Taken 3329 noDomain c s ∧ fld (c.p 0) 63 2 = 0
        ∧ (s.cmd.timed.all fun u => !(u.opcode == 3328 && fld (u.cmd.p 0) 1 0 == fld (c.p 0) 1 0)) = true
        ∧ profileRefusal (List.drop 1 c.params) c.verified s = none)
    ∧ (∃ (c : Cmd) (s : State), Taken 3330 noDomain c s ∧ fld (c.p 0) 63 2 = 0)
    ∧ (∃ (c : Cmd) (s : State), Held 3328 noDomain c s ∧ fld (c.p 0) 63 32 = 0 ∧ fld (c.p 0) 15 2 = 0
        ∧ fld (c.p 0) 31 16 = (s.profileSlot (fld (c.p 0) 1 0)).epoch ∧ profileRefusal (s.profileSlot (fld (c.p 0) 1 0)).image c.verified s = none
        ∧ sectionWords (s.profileSlot (fld (c.p 0) 1 0)).image 1 = sectionWords s.boot.running 1 ∧ (∀ u ∈ s.cmd.timed, u.opcode ∉ [514, 2049, 3328])
        ∧ tackTimeline c (s.profileSlot (fld (c.p 0) 1 0)).image s = none
        ∧ (∀ i ∈ (itemsOf (s.profileSlot (fld (c.p 0) 1 0)).image 7).getD [], skeinDiffers i s = false)
        ∧ (stageSkeins ((itemsOf (s.profileSlot (fld (c.p 0) 1 0)).image 7).getD []) (withTimelines (s.profileSlot (fld (c.p 0) 1 0)).image s)).isOk = true)
    ∧ (∃ (s : State) (u : TimedCmd), Live s ∧ List.find? (fun u => u.opcode == 3328 && s.timedDue u && s.turn u) s.cmd.timed = some u ∧ u.own = false)
    ∧ (∃ (s : State) (order : Nat) (u : TimedCmd) (m : OpMeaning) (res : List W) (w : State), Live s
        ∧ List.find? (fun u => u.order == order && s.timedDue u && s.turn u && !([514, 2049, 3328] : List Nat).contains u.opcode) s.cmd.timed = some u
        ∧ meaningOf u.opcode = some m ∧ u.own = false ∧ m.2 u.cmd { s with cmd := { s.cmd with timed := s.cmd.timed.erase u } } = CmdResult.done res w)
    ∧ (∃ (s : State) (order : Nat) (u : TimedCmd) (m : OpMeaning) (st : Status) (d : Nat), Live s
        ∧ List.find? (fun u => u.order == order && s.timedDue u && s.turn u && !([514, 2049, 3328] : List Nat).contains u.opcode) s.cmd.timed = some u
        ∧ meaningOf u.opcode = some m ∧ u.own = false ∧ m.2 u.cmd { s with cmd := { s.cmd with timed := s.cmd.timed.erase u } } = CmdResult.refuse st d)
    ∧ (∃ (s : State) (order : Nat) (u : TimedCmd) (m : OpMeaning), Live s
        ∧ List.find? (fun u => u.order == order && s.timedDue u && s.turn u && !([514, 2049, 3328] : List Nat).contains u.opcode) s.cmd.timed = some u
        ∧ meaningOf u.opcode = some m ∧ u.own = false ∧ u.opcode = 2816 ∧ (u.cmd.n 0 < 8 ∨ u.cmd.n 0 = 255) ∧ u.cmd.n 1 < 2 ^ 32) :=
  ⟨⟨cmdOf 0xD01 (3 :: profile0), ready, by decide +kernel⟩,
    ⟨cmdOf 0xD02 [3], ready, by decide⟩,
    ⟨timedOf 0xD00 [mk 31 16 65535 ||| 3], withBoot (fun b => { b with slots := [(3, { image := profile0, epoch := 65535 })] }) (active0 ready),
      by decide +kernel⟩,
    ⟨holding [tack0] ready, tack0, by decide⟩,
    ⟨holding [queue0 0] ready, 0, queue0 0, _, _, _, by decide, by decide, rfl, by decide, rfl⟩,
    ⟨holding [queue0 16] ready, 0, queue0 16, _, _, _, by decide, by decide, rfl, by decide, rfl⟩,
    ⟨holding [tol0] ready, 0, tol0, _, by decide, by decide, rfl, by decide, by decide, by decide, by decide⟩⟩

/-- States and operands that meet the premises of Faults, clause by clause. -/
theorem witness_Faults :
    (∃ (c : Cmd) (b : Nat) (n : Nat) (s : State), srcOk b n = true ∧ Taken 3584 noDomain c s ∧ fcBlock c = b ∧ fcInst c = n
        ∧ bitAt (c.p 0) 63 = false)
    ∧ (∃ (c : Cmd) (b : Nat) (n : Nat) (s : State), srcOk b n = true ∧ Taken 3584 noDomain c s ∧ fcBlock c = b ∧ fcInst c = n ∧ bitAt (c.p 0) 63 = true)
    ∧ (∃ (c : Cmd) (b : Nat) (n : Nat) (s : State), srcOk b n = true ∧ Taken 3585 noDomain c s ∧ fcBlock c = b ∧ fcInst c = n
        ∧ (s.fault b n).valid = true ∧ fld (c.p 0) 15 0 = (s.fault b n).seq)
    ∧ (∃ (b : Nat) (n : Nat) (s : State), srcOk b n = true ∧ Live s)
    ∧ (∃ (c : Cmd) (b : Nat) (n : Nat) (s : State), srcOk b n = true ∧ Taken 3586 faultDomain c s ∧ fcBlock c = b ∧ fcInst c = n
        ∧ s.forceAllowed false = true ∧ (detects b n).testBit (fld (c.p 0) 3 0) = true
        ∧ (4 ≤ fld (c.p 0) 3 0 ∨ ((memsOf b n).any fun m => m.1 == fld (c.p 0) 15 8 && (m.2.2 || fld (c.p 0) 3 0 % 2 == 0)) = true)
        ∧ (fld (c.p 0) 3 0 < 4 ∨ fld (c.p 0) 3 0 = 12 ∨ b = 7 ∧ n ≠ 0 ∨ b = 8 ∧ fld (c.p 0) 3 0 ≠ 13 ∨ b = 13 ∧ 16 ≤ n ∧ fld (c.p 0) 3 0 ≠ 13))
    ∧ (∃ (c : Cmd) (b : Nat) (n : Nat) (s : State), srcOk b n = true ∧ Taken 3586 faultDomain c s ∧ fcBlock c = b ∧ fcInst c = n
        ∧ s.forceAllowed false = true ∧ (detects b n).testBit (fld (c.p 0) 3 0) = true
        ∧ (4 ≤ fld (c.p 0) 3 0 ∨ ((memsOf b n).any fun m => m.1 == fld (c.p 0) 15 8 && (m.2.2 || fld (c.p 0) 3 0 % 2 == 0)) = true)
        ∧ ¬(fld (c.p 0) 3 0 < 4 ∨ fld (c.p 0) 3 0 = 12 ∨ b = 7 ∧ n ≠ 0 ∨ b = 8 ∧ fld (c.p 0) 3 0 ≠ 13 ∨ b = 13 ∧ 16 ≤ n ∧ fld (c.p 0) 3 0 ≠ 13))
    ∧ (∃ (b : Nat) (n : Nat) (s : State) (path : Path), srcOk b n = true ∧ Live s ∧ path ≠ Path.poisoned ∧ s.forceAllowed (path == Path.tap) = true)
    ∧ (∃ (c : Cmd) (b : Nat) (n : Nat) (s : State), srcOk b n = true ∧ Taken 3587 faultDomain c s ∧ fcBlock c = b ∧ fcInst c = n
        ∧ s.forceAllowed false = true ∧ ((memsOf b n).any fun m => m.1 == fld (c.p 0) 15 8) = true ∧ c.n 2 < 65536)
    ∧ (∃ (b : Nat) (n : Nat) (s : State) (path : Path), srcOk b n = true ∧ Live s ∧ path ≠ Path.poisoned ∧ s.forceAllowed (path == Path.tap) = true
        ∧ ((memsOf b n).any fun m => m.1 == s.rgf RegId.flipSel [b, n] 7 0) = true)
    ∧ (∃ (b : Nat) (n : Nat) (s : State) (path : Path), srcOk b n = true ∧ Live s ∧ path ≠ Path.poisoned ∧ s.forceAllowed (path == Path.tap) = false)
    ∧ (∃ (b : Nat) (n : Nat) (s : State) (mem : Nat) (m : Nat × Nat × Bool), srcOk b n = true ∧ Live s ∧ Clean s
        ∧ List.find? (fun m => m.1 == mem && m.2.2) (memsOf b n) = some m ∧ (s.domain (srcDomain b n)).state ≤ 1)
    ∧ (∃ (b : Nat) (n : Nat) (s : State) (q : Nat) (k : Nat) (a : Nat), srcOk b n = true ∧ Live s ∧ q < 4 ∧ k < 2 ∧ a < 16384
        ∧ tget 0 s.flt.ecc (eccKey 8 q k a) ≠ 0 ∧ tget 0 (s.fault 8 q).flips k = 0) :=
  ⟨⟨cmdOf 0xE00 [mk 31 24 14 ||| mk 23 16 15], 14, 15, ready, by decide⟩,
    ⟨cmdOf 0xE00 [mk 63 63 1 ||| mk 31 24 14 ||| mk 23 16 15], 14, 15, ready, by decide⟩,
    ⟨cmdOf 0xE01 [mk 31 24 14 ||| mk 23 16 15 ||| 65535], 14, 15, ready.setFault 14 15 { valid := true, seq := 65535 }, by decide⟩,
    ⟨14, 15, ready, by decide⟩,
    ⟨cmdOf 0xE02 [mk 31 24 12 ||| mk 23 16 15 ||| mk 15 8 10 ||| 3], 12, 15, ready.modSec fun k => { k with lifecycle := 3, level := 2 }, by decide⟩,
    ⟨cmdOf 0xE02 [mk 31 24 12 ||| mk 23 16 15 ||| 13], 12, 15, ready.modSec fun k => { k with lifecycle := 2, level := 1 }, by decide⟩,
    ⟨14, 15, ready.modSec (fun k => { k with level := 2 }), .tap, by decide⟩,
    ⟨cmdOf 0xE03 [mk 31 24 14 ||| mk 23 16 15 ||| mk 15 8 1, 0, 65535], 14, 15, ready.modSec fun k => { k with lifecycle := 2, level := 1 },
      by decide⟩,
    ⟨14, 15, ready.modSec (fun k => { k with level := 2 }), .tap, by decide⟩,
    ⟨14, 15, ready.modSec (fun k => { k with lifecycle := 3, level := 1 }), .bar2, by decide⟩,
    ⟨12, 15, ready, 10, (10, 36864, true), by decide⟩,
    ⟨8, 3, { ready with flt := { ecc := [(eccKey 8 3 1 16383, 1)] } }, 3, 1, 16383, by decide⟩⟩

/-- A state and operands that meet the premises of StepRunsFront. -/
theorem witness_StepRunsFront :
    ∃ (s : State), s.pending = [] :=
  ⟨ready, by decide⟩

/-- A state and operands that meet the premises of StepKeepsTimeLegal. -/
theorem witness_StepKeepsTimeLegal :
    ∃ (s : State) (t : State), TimeLegal s ∧ step s = Host.Outcome.next t :=
  ⟨ready, ready, ⟨by decide, by decide, by decide⟩, rfl⟩

/-- A state and operands that meet the premises of OnlyTheClockMovesTime. -/
theorem witness_OnlyTheClockMovesTime :
    ∃ (c : Instr) (s : State) (t : State), exec c s = Host.Outcome.next t ∧ t.mast.running = true
        ∧ match c with | .mastTick _ => False | .replicaCheck => False | .stepApply => False | .mastSetTime _ => False | .packetIngress _ _ => False | .ringFetchDone _ _ => False | .domainExitDone _ => False | i => ∀ (d : Cmd), cmdOfInstr i = some d → s.ahead d = [] :=
  ⟨.nop (cmdOf 0 []), ready, _, rfl, rfl, fun d h => by cases h; decide⟩

/-- A state and operands that meet the premises of HaltedPartStands. -/
theorem witness_HaltedPartStands :
    ∃ (c : Instr) (s : State), s.halted = true
        ∧ match c with | .earlyPresentRise => False | .earlyPresentFall => False | .powerDown => False | .perstNDeassert => False | .tamper _ => False | .mastTick _ => False | .powerOnReset => False | .reinsertReset => False | .mainPowerLoss => False | _ => True :=
  ⟨.nop (cmdOf 0 []), withPower (fun p => { p with removed := true }) ready, by decide⟩

/-- A state and operands that meet the premises of ResetState. -/
theorem witness_ResetState :
    ∃ (b : Nat), b < 15 :=
  ⟨14, by decide⟩

/-- A state and operands that meet the premises of HeaderChecks. -/
theorem witness_HeaderChecks :
    ∃ (r : CmdRow) (c : Cmd) (s : State), r ∈ cmdRows ∧ IntakeOpen c s :=
  ⟨⟨0x0E03, .flipMaskSet, faultDomain, flipMaskSetBody⟩, cmdOf 0 [], ready, by simp [cmdRows, cmdRowsA, cmdRowsB, cmdRowsC, cmdRowsD], by decide⟩

/-- States and operands that meet the premises of IntakeRules, clause by clause. -/
theorem witness_IntakeRules :
    (∃ (r : CmdRow) (c : Cmd) (s : State), r ∈ cmdRows ∧ Live s ∧ c ∉ s.cmd.early ∧ s.ahead c = [] ∧ s.boot.stage < 4)
    ∧ (∃ (r : CmdRow) (c : Cmd) (s : State), r ∈ cmdRows ∧ Live s ∧ c ∉ s.cmd.early ∧ s.ahead c = [] ∧ 4 ≤ s.boot.stage ∧ (s.domain domMgmt).state ≠ 0
        ∧ (s.domain domMgmt).force = 0 ∧ c.src ≠ Source.sideband)
    ∧ (∃ (r : CmdRow) (c : Cmd) (s : State), r ∈ cmdRows ∧ Live s ∧ c ∉ s.cmd.early ∧ s.ahead c = [] ∧ 4 ≤ s.boot.stage ∧ (s.domain domMgmt).state = 0
        ∧ maxOutstanding c.src ≤ s.outstanding c.src ∧ c.src ≠ Source.sideband)
    ∧ (∃ (r : CmdRow) (c : Cmd) (s : State) (w : WaitingCmd), r ∈ cmdRows ∧ Live s ∧ c ∉ s.cmd.early ∧ s.ahead c = [] ∧ 4 ≤ s.boot.stage
        ∧ (s.domain domMgmt).state = 0 ∧ s.outstanding c.src < maxOutstanding c.src ∧ s.queuesBehind c = some w)
    ∧ (∃ (r : CmdRow) (c : Cmd) (s : State), r ∈ cmdRows ∧ Live s ∧ c ∉ s.cmd.early ∧ s.ahead c = [] ∧ IntakeOpen c s ∧ headerCheck r.code c s = none
        ∧ s.boot.ready = false ∧ r.code ∉ [0, 1, 2, 6, 7, 3584, 3585, 3330])
    ∧ (∃ (r : CmdRow) (c : Cmd) (s : State) (d : Nat), r ∈ cmdRows ∧ Live s ∧ c ∉ s.cmd.early ∧ s.ahead c = [] ∧ IntakeOpen c s
        ∧ headerCheck r.code c s = none ∧ (s.boot.ready = true ∨ r.code ∈ [0, 1, 2, 6, 7, 3584, 3585, 3330]) ∧ r.domain c s = some d
        ∧ s.mustLeave d = true ∧ (s.domain d).force ≠ 0)
    ∧ (∃ (r : CmdRow) (c : Cmd) (s : State) (d : Nat), r ∈ cmdRows ∧ Live s ∧ c ∉ s.cmd.early ∧ s.ahead c = [] ∧ IntakeOpen c s
        ∧ headerCheck r.code c s = none ∧ (s.boot.ready = true ∨ r.code ∈ [0, 1, 2, 6, 7, 3584, 3585, 3330]) ∧ r.domain c s = some d
        ∧ s.mustLeave d = true ∧ (s.domain d).force = 0)
    ∧ (∃ (r : CmdRow) (c : Cmd) (s : State) (w : Source), r ∈ cmdRows ∧ Live s ∧ c ∉ s.cmd.early ∧ s.ahead c = [] ∧ IntakeOpen c s
        ∧ headerCheck r.code c s = none ∧ (s.boot.ready = true ∨ r.code ∈ [0, 1, 2, 6, 7, 3584, 3585, 3330])
        ∧ Option.all (fun d => !s.mustLeave d) (r.domain c s) = true ∧ c.timed = false ∧ intakeWinner c s = some w)
    ∧ (∃ (r : CmdRow) (c : Cmd) (s : State) (w : Source), r ∈ cmdRows ∧ Live s ∧ c ∉ s.cmd.early ∧ s.ahead c = [] ∧ IntakeOpen c s
        ∧ headerCheck r.code c s = none ∧ (s.boot.ready = true ∨ r.code ∈ [0, 1, 2, 6, 7, 3584, 3585, 3330])
        ∧ Option.all (fun d => !s.mustLeave d) (r.domain c s) = true ∧ c.timed = false ∧ intakeWinner c s = none ∧ queuedWinner c s.pending = some w)
    ∧ (∃ (r : CmdRow) (c : Cmd) (s : State) (st : Status) (d : Nat), r ∈ cmdRows ∧ Live s ∧ c ∉ s.cmd.early ∧ s.ahead c = [] ∧ IntakeOpen c s
        ∧ headerCheck r.code c s = none ∧ (s.boot.ready = true ∨ r.code ∈ [0, 1, 2, 6, 7, 3584, 3585, 3330])
        ∧ Option.all (fun d => !s.mustLeave d) (r.domain c s) = true ∧ c.timed = false ∧ intakeWinner c s = none ∧ queuedWinner c s.pending = none
        ∧ r.body c (noteIntake c s) = CmdResult.refuse st d)
    ∧ (∃ (r : CmdRow) (c : Cmd) (s : State) (st : Status) (d : Nat) (u : State), r ∈ cmdRows ∧ Live s ∧ c ∉ s.cmd.early ∧ s.ahead c = []
        ∧ IntakeOpen c s ∧ headerCheck r.code c s = none ∧ (s.boot.ready = true ∨ r.code ∈ [0, 1, 2, 6, 7, 3584, 3585, 3330])
        ∧ Option.all (fun d => !s.mustLeave d) (r.domain c s) = true ∧ c.timed = false ∧ intakeWinner c s = none ∧ queuedWinner c s.pending = none
        ∧ r.body c (noteIntake c s) = CmdResult.failed st d u) :=
  ⟨⟨lastRow, cmdOf 0 [], withBoot (fun b => { b with stage := 3 }) ready, lastRow_mem, by decide⟩,
    ⟨lastRow, cmdOf 0 [], ready.setDomain 34 { state := 1 }, lastRow_mem, by decide⟩,
    ⟨queueRow, cmdOf 0x600 [0, 0], withCmd (fun k => { k with opened := List.replicate 16 { cmd := cmdOf 0 [], kind := 0, key := 0 } }) ready,
      queueRow_mem, by decide⟩,
    ⟨queueRow, cmdOf 0x600 [0, 0], withCmd (fun k => { k with waiting := [{ cmd := cmdOf 0 [], opcode := 0, domain := 15 }] }) ready,
      { cmd := cmdOf 0 [], opcode := 0, domain := 15 }, queueRow_mem, by decide⟩,
    ⟨queueRow, cmdOf 0x600 [0, 0], withBoot (fun b => { b with stage := 4, ready := false }) ready, queueRow_mem, by decide⟩,
    ⟨queueRow, cmdOf 0x600 [8191, 0], ready.setDomain 15 { state := 2, force := 3 }, 15, queueRow_mem, by decide⟩,
    ⟨queueRow, cmdOf 0x600 [8191, 0], ready.setDomain 15 { state := 2 }, 15, queueRow_mem, by decide⟩,
    ⟨queueRow, cmdOf 0x600 [8191, 0],
      withCmd (fun k => { k with intakeClock := 7, intake := [{ src := .sideband, keys := [{ kind := 18, obj := 8191 }] }] }) ready, .sideband,
      queueRow_mem, by decide⟩,
    ⟨queueRow, relayed 1, { ready.setRg .sourceAllow [] (0 - 1) with pending := [.bufQueueConfig (relayed 0)] }, .dravua 0, queueRow_mem, by decide⟩,
    ⟨queueRow, cmdOf 0x600 [8191, 16], ready, .paramInvalid, 1, queueRow_mem, by decide, by decide, by decide, by decide, by decide, by decide,
      by decide, by decide, by decide, by decide, rfl⟩,
    ⟨openRow, cmdOf 0xC03 [2], ready.modSec fun k => { k with lifecycle := 2 }, .notPermitted, 0, _, openRow_mem, by decide, by decide, by decide,
      by decide, by decide, by decide, by decide, by decide, by decide, by decide, rfl⟩⟩

/-- States and operands that meet the premises of TimedCommands, clause by clause. -/
theorem witness_TimedCommands :
    (∃ (r : CmdRow) (c : Cmd) (s : State), r ∈ cmdRows ∧ r.code ≠ 3328 ∧ Held r.code r.domain c s
        ∧ (∀ (st : Status) (d : Nat), r.body c (s.without c) ≠ CmdResult.refuse st d)
        ∧ (∀ (st : Status) (d : Nat) (u : State), r.body c (s.without c) ≠ CmdResult.failed st d u))
    ∧ (∃ (r : CmdRow) (c : Cmd) (s : State) (st : Status) (d : Nat), r ∈ cmdRows ∧ r.code ≠ 3328 ∧ Held r.code r.domain c s
        ∧ r.body c (s.without c) = CmdResult.refuse st d)
    ∧ (∃ (r : CmdRow) (c : Cmd) (s : State) (st : Status) (d : Nat) (u : State), r ∈ cmdRows ∧ r.code ≠ 3328 ∧ Held r.code r.domain c s
        ∧ r.body c (s.without c) = CmdResult.failed st d u) :=
  ⟨⟨queueRow, timedOf 0x600 [8191, 0], active0 ready, queueRow_mem, by decide, by decide, fun st d => by show CmdResult.done _ _ ≠ _; nofun,
    fun st d u => by show CmdResult.done _ _ ≠ _; nofun⟩,
    ⟨queueRow, timedOf 0x600 [8191, 16], active0 ready, _, _, queueRow_mem, by decide, by decide, rfl⟩,
    ⟨commitRow, timedOf 0x202 [0], badBank, .internalError, 5, _, commitRow_mem, by decide, by decide, rfl⟩⟩

/-- States and operands that meet the premises of NegotiateVersion, clause by clause. -/
theorem witness_NegotiateVersion :
    (∃ (c : Cmd), c.src ≠ Source.sideband ∧ fld c.w0 45 32 = 0)
    ∧ (∃ (c : Cmd) (s : State) (v : Nat), Taken 1 noDomain c s ∧ c.opcode = 1 ∧ s.outstanding c.src = 0 ∧ 1 ≤ v ∧ v ≤ 3
        ∧ (fld (c.p 0) 3 1).testBit (v - 1) = true ∧ (∀ (u : Nat), v < u → u ≤ 3 → ¬(fld (c.p 0) 3 1).testBit (u - 1) = true))
    ∧ (∃ (c : Cmd) (s : State), Taken 1 noDomain c s ∧ c.opcode = 1 ∧ s.outstanding c.src = 0
        ∧ (∀ (v : Nat), 1 ≤ v → v ≤ 3 → ¬(fld (c.p 0) 3 1).testBit (v - 1) = true))
    ∧ (∃ (c : Cmd) (s : State), Taken 1 noDomain c s ∧ s.outstanding c.src ≠ 0) :=
  ⟨⟨cmdOf 1 [8], by decide⟩,
    ⟨cmdOf 1 [8], ready, 3, by decide, by decide, by decide, by decide, by decide, by decide, fun u a b => by omega⟩,
    ⟨cmdOf 1 [1], ready, by decide⟩,
    ⟨cmdOf 1 [8], withCmd (fun k => { k with opened := [{ cmd := cmdOf 0 [], kind := 0, key := 0 }] }) ready, by decide⟩⟩

/-- States and operands that meet the premises of DebugLevel, clause by clause. -/
theorem witness_DebugLevel :
    (∃ (c : Cmd) (s : State) (i : Instr), i ∈ [Instr.debugChallenge c, Instr.debugPart c, Instr.debugOpen c] ∧ Taken 3075 noDomain c s
        ∧ s.sec.zero.isSome = true)
    ∧ (∃ (c : Cmd) (s : State), Taken 3074 noDomain c s ∧ s.sec.zero.isSome = true)
    ∧ (∃ (c : Cmd) (s : State) (ch : Challenge), Taken 3075 noDomain c s ∧ s.sec.zero = none ∧ s.sec.challenge = some ch ∧ ch.src = c.src
        ∧ fld (c.p 0) 1 0 = 2 ∧ ch.level ≤ s.sec.level)
    ∧ (∃ (c : Cmd) (s : State) (i : Instr) (t : State) (z : Zeroizing), i ∈ [Instr.debugChallenge c, Instr.debugPart c, Instr.debugOpen c]
        ∧ exec i s = Host.Outcome.next t ∧ t.mast.running = true ∧ s.ahead c = [] ∧ s.sec.zero = none ∧ t.sec.zero = some z) :=
  ⟨⟨cmdOf 0xC03 [2], ready.modSec fun k => { k with zero := some { cause := 1 } }, .debugOpen (cmdOf 0xC03 [2]), by decide⟩,
    ⟨cmdOf 0xC02 [], ready.modSec fun k => { k with zero := some { cause := 1 } }, by decide⟩,
    ⟨cmdOf 0xC03 [2], ready.modSec fun k => { k with level := 1, challenge := some { src := .pf0, level := 1, nonce := [], mono := 0, tick := 0 } },
      { src := .pf0, level := 1, nonce := [], mono := 0, tick := 0 }, by decide⟩,
    ⟨cmdOf 0xC03 [2], ready.modSec (fun k => { k with challenge := some { src := .pf0, level := 1, nonce := [], mono := 0, tick := 0 } }),
      .debugOpen (cmdOf 0xC03 [2]),
  after (.debugOpen (cmdOf 0xC03 [2])) (ready.modSec (fun k => { k with challenge := some { src := .pf0, level := 1, nonce := [], mono := 0, tick := 0 } })), { cause := 0, level := 1 }, by decide, rfl, by decide⟩⟩

/-- States and operands that meet the premises of TimeFormat, clause by clause. -/
theorem witness_TimeFormat :
    (∃ (t : MTime) (d : Int), t.legal = true ∧ 0 ≤ d ∧ d < 10 ^ 9 * 65536 * 2 ^ 32 ∧ t.sec + 1 < 2 ^ 48)
    ∧ (∃ (s : State), Live s ∧ s.awake domMast = true) :=
  ⟨⟨{ sec := 2 ^ 48 - 2, ns := 999999999, frac := 65535, sub := 4294967295 }, 10 ^ 9 * 65536 * 2 ^ 32 - 1, by decide⟩,
    ⟨ready, by decide⟩⟩

/-- States and operands that meet the premises of EccDecode, clause by clause. -/
theorem witness_EccDecode :
    (∃ (w : Nat) (syn : Nat), (w = 64 ∨ w = 72) ∧ syn < 256 ∧ syn = 0)
    ∧ (∃ (w : Nat) (syn : Nat) (j : Nat), (w = 64 ∨ w = 72) ∧ syn < 256 ∧ j < w ∧ syn = eccColumns.getD j 0)
    ∧ (∃ (w : Nat) (syn : Nat) (i : Nat), (w = 64 ∨ w = 72) ∧ syn < 256 ∧ i < 8 ∧ syn = 2 ^ i)
    ∧ (∃ (w : Nat) (syn : Nat), (w = 64 ∨ w = 72) ∧ syn < 256 ∧ syn ≠ 0 ∧ (∀ j < w, syn ≠ eccColumns.getD j 0) ∧ (∀ i < 8, syn ≠ 2 ^ i))
    ∧ (∃ (w : Nat) (j : Nat) (i : Nat), (w = 64 ∨ w = 72) ∧ j < w + 8 ∧ i < j)
    ∧ (∃ (b : Nat) (n : Nat) (mem : Nat) (addr : Nat) (s : State) (j : Nat), (s.fault b n).forced = 0 ∧ j < eccWidth b n mem
        ∧ tget 0 s.flt.ecc (eccKey b n mem addr) = 2 ^ j)
    ∧ (∃ (b : Nat) (n : Nat) (mem : Nat) (addr : Nat) (s : State) (i : Nat), (s.fault b n).forced = 0 ∧ i < 8
        ∧ tget 0 s.flt.ecc (eccKey b n mem addr) = 2 ^ (eccWidth b n mem + i))
    ∧ (∃ (b : Nat) (n : Nat) (mem : Nat) (addr : Nat) (s : State), (s.fault b n).forced = 0 ∧ tget 0 s.flt.ecc (eccKey b n mem addr) = 0)
    ∧ (∃ (b : Nat) (n : Nat) (mem : Nat) (addr : Nat) (s : State), (s.fault b n).forced = 0 ∧ tget 0 s.flt.ecc (eccKey b n mem addr) ≠ 0
        ∧ eccDecode (eccWidth b n mem) (eccSyndrome (eccWidth b n mem) (tget 0 s.flt.ecc (eccKey b n mem addr))) = EccOutcome.uncorrectable) :=
  ⟨⟨72, 0, by decide⟩,
    ⟨72, eccColumns.getD 71 0, 71, by decide⟩,
    ⟨64, 128, 7, by decide⟩,
    ⟨64, 255, by decide⟩,
    ⟨72, 79, 78, by decide⟩,
    ⟨0, 0, 0, 0, { ready with flt := { ecc := [(0, 2 ^ 63)] } }, 63, by decide⟩,
    ⟨0, 0, 0, 0, { ready with flt := { ecc := [(0, 2 ^ 71)] } }, 7, by decide⟩,
    ⟨0, 0, 0, 0, ready, by decide⟩,
    ⟨0, 0, 0, 0, { ready with flt := { ecc := [(0, 3)] } }, by decide⟩⟩

/-- States and operands that meet the premises of FaultCounting, clause by clause. -/
theorem witness_FaultCounting :
    (∃ (f : FaultInfo), srcOk f.block f.inst = true ∧ f.cls < 16)
    ∧ (∃ (f : FaultInfo) (b : Nat) (n : Nat) (k : Nat), srcOk f.block f.inst = true ∧ f.cls < 16 ∧ srcOk b n = true ∧ k < 16 ∧ ¬(b = f.block
        ∧ n = f.inst ∧ k = f.cls)) :=
  ⟨⟨{ block := 14, inst := 15, cls := 15 }, by decide⟩,
    ⟨{ block := 14, inst := 15, cls := 15 }, 14, 15, 14, by decide⟩⟩

/-- States and operands that meet the premises of FaultRecords, clause by clause. -/
theorem witness_FaultRecords :
    (∃ (f : FaultInfo) (s : State), srcOk f.block f.inst = true ∧ f.cls < 16 ∧ bitAt (s.rg RegId.faultCtl [f.block, f.inst]) f.cls = true
        ∧ (s.fault f.block f.inst).valid = true)
    ∧ (∃ (f : FaultInfo) (s : State) (k : Nat), srcOk f.block f.inst = true ∧ f.cls < 16 ∧ bitAt (s.rg RegId.faultCtl [f.block, f.inst]) f.cls = true
        ∧ (s.fault f.block f.inst).valid = true ∧ k ≠ 64 * f.block + f.inst)
    ∧ (∃ (f : FaultInfo) (s : State), srcOk f.block f.inst = true ∧ f.cls < 16 ∧ bitAt (s.rg RegId.faultCtl [f.block, f.inst]) f.cls = true
        ∧ (s.fault f.block f.inst).valid = false ∧ f.block ≠ 0)
    ∧ (∃ (f : FaultInfo) (s : State) (k : Nat), srcOk f.block f.inst = true ∧ f.cls < 16 ∧ bitAt (s.rg RegId.faultCtl [f.block, f.inst]) f.cls = true
        ∧ (s.fault f.block f.inst).valid = false ∧ f.block ≠ 0 ∧ k ≠ 64 * f.block + f.inst)
    ∧ (∃ (f : FaultInfo) (s : State), srcOk f.block f.inst = true ∧ f.cls < 16 ∧ ¬bitAt (s.rg RegId.faultCtl [f.block, f.inst]) f.cls = true) :=
  ⟨⟨{ block := 14, inst := 15, cls := 15 }, (ready.setFault 14 15 { valid := true }).setRg .faultCtl [14, 15] 0x8000, by decide⟩,
    ⟨{ block := 14, inst := 15, cls := 15 }, (ready.setFault 14 15 { valid := true }).setRg .faultCtl [14, 15] 0x8000, 0, by decide⟩,
    ⟨{ block := 14, inst := 15, cls := 15 }, ready.setRg .faultCtl [14, 15] 0x8000, by decide⟩,
    ⟨{ block := 14, inst := 15, cls := 15 }, ready.setRg .faultCtl [14, 15] 0x8000, 0, by decide⟩,
    ⟨{ block := 14, inst := 15, cls := 15 }, ready.setRg .faultCtl [14, 15] 0, by decide⟩⟩

/-- States and operands that meet the premises of RegisterMap, clause by clause. -/
theorem witness_RegisterMap :
    (∃ (a : Nat) (r : RegId) (ix : List Nat), regAt a = some (r, ix))
    ∧ (∃ (a : Nat) (b : Nat) (r : RegId) (ix : List Nat), regAt a = some (r, ix) ∧ regAt b = some (r, ix)) :=
  ⟨⟨2160, .intRoute, [14], by decide⟩,
    ⟨2160, 2160, .intRoute, [14], by decide⟩⟩

/-- States and operands that meet the premises of LineCoding, clause by clause. -/
theorem witness_LineCoding :
    (∃ (l : List Bool), l.length % 2 = 0)
    ∧ (∃ (p : Nat) (g : Nat), p < 4 ∧ g < 4)
    ∧ (∃ (p : Nat) (l : List Nat), p < 4 ∧ (∀ g ∈ l, g < 4))
    ∧ (∃ (d : List Bool), d.length = 170)
    ∧ (∃ (d : List Bool) (i : Nat), d.length = 170 ∧ i < 181)
    ∧ (∃ (cw : List Bool), cw.length = 5440) :=
  ⟨⟨[true, false], by decide⟩,
    ⟨3, 3, by decide⟩,
    ⟨3, [3, 0], by decide⟩,
    ⟨List.replicate 170 true, by decide⟩,
    ⟨List.replicate 170 true, 180, by decide⟩,
    ⟨List.replicate 5440 true, List.length_replicate⟩⟩

/-! ### The manual's worked examples, one value each -/

/-- Table 10-6's first record, decompressed and stitched with its weight: the first component of the example's Strand A. -/
def recA : List Byte := [3, 0x32, 0x76, 0xC0] ++ List.replicate 24 0

/-- Strand B of the same example. -/
def recB : List Byte := [5, 0x9C, 0x0D, 0xC0] ++ List.replicate 24 0

/-- A record of compression 0x91 stitched into an accumulator with a weight. -/
def stitched (acc : PrbAcc) (r : List Byte) (w : Nat) : PrbAcc :=
  stitchPrb acc (decompress 0x91 r).1 (decompress 0x91 r).2 (weightOf w).1 (weightOf w).2

/-- Chapter 10, first example: both Strands give A = (4,329,525, -14,954,430) at exponent 5. -/
theorem test_stitch_example :
    let a := stitched (stitched {} recA 0x0300044003) recB 0x0E00010000
    (a.a.take 2, a.e, a.inexact) = ([4329525, -14954430], 5, true) := by decide +kernel

/-- The same in the other order of arrival. -/
theorem test_stitch_order :
    let a := stitched (stitched {} recB 0x0E00010000) recA 0x0300044003
    (a.a.take 2, a.e) = ([4329525, -14954430], 5) := by decide +kernel

/-- Chapter 10, first example: the output record begins 05 21 47 00. -/
theorem test_recompress_example :
    (recompress (stitched (stitched {} recA 0x0300044003) recB 0x0E00010000) 0x91).1.take 4 = [5, 0x21, 0x47, 0] := by decide +kernel

/-- The DDDSU timeline of Table 3-10. -/
def dddsu : Timeline :=
  { w0 := mk 62 60 1 ||| mk 58 55 6 ||| mk 50 49 1, w1 := mk 39 20 40000 ||| mk 19 0 64000, formats := [0, 0, 0, 0, 0, 0, 0, 0], slots := [0, 0, 0, 8, 1] }

/-- Chapter 3, example: Mast time 1700000037 s lies in the frame with SFN 264, which starts then. -/
theorem test_frame_example :
    let t : Int := 1700000037 * 1000000000 * 65536
    (dddsu.frameAt t, sfnOf (dddsu.frameAt t), dddsu.frame16 (dddsu.frameAt t)) = (138403521800, 264, t) := by decide +kernel

/-- Chapter 3, example: the boundary tick of slot 3 symbol 12 is 1,542,917 ticks after the frame start. -/
theorem test_boundary_example :
    let t : Int := 1700000037 * 1000000000 * 65536
    (dddsu.bound16 (dddsu.symOf (dddsu.frameAt t) 3 12) - t + 81919) / 81920 = 1542917 := by decide +kernel

/-- Chapter 15, example: VMIN of a Tile of 1,700 MHz at 1,200 and 1,600 MHz. -/
theorem test_vmin_example : vmin 1200 1700 = 710 ∧ vmin 1600 1700 = 800 := by decide

/-- Chapter 20, example: 0x12_20F8 is TMQ_STATUS of queue 15 of Tile 4. -/
theorem test_address_example : regAt 0x1220F8 = some (.tmQueueStatus, [4, 15]) := by decide +kernel

/-- Chapter 5, example: rule 40 matches eAxC 0x1234 and not 0x1334. -/
theorem test_rule_example :
    let rule : List W := [0xCA00000000000002, 0, 0xFF, 0x04800000FFC02000, 0, 0, 0, 0]
    let frame := fun (e : Nat) => List.replicate 12 (0 : Byte) ++ [0xAE, 0xFE, 0x10, 0, 0, 60] ++ bytesBE 2 e ++ [0, 0, 0x10, 0, 0, 0] ++ List.replicate 60 0
    (ruleMatches rule 4 ((parse {} (frame 0x1234)).key 4 0 0 false false), ruleMatches rule 4 ((parse {} (frame 0x1334)).key 4 0 0 false false))
      = (true, false) := by decide +kernel

/-- Chapter 8, example: after three packets of 1,520 bytes the bucket turns positive 359 ticks later. -/
theorem test_shaper_example :
    let h : Shaper := { en := true, cir := 51200, cbs := 4000, ctok := 4000 * 32768, last := 0 }
    let c := ((h.charge 0 true 1520).charge 0 true 1520).charge 0 true 1520
    (decide ((c.refresh 358).ctok ≤ 0), decide (0 < (c.refresh 359).ctok)) = (true, true) := by decide +kernel

/-- Table 15-10: a removal during the step from 775 to 800 mV holds the rail at 794 mV. -/
theorem test_removal_example :
    let s := withPower (fun p => { p with
      avs := some { src := 775, dst := 800, phase := 1, start := 10000, due := 14000 }, vcore := 775, earlyN := true, earlySince := some 10400 }) (at_ 12000)
    (after .removalDeclared s).power.avs = some { src := 775, dst := 794, phase := 3, start := 12000, due := 13024 } := by decide +kernel

/-- R76, R77: the pairs 00 01 11 10 are levels 0 1 2 3; precoded after level 0 they are 0, 1 - 0, 2 - 1, 3 - 1. -/
theorem test_pam4 :
    toLevels [false, false, false, true, true, true, true, false] = [0, 1, 2, 3] ∧ precode 0 [0, 1, 2, 3] = [0, 1, 1, 2] := by decide

/-- R78: blocks alternate their markers, and the parity of a segment is the remainder by x^11 + x^2 + 1: of x^11 it is x^2 + 1. -/
theorem test_segment :
    blockMarker 6 = 0x3C5A ∧ blockMarker 7 = 0xC3A5
    ∧ (segment (List.replicate 169 false ++ [true])).drop 170 = msbBits 11 5 := by decide +kernel

/-! ### Ill-formed commands, one for each check -/

theorem test_ill_opcode : wellFormed (.nop (cmdOf 1 [])) = false := by decide
theorem test_ill_length : wellFormed (.nop { cmdOf 0 [] with params := [0] }) = false := by decide
theorem test_ill_device : wellFormed (.nop { cmdOf 0 [] with src := .dravua 0xFFF }) = false := by decide
theorem test_ill_function : wellFormed (.nop { cmdOf 0 [] with src := .vf 62 }) = false := by decide
theorem test_ill_port : wellFormed (.packetIngress 512 rx60) = false := by decide
theorem test_ill_frame_point : wellFormed (.packetIngress 0 { rx60 with sub := 64 }) = false := by decide
theorem test_ill_frame_length : wellFormed (.packetIngress 0 { rx60 with bytes := List.replicate 16384 0 }) = false := by decide +kernel
theorem test_ill_frame_lanes : wellFormed (.packetIngress 0 { rx60 with line := List.replicate 9 [] }) = false := by decide
theorem test_ill_frame_symbols : wellFormed (.packetIngress 0 { rx60 with line := [[4]] }) = false := by decide
theorem test_ill_read_path : wellFormed (.txtsWord1Read 0 .poisoned) = false := by decide
theorem test_ill_ring : wellFormed (.ringFetchDone (.qp 4096) []) = false := by decide
theorem test_ill_ring_admin : wellFormed (.ringRescan (.admin 64)) = false := by decide
theorem test_ill_queue : wellFormed (.cqCoalTimeout (.chan 32)) = false := by decide
theorem test_ill_path : wellFormed (.tlPosRead 0 (.hook 4)) = false := by decide
theorem test_ill_path_function : wellFormed (.rcRegisterRead (.bar0 64) 0) = false := by decide
theorem test_ill_timeline : wellFormed (.timelineApply 8) = false := by decide
theorem test_ill_bank : wellFormed (.hookPost 2 0) = false := by decide
theorem test_ill_entry : wellFormed (.hookPost 0 16384) = false := by decide
theorem test_ill_tile : wellFormed (.learnApply 16) = false := by decide
theorem test_ill_cluster : wellFormed (.microAdd 4 0) = false := by decide
theorem test_ill_engine : wellFormed (.microAdd 0 16) = false := by decide
theorem test_ill_plane : wellFormed (.planeFault 12 1) = false := by decide
theorem test_ill_stream : wellFormed (.rsqTimeout 0 64) = false := by decide
theorem test_ill_slice : wellFormed (.pull 16) = false := by decide
theorem test_ill_skein : wellFormed (.closeBackstop 65536) = false := by decide
theorem test_ill_fn : wellFormed (.adminSqDb 64 0) = false := by decide
theorem test_ill_pair : wellFormed (.txChainDone 4096) = false := by decide
theorem test_ill_pool : wellFormed (.poolDb 0 8 0) = false := by decide
theorem test_ill_channel : wellFormed (.chanEnable 0 32) = false := by decide
theorem test_ill_domain : wellFormed (.domainExit 38) = false := by decide
theorem test_ill_block : wellFormed (.scrubRead 15 0 0) = false := by decide
theorem test_ill_edge : wellFormed (.ppsInEdge 64) = false := by decide
theorem test_ill_lane : wellFormed (.cdrLock 512) = false := by decide

/-- Well-formed commands pass. -/
theorem test_well_formed : wellFormed (.nop (cmdOf 0 [])) = true ∧ wellFormed (.bufQueueConfig (cmdOf 0x600 [8191, 15])) = true
    ∧ wellFormed (.packetIngress 511 rx60) = true := by decide

/-- No word spells a command: the table gives no row any bits. -/
theorem test_decode : decodeTableWord 64 0x0600000000000000 = none := by rfl

theorem test_reset_pending : State.reset.pending = [] := by rfl

end Sys2Proof.Tests
end

section
/-! ### PacketPath fails: a queue profile beyond the profile registers

ADM_PROFILE has 16 words, and a profile number beyond them names the word of whatever register lies there. In the state below that is
FAULT_CNT of Tile 15's forwarding tables. The source lookup of an arriving frame meets a corrected error in the L2 table, which counts
there before the slice asks the profile whether it admits the frame: room that stood in the profile when the frame came is gone. -/

namespace Sys2Proof.Machine

/-- The profile number whose ADM_PROFILE word is the count of corrected errors of Tile 15's forwarding tables. -/
def strayProfile : Nat := (regAddr .faultCnt [12, 15, 0] - regAddr .admProfile [0]) / 8

theorem regAddr_strayProfile : regAddr .admProfile [strayProfile] = regAddr .faultCnt [12, 15, 0] := by decide

/-- A frame of 60 bytes from the source address 00:00:00:00:00:01, every other byte 0. -/
def plainFrame : RxFrame :=
  { bytes := List.replicate 11 0 ++ [1] ++ List.replicate 48 0, sub := 0, fcsGood := true, macsecOk := false }

/-- A part that is up, with port 511 in LINK_UP: no packet of the port matches a rule, and its default sends to the port itself. The port
learns, and one bit is flipped in the valid entry that its L2 lookup of `plainFrame` reads. Queue 0 of the port has the stray profile, whose
word reads 2^48 - 1: its thresholds are the widest, and with one more count they are 0. -/
def strayState : State :=
  { boot := { stage := 10, ready := true }, mast := { running := true }, power := { floating := false }
    port := { ports := [(511, { formed := true, state := 2 })] }
    pk := { queues := [(16 * 511, { profile := strayProfile })]
            tiles := [(15, { l2 := [(4 * l2Set 0 0 1, (mk 63 63 1, 0))] })] }
    flt := { ecc := [(eccKey 12 15 0 (8 * l2Set 0 0 1), 1)] }
    regs := [(regAddr .portKeySel [15, 31], BitVec.allOnes 64), (regAddr .portDefaultNomatch [15, 31], mk 59 57 2 ||| mk 56 45 511),
             (regAddr .l2PortCfg [15, 31], mk 63 63 1), (regAddr .faultCnt [12, 15, 0], mk 47 0 (2 ^ 48 - 1))] }

/-- The step answers a next state in which a queue of a slice holds no reference. -/
def leavesQueueEmpty (c : Instr) (i k : Nat) (s : State) : Bool :=
  match exec c s with
  | .next t => (tget [] (t.slice i).voq k).isEmpty
  | _ => false

/-- A stored packet stands in its queue, so the queue is not empty. -/
theorem voq_ne_nil_of_queued {i x q : Nat} {P : Pkt → Prop} {s t : State} (h : Queued i x q P s t) :
    tget [] (t.slice i).voq (16 * x + q) ≠ [] := by
  obtain ⟨_, r, _, _, _, _, _, _, _, _, _, hv, _⟩ := h
  simp [hv]

/-- A step that leaves a queue empty has stored nothing there. -/
theorem not_goes_queued {c : Instr} {s : State} {l : List Part} {i x q : Nat} {P : Pkt → Prop}
    (h : leavesQueueEmpty c i (16 * x + q) s = true) : ¬ Goes c s l (Queued i x q P s) := by
  rintro ⟨t, ht, _, hq⟩
  rw [leavesQueueEmpty, ht] at h
  exact voq_ne_nil_of_queued hq (List.isEmpty_iff.mp h)

/-- Before the frame comes the slice has room for it. -/
theorem room_strayState : Room 15 511 0 1 false strayState := ⟨false, [(0, false)], by decide +kernel⟩

/-- The frame is dropped: the corrected error has been counted in the word that the queue takes for its profile. -/
theorem strayState_drops : leavesQueueEmpty (.packetIngress 511 plainFrame) 15 (16 * 511 + 0) strayState = true := by decide +kernel

/-- Refutes O18: the clause of a frame that the default forwards to a port fails where the queue's profile number lies beyond the 16
profiles; the lookup of the frame's source changes the word that the number names. -/
theorem not_packetPath : ¬ Obligations.PacketPath := by
  unfold Obligations.PacketPath
  intro h
  obtain ⟨hrx, -⟩ := h 511 strayState (by decide) (by decide)
  have hmgmt : mgmtFrame strayState 511 (parse (strayState.parseCfgOf 15 511) plainFrame.bytes)
      (receivedPkt strayState 511 plainFrame).macsec = none := by decide +kernel
  obtain ⟨hfwd, -⟩ := hrx plainFrame rfl (by decide) (by decide) (by decide) hmgmt
  exact not_goes_queued strayState_drops <| hfwd rfl (by decide +kernel) (by decide +kernel) (by decide) (by decide) (by decide) (by decide)
    (by decide) (by decide) room_strayState

end Sys2Proof.Machine
end

section
/-! ### Steady operations

The operations behind the Rigging's rows touch a few parts of State each. They also leave two facts alone that reach across a part: which
timed commands are pending, and whether the Mast clock runs. `Steady` says both at once, and is carried through sequences and loops. -/

namespace Sys2Proof.Machine

/-- From s to t at most the named parts have changed, the pending timed commands stand, and the Mast clock runs as before. -/
def Steady (l : List Part) (s t : State) : Prop :=
  Frame l s t ∧ t.cmd.timed = s.cmd.timed ∧ t.mast.running = s.mast.running

section
variable {l m : List Part} {s t u : State}

theorem Steady.frame (h : Steady l s t) : Frame l s t := h.1
theorem Steady.timed (h : Steady l s t) : t.cmd.timed = s.cmd.timed := h.2.1
theorem Steady.running (h : Steady l s t) : t.mast.running = s.mast.running := h.2.2

theorem Steady.refl (l : List Part) (s : State) : Steady l s s := ⟨Frame.refl l s, rfl, rfl⟩

theorem Steady.mono (f : Steady l s t) (h : ∀ p ∈ l, p ∈ m) : Steady m s t := ⟨Frame.mono h f.frame, f.timed, f.running⟩

theorem Steady.trans (f : Steady l s t) (g : Steady l t u) : Steady l s u :=
  ⟨Frame.trans f.frame g.frame, g.timed.trans f.timed, g.running.trans f.running⟩

/-- What touches neither commands nor the Mast clock is steady. -/
theorem steady_of_frame (f : Frame l s t) (hc : .cmd ∉ l := by decide) (hm : .mast ∉ l := by decide) : Steady l s t :=
  ⟨f, congrArg CmdState.timed (f.2 .cmd hc), congrArg Mast.running (f.2 .mast hm)⟩

theorem steady_ite {c : Prop} [Decidable c] (h : Steady l s t) (k : Steady l s u) : Steady l s (if c then t else u) := by
  split
  · exact h
  · exact k

theorem steady_when {c : Bool} {f : State → State} (h : Steady l s (f s)) : Steady l s (when c f s) := steady_ite h (.refl l s)

theorem steady_foldl {α : Type} (xs : List α) {f : State → α → State} (h : ∀ s x, Steady l s (f s x)) (s : State) :
    Steady l s (xs.foldl f s) := by
  induction xs generalizing s with
  | nil => exact .refl l s
  | cons x xs ih => exact (h s x).trans (ih _)

end

/-! The shared operations: reports, interrupts, events, replies. -/

theorem steady_bump (r : RegId) (ix : List ℕ) (hi lo n : ℕ) (s : State) : Steady [.regs] s (s.bump r ix hi lo n) :=
  steady_of_frame ⟨rfl, fun p hp => by cases p <;> simp_all [Part.same]⟩

theorem steady_setDomain (d : ℕ) (v : Domain) (s : State) : Steady [.power] s (s.setDomain d v) :=
  steady_of_frame ⟨rfl, fun p hp => by cases p <;> simp_all [Part.same]⟩

theorem steady_pinEdge (pin : ℕ) (level : Bool) (note : ℕ) (s : State) : Steady [.out] s (pinEdge pin level note s) :=
  steady_of_frame ⟨rfl, fun p hp => by cases p <;> simp_all [Part.same]⟩

theorem steady_raiseInt (b : ℕ) (r : RegId) (ix : List ℕ) (bit : ℕ) (s : State) : Steady [.out, .regs] s (raiseInt b r ix bit s) :=
  steady_of_frame ⟨by simp, fun p hp => by cases p <;> simp_all [Part.same]⟩

theorem steady_timedReply (t : TimedCmd) (st : Status) (d : ℕ) (res : List W) (s : State) :
    Steady [.host, .out, .regs] s (timedReply t st d res s) :=
  steady_of_frame ⟨by simp, fun p hp => by cases p <;> simp_all [Part.same]⟩

@[simp] theorem pumpEvents_timed (src : Source) (n : ℕ) (s : State) : (pumpEvents src n s).cmd.timed = s.cmd.timed := by
  induction n generalizing s with
  | zero => rfl
  | succ n ih =>
    simp only [pumpEvents]
    split
    · rfl
    · split
      · simp [ih, State.setSub]
      · simp [ih, State.setSub]
      · split
        · simp [ih, State.setSub]
        · rfl
      · rfl

@[simp] theorem postEvent_timed (k : ℕ) (p : List W) (s : State) : (postEvent k p s).cmd.timed = s.cmd.timed := by
  unfold postEvent
  split
  · simp
  · simp only []
    split
    · simp [State.setSub]
    · simp [State.setSub]

theorem steady_postEvent (k : ℕ) (ps : List W) (s : State) : Steady [.host, .cmd, .out, .regs] s (postEvent k ps s) :=
  ⟨⟨by simp, fun p hp => by cases p <;> simp_all [Part.same]⟩, postEvent_timed k ps s, by simp⟩

@[simp] theorem reportFault_timed (f : FaultInfo) (s : State) : (reportFault f s).cmd.timed = s.cmd.timed := by
  simp only [reportFault]
  split
  · rfl
  · split
    · rfl
    · split
      · simp [postRecord]
      · simp

@[simp] theorem memRead_timed (b n mem addr req : ℕ) (s : State) : (memRead b n mem addr req s).st.cmd.timed = s.cmd.timed := by
  have forced : ∀ c cls sev (x : State), (when c (forcedReport cls sev b n mem addr req) x).cmd.timed = x.cmd.timed := by
    intro c cls sev x
    unfold when forcedReport
    split
    · simp
    · rfl
  have report : ∀ out syn, (eccReport 0 2 b n mem addr req out syn s).cmd.timed = s.cmd.timed := by
    intro out syn
    cases out
    case none => rfl
    all_goals exact reportFault_timed _ _
  exact (forced _ _ _ _).trans ((forced _ _ _ _).trans (report _ _))

@[simp] theorem postHook_timed (q : ℕ) (e : HkEvent) (s : State) : (postHook q e s).cmd.timed = s.cmd.timed := by
  unfold postHook
  simp only []
  split
  · simp
  · split <;> simp

theorem steady_postHook (q : ℕ) (e : HkEvent) (s : State) : Steady [.hk, .host, .cmd, .out, .flt, .regs, .power] s (postHook q e s) :=
  ⟨⟨by simp, fun p hp => by cases p <;> simp_all [Part.same]⟩, postHook_timed q e s, by simp⟩


/-! ### What an event does (Table 3-8) is steady -/

/-- The parts that a Rigging action touches: all but Mast time, the Rigging, epochs, security, start-up and the free values. -/
abbrev actionParts : List Part := [.mast, .port, .pk, .hk, .sk, .host, .cmd, .out, .flt, .regs, .power]

theorem steady_setLane (n : ℕ) (v : Lane) (s : State) : Steady [.port] s (s.setLane n v) :=
  steady_of_frame ⟨rfl, fun p hp => by cases p <;> simp_all [Part.same]⟩

theorem steady_setTmq (q : ℕ) (v : TmQueue) (s : State) : Steady [.pk] s (s.setTmq q v) :=
  steady_of_frame ⟨rfl, fun p hp => by cases p <;> simp_all [Part.same]⟩

theorem steady_setSynce (l : List SyncEOut) (s : State) : Steady [.mast] s { s with mast := { s.mast with synce := l } } :=
  ⟨⟨rfl, fun p hp => by cases p <;> simp_all [Part.same]⟩, rfl, rfl⟩

theorem steady_synceOne (i : ℕ) (s : State) : Steady [.mast, .out, .regs] s (synceOne i s) := by
  unfold synceOne
  exact steady_ite (.refl _ _) <| ((steady_setSynce _ s).mono (by decide)).trans <|
    ((steady_when (steady_raiseInt _ _ _ _ _)).mono (by decide)).trans ((steady_pinEdge _ _ _ _).mono (by decide))

theorem steady_synceUpdate (s : State) : Steady [.mast, .out, .regs] s (synceUpdate s) :=
  steady_foldl _ (fun s i => steady_synceOne i s) s

theorem steady_laneAction (a n sched : ℕ) (s : State) : Steady [.mast, .port, .out, .regs] s (laneAction a n sched s) := by
  have counted : Steady [.mast, .port, .out, .regs] s (s.bump .laneDozeCnt [n] 15 0) := (steady_bump ..).mono (by decide)
  have moved : ∀ v, Steady [.mast, .port, .out, .regs] s (s.setLane n v) := fun v => (steady_setLane n v s).mono (by decide)
  unfold laneAction
  split
  · exact counted
  · refine steady_ite counted ?_
    split
    · exact steady_ite (.refl _ _) ((moved _).trans ((steady_synceUpdate _).mono (by decide)))
    · exact steady_ite (.refl _ _) (moved _)
    · exact steady_ite (moved _) (.refl _ _)
    · exact steady_ite (moved _) (.refl _ _)

theorem steady_setGates (p mask : ℕ) (on : Bool) (s : State) : Steady [.pk] s (setGates p mask on s) :=
  steady_foldl _ (fun s q => steady_setTmq (16 * p + q) _ s) s

theorem steady_setSlot (d t k : ℕ) (s : State) : Steady [.power] s (setSlot d t k s) := steady_ite (steady_setDomain ..) (.refl _ _)

theorem steady_setFiller (kind k d : ℕ) (s : State) : Steady [.power] s (setFiller kind k d s) := steady_setDomain ..

/-- Whatever replaces the power part alone is steady. -/
theorem steady_setPower (p : Power) (s : State) : Steady [.power] s { s with power := p } :=
  steady_of_frame ⟨rfl, fun p hp => by cases p <;> simp_all [Part.same]⟩

theorem steady_startFreq (t f : ℕ) (s : State) : Steady [.power] s (startFreq t f s) := steady_setPower _ s

theorem steady_avsFrame (a b k : ℕ) (s : State) : Steady [.out, .power] s (avsFrame a b k s) :=
  steady_of_frame ⟨rfl, fun p hp => by cases p <;> simp_all [Part.same, avsFrame]⟩

theorem steady_slowTiles (s : State) : Steady [.power] s (slowTiles s) :=
  steady_foldl _ (fun _ _ => steady_ite (steady_startFreq ..) (.refl _ _)) s

theorem steady_raiseTiles (s : State) : Steady [.power] s (raiseTiles s) :=
  steady_foldl _ (fun _ _ => steady_ite (steady_startFreq ..) (.refl _ _)) s

theorem steady_retarget (s : State) : Steady [.out, .power] s (retarget s) := by
  unfold retarget
  refine steady_ite (.refl _ _) ?_
  have slowed : Steady [.out, .power] s (slowTiles { s with power := { s.power with vcoreTarget := s.voltageNeed } }) :=
    ((steady_setPower _ s).trans (steady_slowTiles _)).mono (by decide)
  refine steady_ite slowed (steady_ite (slowed.trans (steady_avsFrame ..)) (steady_ite (steady_ite ?_ slowed) (steady_ite ?_ slowed)))
  · exact slowed.trans (steady_avsFrame ..)
  · exact slowed.trans ((steady_raiseTiles _).mono (by decide))

theorem steady_applyElement (a tl n arg sched : ℕ) (s : State) : Steady actionParts s (applyElement a tl n arg sched s) := by
  unfold applyElement
  split
  · exact (steady_when (steady_setGates ..)).mono (by decide)
  · exact (steady_when (steady_setGates ..)).mono (by decide)
  · exact (steady_laneAction ..).mono (by decide)
  · exact (steady_laneAction ..).mono (by decide)
  · exact (steady_laneAction ..).mono (by decide)
  · exact (steady_laneAction ..).mono (by decide)
  · exact (steady_setSlot ..).mono (by decide)
  · exact (steady_setSlot ..).mono (by decide)
  · exact (steady_setFiller ..).mono (by decide)
  · exact (steady_setFiller ..).mono (by decide)
  · exact .refl _ _

theorem steady_deliverElement (a tl arg sched n : ℕ) (s : State) : Steady actionParts s (deliverElement a tl arg sched n s) :=
  steady_ite (steady_applyElement ..) ((steady_setDomain ..).mono (by decide))

end Sys2Proof.Machine
end

section
namespace Sys2Proof.Machine

/-! Closes of Skeins, and the events that HOOK_POST and a close send to a cluster. -/

/-- What a close of a Skein's occurrence touches. -/
abbrev closeParts : List Part := [.hk, .sk, .host, .cmd, .out, .flt, .regs, .power]

theorem steady_markWaits (q : ℕ) (f : WaitOn → WaitOn) (s : State) : Steady [.hk] s (markWaits q f s) :=
  steady_of_frame ⟨rfl, fun p hp => by cases p <;> simp_all [Part.same]⟩

theorem steady_setSkein (k : ℕ) (v : Skein) (s : State) : Steady [.sk] s (s.setSkein k v) :=
  steady_of_frame ⟨rfl, fun p hp => by cases p <;> simp_all [Part.same]⟩

theorem steady_modSkein (k : ℕ) (f : Skein → Skein) (s : State) : Steady [.sk] s (s.modSkein k f) := steady_setSkein ..

theorem steady_modInst (k : ℕ) (n : ℤ) (f : Instance → Instance) (s : State) : Steady [.sk] s (s.modInst k n f) := steady_setSkein ..

theorem steady_postClose (k : ℕ) (n : ℤ) (s : State) : Steady closeParts s (postClose k n s) := by
  unfold postClose
  simp only []
  split
  · exact .refl _ _
  · exact steady_ite (.refl _ _) (((steady_modInst ..).mono (by decide)).trans ((steady_postHook ..).mono (by decide)))

theorem steady_beginClose (k : ℕ) (i : Instance) (tick src : ℕ) (noEvent disc : Bool) (s : State) :
    Steady closeParts s (beginClose k i tick src noEvent disc s) := by
  unfold beginClose
  exact ((steady_foldl _ (fun s q => steady_markWaits q _ s) s).mono (by decide)).trans <|
    ((steady_modInst ..).mono (by decide)).trans <|
    ((steady_when (steady_modSkein ..)).mono (by decide)).trans (steady_postClose ..)

theorem steady_skCount (q k code : ℕ) (s : State) : Steady [.sk, .regs] s (skCount q k code s) := by
  have counted : Steady [.sk, .regs] s (s.bump .skDropCnt [q, code] 47 0) := (steady_bump ..).mono (by decide)
  exact steady_ite (counted.trans ((steady_modSkein ..).mono (by decide))) counted

theorem steady_countClose (k flags : ℕ) (s : State) : Steady [.sk, .out, .regs] s (countClose k flags s) := by
  unfold countClose
  exact ((steady_bump ..).mono (by decide)).trans <| ((steady_when (steady_bump ..)).mono (by decide)).trans <|
    ((steady_when (steady_raiseInt ..)).mono (by decide)).trans ((steady_modSkein ..).mono (by decide))

theorem steady_strandsAtClose (k : ℕ) (n : ℤ) (w1 : W) (owners : List ℕ) (s : State) :
    Steady [.sk] s (strandsAtClose k n w1 owners s) :=
  steady_foldl _ (fun _ _ => steady_modSkein ..) s

theorem steady_closeEmpty (k : ℕ) (n : ℤ) (tick src : ℕ) (noEvent : Bool) (s : State) :
    Steady closeParts s (closeEmpty k n tick src noEvent s) := by
  unfold closeEmpty
  refine steady_ite (((steady_setSkein ..).mono (by decide)).trans (steady_beginClose ..)) ?_
  exact ((steady_setSkein ..).mono (by decide)).trans <| ((steady_strandsAtClose ..).mono (by decide)).trans <|
    ((steady_skCount ..).mono (by decide)).trans ((steady_countClose ..).mono (by decide))

theorem steady_closeOne (k : ℕ) (n : ℤ) (tick src : ℕ) (noEvent : Bool) (s : State) :
    Steady closeParts s (closeOne k n tick src noEvent s) := by
  unfold closeOne
  simp only []
  split
  · exact steady_ite (.refl _ _) (steady_ite ((steady_modInst ..).mono (by decide)) (steady_beginClose ..))
  · exact steady_ite (.refl _ _) (steady_closeEmpty ..)

theorem steady_closeOccurrence (k : ℕ) (n : ℤ) (tick src : ℕ) (noEvent : Bool) (s : State) :
    Steady closeParts s (closeOccurrence k n tick src noEvent s) :=
  (steady_foldl _ (fun _ _ => steady_closeOne ..) s).trans (steady_closeOne ..)

theorem steady_closeGroupEvent (g t : ℕ) (n : ℤ) (tick : ℕ) (s : State) : Steady closeParts s (closeGroupEvent g t n tick s) :=
  steady_foldl _ (fun _ _ => steady_ite (steady_closeOccurrence ..) (.refl _ _)) s

theorem steady_dropImpulse (s : State) : Steady [.out, .regs] s (dropImpulse s) :=
  ((steady_bump ..).mono (by decide)).trans (steady_raiseInt ..)

theorem steady_actClose (e : W × W) (anchor : ℤ) (sched : ℕ) (s : State) : Steady closeParts s (actClose e anchor sched s) :=
  (steady_closeGroupEvent ..).trans ((steady_foldl _ (fun s _ => steady_dropImpulse s) _).mono (by decide))

theorem steady_hookPostTo (q op payload src : ℕ) (s : State) :
    Steady [.hk, .host, .cmd, .out, .flt, .regs, .power] s (hookPostTo q op payload src s) :=
  ((steady_markWaits ..).mono (by decide)).trans (steady_postHook ..)

theorem steady_actPost (arg : ℕ) (s : State) : Steady [.hk, .host, .cmd, .out, .flt, .regs, .power] s (actPost arg s) :=
  steady_foldl _ (fun _ _ => steady_ite (steady_hookPostTo ..) ((steady_dropImpulse _).mono (by decide))) s

/-- Whatever its action, an event leaves the Rigging, the epochs, Mast time and the start-up alone. -/
theorem steady_applyAction (e : W × W) (ws : List W) (anchor : ℤ) (sched : ℕ) (s : State) :
    Steady actionParts s (applyAction e ws anchor sched s) := by
  unfold applyAction
  simp only []
  split
  · exact .refl _ _
  · exact (steady_actClose ..).mono (by decide)
  · exact (steady_actPost ..).mono (by decide)
  · exact (steady_foldl _ (fun _ _ => steady_deliverElement ..) s).trans ((steady_when (steady_retarget _)).mono (by decide))

theorem steady_replayState (t : ℤ) (p : W × W → Bool) (s : State) : Steady actionParts s (replayState t p s) :=
  steady_foldl _ (fun _ _ => steady_applyAction ..) s

/-! ### Rows of the Rigging end as every row does -/

section
variable {i : Instr} {l : List Part} {s t : State} {P : State → Prop}

/-- A row that keeps Mast time, on a part whose Mast clock it leaves running. -/
theorem goes_of_running (hx : exec i s = keep s t) (h : Live s) (hf : Frame l s t) (hr : t.mast.running = s.mast.running) (hP : P t)
    (ht : .time ∉ l := by decide) : Goes i s l P := by
  refine ⟨t, ?_, hf, hP⟩
  rw [hx, keep_live h (hr.trans h.2), ← hf.1, ← show t.time = s.time from hf.2 .time ht]

theorem goes_of_keep (hx : exec i s = keep s t) (h : Live s) (hf : Steady l s t) (hP : P t) (ht : .time ∉ l := by decide) :
    Goes i s l P :=
  goes_of_running hx h hf.frame hf.running hP ht

end

end Sys2Proof.Machine
end

section
namespace Sys2Proof.Machine

/-! ### Evaluation, symbols, position and replay: the rows of chapter 3 that touch the Rigging alone -/

/-- Whatever replaces the Rigging alone is steady. -/
theorem steady_setRig (r : Rig) (s : State) : Steady [.rig] s { s with rig := r } :=
  steady_of_frame ⟨rfl, fun p hp => by cases p <;> simp_all [Part.same]⟩

theorem steady_readOut (w : W) (s : State) : Steady [.out] s (readOut w s) :=
  steady_of_frame ⟨rfl, fun p hp => by cases p <;> simp_all [Part.same, readOut]⟩

/-- The Rigging after an occurrence of entry i of bank b was evaluated: its event is on the event bus, its anchor noted. -/
def evaluatedRig (b i : ℕ) (a x : ℤ) (r : Rig) : Rig :=
  { r with
    evaluated := r.evaluated ++ [{ bank := b, entry := i, anchor := a, sched := x.toNat }]
    lastAnchor := tset none r.lastAnchor (entKey b i) (some a) }

/-- An occurrence that nothing holds back is evaluated. -/
theorem riggingEvaluate_fires {s : State} {b i : ℕ} {a x : ℤ} (hc : Clean s) (hv : entValid ((s.bank b).entry i) = true)
    (ho : s.latestOcc ((s.bank b).entry i) ((s.tick : ℤ) + 32) = some (a, x))
    (hl : ∀ k, tget none s.rig.lastAnchor (entKey b i) = some k → k < a) (hf : s.bankFires b x = true)
    (hs : s.cellAsleep (entTimeline ((s.bank b).entry i)) = false) (hn : (s.rig.notBefore : ℤ) ≤ x) :
    riggingEvaluate b i s = { s with rig := evaluatedRig b i a x s.rig } := by
  have reads := clean_memReadN hc 5 0 b (2 * i) 9 2
  cases hk : tget none s.rig.lastAnchor (entKey b i) with
  | none => simp [riggingEvaluate, reads, hv, ho, hf, hs, Int.not_lt.mpr hn, hk, evaluatedRig]
  | some k =>
    simp [riggingEvaluate, reads, hv, ho, hf, hs, Int.not_lt.mpr hn, hk, Int.not_le.mpr (hl k hk), evaluatedRig]

theorem exec_riggingEvaluate {b i : ℕ} (hb : b ≤ 1) (hi : i < 16384) (s : State) :
    exec (.riggingEvaluate b i) s = keep s (riggingEvaluate b i s) := by
  change keep s (riggingEvaluate (b % 2) (i % 16384) s) = _
  rw [Nat.mod_eq_of_lt (show b < 2 by omega), Nat.mod_eq_of_lt hi]

theorem exec_symbolBoundary {n : ℕ} (hn : n < 8) (s : State) : exec (.symbolBoundary n) s = keep s (symbolBoundary n s) := by
  change keep s (symbolBoundary (n % 8) s) = _
  rw [Nat.mod_eq_of_lt hn]

theorem exec_tlPosRead {n : ℕ} (hn : n < 8) (path : Path) (s : State) :
    exec (.tlPosRead n path) s = keep s (readOut (tlPosRead n path s).1 (tlPosRead n path s).2) := by
  change keep s (readOut (tlPosRead (n % 8) path s).1 (tlPosRead (n % 8) path s).2) = _
  rw [Nat.mod_eq_of_lt hn]

theorem exec_tlFrameCntRead {n : ℕ} (hn : n < 8) (path : Path) (s : State) :
    exec (.tlFrameCntRead n path) s = keep s (readOut (tlFrameCntRead n path s).1 (tlFrameCntRead n path s).2) := by
  change keep s (readOut (tlFrameCntRead (n % 8) path s).1 (tlFrameCntRead (n % 8) path s).2) = _
  rw [Nat.mod_eq_of_lt hn]

theorem goes_riggingEvaluate {s : State} (h : Live s) {b i : ℕ} {a x : ℤ} (hb : b ≤ 1) (hi : i < 16384) (hc : Clean s)
    (hv : entValid ((s.bank b).entry i) = true)
    (ho : s.latestOcc ((s.bank b).entry i) ((s.mast.tick : ℤ) + 32) = some (a, x))
    (hl : ∀ k, tget none s.rig.lastAnchor (entKey b i) = some k → k < a) (hf : s.bankFires b x = true)
    (hs : s.cellAsleep (entTimeline ((s.bank b).entry i)) = false) (hn : (s.rig.notBefore : ℤ) ≤ x) :
    Goes (.riggingEvaluate b i) s [.rig] fun t =>
      t.rig = { s.rig with evaluated := t.rig.evaluated, lastAnchor := t.rig.lastAnchor }
      ∧ t.rig.evaluated = s.rig.evaluated ++ [{ bank := b, entry := i, anchor := a, sched := x.toNat }]
      ∧ tget none t.rig.lastAnchor (entKey b i) = some a
      ∧ ∀ k, k ≠ entKey b i → tget none t.rig.lastAnchor k = tget none s.rig.lastAnchor k := by
  refine goes_of_keep (exec_riggingEvaluate hb hi s) h ?_ ?_
  all_goals rw [riggingEvaluate_fires hc hv ho hl hf hs hn]
  · exact steady_setRig _ s
  · exact ⟨rfl, rfl, tget_tset_self .., fun k hk => tget_tset_ne _ _ _ _ hk⟩

theorem goes_symbolBoundary {s : State} (h : Live s) {n : ℕ} (hn : n < 8) (hc : (s.timeline n).configured = true) :
    Goes (.symbolBoundary n) s [.rig] fun t =>
      t.rig = { s.rig with symbol := t.rig.symbol } ∧ tget none t.rig.symbol n = some ((s.timeline n).symAt s.now16)
      ∧ ∀ k, k ≠ n → tget none t.rig.symbol k = tget none s.rig.symbol k := by
  refine goes_of_keep (exec_symbolBoundary hn s) h ?_ ?_
  all_goals rw [symbolBoundary, if_pos hc]
  · exact steady_setRig _ s
  · exact ⟨rfl, tget_tset_self .., fun k hk => tget_tset_ne _ _ _ _ hk⟩

theorem goes_resolveReplay {s : State} (h : Live s) {n : ℕ} (hn : s.rig.stepTick = some n) (ht : n + 288 ≤ s.mast.tick) :
    Goes .resolveReplay s [.mast, .rig, .port, .pk, .hk, .sk, .host, .cmd, .out, .flt, .regs, .power] fun t =>
      t.rig = { s.rig with stepTick := none } := by
  have replayed : resolveReplay s = replayState (n + 288 : ℕ) (fun _ => true) { s with rig := { s.rig with stepTick := none } } := by
    simp [resolveReplay, hn, State.tick, ht]
  have acts := steady_replayState (n + 288 : ℕ) (fun _ => true) { s with rig := { s.rig with stepTick := none } }
  refine goes_of_keep (t := resolveReplay s) rfl h ?_ ?_
  all_goals rw [replayed]
  · exact ((steady_setRig _ s).mono (by decide)).trans (acts.mono (by decide))
  · exact acts.frame.2 .rig (by decide)

theorem goes_tlPosRead {s : State} (h : Live s) {n : ℕ} (path : Path) (hn : n < 8) :
    Goes (.tlPosRead n path) s [.rig, .out] fun t =>
      t.out = { s.out with readData := s.out.readData ++ [s.tlPosView n] }
      ∧ t.rig = { s.rig with posLatch := t.rig.posLatch }
      ∧ t.rig.posLatch.find? (fun x => x.timeline == n && x.path == pathKey path)
        = some { timeline := n, path := pathKey path, frame := s.frameCount n } := by
  refine goes_of_keep (exec_tlPosRead hn path s) h ?_ ⟨rfl, rfl, ?_⟩
  · exact ((steady_setRig _ s).mono (by decide)).trans ((steady_readOut ..).mono (by decide))
  · simp [readOut, tlPosRead]

theorem goes_tlFrameCntRead {s : State} (h : Live s) {n : ℕ} {path : Path} {l : PosLatch} (hn : n < 8)
    (hl : s.rig.posLatch.find? (fun x => x.timeline == n && x.path == pathKey path) = some l) :
    Goes (.tlFrameCntRead n path) s [.rig, .out] fun t =>
      t.out = { s.out with readData := s.out.readData ++ [BitVec.ofInt 64 l.frame] }
      ∧ t.rig = { s.rig with posLatch := s.rig.posLatch.filter (fun x => !(x.timeline == n && x.path == pathKey path)) } := by
  refine goes_of_keep (exec_tlFrameCntRead hn path s) h ?_ ?_
  all_goals simp only [tlFrameCntRead, hl]
  · exact ((steady_setRig _ s).mono (by decide)).trans ((steady_readOut ..).mono (by decide))
  · exact ⟨rfl, rfl⟩

end Sys2Proof.Machine
end

section
namespace Sys2Proof.Machine

/-! ### Bank switches (R63) -/

theorem steady_setEpoch (k v : ℕ) (s : State) : Steady [.epochs] s (s.setEpoch k v) :=
  steady_of_frame ⟨rfl, fun p hp => by cases p <;> simp_all [Part.same]⟩

theorem steady_setBank (b : ℕ) (v : RigBank) (s : State) : Steady [.rig] s (s.setBank b v) :=
  steady_of_frame ⟨by simp, fun p hp => by cases p <;> simp_all [Part.same]⟩

theorem steady_markPast (t : ℤ) (p : W × W → Bool) (s : State) : Steady [.rig] s (markPast t p s) := steady_setRig ..

theorem bank_setBank_self (s : State) (b : ℕ) (v : RigBank) : (s.setBank b v).bank b = v := by
  by_cases hb : b = 0 <;> simp [State.setBank, State.bank, hb]

theorem bank_setBank_ne (s : State) {b c : ℕ} (v : RigBank) (hb : b ≤ 1) (hc : c ≤ 1) (h : c ≠ b) :
    (s.setBank b v).bank c = s.bank c := by
  by_cases hb0 : b = 0
  · simp [State.setBank, State.bank, hb0, show c ≠ 0 by omega]
  · simp [State.setBank, State.bank, hb0, show c = 0 by omega]

/-- The state in which the Rigging has just changed banks: the new bank is active with its epoch, and the old bank's events at or after
the switch tick, with the new bank's anchors before it, are settled. -/
def switchedBank (epoch : ℕ) (t : ℤ) (s : State) : State :=
  let u := s.setBank s.shadow { s.bank s.shadow with epoch := epoch }
  markPast t (fun _ => true) (State.setEpoch { u with rig := { u.rig with
    active := s.shadow
    evaluated := u.rig.evaluated.filter fun v => v.bank != s.rig.active || decide ((v.sched : ℤ) < t) } } (ekBank s.shadow) epoch)

theorem steady_switchedBank (epoch : ℕ) (t : ℤ) (s : State) : Steady [.rig, .epochs] s (switchedBank epoch t s) :=
  ((steady_setBank ..).mono (by decide)).trans <| ((steady_setRig ..).mono (by decide)).trans <|
    ((steady_setEpoch ..).mono (by decide)).trans ((steady_markPast ..).mono (by decide))

theorem setBank_evaluated (s : State) (b : ℕ) (v : RigBank) : (s.setBank b v).rig.evaluated = s.rig.evaluated := by
  unfold State.setBank
  split <;> rfl

/-- A switch tells of itself and, with RESOLVE, replays the resolved state. -/
theorem switchRigging_eq (epoch : ℕ) (resolve : Bool) (t : ℤ) (s : State) :
    switchRigging epoch resolve t s = when resolve (replayState t fun _ => true)
      (postEvent 10 [mk 63 48 5 ||| mk 15 0 epoch] (raiseInt 5 .rigIntStatus [] 1 (switchedBank epoch t s))) := by
  simp [switchRigging, switchedBank, setBank_evaluated, State.shadow]

/-- What follows a change of banks is steady, and leaves the Rigging alone. -/
theorem steady_switchRigging (epoch : ℕ) (resolve : Bool) (t : ℤ) (s : State) :
    Steady actionParts (switchedBank epoch t s) (switchRigging epoch resolve t s) := by
  rw [switchRigging_eq]
  exact ((steady_raiseInt ..).mono (by decide)).trans <| ((steady_postEvent ..).mono (by decide)).trans <| steady_when (steady_replayState ..)

/-- Without RESOLVE it is the notice alone. -/
theorem steady_switchRigging_unresolved (epoch : ℕ) (t : ℤ) (s : State) :
    Steady [.host, .cmd, .out, .regs] (switchedBank epoch t s) (switchRigging epoch false t s) := by
  rw [switchRigging_eq]
  exact ((steady_raiseInt ..).mono (by decide)).trans (steady_postEvent ..)

theorem switchedBank_evaluated (epoch : ℕ) (t : ℤ) (s : State) : (switchedBank epoch t s).rig.evaluated
    = s.rig.evaluated.filter (fun v => v.bank != s.rig.active || decide ((v.sched : ℤ) < t)) :=
  congrArg _ (setBank_evaluated ..)

theorem bank_switchedBank_new (epoch : ℕ) (t : ℤ) (s : State) :
    (switchedBank epoch t s).bank s.shadow = { s.bank s.shadow with epoch := epoch } :=
  bank_setBank_self ..

theorem bank_switchedBank_old (epoch : ℕ) (t : ℤ) {s : State} (ha : s.rig.active ≤ 1) :
    (switchedBank epoch t s).bank s.rig.active = s.bank s.rig.active :=
  bank_setBank_ne s _ (by simp only [State.shadow]; omega) ha (by simp only [State.shadow]; omega)

/-- The state without a pending timed command. -/
def withoutTimed (p : TimedCmd) (s : State) : State := { s with cmd := { s.cmd with timed := s.cmd.timed.erase p } }

theorem frame_withoutTimed (p : TimedCmd) (s : State) : Frame [.cmd] s (withoutTimed p s) :=
  ⟨rfl, fun p hp => by cases p <;> simp_all [Part.same, withoutTimed]⟩

/-- With start-up's own commit stage 10 begins. -/
def ownStage (p : TimedCmd) (s : State) : State := if p.own then { s with boot := { s.boot with stage := 10 } } else s

theorem steady_ownStage (p : TimedCmd) (s : State) : Steady [.boot] s (ownStage p s) :=
  steady_ite (steady_of_frame ⟨rfl, fun p hp => by cases p <;> simp_all [Part.same]⟩) (.refl _ _)

/-- The commit p in its switch tick, of a bank without a failing entry: the switch, the reply, and start-up's next stage. -/
def commitSwitch (p : TimedCmd) (s : State) : State :=
  ownStage p (timedReply p .ok 0 []
    (switchRigging (fld (p.cmd.p 0) 63 48) (bitAt (p.cmd.p 0) 47) (s.switchTick p) (withoutTimed p s)))

theorem bankSwitch_eq {s : State} {p : TimedCmd} (hp : s.cmd.timed.find? (fun p => p.opcode == 0x202 && s.timedDue p && s.turn p) = some p)
    (hf : firstFailing s (s.bank s.shadow) = none) : bankSwitch s = commitSwitch p s := by
  have stillSound : firstFailing (withoutTimed p s) ((withoutTimed p s).bank (withoutTimed p s).shadow) = none := hf
  simp only [bankSwitch, hp]
  rw [withoutTimed] at stillSound
  simp only [stillSound]
  rfl

/-- After the change of banks the commit touches neither Rigging nor epochs. -/
theorem steady_commitSwitch (p : TimedCmd) (s : State) :
    Steady (.boot :: actionParts) (switchedBank (fld (p.cmd.p 0) 63 48) (s.switchTick p) (withoutTimed p s)) (commitSwitch p s) :=
  ((steady_switchRigging ..).mono (by decide)).trans <| ((steady_timedReply ..).mono (by decide)).trans
    ((steady_ownStage ..).mono (by decide))

theorem steady_commitSwitch_unresolved {p : TimedCmd} (h : bitAt (p.cmd.p 0) 47 = false) (s : State) :
    Steady [.host, .cmd, .out, .regs, .boot] (switchedBank (fld (p.cmd.p 0) 63 48) (s.switchTick p) (withoutTimed p s))
      (commitSwitch p s) := by
  rw [commitSwitch, h]
  exact ((steady_switchRigging_unresolved ..).mono (by decide)).trans <| ((steady_timedReply ..).mono (by decide)).trans
    ((steady_ownStage ..).mono (by decide))

/-- Up to the start-up's stage the commit leaves the start-up alone. -/
theorem boot_commitSwitch (p : TimedCmd) (s : State) :
    (p.own = true → (commitSwitch p s).boot.stage = 10) ∧ (p.own = false → (commitSwitch p s).boot = s.boot) := by
  have replied : (timedReply p .ok 0 [] (switchRigging (fld (p.cmd.p 0) 63 48) (bitAt (p.cmd.p 0) 47) (s.switchTick p)
      (withoutTimed p s))).boot = s.boot := by
    rw [timedReply_boot, (steady_switchRigging ..).frame.2 .boot (by decide), (steady_switchedBank ..).frame.2 .boot (by decide)]
    rfl
  constructor
  · intro own
    simp [commitSwitch, ownStage, own]
  · intro other
    simpa [commitSwitch, ownStage, other] using replied

theorem bank_congr {s t : State} (h : t.rig = s.rig) (b : ℕ) : t.bank b = s.bank b := by simp only [State.bank, h]

theorem goes_bankSwitch {s : State} (h : Live s) {p : TimedCmd}
    (hp : s.cmd.timed.find? (fun p => p.opcode == 0x202 && s.timedDue p && s.turn p) = some p)
    (hf : firstFailing s (s.bank s.shadow) = none) (ha : s.rig.active ≤ 1) :
    Goes .bankSwitch s [.mast, .rig, .port, .pk, .hk, .sk, .host, .cmd, .out, .flt, .epochs, .regs, .power, .boot] fun t =>
      t.rig.active = 1 - s.rig.active ∧ (t.bank t.rig.active).epoch = fld (p.cmd.p 0) 63 48
      ∧ (t.bank t.rig.active).entries = (s.bank s.shadow).entries ∧ (t.bank t.rig.active).sets = (s.bank s.shadow).sets
      ∧ t.bank s.rig.active = s.bank s.rig.active ∧ t.cmd.timed = s.cmd.timed.erase p
      ∧ t.rig.evaluated = s.rig.evaluated.filter (fun v => v.bank != s.rig.active || decide ((v.sched : Int) < s.switchTick p))
      ∧ (p.own = true → t.boot.stage = 10) ∧ (p.own = false → t.boot = s.boot)
      ∧ (bitAt (p.cmd.p 0) 47 = false → Frame [.rig, .host, .cmd, .out, .epochs, .regs, .boot] s t) := by
  set epoch := fld (p.cmd.p 0) 63 48
  set at_ := s.switchTick p
  have removed := frame_withoutTimed p s
  have switched := steady_switchedBank epoch at_ (withoutTimed p s)
  have told := steady_commitSwitch p s
  have rig : (commitSwitch p s).rig = (switchedBank epoch at_ (withoutTimed p s)).rig := told.frame.2 .rig (by decide)
  have active : (commitSwitch p s).rig.active = s.shadow := congrArg Rig.active rig
  have new : (commitSwitch p s).bank s.shadow = { s.bank s.shadow with epoch := epoch } :=
    (bank_congr rig _).trans (bank_switchedBank_new epoch at_ (withoutTimed p s))
  have exec_eq : exec .bankSwitch s = keep s (commitSwitch p s) := congrArg (keep s) (bankSwitch_eq hp hf)
  obtain ⟨own, other⟩ := boot_commitSwitch p s
  refine goes_of_running exec_eq h ?_ (told.running.trans switched.running) ⟨active, ?_, ?_, ?_, ?_, ?_, ?_, own, other, ?_⟩
  · exact Frame.trans (Frame.mono (by decide) removed) (Frame.trans (switched.mono (by decide)).frame (told.mono (by decide)).frame)
  · rw [active, new]
  · rw [active, new]
  · rw [active, new]
  · exact (bank_congr rig _).trans (bank_switchedBank_old epoch at_ (s := withoutTimed p s) ha)
  · exact told.timed.trans switched.timed
  · rw [rig]
    exact switchedBank_evaluated epoch at_ (withoutTimed p s)
  · intro unresolved
    exact Frame.trans (Frame.mono (by decide) removed)
      (Frame.trans (switched.mono (by decide)).frame ((steady_commitSwitch_unresolved unresolved s).mono (by decide)).frame)

end Sys2Proof.Machine
end

section
namespace Sys2Proof.Machine

/-! ### Steps of Mast time (R45, R68): what follows the new time -/

theorem steady_closeCmd (kind key : ℕ) (st : Status) (d : ℕ) (res : List W) (s : State) :
    Steady [.host, .cmd, .out, .regs] s (closeCmd kind key st d res s) :=
  ⟨⟨by simp, fun p hp => by cases p <;> simp_all [Part.same]⟩, by simp [closeCmd], by simp⟩

theorem steady_setSleep (k : ℕ) (c : CellSleep) (s : State) : Steady [.power] s (s.setSleep k c) := steady_setPower ..

theorem steady_sendSleep (typ k cause sfn port : ℕ) (s : State) : Steady [.out] s (sendSleep typ k cause sfn port s) :=
  steady_of_frame ⟨rfl, fun p hp => by cases p <;> simp_all [Part.same, sendSleep]⟩

theorem steady_sleepChange (s : State) : Steady [.out, .regs] s (sleepChange s) := steady_raiseInt ..

theorem steady_sendWakeAt (k sfn port : ℕ) (s : State) : Steady [.out, .regs] s (sendWakeAt k sfn port s) :=
  ((steady_sendSleep ..).mono (by decide)).trans ((steady_bump ..).mono (by decide))

/-- What the end of a sleep agreement touches. -/
abbrev sleepParts : List Part := [.host, .cmd, .out, .regs, .power]

theorem steady_cancelSleep (k cause : ℕ) (st : Status) (d : ℕ) (s : State) : Steady sleepParts s (cancelSleep k cause st d s) := by
  unfold cancelSleep
  refine steady_ite (.refl _ _) ?_
  exact ((steady_foldl _ (fun _ _ => steady_sendSleep ..) s).mono (by decide)).trans <| ((steady_setSleep ..).mono (by decide)).trans <|
    ((steady_bump ..).mono (by decide)).trans <| ((steady_closeCmd ..).mono (by decide)).trans ((steady_sleepChange _).mono (by decide))

theorem steady_sleepStep (k tick epoch : ℕ) (s : State) : Steady sleepParts s (sleepStep k tick epoch s) := by
  unfold sleepStep
  simp only []
  split
  case h_1 => exact .refl _ _
  case h_2 => exact steady_cancelSleep ..
  case h_3 =>
    exact ((steady_foldl _ (fun _ _ => steady_sendSleep ..) s).mono (by decide)).trans <|
      ((steady_setSleep ..).mono (by decide)).trans <| ((steady_bump ..).mono (by decide)).trans ((steady_sleepChange _).mono (by decide))
  case h_4 =>
    exact ((steady_setSleep ..).mono (by decide)).trans ((steady_foldl _ (fun _ _ => steady_sendWakeAt ..) _).mono (by decide))

theorem steady_stepWaits (epoch : ℕ) (s : State) : Steady [.hk] s (stepWaits epoch s) := steady_foldl _ (fun _ _ => steady_markWaits ..) s

theorem steady_skeinStep (tick : ℕ) (new16 : ℤ) (s : State) : Steady closeParts s (skeinStep tick new16 s) :=
  steady_foldl _ (fun s _ => (steady_foldl _ (fun _ _ => steady_beginClose ..) s).trans ((steady_modSkein ..).mono (by decide))) s

/-! The end of every pending timed command. -/

/-- A switch that ends without applying takes its bank's events from the event bus. -/
def droppedRig (lost : Bool) (r : Rig) : Rig :=
  if lost then { r with evaluated := r.evaluated.filter fun v => v.bank == r.active } else r

theorem droppedRig_droppedRig (b c : Bool) (r : Rig) : droppedRig c (droppedRig b r) = droppedRig (b || c) r := by
  cases b <;> cases c <;> simp [droppedRig]

theorem switchLost_rig (t : TimedCmd) (s : State) : (switchLost t s).rig = droppedRig t.switches s.rig := by
  unfold switchLost TimedCmd.switches droppedRig when
  split
  · rw [raiseInt_rig]
    split <;> simp [dropShadow]
  · split <;> simp

theorem steady_switchLost (t : TimedCmd) (s : State) : Steady [.rig, .sk, .out, .regs, .boot] s (switchLost t s) :=
  steady_of_frame ⟨by simp, fun p hp => by cases p <;> simp_all [Part.same]⟩

/-- The end of one pending timed command: its reply, and what its loss means for the Rigging. -/
def timedEnd (st : Status) (d : ℕ) (s : State) (t : TimedCmd) : State := switchLost t (timedReply t st d [] s)

theorem steady_timedEnd (st : Status) (d : ℕ) (s : State) (t : TimedCmd) :
    Steady [.rig, .sk, .host, .out, .regs, .boot] s (timedEnd st d s t) :=
  ((steady_timedReply ..).mono (by decide)).trans ((steady_switchLost ..).mono (by decide))

theorem timedEnd_rig (st : Status) (d : ℕ) (s : State) (t : TimedCmd) : (timedEnd st d s t).rig = droppedRig t.switches s.rig := by
  rw [timedEnd, switchLost_rig, timedReply_rig]

theorem foldl_timedEnd_rig (st : Status) (d : ℕ) (l : List TimedCmd) (s : State) :
    (l.foldl (timedEnd st d) s).rig = droppedRig (l.any TimedCmd.switches) s.rig := by
  induction l generalizing s with
  | nil => rfl
  | cons t l ih => rw [List.foldl_cons, ih, timedEnd_rig, droppedRig_droppedRig, List.any_cons]

theorem endTimed_all (st : Status) (d : ℕ) (s : State) :
    endTimed st d (fun _ => true) s = when (!s.cmd.timed.isEmpty) (raiseInt 0 .cmdIntStatus [] 1)
      (s.cmd.timed.foldl (timedEnd st d) { s with cmd := { s.cmd with timed := [] } }) := by
  simp only [endTimed, List.filter_true, Bool.not_true, List.filter_false]
  rfl

theorem steady_endTimed_all (st : Status) (d : ℕ) (s : State) :
    Steady [.rig, .sk, .host, .cmd, .out, .regs, .boot] { s with cmd := { s.cmd with timed := [] } } (endTimed st d (fun _ => true) s) := by
  rw [endTimed_all]
  exact ((steady_foldl _ (steady_timedEnd st d) _).mono (by decide)).trans (steady_when ((steady_raiseInt ..).mono (by decide)))

theorem endTimed_all_rig (st : Status) (d : ℕ) (s : State) :
    (endTimed st d (fun _ => true) s).rig = droppedRig s.pendingCommit.isSome s.rig := by
  have pending : s.pendingCommit.isSome = s.cmd.timed.any TimedCmd.switches := List.isSome_find? ..
  rw [endTimed_all, when_rig _ _ _ (fun x => raiseInt_rig ..), foldl_timedEnd_rig, pending]

end Sys2Proof.Machine
end

section
namespace Sys2Proof.Machine

/-! ### STEP_APPLY (R45, R68) -/

/-- The boundary-clock service's reading of its parent's messages touches what it keeps of them, and a free value. -/
theorem hearParent_mast (s : State) : (hearParent s).mast.tsEpoch = s.mast.tsEpoch ∧ (hearParent s).mast.running = s.mast.running := by
  unfold hearParent
  split
  · exact ⟨rfl, rfl⟩
  · simp only []
    split
    · exact ⟨rfl, rfl⟩
    · exact ⟨rfl, rfl⟩

theorem frame_hearParent (s : State) : Frame [.mast, .freeCtr] s (hearParent s) := by
  unfold hearParent
  split
  · exact Frame.refl _ _
  · simp only []
    split
    · exact ⟨rfl, fun p hp => by cases p <;> simp_all [Part.same, takeFree]⟩
    · exact ⟨rfl, fun p hp => by cases p <;> simp_all [Part.same, takeFree, keepAnnounce]⟩

theorem steady_hearParent (s : State) : Steady [.mast, .freeCtr] s (hearParent s) :=
  ⟨frame_hearParent s, congrArg CmdState.timed ((frame_hearParent s).2 .cmd (by decide)), (hearParent_mast s).2⟩

theorem steady_setServo (v : Servo) (s : State) : Steady [.mast] s (s.setServo v) :=
  ⟨⟨rfl, fun p hp => by cases p <;> simp_all [Part.same]⟩, rfl, rfl⟩

theorem steady_servoChanged (old : ServoState) (s : State) : Steady [.host, .cmd, .out, .regs] s (servoChanged old s) := by
  unfold servoChanged
  exact ((steady_raiseInt ..).mono (by decide)).trans <| ((steady_when (steady_raiseInt ..)).mono (by decide)).trans <|
    ((steady_when (steady_raiseInt ..)).mono (by decide)).trans (steady_postEvent ..)

/-- The servo with a step applied (Table 2-6). -/
def acquiring (s : State) : State :=
  let u := hearParent s
  u.setServo { u.mast.servo with state := .acquire, lockRun := 0, heldClass := u.clockClass }

theorem steady_acquiring (s : State) : Steady [.mast, .freeCtr] s (acquiring s) :=
  (steady_hearParent s).trans ((steady_setServo ..).mono (by decide))

theorem steady_enterAcquire (s : State) : Steady [.host, .cmd, .out, .regs] (acquiring s) (enterServo .acquire s) :=
  steady_servoChanged ..

theorem enterAcquire_mast (s : State) :
    (enterServo .acquire s).mast.servo.state = .acquire ∧ (enterServo .acquire s).mast.tsEpoch = s.mast.tsEpoch := by
  rw [show (enterServo .acquire s).mast = (acquiring s).mast from (steady_enterAcquire s).frame.2 .mast (by decide)]
  exact ⟨rfl, (hearParent_mast s).1⟩

theorem steady_enterAcquire_all (s : State) : Steady [.mast, .host, .cmd, .out, .regs, .freeCtr] s (enterServo .acquire s) :=
  ((steady_acquiring s).mono (by decide)).trans ((steady_enterAcquire s).mono (by decide))

/-- The counters, the servo's epoch and the Rigging at the tick of a step: everything that the step changes at once. -/
def steppedClock (s : State) : State :=
  let new := s.time.master.add48 (s.mast.servo.delta * 4294967296)
  let ep := (s.mast.tsEpoch + 1) % 4
  let u := loadTime new s
  let v : State := { u with
    mast := { u.mast with tsEpoch := ep, ppsStepFlag := true }
    rig := { u.rig with
      evaluated := u.rig.evaluated.filter fun v => decide (v.sched < s.tick)
      lastAnchor := [], symbol := [], stepTick := some s.tick, notBefore := s.tick + 288
      discTime := new, discEpoch := ep, discDelta := s.mast.servo.delta
      tlPending := tmapv none (fun _ p => p.map fun x => { x with notBefore := max (x.accepted + msTicks) (s.tick + 288) })
        u.rig.tlPending } }
  tenStep s.now16 v.now16 v

theorem steady_steppedClock (s : State) : Steady [.time, .mast, .rig, .out] s (steppedClock s) :=
  ⟨⟨rfl, fun p hp => by cases p <;> simp_all [Part.same, steppedClock, tenStep, loadTime]⟩, rfl, rfl⟩

/-- The interrupts, the counts and the notices of a step at tick T, into epoch ep (R68). -/
def stepNotices (t ep : ℕ) (discarded : List RigEvent) (s : State) : State :=
  let skipped := s.skippedAt t discarded
  let u := when (skipped != 0) (raiseInt 5 .rigIntStatus [] 3) (s.bump .rigCounters [] 63 32 skipped)
  let v := raiseInt 7 .mcIntStatus [] 4 (raiseInt 5 .rigIntStatus [] 0 u)
  (List.range 4).foldl (fun s q => postHook q { w0 := evWord0 4 4 0 ep, hard := true } s)
    (postEvent 0 [v.rig.discTime.hi, v.regView .discTime1 [], v.regView .discDelta []] v)

/-- What a step's notices touch. -/
abbrev noticeParts : List Part := [.hk, .host, .cmd, .out, .flt, .regs, .power]

theorem steady_stepNotices (t ep : ℕ) (discarded : List RigEvent) (s : State) : Steady noticeParts s (stepNotices t ep discarded s) := by
  unfold stepNotices
  exact ((steady_bump ..).mono (by decide)).trans <| ((steady_when (steady_raiseInt ..)).mono (by decide)).trans <|
    ((steady_raiseInt ..).mono (by decide)).trans <| ((steady_raiseInt ..).mono (by decide)).trans <|
    ((steady_postEvent ..).mono (by decide)).trans (steady_foldl _ (fun _ _ => steady_postHook ..) _)

/-- What a step means for waits, Skeins and cell sleep. -/
def stepSettled (t ep : ℕ) (s : State) : State :=
  (List.range 8).foldl (fun s k => sleepStep k t ep s) (skeinStep t s.now16 (stepWaits ep s))

theorem steady_stepSettled (t ep : ℕ) (s : State) : Steady closeParts s (stepSettled t ep s) :=
  ((steady_stepWaits ..).mono (by decide)).trans <| (steady_skeinStep ..).trans
    ((steady_foldl _ (fun _ _ => steady_sleepStep ..) _).mono (by decide))

theorem stepSettled_mast (t ep : ℕ) (s : State) : (stepSettled t ep s).mast = s.mast := (steady_stepSettled t ep s).frame.2 .mast (by decide)

/-- The state of a step up to the pending timed commands, which it then ends. -/
def steppedTold (s : State) : State :=
  stepNotices s.tick ((s.mast.tsEpoch + 1) % 4) (s.rig.evaluated.filter fun v => decide (s.tick ≤ v.sched)) (steppedClock s)

/-- The state of a step that has ended every pending timed command. -/
def stepEnded (s : State) : State := endTimed .discontinuityCancelled ((s.mast.tsEpoch + 1) % 4) (fun _ => true) (steppedTold s)

theorem stepApply_eq {s : State} (h : s.stepNow = true) :
    stepApply s = enterServo .acquire (stepSettled s.tick ((s.mast.tsEpoch + 1) % 4) (stepEnded s)) := by
  have now : ((!s.stepNow) = true) = False := by simp [h]
  simp only [stepApply, now, if_false]
  rfl

end Sys2Proof.Machine
end

section
namespace Sys2Proof.Machine

theorem steady_steppedTold (s : State) : Steady (.time :: .mast :: .rig :: noticeParts) s (steppedTold s) :=
  ((steady_steppedClock s).mono (by decide)).trans ((steady_stepNotices ..).mono (by decide))

/-- The Rigging and the time that a step loads are in place before the notices. -/
theorem steppedTold_rig (s : State) : (steppedTold s).rig = (steppedClock s).rig :=
  (steady_stepNotices ..).frame.2 .rig (by decide)

theorem steppedTold_time (s : State) : (steppedTold s).time = (steppedClock s).time :=
  (steady_stepNotices ..).frame.2 .time (by decide)

theorem steppedTold_mast (s : State) : (steppedTold s).mast = (steppedClock s).mast :=
  (steady_stepNotices ..).frame.2 .mast (by decide)

theorem steppedClock_tsEpoch (s : State) : (steppedClock s).mast.tsEpoch = (s.mast.tsEpoch + 1) % 4 := rfl

theorem steppedTold_pendingCommit (s : State) : (steppedTold s).pendingCommit = s.pendingCommit :=
  congrArg (List.find? _) (steady_steppedTold s).timed

theorem stepEnded_timed (s : State) : (stepEnded s).cmd.timed = [] := (steady_endTimed_all ..).timed

theorem stepEnded_rig (s : State) : (stepEnded s).rig = droppedRig s.pendingCommit.isSome (steppedClock s).rig := by
  rw [stepEnded, endTimed_all_rig, steppedTold_pendingCommit, steppedTold_rig]

theorem stepEnded_time (s : State) : (stepEnded s).time = (steppedClock s).time := by
  rw [stepEnded, endTimed_time, steppedTold_time]

theorem stepEnded_mast (s : State) : (stepEnded s).mast = (steppedClock s).mast := by
  rw [stepEnded, endTimed_mast, steppedTold_mast]

/-- What a step touches. -/
abbrev stepParts : List Part := [.time, .mast, .rig, .hk, .sk, .host, .cmd, .out, .flt, .regs, .power, .boot, .freeCtr]

theorem frame_stepEnded (s : State) : Frame stepParts s (stepEnded s) := by
  have cleared : Frame [.cmd] (steppedTold s) { steppedTold s with cmd := { (steppedTold s).cmd with timed := [] } } :=
    ⟨rfl, fun p hp => by cases p <;> simp_all [Part.same]⟩
  exact Frame.trans ((steady_steppedTold s).mono (by decide)).frame
    (Frame.trans (Frame.mono (by decide) cleared) ((steady_endTimed_all ..).mono (by decide)).frame)

/-- After the end of the pending commands a step leaves time and Rigging alone. -/
theorem steady_stepApply {s : State} (h : s.stepNow = true) :
    Steady [.mast, .hk, .sk, .host, .cmd, .out, .flt, .regs, .power, .freeCtr] (stepEnded s) (stepApply s) := by
  rw [stepApply_eq h]
  exact ((steady_stepSettled ..).mono (by decide)).trans ((steady_enterAcquire_all _).mono (by decide))

theorem stepApply_mast {s : State} (h : s.stepNow = true) :
    (stepApply s).mast.servo.state = .acquire ∧ (stepApply s).mast.tsEpoch = (s.mast.tsEpoch + 1) % 4 := by
  obtain ⟨acquire, kept⟩ := enterAcquire_mast (stepSettled s.tick ((s.mast.tsEpoch + 1) % 4) (stepEnded s))
  rw [stepApply_eq h]
  refine ⟨acquire, ?_⟩
  rw [kept, stepSettled_mast, stepEnded_mast, steppedClock_tsEpoch]

/-- Of the evaluated events a step leaves those before it, and those of a bank whose switch it ends go with the switch. -/
theorem droppedRig_steppedClock_evaluated (s : State) : (droppedRig s.pendingCommit.isSome (steppedClock s).rig).evaluated
    = s.rig.evaluated.filter (fun v => decide (v.sched < s.mast.tick) && (s.pendingCommit.isNone || v.bank == s.rig.active)) := by
  have before : (steppedClock s).rig.evaluated = s.rig.evaluated.filter fun v => decide (v.sched < s.mast.tick) := rfl
  have active : (steppedClock s).rig.active = s.rig.active := rfl
  cases hp : s.pendingCommit with
  | none => simp [droppedRig, before]
  | some p => simp [droppedRig, before, active, List.filter_filter, Bool.and_comm]

theorem exec_stepApply_live {s : State} (h : Live s) (hp : (stepApply s).pending = s.pending) :
    exec .stepApply s = .next (stepApply s) := by
  change finish s (stepApply s) = _
  simp [finish, h.1, ← hp]

theorem droppedRig_stepTick (b : Bool) (r : Rig) : (droppedRig b r).stepTick = r.stepTick := by cases b <;> rfl

theorem droppedRig_notBefore (b : Bool) (r : Rig) : (droppedRig b r).notBefore = r.notBefore := by cases b <;> rfl

theorem goes_stepApply {s : State} (h : Live s) (hn : s.stepNow = true) :
    Goes .stepApply s [.time, .mast, .rig, .hk, .sk, .host, .cmd, .out, .flt, .regs, .power, .boot, .freeCtr] fun t =>
      t.time.master = s.time.master.add48 (s.mast.servo.delta * 4294967296)
      ∧ t.time.replicas = s.time.replicas.map (fun _ => { t := s.time.master.add48 (s.mast.servo.delta * 4294967296) })
      ∧ t.mast.tsEpoch = (s.mast.tsEpoch + 1) % 4 ∧ t.mast.servo.state = .acquire ∧ t.cmd.timed = []
      ∧ t.rig.stepTick = some s.mast.tick ∧ t.rig.notBefore = s.mast.tick + 288
      ∧ t.rig.evaluated = s.rig.evaluated.filter (fun v => decide (v.sched < s.mast.tick)
          && (s.pendingCommit.isNone || v.bank == s.rig.active)) := by
  have after := steady_stepApply hn
  have frame : Frame stepParts s (stepApply s) := Frame.trans (frame_stepEnded s) (after.mono (by decide)).frame
  have time : (stepApply s).time = (steppedClock s).time := (after.frame.2 .time (by decide)).trans (stepEnded_time s)
  have rig : (stepApply s).rig = droppedRig s.pendingCommit.isSome (steppedClock s).rig :=
    (after.frame.2 .rig (by decide)).trans (stepEnded_rig s)
  obtain ⟨acquire, epoch⟩ := stepApply_mast hn
  refine ⟨stepApply s, exec_stepApply_live h frame.1, frame, congrArg TimeState.master time, congrArg TimeState.replicas time, epoch, acquire,
    after.timed.trans (stepEnded_timed s), ?_, ?_, ?_⟩
  all_goals rw [rig]
  · exact droppedRig_stepTick ..
  · exact droppedRig_notBefore ..
  · exact droppedRig_steppedClock_evaluated s

/-- Settles O9: each row's clause is a lemma of its own above. A bank switch settles the Rigging before its notice and the replay, which
touch it no more; a step changes time, epoch and Rigging at once, and what follows it ends the pending commands and nothing of these. -/
theorem riggingRuns : Obligations.RiggingRuns := by
  intro s h
  refine ⟨?_, ?_, ?_, ?_, ?_, ?_, ?_⟩
  · exact fun p hp hf ha => goes_bankSwitch h hp hf ha
  · exact fun b i a x hb hi hc hv ho hl hf hs hn => goes_riggingEvaluate h hb hi hc hv ho hl hf hs hn
  · exact fun n hn hc => goes_symbolBoundary h hn hc
  · exact fun hn => goes_stepApply h hn
  · exact fun n hn ht => goes_resolveReplay h hn ht
  · exact fun n path hn => goes_tlPosRead h path hn
  · exact fun n path l hn hl => goes_tlFrameCntRead h hn hl

end Sys2Proof.Machine
end

section
/-! ### Mast time arithmetic (R16, R17): the count of 2^-48 ns that a time names, and what adding to it gives -/

namespace Sys2Proof.Machine

theorem MTime.legal_iff (t : MTime) :
    t.legal = true ↔ t.sec < 281474976710656 ∧ t.ns < 1000000000 ∧ t.frac < 65536 ∧ t.sub < 4294967296 := by
  simp [MTime.legal, and_assoc]

theorem MTime.legal_of48 (x : ℤ) : (MTime.of48 x).legal = true := by
  rw [MTime.legal_iff]
  simp only [MTime.of48]
  omega

/-- A count names a time that stands for it, modulo 2^48 s. -/
theorem MTime.to48_of48 (x : ℤ) :
    (MTime.of48 x).to48 = x + -(x / (2 ^ 48 * 10 ^ 9 * 65536 * 2 ^ 32)) * (2 ^ 48 * 10 ^ 9 * 65536 * 2 ^ 32) := by
  simp only [MTime.to48, MTime.of48]
  omega

theorem MTime.legal_add48 (t : MTime) (d : ℤ) : (t.add48 d).legal = true := MTime.legal_of48 _

/-- The seconds of a sum: what is left of the count after the present second decides whether one more has begun. -/
theorem MTime.sec_add48 {t : MTime} {d : ℤ} (h : t.legal = true) (h0 : 0 ≤ d) (h1 : d < 10 ^ 9 * 65536 * 2 ^ 32) (hs : t.sec + 1 < 2 ^ 48) :
    (t.add48 d).sec
      = if (t.to48 + d) - (t.sec : ℤ) * (10 ^ 9 * 65536 * 2 ^ 32) < 10 ^ 9 * 65536 * 2 ^ 32 then t.sec else t.sec + 1 := by
  obtain ⟨_, hns, hfrac, hsub⟩ := t.legal_iff.mp h
  simp only [MTime.add48, MTime.of48]
  split <;> rename_i hl <;> simp only [MTime.to48] at hl ⊢ <;> omega

/-! ### The counters of Mast time -/

/-- A step that is no step of the Mast clock: time stands, or a reset has stopped the clock with every counter at 0 (Table 18-2). -/
def TimeKept (s t : State) : Prop := t.time = s.time ∨ (t.time = {} ∧ t.mast.running = false)

theorem timeLegal_empty {s : State} (h : s.time = {}) : TimeLegal s := by
  simp only [TimeLegal, h]
  decide

theorem timeLegal_congr {s t : State} (h : t.time = s.time) (hs : TimeLegal s) : TimeLegal t := by
  unfold TimeLegal
  rwa [h]

theorem TimeKept.legal {s t : State} (h : TimeKept s t) (hs : TimeLegal s) : TimeLegal t :=
  h.elim (fun e => timeLegal_congr e hs) fun e => timeLegal_empty e.1

theorem TimeKept.time_eq {s t : State} (h : TimeKept s t) (hr : t.mast.running = true) : t.time = s.time :=
  h.elim id fun e => by simp [e.2] at hr

end Sys2Proof.Machine
end

section
namespace Sys2Proof.Machine

/-! ### The tick (R16, R17): what follows the count in a tick leaves time and the servo alone -/

/-- From s to t the outputs of the Mast clock have moved, and nothing that it counts. -/
structure ClockHolds (s t : State) : Prop where
  steady : Steady [.mast, .out, .regs] s t
  regs : RegsBut [regAddr .mcIntStatus [], regAddr .intSignalCnt []] s t
  tick : t.mast.tick = s.mast.tick
  params : t.mast.params = s.mast.params
  servo : t.mast.servo = s.mast.servo

theorem ClockHolds.refl (s : State) : ClockHolds s s := ⟨Steady.refl _ s, RegsBut.refl _ s, rfl, rfl, rfl⟩

theorem ClockHolds.trans {s t u : State} (f : ClockHolds s t) (g : ClockHolds t u) : ClockHolds s u :=
  ⟨f.steady.trans g.steady, RegsBut.trans f.regs g.regs, g.tick.trans f.tick, g.params.trans f.params, g.servo.trans f.servo⟩

theorem clockHolds_ite {c : Prop} [Decidable c] {s t u : State} (h : ClockHolds s t) (k : ClockHolds s u) :
    ClockHolds s (if c then t else u) := by
  split
  · exact h
  · exact k

theorem clockHolds_foldl {α : Type} (xs : List α) {f : State → α → State} (h : ∀ s x, ClockHolds s (f s x)) (s : State) :
    ClockHolds s (xs.foldl f s) := by
  induction xs generalizing s with
  | nil => exact .refl s
  | cons x xs ih => exact (h s x).trans (ih _)

/-- A change of what the Mast clock shows, and of what it sends, holds its count. -/
theorem clockHolds_set {s : State} (m : Mast) (o : Out) (hr : m.running = s.mast.running) (ht : m.tick = s.mast.tick)
    (hp : m.params = s.mast.params) (hs : m.servo = s.mast.servo) : ClockHolds s { s with mast := m, out := o } :=
  ⟨⟨⟨rfl, fun p hp => by cases p <;> simp_all [Part.same]⟩, rfl, hr⟩, RegsBut.of_eq rfl, ht, hp, hs⟩

theorem clockHolds_ppsFall (x : ℕ) (s : State) : ClockHolds s (ppsFall x s) := by
  unfold ppsFall
  split
  · exact clockHolds_ite (clockHolds_set _ _ rfl rfl rfl rfl) (.refl s)
  · exact .refl s

theorem clockHolds_ppsOut (sec x : ℕ) (s : State) : ClockHolds s (ppsOut sec x s) :=
  clockHolds_ite (.refl s) (clockHolds_set _ _ rfl rfl rfl rfl)

theorem clockHolds_tenRelease (s : State) : ClockHolds s (tenRelease s) := by
  unfold tenRelease
  split
  · exact clockHolds_ite (clockHolds_set _ s.out rfl rfl rfl rfl) (.refl s)
  · exact .refl s

theorem clockHolds_pinEdge (pin : ℕ) (level : Bool) (note : ℕ) (s : State) : ClockHolds s (pinEdge pin level note s) :=
  clockHolds_set s.mast _ rfl rfl rfl rfl

theorem clockHolds_setSynce (l : List SyncEOut) (s : State) : ClockHolds s { s with mast := { s.mast with synce := l } } :=
  clockHolds_set _ s.out rfl rfl rfl rfl

theorem clockHolds_squelchInt (c : Bool) (s : State) : ClockHolds s (when c (raiseInt 7 .mcIntStatus [] 10) s) :=
  ⟨(steady_when (steady_raiseInt ..)).mono (by decide), regsBut_when _ _ _ fun x => regsBut_raiseInt _ _ _ _ x (by simp) (by simp),
    by simp, by simp, by simp⟩

theorem clockHolds_synceOne (i : ℕ) (s : State) : ClockHolds s (synceOne i s) := by
  unfold synceOne
  refine clockHolds_ite (.refl s) ?_
  exact (clockHolds_setSynce _ s).trans ((clockHolds_squelchInt _ _).trans (clockHolds_pinEdge ..))

theorem clockHolds_synceUpdate (s : State) : ClockHolds s (synceUpdate s) := clockHolds_foldl _ (fun s i => clockHolds_synceOne i s) s

/-- The count of n ticks: the increment n times in the master counter and in every replica, and the servo's LOCKED time. -/
def countedTicks (n : ℕ) (s : State) : State :=
  { s with
    time := { master := s.time.master.add48 (s.inc48 * n), replicas := s.time.replicas.map fun r => { t := r.t.add48 (s.inc48 * n) } }
    mast := { s.mast with
      tick := s.mast.tick + n
      servo := if s.mast.servo.state = .locked then
          { s.mast.servo with
            lockedTotal := s.mast.servo.lockedTotal + n
            lockedSegs := match s.mast.servo.lockedSegs with
              | (f, k) :: r => if f = s.mast.servo.freqAdj then (f, k + n) :: r
                else (s.mast.servo.freqAdj, n) :: cutSegs (1024 * secTicks) s.mast.servo.lockedSegs
              | [] => [(s.mast.servo.freqAdj, n)] }
        else s.mast.servo } }

theorem countedTicks_servo (n : ℕ) (s : State) :
    (countedTicks n s).mast.servo.freqAdj = s.mast.servo.freqAdj ∧ (countedTicks n s).mast.servo.state = s.mast.servo.state := by
  simp only [countedTicks]
  split <;> exact ⟨rfl, rfl⟩

/-- The seconds that begin in n ticks, each with its tick. -/
def begunSeconds (n : ℕ) (s : State) : List (ℕ × ℕ) :=
  ((List.range ((s.time.master.add48 (s.inc48 * n)).sec - s.time.master.sec)).map fun k => s.time.master.sec + 1 + k).map fun x =>
    (x, (s.boundaryTick ((x : ℤ) * sec16)).toNat)

theorem mastTick_eq (n : ℕ) (s : State) : mastTick n s = tenRelease (synceUpdate (ppsFall (s.mast.tick + n)
    ((begunSeconds n s).foldl (fun s x => ppsOut x.1 x.2 (ppsFall x.2 s)) (countedTicks n s)))) := rfl

/-- After the count PPS_OUT, SYNCE_CLK and the 10 MHz output follow. -/
theorem clockHolds_mastTick (n : ℕ) (s : State) : ClockHolds (countedTicks n s) (mastTick n s) := by
  rw [mastTick_eq]
  exact (clockHolds_foldl _ (fun s _ => (clockHolds_ppsFall ..).trans (clockHolds_ppsOut ..)) _).trans <|
    (clockHolds_ppsFall ..).trans <| (clockHolds_synceUpdate _).trans (clockHolds_tenRelease _)

theorem mastTick_time (n : ℕ) (s : State) : (mastTick n s).time = (countedTicks n s).time :=
  (clockHolds_mastTick n s).steady.frame.2 .time (by decide)

/-! What the tick does besides: reseeds go on loading (R147), the idle conditions of the domains are timed (R340). -/

theorem frame_modTl (k : ℕ) (f : TileState → TileState) (s : State) : Frame [.pk] s (s.modTl k f) :=
  ⟨rfl, fun p hp => by cases p <;> simp_all [Part.same]⟩

theorem frame_memWrite (b n mem addr : ℕ) (s : State) : Frame [.flt] s (memWrite b n mem addr s) :=
  ⟨by simp, fun p hp => by cases p <;> simp_all [Part.same]⟩

theorem frame_memClearWhere (q : ℕ → Bool) (s : State) : Frame [.flt] s (memClearWhere q s) :=
  ⟨rfl, fun p hp => by cases p <;> simp_all [Part.same]⟩

theorem frame_foldl {α : Type} {l : List Part} (xs : List α) {f : State → α → State} (h : ∀ s x, Frame l s (f s x)) (s : State) :
    Frame l s (xs.foldl f s) := by
  induction xs generalizing s with
  | nil => exact Frame.refl l s
  | cons x xs ih => exact Frame.trans (h s x) (ih _)

theorem frame_l2Load (k : ℕ) (s : State) : Frame [.pk, .flt] s (l2Load k s) := by
  unfold l2Load
  split
  · exact Frame.refl _ s
  · simp only []
    split
    · exact Frame.refl _ s
    · exact Frame.trans (Frame.mono (by decide) (frame_memClearWhere ..)) <|
        Frame.trans (Frame.mono (by decide) (frame_memWrite ..)) (Frame.mono (by decide) (frame_modTl ..))

theorem frame_loadSets (s : State) : Frame [.pk, .flt] s (loadSets s) := frame_foldl _ (fun s k => frame_l2Load k s) s

theorem frame_idleClock (s : State) : Frame [.power] s (idleClock s) := frame_foldl _ (fun s d => (steady_setDomain d _ s).frame) s

theorem afterTick_time (s : State) : (idleClock (loadSets s)).time = s.time :=
  ((frame_idleClock _).2 .time (by decide)).trans ((frame_loadSets s).2 .time (by decide))

end Sys2Proof.Machine
end

section
namespace Sys2Proof.Machine

/-! ### How each row ends for the counters of Mast time -/

section
variable {s t u : State} {c : Cmd} {run : State → State}

theorem timeKept_timeAfter (h : t.time = timeAfter s t) : TimeKept s t := by
  unfold timeAfter at h
  split at h
  · exact .inl h
  · exact .inr ⟨h, by simp_all⟩

theorem timeKept_keep (h : keep s u = .next t) : TimeKept s t := by
  unfold keep at h
  split at h
  · cases h; exact .inl rfl
  · cases h; exact timeKept_timeAfter rfl

theorem timeKept_keepOn (h : keepOn s u = .next t) : TimeKept s t := by
  cases h; exact timeKept_timeAfter rfl

theorem timeKept_finishOn (k : TimeKept s u) (h : finishOn s u = .next t) : TimeKept s t := by
  cases h; exact k

/-- A packet behind which none of a lower source code waits takes itself alone. -/
theorem timeKept_commandRow (ha : s.ahead c = []) (h : commandRow run c s = .next t) : TimeKept s t := by
  simp only [commandRow, ha, List.isEmpty_nil, if_true] at h
  exact timeKept_keep h

/-- What a row that may carry MAST_SET_TIME leaves is legal: it is checked, or time is kept. -/
theorem timeLegal_keepTaken (hs : TimeLegal s) (h : keepTaken s u = .next t) : TimeLegal t := by
  unfold keepTaken at h
  split at h
  · cases h; exact hs
  · cases h
    unfold timeTaken
    split
    · rename_i ok
      simp only [Bool.and_eq_true, beq_iff_eq, List.all_eq_true] at ok
      obtain ⟨⟨⟨_, hm⟩, hl⟩, hr⟩ := ok
      exact ⟨hm, hl.trans hs.2.1, hr⟩
    · exact (timeKept_timeAfter rfl : TimeKept s _).legal hs

theorem timeLegal_finish (hs : TimeLegal s) (hu : TimeLegal u) (h : finish s u = .next t) : TimeLegal t := by
  unfold finish at h
  split at h
  · cases h; exact hs
  · cases h; exact hu

end

/-! ### Resets (Table 18-1): a cold one stops the Mast clock, a warm one lets it run on -/

theorem settleForces_time (s : State) : (settleForces s).time = s.time := by
  unfold settleForces
  split <;> rfl

theorem settleForces_mast (s : State) : (settleForces s).mast = s.mast := by
  unfold settleForces
  split <;> rfl

theorem goodbyeAll_time (s : State) : (goodbyeAll s).time = s.time :=
  foldl_time _ _ (fun s p => by split <;> rfl) s

theorem advanceAll_time (s : State) : (advanceAll s).time = s.time := foldl_time _ _ (fun s k => bumpEpoch_time k 38 s) s

theorem classEpochs_time (s : State) : (classEpochs s).time = s.time := foldl_time _ _ (by intro _ _; rfl) s

theorem timeKept_resetCold (s u : State) : TimeKept s (resetCore false u) := by
  unfold resetCore
  exact .inr ⟨by simp [settleForces_time], by simp [settleForces_mast]⟩

theorem warmCore_time (s : State) : (resetCore true s).time = s.time := by
  unfold resetCore
  simp [settleForces_time, classEpochs_time, advanceAll_time, goodbyeAll_time]

theorem TimeKept.congr {s t u : State} (h : TimeKept s t) (ht : u.time = t.time) (hm : u.mast = t.mast) : TimeKept s u := by
  unfold TimeKept
  rwa [ht, hm]

theorem timeKept_coldReset (s u : State) (cause : ℕ) (h : u.time = s.time) : TimeKept s (coldReset cause u) := by
  unfold coldReset
  split
  · exact .inl h
  · exact (timeKept_resetCold s u).congr (State.setRgf_time ..) (State.setRgf_mast ..)

/-- The end of a warm reset: the assignments of R335 come back, every function shows STATE_LOST (Table 18-1). -/
def functionsLost (old : Tbl W) (u : State) : State :=
  let t := u.bump .resetCause [] 31 16
  let t := { t with regs := old.foldl (fun r x => tset (regReset x.1) r x.1 x.2) t.regs, cmd := { t.cmd with msixOff := List.range 64 } }
  (List.range 64).foldl (fun t f => raiseFn f 1 (t.setFn f { lost := true })) t

theorem warmReset_eq (cause : ℕ) (s : State) :
    warmReset cause s = if s.resetHeld then s else functionsLost s.assignments (writeCause cause (resetCore true s)) := rfl

theorem functionsLost_time (old : Tbl W) (u : State) : (functionsLost old u).time = u.time := by
  unfold functionsLost
  rw [foldl_time _ _ fun t f => by simp]
  simp

theorem warmReset_time (cause : ℕ) (s : State) : (warmReset cause s).time = s.time := by
  rw [warmReset_eq]
  split
  · rfl
  · rw [functionsLost_time, writeCause, State.setRgf_time, warmCore_time]

theorem timeKept_devResetWrite (v : W) (s : State) : TimeKept s (devResetWrite v s) := by
  unfold devResetWrite
  split
  · exact .inl rfl
  · simp only []
    split
    · exact timeKept_coldReset s _ 2 (State.setRg_time ..)
    · exact .inl ((warmReset_time ..).trans (State.setRg_time ..))

/-- What a power-on reset sets beside the reset itself (R369, R417). -/
def poweredUp (tick : ℕ) (u : State) : State :=
  let t := (u.setRg .devResetCtl [] 0).setRg .resetCause [] 0
  { t with
    sec := { t.sec with tamper := 0, lockerLost := false }
    power := { t.power with
      pwrGood := true, mainPower := true, floating := true, lateN := true, thermTripN := true, goodSince := tick, earlySince := none
      vcore := 820, vcoreTarget := 820 } }

theorem poweredUp_time (tick : ℕ) (u : State) : (poweredUp tick u).time = u.time := rfl

theorem poweredUp_mast (tick : ℕ) (u : State) : (poweredUp tick u).mast = u.mast := rfl

theorem powerOn_eq (s : State) : powerOn s = if s.power.pwrGood then s else poweredUp s.tick (resetCore false { s with port := {} }) := rfl

theorem timeKept_powerOn (s : State) : TimeKept s (powerOn s) := by
  rw [powerOn_eq]
  split
  · exact .inl rfl
  · exact (timeKept_resetCold s _).congr (poweredUp_time ..) (poweredUp_mast ..)

theorem TimeKept.setPower {s u : State} (h : TimeKept s u) (p : Power) : TimeKept s { u with power := p } := h

theorem timeKept_reinsert (s : State) : TimeKept s (reinsert s) := by
  unfold reinsert
  split
  · exact .inl rfl
  · split
    · exact .inl rfl
    · generalize hx : ({ s with power := { s.power with removed := false, removing := none, seatSince := none } } : State) = x
      have time : x.time = s.time := hx ▸ rfl
      exact (timeKept_coldReset s x 3 time).setPower _

theorem timeKept_sidebandWake (s : State) : TimeKept s (sidebandWake s) := by
  unfold sidebandWake
  split
  · exact timeKept_coldReset s s 4 rfl
  · split
    · exact .inl (foldl_time _ _ (fun s d => by simp) _)
    · exact .inl (beginExit_time ..)

theorem timeKept_ite {p : Prop} [Decidable p] {s t u : State} (h : TimeKept s t) (k : TimeKept s u) : TimeKept s (if p then t else u) := by
  split
  · exact h
  · exact k

/-! ### The rows that move Mast time -/

theorem timeLegal_map {t : State} (l : List Replica) (f : Replica → MTime) (hl : l.length = 20) (hf : ∀ r, (f r).legal = true)
    (hm : t.time.master.legal = true) (ht : t.time.replicas = l.map fun r => { t := f r }) : TimeLegal t := by
  refine ⟨hm, by simp [ht, hl], fun r hr => ?_⟩
  rw [ht] at hr
  obtain ⟨x, _, rfl⟩ := List.mem_map.mp hr
  exact hf x

theorem timeLegal_mastTick (n : ℕ) {s : State} (h : TimeLegal s) : TimeLegal (idleClock (loadSets (mastTick n s))) := by
  have time := (afterTick_time (mastTick n s)).trans (mastTick_time n s)
  exact timeLegal_map s.time.replicas (fun r => r.t.add48 (s.inc48 * n)) h.2.1 (fun _ => MTime.legal_add48 ..)
    (by rw [time]; exact MTime.legal_add48 ..) (by rw [time]; rfl)

theorem timeLegal_stepApply {s : State} (h : TimeLegal s) : TimeLegal (stepApply s) := by
  by_cases hn : s.stepNow = true
  · have time : (stepApply s).time = (steppedClock s).time :=
      ((steady_stepApply hn).frame.2 .time (by decide)).trans (stepEnded_time s)
    exact timeLegal_map s.time.replicas (fun _ => s.time.master.add48 (s.mast.servo.delta * 4294967296)) h.2.1
      (fun _ => MTime.legal_add48 ..) (by rw [time]; exact MTime.legal_add48 ..) (by rw [time]; rfl)
  · have stands : stepApply s = s := by simp [stepApply, hn]
    rwa [stands]

theorem timeLegal_checkReplica (i : ℕ) {s : State} (h : TimeLegal s) : TimeLegal (checkReplica i s) := by
  unfold checkReplica
  split
  · exact h
  · simp only []
    split
    · exact h
    · refine timeLegal_congr (reportFault_time ..) ⟨by simpa using h.1, by simpa using h.2.1, fun r hr => ?_⟩
      rcases List.mem_or_eq_of_mem_set hr with hr | rfl
      · exact h.2.2 r (by simpa using hr)
      · simpa using h.1

theorem timeLegal_replicaCheck {s : State} (h : TimeLegal s) : TimeLegal (replicaCheck s) := by
  unfold replicaCheck
  generalize List.range 20 = l
  induction l generalizing s with
  | nil => exact h
  | cons i l ih => exact ih (timeLegal_checkReplica i h)

/-- The rows that may move Mast time: the Mast clock's own, those that carry MAST_SET_TIME, a domain's exit, and a packet that takes
others first. -/
inductive MovesTime : Instr → State → Prop
  | tick n s : MovesTime (.mastTick n) s
  | check s : MovesTime .replicaCheck s
  | step s : MovesTime .stepApply s
  | set c s : MovesTime (.mastSetTime c) s
  | frame p f s : MovesTime (.packetIngress p f) s
  | ring r l s : MovesTime (.ringFetchDone r l) s
  | exit d s : MovesTime (.domainExitDone d) s
  | behind {i c s} (hi : cmdOfInstr i = some c) (ha : s.ahead c ≠ []) : MovesTime i s

theorem timeLegal_commandRow {s t : State} {c : Cmd} {run : State → State} (hs : TimeLegal s) (h : commandRow run c s = .next t) :
    TimeLegal t := by
  unfold commandRow at h
  split at h
  · exact (timeKept_keep h).legal hs
  · exact timeLegal_keepTaken hs h

/-- A row of a packet keeps time, or takes others first. -/
theorem packet_time {i : Instr} {s t : State} {c : Cmd} {run : State → State} (hi : cmdOfInstr i = some c)
    (h : commandRow run c s = .next t) : TimeKept s t ∨ MovesTime i s ∧ (TimeLegal s → TimeLegal t) := by
  by_cases ha : s.ahead c = []
  · exact .inl (timeKept_commandRow ha h)
  · exact .inr ⟨.behind hi ha, fun hs => timeLegal_commandRow hs h⟩

/-- Every row keeps Mast time, or is one that may move it and leaves it legal. -/
theorem exec_time {i : Instr} {s t : State} (h : exec i s = .next t) : TimeKept s t ∨ MovesTime i s ∧ (TimeLegal s → TimeLegal t) := by
  cases i with
  | mastTick n =>
    refine .inr ⟨.tick n s, fun hs => ?_⟩
    change execMastTick n s = _ at h
    unfold execMastTick at h
    split at h
    · exact (timeKept_keepOn h).legal hs
    · split at h
      · exact (timeKept_keepOn h).legal hs
      · exact timeLegal_finish hs (timeLegal_mastTick n hs) h
  | replicaCheck =>
    refine .inr ⟨.check s, fun hs => timeLegal_finish hs ?_ h⟩
    unfold when
    split
    · exact timeLegal_replicaCheck hs
    · exact hs
  | stepApply => exact .inr ⟨.step s, fun hs => timeLegal_finish hs (timeLegal_stepApply hs) h⟩
  | mastSetTime c => exact .inr ⟨.set c s, fun hs => timeLegal_keepTaken hs h⟩
  | packetIngress p f => exact .inr ⟨.frame p f s, fun hs => timeLegal_keepTaken hs h⟩
  | ringFetchDone r l => exact .inr ⟨.ring r l s, fun hs => timeLegal_keepTaken hs h⟩
  | domainExitDone d =>
    refine .inr ⟨.exit d s, fun hs => ?_⟩
    change execDomainExitDone d s = _ at h
    unfold execDomainExitDone at h
    split at h
    · exact timeLegal_finish hs (timeLegal_empty rfl) h
    · exact timeLegal_keepTaken hs h
  | powerOnReset => exact .inl (timeKept_finishOn (timeKept_powerOn s) h)
  | resetNColdReset => exact .inl (timeKept_finishOn (timeKept_ite (.inl rfl) (timeKept_coldReset s s 1 rfl)) h)
  | coldResetCmd v => exact .inl (timeKept_finishOn (timeKept_ite (.inl rfl) (timeKept_devResetWrite v s)) h)
  | warmResetCmd v => exact .inl (timeKept_finishOn (timeKept_ite (.inl rfl) (timeKept_devResetWrite v s)) h)
  | reinsertReset => exact .inl (timeKept_finishOn (timeKept_reinsert s) h)
  | mainPowerLoss => exact .inl (timeKept_finishOn (.inr ⟨rfl, rfl⟩) h)
  | sidebandWake => exact .inl (timeKept_finishOn (timeKept_ite (.inl rfl) (timeKept_sidebandWake s)) h)
  | earlyPresentRise | earlyPresentFall | powerDown | perstNDeassert => exact .inl (timeKept_keepOn h)
  | tamper n =>
    change execTamper n s = _ at h
    unfold execTamper at h
    split at h
    · exact .inl (timeKept_keep h)
    · exact .inl (timeKept_keepOn h)
  | _ =>
    -- every other row is a packet's, or ends by `keep`
    first
    | exact packet_time rfl h
    | exact .inl (timeKept_keep h)

/-- Settles O43: the counters start at 0. -/
theorem resetTimeLegal : Obligations.ResetTimeLegal := timeLegal_empty rfl

/-- Settles O44: the step runs the front command, whose row keeps time or leaves it legal. -/
theorem stepKeepsTimeLegal : Obligations.StepKeepsTimeLegal := by
  intro s t hs h
  unfold step at h
  split at h
  · cases h; exact hs
  · exact (exec_time h).elim (fun k => k.legal hs) fun m => m.2 hs

/-- Settles O45: of the rows that may move time, the premise leaves none. -/
theorem onlyTheClockMovesTime : Obligations.OnlyTheClockMovesTime := by
  intro i s t h hr hi
  rcases exec_time h with k | ⟨m, _⟩
  · exact k.time_eq hr
  · exfalso
    cases m with
    | behind hc ha =>
      split at hi
      case h_8 => exact ha (hi _ hc)
      all_goals exact hi
    | _ => exact hi

end Sys2Proof.Machine
end

section
namespace Sys2Proof.Machine

/-! ### The tick's row -/

theorem domain_setDomain (s : State) (d e : ℕ) (v : Domain) : (s.setDomain d v).domain e = if e = d then v else s.domain e := by
  simp [State.domain, State.setDomain, tget_tset]

/-- From s to t the domains differ at most in how long they have been idle, and the rest of the power controller not at all. -/
structure OnlyIdle (s t : State) : Prop where
  power : { t.power with domains := [] } = { s.power with domains := [] }
  domain : ∀ d, { t.domain d with idleSince := [] } = { s.domain d with idleSince := [] }

theorem onlyIdle_of_power {s t : State} (h : t.power = s.power) : OnlyIdle s t :=
  ⟨by rw [h], fun d => by simp only [State.domain, h]⟩

theorem OnlyIdle.trans {s t u : State} (f : OnlyIdle s t) (g : OnlyIdle t u) : OnlyIdle s u :=
  ⟨g.power.trans f.power, fun d => (g.domain d).trans (f.domain d)⟩

theorem onlyIdle_setIdle (d : ℕ) (l : List ℕ) (s : State) : OnlyIdle s (s.setDomain d { s.domain d with idleSince := l }) := by
  refine ⟨rfl, fun e => ?_⟩
  rw [domain_setDomain]
  split
  · subst e; rfl
  · rfl

theorem onlyIdle_foldl {α : Type} (xs : List α) {f : State → α → State} (h : ∀ s x, OnlyIdle s (f s x)) (s : State) :
    OnlyIdle s (xs.foldl f s) := by
  induction xs generalizing s with
  | nil => exact onlyIdle_of_power rfl
  | cons x xs ih => exact (h s x).trans (ih _)

theorem onlyIdle_idleClock (s : State) : OnlyIdle s (idleClock s) := onlyIdle_foldl _ (fun s d => onlyIdle_setIdle d _ s) s

theorem loadSets_idle {s : State} (h : ∀ k < 16, (s.tl k).reseed = none) : loadSets s = s := by
  have stands : ∀ l : List ℕ, (∀ k ∈ l, k < 16) → l.foldl (fun s t => l2Load t s) s = s := by
    intro l
    induction l with
    | nil => exact fun _ => rfl
    | cons k l ih =>
      intro hl
      have one : l2Load k s = s := by simp [l2Load, h k (hl k (by simp))]
      rw [List.foldl_cons, one]
      exact ih fun j hj => hl j (by simp [hj])
  exact stands _ fun k hk => List.mem_range.mp hk

theorem frame_mastTick (n : ℕ) (s : State) : Frame [.time, .mast, .out, .regs] s (mastTick n s) := by
  have counted : Frame [.time, .mast] s (countedTicks n s) := ⟨rfl, fun p hp => by cases p <;> simp_all [Part.same, countedTicks]⟩
  exact Frame.trans (Frame.mono (by decide) counted) (Frame.mono (by decide) (clockHolds_mastTick n s).steady.frame)

theorem frame_afterTick (s : State) : Frame [.pk, .flt, .power] s (idleClock (loadSets s)) :=
  Frame.trans (Frame.mono (by decide) (frame_loadSets s)) (Frame.mono (by decide) (frame_idleClock _))

theorem exec_mastTick {s : State} (h : Live s) (ha : s.awake domMast = true) (n : ℕ) :
    exec (.mastTick n) s = finish s (idleClock (loadSets (mastTick n s))) := by
  change execMastTick n s = _
  simp [execMastTick, h.1, h.2, ha]

/-- A row that ends by `finish`, on a part that runs. -/
theorem goes_of_finish {i : Instr} {l : List Part} {s t : State} {P : State → Prop} (hx : exec i s = finish s t) (h : Live s)
    (hf : Frame l s t) (hP : P t) : Goes i s l P := by
  refine ⟨t, ?_, hf, hP⟩
  rw [hx, ← show { t with pending := s.pending } = t from by rw [← hf.1]]
  simp [finish, h.1]

theorem goes_mastTick {s : State} (h : Live s) (ha : s.awake domMast = true) (n : ℕ) :
    Goes (.mastTick n) s [.time, .mast, .out, .regs, .pk, .flt, .power] fun t =>
      t.time.master = s.time.master.add48 ((351843720888320 + s.mast.servo.freqAdj) * n)
      ∧ t.time.replicas = s.time.replicas.map (fun r => { t := r.t.add48 ((351843720888320 + s.mast.servo.freqAdj) * n) })
      ∧ t.mast.tick = s.mast.tick + n ∧ t.mast.params = s.mast.params ∧ t.mast.servo.freqAdj = s.mast.servo.freqAdj
      ∧ t.mast.servo.state = s.mast.servo.state
      ∧ RegsBut [regAddr .mcIntStatus [], regAddr .intSignalCnt []] s t
      ∧ ((∀ k < 16, (s.tl k).reseed = none) → t.pk = s.pk ∧ t.flt = s.flt)
      ∧ { t.power with domains := [] } = { s.power with domains := [] }
      ∧ ∀ d, { t.domain d with idleSince := [] } = { s.domain d with idleSince := [] } := by
  have holds := clockHolds_mastTick n s
  have ticked := frame_mastTick n s
  have after := frame_afterTick (mastTick n s)
  have time := (afterTick_time (mastTick n s)).trans (mastTick_time n s)
  have mast : (idleClock (loadSets (mastTick n s))).mast = (mastTick n s).mast := after.2 .mast (by decide)
  have idle : OnlyIdle s (idleClock (loadSets (mastTick n s))) :=
    (onlyIdle_of_power (((frame_loadSets _).2 .power (by decide)).trans (ticked.2 .power (by decide)))).trans (onlyIdle_idleClock _)
  obtain ⟨freq, state⟩ := countedTicks_servo n s
  refine goes_of_finish (exec_mastTick h ha n) h (Frame.trans (Frame.mono (by decide) ticked) (Frame.mono (by decide) after)) ⟨?_, ?_, ?_, ?_, ?_,
    ?_, ?_, ?_, idle.power, idle.domain⟩
  · rw [time]; rfl
  · rw [time]; rfl
  · rw [mast, holds.tick]; rfl
  · rw [mast, holds.params]; rfl
  · rw [mast, holds.servo, freq]
  · rw [mast, holds.servo, state]
  · exact RegsBut.trans (RegsBut.of_eq rfl) (RegsBut.trans holds.regs (RegsBut.of_eq (after.2 .regs (by decide))))
  · intro hk
    have pk : (mastTick n s).pk = s.pk := ticked.2 .pk (by decide)
    rw [loadSets_idle (s := mastTick n s) (by simpa [State.tl, pk] using hk)]
    exact ⟨((frame_idleClock _).2 .pk (by decide)).trans pk, ((frame_idleClock _).2 .flt (by decide)).trans (ticked.2 .flt (by decide))⟩

/-- Settles O53: a sum is a count taken modulo 2^48 s, and the tick adds the increment. -/
theorem timeFormat : Obligations.TimeFormat := by
  refine ⟨fun t d => ⟨MTime.legal_add48 t d, _, MTime.to48_of48 _⟩, fun t d h h0 h1 hs => MTime.sec_add48 h h0 h1 hs, fun s h ha => ?_⟩
  obtain ⟨t, hx, _, master, replicas, _⟩ := goes_mastTick h ha 1
  refine ⟨t, hx, ?_, ?_⟩
  · rw [master]; simp
  · rw [replicas]; simp

/-! ### MAST_CONFIG and MAST_SET_TIME -/

/-- Parameters that keep a source that assists, on a servo whose FREQ_INIT no longer counts, move nothing else (R469). -/
theorem setMastParams_plain {q : MastParams} {s : State} (hv : s.mast.servo.state ≠ .freerun ∨ s.mast.servo.everAccepted = true)
    (ha : s.freqAssist = false ∨ q.freqSrc = s.mast.params.freqSrc) :
    setMastParams q s = { s with mast := { s.mast with params := q, freqValid := s.mast.freqValid && q.freqSrc == s.mast.params.freqSrc } } := by
  have kept : (s.freqAssist && !(decide (q.freqSrc = s.mast.params.freqSrc))) = false := by rcases ha with ha | ha <;> simp [ha]
  have init : ¬(s.mast.servo.state = .freerun ∧ (!s.mast.servo.everAccepted) = true ∧ q.freqInit ≠ s.mast.servo.freqAdj) := by
    rcases hv with hv | hv <;> simp [hv]
  simp only [setMastParams, kept, when, Bool.false_eq_true, if_false, init]
  rfl

theorem exec_mastConfig (c : Cmd) (s : State) :
    exec (.mastConfig c) s = commandRow (runCommand 0x0100 noDomain mastConfigBody c) c s := rfl

theorem completes_mastConfig {c : Cmd} {s : State} (h : Taken 0x0100 noDomain c s) (hb : firstBad (mastRanges c) = none)
    (hv : s.mast.servo.state ≠ .freerun ∨ s.mast.servo.everAccepted = true)
    (ha : s.freqAssist = false ∨ c.n 1 = s.mast.params.freqSrc) :
    Completes (.mastConfig c) c s [] [.mast] [] fun t =>
      t.mast = { s.mast with params := mastParamsOf c, freqValid := s.mast.freqValid && (c.n 1 == s.mast.params.freqSrc) } := by
  have done : mastConfigBody c (noteIntake c s) = .done [] { noteIntake c s with
      mast := { s.mast with params := mastParamsOf c, freqValid := s.mast.freqValid && (c.n 1 == s.mast.params.freqSrc) } } := by
    simp only [mastConfigBody, checked, hb]
    rw [setMastParams_plain (by simpa using hv) (by simpa [State.freqAssist, mastParamsOf] using ha), noteIntake_mast]
    rfl
  refine completes_of_done (exec_mastConfig c s) h done h.1.2 (fun p hp _ => ?_) (RegsBut.of_eq rfl) ?_
  · cases p <;> simp_all [Part.same]
  · simp

theorem firstConfigured_none {s : State} (h : ∀ k < 8, (s.timeline k).configured = false) : firstConfigured s = none := by
  simp only [firstConfigured, List.find?_eq_none, List.mem_range]
  exact fun k hk => by simp [h k hk]

theorem legal_setTimeOf {c : Cmd} (h : (setTimeOf c).ns < 1000000000) : (setTimeOf c).legal = true :=
  (MTime.legal_iff _).mpr ⟨fld_lt (c.p 0) 63 16, h, fld_lt (c.p 1) 47 32, by simp [setTimeOf]⟩

/-- A row that may carry MAST_SET_TIME ends with the legal time that it has set. -/
theorem keepTaken_set {s t : State} (h : Live s) (hr : t.mast.running = true) (hm : t.time.master.legal = true)
    (hl : t.time.replicas.length = s.time.replicas.length) (ha : ∀ r ∈ t.time.replicas, r.t.legal = true) :
    keepTaken s t = .next { t with pending := s.pending } := by
  have checks : (t.mast.running && t.time.master.legal && t.time.replicas.length == s.time.replicas.length
      && t.time.replicas.all (fun r => r.t.legal)) = true := by simpa [hr, hm, hl] using ha
  simp only [keepTaken, timeTaken, h.1, checks, Bool.false_eq_true, if_true, if_false]

theorem completes_mastSetTime {c : Cmd} {s : State} (h : Taken 0x0101 noDomain c s) (ht : ∀ k < 8, (s.timeline k).configured = false)
    (hn : (setTimeOf c).ns < 1000000000) :
    Completes (.mastSetTime c) c s [] [.time, .mast] [] fun t =>
      t.time.master = setTimeOf c ∧ t.time.replicas = s.time.replicas.map (fun _ => { t := setTimeOf c })
      ∧ t.mast = { s.mast with rates := [], timeValid := true } := by
  have done : mastSetTimeBody c (noteIntake c s) = .done [] { noteIntake c s with
      time := { master := setTimeOf c, replicas := s.time.replicas.map fun _ => { t := setTimeOf c } }
      mast := { s.mast with rates := [], timeValid := true } } := by
    have free : firstConfigured (noteIntake c s) = none := firstConfigured_none (by simpa [State.timeline] using ht)
    simp [mastSetTimeBody, free, not_le.mpr hn, loadTime]
  generalize hu : ({ noteIntake c s with
      time := { master := setTimeOf c, replicas := s.time.replicas.map fun _ => { t := setTimeOf c } }
      mast := { s.mast with rates := [], timeValid := true } } : State) = u at done
  have time : u.time = { master := setTimeOf c, replicas := s.time.replicas.map fun _ => { t := setTimeOf c } } := hu ▸ rfl
  have mast : u.mast = { s.mast with rates := [], timeValid := true } := hu ▸ rfl
  have legal := legal_setTimeOf hn
  have hx : exec (.mastSetTime c) s = .next { sendReply c true .ok 0 [] (cntAccepted c u) with pending := s.pending } := by
    change clockRow (runCommand 0x0101 noDomain mastSetTimeBody c) c s = _
    rw [clockRow_turn h.2.2.2.2.1, runCommand_done h done]
    exact keepTaken_set h.1 (by simpa [cntAccepted, mast] using h.1.2) (by simpa [time] using legal) (by simp [time])
      (by simpa [time] using fun _ => legal)
  refine ⟨_, hx, answers_congr rfl (answers_sendReply c .ok 0 [] (cntAccepted c u)), ⟨by simp, fun p hp => ?_⟩, ?_, ?_⟩
  · subst hu; cases p <;> simp_all [Part.same]
  · refine RegsBut.trans (RegsBut.of_eq (t := u) (by subst hu; simp)) (RegsBut.trans (regsBut_bump _ _ _ _ ?_)
      (RegsBut.trans (regsBut_sendReply _ _ _ _ _ _ ?_) (RegsBut.of_eq rfl))) <;> simp [cmdRegs]
  · simp [time, mast]

end Sys2Proof.Machine
end

section
namespace Sys2Proof.Machine

/-! ### The replica check (R11) -/

/-- The parts that a fault report may touch. -/
abbrev faultParts : List Part := [.host, .cmd, .out, .flt, .regs, .power]

theorem frame_reportFault (f : FaultInfo) (s : State) : Frame faultParts s (reportFault f s) :=
  ⟨by simp, fun p hp => by cases p <;> simp_all [Part.same]⟩

/-- Only a report of the management source wakes a domain (R406). -/
theorem reportFault_power {f : FaultInfo} (h : f.block ≠ 0) (s : State) : (reportFault f s).power = s.power := by
  have post : (f.block != 0) = true := by simpa using h
  simp only [reportFault, post, Bool.true_or, if_true]
  split
  · simp
  · split <;> simp

/-- From s to t replicas may have been reloaded; the master counter and the domains' states stand. -/
structure ChecksHold (s t : State) : Prop where
  frame : Frame (.time :: faultParts) s t
  master : t.time.master = s.time.master
  power : t.power = s.power

theorem ChecksHold.trans {s t u : State} (f : ChecksHold s t) (g : ChecksHold t u) : ChecksHold s u :=
  ⟨Frame.trans f.frame g.frame, g.master.trans f.master, g.power.trans f.power⟩

theorem ChecksHold.awake {s t : State} (f : ChecksHold s t) (d : ℕ) : t.awake d = s.awake d := by
  unfold State.awake State.domain
  rw [f.power]

/-- Replica i, if its domain is awake, shows the master counter. -/
def ReplicaRight (i : ℕ) (s : State) : Prop :=
  ∀ r, s.time.replicas[i]? = some r → s.awake (replicaDomain i) = true → r.t = s.time.master

/-- A replica with its reload: the state that the fault report then finds. -/
def reloaded (i : ℕ) (s : State) : State :=
  let u := unforce 7 (1 + i) 10 s
  { u with time := { u.time with replicas := u.time.replicas.set i { t := u.time.master } } }

theorem checksHold_reload (i : ℕ) (forced : Bool) (s : State) :
    ChecksHold s (reportFault { block := 7, inst := 1 + i, cls := 10, addr := 1 + i, forced := forced } (reloaded i s)) := by
  have set : Frame [.time, .flt] s (reloaded i s) := ⟨by simp [reloaded], fun p hp => by cases p <;> simp_all [Part.same, reloaded]⟩
  refine ⟨Frame.trans (Frame.mono (by decide) set) (Frame.mono (by decide) (frame_reportFault _ _)), ?_, ?_⟩
  · rw [reportFault_time]; simp [reloaded]
  · rw [reportFault_power (by decide : (7 : ℕ) ≠ 0)]; simp [reloaded]

theorem checkReplica_eq {i : ℕ} {s : State} {r : Replica} (h : s.time.replicas[i]? = some r) :
    checkReplica i s = if (r.t = s.time.master ∧ !(s.fault 7 (1 + i)).forced.testBit 10) ∨ !s.awake (replicaDomain i) then s
      else reportFault { block := 7, inst := 1 + i, cls := 10, addr := 1 + i, forced := (s.fault 7 (1 + i)).forced.testBit 10 }
        (reloaded i s) := by
  unfold checkReplica
  rw [h]
  rfl

theorem checksHold_checkReplica (i : ℕ) (s : State) : ChecksHold s (checkReplica i s) := by
  have stands : ChecksHold s s := ⟨Frame.refl _ s, rfl, rfl⟩
  cases h : s.time.replicas[i]? with
  | none => simpa [checkReplica, h] using stands
  | some r =>
    rw [checkReplica_eq h]
    split
    · exact stands
    · exact checksHold_reload ..

/-- A check leaves its replica right. -/
theorem replicaRight_checkReplica (i : ℕ) (s : State) : ReplicaRight i (checkReplica i s) := by
  cases h : s.time.replicas[i]? with
  | none =>
    intro r hr
    simp [checkReplica, h] at hr
  | some r =>
    rw [checkReplica_eq h]
    split
    · rename_i ok
      intro x hx ha
      obtain rfl : r = x := by simpa [h] using hx
      simp only [ha, Bool.not_true, Bool.false_eq_true, or_false] at ok
      exact ok.1
    · intro x hx _
      have hi : i < s.time.replicas.length := (List.getElem?_eq_some_iff.mp h).1
      have hx' : x = { t := s.time.master } := by simpa [reloaded, hi, eq_comm] using hx
      simp [hx', reloaded]

/-- A check leaves the other replicas as right as they were. -/
theorem ReplicaRight.checked {i j : ℕ} {s : State} (h : ReplicaRight j s) : ReplicaRight j (checkReplica i s) := by
  by_cases e : j = i
  · subst e; exact replicaRight_checkReplica j s
  · have holds := checksHold_checkReplica i s
    have same : (checkReplica i s).time.replicas[j]? = s.time.replicas[j]? := by
      cases hi : s.time.replicas[i]? with
      | none => simp [checkReplica, hi]
      | some r =>
        rw [checkReplica_eq hi]
        split
        · rfl
        · simp [reloaded, List.getElem?_set_ne (Ne.symm e)]
    intro r hr ha
    rw [holds.master]
    exact h r (same.symm.trans hr) ((holds.awake _).symm.trans ha)

theorem replicaRight_foldl (l : List ℕ) {j : ℕ} {s : State} (h : j ∈ l ∨ ReplicaRight j s) :
    ReplicaRight j (l.foldl (fun s i => checkReplica i s) s) := by
  induction l generalizing s with
  | nil => exact h.resolve_left (by simp)
  | cons i l ih =>
    refine ih ?_
    rcases h with h | h
    · rcases List.mem_cons.mp h with rfl | h
      · exact .inr (replicaRight_checkReplica j s)
      · exact .inl h
    · exact .inr h.checked

theorem checksHold_replicaCheck (s : State) : ChecksHold s (replicaCheck s) := by
  unfold replicaCheck
  generalize List.range 20 = l
  induction l generalizing s with
  | nil => exact ⟨Frame.refl _ s, rfl, rfl⟩
  | cons i l ih => exact (checksHold_checkReplica i s).trans (ih _)

theorem replicaRight_replicaCheck {i : ℕ} (h : i < 20) (s : State) : ReplicaRight i (replicaCheck s) :=
  replicaRight_foldl (List.range 20) (.inl (List.mem_range.mpr h))

theorem exec_replicaCheck {s : State} (h : s.mast.tick % 1024 = 0) : exec .replicaCheck s = finish s (replicaCheck s) := by
  have due : (s.tick % 1024 == 0) = true := by simpa [State.tick] using h
  change finish s (when (s.tick % 1024 == 0) replicaCheck s) = _
  rw [due]
  rfl

theorem goes_replicaCheck {s : State} (h : Live s) (ht : s.mast.tick % 1024 = 0) :
    Goes .replicaCheck s [.time, .host, .cmd, .out, .flt, .regs, .power] fun t =>
      t.time.master = s.time.master
      ∧ ∀ i r, i < 20 → t.time.replicas[i]? = some r → s.awake (replicaDomain i) = true → r.t = s.time.master := by
  have holds := checksHold_replicaCheck s
  refine goes_of_finish (exec_replicaCheck ht) h holds.frame ⟨holds.master, fun i r hi hr ha => ?_⟩
  rw [← holds.master]
  exact replicaRight_replicaCheck hi s r hr ((holds.awake _).trans ha)

/-! ### SYNCE_OUT_CTL (R41) -/

/-- From s to t the clock outputs have moved, and of the Mast clock nothing else. -/
structure SynceMoved (s t : State) : Prop where
  steady : Steady [.mast, .out, .regs] s t
  regs : RegsBut [regAddr .mcIntStatus [], regAddr .intSignalCnt []] s t
  mast : t.mast = { s.mast with synce := t.mast.synce }

theorem SynceMoved.trans {s t u : State} (f : SynceMoved s t) (g : SynceMoved t u) : SynceMoved s u :=
  ⟨f.steady.trans g.steady, RegsBut.trans f.regs g.regs, by rw [g.mast, f.mast]⟩

theorem synceMoved_refl (s : State) : SynceMoved s s := ⟨.refl _ s, RegsBut.refl _ s, rfl⟩

theorem synceMoved_set (l : List SyncEOut) (s : State) : SynceMoved s { s with mast := { s.mast with synce := l } } :=
  ⟨(steady_setSynce l s).mono (by decide), RegsBut.of_eq rfl, rfl⟩

theorem synceMoved_squelchInt (c : Bool) (s : State) : SynceMoved s (when c (raiseInt 7 .mcIntStatus [] 10) s) := by
  obtain ⟨steady, regs, _⟩ := clockHolds_squelchInt c s
  exact ⟨steady, regs, by simp⟩

theorem synceMoved_synceOne (i : ℕ) (s : State) : SynceMoved s (synceOne i s) := by
  unfold synceOne
  simp only []
  split
  · exact synceMoved_refl s
  · exact (synceMoved_set _ s).trans ((synceMoved_squelchInt _ _).trans ⟨(steady_pinEdge ..).mono (by decide), RegsBut.of_eq rfl, rfl⟩)

theorem synceMoved_foldl (l : List ℕ) {f : State → ℕ → State} (h : ∀ s i, SynceMoved s (f s i)) (s : State) : SynceMoved s (l.foldl f s) := by
  induction l generalizing s with
  | nil => exact synceMoved_refl s
  | cons i l ih => exact (h s i).trans (ih _)

theorem synceMoved_synceWrite (v : W) (s : State) : SynceMoved (s.setRg .synceOutCtl [] v) (synceWrite v s) := by
  unfold synceWrite synceUpdate
  refine (synceMoved_foldl _ (fun s i => ?_) _).trans (synceMoved_foldl _ (fun s i => synceMoved_synceOne i s) _)
  split
  · exact synceMoved_refl s
  · exact synceMoved_set _ s

theorem goes_synceOutCtlWrite {s : State} (h : Live s) (v : W) :
    Goes (.synceOutCtlWrite v) s [.mast, .out, .regs] fun t =>
      t.rg .synceOutCtl [] = v
      ∧ RegsBut [regAddr .synceOutCtl [], regAddr .mcIntStatus [], regAddr .intSignalCnt []] s t
      ∧ t.mast = { s.mast with synce := t.mast.synce } := by
  obtain ⟨steady, regs, mast⟩ := synceMoved_synceWrite v s
  have set : Steady [.regs] s (s.setRg .synceOutCtl [] v) := steady_of_frame ⟨rfl, fun p hp => by cases p <;> simp_all [Part.same]⟩
  refine goes_of_keep (t := synceWrite v s) rfl h ((set.mono (by decide)).trans steady) ⟨?_, ?_, mast⟩
  · rw [regs .synceOutCtl [] (by decide), rg_setRg_self]
  · exact RegsBut.trans (regsBut_setRg s v (by simp)) (RegsBut.mono (by simp) regs)

/-- Settles O7: each row's clause is a lemma of its own above. -/
theorem mastTime : Obligations.MastTime := by
  intro c s
  refine ⟨?_, ?_, ?_, ?_, ?_⟩
  · exact fun h hb hv ha => completes_mastConfig h hb hv ha
  · exact fun h ht hn => completes_mastSetTime h ht hn
  · exact fun n h ha => goes_mastTick h ha n
  · exact fun h ht => goes_replicaCheck h ht
  · exact fun v h => goes_synceOutCtlWrite h v

end Sys2Proof.Machine
end

section
namespace Sys2Proof.Machine

/-! ### Fields of a word: what a field holds after it, or another, was set -/

/-- A number whose field of K from P on is replaced, P and K powers of two. -/
theorem replaced_field (n v P K : ℕ) : n - n / P % K * P + v % K * P = n / P / K * (K * P) + (v % K * P + n % P) := by
  have split : n = (n / P / K * K + n / P % K) * P + n % P := by
    rw [mul_comm (n / P / K), Nat.div_add_mod, mul_comm, Nat.div_add_mod]
  have expand : (n / P / K * K + n / P % K) * P = n / P / K * (K * P) + n / P % K * P := by ring
  omega

theorem field_rest_lt (n v P K : ℕ) (hP : 0 < P) (hK : 0 < K) : v % K * P + n % P < K * P := by
  have hv : v % K + 1 ≤ K := Nat.mod_lt v hK
  have hn : n % P < P := Nat.mod_lt n hP
  calc v % K * P + n % P < v % K * P + P := by omega
    _ = (v % K + 1) * P := by ring
    _ ≤ K * P := Nat.mul_le_mul_right P hv

theorem toNat_ins (w : W) (hi lo v : ℕ) (hl : lo ≤ hi) (hh : hi < 64) :
    (ins w hi lo v).toNat = w.toNat / 2 ^ lo / 2 ^ (hi + 1 - lo) * (2 ^ (hi + 1 - lo) * 2 ^ lo)
      + (v % 2 ^ (hi + 1 - lo) * 2 ^ lo + w.toNat % 2 ^ lo) := by
  have hP : 0 < 2 ^ lo := by positivity
  have hK : 0 < 2 ^ (hi + 1 - lo) := by positivity
  have rest := field_rest_lt w.toNat v _ _ hP hK
  have width : 2 ^ (hi + 1 - lo) * 2 ^ lo * 2 ^ (63 - hi) = 2 ^ 64 := by
    rw [← pow_add, ← pow_add]
    congr 1
    omega
  have top : w.toNat / 2 ^ lo / 2 ^ (hi + 1 - lo) < 2 ^ (63 - hi) := by
    rw [Nat.div_div_eq_div_mul, mul_comm (2 ^ lo), Nat.div_lt_iff_lt_mul (by positivity), mul_comm, width]
    exact w.isLt
  have fits : w.toNat / 2 ^ lo / 2 ^ (hi + 1 - lo) * (2 ^ (hi + 1 - lo) * 2 ^ lo)
      + (v % 2 ^ (hi + 1 - lo) * 2 ^ lo + w.toNat % 2 ^ lo) < 2 ^ 64 := by
    calc _ < w.toNat / 2 ^ lo / 2 ^ (hi + 1 - lo) * (2 ^ (hi + 1 - lo) * 2 ^ lo) + 2 ^ (hi + 1 - lo) * 2 ^ lo := by omega
      _ = (w.toNat / 2 ^ lo / 2 ^ (hi + 1 - lo) + 1) * (2 ^ (hi + 1 - lo) * 2 ^ lo) := by ring
      _ ≤ 2 ^ (63 - hi) * (2 ^ (hi + 1 - lo) * 2 ^ lo) := Nat.mul_le_mul_right _ top
      _ = 2 ^ 64 := by rw [mul_comm, width]
  rw [ins, BitVec.toNat_ofNat, fld, nfld, replaced_field, Nat.mod_eq_of_lt fits]

theorem fld_ins_self (w : W) (hi lo v : ℕ) (hl : lo ≤ hi) (hh : hi < 64) : fld (ins w hi lo v) hi lo = v % 2 ^ (hi + 1 - lo) := by
  have hP : 0 < 2 ^ lo := by positivity
  rw [fld, nfld, toNat_ins w hi lo v hl hh, ← mul_assoc, ← add_assoc, ← add_mul, Nat.add_comm, Nat.add_mul_div_right _ _ hP,
    Nat.div_eq_of_lt (Nat.mod_lt _ hP), Nat.zero_add, Nat.add_comm, Nat.add_mul_mod_self_right, Nat.mod_mod]

/-- Setting a field leaves every field beside it alone. -/
theorem fld_ins_apart (w : W) {hi lo hi' lo' : ℕ} (v : ℕ) (hl : lo ≤ hi) (hh : hi < 64) (h : hi < lo' ∨ hi' < lo) (hl' : lo' ≤ hi') :
    fld (ins w hi lo v) hi' lo' = fld w hi' lo' := by
  have hP : 0 < 2 ^ lo := by positivity
  have hK : 0 < 2 ^ (hi + 1 - lo) := by positivity
  simp only [fld, nfld, toNat_ins w hi lo v hl hh]
  generalize w.toNat = n
  rcases h with h | h
  · have high : 2 ^ lo' = 2 ^ (hi + 1 - lo) * 2 ^ lo * 2 ^ (lo' - (hi + 1)) := by
      rw [← pow_add, ← pow_add]
      congr 1
      omega
    rw [high, ← Nat.div_div_eq_div_mul _ (2 ^ (hi + 1 - lo) * 2 ^ lo), ← Nat.div_div_eq_div_mul _ (2 ^ (hi + 1 - lo) * 2 ^ lo), Nat.add_comm, Nat.add_mul_div_right _ _ (Nat.mul_pos hK hP),
      Nat.div_eq_of_lt (field_rest_lt n v _ _ hP hK), Nat.zero_add, Nat.div_div_eq_div_mul n, mul_comm (2 ^ lo)]
  · have low : 2 ^ (hi' + 1) ∣ 2 ^ lo := pow_dvd_pow 2 (by omega)
    have width : 2 ^ lo' * 2 ^ (hi' + 1 - lo') = 2 ^ (hi' + 1) := by
      rw [← pow_add]
      congr 1
      omega
    have same : (n / 2 ^ lo / 2 ^ (hi + 1 - lo) * (2 ^ (hi + 1 - lo) * 2 ^ lo) + (v % 2 ^ (hi + 1 - lo) * 2 ^ lo + n % 2 ^ lo)) % 2 ^ lo
        = n % 2 ^ lo := by
      rw [← mul_assoc, ← add_assoc, ← add_mul, Nat.add_comm, Nat.add_mul_mod_self_right, Nat.mod_mod]
    rw [← Nat.mod_mul_right_div_self, ← Nat.mod_mul_right_div_self n, width, ← Nat.mod_mod_of_dvd _ low, same, Nat.mod_mod_of_dvd _ low]

theorem satAdd_lt (k a n : ℕ) : satAdd k a n < 2 ^ k := by
  have : 0 < 2 ^ k := by positivity
  unfold satAdd
  omega

/-! ### Registers after a count and after an interrupt -/

theorem rgf_bump_self (s : State) (r : RegId) (ix : List ℕ) {hi lo : ℕ} (n : ℕ) (hl : lo ≤ hi) (hh : hi < 64) :
    (s.bump r ix hi lo n).rgf r ix hi lo = satAdd (hi + 1 - lo) (s.rgf r ix hi lo) n := by
  rw [State.bump, State.setRgf, State.rgf, rg_setRg_self, fld_ins_self _ _ _ _ hl hh, Nat.mod_eq_of_lt (satAdd_lt ..)]

theorem rgf_bump_apart (s : State) (r : RegId) (ix : List ℕ) {hi lo hi' lo' : ℕ} (n : ℕ) (hl : lo ≤ hi) (hh : hi < 64)
    (h : hi < lo' ∨ hi' < lo) (hl' : lo' ≤ hi') : (s.bump r ix hi lo n).rgf r ix hi' lo' = s.rgf r ix hi' lo' := by
  rw [State.bump, State.setRgf, State.rgf, rg_setRg_self, fld_ins_apart _ _ hl hh h hl', State.rgf]

theorem RegsBut.rgf {l : List ℕ} {s t : State} (h : RegsBut l s t) {r : RegId} {ix : List ℕ} (hr : regAddr r ix ∉ l) (hi lo : ℕ) :
    t.rgf r ix hi lo = s.rgf r ix hi lo := by
  rw [State.rgf, State.rgf, h r ix hr]

/-- Sending a signal counts it, and changes no register besides. -/
theorem regsBut_afterEdge (b : ℕ) (f : State → State) (s : State) : RegsBut [regAddr .intSignalCnt []] (f s) (intEdge b f s) := by
  simp only [intEdge]
  split
  · exact regsBut_signalBlock b _ (by simp)
  · exact RegsBut.refl _ _

theorem rg_raiseInt_self (b : ℕ) {r : RegId} {ix : List ℕ} (bit : ℕ) (s : State) (h : regAddr r ix ≠ regAddr .intSignalCnt []) :
    (raiseInt b r ix bit s).rg r ix = s.rg r ix ||| BitVec.ofNat 64 (2 ^ bit) :=
  (regsBut_afterEdge b (fun s => s.setRg r ix (s.rg r ix ||| BitVec.ofNat 64 (2 ^ bit))) s r ix (by simpa using h)).trans (rg_setRg_self ..)

theorem regsBut_raised (b : ℕ) (r : RegId) (ix : List ℕ) (bit : ℕ) (s : State) :
    RegsBut [regAddr r ix, regAddr .intSignalCnt []] s (raiseInt b r ix bit s) :=
  regsBut_raiseInt _ _ _ _ _ (by simp) (by simp)

/-- The registers of a function lie beyond all others. -/
theorem fnIntStatus_ge (f : ℕ) : 0x100000008 ≤ regAddr .fnIntStatus [f] := Nat.le_add_right ..

/-- What an event may change, in a list of addresses below the functions'. -/
theorem notMem_eventRegs {a k : ℕ} {s : State} (h : a < 0x100000008) (h0 : a ≠ regAddr .intSignalCnt []) (h1 : a ≠ regAddr .cmdIntStatus [])
    (h2 : a ≠ regAddr .eventLostCnt []) : a ∉ eventRegs k s := by
  have beyond := fnIntStatus_ge (((s.routeOf k).bind srcFn).getD 0)
  simp only [eventRegs, List.mem_cons, List.not_mem_nil, or_false, not_or]
  exact ⟨h0, h1, h2, by omega⟩

end Sys2Proof.Machine
end

section
namespace Sys2Proof.Machine

/-! ### The servo (R31 to R34, R47, R48) -/

/-- The servo with a sample noted that it accepts in LOCKED. -/
def notedSample (e : ℤ) (s : State) : State :=
  s.setServo { s.mast.servo with
    rejects := 0, everAccepted := true, lastAccept := s.tick, lastE := (e :: s.mast.servo.lastE).take 64
    sinceLeft := s.mast.servo.sinceLeft + 1, window := [] }

/-- A sample that LOCKED accepts without a step in sight runs the loop. -/
theorem acceptSample_locked {e : ℤ} {s : State} (hl : s.mast.servo.state = .locked)
    (ht : ¬(s.mast.params.stepThreshold : ℤ) * ns16 < e.natAbs) : acceptSample e s = servoLoop e (notedSample e s) := by
  have locked : (servoLoop e (notedSample e s)).mast.servo.state = .locked := hl
  have notFresh : (s.mast.servo.state == .freerun || s.mast.servo.state == .holdover) = false := by simp [hl]
  have notPending : ¬s.mast.servo.state = .stepPending := by simp [hl]
  simp only [acceptSample, notFresh, notPending, ht, when, and_false, if_false, Bool.false_eq_true, decide_false]
  rw [if_neg]
  · rfl
  · exact fun acquire => absurd (locked.symm.trans acquire) (by decide)

theorem steady_setFreq (f : ℤ) (s : State) : Steady [.mast] s (setFreq f s) :=
  ⟨⟨rfl, fun p hp => by cases p <;> simp_all [Part.same]⟩, rfl, rfl⟩

theorem steady_servoLoop (e : ℤ) (s : State) : Steady [.mast] s (servoLoop e s) := (steady_setServo _ s).trans (steady_setFreq _ _)

/-- A sample of the servo's own domain reaches the servo where the phase source is PTP (Table 2-10, R48). -/
theorem servoWrite_sample {v : W} {s : State} (hv : bitAt v 63 = true) (hl : bitAt v 62 = false)
    (hd : fld v 61 60 = s.mast.params.servoDomain) (hs : s.mast.params.servoSrc = 0) :
    servoWrite v s = servoSample (sgn 48 (fld v 47 0)) s := by
  simp [servoWrite, hv, hl, hd, hs, when]

theorem goes_servoSample_accepted {v : W} {s : State} (h : Live s) {e : ℤ} (hv : bitAt v 63 = true) (hl : bitAt v 62 = false)
    (hd : fld v 61 60 = s.mast.params.servoDomain) (hs : s.mast.params.servoSrc = 0) (he : e = sgn 48 (fld v 47 0))
    (hq : s.mast.servo.state = .locked) (ho : e.natAbs ≤ s.mast.params.outlierLimit * 65536)
    (ht : e.natAbs ≤ s.mast.params.stepThreshold * 65536) :
    Goes (.servoSample v) s [.mast] fun t =>
      let prop : Int := e * s.mast.params.kpM / 2 ^ s.mast.params.kpSh
      let slew : Int := (s.mast.params.slewMax * 35184372 + 50) / 100
      let integ : Int := if s.mast.freqValid ∧ s.mast.params.freqSrc ≠ 0 then s.mast.freqMeasured
        else if slew < prop.natAbs then s.mast.servo.integ
        else clampI 87960930222 (s.mast.servo.integ + e * s.mast.params.kiM / 2 ^ s.mast.params.kiSh)
      t.mast = { s.mast with rates := t.mast.rates, servo := { s.mast.servo with
        integ := integ, freqAdj := clampI 87960930222 (-(clampI slew prop + integ)), rejects := 0, everAccepted := true,
        lastAccept := s.mast.tick, lastE := (e :: s.mast.servo.lastE).take 64, sinceLeft := s.mast.servo.sinceLeft + 1, window := [] } } := by
  have limit : ¬(s.mast.servo.state = .locked ∧ (s.mast.params.outlierLimit : ℤ) * ns16 < e.natAbs) := by simp only [ns16]; omega
  have step : ¬(s.mast.params.stepThreshold : ℤ) * ns16 < e.natAbs := by simp only [ns16]; omega
  have run : servoWrite v s = servoLoop e (notedSample e s) := by
    rw [servoWrite_sample hv hl hd hs, ← he, servoSample, if_neg limit, acceptSample_locked hq step]
  refine goes_of_keep (t := servoLoop e (notedSample e s)) (congrArg (keep s) run) h ((steady_setServo ..).trans (steady_servoLoop ..)) ?_
  have assist : (notedSample e s).freqAssist = decide (s.mast.freqValid = true ∧ s.mast.params.freqSrc ≠ 0) := by
    rw [Bool.eq_iff_iff]
    simp [State.freqAssist, notedSample, State.setServo]
  simp only [servoLoop, setFreq, assist, decide_eq_true_eq]
  rfl

theorem steady_rejectSample (s : State) : Steady [.out, .regs] s (rejectSample s) :=
  ((steady_bump ..).mono (by decide)).trans (steady_raiseInt ..)

/-- A rejected sample is counted, and SAMPLE_REJECTED raised (R32, R48). -/
theorem rejectSample_regs (s : State) : (rejectSample s).rgf .mcCounters [] 63 48 = satAdd 16 (s.rgf .mcCounters [] 63 48) 1
    ∧ (rejectSample s).rg .mcIntStatus [] = s.rg .mcIntStatus [] ||| 0x20
    ∧ RegsBut [regAddr .mcCounters [], regAddr .mcIntStatus [], regAddr .intSignalCnt []] s (rejectSample s) := by
  have raised := regsBut_raised 7 .mcIntStatus [] 5 (s.bump .mcCounters [] 63 48)
  have counted : RegsBut [regAddr .mcCounters []] s (s.bump .mcCounters [] 63 48) := regsBut_bump _ _ _ _ (by simp)
  refine ⟨?_, ?_, RegsBut.trans (RegsBut.mono (by simp) counted) (RegsBut.mono (by simp) raised)⟩
  · exact (RegsBut.rgf raised (by decide) 63 48).trans (rgf_bump_self _ _ _ _ (by decide) (by decide))
  · rw [rejectSample, rg_raiseInt_self _ _ _ (by decide), counted .mcIntStatus [] (by decide)]
    rfl

theorem goes_servoSample_outlier {v : W} {s : State} (h : Live s) {e : ℤ} (hv : bitAt v 63 = true) (hl : bitAt v 62 = false)
    (hd : fld v 61 60 = s.mast.params.servoDomain) (hs : s.mast.params.servoSrc = 0) (he : e = sgn 48 (fld v 47 0))
    (hq : s.mast.servo.state = .locked) (ho : s.mast.params.outlierLimit * 65536 < e.natAbs)
    (hr : s.mast.servo.rejects < s.mast.params.outlierRun) :
    Goes (.servoSample v) s [.mast, .out, .regs] fun t =>
      t.mast = { s.mast with servo := { s.mast.servo with rejects := s.mast.servo.rejects + 1 } }
      ∧ t.rgf .mcCounters [] 63 48 = satAdd 16 (s.rgf .mcCounters [] 63 48) 1
      ∧ t.rg .mcIntStatus [] = s.rg .mcIntStatus [] ||| 0x20
      ∧ RegsBut [regAddr .mcCounters [], regAddr .mcIntStatus [], regAddr .intSignalCnt []] s t := by
  have limit : s.mast.servo.state = .locked ∧ (s.mast.params.outlierLimit : ℤ) * ns16 < e.natAbs := by
    refine ⟨hq, ?_⟩
    simp only [ns16]
    omega
  have run : servoWrite v s = rejectSample (s.setServo { s.mast.servo with rejects := s.mast.servo.rejects + 1 }) := by
    rw [servoWrite_sample hv hl hd hs, ← he, servoSample, if_pos limit, if_pos hr]
  obtain ⟨count, status, rest⟩ := rejectSample_regs (s.setServo { s.mast.servo with rejects := s.mast.servo.rejects + 1 })
  refine goes_of_keep (t := rejectSample (s.setServo _)) (congrArg (keep s) run) h
    (((steady_setServo ..).mono (by decide)).trans ((steady_rejectSample _).mono (by decide))) ⟨?_, count, status, rest⟩
  exact (steady_rejectSample _).frame.2 .mast (by decide)

theorem goes_servoSample_foreign {v : W} {s : State} (h : Live s) (hv : bitAt v 63 = true) (hl : bitAt v 62 = false)
    (hd : fld v 61 60 ≠ s.mast.params.servoDomain) :
    Goes (.servoSample v) s [.regs] fun t => t.regs = (s.bump .mcCounters [] 47 32).regs := by
  have run : servoWrite v s = s.bump .mcCounters [] 47 32 := by simp [servoWrite, hv, hl, hd]
  exact goes_of_keep (t := s.bump .mcCounters [] 47 32) (congrArg (keep s) run) h (steady_bump ..) rfl

end Sys2Proof.Machine
end

section
namespace Sys2Proof.Machine

/-! ### HOLDOVER and FREERUN (R33, R34, R47, R471) -/

/-- The boundary-clock service's reading touches neither the servo nor what it runs on. -/
theorem hearParent_servo (s : State) : (hearParent s).mast.servo = s.mast.servo ∧ (hearParent s).mast.params = s.mast.params
    ∧ (hearParent s).mast.freqValid = s.mast.freqValid := by
  unfold hearParent
  split
  · exact ⟨rfl, rfl, rfl⟩
  · simp only []
    split
    · exact ⟨rfl, rfl, rfl⟩
    · exact ⟨rfl, rfl, rfl⟩

/-- The servo as it enters HOLDOVER, before FREQ_ADJ takes the average. -/
def holdoverServo (s : State) : State :=
  let u := hearParent s
  let e := u.mast.servo.lastE.take 64
  u.setServo { u.mast.servo with
    state := .holdover, window := [], lockRun := 0, hoEntryTick := u.tick, hoEntrySum := e.foldl (· + ·) 0, hoEntryCnt := e.length }

/-- The servo in HOLDOVER (Table 2-6). -/
def heldOver (s : State) : State :=
  let u := holdoverServo s
  setFreq (if u.freqAssist then clampI 87960930222 (-u.mast.freqMeasured) else u.hoAverage) u

/-- The servo in FREERUN (Table 2-6). -/
def ranFree (s : State) : State :=
  let u := hearParent s
  u.setServo { u.mast.servo with state := .freerun, window := [], lockRun := 0 }

theorem enterServo_holdover (s : State) : enterServo .holdover s = servoChanged s.mast.servo.state (heldOver s) := by
  rw [← (hearParent_servo s).1]
  rfl

theorem enterServo_freerun (s : State) : enterServo .freerun s = servoChanged s.mast.servo.state (ranFree s) := by
  rw [← (hearParent_servo s).1]
  rfl

theorem steady_heldOver (s : State) : Steady [.mast, .freeCtr] s (heldOver s) :=
  (steady_hearParent s).trans (((steady_setServo ..).trans (steady_setFreq ..)).mono (by decide))

theorem steady_ranFree (s : State) : Steady [.mast, .freeCtr] s (ranFree s) :=
  (steady_hearParent s).trans ((steady_setServo ..).mono (by decide))

/-- With no valid frequency source FREQ_ADJ holds the average over the window of LOCKED time (R33). -/
theorem heldOver_freqAdj {s : State} (h : s.freqAssist = false) : (heldOver s).mast.servo.freqAdj = s.hoAverage := by
  obtain ⟨servo, params, valid⟩ := hearParent_servo s
  have assist : (holdoverServo s).freqAssist = false := by
    simpa [State.freqAssist, holdoverServo, State.setServo, params, valid] using h
  simp only [heldOver, assist, setFreq, Bool.false_eq_true, if_false]
  simp only [State.hoAverage, holdoverServo, State.setServo, params, servo]

/-- The interrupts and the event of a change from a state other than HOLDOVER (R34). -/
theorem servoChanged_regs {old : ServoState} (ho : old ≠ .holdover) (s : State) :
    (servoChanged old s).rg .mcIntStatus [] = s.rg .mcIntStatus [] ||| (if s.mast.servo.state = .holdover then 3 else 1)
    ∧ RegsBut (regAddr .mcIntStatus [] :: eventRegs 1 s) s (servoChanged old s) := by
  let u := when (s.mast.servo.state == .holdover) (raiseInt 7 .mcIntStatus [] 1) (raiseInt 7 .mcIntStatus [] 0 s)
  have posted : servoChanged old s = postEvent 1 [u.mcStatusView] u := by
    have kept : (old == .holdover) = false := by simpa using ho
    simp only [servoChanged, kept]
    rfl
  have route : u.routeOf 1 = s.routeOf 1 := by simp [u, State.routeOf]
  have events : RegsBut (eventRegs 1 s) u (postEvent 1 [u.mcStatusView] u) :=
    regsBut_postEvent _ _ _ fun a ha => by simpa only [eventRegs, route] using ha
  have raised : u.rg .mcIntStatus [] = s.rg .mcIntStatus [] ||| (if s.mast.servo.state = .holdover then 3 else 1) := by
    have first : (raiseInt 7 .mcIntStatus [] 0 s).rg .mcIntStatus [] = s.rg .mcIntStatus [] ||| 1 := rg_raiseInt_self _ _ _ (by decide)
    by_cases hs : s.mast.servo.state = .holdover
    · have second : u = raiseInt 7 .mcIntStatus [] 1 (raiseInt 7 .mcIntStatus [] 0 s) := by simp [u, when, hs]
      rw [second, rg_raiseInt_self _ _ _ (by decide), first, BitVec.or_assoc, if_pos hs]
      rfl
    · have only : u = raiseInt 7 .mcIntStatus [] 0 s := by simp [u, when, hs]
      rw [only, first, if_neg hs]
  have changed : RegsBut [regAddr .mcIntStatus [], regAddr .intSignalCnt []] s u :=
    RegsBut.trans (regsBut_raised _ _ _ _ s) (regsBut_when _ _ _ fun x => regsBut_raised _ _ _ _ x)
  rw [posted]
  refine ⟨?_, RegsBut.trans (RegsBut.mono (by simp [eventRegs]) changed) (RegsBut.mono (fun a ha => List.mem_cons_of_mem _ ha) events)⟩
  rw [events .mcIntStatus [] (notMem_eventRegs (by decide) (by decide) (by decide) (by decide)), raised]

/-- The servo with a pending step cancelled. -/
def stepCancelled (s : State) : State := s.setServo { s.mast.servo with delta := 0 }

theorem sampleTimeout_eq {s : State} (hf : s.mast.servo.state ≠ .freerun) (hh : s.mast.servo.state ≠ .holdover) :
    sampleTimeout s = servoChanged s.mast.servo.state (if s.hoValid then heldOver (stepCancelled s) else ranFree (stepCancelled s)) := by
  have enters : sampleTimeout s = enterServo (if s.hoValid then .holdover else .freerun) (stepCancelled s) := by
    unfold sampleTimeout
    split
    · exact absurd ‹_› hf
    · exact absurd ‹_› hh
    · rfl
  rw [enters]
  split
  · exact enterServo_holdover _
  · exact enterServo_freerun _

/-- The servo after a lost source or a timeout, and what R34 then raises. -/
theorem goes_sampleTimeout {i : Instr} {s : State} (hx : exec i s = keep s (sampleTimeout s)) (h : Live s)
    (hf : s.mast.servo.state ≠ .freerun) (hh : s.mast.servo.state ≠ .holdover) :
    Goes i s [.mast, .host, .cmd, .out, .regs, .freeCtr] fun t =>
      t.mast.servo.state = (if s.hoValid then .holdover else .freerun)
      ∧ (s.hoValid = true → s.freqAssist = false → t.mast.servo.freqAdj = s.hoAverage)
      ∧ t.rg .mcIntStatus [] = s.rg .mcIntStatus [] ||| (if s.hoValid then 3 else 1)
      ∧ RegsBut (regAddr .mcIntStatus [] :: eventRegs 1 s) s t := by
  let u := if s.hoValid then heldOver (stepCancelled s) else ranFree (stepCancelled s)
  have entered : Steady [.mast, .freeCtr] s u :=
    ((steady_setServo _ s).mono (by decide)).trans (steady_ite (steady_heldOver _) (steady_ranFree _))
  have state : u.mast.servo.state = if s.hoValid then .holdover else .freerun := by
    simp only [u]
    split <;> rfl
  have changed := steady_servoChanged s.mast.servo.state u
  have mast : (servoChanged s.mast.servo.state u).mast = u.mast := changed.frame.2 .mast (by decide)
  obtain ⟨raised, rest⟩ := servoChanged_regs hh u
  have regs : u.regs = s.regs := entered.frame.2 .regs (by decide)
  have events : eventRegs 1 u = eventRegs 1 s := by
    simp only [eventRegs, State.routeOf, show u.cmd = s.cmd from entered.frame.2 .cmd (by decide)]
  refine goes_of_keep (hx.trans (congrArg (keep s) (sampleTimeout_eq hf hh))) h
    ((entered.mono (by decide)).trans (changed.mono (by decide))) ⟨?_, ?_, ?_, ?_⟩
  · rw [mast, state]
  · intro hv ha
    rw [mast]
    simp only [u, hv, if_true]
    exact heldOver_freqAdj (s := stepCancelled s) ha
  · rw [raised, state, show u.rg .mcIntStatus [] = s.rg .mcIntStatus [] by simp only [State.rg, regs]]
    cases s.hoValid <;> rfl
  · rw [events] at rest
    exact RegsBut.trans (RegsBut.of_eq regs) rest

/-- Settles O5: each row's clause is a lemma of its own above. -/
theorem servoRules : Obligations.ServoRules := by
  intro v s h
  refine ⟨?_, ?_, ?_, ?_, ?_⟩
  · exact fun e hv hl hd hs he hq ho ht => goes_servoSample_accepted h hv hl hd hs he hq ho ht
  · exact fun e hv hl hd hs he hq ho hr => goes_servoSample_outlier h hv hl hd hs he hq ho hr
  · exact fun hv hl hd => goes_servoSample_foreign h hv hl hd
  · intro hv hl hd hf hh
    have lost : exec (.sourceLost v) s = keep s (sampleTimeout s) := by
      change keep s (servoWrite v s) = _
      simp [servoWrite, hv, hl, hd]
    obtain ⟨t, hx, frame, state, _, rest⟩ := goes_sampleTimeout lost h hf hh
    exact ⟨t, hx, frame, state, rest⟩
  · intro due hf hh
    have timeout : exec .sampleTimeout s = keep s (sampleTimeout s) := by
      change keep s (when (timeoutDue s) sampleTimeout s) = _
      rw [show timeoutDue s = true from decide_eq_true due]
      rfl
    exact goes_sampleTimeout timeout h hf hh

end Sys2Proof.Machine
end

section
namespace Sys2Proof.Machine

/-! ### The ToD message (Table 2-8, R39): bytes of a number, and the number that bytes spell -/

@[simp] theorem length_bytesBE (n v : ℕ) : (bytesBE n v).length = n := by
  induction n with
  | zero => rfl
  | succ n ih => simp [bytesBE, ih]

theorem ofBytesBE_from (a : ℕ) (l : List Byte) : l.foldl (fun a b => a * 256 + b.toNat) a = a * 256 ^ l.length + ofBytesBE l := by
  induction l generalizing a with
  | nil => simp [ofBytesBE]
  | cons b l ih =>
    rw [ofBytesBE, List.foldl_cons, List.foldl_cons, ih, ih (0 * 256 + b.toNat)]
    simp only [List.length_cons]
    ring

theorem ofBytesBE_bytesBE (n v : ℕ) : ofBytesBE (bytesBE n v) = v % 256 ^ n := by
  induction n with
  | zero => simp [ofBytesBE, bytesBE, Nat.mod_one]
  | succ n ih =>
    rw [bytesBE, ofBytesBE, List.foldl_cons, ofBytesBE_from, ih, length_bytesBE, pow_succ, Nat.mod_mul, BitVec.toNat_ofNat]
    ring

/-- A number's bytes, wherever they stand, spell it. -/
theorem bytesNat_bytesBE (a c : List Byte) (n v : ℕ) : bytesNat (a ++ (bytesBE n v ++ c)) a.length n = v % 256 ^ n := by
  have bytes : ((List.range n).map fun i => (a ++ (bytesBE n v ++ c)).getD (a.length + i) 0) = bytesBE n v := by
    refine List.ext_getElem (by simp) fun i hi _ => ?_
    have hn : i < (bytesBE n v).length := by simpa using hi
    rw [List.getElem_map, List.getElem_range, List.getD_eq_getElem?_getD, List.getElem?_append_right (Nat.le_add_right ..),
      Nat.add_sub_cancel_left, List.getElem?_append_left hn, List.getElem?_eq_getElem hn, Option.getD_some]
  rw [bytesNat, bytes, ofBytesBE_bytesBE]

/-- What a ToD message says between its first byte and its checksum. -/
def todBody (s : State) : List Byte :=
  bytesBE 1 1 ++ (bytesBE 6 s.mast.ppsSec ++ (bytesBE 1 (b2n s.servoHold + 2 * b2n s.mast.ppsIntervalStep
      + 4 * b2n (s.mast.bcRunning && s.mast.leap61) + 8 * b2n (s.mast.bcRunning && s.mast.leap59) + 16 * b2n s.mast.timeValid
      + 32 * b2n s.freqAssist)
    ++ (bytesBE 2 (twos 16 (if s.mast.bcRunning then s.mast.utcOffset else 0)) ++ (bytesBE 1 s.clockClass ++ bytesBE 2 (min s.teEst 65535)))))

theorem todMessage_eq (s : State) : todMessage s = bytesBE 1 0xC5 ++ (todBody s ++ bytesBE 2 (crc16 (todBody s))) := by
  simp only [todMessage, todBody, List.append_assoc]

theorem length_todBody (s : State) : (todBody s).length = 13 := by simp [todBody]

theorem todGood_todMessage (s : State) : todGood (todMessage s) = true := by
  have first : byteAt (todMessage s) 0 = 0xC5 := by rw [todMessage_eq]; rfl
  have type : byteAt (todMessage s) 1 = 1 := by rw [todMessage_eq]; rfl
  have body : ((todMessage s).drop 1).take 13 = todBody s := by
    rw [todMessage_eq, List.drop_left' (length_bytesBE 1 _), List.take_left' (length_todBody s)]
  have crc : bytesNat (todMessage s) 14 2 = crc16 (todBody s) := by
    have spelled := bytesNat_bytesBE (bytesBE 1 0xC5 ++ todBody s) [] 2 (crc16 (todBody s))
    rw [List.append_nil, List.length_append, length_bytesBE, length_todBody, List.append_assoc, ← todMessage_eq] at spelled
    exact spelled.trans (Nat.mod_eq_of_lt (crc16_lt _))
  have length : (todMessage s).length = 16 := by rw [todMessage_eq]; simp [length_todBody]
  simp only [todGood, first, type, body, crc, length, beq_self_eq_true, Bool.and_self]

theorem todMessage_seconds (s : State) : bytesNat (todMessage s) 2 6 = s.mast.ppsSec % 2 ^ 48 := by
  have spelled := bytesNat_bytesBE (bytesBE 1 0xC5 ++ bytesBE 1 1) ((todBody s).drop 7 ++ bytesBE 2 (crc16 (todBody s))) 6 s.mast.ppsSec
  have parts : todMessage s = (bytesBE 1 0xC5 ++ bytesBE 1 1) ++ (bytesBE 6 s.mast.ppsSec ++ ((todBody s).drop 7 ++ bytesBE 2 (crc16 (todBody s)))) := by
    have head : todBody s = bytesBE 1 1 ++ (bytesBE 6 s.mast.ppsSec ++ (todBody s).drop 7) := by
      conv_lhs => rw [← List.take_append_drop 7 (todBody s)]
      rw [← List.append_assoc]
      congr 1
    rw [todMessage_eq]
    conv_lhs => rw [head]
    simp only [List.append_assoc]
    rw [← head]
  rw [parts]
  exact spelled

/-! ### PPS_IN, ToD in and frequency gates (R36 to R38) -/

/-- An edge where one is expected begins the next prediction; where none is, PPS_IN_OK stands set already (R37). -/
theorem ppsInEdge_seen (s : State) : (if ppsInExpected s then { s with mast := { s.mast with ppsInOk := true, ppsInLast := s.tick } } else s)
    = { s with mast := { s.mast with ppsInOk := true, ppsInLast := if ppsInExpected s then s.mast.tick else s.mast.ppsInLast } } := by
  by_cases hp : ppsInExpected s = true
  · simp [hp, State.tick]
  · have ok : s.mast.ppsInOk = true := by
      simp only [ppsInExpected, Bool.or_eq_true, not_or] at hp
      simpa using hp.1.1
    rw [if_neg hp, if_neg hp, ← ok]

section
variable {s : State} (h : Live s)
include h

/-- A row that changes what the Mast clock holds, and lets it run on. -/
theorem goes_of_mast {i : Instr} {m : Mast} {P : State → Prop} (hx : exec i s = keep s { s with mast := m })
    (hr : m.running = s.mast.running) (hP : P { s with mast := m }) : Goes i s [.mast] P :=
  goes_of_running hx h ⟨rfl, fun p hp => by cases p <;> simp_all [Part.same]⟩ hr hP

theorem goes_ppsInEdge_waiting (sub : ℕ) (ht : s.mast.params.todInEn = 1) :
    Goes (.ppsInEdge sub) s [.mast] fun t =>
      t.mast = { s.mast with
        ppsInOk := true, ppsInLast := if ppsInExpected s then s.mast.tick else s.mast.ppsInLast,
        ppsInWaiting := s.mast.ppsInWaiting ++ [{ time16 := subTick16 s sub - ppsInDelay16 s, tick := s.mast.tick }] } := by
  refine goes_of_mast h (congrArg (keep s) ?_) ?_ rfl
  · simp only [ppsInEdge, ppsInEdge_seen, ht, if_true]
    rfl
  · rfl

theorem goes_ppsInEdge_unlabelled (sub : ℕ) (ht : s.mast.params.todInEn ≠ 1) (hs : s.mast.params.servoSrc ≠ 1) :
    Goes (.ppsInEdge sub) s [.mast] fun t =>
      t.mast = { s.mast with ppsInOk := true, ppsInLast := if ppsInExpected s then s.mast.tick else s.mast.ppsInLast } := by
  have other : (s.mast.params.servoSrc == 1) = false := by simpa using hs
  refine goes_of_mast h (congrArg (keep s) ?_) ?_ rfl
  · simp only [ppsInEdge, ppsInEdge_seen, ht, if_false, ppsSample, when, other, Bool.false_eq_true]
  · rfl

theorem goes_ppsInLoss (ho : s.mast.ppsInOk = true) (hd : 3 * sec48 + us48 < ppsInSince s) :
    Goes .ppsInLoss s [.mast, .out, .regs] fun t =>
      t.mast = { s.mast with ppsInOk := false } ∧ t.rg .mcIntStatus [] = s.rg .mcIntStatus [] ||| 0x40
      ∧ RegsBut [regAddr .mcIntStatus [], regAddr .intSignalCnt []] s t := by
  let u : State := { s with mast := { s.mast with ppsInOk := false } }
  have due : ppsLossDue s = true := by simp [ppsLossDue, ho, hd]
  have run : exec .ppsInLoss s = keep s (raiseInt 7 .mcIntStatus [] 6 u) := by
    change keep s (when (ppsLossDue s) _ s) = _
    rw [due]
    rfl
  have cleared : Steady [.mast] s u := ⟨⟨rfl, fun p hp => by cases p <;> simp_all [Part.same, u]⟩, rfl, rfl⟩
  exact goes_of_keep run h ((cleared.mono (by decide)).trans ((steady_raiseInt ..).mono (by decide)))
    ⟨raiseInt_mast .., rg_raiseInt_self _ _ _ (by decide), RegsBut.trans (RegsBut.of_eq rfl) (regsBut_raised _ _ _ _ u)⟩

theorem goes_ppsUnlabelled {e : PpsEdge} {l : List PpsEdge} (hw : s.mast.ppsInWaiting = e :: l) (ht : s.mast.params.todInEn = 1)
    (hd : e.tick + 720000000 ≤ s.mast.tick) :
    Goes .ppsUnlabelled s [.mast, .regs] fun t =>
      t.mast = { s.mast with ppsInWaiting := l } ∧ t.regs = (s.bump .mcCounters [] 31 16).regs := by
  let u : State := { s with mast := { s.mast with ppsInWaiting := l } }
  have due : unlabelledDue s = true := by
    simp only [unlabelledDue, hw, ht, beq_self_eq_true, Bool.true_and]
    exact decide_eq_true hd
  have run : exec .ppsUnlabelled s = keep s (u.bump .mcCounters [] 31 16) := by
    change keep s (when (unlabelledDue s) _ s) = _
    rw [due]
    simp only [when, if_true, hw, List.drop_one, List.tail_cons]
    rfl
  have taken : Steady [.mast] s u := ⟨⟨rfl, fun p hp => by cases p <;> simp_all [Part.same, u]⟩, rfl, rfl⟩
  exact goes_of_keep run h ((taken.mono (by decide)).trans ((steady_bump ..).mono (by decide))) ⟨rfl, rfl⟩

theorem goes_todInMessage_bad (b : List Byte) (ht : s.mast.params.todInEn = 1) (hb : todGood b = false) :
    Goes (.todInMessage b) s [.regs] fun t => t.regs = (s.bump .mcCounters [] 15 0).regs := by
  have run : todInMessage b s = s.bump .mcCounters [] 15 0 := by simp [todInMessage, ht, hb]
  exact goes_of_keep (congrArg (keep s) run) h (steady_bump ..) rfl

theorem goes_todInMessage_good (b : List Byte) {l : List PpsEdge} {e : PpsEdge} (ht : s.mast.params.todInEn = 1) (hb : todGood b = true)
    (hs : s.mast.params.servoSrc ≠ 1) (hw : s.mast.ppsInWaiting = l ++ [e]) (hd : s.mast.tick ≤ e.tick + 720000000) :
    Goes (.todInMessage b) s [.mast] fun t =>
      t.mast = { s.mast with todInTick := some s.mast.tick, todClass := byteAt b 11, ppsInWaiting := l } := by
  have other : (s.mast.params.servoSrc == 1) = false := by simpa using hs
  have due : s.mast.tick ≤ e.tick + 900 * msTicks := hd
  have run : todInMessage b s
      = { s with mast := { s.mast with todInTick := some s.mast.tick, todClass := byteAt b 11, ppsInWaiting := l } } := by
    simp [todInMessage, ht, hb, when, other, hw, State.tick, due, ppsSample]
  exact goes_of_mast h (congrArg (keep s) run) rfl rfl

/-- What a gate of the selected source measures (R38). -/
def gated (k : ℤ) (ok : Bool) (s : State) : State := { s with mast := { s.mast with freqValid := ok, freqMeasured := k } }

omit h in
theorem freqGate_eq {src : ℕ} (k : ℤ) (ok : Bool) (h0 : src ≠ 0) (hs : src = s.mast.params.freqSrc) :
    freqGate src k ok s = if ok ∧ s.mast.servo.state = .holdover then
        setFreq (clampI 87960930222 (-k)) ((gated k ok s).setServo { s.mast.servo with integ := k })
      else if !ok then holdAverage (gated k ok s) else gated k ok s := by
  have mine : ¬(src = 0 ∨ src ≠ s.mast.params.freqSrc) := fun no => no.elim h0 fun other => other hs
  rw [freqGate, if_neg mine]
  rfl

theorem goes_freqGate {src : ℕ} (k : ℤ) (ok : Bool) (h0 : src ≠ 0) (hs : src = s.mast.params.freqSrc)
    (hq : s.mast.servo.state ≠ .holdover) :
    Goes (.freqGate src k ok) s [.mast] fun t => t.mast = { s.mast with freqValid := ok, freqMeasured := k } := by
  have run : freqGate src k ok s = gated k ok s := by
    have free : (gated k ok s).mast.servo.state ≠ .holdover := hq
    simp [freqGate_eq k ok h0 hs, hq, holdAverage, free]
  exact goes_of_mast h (congrArg (keep s) run) rfl rfl

theorem goes_freqGate_valid {src : ℕ} (k : ℤ) (h0 : src ≠ 0) (hs : src = s.mast.params.freqSrc) (hq : s.mast.servo.state = .holdover) :
    Goes (.freqGate src k true) s [.mast] fun t =>
      t.mast = { s.mast with
        freqValid := true, freqMeasured := k, rates := t.mast.rates,
        servo := { s.mast.servo with integ := k, freqAdj := clampI 87960930222 (-k) } } := by
  have run := freqGate_eq k true h0 hs
  rw [if_pos ⟨rfl, hq⟩] at run
  exact goes_of_mast h (congrArg (keep s) run) rfl rfl

theorem goes_freqGate_invalid {src : ℕ} (k : ℤ) (h0 : src ≠ 0) (hs : src = s.mast.params.freqSrc) (hq : s.mast.servo.state = .holdover) :
    Goes (.freqGate src k false) s [.mast] fun t =>
      t.mast = { s.mast with
        freqValid := false, freqMeasured := k, rates := t.mast.rates, servo := { s.mast.servo with freqAdj := s.hoAverage } } := by
  have run : freqGate src k false s = setFreq s.hoAverage (gated k false s) := by
    have held : (gated k false s).mast.servo.state = .holdover := hq
    simp only [freqGate_eq k false h0 hs, holdAverage, held, Bool.false_eq_true, false_and, if_false, Bool.not_false, if_true]
    rfl
  exact goes_of_mast h (congrArg (keep s) run) rfl rfl

/-! ### ToD out, the reference oscillator and the snapshot (R39, R50, R4) -/

theorem goes_todOutStart {d : ℕ} (hd : s.mast.todDue = some d) (ht : d ≤ s.mast.tick)
    (hb : s.mast.bcRunning = false ∨ s.mast.params.servoSrc ≠ 0) :
    Goes .todOutStart s [.mast, .out] fun t =>
      t.mast = { s.mast with todDue := none } ∧ t.out = { s.out with tod := s.out.tod ++ [todMessage s] }
      ∧ todGood (todMessage s) = true ∧ bytesNat (todMessage s) 2 6 = s.mast.ppsSec % 2 ^ 48 := by
  have heard : hearParent s = s := by
    unfold hearParent
    rw [if_pos]
    rcases hb with hb | hb <;> simp [hb]
  have due : todDueNow s = true := by
    simp only [todDueNow, hd]
    exact decide_eq_true ht
  have run : exec .todOutStart s = keep s { s with
      out := { s.out with tod := s.out.tod ++ [todMessage s] }, mast := { s.mast with todDue := none } } := by
    change keep s (when (todDueNow s) _ s) = _
    rw [due]
    simp only [when, if_true, heard]
  exact goes_of_running run h ⟨rfl, fun p hp => by cases p <;> simp_all [Part.same]⟩ rfl
    ⟨rfl, rfl, todGood_todMessage s, todMessage_seconds s⟩

theorem goes_refoscRestore : Goes .refoscRestore s [.mast] (fun t => t.mast = { s.mast with refoscOk := true }) :=
  goes_of_mast h rfl rfl rfl

theorem goes_mcSnapTrigger (v : W) (hv : bitAt v 0 = true) :
    Goes (.mcSnapTrigger v) s [.mast] fun t => t.mast = { s.mast with snap := s.time.master } := by
  refine goes_of_mast h (congrArg (keep s) ?_) ?_ rfl
  · simp only [snapWrite, hv, when, if_true]
  · rfl

end

end Sys2Proof.Machine
end

section
namespace Sys2Proof.Machine

/-! ### The loss of the reference oscillator (R50): interrupt and fault -/

/-- After its count, a report changes the registers of its event alone (R405, R406). -/
theorem regsBut_reportFault_counted (f : FaultInfo) (s : State) :
    RegsBut (eventRegs 11 s) (s.setRg .faultCnt [f.block, f.inst, f.cls] (s.rg .faultCnt [f.block, f.inst, f.cls] + 1)) (reportFault f s) := by
  have route : (s.setRg .faultCnt [f.block, f.inst, f.cls] (s.rg .faultCnt [f.block, f.inst, f.cls] + 1)).routeOf 11 = s.routeOf 11 := rfl
  simp only [reportFault]
  generalize s.setRg .faultCnt [f.block, f.inst, f.cls] (s.rg .faultCnt [f.block, f.inst, f.cls] + 1) = u at route ⊢
  split
  · exact RegsBut.refl _ u
  · split
    · exact RegsBut.of_eq (by simp)
    · have edge : ∀ r, RegsBut (eventRegs 11 s) u (intEdge f.block (fun s => s.setFault f.block f.inst r) u) := fun r =>
        regsBut_intEdge _ _ _ (RegsBut.of_eq (by simp)) (by simp [eventRegs])
      split
      · refine RegsBut.trans (edge _) (regsBut_postEvent _ _ _ fun a ha => ?_)
        have kept : ∀ r, (intEdge f.block (fun s => s.setFault f.block f.inst r) u).routeOf 11 = s.routeOf 11 := fun r => by
          rw [← route]
          simp [State.routeOf]
        simpa only [eventRegs, kept] using ha
      · exact RegsBut.trans (edge _) (RegsBut.of_eq (wakeDomain_regs _ _))

/-- A report counts the error (R405). -/
theorem rg_reportFault_count (f : FaultInfo) (s : State) (h : regAddr .faultCnt [f.block, f.inst, f.cls] ∉ eventRegs 11 s) :
    (reportFault f s).rg .faultCnt [f.block, f.inst, f.cls] = s.rg .faultCnt [f.block, f.inst, f.cls] + 1 :=
  (regsBut_reportFault_counted f s .faultCnt [f.block, f.inst, f.cls] h).trans (rg_setRg_self ..)

theorem goes_refoscLoss {s : State} (h : Live s) (hr : s.mast.refoscOk = true) :
    Goes .refoscLoss s [.mast, .host, .cmd, .out, .flt, .regs, .power] fun t =>
      t.mast = { s.mast with refoscOk := false } ∧ t.rg .mcIntStatus [] = s.rg .mcIntStatus [] ||| 0x80
      ∧ t.rg .faultCnt [7, 0, 10] = s.rg .faultCnt [7, 0, 10] + 1
      ∧ RegsBut (regAddr .mcIntStatus [] :: faultRegs 7 0 10 s) s t := by
  let u : State := raiseInt 7 .mcIntStatus [] 7 { s with mast := { s.mast with refoscOk := false } }
  have run : exec .refoscLoss s = keep s (reportFault { block := 7, inst := 0, cls := 10 } u) := by
    change keep s (when s.mast.refoscOk _ s) = _
    rw [hr]
    rfl
  have mast : u.mast = { s.mast with refoscOk := false } := raiseInt_mast ..
  have raised : RegsBut [regAddr .mcIntStatus [], regAddr .intSignalCnt []] s u := RegsBut.trans (RegsBut.of_eq rfl) (regsBut_raised _ _ _ _ _)
  have status : u.rg .mcIntStatus [] = s.rg .mcIntStatus [] ||| 0x80 := rg_raiseInt_self _ _ _ (by decide)
  have events : eventRegs 11 u = eventRegs 11 s := by simp only [eventRegs, State.routeOf, u, raiseInt_cmd]
  have lost : Frame [.mast, .out, .regs] s u := ⟨raiseInt_pending .., fun p hp => by cases p <;> simp_all [Part.same, u]⟩
  have told : RegsBut (faultRegs 7 0 10 s) u (reportFault { block := 7, inst := 0, cls := 10 } u) :=
    regsBut_reportFault _ _ fun a ha => by simpa only [faultRegs, events] using ha
  refine goes_of_running run h (Frame.trans (Frame.mono (by decide) lost) (Frame.mono (by decide) (frame_reportFault _ u)))
    (by rw [reportFault_mast, mast]) ⟨by rw [reportFault_mast, mast], ?_, ?_, ?_⟩
  · refine (told .mcIntStatus [] ?_).trans status
    exact List.not_mem_cons_of_ne_of_not_mem (by decide) (notMem_eventRegs (by decide) (by decide) (by decide) (by decide))
  · refine (rg_reportFault_count _ u (notMem_eventRegs (by decide) (by decide) (by decide) (by decide))).trans ?_
    rw [raised .faultCnt [7, 0, 10] (by decide)]
  · exact RegsBut.trans (RegsBut.mono (by simp [faultRegs, eventRegs]) raised) (RegsBut.mono (fun a ha => List.mem_cons_of_mem _ ha) told)

/-- Settles O6: each row's clause is a lemma of its own above. -/
theorem timeInputs : Obligations.TimeInputs := by
  intro s h
  refine ⟨?_, ?_, ?_, ?_, ?_, ?_, ?_, ?_, ?_, ?_, ?_, ?_, ?_⟩
  · exact fun sub ht => goes_ppsInEdge_waiting h sub ht
  · exact fun sub ht hs => goes_ppsInEdge_unlabelled h sub ht hs
  · exact fun ho hd => goes_ppsInLoss h ho hd
  · exact fun e l hw ht hd => goes_ppsUnlabelled h hw ht hd
  · exact fun b ht hb => goes_todInMessage_bad h b ht hb
  · exact fun b l e ht hb hs hw hd => goes_todInMessage_good h b ht hb hs hw hd
  · exact fun src k ok h0 hs hq => goes_freqGate h k ok h0 hs hq
  · exact fun src k h0 hs hq => goes_freqGate_valid h k h0 hs hq
  · exact fun src k h0 hs hq => goes_freqGate_invalid h k h0 hs hq
  · exact fun d hd ht hb => goes_todOutStart h hd ht hb
  · exact fun hr => goes_refoscLoss h hr
  · exact goes_refoscRestore h
  · exact fun v hv => goes_mcSnapTrigger h v hv

end Sys2Proof.Machine
end

section
namespace Sys2Proof.Machine

/-! ### Queues, ports and slices of the packet path: what a read gives after a write -/

theorem tmq_setTmq (s : State) (q k : ℕ) (v : TmQueue) : (s.setTmq q v).tmq k = if k = q then v else s.tmq k := tget_tset ..

@[simp] theorem tmq_setTmq_self (s : State) (q : ℕ) (v : TmQueue) : (s.setTmq q v).tmq q = v := by simp [tmq_setTmq]

@[simp] theorem tmp_setTmq (s : State) (q p : ℕ) (v : TmQueue) : (s.setTmq q v).tmp p = s.tmp p := rfl

theorem tmp_setTmp (s : State) (p k : ℕ) (v : TmPort) : (s.setTmp p v).tmp k = if k = p then v else s.tmp k := tget_tset ..

@[simp] theorem tmp_setTmp_self (s : State) (p : ℕ) (v : TmPort) : (s.setTmp p v).tmp p = v := by simp [tmp_setTmp]

@[simp] theorem tmq_setTmp (s : State) (p q : ℕ) (v : TmPort) : (s.setTmp p v).tmq q = s.tmq q := rfl

theorem tmq_congr {s t : State} (h : t.pk = s.pk) (k : ℕ) : t.tmq k = s.tmq k := by rw [State.tmq, State.tmq, h]

theorem tmp_congr {s t : State} (h : t.pk = s.pk) (k : ℕ) : t.tmp k = s.tmp k := by rw [State.tmp, State.tmp, h]

theorem frame_setTmq (s : State) (q : ℕ) (v : TmQueue) : Frame [.pk] s (s.setTmq q v) :=
  ⟨rfl, fun p hp => by cases p <;> simp_all [Part.same]⟩

theorem frame_setTmp (s : State) (p : ℕ) (v : TmPort) : Frame [.pk] s (s.setTmp p v) :=
  ⟨rfl, fun p hp => by cases p <;> simp_all [Part.same]⟩

/-! ### Configuration of the traffic manager -/

theorem srcCode_le (x : Source) : srcCode x ≤ 5 := by cases x <;> simp [srcCode]

/-- The address of a register in an array of one dimension. -/
theorem regAddr_one {r : RegId} {b lo n d : ℕ} (hb : (regDesc r).base = b) (h : (regDesc r).dims = [⟨lo, n, d⟩]) (i : ℕ) :
    regAddr r [i] = b + i * d := by
  simp [regAddr, h, hb, dimAddr]

theorem regAddr_tmIntStatus (t : ℕ) : regAddr .tmIntStatus [t] = 0x100000 + t * 0x8000 := regAddr_one rfl rfl t

/-- The registers of the traffic manager lie above the counts of commands and below the registers of functions. -/
theorem tmIntStatus_notMem_cmdRegs {t : ℕ} (h : t < 16) (c : Cmd) : regAddr .tmIntStatus [t] ∉ cmdRegs c := by
  have function := fnIntStatus_ge ((srcFn c.src).getD 0)
  have source := srcCode_le c.src
  have count : regAddr .cmdSrcCnt [srcCode c.src] = 0x30 + srcCode c.src * 8 := regAddr_one rfl rfl _
  simp only [cmdRegs, List.mem_cons, List.not_mem_nil, or_false, not_or, count, regAddr_tmIntStatus]
  omega

theorem tmIntStatus_ne_signalCnt (t : ℕ) : regAddr .tmIntStatus [t] ≠ regAddr .intSignalCnt [] := by
  have count : regAddr .intSignalCnt [] < 0x100000 := by decide
  rw [regAddr_tmIntStatus]
  omega

theorem completes_imp {i : Instr} {c : Cmd} {s : State} {res : List W} {l : List Part} {ra : List ℕ} {P Q : State → Prop}
    (h : Completes i c s res l ra P) (hQ : ∀ t, P t → Q t) : Completes i c s res l ra Q := by
  obtain ⟨t, hx, ha, hf, hr, hP⟩ := h
  exact ⟨t, hx, ha, hf, hr, hQ t hP⟩

/-- A command that configures the packet path of a Tile: CONFIG_APPLIED rises, and the path is as configured (R185, R193). -/
theorem completes_configApplied {i : Instr} {code : ℕ} {dom : Cmd → State → Option ℕ} {body : CmdBody} {c : Cmd} {s v : State} {t : ℕ}
    (hx : exec i s = commandRow (runCommand code dom body c) c s) (h : Taken code dom c s)
    (hb : body c (noteIntake c s) = .done [] (configApplied t v)) (hv : Frame [.pk] (noteIntake c s) v) (ht : t < 16) :
    Completes i c s [] [.pk] [regAddr .tmIntStatus [t], regAddr .intSignalCnt []] fun u =>
      u.pk = v.pk ∧ u.rg .tmIntStatus [t] = s.rg .tmIntStatus [t] ||| 4 := by
  have applied : Frame [.out, .regs] v (configApplied t v) := (steady_raiseInt 14 .tmIntStatus [t] 2 v).frame
  have whole : Frame ([.host, .out, .regs] ++ [.pk]) (noteIntake c s) (configApplied t v) :=
    Frame.trans (Frame.mono (by simp) hv) (Frame.mono (by simp) applied)
  have regs : v.regs = s.regs := (hv.2 .regs (by decide)).trans (noteIntake_regs c s)
  have answered : RegsBut (cmdRegs c) (configApplied t v)
      { sendReply c true .ok 0 [] (cntAccepted c (configApplied t v)) with pending := s.pending, time := s.time } :=
    RegsBut.trans (regsBut_bump _ _ _ _ (by simp [cmdRegs])) (RegsBut.trans (regsBut_sendReply _ _ _ _ _ _ (by simp [cmdRegs])) (RegsBut.of_eq rfl))
  refine completes_of_done hx h hb ?_ (fun p hp _ => whole.2 p hp) ?_ ⟨?_, ?_⟩
  · rw [configApplied, raiseInt_mast, show v.mast = (noteIntake c s).mast from hv.2 .mast (by decide), noteIntake_mast]
    exact h.1.2
  · exact RegsBut.trans (RegsBut.of_eq (hv.2 .regs (by decide))) (RegsBut.mono (by simp) (regsBut_raised 14 .tmIntStatus [t] 2 v))
  · simp [cntAccepted, configApplied]
  · rw [answered .tmIntStatus [t] (tmIntStatus_notMem_cmdRegs ht c), configApplied,
      rg_raiseInt_self _ _ _ (tmIntStatus_ne_signalCnt t), State.rg, State.rg, regs]
    rfl

theorem exec_tmQueueConfig (c : Cmd) (s : State) :
    exec (.tmQueueConfig c) s = commandRow (runCommand 0x0602 queueDomain tmQueueConfigBody c) c s := rfl

theorem exec_tmPortConfig (c : Cmd) (s : State) :
    exec (.tmPortConfig c) s = commandRow (runCommand 0x0603 tmPortDomain tmPortConfigBody c) c s := rfl

theorem exec_shaperSet (c : Cmd) (s : State) :
    exec (.shaperSet c) s = commandRow (runCommand 0x0604 shaperDomain shaperSetBody c) c s := rfl

theorem exec_tmCounterRead (c : Cmd) (s : State) :
    exec (.tmCounterRead c) s = commandRow (runCommand 0x0605 counterDomain tmCounterReadBody c) c s := rfl

@[simp] theorem note_tmq (c : Cmd) (s : State) (k : ℕ) : (noteIntake c s).tmq k = s.tmq k := tmq_congr (noteIntake_pk c s) k

@[simp] theorem note_tmp (c : Cmd) (s : State) (k : ℕ) : (noteIntake c s).tmp k = s.tmp k := tmp_congr (noteIntake_pk c s) k

theorem completes_tmQueueConfig {c : Cmd} {s : State} (h : Taken 0x0602 queueDomain c s) (hq : c.n 0 < 8192) (hw : fld (c.p 1) 63 48 ≠ 0)
    (hf : fld (c.p 1) 47 46 ≠ 3) (hn : fld (c.p 1) 43 23 ≤ 1572864) (hx : fld (c.p 1) 22 2 ≤ 1572864) :
    Completes (.tmQueueConfig c) c s [] [.pk] [regAddr .tmIntStatus [c.n 0 / 512], regAddr .intSignalCnt []] fun t =>
      t.tmq (c.n 0) = { s.tmq (c.n 0) with cfg := ins (c.p 1) 1 0 0 } ∧ (∀ k, k ≠ c.n 0 → t.tmq k = s.tmq k)
      ∧ t.rg .tmIntStatus [c.n 0 / 512] = s.rg .tmIntStatus [c.n 0 / 512] ||| 4 := by
  have done : tmQueueConfigBody c (noteIntake c s) = .done [] (configApplied (c.n 0 / 512)
      ((noteIntake c s).setTmq (c.n 0) { s.tmq (c.n 0) with cfg := ins (c.p 1) 1 0 0 })) := by
    simp [tmQueueConfigBody, checked, firstBad, hq, hw, hf, hn, hx]
  refine completes_imp (completes_configApplied (exec_tmQueueConfig c s) h done (frame_setTmq ..) (by omega)) fun t ⟨pk, status⟩ => ⟨?_, fun k hk => ?_, status⟩
  · rw [tmq_congr pk, tmq_setTmq_self]
  · rw [tmq_congr pk, tmq_setTmq, if_neg hk, note_tmq]

/-! TM_PORT_CONFIG: the queues that change their group. -/

/-- Queues of a port without their deficit. -/
def clearDeficits (p : ℕ) (l : List ℕ) (s : State) : State :=
  l.foldl (fun s q => s.setTmq (16 * p + q) { s.tmq (16 * p + q) with deficit := 0 }) s

theorem frame_clearDeficits (p : ℕ) (l : List ℕ) (s : State) : Frame [.pk] s (clearDeficits p l s) :=
  frame_foldl _ (fun _ _ => frame_setTmq ..) s

theorem tmp_clearDeficits (p : ℕ) (l : List ℕ) (s : State) (k : ℕ) : (clearDeficits p l s).tmp k = s.tmp k := by
  induction l generalizing s with
  | nil => rfl
  | cons q l ih => exact (ih _).trans (tmp_setTmq ..)

theorem tmq_clearDeficits (p : ℕ) (l : List ℕ) (s : State) (k : ℕ) :
    (clearDeficits p l s).tmq k = if ∃ q ∈ l, k = 16 * p + q then { s.tmq k with deficit := 0 } else s.tmq k := by
  induction l generalizing s with
  | nil => simp [clearDeficits]
  | cons q l ih =>
    refine (ih _).trans ?_
    rw [tmq_setTmq]
    by_cases hk : k = 16 * p + q
    · subst hk
      simp
    · simp [hk]

/-- The queues that enter or leave the weighted group where NUM_STRICT changes from `old` to `new` (R185). -/
def regrouped (old new : ℕ) : List ℕ := (List.range 16).filter fun q => decide (16 - max old new ≤ q) && decide (q < 16 - min old new)

theorem exists_regrouped (p old new k : ℕ) : (∃ q ∈ regrouped old new, k = 16 * p + q)
    ↔ k / 16 = p ∧ 16 - max old new ≤ k % 16 ∧ k % 16 < 16 - min old new := by
  simp only [regrouped, List.mem_filter, List.mem_range, Bool.and_eq_true, decide_eq_true_eq]
  constructor
  · rintro ⟨q, ⟨_, _, _⟩, rfl⟩
    omega
  · rintro ⟨rfl, _, _⟩
    exact ⟨k % 16, by omega, by omega⟩

theorem completes_tmPortConfig {c : Cmd} {s : State} (h : Taken 0x0603 tmPortDomain c s) (hp : c.n 0 < 512) (hn : fld (c.p 1) 62 60 ≤ 4) :
    Completes (.tmPortConfig c) c s [] [.pk] [regAddr .tmIntStatus [tileOf (c.n 0)], regAddr .intSignalCnt []] fun t =>
      t.tmp (c.n 0) = { s.tmp (c.n 0) with cfg := ins (c.p 1) 51 0 0 } ∧ (∀ k, k ≠ c.n 0 → t.tmp k = s.tmp k)
      ∧ (∀ k, t.tmq k = if k / 16 = c.n 0 ∧ 16 - max (s.tmp (c.n 0)).strict (fld (c.p 1) 62 60) ≤ k % 16
            ∧ k % 16 < 16 - min (s.tmp (c.n 0)).strict (fld (c.p 1) 62 60)
          then { s.tmq k with deficit := 0 } else s.tmq k)
      ∧ t.rg .tmIntStatus [tileOf (c.n 0)] = s.rg .tmIntStatus [tileOf (c.n 0)] ||| 4 := by
  let u := clearDeficits (c.n 0) (regrouped (s.tmp (c.n 0)).strict (fld (c.p 1) 62 60)) (noteIntake c s)
  have port : ∀ k, u.tmp k = s.tmp k := fun k => (tmp_clearDeficits ..).trans (note_tmp c s k)
  have done : tmPortConfigBody c (noteIntake c s) = .done [] (configApplied (tileOf (c.n 0))
      (u.setTmp (c.n 0) { s.tmp (c.n 0) with cfg := ins (c.p 1) 51 0 0 })) := by
    rw [← port]
    simp only [tmPortConfigBody, checked, firstBad, hp, hn, decide_true, note_tmp]
    rfl
  have tile : tileOf (c.n 0) < 16 := by unfold tileOf; omega
  refine completes_imp (completes_configApplied (exec_tmPortConfig c s) h done (Frame.trans (frame_clearDeficits ..) (frame_setTmp ..)) tile)
    fun t ⟨pk, status⟩ => ⟨?_, fun k hk => ?_, fun k => ?_, status⟩
  · rw [tmp_congr pk, tmp_setTmp_self]
  · rw [tmp_congr pk, tmp_setTmp, if_neg hk, port]
  · rw [tmq_congr pk, tmq_setTmp, tmq_clearDeficits, note_tmq]
    simp only [exists_regrouped]

/-! SHAPER_SET. -/

theorem shaperOf_untimed {c : Cmd} (h : c.timed = false) (now : ℕ) : shaperOf c now =
    { en := c.n 1 == 1, cir := c.n 2, cbs := c.n 3, eir := c.n 4, ebs := c.n 5, ctok := if c.n 6 = 0 then c.n 3 * 32768 else 0, etok := if c.n 6 = 0 then c.n 5 * 32768 else 0, last := now + 1 } := by
  simp [shaperOf, h]

theorem shaperSetBody_port {c : Cmd} {s : State} (hp : bitAt (c.p 0) 63 = true) (hi : fld (c.p 0) 62 0 < 512) (h1 : c.n 1 < 2) (h2 : c.n 2 < 33554432)
    (h3 : c.n 3 < 16777216) (h4 : c.n 4 < 33554432) (h5 : c.n 5 < 16777216) (h6 : c.n 6 < 2) :
    shaperSetBody c s = .done [] (configApplied (tileOf (fld (c.p 0) 62 0)) (s.setTmp (fld (c.p 0) 62 0)
      { s.tmp (fld (c.p 0) 62 0) with shaper := (s.tmp (fld (c.p 0) 62 0)).sh s.tick, shaperNext := some (shaperOf c s.tick) })) := by
  simp [shaperSetBody, checked, firstBad, hp, hi, h1, h2, h3, h4, h5, h6]

theorem shaperSetBody_queue {c : Cmd} {s : State} (hp : bitAt (c.p 0) 63 = false) (hi : fld (c.p 0) 62 0 < 8192) (h1 : c.n 1 < 2) (h2 : c.n 2 < 33554432)
    (h3 : c.n 3 < 16777216) (h4 : c.n 4 < 33554432) (h5 : c.n 5 < 16777216) (h6 : c.n 6 < 2) :
    shaperSetBody c s = .done [] (configApplied (fld (c.p 0) 62 0 / 512) (s.setTmq (fld (c.p 0) 62 0)
      { s.tmq (fld (c.p 0) 62 0) with shaper := (s.tmq (fld (c.p 0) 62 0)).sh s.tick, shaperNext := some (shaperOf c s.tick) })) := by
  simp [shaperSetBody, checked, firstBad, hp, hi, h1, h2, h3, h4, h5, h6]

@[simp] theorem note_tick (c : Cmd) (s : State) : (noteIntake c s).tick = s.mast.tick := by rw [State.tick, noteIntake_mast]

theorem completes_shaperSet_port {c : Cmd} {s : State} (h : Taken 0x0604 shaperDomain c s) (hp : bitAt (c.p 0) 63 = true)
    (hi : fld (c.p 0) 62 0 < 512) (h1 : c.n 1 < 2) (h2 : c.n 2 < 33554432) (h3 : c.n 3 < 16777216) (h4 : c.n 4 < 33554432)
    (h5 : c.n 5 < 16777216) (h6 : c.n 6 < 2) :
    Completes (.shaperSet c) c s [] [.pk] [regAddr .tmIntStatus [tileOf (fld (c.p 0) 62 0)], regAddr .intSignalCnt []] fun t =>
      t.tmp (fld (c.p 0) 62 0) = { s.tmp (fld (c.p 0) 62 0) with
        shaper := (s.tmp (fld (c.p 0) 62 0)).sh s.mast.tick, shaperNext := some (shaperOf c s.mast.tick) }
      ∧ ∀ k, k ≠ fld (c.p 0) 62 0 → t.tmp k = s.tmp k := by
  have tile : tileOf (fld (c.p 0) 62 0) < 16 := by unfold tileOf; omega
  refine completes_imp (completes_configApplied (exec_shaperSet c s) h (shaperSetBody_port hp hi h1 h2 h3 h4 h5 h6) (frame_setTmp ..) tile)
    fun t ⟨pk, _⟩ => ⟨?_, fun k hk => ?_⟩
  · rw [tmp_congr pk, tmp_setTmp_self, note_tmp, note_tick]
  · rw [tmp_congr pk, tmp_setTmp, if_neg hk, note_tmp]

theorem completes_shaperSet_queue {c : Cmd} {s : State} (h : Taken 0x0604 shaperDomain c s) (hp : bitAt (c.p 0) 63 = false)
    (hi : fld (c.p 0) 62 0 < 8192) (h1 : c.n 1 < 2) (h2 : c.n 2 < 33554432) (h3 : c.n 3 < 16777216) (h4 : c.n 4 < 33554432)
    (h5 : c.n 5 < 16777216) (h6 : c.n 6 < 2) :
    Completes (.shaperSet c) c s [] [.pk] [regAddr .tmIntStatus [fld (c.p 0) 62 0 / 512], regAddr .intSignalCnt []] fun t =>
      t.tmq (fld (c.p 0) 62 0) = { s.tmq (fld (c.p 0) 62 0) with
        shaper := (s.tmq (fld (c.p 0) 62 0)).sh s.mast.tick, shaperNext := some (shaperOf c s.mast.tick) }
      ∧ ∀ k, k ≠ fld (c.p 0) 62 0 → t.tmq k = s.tmq k := by
  refine completes_imp (completes_configApplied (exec_shaperSet c s) h (shaperSetBody_queue hp hi h1 h2 h3 h4 h5 h6) (frame_setTmq ..) (by omega))
    fun t ⟨pk, _⟩ => ⟨?_, fun k hk => ?_⟩
  · rw [tmq_congr pk, tmq_setTmq_self, note_tmq, note_tick]
  · rw [tmq_congr pk, tmq_setTmq, if_neg hk, note_tmq]

/-! TM_COUNTER_READ. -/

/-- A queue after its counters were read, and cleared where asked (R478). -/
def readCounters (clear : Bool) (i : ℕ) (s : State) : State :=
  if clear then s.setTmq i { s.tmq i with pulled := 0, bytes := 0, marked := 0, discarded := 0 } else s

theorem frame_readCounters (clear : Bool) (i : ℕ) (s : State) : Frame [.pk] s (readCounters clear i s) := by
  unfold readCounters
  split
  · exact frame_setTmq ..
  · exact Frame.refl _ s

theorem tmq_readCounters (clear : Bool) (i : ℕ) (s : State) (k : ℕ) : (readCounters clear i s).tmq k
    = if k = i ∧ clear = true then { s.tmq i with pulled := 0, bytes := 0, marked := 0, discarded := 0 } else s.tmq k := by
  cases clear <;> simp [readCounters, tmq_setTmq]

theorem completes_tmCounterRead {c : Cmd} {s : State} (h : Taken 0x0605 counterDomain c s) (h0 : fld (c.p 0) 62 13 = 0) :
    let q := s.tmq (fld (c.p 0) 12 0)
    Completes (.tmCounterRead c) c s ([q.pulled, q.bytes, q.marked, q.discarded].map (BitVec.ofNat 64)) [.pk] [] fun t =>
      t.tmq (fld (c.p 0) 12 0) = (if bitAt (c.p 0) 63 then { q with pulled := 0, bytes := 0, marked := 0, discarded := 0 } else q)
      ∧ ∀ k, k ≠ fld (c.p 0) 12 0 → t.tmq k = s.tmq k := by
  intro q
  have done : tmCounterReadBody c (noteIntake c s) = .done ([q.pulled, q.bytes, q.marked, q.discarded].map (BitVec.ofNat 64))
      (readCounters (bitAt (c.p 0) 63) (fld (c.p 0) 12 0) (noteIntake c s)) := by
    have good : firstBad [(0, fld (c.p 0) 62 13 == 0)] = none := by simp [firstBad, h0]
    simp only [tmCounterReadBody, checked, good, readCounters, note_tmq, q]
  have path := frame_readCounters (bitAt (c.p 0) 63) (fld (c.p 0) 12 0) (noteIntake c s)
  generalize hu : readCounters (bitAt (c.p 0) 63) (fld (c.p 0) 12 0) (noteIntake c s) = u at done path
  have queues : ∀ k, u.tmq k = _ := fun k => hu ▸ tmq_readCounters (bitAt (c.p 0) 63) (fld (c.p 0) 12 0) (noteIntake c s) k
  refine completes_of_done (exec_tmCounterRead c s) h done ?_ (fun p hp _ => path.2 p (by simp_all)) (RegsBut.of_eq (path.2 .regs (by decide))) ?_
  · rw [show u.mast = (noteIntake c s).mast from path.2 .mast (by decide), noteIntake_mast]
    exact h.1.2
  · have pk : ({ sendReply c true .ok 0 ([q.pulled, q.bytes, q.marked, q.discarded].map (BitVec.ofNat 64)) (cntAccepted c u) with
        pending := s.pending, time := s.time } : State).pk = u.pk := by simp [cntAccepted]
    refine ⟨?_, fun k hk => ?_⟩
    · rw [tmq_congr pk, queues]
      simp [q]
    · rw [tmq_congr pk, queues, if_neg (by simp [hk]), note_tmq]

end Sys2Proof.Machine
end

section
namespace Sys2Proof.Machine

/-! ### The transmit-timestamp queues (R27 to R30) -/

theorem exec_txtsWord1Read {p : ℕ} (hp : p < 512) (path : Path) (s : State) :
    exec (.txtsWord1Read p path) s = keep s (readOut (txtsRead p 1 path s).1 (txtsRead p 1 path s).2) := by
  change execTxtsWord1Read p path s = _
  simp only [execTxtsWord1Read, Nat.mod_eq_of_lt hp]

/-- The owner takes the head entry (R29, R30). -/
def popTxTs (p : ℕ) (rest : List (W × W)) (s : State) : State :=
  { s with mast := { s.mast with txts := tset {} s.mast.txts p { head := ((s.txts p).head + 1) % 16, entries := rest } } }

theorem txtsRead_owner {s : State} {p : ℕ} {path : Path} {e : W × W} {rest : List (W × W)} (hc : Clean s)
    (ho : ownerPath (s.txtsOwner p) path = true) (he : (s.txts p).entries = e :: rest) :
    txtsRead p 1 path s = (e.2, popTxTs p rest s) := by
  unfold txtsRead
  simp only []
  rw [if_neg (by simp [ho]), he]
  simp only [clean_memRead hc, clean_data, if_true, one_ne_zero, if_false]
  rfl

theorem txtsRead_empty {s : State} {p : ℕ} {path : Path} (ho : ownerPath (s.txtsOwner p) path = true) (he : (s.txts p).entries = []) :
    txtsRead p 1 path s = (0, s) := by
  unfold txtsRead
  simp only []
  rw [if_neg (by simp [ho]), he]

theorem txtsRead_stranger {s : State} {p : ℕ} {path : Path} (ho : ownerPath (s.txtsOwner p) path = false) :
    txtsRead p 1 path s = (0, s.bump .tsCounters [p] 31 0) := by
  unfold txtsRead
  rw [if_pos (by simp [ho])]

theorem goes_txtsWord1Read_owner {s : State} (h : Live s) (hc : Clean s) {p : ℕ} {path : Path} (hp : p < 512)
    (ho : ownerPath (s.txtsOwner p) path = true) {e : W × W} {rest : List (W × W)} (he : (s.txts p).entries = e :: rest) :
    Goes (.txtsWord1Read p path) s [.mast, .out] fun t =>
      t.out.readData = s.out.readData ++ [e.2] ∧ t.txts p = { head := ((s.txts p).head + 1) % 16, entries := rest }
      ∧ ∀ k, k ≠ p → t.txts k = s.txts k := by
  have run := exec_txtsWord1Read hp path s
  rw [txtsRead_owner hc ho he] at run
  have popped : Frame [.mast] s (popTxTs p rest s) := ⟨rfl, fun q hq => by cases q <;> simp_all [Part.same, popTxTs]⟩
  refine goes_of_running run h (Frame.trans (Frame.mono (by simp) popped) (Frame.mono (by simp) (steady_readOut _ _).frame)) rfl
    ⟨rfl, ?_, fun k hk => ?_⟩
  · exact tget_tset_self ..
  · exact tget_tset_ne _ _ _ _ hk

theorem goes_txtsWord1Read_empty {s : State} (h : Live s) {p : ℕ} {path : Path} (hp : p < 512)
    (ho : ownerPath (s.txtsOwner p) path = true) (he : (s.txts p).entries = []) :
    Goes (.txtsWord1Read p path) s [.out] fun t => t.out.readData = s.out.readData ++ [0] := by
  have run := exec_txtsWord1Read hp path s
  rw [txtsRead_empty ho he] at run
  exact goes_of_keep run h (steady_readOut _ _) rfl

theorem goes_txtsWord1Read_stranger {s : State} (h : Live s) {p : ℕ} {path : Path} (hp : p < 512)
    (ho : ownerPath (s.txtsOwner p) path = false) :
    Goes (.txtsWord1Read p path) s [.out, .regs] fun t =>
      t.out.readData = s.out.readData ++ [0] ∧ t.regs = (s.bump .tsCounters [p] 31 0).regs := by
  have run := exec_txtsWord1Read hp path s
  rw [txtsRead_stranger ho] at run
  exact goes_of_keep run h ((Steady.mono (steady_bump ..) (by simp)).trans (Steady.mono (steady_readOut _ _) (by simp))) ⟨rfl, rfl⟩

/-- The registers that a timestamp's entry changes at most (R28). -/
def txtsRegs (p : ℕ) : List ℕ := [regAddr .txtsStatus [p], regAddr .txtsDiscard [p], regAddr .intSignalCnt []]

@[simp] theorem pushTxTs_pk (p id : ℕ) (t16 : Option ℤ) (s : State) : (pushTxTs p id t16 s).pk = s.pk := by
  simp only [pushTxTs]
  split <;> simp

theorem frame_memWriteN (b n mem addr k : ℕ) (s : State) : Frame [.flt] s (memWriteN b n mem addr k s) := by
  induction k generalizing addr s with
  | zero => exact Frame.refl _ s
  | succ k ih => exact Frame.trans (frame_memWrite ..) (ih ..)

theorem frame_pushTxTs (p id : ℕ) (t16 : Option ℤ) (s : State) : Frame [.mast, .out, .flt, .regs] s (pushTxTs p id t16 s) := by
  simp only [pushTxTs]
  split
  · exact ⟨by simp, fun q hq => by cases q <;> simp_all [Part.same]⟩
  · refine Frame.trans (t := { s with mast := { s.mast with txts := _ } }) ?_ (Frame.mono (by simp) (frame_memWriteN ..))
    exact ⟨rfl, fun q hq => by cases q <;> simp_all [Part.same]⟩

theorem running_pushTxTs (p id : ℕ) (t16 : Option ℤ) (s : State) : (pushTxTs p id t16 s).mast.running = s.mast.running := by
  simp only [pushTxTs]
  split
  · simp
  · rw [show (memWriteN _ _ _ _ _ _).mast = _ from (frame_memWriteN ..).2 .mast (by decide)]

theorem regsBut_pushTxTs (p id : ℕ) (t16 : Option ℤ) (s : State) : RegsBut (txtsRegs p) s (pushTxTs p id t16 s) := by
  simp only [pushTxTs]
  split
  · refine RegsBut.trans (regsBut_bump s 31 0 1 (by simp [txtsRegs])) (regsBut_intEdge _ _ _ (regsBut_setRg _ _ ?_) ?_) <;> simp [txtsRegs]
  · exact RegsBut.of_eq ((frame_memWriteN ..).2 .regs (by decide))

theorem abortTs_pk (p : ℕ) (ts : Option ℕ) (s : State) : (abortTs p ts s).pk = s.pk := by cases ts <;> simp [abortTs]

theorem frame_abortTs (p : ℕ) (ts : Option ℕ) (s : State) : Frame [.mast, .out, .flt, .regs] s (abortTs p ts s) := by
  cases ts with
  | none => exact Frame.refl _ s
  | some id => exact frame_pushTxTs ..

theorem running_abortTs (p : ℕ) (ts : Option ℕ) (s : State) : (abortTs p ts s).mast.running = s.mast.running := by
  cases ts with
  | none => rfl
  | some id => exact running_pushTxTs ..

theorem regsBut_abortTs (p : ℕ) (ts : Option ℕ) (s : State) : RegsBut (txtsRegs p) s (abortTs p ts s) := by
  cases ts with
  | none => exact RegsBut.refl _ s
  | some id => exact regsBut_pushTxTs p id none s

end Sys2Proof.Machine
end

section
namespace Sys2Proof.Machine

/-! ### Sending a pull -/

theorem sendPull_pk (p q i : ℕ) (r : Ref) (d : Bool) (s : State) : (sendPull p q i r d s).pk = { s.pk with
    slices := tset {} s.pk.slices i { s.slice i with
      voq := tset [] (s.slice i).voq (16 * p + q) ((tget [] (s.slice i).voq (16 * p + q)).drop 1) }
    pulls := s.pk.pulls ++ [{ slice := i, ref := r, discard := d }]
    queues := tset {} s.pk.queues (16 * p + q) { s.tmq (16 * p + q) with rr := (i + 1) % 16 } } := by
  simp [sendPull, State.setTmq, State.modPk, State.setSlice, State.tmq]

theorem frame_work (d : ℕ) (s : State) : Frame [.power] s (work d s) := ⟨by simp, fun p hp => by cases p <;> simp_all [Part.same]⟩

theorem frame_modPk (f : Packets → Packets) (s : State) : Frame [.pk] s (s.modPk f) :=
  ⟨rfl, fun p hp => by cases p <;> simp_all [Part.same]⟩

theorem frame_sendPull (p q i : ℕ) (r : Ref) (d : Bool) (s : State) : Frame [.pk, .power] s (sendPull p q i r d s) :=
  Frame.trans (Frame.mono (by simp) (Frame.trans (frame_modPk _ s) (frame_modPk _ _)))
    (Frame.trans (Frame.mono (by simp) (frame_work ..)) (Frame.mono (by simp) (frame_setTmq ..)))

/-- What a pull leaves of the head packet's slice, its queue and its port (R163). -/
theorem sendPull_facts (p q i : ℕ) (r : Ref) (d : Bool) (s : State) :
    let t := sendPull p q i r d s
    t.pk.pulls = s.pk.pulls ++ [{ slice := i, ref := r, discard := d }]
    ∧ tget [] (t.slice i).voq (16 * p + q) = (tget [] (s.slice i).voq (16 * p + q)).drop 1 ∧ (t.slice i).stored = (s.slice i).stored
    ∧ t.tmq (16 * p + q) = { s.tmq (16 * p + q) with rr := (i + 1) % 16 }
    ∧ (∀ k, t.tmp k = s.tmp k) ∧ (∀ k, t.tl k = s.tl k) ∧ t.pk.turns = s.pk.turns := by
  simp only [State.slice, State.tmq, State.tmp, State.tl, sendPull_pk, tget_tset_self, implies_true, and_self]

/-! ### A discard pull (R189), of whatever cause -/

/-- The head packet of a queue is taken by a discard pull, and the queue counts it. -/
def discarded (p q i : ℕ) (r : Ref) (s : State) : State :=
  let t := sendPull p q i r true s
  t.setTmq (16 * p + q) { t.tmq (16 * p + q) with discarded := satAdd 64 (t.tmq (16 * p + q)).discarded 1 }

theorem frame_discarded (p q i : ℕ) (r : Ref) (s : State) : Frame [.pk, .power] s (discarded p q i r s) :=
  Frame.trans (frame_sendPull p q i r true s) (Frame.mono (by simp) (frame_setTmq ..))

/-- The claims of a discard pull on the packet path, which counts and interrupts leave as they are. -/
structure PullsHead (p q i : ℕ) (r : Ref) (s t : State) : Prop where
  pulls : t.pk.pulls = s.pk.pulls ++ [{ slice := i, ref := r, discard := true }]
  voq : tget [] (t.slice i).voq (16 * p + q) = (tget [] (s.slice i).voq (16 * p + q)).drop 1
  counted : (t.tmq (16 * p + q)).discarded = satAdd 64 (s.tmq (16 * p + q)).discarded 1

theorem pullsHead_discarded (p q i : ℕ) (r : Ref) (s : State) : PullsHead p q i r s (discarded p q i r s) := by
  obtain ⟨pulls, voq, _, queue, _, _, _⟩ := sendPull_facts p q i r true s
  exact ⟨pulls, voq, by simp [discarded, queue]⟩

theorem PullsHead.congr {p q i : ℕ} {r : Ref} {s t u : State} (h : PullsHead p q i r s t) (hp : u.pk.pulls = t.pk.pulls)
    (hs : u.pk.slices = t.pk.slices) (hq : u.pk.queues = t.pk.queues) : PullsHead p q i r s u := by
  obtain ⟨pulls, voq, counted⟩ := h
  refine ⟨hp.trans pulls, ?_, ?_⟩
  · rw [State.slice, hs]; exact voq
  · rw [State.tmq, hq]; exact counted

/-- The timestamp identifier of a head packet, which a mirror copy does not carry. -/
def State.headTs (s : State) (i : ℕ) (r : Ref) : Option ℕ := if r.mirror then none else (tget {} (s.slice i).stored r.id).pkt.ts

/-- The count of Table 8-4 and its interrupt: the port is down, or it dozes under DROP. -/
def countDiscard (p : ℕ) (down : Bool) (s : State) : State :=
  raiseInt 14 .tmIntStatus [tileOf p] (if down then 0 else 1)
    (if down then s.bump .tmDropCnt [tileOf p, p % 32] 63 32 else s.bump .tmDropCnt [tileOf p, p % 32] 31 0)

theorem discardPull_head {s : State} {p q i : ℕ} {r : Ref} (hh : s.head p q = some (i, r)) (down : Bool) :
    discardPull p q down s = abortTs p (s.headTs i r) (countDiscard p down (discarded p q i r s)) := by
  unfold discardPull
  rw [hh]
  rfl

theorem poisonPull_head {s : State} {p q i : ℕ} {r : Ref} (hh : s.head p q = some (i, r)) :
    poisonPull p q s = abortTs p (s.headTs i r) ((bufDrop i 6 (sendPull p q i r true s)).setTmq (16 * p + q)
      { (bufDrop i 6 (sendPull p q i r true s)).tmq (16 * p + q) with
        discarded := satAdd 64 ((bufDrop i 6 (sendPull p q i r true s)).tmq (16 * p + q)).discarded 1 }) := by
  unfold poisonPull
  rw [hh]
  rfl

theorem regAddr_two {r : RegId} {b lo n d lo' n' d' : ℕ} (hb : (regDesc r).base = b) (h : (regDesc r).dims = [⟨lo, n, d⟩, ⟨lo', n', d'⟩]) (i j : ℕ) :
    regAddr r [i, j] = b + (i * d + j * d') := by
  simp [regAddr, h, hb, dimAddr]

theorem regAddr_tmDropCnt (t j : ℕ) : regAddr .tmDropCnt [t, j] = 0x100818 + (t * 0x8000 + j * 0x40) := regAddr_two rfl rfl t j

theorem regAddr_bufDropCnt (i k : ℕ) : regAddr .bufDropCnt [i, k] = 0xC0040 + (i * 0x1000 + k * 8) := regAddr_two rfl rfl i k

theorem regAddr_bufIntStatus (i : ℕ) : regAddr .bufIntStatus [i] = 0xC0010 + i * 0x1000 := regAddr_one rfl rfl i

theorem txtsRegs_lt {p a : ℕ} (hp : p < 512) (ha : a ∈ txtsRegs p) : a < 0x19030 := by
  have status : regAddr .txtsStatus [p] = 0x11028 + p * 0x40 := regAddr_one rfl rfl p
  have discard : regAddr .txtsDiscard [p] = 0x11030 + p * 0x40 := regAddr_one rfl rfl p
  have signals : regAddr .intSignalCnt [] < 0x10000 := by decide
  simp only [txtsRegs, List.mem_cons, List.not_mem_nil, or_false, status, discard] at ha
  omega

theorem intSignalCnt_lt : regAddr .intSignalCnt [] < 0x10000 := by decide

theorem bitAt_or_two_pow (w : W) {k : ℕ} (h : k < 64) : bitAt (w ||| BitVec.ofNat 64 (2 ^ k)) k = true := by
  rw [bitAt, BitVec.getLsbD_or, BitVec.getLsbD_ofNat, Nat.testBit_two_pow_self]
  simp [h]

theorem satAdd_zero {k a : ℕ} (h : a < 2 ^ k) : satAdd k a 0 = a := by
  unfold satAdd
  omega

theorem rgf_lt (s : State) (r : RegId) (ix : List ℕ) (hi lo : ℕ) : s.rgf r ix hi lo < 2 ^ (hi + 1 - lo) := fld_lt ..

/-- What a discard of a port that is down, or that dozes, counts, and the interrupt that tells of it (R188 to R190). -/
theorem countDiscard_regs {p : ℕ} (down : Bool) (s : State) :
    let t := countDiscard p down s
    t.rgf .tmDropCnt [tileOf p, p % 32] 63 32 = satAdd 32 (s.rgf .tmDropCnt [tileOf p, p % 32] 63 32) (b2n down)
    ∧ t.rgf .tmDropCnt [tileOf p, p % 32] 31 0 = satAdd 32 (s.rgf .tmDropCnt [tileOf p, p % 32] 31 0) (b2n (!down))
    ∧ bitAt (t.rg .tmIntStatus [tileOf p]) (if down then 0 else 1) = true := by
  have signals := intSignalCnt_lt
  have apart : regAddr .tmDropCnt [tileOf p, p % 32] ∉ [regAddr .tmIntStatus [tileOf p], regAddr .intSignalCnt []] := by
    simp only [List.mem_cons, List.not_mem_nil, or_false, not_or, regAddr_tmDropCnt, regAddr_tmIntStatus]
    omega
  have field := fun bit u => RegsBut.rgf (regsBut_raised 14 .tmIntStatus [tileOf p] bit u) apart
  have bit : ∀ k < 64, ∀ u : State, bitAt ((raiseInt 14 .tmIntStatus [tileOf p] k u).rg .tmIntStatus [tileOf p]) k = true := fun k hk u => by
    rw [rg_raiseInt_self _ _ _ (tmIntStatus_ne_signalCnt _)]
    exact bitAt_or_two_pow _ hk
  cases down with
  | true =>
    simp only [countDiscard, if_true, field]
    exact ⟨rgf_bump_self _ _ _ _ (by decide) (by decide),
      (rgf_bump_apart _ _ _ _ (by decide) (by decide) (by decide) (by decide)).trans (satAdd_zero (rgf_lt ..)).symm, bit 0 (by decide) _⟩
  | false =>
    simp only [countDiscard, Bool.false_eq_true, if_false, field]
    exact ⟨(rgf_bump_apart _ _ _ _ (by decide) (by decide) (by decide) (by decide)).trans (satAdd_zero (rgf_lt ..)).symm,
      rgf_bump_self _ _ _ _ (by decide) (by decide), bit 1 (by decide) _⟩

theorem countDiscard_pk (p : ℕ) (down : Bool) (s : State) : (countDiscard p down s).pk = s.pk := by
  cases down <;> simp [countDiscard]

theorem frame_countDiscard (p : ℕ) (down : Bool) (s : State) : Frame [.out, .regs] s (countDiscard p down s) := by
  cases down <;> exact ⟨by simp [countDiscard], fun q hq => by cases q <;> simp_all [Part.same, countDiscard]⟩

abbrev discardParts : List Part := [.mast, .pk, .out, .flt, .regs, .power]

theorem frame_discardPull {s : State} {p q i : ℕ} {r : Ref} (hh : s.head p q = some (i, r)) (down : Bool) :
    Frame discardParts s (discardPull p q down s) := by
  rw [discardPull_head hh]
  exact Frame.trans (Frame.mono (by simp) (frame_discarded p q i r s)) (Frame.trans (Frame.mono (by simp) (frame_countDiscard ..))
    (Frame.mono (by simp) (frame_abortTs ..)))

theorem running_discardPull {s : State} {p q i : ℕ} {r : Ref} (hh : s.head p q = some (i, r)) (down : Bool) :
    (discardPull p q down s).mast.running = s.mast.running := by
  rw [discardPull_head hh, running_abortTs, show (countDiscard p down _).mast = _ from (frame_countDiscard ..).2 .mast (by decide),
    show (discarded p q i r s).mast = _ from (frame_discarded ..).2 .mast (by decide)]

theorem pullsHead_discardPull {s : State} {p q i : ℕ} {r : Ref} (hh : s.head p q = some (i, r)) (down : Bool) :
    PullsHead p q i r s (discardPull p q down s) := by
  have pk : (discardPull p q down s).pk = (discarded p q i r s).pk := by rw [discardPull_head hh, abortTs_pk, countDiscard_pk]
  exact (pullsHead_discarded p q i r s).congr (by rw [pk]) (by rw [pk]) (by rw [pk])

theorem discardPull_regs {s : State} {p q i : ℕ} {r : Ref} (hp : p < 512) (hh : s.head p q = some (i, r)) (down : Bool) :
    let t := discardPull p q down s
    t.rgf .tmDropCnt [tileOf p, p % 32] 63 32 = satAdd 32 (s.rgf .tmDropCnt [tileOf p, p % 32] 63 32) (b2n down)
    ∧ t.rgf .tmDropCnt [tileOf p, p % 32] 31 0 = satAdd 32 (s.rgf .tmDropCnt [tileOf p, p % 32] 31 0) (b2n (!down))
    ∧ bitAt (t.rg .tmIntStatus [tileOf p]) (if down then 0 else 1) = true := by
  have stamped := regsBut_abortTs p (s.headTs i r) (countDiscard p down (discarded p q i r s))
  have drops : regAddr .tmDropCnt [tileOf p, p % 32] ∉ txtsRegs p := fun ha => by
    have := txtsRegs_lt hp ha
    rw [regAddr_tmDropCnt] at this
    omega
  have status : regAddr .tmIntStatus [tileOf p] ∉ txtsRegs p := fun ha => by
    have := txtsRegs_lt hp ha
    rw [regAddr_tmIntStatus] at this
    omega
  have before : ∀ hi lo, (discarded p q i r s).rgf .tmDropCnt [tileOf p, p % 32] hi lo = s.rgf .tmDropCnt [tileOf p, p % 32] hi lo := fun hi lo => by
    rw [State.rgf, State.rg, show (discarded p q i r s).regs = _ from (frame_discarded ..).2 .regs (by decide)]
    rfl
  simp only [discardPull_head hh, RegsBut.rgf stamped drops, stamped .tmIntStatus [tileOf p] status, ← before]
  exact countDiscard_regs down _

/-! ### A poisoned packet (R397) -/

/-- A packet that a slice drops for an uncorrectable error is counted under code 6, with its interrupt (Table 7-2). -/
theorem bufDrop_ecc (i : ℕ) (s : State) : bufDrop i 6 s = raiseInt 13 .bufIntStatus [i] 2 (s.bump .bufDropCnt [i, 6] 47 0) := rfl

theorem bufDrop_ecc_pk (i : ℕ) (s : State) : (bufDrop i 6 s).pk = s.pk := by simp [bufDrop_ecc]

theorem frame_bufDrop_ecc (i : ℕ) (s : State) : Frame [.out, .regs] s (bufDrop i 6 s) := by
  rw [bufDrop_ecc]
  exact ⟨by simp, fun q hq => by cases q <;> simp_all [Part.same]⟩

theorem bufDrop_ecc_regs (i : ℕ) (s : State) :
    (bufDrop i 6 s).rgf .bufDropCnt [i, 6] 47 0 = satAdd 48 (s.rgf .bufDropCnt [i, 6] 47 0) 1
    ∧ bitAt ((bufDrop i 6 s).rg .bufIntStatus [i]) 2 = true := by
  have signals := intSignalCnt_lt
  rw [bufDrop_ecc]
  constructor
  · rw [RegsBut.rgf (regsBut_raised 13 .bufIntStatus [i] 2 _)]
    · exact rgf_bump_self _ _ _ _ (by decide) (by decide)
    · simp only [List.mem_cons, List.not_mem_nil, or_false, not_or, regAddr_bufDropCnt, regAddr_bufIntStatus]
      omega
  · rw [rg_raiseInt_self _ _ _ (by rw [regAddr_bufIntStatus]; omega)]
    exact bitAt_or_two_pow _ (by decide)

theorem frame_poisonPull {s : State} {p q i : ℕ} {r : Ref} (hh : s.head p q = some (i, r)) : Frame discardParts s (poisonPull p q s) := by
  rw [poisonPull_head hh]
  exact Frame.trans (Frame.mono (by simp) (frame_sendPull ..)) (Frame.trans (Frame.mono (by simp) (frame_bufDrop_ecc ..))
    (Frame.trans (Frame.mono (by simp) (frame_setTmq ..)) (Frame.mono (by simp) (frame_abortTs ..))))

theorem running_poisonPull {s : State} {p q i : ℕ} {r : Ref} (hh : s.head p q = some (i, r)) :
    (poisonPull p q s).mast.running = s.mast.running := by
  rw [poisonPull_head hh, running_abortTs, State.setTmq_mast, show (bufDrop i 6 _).mast = _ from (frame_bufDrop_ecc ..).2 .mast (by decide),
    show (sendPull p q i r true s).mast = _ from (frame_sendPull ..).2 .mast (by decide)]

theorem pullsHead_poisonPull {s : State} {p q i : ℕ} {r : Ref} (hh : s.head p q = some (i, r)) : PullsHead p q i r s (poisonPull p q s) := by
  have dropped := bufDrop_ecc_pk i (sendPull p q i r true s)
  have pk : (poisonPull p q s).pk = (discarded p q i r s).pk := by
    rw [poisonPull_head hh, abortTs_pk, tmq_congr dropped]
    simp only [State.setTmq, State.modPk, dropped, discarded]
  exact (pullsHead_discarded p q i r s).congr (by rw [pk]) (by rw [pk]) (by rw [pk])

theorem poisonPull_regs {s : State} {p q i : ℕ} {r : Ref} (hp : p < 512) (hh : s.head p q = some (i, r)) :
    (poisonPull p q s).rgf .bufDropCnt [i, 6] 47 0 = satAdd 48 (s.rgf .bufDropCnt [i, 6] 47 0) 1
    ∧ bitAt ((poisonPull p q s).rg .bufIntStatus [i]) 2 = true := by
  let u := bufDrop i 6 (sendPull p q i r true s)
  have stamped : RegsBut (txtsRegs p) u (poisonPull p q s) := by
    rw [poisonPull_head hh]
    exact RegsBut.trans (t := u.setTmq (16 * p + q) _) (RegsBut.of_eq rfl) (regsBut_abortTs p _ _)
  have drops : regAddr .bufDropCnt [i, 6] ∉ txtsRegs p := fun ha => by
    have := txtsRegs_lt hp ha
    rw [regAddr_bufDropCnt] at this
    omega
  have status : regAddr .bufIntStatus [i] ∉ txtsRegs p := fun ha => by
    have := txtsRegs_lt hp ha
    rw [regAddr_bufIntStatus] at this
    omega
  have before : (sendPull p q i r true s).rgf .bufDropCnt [i, 6] 47 0 = s.rgf .bufDropCnt [i, 6] 47 0 := by
    rw [State.rgf, State.rg, show (sendPull p q i r true s).regs = _ from (frame_sendPull ..).2 .regs (by decide)]
    rfl
  rw [RegsBut.rgf stamped drops, stamped .bufIntStatus [i] status, ← before]
  exact bufDrop_ecc_regs i _

end Sys2Proof.Machine
end

section
namespace Sys2Proof.Machine

/-! ### A pull (R163, R182, R192, R478) -/

/-- The congestion decision may advance the LFSR of the Tile, and nothing besides (R194). -/
theorem ecnDecision_state (p q : ℕ) (s : State) :
    (ecnDecision p q s).2 = s ∨ ∃ x, (ecnDecision p q s).2 = s.modTl (tileOf p) fun t => { t with lfsr := x } := by
  simp only [ecnDecision]
  split
  · exact .inl rfl
  · split
    · exact .inl rfl
    · exact .inr ⟨_, rfl⟩

theorem tl_modTl_self (s : State) (t : ℕ) (f : TileState → TileState) : (s.modTl t f).tl t = f (s.tl t) := tget_tset_self ..

/-- What stays of a selecting port's part of the packet path: everything but the credit of its Tile and the LFSR. -/
structure SamePath (s t : State) : Prop where
  frame : Frame [.pk] s t
  slices : t.pk.slices = s.pk.slices
  pulls : t.pk.pulls = s.pk.pulls
  tports : t.pk.tports = s.pk.tports
  turns : t.pk.turns = s.pk.turns

theorem samePath_modTl (s : State) (t : ℕ) (f : TileState → TileState) : SamePath s (s.modTl t f) := ⟨frame_modTl .., rfl, rfl, rfl, rfl⟩

theorem samePath_setTmq (s : State) (q : ℕ) (v : TmQueue) : SamePath s (s.setTmq q v) := ⟨frame_setTmq .., rfl, rfl, rfl, rfl⟩

theorem SamePath.refl (s : State) : SamePath s s := ⟨Frame.refl _ s, rfl, rfl, rfl, rfl⟩

theorem SamePath.trans {s t u : State} (f : SamePath s t) (g : SamePath t u) : SamePath s u :=
  ⟨Frame.trans f.frame g.frame, g.slices.trans f.slices, g.pulls.trans f.pulls, g.tports.trans f.tports, g.turns.trans f.turns⟩

theorem samePath_ecnDecision (p q : ℕ) (s : State) : SamePath s (ecnDecision p q s).2 := by
  rcases ecnDecision_state p q s with h | ⟨x, h⟩ <;> rw [h]
  · exact SamePath.refl s
  · exact samePath_modTl ..

theorem ecnDecision_tmq (p q k : ℕ) (s : State) : (ecnDecision p q s).2.tmq k = s.tmq k := by
  rcases ecnDecision_state p q s with h | ⟨x, h⟩
  · rw [h]
  · rw [h]; rfl

theorem ecnDecision_credit (p q : ℕ) (s : State) : ((ecnDecision p q s).2.tl (tileOf p)).credit = (s.tl (tileOf p)).credit := by
  rcases ecnDecision_state p q s with h | ⟨x, h⟩
  · rw [h]
  · rw [h, tl_modTl_self]

/-- The deficits of a port's queues after the group has chosen (R182). -/
def storeDeficits (p : ℕ) (d : List ℕ) (l : List ℕ) (s : State) : State :=
  l.foldl (fun s q => s.setTmq (16 * p + q) { s.tmq (16 * p + q) with deficit := d.getD q 0 }) s

theorem samePath_storeDeficits (p : ℕ) (d l : List ℕ) (s : State) : SamePath s (storeDeficits p d l s) := by
  induction l generalizing s with
  | nil => exact SamePath.refl s
  | cons q l ih => exact (samePath_setTmq ..).trans (ih _)

theorem storeDeficits_tl (p : ℕ) (d l : List ℕ) (s : State) (t : ℕ) : (storeDeficits p d l s).tl t = s.tl t := by
  induction l generalizing s with
  | nil => rfl
  | cons q l ih => exact (ih _).trans rfl

theorem storeDeficits_tmq (p : ℕ) (d l : List ℕ) (s : State) (k : ℕ) : ∃ x, (storeDeficits p d l s).tmq k = { s.tmq k with deficit := x } := by
  induction l generalizing s with
  | nil => exact ⟨(s.tmq k).deficit, rfl⟩
  | cons q l ih =>
    obtain ⟨x, hx⟩ := ih (s.setTmq (16 * p + q) { s.tmq (16 * p + q) with deficit := d.getD q 0 })
    refine ⟨x, hx.trans ?_⟩
    rw [tmq_setTmq]
    split
    · subst k; rfl
    · rfl

/-- The head packet is pulled, marked as the congestion decision says, and the Tile's credit holds its cells (R163, R194). -/
def credited (p q i : ℕ) (r : Ref) (s : State) : State :=
  (sendPull p q i { r with mark := (ecnDecision p q s).1 } false (ecnDecision p q s).2).modTl (tileOf p)
    fun t => { t with credit := t.credit + r.cells }

/-- As `credited`, and the group's deficits are stored where the group chose. -/
def granted (p : ℕ) (k : Pick) (i : ℕ) (r : Ref) (s : State) : State :=
  when k.group (storeDeficits p k.deficits (List.range 16)) (credited p k.queue i r s)

/-- The queue is charged for its packet. -/
def chargeQueue (p : ℕ) (k : Pick) (r : Ref) (n : ℤ) (s : State) : State :=
  let x := s.tmq (16 * p + k.queue)
  s.setTmq (16 * p + k.queue) { x with
    deficit := if k.group then (if (s.parts p k.queue).isEmpty then 0 else x.deficit - r.len) else x.deficit
    shaper := (x.sh s.tick).charge s.tick k.committed n, shaperNext := shaperLeft x.shaperNext s.tick
    pulled := satAdd 64 x.pulled 1, bytes := satAdd 64 x.bytes r.len }

/-- The port is charged for its packet, under the state that its shaper had at the selection. -/
def chargePort (p : ℕ) (k : Pick) (r : Ref) (n : ℤ) (committed : Bool) (s : State) : State :=
  let y := s.tmp p
  s.setTmp p { y with
    out := y.out + r.cells, shaper := (y.sh s.tick).charge s.tick committed n, shaperNext := shaperLeft y.shaperNext s.tick
    rr := if k.group then k.queue else y.rr, onTurn := if k.group then true else y.onTurn }

theorem pullChosen_head {s : State} {p : ℕ} {k : Pick} {i : ℕ} {r : Ref} (hh : s.head p k.queue = some (i, r)) :
    pullChosen p k s = (chargePort p k r (r.len + ((granted p k i r s).tmp p).lenAdj) (((s.tmp p).sh s.tick).state s.tick == 0)
      (chargeQueue p k r (r.len + ((granted p k i r s).tmp p).lenAdj) (granted p k i r s))).bump .tmPortCnt [tileOf p, p % 32] 63 24 := by
  unfold pullChosen
  rw [hh]
  rfl

/-- What the grant leaves for the charges: the packet path as the pull left it, the credit taken, the queue as before but for its turn
and its deficit. -/
theorem granted_facts (p : ℕ) (k : Pick) (i : ℕ) (r : Ref) (s : State) :
    let t := granted p k i r s
    Frame [.pk, .power] s t ∧ (∃ m, t.pk.pulls = s.pk.pulls ++ [{ slice := i, ref := { r with mark := m }, discard := false }])
    ∧ tget [] (t.slice i).voq (16 * p + k.queue) = (tget [] (s.slice i).voq (16 * p + k.queue)).drop 1
    ∧ (t.slice i).stored = (s.slice i).stored ∧ (t.tl (tileOf p)).credit = (s.tl (tileOf p)).credit + r.cells
    ∧ t.tmp p = s.tmp p ∧ t.pk.turns = s.pk.turns
    ∧ ∃ x d, t.tmq (16 * p + k.queue) = { s.tmq (16 * p + k.queue) with rr := x, deficit := d } := by
  intro t
  let e := ecnDecision p k.queue s
  let u := sendPull p k.queue i { r with mark := e.1 } false e.2
  have decided : SamePath s e.2 := samePath_ecnDecision ..
  obtain ⟨pulls, voq, stored, queue, port, tile, turns⟩ := sendPull_facts p k.queue i { r with mark := e.1 } false e.2
  have stays : SamePath (credited p k.queue i r s) t ∧ (t.tl (tileOf p)).credit = ((credited p k.queue i r s).tl (tileOf p)).credit
      ∧ ∃ d, t.tmq (16 * p + k.queue) = { (credited p k.queue i r s).tmq (16 * p + k.queue) with deficit := d } := by
    simp only [t, granted, when]
    split
    · exact ⟨samePath_storeDeficits .., by rw [storeDeficits_tl], storeDeficits_tmq ..⟩
    · exact ⟨SamePath.refl _, rfl, _, rfl⟩
  obtain ⟨deficits, credit, d, stored'⟩ := stays
  have path : SamePath u t := (samePath_modTl ..).trans deficits
  have slice : ∀ j, t.slice j = u.slice j := fun j => by rw [State.slice, State.slice, path.slices]
  have slice' : ∀ j, e.2.slice j = s.slice j := fun j => by rw [State.slice, State.slice, decided.slices]
  refine ⟨?_, ⟨e.1, ?_⟩, ?_, ?_, ?_, ?_, ?_, (i + 1) % 16, d, ?_⟩
  · exact Frame.trans (Frame.mono (by simp) decided.frame) (Frame.trans (frame_sendPull ..) (Frame.mono (by simp) path.frame))
  · rw [path.pulls, pulls, decided.pulls]
  · rw [slice, voq, slice']
  · rw [slice, stored, slice']
  · rw [credit, credited, tl_modTl_self, tile, ecnDecision_credit]
  · rw [State.tmp, path.tports, ← State.tmp, port, State.tmp, decided.tports, ← State.tmp]
  · rw [path.turns, turns, decided.turns]
  · rw [stored', show (credited p k.queue i r s).tmq (16 * p + k.queue) = u.tmq (16 * p + k.queue) from rfl, queue, ecnDecision_tmq]

theorem frame_pullChosen {s : State} {p : ℕ} {k : Pick} {i : ℕ} {r : Ref} (hh : s.head p k.queue = some (i, r)) :
    Frame [.pk, .regs, .power] s (pullChosen p k s) := by
  obtain ⟨frame, _⟩ := granted_facts p k i r s
  rw [pullChosen_head hh]
  exact Frame.trans (Frame.mono (by simp) frame) (Frame.trans (Frame.mono (by simp) (frame_setTmq ..))
    (Frame.trans (Frame.mono (by simp) (frame_setTmp ..)) (Frame.mono (by simp) (steady_bump ..).frame)))

/-- The claims of a pull on the packet path and the counts (R163, R181, R192). -/
theorem pullChosen_facts {s : State} {p : ℕ} {k : Pick} {i : ℕ} {r : Ref} (hh : s.head p k.queue = some (i, r)) :
    let t := pullChosen p k s
    let key := 16 * p + k.queue
    let n : ℤ := r.len + (s.tmp p).lenAdj
    (∃ m, t.pk.pulls = s.pk.pulls ++ [{ slice := i, ref := { r with mark := m }, discard := false }])
    ∧ tget [] (t.slice i).voq key = (tget [] (s.slice i).voq key).drop 1 ∧ (t.slice i).stored = (s.slice i).stored
    ∧ (t.tl (tileOf p)).credit = (s.tl (tileOf p)).credit + r.cells ∧ (t.tmp p).out = (s.tmp p).out + r.cells
    ∧ (t.tmq key).pulled = satAdd 64 (s.tmq key).pulled 1 ∧ (t.tmq key).bytes = satAdd 64 (s.tmq key).bytes r.len
    ∧ (t.tmq key).shaper = ((s.tmq key).sh s.mast.tick).charge s.mast.tick k.committed n
    ∧ (t.tmp p).shaper = ((s.tmp p).sh s.mast.tick).charge s.mast.tick (((s.tmp p).sh s.mast.tick).state s.mast.tick == 0) n
    ∧ t.pk.turns = s.pk.turns
    ∧ t.rgf .tmPortCnt [tileOf p, p % 32] 63 24 = satAdd 40 (s.rgf .tmPortCnt [tileOf p, p % 32] 63 24) 1 := by
  intro t key n
  obtain ⟨frame, pulls, voq, stored, credit, port, turns, x, d, queue⟩ := granted_facts p k i r s
  let g := granted p k i r s
  have tick : g.tick = s.mast.tick := by rw [State.tick, show g.mast = s.mast from frame.2 .mast (by decide)]
  have after : t = (chargePort p k r n (((s.tmp p).sh s.tick).state s.tick == 0) (chargeQueue p k r n g)).bump .tmPortCnt
      [tileOf p, p % 32] 63 24 := by
    rw [show n = r.len + (g.tmp p).lenAdj by rw [show g.tmp p = s.tmp p from port]]
    exact pullChosen_head hh
  have ofQueue : t.tmq key = (chargeQueue p k r n g).tmq key := by rw [after]; rfl
  have ofPort : t.tmp p = (chargePort p k r n (((s.tmp p).sh s.tick).state s.tick == 0) (chargeQueue p k r n g)).tmp p := by rw [after]; rfl
  have ofTile : t.tl (tileOf p) = g.tl (tileOf p) := by rw [after]; rfl
  have ofSlice : t.slice i = g.slice i := by rw [after]; rfl
  have port' : (chargeQueue p k r n g).tmp p = s.tmp p := port
  have regs : (chargePort p k r n (((s.tmp p).sh s.tick).state s.tick == 0) (chargeQueue p k r n g)).regs = s.regs :=
    (show _ = g.regs from rfl).trans (frame.2 .regs (by decide))
  refine ⟨?_, ?_, ?_, ?_, ?_, ?_, ?_, ?_, ?_, ?_, ?_⟩
  · rw [after]; exact pulls
  · rw [ofSlice]; exact voq
  · rw [ofSlice]; exact stored
  · rw [ofTile]; exact credit
  · rw [ofPort, chargePort, tmp_setTmp_self, port']
  · rw [ofQueue, chargeQueue, tmq_setTmq_self, queue]
  · rw [ofQueue, chargeQueue, tmq_setTmq_self, queue]
  · rw [ofQueue, chargeQueue, tmq_setTmq_self, queue, tick]; rfl
  · rw [ofPort, chargePort, tmp_setTmp_self, port', show (chargeQueue p k r n g).tick = g.tick from rfl, tick]; rfl
  · rw [after]; exact turns
  · rw [after, rgf_bump_self _ _ _ _ (by decide) (by decide), State.rgf, State.rg, regs]; rfl

end Sys2Proof.Machine
end

section
namespace Sys2Proof.Machine

/-! ### Selections of an octal's ports (R184) -/

/-- The selections that the octal of a port has had in this tick. -/
def State.taken (s : State) (p : ℕ) : ℕ := if (tget {} s.pk.turns (p / 8)).tick = s.tick then (tget {} s.pk.turns (p / 8)).count else 0

/-- The octal's turn goes to a port. -/
def turned (p : ℕ) (s : State) : State :=
  s.modPk fun k => { k with turns := tset {} k.turns (p / 8) { last := p % 8, tick := s.tick, count := s.taken p + 1 } }

/-- A port of an awake Tile whose octal may still select in this tick. -/
structure MaySelect (p : ℕ) (s : State) : Prop where
  port : p < 512
  awake : s.awake (domTile (tileOf p)) = true
  room : s.taken p < 4

theorem maySelect {p : ℕ} {s : State} (hp : p < 512) (ha : s.awake (domTile (tileOf p)) = true)
    (h : ¬((tget {} s.pk.turns (p / 8)).tick = s.mast.tick ∧ 4 ≤ (tget {} s.pk.turns (p / 8)).count)) : MaySelect p s := by
  refine ⟨hp, ha, ?_⟩
  unfold State.taken State.tick
  split <;> omega

section
variable {p : ℕ} {s : State} (m : MaySelect p s)
include m

theorem queueSelection_some {c : Choice} (hc : s.choice p = some c) : queueSelection p s = match (generalizing := false) c with
    | .waits => s.bump .tmPortCnt [tileOf p, p % 32] 23 0
    | c => if !s.turnOf p then s else match (generalizing := false) c with
      | .pull k => if (turned p s).poisoned p k.queue then poisonPull p k.queue (turned p s) else pullChosen p k (turned p s)
      | .doze k => discardPull p k.queue false (turned p s)
      | .drain q => if q < 16 - ((turned p s).tmp p).strict then (discardPull p q true (turned p s)).setTmp p
            { (discardPull p q true (turned p s)).tmp p with rr := nextGroup ((turned p s).tmp p).strict q, onTurn := false }
          else discardPull p q true (turned p s)
      | .waits => turned p s := by
  have open_ : (decide (512 ≤ p) || !s.awake (domTile (tileOf p)) || decide (4 ≤ s.taken p)) = false := by
    simp [m.port, m.awake, m.room]
  unfold queueSelection
  simp only []
  rw [show (if (tget {} s.pk.turns (p / 8)).tick = s.tick then (tget {} s.pk.turns (p / 8)).count else 0) = s.taken p from rfl, open_, hc]
  cases c <;> rfl

theorem queueSelection_waits (hc : s.choice p = some .waits) : queueSelection p s = s.bump .tmPortCnt [tileOf p, p % 32] 23 0 :=
  queueSelection_some m hc

theorem queueSelection_pull {k : Pick} (hc : s.choice p = some (.pull k)) (ht : s.turnOf p = true) :
    queueSelection p s = if s.poisoned p k.queue then poisonPull p k.queue (turned p s) else pullChosen p k (turned p s) := by
  refine (queueSelection_some m hc).trans ?_
  simp only [ht, Bool.not_true, Bool.false_eq_true, if_false]
  rfl

theorem queueSelection_doze {k : Pick} (hc : s.choice p = some (.doze k)) (ht : s.turnOf p = true) :
    queueSelection p s = discardPull p k.queue false (turned p s) := by
  refine (queueSelection_some m hc).trans ?_
  simp only [ht, Bool.not_true, Bool.false_eq_true, if_false]

/-- A drain discards the head packet, and in the weighted group the turn goes on (R188). -/
theorem queueSelection_drain {q : ℕ} (hc : s.choice p = some (.drain q)) (ht : s.turnOf p = true) :
    queueSelection p s = discardPull p q true (turned p s)
    ∨ ∃ v, queueSelection p s = (discardPull p q true (turned p s)).setTmp p v := by
  have run := queueSelection_some m hc
  simp only [ht, Bool.not_true, Bool.false_eq_true, if_false] at run
  rw [run]
  split
  · exact .inr ⟨_, rfl⟩
  · exact .inl rfl

end

theorem frame_turned (p : ℕ) (s : State) : Frame [.pk] s (turned p s) := frame_modPk ..

theorem goes_queueSelection_waits {p : ℕ} {s : State} (h : Live s) (m : MaySelect p s) (hc : s.choice p = some .waits) :
    Goes (.queueSelection p) s [.regs] fun t => t.regs = (s.bump .tmPortCnt [tileOf p, p % 32] 23 0).regs :=
  goes_of_keep (show exec (.queueSelection p) s = keep s (queueSelection p s) from rfl) h
    (by rw [queueSelection_waits m hc]; exact steady_bump ..) (by rw [queueSelection_waits m hc])

theorem goes_queueSelection_pull {p : ℕ} {s : State} (h : Live s) (m : MaySelect p s) {k : Pick} {i : ℕ} {r : Ref}
    (hc : s.choice p = some (.pull k)) (ht : s.turnOf p = true) (hh : s.head p k.queue = some (i, r)) (hx : s.poisoned p k.queue = false) :
    Goes (.queueSelection p) s [.pk, .regs, .power] fun t =>
      let key := 16 * p + k.queue
      let n : Int := r.len + (s.tmp p).lenAdj
      (∃ m, t.pk.pulls = s.pk.pulls ++ [{ slice := i, ref := { r with mark := m }, discard := false }])
      ∧ tget [] (t.slice i).voq key = (tget [] (s.slice i).voq key).drop 1 ∧ (t.slice i).stored = (s.slice i).stored
      ∧ (t.tl (tileOf p)).credit = (s.tl (tileOf p)).credit + r.cells ∧ (t.tmp p).out = (s.tmp p).out + r.cells
      ∧ (t.tmq key).pulled = satAdd 64 (s.tmq key).pulled 1 ∧ (t.tmq key).bytes = satAdd 64 (s.tmq key).bytes r.len
      ∧ (t.tmq key).shaper = ((s.tmq key).sh s.mast.tick).charge s.mast.tick k.committed n
      ∧ (t.tmp p).shaper = ((s.tmp p).sh s.mast.tick).charge s.mast.tick (((s.tmp p).sh s.mast.tick).state s.mast.tick == 0) n
      ∧ (tget {} t.pk.turns (p / 8)).last = p % 8 ∧ (tget {} t.pk.turns (p / 8)).tick = s.mast.tick
      ∧ t.rgf .tmPortCnt [tileOf p, p % 32] 63 24 = satAdd 40 (s.rgf .tmPortCnt [tileOf p, p % 32] 63 24) 1 := by
  have run : queueSelection p s = pullChosen p k (turned p s) := by
    rw [queueSelection_pull m hc ht, hx]
    rfl
  have path : Frame [.pk, .regs, .power] s (pullChosen p k (turned p s)) :=
    Frame.trans (Frame.mono (by simp) (frame_turned p s)) (frame_pullChosen (s := turned p s) hh)
  obtain ⟨pulls, voq, stored, credit, out, pulled, bytes, shaper, port, turns, count⟩ := pullChosen_facts (s := turned p s) hh
  have turn : tget {} (turned p s).pk.turns (p / 8) = { last := p % 8, tick := s.tick, count := s.taken p + 1 } := tget_tset_self ..
  refine goes_of_running (show exec (.queueSelection p) s = keep s (queueSelection p s) from rfl) h (by rw [run]; exact path) ?_ ?_
  · rw [run, path.2 .mast (by decide)]
  · rw [run]
    exact ⟨pulls, voq, stored, credit, out, pulled, bytes, shaper, port, by rw [turns, turn], by rw [turns, turn]; rfl, count⟩

theorem goes_queueSelection_poisoned {p : ℕ} {s : State} (h : Live s) (m : MaySelect p s) {k : Pick} {i : ℕ} {r : Ref}
    (hc : s.choice p = some (.pull k)) (ht : s.turnOf p = true) (hh : s.head p k.queue = some (i, r)) (hx : s.poisoned p k.queue = true) :
    Goes (.queueSelection p) s [.mast, .pk, .out, .flt, .regs, .power] fun t =>
      t.pk.pulls = s.pk.pulls ++ [{ slice := i, ref := r, discard := true }]
      ∧ tget [] (t.slice i).voq (16 * p + k.queue) = (tget [] (s.slice i).voq (16 * p + k.queue)).drop 1
      ∧ (t.tmq (16 * p + k.queue)).discarded = satAdd 64 (s.tmq (16 * p + k.queue)).discarded 1
      ∧ t.rgf .bufDropCnt [i, 6] 47 0 = satAdd 48 (s.rgf .bufDropCnt [i, 6] 47 0) 1 ∧ bitAt (t.rg .bufIntStatus [i]) 2 = true := by
  have run : queueSelection p s = poisonPull p k.queue (turned p s) := by rw [queueSelection_pull m hc ht, hx, if_pos rfl]
  obtain ⟨pulls, voq, counted⟩ := pullsHead_poisonPull (s := turned p s) hh
  obtain ⟨drops, status⟩ := poisonPull_regs (s := turned p s) m.port hh
  refine goes_of_running (show exec (.queueSelection p) s = keep s (queueSelection p s) from rfl) h ?_ ?_ ?_
  · rw [run]
    exact Frame.trans (Frame.mono (by simp) (frame_turned p s)) (frame_poisonPull (s := turned p s) hh)
  · rw [run]
    exact running_poisonPull (s := turned p s) hh
  · rw [run]
    exact ⟨pulls, voq, counted, drops, status⟩

/-- A state that a discard pull has left, and of which only the ports' turns may differ since. -/
theorem goes_discards {p q i : ℕ} {s : State} {r : Ref} {down : Bool} (h : Live s) (hp : p < 512) (hh : s.head p q = some (i, r))
    (run : queueSelection p s = discardPull p q down (turned p s) ∨ ∃ v, queueSelection p s = (discardPull p q down (turned p s)).setTmp p v) :
    Goes (.queueSelection p) s [.mast, .pk, .out, .flt, .regs, .power] fun t =>
      t.pk.pulls = s.pk.pulls ++ [{ slice := i, ref := r, discard := true }]
      ∧ tget [] (t.slice i).voq (16 * p + q) = (tget [] (s.slice i).voq (16 * p + q)).drop 1
      ∧ (t.tmq (16 * p + q)).discarded = satAdd 64 (s.tmq (16 * p + q)).discarded 1
      ∧ t.rgf .tmDropCnt [tileOf p, p % 32] 63 32 = satAdd 32 (s.rgf .tmDropCnt [tileOf p, p % 32] 63 32) (b2n down)
      ∧ t.rgf .tmDropCnt [tileOf p, p % 32] 31 0 = satAdd 32 (s.rgf .tmDropCnt [tileOf p, p % 32] 31 0) (b2n (!down))
      ∧ bitAt (t.rg .tmIntStatus [tileOf p]) (if down then 0 else 1) = true := by
  have head : (turned p s).head p q = some (i, r) := hh
  have path : Frame discardParts s (discardPull p q down (turned p s)) :=
    Frame.trans (Frame.mono (by simp) (frame_turned p s)) (frame_discardPull head down)
  have running : (discardPull p q down (turned p s)).mast.running = s.mast.running := running_discardPull head down
  obtain ⟨pulls, voq, counted⟩ := pullsHead_discardPull head down
  have regs := discardPull_regs hp head down
  refine goes_of_running (show exec (.queueSelection p) s = keep s (queueSelection p s) from rfl) h ?_ ?_ ?_
  · rcases run with run | ⟨v, run⟩ <;> rw [run]
    · exact path
    · exact Frame.trans path (Frame.mono (by simp) (frame_setTmp ..))
  · rcases run with run | ⟨v, run⟩ <;> rw [run]
    · exact running
    · exact running
  · rcases run with run | ⟨v, run⟩ <;> rw [run]
    · exact ⟨pulls, voq, counted, regs⟩
    · exact ⟨pulls, voq, counted, regs⟩

theorem timed_of_taken {code : ℕ} {dom : Cmd → State → Option ℕ} {c : Cmd} {s : State} (h : Taken code dom c s) : c.timed = false := by
  obtain ⟨_, _, _, _, _, _, _, _, untimed, _⟩ := h
  exact untimed

/-- Settles O19: each command, each choice of a selection and each reader of a timestamp has its lemma above. -/
theorem trafficManager : Obligations.TrafficManager := by
  intro c s
  refine ⟨completes_tmQueueConfig, completes_tmPortConfig, ?_, completes_tmCounterRead, ?_, ?_⟩
  · intro i z h h1 h2 h3 h4 h5 h6
    have set : shaperOf c s.mast.tick = z := shaperOf_untimed (timed_of_taken h) _
    refine ⟨fun hp hi => ?_, fun hp hi => ?_⟩
    · rw [← set]; exact completes_shaperSet_port h hp hi h1 h2 h3 h4 h5 h6
    · rw [← set]; exact completes_shaperSet_queue h hp hi h1 h2 h3 h4 h5 h6
  · intro p hp h ha hl
    have m := maySelect hp ha hl
    refine ⟨goes_queueSelection_waits h m, fun k i r hc ht hh hx => goes_queueSelection_pull h m hc ht hh hx,
      fun k i r hc ht hh hx _ => goes_queueSelection_poisoned h m hc ht hh hx, fun q down i r hc ht hh => goes_discards h hp hh ?_⟩
    rcases hc with ⟨hc, rfl⟩ | ⟨k, hc, rfl, rfl⟩
    · exact queueSelection_drain m hc ht
    · exact .inl (queueSelection_doze m hc ht)
  · intro p path hp h hc
    exact ⟨fun ho e rest he => goes_txtsWord1Read_owner h hc hp ho he, goes_txtsWord1Read_empty h hp, goes_txtsWord1Read_stranger h hp⟩

end Sys2Proof.Machine
end

section
namespace Sys2Proof.Machine

/-! ### Lanes and ports: what a read gives after a write -/

theorem lane_setLane (s : State) (n k : ℕ) (v : Lane) : (s.setLane n v).lane k = if k = n then v else s.lane k := tget_tset ..

@[simp] theorem lane_setLane_self (s : State) (n : ℕ) (v : Lane) : (s.setLane n v).lane n = v := by simp [lane_setLane]

theorem lane_setLane_ne (s : State) {n k : ℕ} (v : Lane) (h : k ≠ n) : (s.setLane n v).lane k = s.lane k := by simp [lane_setLane, h]

theorem prt_setPort (s : State) (p k : ℕ) (v : Port) : (s.setPort p v).prt k = if k = p then v else s.prt k := tget_tset ..

@[simp] theorem prt_setPort_self (s : State) (p : ℕ) (v : Port) : (s.setPort p v).prt p = v := by simp [prt_setPort]

theorem prt_setPort_ne (s : State) {p k : ℕ} (v : Port) (h : k ≠ p) : (s.setPort p v).prt k = s.prt k := by simp [prt_setPort, h]

@[simp] theorem lane_setPort (s : State) (p k : ℕ) (v : Port) : (s.setPort p v).lane k = s.lane k := rfl

theorem lane_modLane (s : State) (n k : ℕ) (f : Lane → Lane) : (s.modLane n f).lane k = if k = n then f (s.lane n) else s.lane k := lane_setLane ..

theorem prt_modPort (s : State) (p k : ℕ) (f : Port → Port) : (s.modPort p f).prt k = if k = p then f (s.prt p) else s.prt k := prt_setPort ..

theorem prt_congr {s t : State} (h : t.port = s.port) (k : ℕ) : t.prt k = s.prt k := by rw [State.prt, State.prt, h]

theorem lane_congr {s t : State} (h : t.port = s.port) (k : ℕ) : t.lane k = s.lane k := by rw [State.lane, State.lane, h]

theorem frame_setPort (p : ℕ) (v : Port) (s : State) : Frame [.port] s (s.setPort p v) :=
  ⟨rfl, fun q hq => by cases q <;> simp_all [Part.same]⟩

theorem steady_setPort (p : ℕ) (v : Port) (s : State) : Steady [.port] s (s.setPort p v) := steady_of_frame (frame_setPort ..)

theorem steady_modLane (n : ℕ) (f : Lane → Lane) (s : State) : Steady [.port] s (s.modLane n f) := steady_setLane ..

/-! All lanes of a port. -/

theorem mem_lanesOf (s : State) (p k : ℕ) : k ∈ s.lanesOf p ↔ p ≤ k ∧ k < p + (s.prt p).lanes := by
  simp only [State.lanesOf, List.mem_map, List.mem_range]
  constructor
  · rintro ⟨j, _, rfl⟩
    omega
  · exact fun _ => ⟨k - p, by omega, by omega⟩

theorem nodup_lanesOf (s : State) (p : ℕ) : (s.lanesOf p).Nodup := List.Nodup.map (add_right_injective p) List.nodup_range

theorem lanes_congr {x y : Port} (h : x.entry = y.entry) : x.lanes = y.lanes := by rw [Port.lanes, Port.lanes, h]

theorem lanesOf_congr {s t : State} {p : ℕ} (h : (t.prt p).entry = (s.prt p).entry) : t.lanesOf p = s.lanesOf p := by
  rw [State.lanesOf, State.lanesOf, lanes_congr h]

/-- Lanes of a list, each changed once. -/
theorem lane_foldl_setLane (f : ℕ → Lane → Lane) (l : List ℕ) (hl : l.Nodup) (s : State) (k : ℕ) :
    (l.foldl (fun s n => s.setLane n (f n (s.lane n))) s).lane k = if k ∈ l then f k (s.lane k) else s.lane k := by
  induction l generalizing s with
  | nil => simp
  | cons n l ih =>
    obtain ⟨hn, hl⟩ := List.nodup_cons.mp hl
    rw [List.foldl_cons, ih hl, lane_setLane]
    by_cases h : k = n
    · subst h
      simp [hn]
    · simp [h]

theorem prt_foldl_setLane (f : ℕ → Lane → Lane) (l : List ℕ) (s : State) (k : ℕ) :
    (l.foldl (fun s n => s.setLane n (f n (s.lane n))) s).prt k = s.prt k := by
  induction l generalizing s with
  | nil => rfl
  | cons n l ih => exact ih _

theorem lane_modLanes (s : State) (p k : ℕ) (f : Lane → Lane) :
    (s.modLanes p f).lane k = if k ∈ s.lanesOf p then f (s.lane k) else s.lane k := lane_foldl_setLane (fun _ => f) _ (nodup_lanesOf s p) s k

@[simp] theorem prt_modLanes (s : State) (p k : ℕ) (f : Lane → Lane) : (s.modLanes p f).prt k = s.prt k := prt_foldl_setLane (fun _ => f) _ s k

theorem steady_modLanes (p : ℕ) (f : Lane → Lane) (s : State) : Steady [.port] s (s.modLanes p f) :=
  steady_foldl _ (fun _ _ => steady_setLane ..) s

theorem Steady.same {l : List Part} {s t : State} (h : Steady l s t) {p : Part} (hp : p ∉ l := by decide) : p.same s t := h.frame.2 p hp

/-! ### Registers of the lanes and ports: what keeps to other blocks leaves them alone -/

/-- From s to t no register of the blocks of lanes and ports has changed. -/
structure PortRegsKept (s t : State) : Prop where
  rg : ∀ r ix, 0x50000 ≤ regAddr r ix → regAddr r ix < 0x70000 → t.rg r ix = s.rg r ix

theorem portRegsKept_of_regsBut {l : List ℕ} {s t : State} (h : RegsBut l s t) (hl : ∀ a ∈ l, a < 0x50000 ∨ 0x70000 ≤ a) : PortRegsKept s t :=
  ⟨fun r ix h0 h1 => h r ix fun hm => by
    have := hl _ hm
    omega⟩

theorem portRegsKept_of_eq {s t : State} (h : t.regs = s.regs) : PortRegsKept s t := ⟨fun _ _ _ _ => by rw [State.rg, State.rg, h]⟩

theorem PortRegsKept.refl (s : State) : PortRegsKept s s := ⟨fun _ _ _ _ => rfl⟩

theorem PortRegsKept.trans {s t u : State} (f : PortRegsKept s t) (g : PortRegsKept t u) : PortRegsKept s u :=
  ⟨fun r ix h0 h1 => (g.rg r ix h0 h1).trans (f.rg r ix h0 h1)⟩

theorem portRegsKept_foldl {α : Type} (l : List α) {f : State → α → State} (h : ∀ s, ∀ x ∈ l, PortRegsKept s (f s x)) (s : State) :
    PortRegsKept s (l.foldl f s) := by
  induction l generalizing s with
  | nil => exact .refl s
  | cons x l ih => exact (h s x (by simp)).trans (ih (fun s y hy => h s y (by simp [hy])) _)

theorem portRegsKept_synceUpdate (s : State) : PortRegsKept s (synceUpdate s) :=
  portRegsKept_of_regsBut (clockHolds_synceUpdate s).regs (by decide)

theorem fnIntStatus_out (f : ℕ) : 0x70000 ≤ regAddr .fnIntStatus [f] := le_trans (by decide) (fnIntStatus_ge f)

theorem portRegsKept_postEvent (k : ℕ) (l : List W) (s : State) : PortRegsKept s (postEvent k l s) := by
  refine portRegsKept_of_regsBut (regsBut_postEvent k l s fun a ha => ha) fun a ha => ?_
  simp only [eventRegs, List.mem_cons, List.not_mem_nil, or_false] at ha
  rcases ha with rfl | rfl | rfl | rfl
  · exact .inl (by decide)
  · exact .inl (by decide)
  · exact .inl (by decide)
  · exact .inr (fnIntStatus_out _)

theorem portRegsKept_abortTs {p : ℕ} (hp : p < 512) (ts : Option ℕ) (s : State) : PortRegsKept s (abortTs p ts s) :=
  portRegsKept_of_regsBut (regsBut_abortTs p ts s) fun _ ha => .inl (lt_trans (txtsRegs_lt hp ha) (by decide))

theorem portRegsKept_sendReply (c : Cmd) (f : Bool) (st : Status) (d : ℕ) (res : List W) (s : State) : PortRegsKept s (sendReply c f st d res s) :=
  portRegsKept_of_regsBut (regsBut_sendReply c f st d res s (List.mem_singleton.mpr rfl)) fun a ha => by
    rw [List.mem_singleton.mp ha]
    exact .inr (fnIntStatus_out _)

theorem portRegsKept_closeCmd (kind key : ℕ) (st : Status) (d : ℕ) (res : List W) (s : State) : PortRegsKept s (closeCmd kind key st d res s) :=
  PortRegsKept.trans (t := { s with cmd := { s.cmd with opened := s.cmd.opened.filter fun o => !(o.kind == kind && o.key == key) } })
    (portRegsKept_of_eq rfl) (portRegsKept_foldl _ (fun _ _ _ => portRegsKept_sendReply ..) _)

theorem portRegsKept_cancelSleep {k : ℕ} (hk : k < 8) (cause : ℕ) (st : Status) (d : ℕ) (s : State) :
    PortRegsKept s (cancelSleep k cause st d s) := by
  have count : regAddr .cellSleepCnt [k] = 0x2508 + k * 0x10 := regAddr_one rfl rfl k
  simp only [cancelSleep]
  split
  · exact .refl s
  · have counted : ∀ u : State, PortRegsKept u (u.bump .cellSleepCnt [k] 47 32) := fun u =>
      portRegsKept_of_regsBut (regsBut_bump u 47 32 1 (List.mem_singleton.mpr rfl)) fun a ha => by
        rw [List.mem_singleton.mp ha, count]
        omega
    have changed : ∀ u : State, PortRegsKept u (sleepChange u) := fun u =>
      portRegsKept_of_regsBut (regsBut_raised 2 .pwrIntStatus [] 5 u) (by decide)
    refine PortRegsKept.trans (portRegsKept_of_eq ?_) ((counted _).trans ((portRegsKept_closeCmd ..).trans (changed _)))
    have sent : Steady [.out] s ((s.participants (s.sleepOf k)).foldl (fun u p => sendSleep 0x43 k cause (s.sleepOf k).wakeField p u) s) :=
      steady_foldl _ (fun u p => steady_sendSleep ..) s
    exact (steady_setSleep ..).frame.2 .regs (by decide) |>.trans (sent.frame.2 .regs (by decide))

theorem portRegsKept_cellPortDown (p : ℕ) (s : State) : PortRegsKept s (cellPortDown p s) := by
  refine portRegsKept_foldl _ (fun s k hk => ?_) s
  simp only []
  split
  · exact portRegsKept_cancelSleep (List.mem_range.mp hk) ..
  · exact .refl s

theorem steady_cellPortDown (p : ℕ) (s : State) : Steady sleepParts s (cellPortDown p s) := by
  refine steady_foldl _ (fun s k => ?_) s
  simp only []
  split
  · exact steady_cancelSleep ..
  · exact Steady.refl _ s

/-- The addresses of the registers of lanes and ports. -/
theorem regAddr_laneIntStatus (n : ℕ) : regAddr .laneIntStatus [n] = 0x50008 + n * 0x40 := regAddr_one rfl rfl n
theorem regAddr_portIntStatus (p : ℕ) : regAddr .portIntStatus [p] = 0x60008 + p * 0x40 := regAddr_one rfl rfl p
theorem regAddr_portLinkCnt (p : ℕ) : regAddr .portLinkCnt [p] = 0x60020 + p * 0x40 := regAddr_one rfl rfl p
theorem regAddr_cpriCnt (p : ℕ) : regAddr .cpriCnt [p] = 0x60030 + p * 0x40 := regAddr_one rfl rfl p

theorem PortRegsKept.rgf {s t : State} (h : PortRegsKept s t) {r : RegId} {ix : List ℕ} (h0 : 0x50000 ≤ regAddr r ix)
    (h1 : regAddr r ix < 0x70000) (hi lo : ℕ) : t.rgf r ix hi lo = s.rgf r ix hi lo := by
  rw [State.rgf, State.rgf, h.rg r ix h0 h1]

end Sys2Proof.Machine
end

section
namespace Sys2Proof.Machine

/-! ### The end of LINK_UP (R87) and a new attempt (R81, R85) -/

/-- A step of a port keeps time: the Mast clock runs on, at the same tick. -/
structure MastRuns (s t : State) : Prop where
  running : t.mast.running = s.mast.running
  tick : t.mast.tick = s.mast.tick

theorem mastRuns_of_eq {s t : State} (h : t.mast = s.mast) : MastRuns s t := ⟨by rw [h], by rw [h]⟩

theorem MastRuns.trans {s t u : State} (f : MastRuns s t) (g : MastRuns t u) : MastRuns s u :=
  ⟨g.running.trans f.running, g.tick.trans f.tick⟩

theorem mastRuns_of_frame {l : List Part} {s t : State} (h : Frame l s t) (hm : .mast ∉ l := by decide) : MastRuns s t := mastRuns_of_eq (h.2 .mast hm)

theorem mastRuns_synceUpdate (s : State) : MastRuns s (synceUpdate s) :=
  ⟨(clockHolds_synceUpdate s).steady.running, (clockHolds_synceUpdate s).tick⟩

theorem mastRuns_abortTs (p : ℕ) (ts : Option ℕ) (s : State) : MastRuns s (abortTs p ts s) := by
  refine ⟨running_abortTs p ts s, ?_⟩
  cases ts with
  | none => rfl
  | some id =>
    simp only [abortTs, pushTxTs]
    split
    · simp
    · rw [show (memWriteN _ _ _ _ _ _).mast = _ from (frame_memWriteN ..).2 .mast (by decide)]

/-- What an operation on port p comes to: it changes the parts `l` at most, the Mast clock runs on, and the other ports are as before. -/
structure OnPort (p : ℕ) (l : List Part) (s t : State) : Prop where
  frame : Frame l s t
  mast : MastRuns s t
  ports : ∀ k, k ≠ p → t.prt k = s.prt k

theorem OnPort.refl (p : ℕ) (l : List Part) (s : State) : OnPort p l s s := ⟨Frame.refl l s, ⟨rfl, rfl⟩, fun _ _ => rfl⟩

theorem OnPort.mono {p : ℕ} {l m : List Part} {s t : State} (h : OnPort p l s t) (hl : ∀ q ∈ l, q ∈ m) : OnPort p m s t :=
  ⟨Frame.mono hl h.frame, h.mast, h.ports⟩

theorem OnPort.trans {p : ℕ} {l : List Part} {s t u : State} (f : OnPort p l s t) (g : OnPort p l t u) : OnPort p l s u :=
  ⟨Frame.trans f.frame g.frame, f.mast.trans g.mast, fun k hk => (g.ports k hk).trans (f.ports k hk)⟩

theorem onPort_modPort (p : ℕ) (f : Port → Port) (s : State) : OnPort p [.port] s (s.modPort p f) :=
  ⟨frame_setPort .., ⟨rfl, rfl⟩, fun _ hk => prt_setPort_ne s _ hk⟩

theorem onPort_modLanes (p : ℕ) (f : Lane → Lane) (s : State) : OnPort p [.port] s (s.modLanes p f) :=
  ⟨(steady_modLanes ..).frame, mastRuns_of_frame (steady_modLanes ..).frame, fun k _ => prt_modLanes s p k f⟩

/-- An operation that is none of a port's. -/
theorem onPort_of_frame (p : ℕ) {l : List Part} {s t : State} (h : Frame l s t) (hm : MastRuns s t) (hp : .port ∉ l := by decide) : OnPort p l s t :=
  ⟨h, hm, fun k _ => prt_congr (h.2 .port hp) k⟩

theorem onPort_synceUpdate (p : ℕ) (s : State) : OnPort p [.mast, .out, .regs] s (synceUpdate s) :=
  onPort_of_frame p (clockHolds_synceUpdate s).steady.frame (mastRuns_synceUpdate s)

theorem linkChange_port (p : ℕ) (s : State) : (linkChange p s).port = s.port := (steady_postEvent ..).frame.2 .port (by decide)

theorem portRegsKept_linkChange (p : ℕ) (s : State) : PortRegsKept s (linkChange p s) := portRegsKept_postEvent ..

theorem onPort_linkChange (p : ℕ) (s : State) : OnPort p [.host, .cmd, .out, .regs] s (linkChange p s) :=
  onPort_of_frame p (steady_postEvent ..).frame (mastRuns_of_frame (steady_postEvent ..).frame)

/-! `abortTx`: the frame in transmission is lost. -/

theorem steady_outFrames (l : List OutFrame) (s : State) : Steady [.out] s { s with out := { s.out with frames := l } } :=
  ⟨⟨rfl, fun q hq => by cases q <;> simp_all [Part.same]⟩, rfl, rfl⟩

/-- The frame in transmission is discarded, and what was sent of it ends there. -/
def frameLost (p : ℕ) (f : TxFrame) (s : State) : State :=
  let s := s.modPort p fun x => { x with inFlight := none }
  { s with out := { s.out with frames := s.out.frames ++ [{ port := p, bytes := f.bytes, at16 := s.now16, aborted := true }] } }

theorem abortTx_none {p : ℕ} {s : State} (h : (s.prt p).inFlight = none) : abortTx p s = s := by
  unfold abortTx
  rw [h]

theorem abortTx_some {p : ℕ} {s : State} {f : TxFrame} (h : (s.prt p).inFlight = some f) : abortTx p s = abortTs p f.tsId (frameLost p f s) := by
  unfold abortTx
  rw [h]
  rfl

theorem onPort_frameLost (p : ℕ) (f : TxFrame) (s : State) : OnPort p [.port, .out] s (frameLost p f s) :=
  ((onPort_modPort ..).mono (by simp)).trans ((onPort_of_frame p (steady_outFrames ..).frame ⟨rfl, rfl⟩).mono (by simp))

theorem onPort_abortTx (p : ℕ) (s : State) : OnPort p [.mast, .port, .out, .flt, .regs] s (abortTx p s) := by
  cases h : (s.prt p).inFlight with
  | none =>
    rw [abortTx_none h]
    exact OnPort.refl ..
  | some f =>
    rw [abortTx_some h]
    exact ((onPort_frameLost ..).mono (by simp)).trans ((onPort_of_frame p (frame_abortTs ..) (mastRuns_abortTs ..)).mono (by simp))

theorem abortTx_prt (p : ℕ) (s : State) : (abortTx p s).prt p = { s.prt p with inFlight := none } := by
  cases h : (s.prt p).inFlight with
  | none => rw [abortTx_none h, ← h]
  | some f =>
    rw [abortTx_some h, prt_congr ((frame_abortTs ..).2 .port (by decide))]
    exact prt_setPort_self ..

theorem abortTx_lane (p k : ℕ) (s : State) : (abortTx p s).lane k = s.lane k := by
  cases h : (s.prt p).inFlight with
  | none => rw [abortTx_none h]
  | some f =>
    rw [abortTx_some h, lane_congr ((frame_abortTs ..).2 .port (by decide))]
    rfl

theorem portRegsKept_abortTx {p : ℕ} (hp : p < 512) (s : State) : PortRegsKept s (abortTx p s) := by
  cases h : (s.prt p).inFlight with
  | none =>
    rw [abortTx_none h]
    exact .refl s
  | some f =>
    rw [abortTx_some h]
    exact .trans (t := frameLost p f s) (portRegsKept_of_eq rfl) (portRegsKept_abortTs hp ..)

/-! `leaveLink`: what every end of LINK_UP does. -/

abbrev linkParts : List Part := [.mast, .port, .host, .cmd, .out, .flt, .regs, .power]

/-- The loss of a link is counted, and its interrupt raised. -/
def countLoss (p : ℕ) (s : State) : State := raiseInt 10 .portIntStatus [p] 1 (s.bump .portLinkCnt [p] 63 32)

/-- A port whose link is lost, before what follows is settled. -/
def lostPort (cause : ℕ) (x : Port) : Port := { x with state := 1, cause := cause }

theorem leaveLink_eq (p cause : ℕ) (s : State) :
    leaveLink p cause s = cellPortDown p (countLoss p ((abortTx p s).modPort p (lostPort cause))) := rfl

theorem frame_countLoss (p : ℕ) (s : State) : Frame [.out, .regs] s (countLoss p s) :=
  Frame.trans (Frame.mono (by simp) (steady_bump ..).frame) (steady_raiseInt ..).frame

theorem onPort_countLoss (p : ℕ) (s : State) : OnPort p [.out, .regs] s (countLoss p s) :=
  onPort_of_frame p (frame_countLoss ..) (mastRuns_of_frame (frame_countLoss ..))

theorem onPort_cellPortDown (p : ℕ) (s : State) : OnPort p sleepParts s (cellPortDown p s) :=
  onPort_of_frame p (steady_cellPortDown ..).frame (mastRuns_of_frame (steady_cellPortDown ..).frame)

theorem onPort_bump (p : ℕ) (r : RegId) (ix : List ℕ) (hi lo n : ℕ) (s : State) : OnPort p [.regs] s (s.bump r ix hi lo n) :=
  onPort_of_frame p (steady_bump ..).frame ⟨rfl, rfl⟩

theorem onPort_leaveLink (p cause : ℕ) (s : State) : OnPort p linkParts s (leaveLink p cause s) := by
  rw [leaveLink_eq]
  exact ((onPort_abortTx ..).mono (by simp)).trans <| ((onPort_modPort p (lostPort cause) _).mono (by simp)).trans <|
    ((onPort_countLoss ..).mono (by simp)).trans ((onPort_cellPortDown ..).mono (by simp))

theorem leaveLink_port (p cause : ℕ) (s : State) :
    (leaveLink p cause s).port = ((abortTx p s).modPort p (lostPort cause)).port := by
  rw [leaveLink_eq]
  exact ((steady_cellPortDown ..).frame.2 .port (by decide)).trans ((frame_countLoss ..).2 .port (by decide))

theorem leaveLink_prt (p cause : ℕ) (s : State) : (leaveLink p cause s).prt p = { s.prt p with inFlight := none, state := 1, cause := cause } := by
  rw [prt_congr (leaveLink_port ..), prt_modPort, if_pos rfl, abortTx_prt]
  rfl

theorem leaveLink_lane (p cause k : ℕ) (s : State) : (leaveLink p cause s).lane k = s.lane k :=
  (lane_congr (leaveLink_port ..) k).trans (abortTx_lane ..)

theorem bump_regs_congr {s t : State} (h : t.regs = s.regs) (r : RegId) (ix : List ℕ) (hi lo n : ℕ) :
    (t.bump r ix hi lo n).regs = (s.bump r ix hi lo n).regs := by
  simp only [State.bump, State.setRgf, State.setRg, State.rg, State.rgf, h]

/-- The loss of a link is counted (R87), and no lane's interrupts change. -/
theorem countLoss_regs {p : ℕ} (s : State) :
    (countLoss p s).rgf .portLinkCnt [p] 63 32 = satAdd 32 (s.rgf .portLinkCnt [p] 63 32) 1
    ∧ (countLoss p s).rgf .portLinkCnt [p] 31 0 = s.rgf .portLinkCnt [p] 31 0
    ∧ ∀ n < 512, (countLoss p s).rg .laneIntStatus [n] = s.rg .laneIntStatus [n] := by
  have signals := intSignalCnt_lt
  have raised := regsBut_raised 10 .portIntStatus [p] 1 (s.bump .portLinkCnt [p] 63 32)
  have apart : regAddr .portLinkCnt [p] ∉ [regAddr .portIntStatus [p], regAddr .intSignalCnt []] := by
    simp only [List.mem_cons, List.not_mem_nil, or_false, not_or, regAddr_portLinkCnt, regAddr_portIntStatus]
    omega
  refine ⟨(RegsBut.rgf raised apart 63 32).trans (rgf_bump_self _ _ _ _ (by decide) (by decide)),
    (RegsBut.rgf raised apart 31 0).trans (rgf_bump_apart _ _ _ _ (by decide) (by decide) (by decide) (by decide)), fun n hn => ?_⟩
  have status : regAddr .laneIntStatus [n] ∉ [regAddr .portIntStatus [p], regAddr .intSignalCnt []] := by
    simp only [List.mem_cons, List.not_mem_nil, or_false, not_or, regAddr_laneIntStatus, regAddr_portIntStatus]
    omega
  refine (raised .laneIntStatus [n] status).trans (rg_setRg_ne _ _ ?_)
  rw [regAddr_laneIntStatus, regAddr_portLinkCnt]
  omega

theorem laneIntStatus_inBlock {n : ℕ} (hn : n < 512) : 0x50000 ≤ regAddr .laneIntStatus [n] ∧ regAddr .laneIntStatus [n] < 0x70000 := by
  rw [regAddr_laneIntStatus]
  omega

theorem portLinkCnt_inBlock {p : ℕ} (hp : p < 512) : 0x50000 ≤ regAddr .portLinkCnt [p] ∧ regAddr .portLinkCnt [p] < 0x70000 := by
  rw [regAddr_portLinkCnt]
  omega

/-- Port p has left LINK_UP with a cause, and what follows is not settled yet (R87). -/
structure LinkLeft (p cause : ℕ) (s u : State) : Prop where
  on : OnPort p linkParts s u
  prt : u.prt p = { s.prt p with inFlight := none, state := 1, cause := cause }
  lane : ∀ k, u.lane k = s.lane k
  losses : u.rgf .portLinkCnt [p] 63 32 = satAdd 32 (s.rgf .portLinkCnt [p] 63 32) 1
  attempts : u.rgf .portLinkCnt [p] 31 0 = s.rgf .portLinkCnt [p] 31 0
  laneInts : ∀ n < 512, u.rg .laneIntStatus [n] = s.rg .laneIntStatus [n]

theorem linkLeft_leaveLink {p : ℕ} (hp : p < 512) (cause : ℕ) (s : State) : LinkLeft p cause s (leaveLink p cause s) := by
  obtain ⟨lo, hi⟩ := portLinkCnt_inBlock hp
  obtain ⟨losses, attempts, laneInts⟩ := countLoss_regs (p := p) ((abortTx p s).modPort p (lostPort cause))
  have aborted : PortRegsKept s ((abortTx p s).modPort p (lostPort cause)) := (portRegsKept_abortTx hp s).trans (portRegsKept_of_eq rfl)
  have told : PortRegsKept (countLoss p ((abortTx p s).modPort p (lostPort cause))) (leaveLink p cause s) := by
    rw [leaveLink_eq]
    exact portRegsKept_cellPortDown ..
  refine ⟨onPort_leaveLink .., leaveLink_prt .., fun k => leaveLink_lane p cause k s, ?_, ?_, fun n hn => ?_⟩
  · rw [told.rgf lo hi, losses, aborted.rgf lo hi]
  · rw [told.rgf lo hi, attempts, aborted.rgf lo hi]
  · obtain ⟨lo, hi⟩ := laneIntStatus_inBlock hn
    rw [told.rg _ _ lo hi, laneInts n hn, aborted.rg _ _ lo hi]

/-! `startAttempt`. -/

/-- A port at the start of an attempt. -/
def attempted (now : ℕ) (x : Port) : Port := { x with
  state := 1, stage := 1, startTick := now, curInvert := x.rxInvert, curTimer := x.trainTimer
  curFallback := x.fallback, ver := 0, goSent := none, goRx := none, idleTick := none
  epochOld := false, epochDue := none, helloTick := 0, cpriNext := none, cpriTx := [] }

/-- A lane at the start of an attempt of port p. -/
def attemptedLane (p : ℕ) (x : Port) (l : Lane) : Lane := { l with
  mode := if x.topsail then 5 else (laneModeOf x.speed x.lanes).getD 0, cdr := false, aligned := false, stage := 1, uncal := true, txDoze := 0, rxDoze := 0
  seqTx := none, seqRx := none, reqUntil := none, burstUntil := none
  txPre := x.topsail && x.partnerCaps.testBit 1, rxPre := x.topsail && Config.precodeReq p }

theorem startAttempt_eq (p : ℕ) (s : State) : startAttempt p s
    = synceUpdate (((s.setPort p (attempted s.tick (s.prt p))).modLanes p (attemptedLane p (s.prt p))).bump .portLinkCnt [p] 31 0) := rfl

theorem onPort_startAttempt (p : ℕ) (s : State) : OnPort p [.mast, .port, .out, .regs] s (startAttempt p s) := by
  rw [startAttempt_eq]
  exact ((onPort_modPort p (fun _ => attempted s.tick (s.prt p)) s).mono (by simp)).trans <|
    ((onPort_modLanes p (attemptedLane p (s.prt p)) _).mono (by simp)).trans <|
    ((onPort_bump p .portLinkCnt [p] 31 0 1 _).mono (by simp)).trans ((onPort_synceUpdate ..).mono (by simp))

theorem startAttempt_port (p : ℕ) (s : State) :
    (startAttempt p s).port = ((s.setPort p (attempted s.tick (s.prt p))).modLanes p (attemptedLane p (s.prt p))).port := by
  rw [startAttempt_eq, (clockHolds_synceUpdate _).steady.frame.2 .port (by decide)]
  rfl

theorem startAttempt_prt (p : ℕ) (s : State) : (startAttempt p s).prt p = attempted s.mast.tick (s.prt p) := by
  rw [prt_congr (startAttempt_port ..), prt_modLanes, prt_setPort_self]
  rfl

theorem startAttempt_lane {p k : ℕ} {s : State} (h : k ∈ s.lanesOf p) : (startAttempt p s).lane k = attemptedLane p (s.prt p) (s.lane k) := by
  have mem : k ∈ (s.setPort p (attempted s.tick (s.prt p))).lanesOf p := by
    rwa [lanesOf_congr (t := s.setPort p (attempted s.tick (s.prt p))) (s := s) (by rw [prt_setPort_self]; rfl)]
  rw [lane_congr (startAttempt_port ..), lane_modLanes, if_pos mem]
  rfl

theorem portRegs_startAttempt (p : ℕ) (s : State) : PortRegsKept (s.bump .portLinkCnt [p] 31 0) (startAttempt p s) := by
  rw [startAttempt_eq]
  have regs : ((s.setPort p (attempted s.tick (s.prt p))).modLanes p (attemptedLane p (s.prt p))).regs = s.regs :=
    ((onPort_modLanes p _ _).frame.2 .regs (by decide)).trans (State.setPort_regs ..)
  exact .trans (portRegsKept_of_eq (bump_regs_congr regs ..)) (portRegsKept_synceUpdate _)

/-! `linkDown`. -/

/-- A port that has lost its link starts a new attempt at once, and tells of it. -/
def reattempt (p : ℕ) (s : State) : State := linkChange p (startAttempt p (s.modPort p fun x => { x with topsail := false }))

theorem linkDown_up {p : ℕ} {s : State} (h : s.linkUp p = true) (cause : ℕ) : linkDown p cause s = reattempt p (leaveLink p cause s) := by
  simp [linkDown, h, reattempt]

theorem onPort_reattempt (p : ℕ) (s : State) : OnPort p linkParts s (reattempt p s) :=
  ((onPort_modPort ..).mono (by simp)).trans <| ((onPort_startAttempt ..).mono (by simp)).trans ((onPort_linkChange ..).mono (by simp))

theorem reattempt_port (p : ℕ) (s : State) : (reattempt p s).port = (startAttempt p (s.modPort p fun x => { x with topsail := false })).port :=
  linkChange_port ..

theorem reattempt_prt (p : ℕ) (s : State) : (reattempt p s).prt p = attempted s.mast.tick { s.prt p with topsail := false } := by
  rw [prt_congr (reattempt_port ..), startAttempt_prt, prt_modPort, if_pos rfl]
  rfl

theorem reattempt_lane {p k : ℕ} {s : State} (h : k ∈ s.lanesOf p) :
    (reattempt p s).lane k = attemptedLane p { s.prt p with topsail := false } (s.lane k) := by
  have mem : k ∈ (s.modPort p fun x => { x with topsail := false }).lanesOf p := by
    rwa [lanesOf_congr (t := s.modPort p _) (s := s) (by rw [prt_modPort, if_pos rfl])]
  rw [lane_congr (reattempt_port ..), startAttempt_lane mem, prt_modPort, if_pos rfl]
  rfl

/-- A new attempt is counted (R81), and no lane's interrupts change. -/
theorem reattempt_regs {p : ℕ} (hp : p < 512) (s : State) :
    (reattempt p s).rgf .portLinkCnt [p] 63 32 = s.rgf .portLinkCnt [p] 63 32
    ∧ (reattempt p s).rgf .portLinkCnt [p] 31 0 = satAdd 32 (s.rgf .portLinkCnt [p] 31 0) 1
    ∧ ∀ n < 512, (reattempt p s).rg .laneIntStatus [n] = s.rg .laneIntStatus [n] := by
  obtain ⟨lo, hi⟩ := portLinkCnt_inBlock hp
  have counted : PortRegsKept (s.bump .portLinkCnt [p] 31 0) (reattempt p s) :=
    .trans (portRegsKept_of_eq (bump_regs_congr (t := s.modPort p _) (State.setPort_regs ..) ..))
      (.trans (portRegs_startAttempt ..) (portRegsKept_linkChange ..))
  refine ⟨(counted.rgf lo hi 63 32).trans (rgf_bump_apart _ _ _ _ (by decide) (by decide) (by decide) (by decide)),
    (counted.rgf lo hi 31 0).trans (rgf_bump_self _ _ _ _ (by decide) (by decide)), fun n hn => ?_⟩
  obtain ⟨lo, hi⟩ := laneIntStatus_inBlock hn
  refine (counted.rg _ _ lo hi).trans (rg_setRg_ne _ _ ?_)
  rw [regAddr_laneIntStatus, regAddr_portLinkCnt]
  omega

/-- A port that has left LINK_UP and starts a new attempt has gone down (R87). -/
theorem wentDown_reattempt {p cause : ℕ} {s u : State} (hp : p < 512) (h : LinkLeft p cause s u) : WentDown p cause s (reattempt p u) := by
  obtain ⟨losses, attempts, _⟩ := reattempt_regs hp u
  have port : (reattempt p u).prt p = attempted s.mast.tick { u.prt p with topsail := false } := by rw [reattempt_prt, h.on.mast.tick]
  refine ⟨by rw [port]; rfl, by rw [port]; rfl, by rw [port, h.prt]; rfl, by rw [port]; rfl, fun n hn => ?_,
    fun k hk => ((onPort_reattempt p u).ports k hk).trans (h.on.ports k hk), losses.trans h.losses, by rw [attempts, h.attempts]⟩
  have mem : n ∈ u.lanesOf p := by rwa [lanesOf_congr (t := u) (s := s) (by rw [h.prt])]
  rw [reattempt_lane mem]
  exact ⟨rfl, rfl, rfl, rfl⟩

/-- A LINK_UP port that is taken down has gone down (R87); no interrupt of a lane tells of it. -/
theorem wentDown_linkDown {p : ℕ} {s : State} (h : s.linkUp p = true) (hp : p < 512) (cause : ℕ) :
    OnPort p linkParts s (linkDown p cause s) ∧ WentDown p cause s (linkDown p cause s)
    ∧ ∀ n < 512, (linkDown p cause s).rg .laneIntStatus [n] = s.rg .laneIntStatus [n] := by
  have left := linkLeft_leaveLink hp cause s
  rw [linkDown_up h]
  generalize leaveLink p cause s = u at left ⊢
  obtain ⟨_, _, laneInts⟩ := reattempt_regs hp u
  exact ⟨left.on.trans (onPort_reattempt p u), wentDown_reattempt hp left, fun n hn => (laneInts n hn).trans (left.laneInts n hn)⟩

/-! `enterLink`. -/

/-- A port that becomes LINK_UP. -/
def linkedPort (now : ℕ) (x : Port) : Port := { x with state := 2, stage := 0, upTick := now, cause := 0, missing := 0 }

/-- A lane AWAKE in both directions. -/
def awakeLane (l : Lane) : Lane := { l with txDoze := 0, rxDoze := 0 }

theorem enterLink_eq (p : ℕ) (s : State) : enterLink p s = linkChange p (raiseInt 10 .portIntStatus [p] 0
    ((s.modPort p (linkedPort s.tick)).modLanes p
      awakeLane)) := rfl

theorem onPort_enterLink (p : ℕ) (s : State) : OnPort p [.port, .host, .cmd, .out, .regs] s (enterLink p s) := by
  rw [enterLink_eq]
  exact ((onPort_modPort p (linkedPort s.tick) s).mono (by simp)).trans <| ((onPort_modLanes p awakeLane _).mono (by simp)).trans <|
    ((onPort_of_frame p (steady_raiseInt ..).frame (mastRuns_of_frame (steady_raiseInt ..).frame)).mono (by simp)).trans
      ((onPort_linkChange ..).mono (by simp))

theorem enterLink_port (p : ℕ) (s : State) : (enterLink p s).port
    = ((s.modPort p (linkedPort s.tick)).modLanes p
      awakeLane).port := by
  rw [enterLink_eq]
  exact (linkChange_port ..).trans ((steady_raiseInt ..).frame.2 .port (by decide))

theorem enterLink_prt (p : ℕ) (s : State) :
    (enterLink p s).prt p = { s.prt p with state := 2, stage := 0, upTick := s.mast.tick, cause := 0, missing := 0 } := by
  rw [prt_congr (enterLink_port ..), prt_modLanes, prt_modPort, if_pos rfl]
  rfl

/-- Every lane of a port that has become LINK_UP is AWAKE in both directions (R98). -/
theorem enterLink_awake (p : ℕ) (s : State) : (enterLink p s).txAwake p = true ∧ (enterLink p s).rxAwake p = true := by
  have lanes : (enterLink p s).lanesOf p = s.lanesOf p := lanesOf_congr (by rw [enterLink_prt])
  have awake : ∀ n ∈ s.lanesOf p, ((enterLink p s).lane n).txDoze = 0 ∧ ((enterLink p s).lane n).rxDoze = 0 := fun n hn => by
    have mem : n ∈ (s.modPort p (linkedPort s.tick)).lanesOf p := by
      rwa [lanesOf_congr (s := s) (by rw [prt_modPort, if_pos rfl]; rfl)]
    rw [lane_congr (enterLink_port ..), lane_modLanes, if_pos mem]
    exact ⟨rfl, rfl⟩
  simp only [State.txAwake, State.rxAwake, lanes, List.all_eq_true, beq_iff_eq]
  exact ⟨fun n hn => (awake n hn).1, fun n hn => (awake n hn).2⟩

theorem enterLink_status {p : ℕ} (hp : p < 512) (s : State) : (enterLink p s).rg .portIntStatus [p] = s.rg .portIntStatus [p] ||| 1 := by
  have signals := intSignalCnt_lt
  rw [enterLink_eq, (portRegsKept_linkChange ..).rg _ _ (by rw [regAddr_portIntStatus]; omega) (by rw [regAddr_portIntStatus]; omega),
    rg_raiseInt_self _ _ _ (by rw [regAddr_portIntStatus]; omega), State.rg, (onPort_modLanes ..).frame.2 .regs (by decide)]
  rfl

end Sys2Proof.Machine
end

section
namespace Sys2Proof.Machine

/-! ### Events of a lane (R82 to R84, R87) -/

theorem linkUp_iff (s : State) (p : ℕ) : s.linkUp p = true ↔ (s.prt p).formed = true ∧ (s.prt p).state = 2 := by simp [State.linkUp]

theorem portOf_congr {s t : State} (h : ∀ k, t.prt k = s.prt k) (n : ℕ) : t.portOf n = s.portOf n := by simp only [State.portOf, h]

theorem linkUp_congr {s t : State} {p : ℕ} (h : t.prt p = s.prt p) : t.linkUp p = s.linkUp p := by rw [State.linkUp, State.linkUp, h]

theorem stageUpdate_eq (p : ℕ) (s : State) : stageUpdate p s = s ∨ ∃ x, stageUpdate p s = s.setPort p { s.prt p with stage := x } := by
  unfold stageUpdate
  simp only []
  split
  · exact .inl rfl
  · split
    · exact .inr ⟨_, rfl⟩
    · split
      · exact .inr ⟨_, rfl⟩
      · exact .inl rfl

theorem onPort_stageUpdate (p : ℕ) (s : State) : OnPort p [.port] s (stageUpdate p s) := by
  rcases stageUpdate_eq p s with h | ⟨x, h⟩ <;> rw [h]
  · exact OnPort.refl ..
  · exact onPort_modPort p (fun _ => { s.prt p with stage := x }) s

theorem stageUpdate_lane (p k : ℕ) (s : State) : (stageUpdate p s).lane k = s.lane k := by
  rcases stageUpdate_eq p s with h | ⟨x, h⟩
  · rw [h]
  · rw [h, lane_setPort]

theorem laneIntStatus_ne_signalCnt (n : ℕ) : regAddr .laneIntStatus [n] ≠ regAddr .intSignalCnt [] := by
  have signals := intSignalCnt_lt
  rw [regAddr_laneIntStatus]
  omega

theorem synceUpdate_port (s : State) : (synceUpdate s).port = s.port := (clockHolds_synceUpdate s).steady.frame.2 .port (by decide)

/-! A lane of a LINK_UP port takes it down. -/

/-- A port goes down in a state that differs from s in nothing that the loss of its link looks at. -/
theorem wentDown_after {p : ℕ} {s v : State} (hp : p < 512) (hl : s.linkUp p = true) (cause : ℕ) (hm : MastRuns s v) (ports : ∀ k, v.prt k = s.prt k)
    (links : ∀ hi lo, v.rgf .portLinkCnt [p] hi lo = s.rgf .portLinkCnt [p] hi lo) : WentDown p cause s (linkDown p cause v) := by
  obtain ⟨_, ⟨state, stage, told, start, lanes, others, losses, attempts⟩, _⟩ := wentDown_linkDown ((linkUp_congr (ports p)).trans hl) hp cause
  exact ⟨state, stage, told, start.trans hm.tick, fun n hn => lanes n (by rwa [lanesOf_congr (t := v) (s := s) (by rw [ports])]),
    fun k hk => (others k hk).trans (ports k), by rw [losses, links], by rw [attempts, links]⟩

/-- A lane has lost what it had, and its interrupt tells of it; ports, and the counts of their links, are as before. -/
structure LaneFell (n bit : ℕ) (f : Lane → Lane) (s v : State) : Prop where
  frame : Frame [.mast, .port, .out, .regs] s v
  mast : MastRuns s v
  port : v.port = (s.modLane n f).port
  status : v.rg .laneIntStatus [n] = s.rg .laneIntStatus [n] ||| BitVec.ofNat 64 (2 ^ bit)
  links : ∀ p < 512, ∀ hi lo, v.rgf .portLinkCnt [p] hi lo = s.rgf .portLinkCnt [p] hi lo

theorem laneFell_raiseInt (n bit : ℕ) (f : Lane → Lane) (s : State) :
    LaneFell n bit f s (raiseInt 10 .laneIntStatus [n] bit (s.modLane n f)) := by
  have signals := intSignalCnt_lt
  have raised := (steady_raiseInt 10 .laneIntStatus [n] bit (s.modLane n f))
  refine ⟨Frame.trans (Frame.mono (by simp) (steady_modLane ..).frame) (Frame.mono (by simp) raised.frame), mastRuns_of_eq (raiseInt_mast ..),
    raiseInt_port .., rg_raiseInt_self _ _ _ (laneIntStatus_ne_signalCnt n), fun p hp hi lo => ?_⟩
  refine (RegsBut.rgf (regsBut_raised 10 .laneIntStatus [n] bit (s.modLane n f)) ?_ hi lo).trans rfl
  simp only [List.mem_cons, List.not_mem_nil, or_false, not_or, regAddr_portLinkCnt, regAddr_laneIntStatus]
  omega

theorem LaneFell.synceUpdate {n bit : ℕ} {f : Lane → Lane} {s v : State} (h : LaneFell n bit f s v) (hn : n < 512) :
    LaneFell n bit f s (synceUpdate v) := by
  have kept := portRegsKept_synceUpdate v
  obtain ⟨lo, hi⟩ := laneIntStatus_inBlock hn
  refine ⟨Frame.trans h.frame (Frame.mono (by simp) (clockHolds_synceUpdate v).steady.frame), h.mast.trans (mastRuns_synceUpdate v),
    (synceUpdate_port v).trans h.port, (kept.rg _ _ lo hi).trans h.status, fun p hp x y => ?_⟩
  obtain ⟨lo, hi⟩ := portLinkCnt_inBlock hp
  exact (kept.rgf lo hi x y).trans (h.links p hp x y)

section
variable {n bit : ℕ} {f : Lane → Lane} {s v : State} (h : LaneFell n bit f s v)
include h

theorem LaneFell.prt (k : ℕ) : v.prt k = s.prt k := prt_congr h.port k

theorem LaneFell.lane (k : ℕ) : v.lane k = if k = n then f (s.lane n) else s.lane k := (lane_congr h.port k).trans (lane_modLane ..)

theorem LaneFell.portOf (k : ℕ) : v.portOf k = s.portOf k := portOf_congr h.prt k

/-- The loss takes a LINK_UP port down (R87). -/
theorem LaneFell.linkDown {p : ℕ} (hn : n < 512) (hp : p < 512) (hl : s.linkUp p = true) (cause : ℕ) :
    Frame linkParts s (linkDown p cause v) ∧ (linkDown p cause v).mast.running = s.mast.running ∧ WentDown p cause s (linkDown p cause v)
    ∧ (linkDown p cause v).rg .laneIntStatus [n] = s.rg .laneIntStatus [n] ||| BitVec.ofNat 64 (2 ^ bit) := by
  have up : v.linkUp p = true := (linkUp_congr (h.prt p)).trans hl
  obtain ⟨on, _, laneInts⟩ := wentDown_linkDown up hp cause
  exact ⟨Frame.trans (Frame.mono (by simp) h.frame) on.frame, on.mast.running.trans h.mast.running,
    wentDown_after hp hl cause h.mast h.prt (h.links p hp), (laneInts n hn).trans h.status⟩

end

/-! Signal detect. -/

theorem exec_laneSignalDetect {n : ℕ} (hn : n < 512) (s : State) : exec (.laneSignalDetect n) s = keep s (signalDetect n s) := by
  change execLaneSignalDetect n s = _
  rw [execLaneSignalDetect, Nat.mod_eq_of_lt hn]

theorem signalDetect_rises {n : ℕ} {s : State} (hs : (s.lane n).sig = false) (hp : ∀ q, s.portOf n = some q → (s.prt q).state ≠ 3) :
    signalDetect n s = synceUpdate (s.modLane n fun l => { l with sig := true, sigTick := s.tick, sigLost := none }) := by
  unfold signalDetect
  rw [hs]
  simp only [Bool.false_eq_true, if_false]
  have port : (synceUpdate (s.modLane n fun l => { l with sig := true, sigTick := s.tick, sigLost := none })).portOf n = s.portOf n :=
    portOf_congr (fun k => prt_congr (synceUpdate_port _) k) n
  rw [port]
  split
  next q hq =>
    rw [if_neg]
    rw [prt_congr (synceUpdate_port _)]
    exact fun h => hp q hq h.1
  next => rfl

theorem goes_laneSignalDetect {n : ℕ} {s : State} (h : Live s) (hn : n < 512) (hs : (s.lane n).sig = false)
    (hp : ∀ q, s.portOf n = some q → (s.prt q).state ≠ 3) :
    Goes (.laneSignalDetect n) s [.mast, .port, .out, .regs] fun t =>
      t.lane n = { s.lane n with sig := true, sigTick := s.mast.tick, sigLost := none }
      ∧ (∀ k, k ≠ n → t.lane k = s.lane k) ∧ t.port.ports = s.port.ports := by
  have run := exec_laneSignalDetect hn s
  rw [signalDetect_rises hs hp] at run
  refine goes_of_running run h (Frame.trans (Frame.mono (by simp) (steady_modLane ..).frame) (Frame.mono (by simp) (clockHolds_synceUpdate _).steady.frame))
    (mastRuns_synceUpdate _).running ⟨?_, fun k hk => ?_, ?_⟩
  · rw [lane_congr (synceUpdate_port _), lane_modLane, if_pos rfl]
    rfl
  · rw [lane_congr (synceUpdate_port _), lane_modLane, if_neg hk]
  · rw [synceUpdate_port]
    rfl

theorem exec_laneSignalLoss {n : ℕ} (hn : n < 512) (s : State) : exec (.laneSignalLoss n) s = keep s (signalLoss n s) := by
  change execLaneSignalLoss n s = _
  rw [execLaneSignalLoss, Nat.mod_eq_of_lt hn]

theorem goes_laneSignalLoss {n p : ℕ} {s : State} (h : Live s) (hn : n < 512) (hs : (s.lane n).sig = true) (hp : s.portOf n = some p)
    (hl : s.linkUp p = true) (hd : (s.lane n).rxDoze = 0) :
    Goes (.laneSignalLoss n) s [.mast, .port, .out, .regs] fun t =>
      t.lane n = { s.lane n with sig := false, sigLost := some s.mast.tick } ∧ (∀ k, k ≠ n → t.lane k = s.lane k)
      ∧ t.port.ports = s.port.ports ∧ t.rg .laneIntStatus [n] = s.rg .laneIntStatus [n] ||| 1 := by
  obtain ⟨_, up⟩ := (linkUp_iff s p).mp hl
  have fell := (laneFell_raiseInt n 0 (fun l => { l with sig := false }) s).synceUpdate hn
  have run : signalLoss n s = (synceUpdate (raiseInt 10 .laneIntStatus [n] 0 (s.modLane n fun l => { l with sig := false }))).modLane n
      fun l => { l with sigLost := some (synceUpdate (raiseInt 10 .laneIntStatus [n] 0 (s.modLane n fun l => { l with sig := false }))).tick } := by
    unfold signalLoss
    simp only [hs, Bool.not_true, Bool.false_eq_true, if_false, fell.portOf, hp, fell.prt, up, fell.lane, if_true, hd]
  have exec := exec_laneSignalLoss hn s
  rw [run] at exec
  generalize synceUpdate (raiseInt 10 .laneIntStatus [n] 0 (s.modLane n fun l => { l with sig := false })) = v at fell exec
  refine goes_of_running exec h (Frame.trans fell.frame (Frame.mono (by simp) (steady_modLane ..).frame)) fell.mast.running ⟨?_, fun k hk => ?_, ?_, fell.status⟩
  · rw [lane_modLane, if_pos rfl, fell.lane, if_pos rfl, State.tick, fell.mast.tick]
  · rw [lane_modLane, if_neg hk, fell.lane, if_neg hk]
  · have ports : v.port.ports = s.port.ports := by
      rw [fell.port]
      rfl
    exact ports

theorem goes_signalLossExpiry {n p d : ℕ} {s : State} (h : Live s) (hn : n < 512) (hp : p < 512) (hs : (s.lane n).sig = false)
    (ho : s.portOf n = some p) (hl : s.linkUp p = true) (ht : (s.lane n).sigLost = some d) (hx : d + 800 < s.mast.tick) (hd : (s.lane n).rxDoze = 0) :
    Goes (.signalLossExpiry n) s [.mast, .port, .host, .cmd, .out, .flt, .regs, .power] (WentDown p 1 s) := by
  obtain ⟨_, up⟩ := (linkUp_iff s p).mp hl
  have due : d + usTicks < s.tick := hx
  have run : exec (.signalLossExpiry n) s = keep s (linkDown p 1 (s.modLane n fun l => { l with sigLost := none, cdr := false, aligned := false, uncal := true })) := by
    change execSignalLossExpiry n s = _
    rw [execSignalLossExpiry, Nat.mod_eq_of_lt hn]
    simp only [signalLossExpiry, ho, ht, hs, up, hd, due, Bool.not_false, and_self, if_true]
  have fell : MastRuns s (s.modLane n fun l => { l with sigLost := none, cdr := false, aligned := false, uncal := true }) := ⟨rfl, rfl⟩
  obtain ⟨on, _, _⟩ := wentDown_linkDown (s := s.modLane n fun l => { l with sigLost := none, cdr := false, aligned := false, uncal := true }) hl hp 1
  exact goes_of_running run h (Frame.trans (Frame.mono (by simp) (steady_modLane ..).frame) on.frame) (on.mast.running.trans fell.running)
    (wentDown_after hp hl 1 fell (fun _ => rfl) fun _ _ => rfl)

/-! CDR lock. -/

theorem goes_cdrLock {n p : ℕ} {s : State} (h : Live s) (hn : n < 512) (ho : s.portOf n = some p) (hs : (s.lane n).sig = true)
    (hp : (s.prt p).state = 1) (ht : (s.lane n).sigTick + 8000 ≤ s.mast.tick) (hg : (s.lane n).stage ≤ 2) :
    Goes (.cdrLock n) s [.mast, .port, .out, .regs] fun t =>
      let known := entryTrain (s.prt p).entry || (s.prt p).topsail
      t.lane n = { s.lane n with
        cdr := true, stage := if known then 3 else 4
        inverted := if known then (s.lane n).inverted else (s.prt p).curInvert.testBit (n - p) }
      ∧ ∀ k, k ≠ n → t.lane k = s.lane k := by
  let known := entryTrain (s.prt p).entry || (s.prt p).topsail
  let l : Lane := { s.lane n with
    cdr := true, stage := if known then 3 else 4, inverted := if known then (s.lane n).inverted else (s.prt p).curInvert.testBit (n - p) }
  have due : (s.lane n).sigTick + nsTicks 10000 ≤ s.tick := ht
  have run : exec (.cdrLock n) s = keep s (stageUpdate p (synceUpdate (s.setLane n l))) := by
    change execCdrLock n s = _
    rw [execCdrLock, Nat.mod_eq_of_lt hn]
    unfold cdrLock
    rw [ho]
    simp only []
    rw [if_neg (by simp [hs]), if_pos hp, if_pos ⟨due, hg⟩]
  have staged := onPort_stageUpdate p (synceUpdate (s.setLane n l))
  refine goes_of_running run h (Frame.trans (Frame.mono (by simp) (steady_setLane n l s).frame) (Frame.trans
    (Frame.mono (by simp) (clockHolds_synceUpdate _).steady.frame) (Frame.mono (by simp) staged.frame)))
    (staged.mast.running.trans (mastRuns_synceUpdate _).running) ⟨?_, fun k hk => ?_⟩
  · rw [stageUpdate_lane, lane_congr (synceUpdate_port _), lane_setLane_self]
  · rw [stageUpdate_lane, lane_congr (synceUpdate_port _), lane_setLane_ne _ _ hk]

theorem goes_cdrLockLoss {n p : ℕ} {s : State} (h : Live s) (hn : n < 512) (hp : p < 512) (hc : (s.lane n).cdr = true) (ho : s.portOf n = some p)
    (hl : s.linkUp p = true) (hd : (s.lane n).rxDoze = 0) :
    Goes (.cdrLockLoss n) s [.mast, .port, .host, .cmd, .out, .flt, .regs, .power] fun t =>
      WentDown p 9 s t ∧ t.rg .laneIntStatus [n] = s.rg .laneIntStatus [n] ||| 2 := by
  obtain ⟨_, up⟩ := (linkUp_iff s p).mp hl
  have fell := (laneFell_raiseInt n 1 (fun l => { l with cdr := false, uncal := true }) s).synceUpdate hn
  have run : exec (.cdrLockLoss n) s = keep s (linkDown p 9
      (synceUpdate (raiseInt 10 .laneIntStatus [n] 1 (s.modLane n fun l => { l with cdr := false, uncal := true })))) := by
    change execCdrLockLoss n s = _
    rw [execCdrLockLoss, Nat.mod_eq_of_lt hn]
    simp only [cdrLoss, hc, Bool.not_true, Bool.false_eq_true, if_false, fell.portOf, ho, fell.prt, up, fell.lane, if_true, hd]
  obtain ⟨frame, running, down, status⟩ := fell.linkDown hn hp hl 9
  exact goes_of_running run h frame running ⟨down, status⟩

/-! Alignment and deskew. -/

theorem exec_alignLock {n : ℕ} (hn : n < 512) (x : Hunt) (s : State) : exec (.alignLock n x) s = keep s (alignLock n x s) := by
  change execAlignLock n x s = _
  rw [execAlignLock, Nat.mod_eq_of_lt hn]

theorem goes_alignLock {n p : ℕ} {s : State} {x : Hunt} (h : Live s) (hn : n < 512) (ho : s.portOf n = some p) (hp : (s.prt p).state = 1)
    (hc : (s.lane n).cdr = true) (hg : (s.lane n).stage = 3 ∨ (s.lane n).stage = 4) (ha : s.alignsBy n p x = true) :
    Goes (.alignLock n x) s [.port] fun t =>
      t.lane n = { s.lane n with
        aligned := true, stage := 5
        inverted := if entryTrain (s.prt p).entry || (s.prt p).topsail then x.inverted else (s.lane n).inverted }
      ∧ (∀ k, k ≠ n → t.lane k = s.lane k) ∧ ∀ k, k ≠ p → t.prt k = s.prt k := by
  let l : Lane := { s.lane n with
    aligned := true, stage := 5, inverted := if entryTrain (s.prt p).entry || (s.prt p).topsail then x.inverted else (s.lane n).inverted }
  have run : exec (.alignLock n x) s = keep s (stageUpdate p (s.setLane n l)) := by
    rw [exec_alignLock hn]
    unfold alignLock
    rw [ho]
    simp only []
    rw [if_pos ⟨hp, hc, hg, ha⟩]
  have staged := onPort_stageUpdate p (s.setLane n l)
  refine goes_of_running run h (Frame.trans (steady_setLane n l s).frame staged.frame) staged.mast.running ⟨?_, fun k hk => ?_, staged.ports⟩
  · rw [stageUpdate_lane, lane_setLane_self]
  · rw [stageUpdate_lane, lane_setLane_ne _ _ hk]

theorem goes_alignLock_unseen {n p : ℕ} {s : State} {x : Hunt} (h : Live s) (hn : n < 512) (ho : s.portOf n = some p) (ha : s.alignsBy n p x = false) :
    Goes (.alignLock n x) s [] fun t => t.port = s.port := by
  have run : exec (.alignLock n x) s = keep s s := by
    rw [exec_alignLock hn]
    simp only [alignLock, ho, ha, Bool.false_eq_true, and_false, if_false]
  exact goes_of_keep run h (Steady.refl _ s) rfl

theorem exec_alignLoss {n : ℕ} (hn : n < 512) (x : Hunt) (s : State) : exec (.alignLoss ⟨n, x⟩) s = keep s (alignLoss n x s) := by
  change execAlignLoss ⟨n, x⟩ s = _
  simp only [execAlignLoss, Nat.mod_eq_of_lt hn]

/-- On a CPRI port a loss of alignment is counted besides. -/
theorem LaneFell.countCpri {n bit : ℕ} {f : Lane → Lane} {s v : State} (h : LaneFell n bit f s v) (p : ℕ) (b : Bool) :
    LaneFell n bit f s (when b (fun s => s.bump .cpriCnt [p] 31 0) v) := by
  cases b with
  | false => exact h
  | true =>
    refine ⟨Frame.trans h.frame (Frame.mono (by simp) (steady_bump ..).frame), h.mast.trans ⟨rfl, rfl⟩, h.port, ?_, fun q hq x y => ?_⟩
    · refine (rg_setRg_ne v _ ?_).trans h.status
      rw [regAddr_laneIntStatus, regAddr_cpriCnt]
      omega
    · refine (RegsBut.rgf (regsBut_bump v 31 0 1 (List.mem_singleton.mpr rfl)) ?_ x y).trans (h.links q hq x y)
      rw [List.mem_singleton, regAddr_portLinkCnt, regAddr_cpriCnt]
      omega

theorem goes_alignLoss {n p : ℕ} {s : State} {x : Hunt} (h : Live s) (hn : n < 512) (hp : p < 512) (ha : (s.lane n).aligned = true)
    (ho : s.portOf n = some p) (hl : s.linkUp p = true) (hd : (s.lane n).rxDoze = 0) (hx : s.lostBy n x = true) :
    Goes (.alignLoss ⟨n, x⟩) s [.mast, .port, .host, .cmd, .out, .flt, .regs, .power] fun t =>
      WentDown p 9 s t ∧ t.rg .laneIntStatus [n] = s.rg .laneIntStatus [n] ||| 4 := by
  obtain ⟨_, up⟩ := (linkUp_iff s p).mp hl
  have fell := laneFell_raiseInt n 2 (fun l => { l with aligned := false, uncal := true }) s
  have counted := fell.countCpri p (s.prt p).isCpri
  have run : exec (.alignLoss ⟨n, x⟩) s = keep s (linkDown p 9 (when (s.prt p).isCpri (fun s => s.bump .cpriCnt [p] 31 0)
      (raiseInt 10 .laneIntStatus [n] 2 (s.modLane n fun l => { l with aligned := false, uncal := true })))) := by
    rw [exec_alignLoss hn]
    simp only [alignLoss, ha, hx, Bool.not_true, Bool.false_eq_true, if_false, fell.portOf, ho, fell.prt, counted.prt, up, counted.lane, if_true, hd]
  obtain ⟨frame, running, down, status⟩ := counted.linkDown hn hp hl 9
  exact goes_of_running run h frame running ⟨down, status⟩

/-- A row that takes a LINK_UP port down, and does nothing besides. -/
theorem goes_of_linkDown {i : Instr} {p cause : ℕ} {s : State} (run : exec i s = keep s (linkDown p cause s)) (h : Live s) (hp : p < 512)
    (hl : s.linkUp p = true) : Goes i s [.mast, .port, .host, .cmd, .out, .flt, .regs, .power] (WentDown p cause s) := by
  obtain ⟨on, down, _⟩ := wentDown_linkDown hl hp cause
  exact goes_of_running run h on.frame on.mast.running down

theorem goes_deskewLoss {n p : ℕ} {s : State} {x : Hunt} (h : Live s) (hn : n < 512) (hp : p < 512) (ha : (s.lane n).aligned = true)
    (ho : s.portOf n = some p) (hl : s.linkUp p = true) (hd : (s.lane n).rxDoze = 0) (hx : s.lostBy n x = false) (hw : x.deskewLost = true) :
    Goes (.alignLoss ⟨n, x⟩) s [.mast, .port, .host, .cmd, .out, .flt, .regs, .power] (WentDown p 9 s) := by
  obtain ⟨_, up⟩ := (linkUp_iff s p).mp hl
  refine goes_of_linkDown ?_ h hp hl
  rw [exec_alignLoss hn]
  simp only [alignLoss, ha, hx, hw, when, deskewLoss, ho, up, hd, Bool.not_true, Bool.not_false, Bool.false_eq_true, if_false, if_true]

theorem goes_hiSer {p : ℕ} {s : State} (h : Live s) (hp : p < 512) (hl : s.linkUp p = true) :
    Goes (.hiSer p) s [.mast, .port, .host, .cmd, .out, .flt, .regs, .power] (WentDown p 10 s) := by
  refine goes_of_linkDown ?_ h hp hl
  change execHiSer p s = _
  rw [execHiSer, Nat.mod_eq_of_lt hp]

theorem goes_dvarMeasured {n : ℕ} {s : State} (h : Live s) (hn : n < 512) (ha : (s.lane n).aligned = true) (rx tx : ℕ) :
    Goes (.dvarMeasured n rx tx) s [.port] fun t =>
      t.lane n = { s.lane n with dvarRx := min (dvarMax n s).1 rx, dvarTx := min (dvarMax n s).2 tx, uncal := false }
      ∧ (∀ k, k ≠ n → t.lane k = s.lane k) ∧ t.port.ports = s.port.ports := by
  have run : exec (.dvarMeasured n rx tx) s = keep s (s.modLane n fun l =>
      { l with dvarRx := min (dvarMax n s).1 rx, dvarTx := min (dvarMax n s).2 tx, uncal := false }) := by
    change execDvarMeasured n rx tx s = _
    rw [execDvarMeasured, Nat.mod_eq_of_lt hn]
    simp only [dvarMeasured, ha, if_true]
  exact goes_of_keep run h (steady_modLane ..) ⟨by rw [lane_modLane, if_pos rfl], fun k hk => by rw [lane_modLane, if_neg hk], rfl⟩

end Sys2Proof.Machine
end

section
namespace Sys2Proof.Machine

/-! ### The port stages of bring-up (R81, R83, R77, R94) -/

theorem exec_bringupStageComplete {p : ℕ} (hp : p < 512) (i : BringUp) (s : State) :
    exec (.bringupStageComplete p i) s = keep s (stageComplete p i s) := by
  change execBringupStageComplete p i s = _
  rw [execBringupStageComplete, Nat.mod_eq_of_lt hp]

/-- A row that changes one port alone. -/
theorem goes_of_setPort {i : Instr} {p : ℕ} {s : State} {x : Port} (hx : exec i s = keep s (s.setPort p x)) (h : Live s) :
    Goes i s [.port] fun t => t.prt p = x ∧ ∀ k, k ≠ p → t.prt k = s.prt k :=
  goes_of_keep hx h (steady_setPort ..) ⟨prt_setPort_self .., fun _ hk => prt_setPort_ne s _ hk⟩

theorem goes_bringup_deskew {p : ℕ} {i : BringUp} {s : State} (h : Live s) (hp : p < 512) (hf : (s.prt p).formed = true) (ha : (s.prt p).state = 1)
    (hg : (s.prt p).stage = 5) (hm : mapOk (s.prt p).lanes i.laneMap = true) (hk : ∀ x ∈ i.skew, x ≤ 256) :
    Goes (.bringupStageComplete p i) s [.port] fun t =>
      t.prt p = { s.prt p with laneMap := i.laneMap, skew := i.skew, stage := if entryTrain (s.prt p).entry then 6 else 7 }
      ∧ ∀ k, k ≠ p → t.prt k = s.prt k := by
  refine goes_of_setPort ?_ h
  rw [exec_bringupStageComplete hp]
  unfold stageComplete
  simp only []
  rw [if_neg (by simp [hf, ha]), hg]
  simp only []
  rw [if_pos ⟨hm, by simpa using hk⟩]

/-- Training sets the precoding that each lane asks for (R77). -/
def precoded (p : ℕ) (i : BringUp) (n : ℕ) (l : Lane) : Lane := { l with txPre := i.txPre.testBit (n - p), rxPre := i.rxPre.testBit (n - p) }

def precodeLanes (p : ℕ) (i : BringUp) (s : State) : State := (s.lanesOf p).foldl (fun s n => s.setLane n (precoded p i n (s.lane n))) s

theorem stageComplete_train {p : ℕ} {i : BringUp} {s : State} (hf : (s.prt p).formed = true) (ha : (s.prt p).state = 1)
    (hg : (s.prt p).stage = 6) :
    stageComplete p i s = (if (s.prt p).topsail then s else precodeLanes p i s).setPort p { s.prt p with stage := 7 } := by
  unfold stageComplete
  simp only []
  rw [if_neg (by simp [hf, ha]), hg]
  rfl

theorem goes_bringup_train {p : ℕ} {i : BringUp} {s : State} (h : Live s) (hp : p < 512) (hf : (s.prt p).formed = true) (ha : (s.prt p).state = 1)
    (hg : (s.prt p).stage = 6) :
    Goes (.bringupStageComplete p i) s [.port] fun t =>
      t.prt p = { s.prt p with stage := 7 } ∧ (∀ k, k ≠ p → t.prt k = s.prt k)
      ∧ (∀ k, k ∉ s.lanesOf p → t.lane k = s.lane k) ∧ ∀ k ∈ s.lanesOf p, t.lane k = if (s.prt p).topsail then s.lane k
        else { s.lane k with txPre := i.txPre.testBit (k - p), rxPre := i.rxPre.testBit (k - p) } := by
  have run := exec_bringupStageComplete hp i s
  rw [stageComplete_train hf ha hg] at run
  have lanes := fun k => lane_foldl_setLane (precoded p i) _ (nodup_lanesOf s p) s k
  have trained : Steady [.port] s (precodeLanes p i s) := steady_foldl _ (fun _ _ => steady_setLane ..) s
  have ports : ∀ k, (precodeLanes p i s).prt k = s.prt k := fun k => prt_foldl_setLane (precoded p i) _ s k
  refine goes_of_keep run h ((steady_ite (Steady.refl _ s) trained).trans (steady_setPort ..)) ⟨prt_setPort_self .., fun k hk => ?_, fun k hk => ?_, fun k hk => ?_⟩
  · rw [prt_setPort_ne _ _ hk]
    split
    · rfl
    · exact ports k
  · rw [lane_setPort]
    split
    · rfl
    · rw [precodeLanes, lanes, if_neg hk]
  · rw [lane_setPort]
    split
    · rfl
    · rw [precodeLanes, lanes, if_pos hk]
      rfl

theorem stageComplete_seven {p : ℕ} {i : BringUp} {s : State} (hf : (s.prt p).formed = true) (ha : (s.prt p).state = 1)
    (hg : (s.prt p).stage = 7) :
    stageComplete p i s = if (s.prt p).isCpri then (if i.cpriVersion = 1 ∨ i.cpriVersion = 2 then
          enterLink p (s.setPort p { s.prt p with cpriVersion := i.cpriVersion, cpriAlarms := 0 }) else s)
        else if ((s.prt p).forTopsail && !(s.prt p).topsailEnded) || !s.mayLink p then s else enterLink p s := by
  unfold stageComplete
  simp only []
  rw [if_neg (by simp [hf, ha])]
  split
  next h5 => omega
  next h6 => omega
  next => rfl
  next h => exact absurd hg h

/-- Stage 7 completes as LINK_UP, on a CPRI port with the protocol version that it has (R94). -/
theorem stageComplete_link {p : ℕ} {i : BringUp} {s : State} (hf : (s.prt p).formed = true) (ha : (s.prt p).state = 1) (hg : (s.prt p).stage = 7)
    (hx : if (s.prt p).isCpri then i.cpriVersion = 1 ∨ i.cpriVersion = 2
      else ((s.prt p).forTopsail = false ∨ (s.prt p).topsailEnded = true) ∧ s.mayLink p = true) :
    ∃ u, stageComplete p i s = enterLink p u ∧ OnPort p [.port] s u ∧ (u.prt p).formed = true
      ∧ ((s.prt p).isCpri = true → (u.prt p).cpriVersion = i.cpriVersion) := by
  rw [stageComplete_seven hf ha hg]
  by_cases hc : (s.prt p).isCpri = true
  · rw [if_pos hc] at hx ⊢
    refine ⟨_, if_pos hx, onPort_modPort p (fun _ => _) s, ?_, fun _ => ?_⟩
    · rw [prt_setPort_self]
      exact hf
    · rw [prt_setPort_self]
  · rw [if_neg hc] at hx ⊢
    obtain ⟨ht, hl⟩ := hx
    refine ⟨s, if_neg ?_, OnPort.refl .., hf, fun h => absurd h hc⟩
    rcases ht with ht | ht <;> simp [ht, hl]

theorem goes_bringup_link {p : ℕ} {i : BringUp} {s : State} (h : Live s) (hp : p < 512) (hf : (s.prt p).formed = true) (ha : (s.prt p).state = 1)
    (hg : (s.prt p).stage = 7) (hx : if (s.prt p).isCpri then i.cpriVersion = 1 ∨ i.cpriVersion = 2
      else ((s.prt p).forTopsail = false ∨ (s.prt p).topsailEnded = true) ∧ s.mayLink p = true) :
    Goes (.bringupStageComplete p i) s [.port, .host, .cmd, .out, .regs] fun t =>
      t.linkUp p = true ∧ (t.prt p).upTick = s.mast.tick ∧ ((s.prt p).isCpri = true → (t.prt p).cpriVersion = i.cpriVersion) ∧ t.txAwake p = true ∧ t.rxAwake p = true
      ∧ t.rg .portIntStatus [p] = s.rg .portIntStatus [p] ||| 1 ∧ ∀ k, k ≠ p → t.prt k = s.prt k := by
  obtain ⟨u, run, on, formed, version⟩ := stageComplete_link (i := i) hf ha hg hx
  have hrun := exec_bringupStageComplete hp i s
  rw [run] at hrun
  have linked := onPort_enterLink p u
  have port := enterLink_prt p u
  obtain ⟨tx, rx⟩ := enterLink_awake p u
  have status : u.rg .portIntStatus [p] = s.rg .portIntStatus [p] := by rw [State.rg, State.rg, on.frame.2 .regs (by decide)]
  refine goes_of_running hrun h (Frame.trans (Frame.mono (by simp) on.frame) linked.frame) (linked.mast.running.trans on.mast.running)
    ⟨?_, ?_, fun hc => ?_, tx, rx, ?_, fun k hk => (linked.ports k hk).trans (on.ports k hk)⟩
  · rw [linkUp_iff, port]
    exact ⟨formed, rfl⟩
  · rw [port]
    exact on.mast.tick
  · rw [port]
    exact version hc
  · rw [enterLink_status hp, status]

/-! ### PORT_ADMIN (R104) -/

/-- What PORT_ADMIN sets for the next attempt. -/
def administered (c : Cmd) (x : Port) : Port := { x with rxInvert := c.n 3, trainTimer := c.n 4, fallback := c.n 5 == 1 }

theorem exec_portAdmin (c : Cmd) (s : State) : exec (.portAdmin c) s = commandRow (runCommand 0x0300 portDomain portAdminBody c) c s := rfl

/-- The operands of a PORT_ADMIN of port p are good (Table 13-7). -/
def AdminGood (c : Cmd) (p : ℕ) (s : State) : Prop :=
  Taken 0x0300 portDomain c s ∧ c.n 0 = p ∧ (s.prt p).formed = true ∧ c.n 2 ≤ 1 ∧ c.n 3 < 256
    ∧ (c.n 4 = 0 ∨ 10 ≤ c.n 4 ∧ c.n 4 ≤ 10000) ∧ c.n 5 ≤ 1

theorem AdminGood.formed {c : Cmd} {p : ℕ} {s : State} (h : AdminGood c p s) : (s.prt p).formed = true := by
  obtain ⟨_, _, formed, _⟩ := h
  exact formed

@[simp] theorem note_prt (c : Cmd) (s : State) (k : ℕ) : (noteIntake c s).prt k = s.prt k := prt_congr (noteIntake_port c s) k

@[simp] theorem note_lane (c : Cmd) (s : State) (k : ℕ) : (noteIntake c s).lane k = s.lane k := lane_congr (noteIntake_port c s) k

theorem portAdminBody_done {c : Cmd} {p : ℕ} {s : State} (h : AdminGood c p s) (hp : p < 512) (h1 : c.n 1 ≤ 1) :
    portAdminBody c (noteIntake c s) = .done [] (when (c.n 2 == 1) (portRestart p)
      (setAdmin p (c.n 1 == 1) ((noteIntake c s).modPort p (administered c)))) := by
  obtain ⟨_, rfl, hf, h2, h3, h4, h5⟩ := h
  have good : firstBad [(0, decide (c.n 0 < 512) && ((noteIntake c s).prt (c.n 0)).formed), (1, decide (c.n 1 ≤ 1)), (2, decide (c.n 2 ≤ 1)),
      (3, decide (c.n 3 < 256)), (4, c.n 4 == 0 || (decide (10 ≤ c.n 4) && decide (c.n 4 ≤ 10000))), (5, decide (c.n 5 ≤ 1))] = none := by
    simp [firstBad, hp, hf, h1, h2, h3, h4, h5]
  simp only [portAdminBody, checked, good]
  rfl

theorem setAdmin_starts {p : ℕ} {s : State} (hf : (s.prt p).formed = true) (hs : (s.prt p).state = 4) :
    setAdmin p true s = startAttempt p ((s.modPort p fun x => { x with adminUp := true }).modPort p fun x => { x with backoff := 0 }) := by
  simp [setAdmin, hf, hs]

theorem setAdmin_stays {p : ℕ} {s : State} (hf : (s.prt p).formed = true) (hs : (s.prt p).state ≠ 4) :
    setAdmin p true s = s.modPort p fun x => { x with adminUp := true } := by
  simp [setAdmin, hf, hs]

theorem setAdmin_down {p : ℕ} {s : State} (hf : (s.prt p).formed = true) (hs : (s.prt p).state ≠ 4) :
    setAdmin p false s = portAdminDown p 14 s := by
  simp [setAdmin, hf, hs]

/-- RESTART clears what failed attempts have left (R86, R91). -/
def restarted (x : Port) : Port := { x with backoff := 0, topsailFails := 0, topsailEnded := false }

theorem portRestart_attempt {p : ℕ} {s : State} (hf : (s.prt p).formed = true) (hs : (s.prt p).state = 1) :
    portRestart p s = startAttempt p ((s.modPort p restarted).modPort p fun x => { x with topsail := false }) := by
  have state : ((s.modPort p restarted).prt p).state = 1 := by rw [prt_modPort, if_pos rfl]; exact hs
  unfold portRestart
  simp only []
  rw [if_neg (by simp [hf])]
  split
  next => rfl
  next h => exact absurd (state.symm.trans h) (by decide)
  next h => exact absurd (state.symm.trans h) (by decide)
  next h _ _ => exact absurd state h

theorem portRestart_down {p : ℕ} {s : State} (hf : (s.prt p).formed = true) (hs : (s.prt p).state = 4) :
    portRestart p s = s.modPort p restarted := by
  have state : ((s.modPort p restarted).prt p).state = 4 := by rw [prt_modPort, if_pos rfl]; exact hs
  unfold portRestart
  simp only []
  rw [if_neg (by simp [hf])]
  split
  next h => exact absurd (state.symm.trans h) (by decide)
  next h => exact absurd (state.symm.trans h) (by decide)
  next h => exact absurd (state.symm.trans h) (by decide)
  next => rfl

/-- PORT_ADMIN is answered, and its effect on the ports is the body's. -/
theorem answered_portAdmin {c : Cmd} {p : ℕ} {s u : State} {l : List Part} (h : AdminGood c p s)
    (hb : portAdminBody c (noteIntake c s) = .done [] u) (on : OnPort p ([.host, .out, .regs] ++ l) (noteIntake c s) u) :
    Answered (.portAdmin c) c s [] l fun t => t.prt p = u.prt p ∧ ∀ k, k ≠ p → t.prt k = s.prt k := by
  have port : ({ sendReply c true .ok 0 [] (cntAccepted c u) with pending := s.pending, time := s.time } : State).port = u.port := by
    simp [cntAccepted]
  refine answered_of_done (exec_portAdmin c s) h.1 hb ?_ (fun q hq _ => on.frame.2 q hq) ⟨prt_congr port p, fun k hk => ?_⟩
  · rw [on.mast.running, noteIntake_mast]
    exact h.1.1.2
  · rw [prt_congr port, on.ports k hk, note_prt]

theorem answered_imp {i : Instr} {c : Cmd} {s : State} {res : List W} {l : List Part} {P Q : State → Prop} (h : Answered i c s res l P)
    (hQ : ∀ t, P t → Q t) : Answered i c s res l Q := by
  obtain ⟨t, hx, ha, hf, hP⟩ := h
  exact ⟨t, hx, ha, hf, hQ t hP⟩

/-- What a PORT_ADMIN that starts port p promises of it. -/
structure AdminStarted (c : Cmd) (x : Port) : Prop where
  formed : x.formed = true
  adminUp : x.adminUp = true
  state : x.state = 1
  stage : x.stage = 1
  backoff : x.backoff = 0
  next : x.rxInvert = c.n 3 ∧ x.trainTimer = c.n 4 ∧ x.fallback = (c.n 5 == 1)
  current : x.curInvert = c.n 3 ∧ x.curTimer = c.n 4 ∧ x.curFallback = (c.n 5 == 1)

/-- An attempt that starts on what PORT_ADMIN has set takes it over. -/
theorem adminStarted_attempted {c : Cmd} {now : ℕ} {x : Port} (hf : x.formed = true) (hu : x.adminUp = true) (hb : x.backoff = 0)
    (hn : x.rxInvert = c.n 3 ∧ x.trainTimer = c.n 4 ∧ x.fallback = (c.n 5 == 1)) : AdminStarted c (attempted now x) :=
  ⟨hf, hu, rfl, rfl, hb, hn, hn⟩

theorem adminStarted_portRestart {c : Cmd} {p : ℕ} {s : State} (h : AdminStarted c (s.prt p)) :
    AdminStarted c ((portRestart p s).prt p) ∧ OnPort p [.mast, .port, .out, .regs] s (portRestart p s) := by
  rw [portRestart_attempt h.formed h.state, startAttempt_prt, prt_modPort, if_pos rfl, prt_modPort, if_pos rfl]
  exact ⟨adminStarted_attempted h.formed h.adminUp rfl h.next,
    ((onPort_modPort ..).mono (by simp)).trans (((onPort_modPort ..).mono (by simp)).trans (onPort_startAttempt ..))⟩

theorem answered_portAdmin_start {c : Cmd} {p : ℕ} {s : State} (h : AdminGood c p s) (hp : p < 512) (h1 : c.n 1 = 1) (hs : (s.prt p).state = 4) :
    Answered (.portAdmin c) c s [] [.port, .mast] fun t =>
      (t.prt p).adminUp = true ∧ (t.prt p).state = 1 ∧ (t.prt p).stage = 1 ∧ (t.prt p).backoff = 0 ∧ (t.prt p).curInvert = c.n 3
      ∧ (t.prt p).curTimer = c.n 4 ∧ (t.prt p).curFallback = (c.n 5 == 1) ∧ ∀ k, k ≠ p → t.prt k = s.prt k := by
  have done := portAdminBody_done h hp h1.le
  have port : ((noteIntake c s).modPort p (administered c)).prt p = administered c (s.prt p) := by rw [prt_modPort, if_pos rfl, note_prt]
  have up : (c.n 1 == 1) = true := by simp [h1]
  rw [up, setAdmin_starts (s := (noteIntake c s).modPort p (administered c)) (by rw [port]; exact h.formed) (by rw [port]; exact hs)] at done
  generalize hu : startAttempt p ((State.modPort ((noteIntake c s).modPort p (administered c)) p fun x => { x with adminUp := true }).modPort p
    fun x => { x with backoff := 0 }) = u at done
  have started : AdminStarted c (u.prt p) := by
    rw [← hu, startAttempt_prt, prt_modPort, if_pos rfl, prt_modPort, if_pos rfl, port]
    exact adminStarted_attempted h.formed rfl rfl ⟨rfl, rfl, rfl⟩
  have on : OnPort p [.mast, .port, .out, .regs] (noteIntake c s) u := by
    rw [← hu]
    exact ((onPort_modPort ..).mono (by simp)).trans (((onPort_modPort ..).mono (by simp)).trans (((onPort_modPort ..).mono (by simp)).trans
      (onPort_startAttempt ..)))
  have final : AdminStarted c ((when (c.n 2 == 1) (portRestart p) u).prt p) ∧ OnPort p [.mast, .port, .out, .regs] u (when (c.n 2 == 1) (portRestart p) u) := by
    cases c.n 2 == 1 with
    | true => exact adminStarted_portRestart started
    | false => exact ⟨started, OnPort.refl ..⟩
  refine answered_imp (answered_portAdmin h done ((on.trans final.2).mono (by simp))) fun t ⟨ht, others⟩ => ?_
  obtain ⟨_, adminUp, state, stage, backoff, _, invert, timer, fallback⟩ := final.1
  rw [ht]
  exact ⟨adminUp, state, stage, backoff, invert, timer, fallback, others⟩

theorem completes_portAdmin_set {c : Cmd} {p : ℕ} {s : State} (h : AdminGood c p s) (hp : p < 512) (h1 : c.n 1 = 1) (h2 : c.n 2 = 0)
    (hs : (s.prt p).state ≠ 4) :
    Completes (.portAdmin c) c s [] [.port] [] fun t =>
      t.prt p = { s.prt p with adminUp := true, rxInvert := c.n 3, trainTimer := c.n 4, fallback := c.n 5 == 1 }
      ∧ (∀ k, k ≠ p → t.prt k = s.prt k) ∧ t.port.lanes = s.port.lanes := by
  have done := portAdminBody_done h hp h1.le
  have port : ((noteIntake c s).modPort p (administered c)).prt p = administered c (s.prt p) := by rw [prt_modPort, if_pos rfl, note_prt]
  have up : (c.n 1 == 1) = true := by simp [h1]
  have restart : (c.n 2 == 1) = false := by simp [h2]
  rw [up, restart, setAdmin_stays (s := (noteIntake c s).modPort p (administered c)) (by rw [port]; exact h.formed) (by rw [port]; exact hs)] at done
  generalize hu : (State.modPort ((noteIntake c s).modPort p (administered c)) p fun x => { x with adminUp := true }) = u at done
  replace done : portAdminBody c (noteIntake c s) = .done [] u := done
  have set : u.prt p = { s.prt p with adminUp := true, rxInvert := c.n 3, trainTimer := c.n 4, fallback := c.n 5 == 1 } := by
    rw [← hu, prt_modPort, if_pos rfl, port]
    rfl
  have on : OnPort p [.port] (noteIntake c s) u := by
    rw [← hu]
    exact (onPort_modPort ..).trans (onPort_modPort ..)
  have lanes : u.port.lanes = s.port.lanes := by
    rw [← hu, ← noteIntake_port c s]
    rfl
  have final : ({ sendReply c true .ok 0 [] (cntAccepted c u) with pending := s.pending, time := s.time } : State).port = u.port := by
    simp [cntAccepted]
  refine completes_of_done (exec_portAdmin c s) h.1 done ?_ (fun q hq _ => on.frame.2 q (by simp_all)) (RegsBut.of_eq (on.frame.2 .regs (by decide)))
    ⟨?_, fun k hk => ?_, ?_⟩
  · exact (on.mast.running.trans (by rw [noteIntake_mast])).trans h.1.1.2
  · rw [prt_congr final, set]
  · rw [prt_congr final, on.ports k hk, note_prt]
  · rw [final, lanes]

/-! A port that is taken down. -/

theorem sendHello_eq (st sel cause p : ℕ) (s : State) : ∃ l, sendHello st sel cause p s
    = { (s.modPort p fun x => { x with helloSeq := (x.helloSeq + 1) % 2 ^ 32 }) with out := { s.out with linkMsgs := l } } := ⟨_, rfl⟩

theorem steady_linkMsgs (l : List (ℕ × List Byte)) (s : State) : Steady [.out] s { s with out := { s.out with linkMsgs := l } } :=
  ⟨⟨rfl, fun q hq => by cases q <;> simp_all [Part.same]⟩, rfl, rfl⟩

theorem onPort_sendHello (st sel cause p : ℕ) (s : State) : OnPort p [.port, .out] s (sendHello st sel cause p s) := by
  obtain ⟨l, h⟩ := sendHello_eq st sel cause p s
  rw [h]
  exact ((onPort_modPort p _ s).mono (by simp)).trans ((onPort_of_frame p (steady_linkMsgs l _).frame ⟨rfl, rfl⟩).mono (by simp))

theorem sendHello_prt (st sel cause p : ℕ) (s : State) : ∃ x, (sendHello st sel cause p s).prt p = { s.prt p with helloSeq := x } := by
  obtain ⟨l, h⟩ := sendHello_eq st sel cause p s
  rw [h]
  exact ⟨_, prt_setPort_self ..⟩

/-- GOODBYE on a LINK_UP Dravua port (R92). -/
def goodbye (p cause : ℕ) (s : State) : State := if s.linkUp p ∧ (s.prt p).ver ≠ 0 then sendHello 3 0 cause p s else s

/-- The link, where there is one, is lost. -/
def dropLink (p cause : ℕ) (s : State) : State := if s.linkUp p then leaveLink p cause s else s

theorem portAdminDown_eq (p cause : ℕ) (s : State) : portAdminDown p cause s = when ((goodbye p cause s).linkUp p) (linkChange p)
    ((dropLink p cause (goodbye p cause s)).modPort p fun x => { x with adminUp := false, state := 4, stage := 0, cause := cause, topsail := false }) := rfl

/-- A port before it is held in ADMIN_DOWN: its messages, its frame in transmission and its state may have changed. -/
def LikePort (x y : Port) : Prop := ∃ a b c d, y = { x with helloSeq := a, inFlight := b, state := c, cause := d }

theorem goodbye_facts (p cause : ℕ) (s : State) : OnPort p [.port, .out] s (goodbye p cause s) ∧ LikePort (s.prt p) ((goodbye p cause s).prt p) := by
  unfold goodbye
  split
  · obtain ⟨x, h⟩ := sendHello_prt 3 0 cause p s
    exact ⟨onPort_sendHello .., x, _, _, _, h⟩
  · exact ⟨OnPort.refl .., _, _, _, _, rfl⟩

theorem dropLink_facts (p cause : ℕ) (s : State) : OnPort p linkParts s (dropLink p cause s) ∧ LikePort (s.prt p) ((dropLink p cause s).prt p) := by
  unfold dropLink
  split
  · exact ⟨onPort_leaveLink .., _, _, _, _, leaveLink_prt ..⟩
  · exact ⟨OnPort.refl .., _, _, _, _, rfl⟩

/-- A port that is taken down is held in ADMIN_DOWN with the cause, and keeps its settings (R104). -/
theorem portAdminDown_facts (p cause : ℕ) (s : State) :
    let t := portAdminDown p cause s
    OnPort p linkParts s t ∧ (t.prt p).formed = (s.prt p).formed ∧ (t.prt p).adminUp = false ∧ (t.prt p).state = 4 ∧ (t.prt p).cause = cause
    ∧ (t.prt p).rxInvert = (s.prt p).rxInvert ∧ (t.prt p).trainTimer = (s.prt p).trainTimer ∧ (t.prt p).fallback = (s.prt p).fallback := by
  intro t
  obtain ⟨bye, a, b, c, d, x⟩ := goodbye_facts p cause s
  obtain ⟨dropped, a', b', c', d', y⟩ := dropLink_facts p cause (goodbye p cause s)
  let v := (dropLink p cause (goodbye p cause s)).modPort p fun x => { x with adminUp := false, state := 4, stage := 0, cause := cause, topsail := false }
  have told : OnPort p [.host, .cmd, .out, .regs] v t ∧ t.prt p = v.prt p := by
    have eq := portAdminDown_eq p cause s
    cases hw : (goodbye p cause s).linkUp p with
    | true =>
      rw [hw] at eq
      rw [show t = linkChange p v from eq]
      exact ⟨onPort_linkChange .., prt_congr (linkChange_port ..) p⟩
    | false =>
      rw [hw] at eq
      rw [show t = v from eq]
      exact ⟨OnPort.refl .., rfl⟩
  have port : t.prt p = _ := told.2.trans ((prt_modPort ..).trans (if_pos rfl))
  refine ⟨(bye.mono (by simp)).trans (dropped.trans (((onPort_modPort ..).mono (by simp)).trans (told.1.mono (by simp)))), ?_⟩
  rw [port, y, x]
  exact ⟨rfl, rfl, rfl, rfl, rfl, rfl, rfl⟩

theorem answered_portAdmin_down {c : Cmd} {p : ℕ} {s : State} (h : AdminGood c p s) (hp : p < 512) (h1 : c.n 1 = 0) (hs : (s.prt p).state ≠ 4) :
    Answered (.portAdmin c) c s [] [.port, .mast, .cmd, .flt, .power] fun t =>
      (t.prt p).adminUp = false ∧ (t.prt p).state = 4 ∧ (t.prt p).cause = 14 ∧ (t.prt p).rxInvert = c.n 3
      ∧ (t.prt p).trainTimer = c.n 4 ∧ (t.prt p).fallback = (c.n 5 == 1) ∧ ∀ k, k ≠ p → t.prt k = s.prt k := by
  have done := portAdminBody_done h hp (by omega)
  have port : ((noteIntake c s).modPort p (administered c)).prt p = administered c (s.prt p) := by rw [prt_modPort, if_pos rfl, note_prt]
  have up : (c.n 1 == 1) = false := by simp [h1]
  rw [up, setAdmin_down (s := (noteIntake c s).modPort p (administered c)) (by rw [port]; exact h.formed) (by rw [port]; exact hs)] at done
  obtain ⟨on, formed, adminUp, state, cause, invert, timer, fallback⟩ := portAdminDown_facts p 14 ((noteIntake c s).modPort p (administered c))
  generalize portAdminDown p 14 ((noteIntake c s).modPort p (administered c)) = u at *
  rw [port] at formed invert timer fallback
  have restart : OnPort p [.port] u (when (c.n 2 == 1) (portRestart p) u)
      ∧ ((when (c.n 2 == 1) (portRestart p) u).prt p = u.prt p ∨ (when (c.n 2 == 1) (portRestart p) u).prt p = restarted (u.prt p)) := by
    cases c.n 2 == 1 with
    | true =>
      rw [show when true (portRestart p) u = portRestart p u from rfl, portRestart_down (formed.trans h.formed) state]
      exact ⟨onPort_modPort .., .inr (prt_setPort_self ..)⟩
    | false => exact ⟨OnPort.refl .., .inl rfl⟩
  have whole := ((onPort_modPort p (administered c) (noteIntake c s)).mono (m := linkParts) (by simp)).trans (on.trans (restart.1.mono (by simp)))
  refine answered_imp (answered_portAdmin h done (whole.mono (by simp))) fun t ⟨ht, others⟩ => ?_
  rw [ht]
  rcases restart.2 with hr | hr <;> rw [hr]
  · exact ⟨adminUp, state, cause, invert, timer, fallback, others⟩
  · exact ⟨adminUp, state, cause, invert, timer, fallback, others⟩

end Sys2Proof.Machine
end

section
namespace Sys2Proof.Machine

/-! ### LANE_DOZE_CONFIG (R105) -/

/-- DOZE_SUSPENDED of lanes is cleared. -/
def clearSuspended (l : List ℕ) (s : State) : State := l.foldl (fun s n => s.setRg .laneIntStatus [n] (s.rg .laneIntStatus [n] &&& ~~~64)) s

theorem steady_setRg (r : RegId) (ix : List ℕ) (v : W) (s : State) : Steady [.regs] s (s.setRg r ix v) :=
  ⟨⟨rfl, fun q hq => by cases q <;> simp_all [Part.same]⟩, rfl, rfl⟩

theorem frame_clearSuspended (l : List ℕ) (s : State) : Frame [.regs] s (clearSuspended l s) :=
  (steady_foldl _ (fun s n => steady_setRg .laneIntStatus [n] (s.rg .laneIntStatus [n] &&& ~~~64) s) s).frame

theorem regsBut_clearSuspended (l : List ℕ) (s : State) : RegsBut (l.map fun k => regAddr .laneIntStatus [k]) s (clearSuspended l s) := by
  induction l generalizing s with
  | nil => exact RegsBut.refl _ s
  | cons n l ih =>
    exact RegsBut.trans (regsBut_setRg s _ (by simp)) (RegsBut.mono (by simp +contextual) (ih _))

theorem laneIntStatus_inj {a b : ℕ} (h : regAddr .laneIntStatus [a] = regAddr .laneIntStatus [b]) : a = b := by
  rw [regAddr_laneIntStatus, regAddr_laneIntStatus] at h
  omega

theorem rg_clearSuspended (l : List ℕ) (hl : l.Nodup) (s : State) {k : ℕ} (hk : k ∈ l) :
    (clearSuspended l s).rg .laneIntStatus [k] = s.rg .laneIntStatus [k] &&& ~~~64 := by
  induction l generalizing s with
  | nil => exact absurd hk (List.not_mem_nil)
  | cons n l ih =>
    obtain ⟨hn, hl⟩ := List.nodup_cons.mp hl
    rcases List.mem_cons.mp hk with rfl | hk
    · refine (regsBut_clearSuspended l _ .laneIntStatus [k] fun hm => ?_).trans (rg_setRg_self ..)
      obtain ⟨j, hj, same⟩ := List.mem_map.mp hm
      exact hn (laneIntStatus_inj same ▸ hj)
    · refine (ih hl _ hk).trans ?_
      rw [rg_setRg_ne]
      exact fun same => hn (laneIntStatus_inj same ▸ hk)

theorem laneIntStatus_notMem_cmdRegs {n : ℕ} (h : n < 512) (c : Cmd) : regAddr .laneIntStatus [n] ∉ cmdRegs c := by
  have function := fnIntStatus_out ((srcFn c.src).getD 0)
  have source := srcCode_le c.src
  have count : regAddr .cmdSrcCnt [srcCode c.src] = 0x30 + srcCode c.src * 8 := regAddr_one rfl rfl _
  simp only [cmdRegs, List.mem_cons, List.not_mem_nil, or_false, not_or, count, regAddr_laneIntStatus]
  omega

/-- What LANE_DOZE_CONFIG sets on a port and on its lanes. -/
def dozedPort (c : Cmd) (x : Port) : Port := { x with schedDoze := c.n 1 == 1, lpiEn := c.n 2 == 1, linkDelay := c.n 3 }
def dozedLane (c : Cmd) (l : Lane) : Lane := { l with
  guard := c.n 4, guardCeil := c.n 5, suspended := l.suspended && c.n 6 == 0, missRun := if c.n 6 = 1 then 0 else l.missRun }

/-- The port and its lanes after LANE_DOZE_CONFIG, before RESUME. -/
def dozed (c : Cmd) (p : ℕ) (s : State) : State := (s.modPort p (dozedPort c)).modLanes p (dozedLane c)

theorem prt_dozed (c : Cmd) (p k : ℕ) (s : State) : (dozed c p s).prt k = if k = p then dozedPort c (s.prt p) else s.prt k := by
  rw [dozed, prt_modLanes, prt_modPort]

theorem lanesOf_dozed (c : Cmd) (p : ℕ) (s : State) : (dozed c p s).lanesOf p = s.lanesOf p :=
  lanesOf_congr (by rw [prt_dozed, if_pos rfl]; rfl)

theorem lane_dozed (c : Cmd) (p k : ℕ) (s : State) : (dozed c p s).lane k = if k ∈ s.lanesOf p then dozedLane c (s.lane k) else s.lane k := by
  have lanes : (s.modPort p (dozedPort c)).lanesOf p = s.lanesOf p := lanesOf_congr (by rw [prt_modPort, if_pos rfl]; rfl)
  rw [dozed, lane_modLanes, lanes]
  rfl

theorem onPort_dozed (c : Cmd) (p : ℕ) (s : State) : OnPort p [.port] s (dozed c p s) := (onPort_modPort ..).trans (onPort_modLanes ..)

/-- RESUME clears DOZE_SUSPENDED on every lane of a port. -/
def resumed (c : Cmd) (p : ℕ) (s : State) : State := when (c.n 6 == 1) (fun s => clearSuspended (s.lanesOf p) s) s

theorem frame_resumed (c : Cmd) (p : ℕ) (s : State) : Frame [.regs] s (resumed c p s) := by
  unfold resumed when
  split
  · exact frame_clearSuspended ..
  · exact Frame.refl _ s

theorem regsBut_resumed (c : Cmd) (p : ℕ) (s : State) : RegsBut ((s.lanesOf p).map fun k => regAddr .laneIntStatus [k]) s (resumed c p s) := by
  unfold resumed when
  split
  · exact regsBut_clearSuspended _ s
  · exact RegsBut.refl _ s

theorem rg_resumed (c : Cmd) {p k : ℕ} {s : State} (hk : k ∈ s.lanesOf p) :
    (resumed c p s).rg .laneIntStatus [k] = if c.n 6 = 1 then s.rg .laneIntStatus [k] &&& ~~~64 else s.rg .laneIntStatus [k] := by
  unfold resumed when
  by_cases h : c.n 6 = 1
  · simp [h, rg_clearSuspended _ (nodup_lanesOf s p) s hk]
  · simp [h]

theorem frame_bumpEpoch (k d : ℕ) (s : State) : Frame [.epochs] s (bumpEpoch k d s) :=
  ⟨by simp, fun q hq => by cases q <;> simp_all [Part.same]⟩

theorem epoch_bumpEpoch_self (k d : ℕ) (s : State) : (bumpEpoch k d s).epoch k = (s.epoch k + 1) % 65536 := by
  simp [bumpEpoch, State.epoch]

theorem exec_laneDozeConfig (c : Cmd) (s : State) :
    exec (.laneDozeConfig c) s = commandRow (runCommand 0x0301 portDomain laneDozeConfigBody c) c s := rfl

/-- The operands of a LANE_DOZE_CONFIG are good (Table 13-7). -/
theorem laneDozeConfigBody_done {c : Cmd} {s : State} (hp : c.n 0 < 512) (hf : (s.prt (c.n 0)).formed = true) (h1 : c.n 1 ≤ 1)
    (h2 : c.n 2 = 0 ∨ c.n 2 = 1 ∧ c.n 1 = 0 ∧ lpiAvailable (s.prt (c.n 0)) = true) (h3 : c.n 3 ≤ 65535) (h4 : 100 ≤ c.n 4) (h45 : c.n 4 ≤ c.n 5)
    (h4m : c.n 4 % 10 = 0) (h5 : 200 ≤ c.n 5) (h5x : c.n 5 ≤ 12800) (h5m : c.n 5 % 10 = 0) (h6 : c.n 6 ≤ 1) :
    laneDozeConfigBody c s = .done [] (bumpEpoch (ekLane (c.n 0)) (domSerdes (c.n 0)) (resumed c (c.n 0) (dozed c (c.n 0) s))) := by
  have lpi : (decide (c.n 2 ≤ 1) && !(c.n 2 == 1 && (c.n 1 == 1 || !lpiAvailable (s.prt (c.n 0))))) = true := by
    rcases h2 with h | ⟨h, h', h''⟩ <;> simp [*]
  have guard : c.n 4 ≤ 12800 := h45.trans h5x
  have good : firstBad [(0, decide (c.n 0 < 512) && (s.prt (c.n 0)).formed), (1, decide (c.n 1 ≤ 1)),
      (2, decide (c.n 2 ≤ 1) && !(c.n 2 == 1 && (c.n 1 == 1 || !lpiAvailable (s.prt (c.n 0))))), (3, decide (c.n 3 ≤ 65535)),
      (4, decide (100 ≤ c.n 4) && decide (c.n 4 ≤ 12800) && c.n 4 % 10 == 0 && decide (c.n 4 ≤ c.n 5)),
      (5, decide (200 ≤ c.n 5) && decide (c.n 5 ≤ 12800) && c.n 5 % 10 == 0), (6, decide (c.n 6 ≤ 1))] = none := by
    rw [lpi]
    simp [firstBad, hp, hf, h1, h3, h4, guard, h4m, h45, h5, h5x, h5m, h6]
  simp only [laneDozeConfigBody, checked, good]
  rfl

theorem completes_laneDozeConfig {c : Cmd} {p : ℕ} {s : State} (hp : p < 512) (h : Taken 0x0301 portDomain c s) (h0 : c.n 0 = p)
    (hf : (s.prt p).formed = true) (hw : p + (s.prt p).lanes ≤ 512) (h1 : c.n 1 ≤ 1)
    (h2 : c.n 2 = 0 ∨ c.n 2 = 1 ∧ c.n 1 = 0 ∧ lpiAvailable (s.prt p) = true) (h3 : c.n 3 ≤ 65535) (h4 : 100 ≤ c.n 4) (h45 : c.n 4 ≤ c.n 5)
    (h4m : c.n 4 % 10 = 0) (h5 : 200 ≤ c.n 5) (h5x : c.n 5 ≤ 12800) (h5m : c.n 5 % 10 = 0) (h6 : c.n 6 ≤ 1) :
    Completes (.laneDozeConfig c) c s [] [.port, .epochs] ((s.lanesOf p).map fun k => regAddr .laneIntStatus [k]) fun t =>
      (∀ k ∈ s.lanesOf p, t.rg .laneIntStatus [k] =
        if c.n 6 = 1 then s.rg .laneIntStatus [k] &&& ~~~64 else s.rg .laneIntStatus [k]) ∧
      t.prt p = { s.prt p with schedDoze := c.n 1 == 1, lpiEn := c.n 2 == 1, linkDelay := c.n 3 }
      ∧ (∀ k, k ≠ p → t.prt k = s.prt k)
      ∧ (∀ k ∈ s.lanesOf p, (t.lane k).guard = c.n 4 ∧ (t.lane k).guardCeil = c.n 5
          ∧ (t.lane k).suspended = ((s.lane k).suspended && c.n 6 == 0)
          ∧ (t.lane k).missRun = if c.n 6 = 1 then 0 else (s.lane k).missRun)
      ∧ (∀ k, k ∉ s.lanesOf p → t.lane k = s.lane k) ∧ t.epoch (ekLane p) = (s.epoch (ekLane p) + 1) % 65536 := by
  have done := laneDozeConfigBody_done (c := c) (s := noteIntake c s) (by rwa [h0]) (by rwa [h0, note_prt]) h1 (by rwa [h0, note_prt])
    h3 h4 h45 h4m h5 h5x h5m h6
  rw [h0] at done
  have lanes : (dozed c p (noteIntake c s)).lanesOf p = s.lanesOf p := (lanesOf_dozed ..).trans (lanesOf_congr (by rw [note_prt]))
  have set := onPort_dozed c p (noteIntake c s)
  have prt := fun k => prt_dozed c p k (noteIntake c s)
  have lane := fun k => lane_dozed c p k (noteIntake c s)
  have mine : (noteIntake c s).lanesOf p = s.lanesOf p := lanesOf_congr (by rw [note_prt])
  have resume := frame_resumed c p (dozed c p (noteIntake c s))
  have cleared := regsBut_resumed c p (dozed c p (noteIntake c s))
  have status := fun k (hk : k ∈ s.lanesOf p) => rg_resumed c (s := dozed c p (noteIntake c s)) (p := p) (k := k) (by rwa [lanes])
  simp only [mine, note_lane, note_prt] at prt lane
  rw [lanes] at cleared
  have before : ∀ k, (dozed c p (noteIntake c s)).rg .laneIntStatus [k] = s.rg .laneIntStatus [k] := fun k => by
    rw [State.rg, State.rg, show (dozed c p (noteIntake c s)).regs = (noteIntake c s).regs from set.frame.2 .regs (by decide), noteIntake_regs]
  simp only [before] at status
  generalize dozed c p (noteIntake c s) = v at *
  generalize resumed c p v = w at *
  have bumped := frame_bumpEpoch (ekLane p) (domSerdes p) w
  have epoch := epoch_bumpEpoch_self (ekLane p) (domSerdes p) w
  have epochs : w.epoch (ekLane p) = s.epoch (ekLane p) := by
    rw [State.epoch, State.epoch, show w.epochs = v.epochs from resume.2 .epochs (by decide),
      show v.epochs = (noteIntake c s).epochs from set.frame.2 .epochs (by decide), noteIntake_epochs]
  generalize bumpEpoch (ekLane p) (domSerdes p) w = u at *
  have whole : Frame [.port, .regs, .epochs] (noteIntake c s) u :=
    Frame.trans (Frame.mono (by simp) set.frame) (Frame.trans (Frame.mono (by simp) resume) (Frame.mono (by simp) bumped))
  have port : u.port = v.port := Eq.trans (bumped.2 .port (by decide)) (resume.2 .port (by decide))
  have regs : u.regs = w.regs := bumped.2 .regs (by decide)
  have final : ({ sendReply c true .ok 0 [] (cntAccepted c u) with pending := s.pending, time := s.time } : State).port = v.port := by
    simp [cntAccepted, port]
  have answered : RegsBut (cmdRegs c) u { sendReply c true .ok 0 [] (cntAccepted c u) with pending := s.pending, time := s.time } :=
    RegsBut.trans (regsBut_bump _ _ _ _ (by simp [cmdRegs])) (RegsBut.trans (regsBut_sendReply _ _ _ _ _ _ (by simp [cmdRegs])) (RegsBut.of_eq rfl))
  refine completes_of_done (exec_laneDozeConfig c s) h done ?_ (fun q hq _ => whole.2 q (by simp_all)) ?_
    ⟨fun k hk => ?_, ?_, fun k hk => ?_, fun k hk => ?_, fun k hk => ?_, ?_⟩
  · rw [show u.mast = (noteIntake c s).mast from whole.2 .mast (by decide), noteIntake_mast]
    exact h.1.2
  · refine RegsBut.trans (RegsBut.of_eq (set.frame.2 .regs (by decide))) (RegsBut.trans (RegsBut.mono (fun a ha => List.mem_append_right _ ha) cleared) (RegsBut.of_eq regs))
  · have small : k < 512 := by
      have := (mem_lanesOf s p k).mp hk
      omega
    rw [answered .laneIntStatus [k] (laneIntStatus_notMem_cmdRegs small c), State.rg, regs]
    exact status k hk
  · rw [prt_congr final, prt, if_pos rfl]
    rfl
  · rw [prt_congr final, prt, if_neg hk]
  · rw [lane_congr final, lane, if_pos hk]
    exact ⟨rfl, rfl, rfl, rfl⟩
  · rw [lane_congr final, lane, if_neg hk]
  · have epochs' : ({ sendReply c true .ok 0 [] (cntAccepted c u) with pending := s.pending, time := s.time } : State).epochs = u.epochs := by
      simp [cntAccepted]
    rw [State.epoch, epochs']
    exact epoch.trans (by rw [epochs])

/-- Settles O11: PORT_ADMIN, LANE_DOZE_CONFIG, and each event of a lane and of a port have their lemmas above. -/
theorem portBringUp : Obligations.PortBringUp := by
  intro c n p s hn hp ok
  refine ⟨fun h h1 hs => answered_portAdmin_start h hp h1 hs, fun h h1 hs => answered_portAdmin_down h hp h1 hs,
    fun h h1 h2 hs => completes_portAdmin_set h hp h1 h2 hs, completes_laneDozeConfig hp, fun h => goes_laneSignalDetect h hn,
    fun h => goes_laneSignalLoss h hn, fun d h => goes_signalLossExpiry h hn hp, fun h => goes_cdrLock h hn, fun h => goes_cdrLockLoss h hn hp,
    fun x h => goes_alignLock h hn, fun x h => goes_alignLock_unseen h hn, fun x h => goes_alignLoss h hn hp, fun x h => goes_deskewLoss h hn hp,
    fun h => goes_hiSer h hp, fun i h => goes_bringup_deskew h hp, fun i h => goes_bringup_train h hp, fun i h => goes_bringup_link h hp,
    fun rx tx h ha => goes_dvarMeasured h hn ha rx tx⟩

end Sys2Proof.Machine
end

section
/-! ### Line coding (R76 to R79) -/

namespace Sys2Proof.Machine

/-! PAM4 levels and precoding (R76, R77). -/

theorem grayBits_grayLevel (a b : Bool) : grayBits (grayLevel a b) = [a, b] := by
  cases a <;> cases b <;> rfl

theorem toBits_toLevels (l : List Bool) (h : l.length % 2 = 0) : toBits (toLevels l) = l := by
  induction l using toLevels.induct with
  | case1 a b r ih =>
    have rest : toBits (toLevels r) = r := ih (by simp only [List.length_cons] at h; omega)
    rw [toBits] at rest ⊢
    rw [toLevels, List.flatMap_cons, grayBits_grayLevel, rest]
    rfl
  | case2 l hl =>
    match l, hl, h with
    | [], _, _ => rfl
    | [_], _, h => simp at h
    | a :: b :: r, hl, _ => exact absurd rfl (hl a b r)

theorem precode_cons {p : ℕ} (hp : p < 4) (g : ℕ) (r : List ℕ) :
    precode p (g :: r) = (g + 4 - p) % 4 :: precode ((g + 4 - p) % 4) r := by
  rw [precode, Nat.mod_eq_of_lt hp]

theorem deprecode_precode (p : ℕ) (l : List ℕ) (hp : p < 4) (hl : ∀ g ∈ l, g < 4) : deprecode p (precode p l) = l := by
  induction l generalizing p with
  | nil => rfl
  | cons g r ih =>
    obtain ⟨hg, hr⟩ := List.forall_mem_cons.mp hl
    have level : ((g + 4 - p) % 4 + p) % 4 = g := by omega
    rw [precode_cons hp, deprecode, level, ih _ (Nat.mod_lt _ (by decide)) hr]

/-! Numbers and their bits, most significant first. -/

@[simp] theorem length_msbBits (w n : ℕ) : (msbBits w n).length = w := by simp [msbBits]

theorem bitsNat_append (l : List Bool) (b : Bool) : bitsNat (l ++ [b]) = 2 * bitsNat l + b2n b := by simp [bitsNat]

theorem msbBits_succ (w n : ℕ) : msbBits (w + 1) n = msbBits w (n / 2) ++ [n.testBit 0] := by
  have shifted : ∀ i ∈ List.range w, n.testBit (w + 1 - 1 - i) = (n / 2).testBit (w - 1 - i) := fun i hi => by
    have below := List.mem_range.mp hi
    rw [← Nat.testBit_succ]
    congr 1
    omega
  rw [msbBits, List.range_succ, List.map_append, List.map_congr_left shifted]
  simp [msbBits]

theorem bitsNat_msbBits (w n : ℕ) : bitsNat (msbBits w n) = n % 2 ^ w := by
  induction w generalizing n with
  | zero => simp [msbBits, bitsNat, Nat.mod_one]
  | succ w ih =>
    have low : b2n (n.testBit 0) = n % 2 := by
      rw [Nat.testBit_zero, b2n]
      split <;> simp_all
    rw [msbBits_succ, bitsNat_append, ih, low, pow_succ, mul_comm (2 ^ w), Nat.mod_mul]
    omega

theorem reverse_map_testBit (w n : ℕ) : ((List.range w).map fun i => n.testBit i).reverse = msbBits w n := by
  apply List.ext_getElem
  · simp
  · intro i h1 h2
    simp [msbBits]

/-! The remainder of a polynomial (R78): linear, and the polynomial itself below the degree of the generator. -/

/-- One step adds the generator where the coefficient of x^11 is 1. -/
theorem hammingStep_eq {r : ℕ} (b : Bool) (hr : r < 2048) :
    hammingStep r b = Nat.bit b r ^^^ if (Nat.bit b r).testBit 11 then 2053 else 0 := by
  have shifted : 2 * r + b2n b = Nat.bit b r := by cases b <;> simp [Nat.bit, b2n]
  have top : (Nat.bit b r).testBit 11 = decide (2048 ≤ Nat.bit b r) := by
    have below : Nat.bit b r < 4096 := by cases b <;> simp [Nat.bit] <;> omega
    rw [Nat.testBit_eq_decide_div_mod_eq]
    congr 1
    simp only [eq_iff_iff]
    omega
  simp only [hammingStep, shifted, top, decide_eq_true_eq]
  split <;> simp

theorem hammingStep_lt {r : ℕ} (b : Bool) (hr : r < 2048) : hammingStep r b < 2048 := by
  have below : Nat.bit b r < 2 ^ 12 := by cases b <;> simp [Nat.bit] <;> omega
  rw [hammingStep_eq b hr]
  refine Nat.lt_pow_two_of_testBit (n := 11) _ fun i hi => ?_
  rw [Nat.testBit_xor]
  rcases Nat.eq_or_lt_of_le hi with rfl | hi
  · split <;> simp_all
    decide
  · have high : (Nat.bit b r).testBit i = false := Nat.testBit_lt_two_pow (lt_of_lt_of_le below (Nat.pow_le_pow_right (by decide) hi))
    have generator : (2053 : ℕ).testBit i = false := Nat.testBit_lt_two_pow (lt_of_lt_of_le (by decide : 2053 < 2 ^ 12) (Nat.pow_le_pow_right (by decide) hi))
    split <;> simp [high, generator]

theorem hammingStep_xor {r y : ℕ} (b c : Bool) (hr : r < 2048) (hy : y < 2048) :
    hammingStep (r ^^^ y) (b ^^ c) = hammingStep r b ^^^ hammingStep y c := by
  have sum : Nat.bit (b ^^ c) (r ^^^ y) = Nat.bit b r ^^^ Nat.bit c y := (Nat.xor_bit ..).symm
  rw [hammingStep_eq _ (Nat.xor_lt_two_pow (n := 11) hr hy), hammingStep_eq b hr, hammingStep_eq c hy, sum, Nat.testBit_xor]
  generalize Nat.bit b r = u, Nat.bit c y = v
  cases u.testBit 11 <;> cases v.testBit 11 <;> simp [Nat.xor_assoc, Nat.xor_left_comm, Nat.xor_comm]

theorem foldl_hammingStep_lt (l : List Bool) {r : ℕ} (hr : r < 2048) : l.foldl hammingStep r < 2048 := by
  induction l generalizing r with
  | nil => exact hr
  | cons b l ih => exact ih (hammingStep_lt b hr)

/-- What is added to the remainder on the way goes through the rest of the division on its own. -/
theorem foldl_hammingStep_xor (l : List Bool) {r y : ℕ} (hr : r < 2048) (hy : y < 2048) :
    l.foldl hammingStep (r ^^^ y) = l.foldl hammingStep r ^^^ (List.replicate l.length false).foldl hammingStep y := by
  induction l generalizing r y with
  | nil => rfl
  | cons b l ih =>
    have step : hammingStep (r ^^^ y) b = hammingStep r b ^^^ hammingStep y false := by
      simpa using hammingStep_xor b false hr hy
    simp only [List.foldl_cons, List.length_cons, List.replicate_succ, step]
    exact ih (hammingStep_lt b hr) (hammingStep_lt false hy)

theorem foldl_hammingStep (l : List Bool) {y : ℕ} (hy : y < 2048) :
    l.foldl hammingStep y = hammingRem l ^^^ (List.replicate l.length false).foldl hammingStep y := by
  have := foldl_hammingStep_xor l (r := 0) (by decide) hy
  rwa [Nat.zero_xor] at this

/-- As long as the degree stays below 11 the division takes nothing away. -/
theorem foldl_hammingStep_short (l : List Bool) {r : ℕ} (h : (r + 1) * 2 ^ l.length ≤ 2048) :
    l.foldl hammingStep r = l.foldl (fun n b => 2 * n + b2n b) r := by
  induction l generalizing r with
  | nil => rfl
  | cons b l ih =>
    have bit : b2n b ≤ 1 := by cases b <;> decide
    have next : (2 * r + b2n b + 1) * 2 ^ l.length ≤ 2048 := by
      refine le_trans (Nat.mul_le_mul_right _ (show 2 * r + b2n b + 1 ≤ (r + 1) * 2 by omega)) ?_
      rwa [mul_assoc, ← pow_succ']
    have small : 2 * r + b2n b < 2048 := lt_of_lt_of_le (Nat.lt_succ_self _) (le_trans (Nat.le_mul_of_pos_right _ (by positivity)) next)
    rw [List.foldl_cons, List.foldl_cons, hammingStep, if_neg (by omega)]
    exact ih next

theorem hammingRem_msbBits {v : ℕ} (hv : v < 2048) : hammingRem (msbBits 11 v) = v := by
  rw [hammingRem, foldl_hammingStep_short _ (by simp)]
  exact (bitsNat_msbBits 11 v).trans (Nat.mod_eq_of_lt hv)

/-! Segments (R78). -/

@[simp] theorem length_segment (d : List Bool) : (segment d).length = d.length + 11 := by simp [segment]

/-- A segment is a multiple of the generator. -/
theorem hammingRem_segment (d : List Bool) : hammingRem (segment d) = 0 := by
  have data : hammingRem d < 2048 := foldl_hammingStep_lt d (by decide)
  have parity : hammingRem (d ++ List.replicate 11 false) < 2048 := foldl_hammingStep_lt _ (by decide)
  have padded : hammingRem (d ++ List.replicate 11 false) = (List.replicate 11 false).foldl hammingStep (hammingRem d) := List.foldl_append
  calc hammingRem (segment d) = (msbBits 11 (hammingRem (d ++ List.replicate 11 false))).foldl hammingStep (hammingRem d) := List.foldl_append
    _ = hammingRem (d ++ List.replicate 11 false) ^^^ (List.replicate 11 false).foldl hammingStep (hammingRem d) := by
      rw [foldl_hammingStep _ data, hammingRem_msbBits parity, length_msbBits]
    _ = 0 := by rw [padded, Nat.xor_self]

/-- A flipped bit adds the remainder of its power of x. -/
theorem hammingRem_flip (w : List Bool) {i : ℕ} (hi : i < w.length) :
    hammingRem (w.set i !(w.getD i false)) = hammingRem w ^^^ hammingPow (w.length - 1 - i) := by
  have head : (w.take i).foldl hammingStep 0 < 2048 := foldl_hammingStep_lt _ (by decide)
  have here : w.getD i false = w[i] := by simp [hi]
  have step : hammingStep ((w.take i).foldl hammingStep 0) (!w[i]) = hammingStep ((w.take i).foldl hammingStep 0) w[i] ^^^ 1 := by
    simpa [hammingStep, b2n] using hammingStep_xor (y := 0) w[i] true head (by decide)
  have rest : (w.drop (i + 1)).length = w.length - 1 - i := by simp; omega
  rw [here, List.set_eq_take_append_cons_drop, if_pos hi, hammingRem, List.foldl_append, List.foldl_cons, step,
    foldl_hammingStep_xor _ (hammingStep_lt _ head) (by decide), rest]
  congr 1
  conv_rhs => rw [hammingRem, ← List.take_append_drop i w, List.drop_eq_getElem_cons hi, List.foldl_append, List.foldl_cons]

/-! The powers of x: no two of the first 181 have the same remainder. -/

theorem hammingPow_succ (n : ℕ) : hammingPow (n + 1) = hammingStep (hammingPow n) false := by
  rw [hammingPow, List.replicate_succ', ← List.cons_append, hammingRem, List.foldl_append]
  rfl

/-- Multiplication by x can be undone: the generator's constant coefficient is 1. -/
theorem hammingStep_false_inj {r y : ℕ} (h : hammingStep r false = hammingStep y false) : r = y := by
  have odd : ∀ z : ℕ, (2 * z ^^^ 2053) % 2 = 1 := fun z => by simp [Nat.xor_mod_two_eq]
  have hr := odd r
  have hy := odd y
  simp only [hammingStep, b2n, Bool.false_eq_true, if_false, Nat.add_zero] at h
  split at h <;> split at h
  · have := Nat.xor_left_injective h
    omega
  all_goals omega

theorem hammingPow_add_inj {a b : ℕ} (k : ℕ) (h : hammingPow (a + k) = hammingPow (b + k)) : hammingPow a = hammingPow b := by
  induction k with
  | zero => exact h
  | succ k ih => exact ih (hammingStep_false_inj (by rwa [← hammingPow_succ, ← hammingPow_succ]))

theorem hammingPow_ne_zero (n : ℕ) : hammingPow n ≠ 0 := by
  induction n with
  | zero => decide
  | succ n ih =>
    rw [hammingPow_succ]
    exact fun h => ih (hammingStep_false_inj (y := 0) h)

/-- The order of x is above 180. -/
theorem hammingPow_ne_one : ∀ n < 180, hammingPow (n + 1) ≠ 1 := by
  decide +kernel

theorem hammingPow_inj_of_lt {m n : ℕ} (hn : n < 181) (h : m < n) : hammingPow m ≠ hammingPow n := fun he => by
  have one : hammingPow (0 + m) = hammingPow ((n - m) + m) := by rw [Nat.zero_add, Nat.sub_add_cancel h.le, he]
  have power := hammingPow_add_inj m one
  refine hammingPow_ne_one (n - m - 1) (by omega) ?_
  rw [show n - m - 1 + 1 = n - m by omega, ← power]
  rfl

/-- Each of the 181 places of a segment has a syndrome of its own, and none has syndrome 0. -/
theorem hammingPow_places {i : ℕ} (hi : i < 181) :
    hammingPow (180 - i) ≠ 0 ∧ ∀ j < 181, hammingPow (180 - j) = hammingPow (180 - i) → j = i := by
  refine ⟨hammingPow_ne_zero _, fun j hj h => ?_⟩
  rcases Nat.lt_trichotomy (180 - j) (180 - i) with lt | eq | gt
  · exact absurd h (hammingPow_inj_of_lt (by omega) lt)
  · omega
  · exact absurd h.symm (hammingPow_inj_of_lt (by omega) gt)

theorem take_segment {d : List Bool} (h : d.length = 170) : (segment d).take 170 = d := by rw [segment, List.take_left' h]

theorem fixSegment_segment {d : List Bool} (h : d.length = 170) : fixSegment (segment d) = d := by
  simp only [fixSegment, hammingRem_segment, if_true, take_segment h]

/-- A bit that flips twice is as it was. -/
theorem flip_flip (w : List Bool) {i : ℕ} (hi : i < w.length) :
    (w.set i !(w.getD i false)).set i (!((w.set i !(w.getD i false)).getD i false)) = w := by
  simp [hi]

/-- The receiver corrects a segment of which one bit has flipped. -/
theorem fixSegment_flip {d : List Bool} (h : d.length = 170) {i : ℕ} (hi : i < 181) :
    fixSegment ((segment d).set i !((segment d).getD i false)) = d := by
  have len : (segment d).length = 181 := by simp [h]
  obtain ⟨nonzero, alone⟩ := hammingPow_places hi
  have syndrome : hammingRem ((segment d).set i !((segment d).getD i false)) = hammingPow (180 - i) := by
    rw [hammingRem_flip _ (len ▸ hi), hammingRem_segment, Nat.zero_xor, len]
  have found : (List.range 181).find? (fun j => hammingPow (180 - j) == hammingPow (180 - i)) = some i := by
    have fits : ((List.range 181).find? fun j => hammingPow (180 - j) == hammingPow (180 - i)).isSome :=
      List.find?_isSome.mpr ⟨i, List.mem_range.mpr hi, beq_self_eq_true _⟩
    obtain ⟨j, hj⟩ := Option.isSome_iff_exists.mp fits
    rw [hj, alone j (List.mem_range.mp (List.mem_of_find?_eq_some hj)) (by simpa using List.find?_some hj)]
  unfold fixSegment
  simp only [syndrome, if_neg nonzero, found, flip_flip _ (len ▸ hi), take_segment h]

/-! Blocks (R78). -/

theorem length_of_mem_pieces {α : Type} {k : ℕ} : ∀ {n : ℕ} {l : List α}, l.length = n * k → ∀ x ∈ pieces k n l, x.length = k
  | 0, _, _, x, hx => by simp [pieces] at hx
  | n + 1, l, h, x, hx => by
    have len : l.length = n * k + k := by rw [h, Nat.succ_mul]
    rcases List.mem_cons.mp hx with rfl | hx
    · simp [len]
    · exact length_of_mem_pieces (by simp [len]) x hx

theorem length_pieces {α : Type} (k n : ℕ) (l : List α) : (pieces k n l).length = n := by
  induction n generalizing l with
  | zero => rfl
  | succ n ih => simp [pieces, ih]

theorem flatten_pieces {α : Type} {k n : ℕ} {l : List α} (h : l.length = n * k) : (pieces k n l).flatten = l := by
  induction n generalizing l with
  | zero => simpa [pieces, eq_comm] using h
  | succ n ih =>
    have rest : (l.drop k).length = n * k := by simp [h, Nat.succ_mul]
    rw [pieces, List.flatten_cons, ih rest, List.take_append_drop]

/-- Pieces of one length that follow one another are cut where they were joined. -/
theorem pieces_flatten {α : Type} (k : ℕ) (ls : List (List α)) (h : ∀ x ∈ ls, x.length = k) : pieces k ls.length ls.flatten = ls := by
  induction ls with
  | nil => rfl
  | cons x ls ih =>
    obtain ⟨hx, hls⟩ := List.forall_mem_cons.mp h
    rw [List.length_cons, pieces, List.flatten_cons, List.take_left' hx, List.drop_left' hx, ih hls]

section
variable {cw : List Bool} (h : cw.length = 5440)
include h

theorem length_of_mem_segments : ∀ x ∈ (pieces 170 32 cw).map segment, x.length = 181 := fun x hx => by
  obtain ⟨d, hd, rfl⟩ := List.mem_map.mp hx
  rw [length_segment, length_of_mem_pieces (by rw [h]) d hd]

theorem length_topsailBlock (n : ℕ) : (topsailBlock n cw).length = 5808 := by
  have segments := List.map_congr_left (g := fun _ => 181) (length_of_mem_segments h)
  rw [topsailBlock, List.length_append, length_msbBits, List.flatMap_def, List.length_flatten, segments, List.map_const', List.length_map,
    length_pieces, List.sum_replicate]
  rfl

/-- The receiver takes the codeword of a block out again. -/
theorem blockCodeword_topsailBlock (n : ℕ) : blockCodeword (topsailBlock n cw) = cw := by
  have data := length_of_mem_pieces (k := 170) (n := 32) (l := cw) (by rw [h])
  have cut := pieces_flatten 181 _ (length_of_mem_segments h)
  rw [List.length_map, length_pieces, ← List.flatMap_def] at cut
  have fixed : ((pieces 170 32 cw).map segment).map fixSegment = pieces 170 32 cw := by
    rw [List.map_map, List.map_congr_left (f := fixSegment ∘ segment) (g := id) fun d hd => fixSegment_segment (data d hd), List.map_id]
  rw [blockCodeword, topsailBlock, List.drop_left' (length_msbBits ..), cut, List.flatMap_def, fixed, flatten_pieces (by rw [h])]

end

theorem take_topsailBlock (n : ℕ) (cw : List Bool) : (topsailBlock n cw).take 16 = msbBits 16 (if n % 2 = 0 then 0x3C5A else 0xC3A5) := by
  rw [topsailBlock, List.take_left' (length_msbBits ..), blockMarker]

/-! Alignment markers (R79). -/

/-- PATTERN stands in bits 1 to 48 of a marker, and bit 0 is 0 (Table 4-2). -/
theorem isMarker_alignmentMarker (pos width count : ℕ) : isMarker (alignmentMarker pos width count) = true := by
  generalize hw : amPattern * 2 + pos % 8 * 2 ^ 49 + Nat.log2 width % 4 * 2 ^ 52 + count % 256 * 2 ^ 54 = w
  have bits : alignmentMarker pos width count = (List.range 257).map fun i => w.testBit i := by rw [alignmentMarker, hw]
  have first : ((List.range 257).map fun i => w.testBit i).headD true = false := by
    have even : w % 2 = 0 := by omega
    rw [List.range_succ_eq_map, List.map_cons, List.headD_cons, Nat.testBit_zero, even]
    rfl
  have pattern : (((List.range 257).map fun i => w.testBit i).drop 1).take 48 = (List.range 48).map fun i => (w / 2).testBit i := by
    apply List.ext_getElem
    · simp
    · intro i h1 h2
      simp [Nat.testBit_succ]
  have value : w / 2 % 2 ^ 48 = amPattern := by
    rw [amPattern] at hw ⊢
    omega
  rw [isMarker, bits, first, pattern, reverse_map_testBit, bitsNat_msbBits, value]
  rfl

/-- Settles O58: the receiver's functions undo the sender's, and one flipped bit of a segment has a syndrome of its own. -/
theorem lineCoding : Obligations.LineCoding :=
  ⟨⟨rfl, rfl, rfl, rfl⟩, toBits_toLevels, fun _ g r hp _ => precode_cons hp g r, deprecode_precode,
    fun d h => ⟨by rw [length_segment, h], fixSegment_segment h, fun _ hi => fixSegment_flip h hi⟩,
    fun n cw h => ⟨length_topsailBlock h n, blockCodeword_topsailBlock h n, take_topsailBlock n cw⟩,
    fun pos width count => ⟨by simp [alignmentMarker], isMarker_alignmentMarker pos width count⟩⟩

end Sys2Proof.Machine
end

section
/-! ### Operations on one lane (R97 to R103) -/

namespace Sys2Proof.Machine

/-- A port has no lane below its own number. -/
theorem portOf_le {s : State} {n p : ℕ} (h : s.portOf n = some p) : p ≤ n := by
  obtain ⟨w, _, hw⟩ := List.exists_of_findSome?_eq_some h
  simp only [Option.ite_none_right_eq_some, Option.some.injEq] at hw
  obtain ⟨_, rfl⟩ := hw
  exact Nat.div_mul_le_self ..

/-- What an operation on lane n comes to: it leaves the lane as v, the other lanes and the ports as before, and it may send and count. -/
structure OnLane (n : ℕ) (v : Lane) (s t : State) : Prop where
  frame : Frame [.port, .out, .regs] s t
  lane : t.lane n = v
  others : ∀ k, k ≠ n → t.lane k = s.lane k
  ports : t.port.ports = s.port.ports

section
variable {n : ℕ} {v w : Lane} {s t u : State}

theorem OnLane.trans (f : OnLane n v s t) (g : OnLane n w t u) : OnLane n w s u :=
  ⟨Frame.trans f.frame g.frame, g.lane, fun k hk => (g.others k hk).trans (f.others k hk), g.ports.trans f.ports⟩

theorem OnLane.prt (h : OnLane n v s t) (k : ℕ) : t.prt k = s.prt k := by rw [State.prt, State.prt, h.ports]

theorem OnLane.mast (h : OnLane n v s t) : t.mast = s.mast := h.frame.2 .mast (by decide)

/-- What an operation leaves of the ports and lanes alone. -/
theorem OnLane.only (h : OnLane n v s t) : t.lane n = v ∧ (∀ k, k ≠ n → t.lane k = s.lane k) ∧ t.port.ports = s.port.ports :=
  ⟨h.lane, h.others, h.ports⟩

theorem onLane_setLane (n : ℕ) (v : Lane) (s : State) : OnLane n v s (s.setLane n v) :=
  ⟨Frame.mono (by simp) (steady_setLane n v s).frame, lane_setLane_self .., fun _ hk => lane_setLane_ne s v hk, rfl⟩

/-- What touches no lane leaves lane n as it was. -/
theorem onLane_of_steady (n : ℕ) (h : Steady [.out, .regs] s t) : OnLane n (s.lane n) s t :=
  have port : t.port = s.port := h.frame.2 .port (by decide)
  ⟨Frame.mono (by simp) h.frame, lane_congr port n, fun k _ => lane_congr port k, congrArg Ports.ports port⟩

end

/-- A row that changes one lane alone. -/
theorem goes_of_setLane {i : Instr} {n : ℕ} {v : Lane} {s : State} (hx : exec i s = keep s (s.setLane n v)) (h : Live s) :
    Goes i s [.port] fun t => t.lane n = v ∧ (∀ k, k ≠ n → t.lane k = s.lane k) ∧ t.port.ports = s.port.ports :=
  goes_of_keep hx h (steady_setLane ..) (onLane_setLane n v s).only

/-- A row that changes one lane, and may send and count. -/
theorem goes_of_onLane {i : Instr} {n : ℕ} {v : Lane} {s t : State} {P : State → Prop} (hx : exec i s = keep s t) (h : Live s)
    (on : OnLane n v s t) (hP : P t) : Goes i s [.port, .out, .regs] P :=
  goes_of_running hx h on.frame (by rw [on.mast]) hP

theorem goes_unchanged {i : Instr} {s : State} (hx : exec i s = keep s s) (h : Live s) : Goes i s [] fun _ => True :=
  goes_of_keep hx h (Steady.refl _ s) trivial

/-! Counting in LANE_DOZE_CNT, with the lane's interrupt. -/

theorem regAddr_laneDozeCnt (n : ℕ) : regAddr .laneDozeCnt [n] = 0x50020 + n * 0x40 := regAddr_one rfl rfl n

/-- An event of a doze is counted in a field of LANE_DOZE_CNT, and an interrupt of the lane raised. -/
def dozeNote (n hi lo bit : ℕ) (s : State) : State := raiseInt 10 .laneIntStatus [n] bit (s.bump .laneDozeCnt [n] hi lo)

theorem steady_dozeNote (n hi lo bit : ℕ) (s : State) : Steady [.out, .regs] s (dozeNote n hi lo bit s) :=
  ((steady_bump ..).mono (by decide)).trans (steady_raiseInt ..)

theorem dozeNote_count {n hi lo : ℕ} (bit : ℕ) (s : State) (hl : lo ≤ hi) (hh : hi < 64) :
    (dozeNote n hi lo bit s).rgf .laneDozeCnt [n] hi lo = satAdd (hi + 1 - lo) (s.rgf .laneDozeCnt [n] hi lo) 1 := by
  have signals := intSignalCnt_lt
  refine (RegsBut.rgf (regsBut_raised 10 .laneIntStatus [n] bit _) ?_ hi lo).trans (rgf_bump_self s _ _ 1 hl hh)
  simp only [List.mem_cons, List.not_mem_nil, or_false, not_or, regAddr_laneDozeCnt, regAddr_laneIntStatus]
  omega

theorem dozeNote_status (n hi lo bit : ℕ) (s : State) :
    (dozeNote n hi lo bit s).rg .laneIntStatus [n] = s.rg .laneIntStatus [n] ||| BitVec.ofNat 64 (2 ^ bit) := by
  rw [dozeNote, rg_raiseInt_self _ _ _ (laneIntStatus_ne_signalCnt n)]
  congr 1
  refine rg_setRg_ne s _ ?_
  rw [regAddr_laneDozeCnt, regAddr_laneIntStatus]
  omega

/-- A lane with its guard widened (R102). -/
def Lane.widened (l : Lane) : Lane := { l with guard := max l.guard (min l.guardCeil (2 * l.guard)) }

theorem onLane_widenGuard (n : ℕ) (s : State) : OnLane n (s.lane n).widened s (widenGuard n s) := onLane_setLane ..

/-! ### The transmitter of a lane sleeps and wakes (R98, R99) -/

section
variable {n p : ℕ} {s : State} (h : Live s) (hn : n < 512)
include h hn

theorem goes_laneDozeEntered (hd : (s.lane n).txDoze = 1) (ht : (s.lane n).txSleepDue ≤ s.mast.tick) :
    Goes (.laneDozeEntered n) s [.port] fun t => t.lane n = { s.lane n with txDoze := 2, txDozeTick := s.mast.tick }
      ∧ (∀ k, k ≠ n → t.lane k = s.lane k) ∧ t.port.ports = s.port.ports := by
  refine goes_of_setLane ?_ h
  change execLaneDozeEntered n s = _
  rw [execLaneDozeEntered, Nat.mod_eq_of_lt hn, dozeEntered, if_pos ⟨hd, ht⟩]
  rfl

theorem goes_wakeInstant (hd : (s.lane n).txDoze = 3) (hs : (s.lane n).seqTx = none)
    (ht : (s.lane n).wakeTx + nsTicks ((s.lane n).wakeG + 100) ≤ s.mast.tick) (hb : bursting (s.lane n) s = false) :
    Goes (.wakeInstant n) s [.port] fun t => t.lane n = { s.lane n with seqTx := some s.mast.tick, burstUntil := none }
      ∧ (∀ k, k ≠ n → t.lane k = s.lane k) ∧ t.port.ports = s.port.ports := by
  refine goes_of_setLane ?_ h
  change execWakeInstant n s = _
  rw [execWakeInstant, Nat.mod_eq_of_lt hn, wakeInstant]
  exact congrArg (keep s) (if_pos ⟨hd, hs, ht, by rw [hb]; rfl⟩)

theorem goes_wakeInstant_bursting (hb : bursting (s.lane n) s = true) : Goes (.wakeInstant n) s [] fun _ => True := by
  refine goes_unchanged ?_ h
  change execWakeInstant n s = _
  rw [execWakeInstant, Nat.mod_eq_of_lt hn, wakeInstant]
  simp only [hb, Bool.not_true, Bool.false_eq_true, and_false, if_false]

end

/-! ### WAKE_REQ and the suspended doze (R100 to R102) -/

/-- A lane whose receiver has sent WAKE_REQ: as a frame where the paired transmitter is AWAKE, else as a burst. -/
def Lane.requested (now : ℕ) (l : Lane) : Lane := { l with burstUntil := if l.txDoze = 0 then l.burstUntil else some (now + nsTicks 200) }

theorem onLane_sendLink (n p : ℕ) (b : List Byte) (s : State) : OnLane n (s.lane n) s (sendLink p b s) :=
  onLane_of_steady n ((steady_linkMsgs _ s).mono (by decide))

theorem onLane_sendWakeReq (n p : ℕ) (s : State) : OnLane n ((s.lane n).requested s.mast.tick) s (sendWakeReq n p s) := by
  unfold sendWakeReq Lane.requested
  split
  · exact onLane_sendLink ..
  · have sent := fun v => onLane_sendLink n p [] (s.setLane n v)
    simp only [lane_setLane_self] at sent
    exact (onLane_setLane ..).trans (sent _)

theorem sendWakeReq_regs (n p : ℕ) (s : State) : (sendWakeReq n p s).regs = s.regs := by
  unfold sendWakeReq
  split <;> rfl

/-- A lane whose doze is suspended: its transmitter, where it sleeps, wakes (R102). -/
def Lane.kept (now : ℕ) (l : Lane) : Lane :=
  if l.txDoze = 1 ∨ l.txDoze = 2 then { l with suspended := true, txDoze := 3, wakeTx := now, wakeG := l.guard, seqTx := none }
  else { l with suspended := true }

theorem Lane.kept_facts (now : ℕ) (l : Lane) :
    (l.kept now).suspended = true ∧ (l.kept now).rxDoze = l.rxDoze ∧ (l.kept now).missRun = l.missRun ∧ (l.kept now).guard = l.guard
    ∧ if l.txDoze = 1 ∨ l.txDoze = 2 then (l.kept now).txDoze = 3 ∧ (l.kept now).wakeTx = now else (l.kept now).txDoze = l.txDoze := by
  by_cases hs : l.txDoze = 1 ∨ l.txDoze = 2 <;> simp only [Lane.kept, hs, if_true, if_false, and_self]

theorem onLane_suspendDoze (n : ℕ) (s : State) : OnLane n ((s.lane n).kept s.mast.tick) s (suspendDoze n s) := by
  have raised := onLane_of_steady n (steady_raiseInt 10 .laneIntStatus [n] 6 (s.setLane n ((s.lane n).kept s.mast.tick)))
  rw [lane_setLane_self] at raised
  exact (onLane_setLane ..).trans raised

theorem suspendDoze_status (n : ℕ) (s : State) : (suspendDoze n s).rg .laneIntStatus [n] = s.rg .laneIntStatus [n] ||| 64 :=
  rg_raiseInt_self 10 6 _ (laneIntStatus_ne_signalCnt n)

/-! ### A missed wake (R100, R102) -/

/-- The run of misses at the ceiling of the guard after one more miss. -/
def Lane.nextRun (l : Lane) : ℕ := if l.guardCeil ≤ l.guard then l.missRun + 1 else 0

theorem sixteen_le_nextRun (l : Lane) : 16 ≤ l.nextRun ↔ l.guardCeil ≤ l.guard ∧ 15 ≤ l.missRun := by
  unfold Lane.nextRun
  split <;> omega

/-- A lane that has missed its wake. -/
def Lane.missed (l : Lane) : Lane := { l with rxDoze := 4, uncal := true, missRun := l.nextRun, seqRx := none }

/-- A lane whose listening window has opened (R100). -/
def Lane.listening (l : Lane) : Lane := { l with window := 1 }

/-- The miss is counted, the guard widened and WAKE_REQ sent. -/
def askWake (n p : ℕ) (s : State) : State :=
  sendWakeReq n p (widenGuard n (dozeNote n 63 48 3 (s.setLane n (s.lane n).missed)))

theorem wakeMiss_eq (n p : ℕ) (s : State) : wakeMiss n p s = if 16 ≤ (s.lane n).nextRun then suspendDoze n (askWake n p s) else askWake n p s := rfl

theorem onLane_askWake (n p : ℕ) (s : State) : OnLane n ((s.lane n).missed.widened.requested s.mast.tick) s (askWake n p s) := by
  have noted := (onLane_setLane n (s.lane n).missed s).trans (onLane_of_steady n (steady_dozeNote n 63 48 3 _))
  rw [lane_setLane_self] at noted
  have widened := noted.trans (onLane_widenGuard n _)
  rw [noted.lane] at widened
  have asked := widened.trans (onLane_sendWakeReq n p _)
  rwa [widened.lane, widened.mast] at asked

theorem askWake_regs (n p : ℕ) (s : State) : (askWake n p s).regs = (dozeNote n 63 48 3 (s.setLane n (s.lane n).missed)).regs := sendWakeReq_regs ..

theorem askWake_count (n p : ℕ) (s : State) :
    (askWake n p s).rgf .laneDozeCnt [n] 63 48 = satAdd 16 (s.rgf .laneDozeCnt [n] 63 48) 1 := by
  rw [State.rgf, State.rg, askWake_regs]
  exact dozeNote_count 3 _ (by decide) (by decide)

theorem askWake_status (n p : ℕ) (s : State) : (askWake n p s).rg .laneIntStatus [n] = s.rg .laneIntStatus [n] ||| 8 := by
  rw [State.rg, askWake_regs]
  exact dozeNote_status n 63 48 3 _

section
variable {n p : ℕ} {s : State} (h : Live s) (hn : n < 512) (ho : s.portOf n = some p) (hd : (s.lane n).rxDoze = 3)

theorem exec_wakeWindowOpen (hn : n < 512) (active : Bool) (s : State) : exec (.wakeWindowOpen n active) s = keep s (windowOpen n active s) := by
  change execWakeWindowOpen n active s = _
  rw [execWakeWindowOpen, Nat.mod_eq_of_lt hn]

include hn ho hd

/-- An active line at the opening of the window is a missed wake. -/
theorem exec_wakeWindowOpen_active (hw : (s.lane n).window = 0) (ht : windowOpenTick (s.prt p) (s.lane n) ≤ s.mast.tick) :
    exec (.wakeWindowOpen n true) s = keep s (wakeMiss n p (s.setLane n (s.lane n).listening)) := by
  simp only [exec_wakeWindowOpen hn, windowOpen, ho]
  exact congrArg (keep s) (if_pos ⟨hd, hw, ht⟩)

include h

theorem goes_wakeWindowOpen_silent (hw : (s.lane n).window = 0) (ht : windowOpenTick (s.prt p) (s.lane n) ≤ s.mast.tick) :
    Goes (.wakeWindowOpen n false) s [.port] fun t => t.lane n = (s.lane n).listening
      ∧ (∀ k, k ≠ n → t.lane k = s.lane k) ∧ t.port.ports = s.port.ports := by
  refine goes_of_setLane ?_ h
  simp only [exec_wakeWindowOpen hn, windowOpen, ho]
  exact congrArg (keep s) (if_pos ⟨hd, hw, ht⟩)

theorem goes_wakeWindowOpen_miss (hw : (s.lane n).window = 0) (ht : windowOpenTick (s.prt p) (s.lane n) ≤ s.mast.tick)
    (hr : ¬((s.lane n).guardCeil ≤ (s.lane n).guard ∧ 15 ≤ (s.lane n).missRun)) :
    Goes (.wakeWindowOpen n true) s [.port, .out, .regs] fun t =>
      (t.lane n = { s.lane n with
        window := 1, rxDoze := 4, uncal := true
        missRun := if (s.lane n).guardCeil ≤ (s.lane n).guard then (s.lane n).missRun + 1 else 0, seqRx := none
        guard := max (s.lane n).guard (min (s.lane n).guardCeil (2 * (s.lane n).guard))
        burstUntil := if (s.lane n).txDoze = 0 then (s.lane n).burstUntil else some (s.mast.tick + nsTicks 200) }
        ∧ (∀ k, k ≠ n → t.lane k = s.lane k) ∧ t.port.ports = s.port.ports)
      ∧ t.rgf .laneDozeCnt [n] 63 48 = satAdd 16 (s.rgf .laneDozeCnt [n] 63 48) 1
      ∧ t.rg .laneIntStatus [n] = s.rg .laneIntStatus [n] ||| 8 := by
  have run := exec_wakeWindowOpen_active hn ho hd hw ht
  have opened := onLane_setLane n (s.lane n).listening s
  have asked := opened.trans (onLane_askWake n p _)
  rw [wakeMiss_eq, opened.lane, if_neg (mt (sixteen_le_nextRun (s.lane n).listening).mp hr)] at run
  rw [opened.lane, opened.mast] at asked
  exact goes_of_onLane run h asked ⟨asked.only, askWake_count .., askWake_status ..⟩

/-- The 16th miss in a row at the ceiling of the guard suspends the doze. -/
theorem goes_wakeWindowOpen_suspend (hw : (s.lane n).window = 0) (ht : windowOpenTick (s.prt p) (s.lane n) ≤ s.mast.tick)
    (hc : (s.lane n).guardCeil ≤ (s.lane n).guard) (hr : 15 ≤ (s.lane n).missRun) :
    Goes (.wakeWindowOpen n true) s [.port, .out, .regs] fun t =>
      (t.lane n).suspended = true ∧ (t.lane n).rxDoze = 4 ∧ (t.lane n).missRun = (s.lane n).missRun + 1 ∧ (t.lane n).guard = (s.lane n).guard
      ∧ (if (s.lane n).txDoze = 1 ∨ (s.lane n).txDoze = 2 then (t.lane n).txDoze = 3 ∧ (t.lane n).wakeTx = s.mast.tick
        else (t.lane n).txDoze = (s.lane n).txDoze)
      ∧ t.rg .laneIntStatus [n] = s.rg .laneIntStatus [n] ||| 8 ||| 64 ∧ ∀ k, k ≠ n → t.lane k = s.lane k := by
  have run := exec_wakeWindowOpen_active hn ho hd hw ht
  have opened := onLane_setLane n (s.lane n).listening s
  have asked := opened.trans (onLane_askWake n p _)
  rw [wakeMiss_eq, opened.lane, if_pos ((sixteen_le_nextRun (s.lane n).listening).mpr ⟨hc, hr⟩)] at run
  rw [opened.lane, opened.mast] at asked
  have suspended := asked.trans (onLane_suspendDoze n _)
  rw [asked.lane, asked.mast] at suspended
  have guard : max (s.lane n).guard (min (s.lane n).guardCeil (2 * (s.lane n).guard)) = (s.lane n).guard := by omega
  have status : (suspendDoze n (askWake n p (s.setLane n (s.lane n).listening))).rg .laneIntStatus [n] = s.rg .laneIntStatus [n] ||| 8 ||| 64 := by
    rw [suspendDoze_status, askWake_status]
    rfl
  obtain ⟨stays, retrains, run_, same, wakes⟩ := Lane.kept_facts s.mast.tick (Lane.requested s.mast.tick (s.lane n).listening.missed.widened)
  refine goes_of_onLane run h suspended ?_
  rw [suspended.lane]
  exact ⟨stays, retrains, run_.trans (if_pos hc), same.trans guard, wakes, status, suspended.others⟩

end

/-! ### The wake sequence is seen, or not (R99, R100) -/

/-- A lane whose receiver has seen the wake sequence. -/
def Lane.seen (now : ℕ) (l : Lane) : Lane := { l with seqRx := some now, missRun := 0 }

/-- A wake sequence after the window is counted (R100). -/
def lateSeen (n : ℕ) (s : State) : State := dozeNote n 47 32 4 (s.setLane n ((s.lane n).seen s.mast.tick))

theorem onLane_lateSeen (n : ℕ) (s : State) : OnLane n ((s.lane n).seen s.mast.tick) s (lateSeen n s) := by
  have noted := onLane_of_steady n (steady_dozeNote n 47 32 4 (s.setLane n ((s.lane n).seen s.mast.tick)))
  rw [lane_setLane_self] at noted
  exact (onLane_setLane ..).trans noted

theorem lateSeen_count (n : ℕ) (s : State) : (lateSeen n s).rgf .laneDozeCnt [n] 47 32 = satAdd 16 (s.rgf .laneDozeCnt [n] 47 32) 1 :=
  dozeNote_count 4 _ (by decide) (by decide)

theorem lateSeen_status (n : ℕ) (s : State) : (lateSeen n s).rg .laneIntStatus [n] = s.rg .laneIntStatus [n] ||| 16 := dozeNote_status n 47 32 4 _

section
variable {n p : ℕ} {s : State} (h : Live s) (hn : n < 512) (ho : s.portOf n = some p)
include h hn ho

theorem goes_wakeSequenceSeen_inWindow (hd : (s.lane n).rxDoze = 3) (hw : (s.lane n).window ≠ 0) (hs : (s.lane n).seqRx = none)
    (ht : s.mast.tick ≤ windowCloseTick (s.prt p) (s.lane n)) :
    Goes (.wakeSequenceSeen n) s [.port] fun t => t.lane n = (s.lane n).seen s.mast.tick
      ∧ (∀ k, k ≠ n → t.lane k = s.lane k) ∧ t.port.ports = s.port.ports := by
  refine goes_of_setLane ?_ h
  change execWakeSequenceSeen n s = _
  simp only [execWakeSequenceSeen, Nat.mod_eq_of_lt hn, sequenceSeen, ho]
  exact congrArg (keep s) ((if_pos ⟨hd, hw, hs⟩).trans (if_pos ht))

theorem goes_wakeSequenceSeen_late (hd : (s.lane n).rxDoze = 3) (hw : (s.lane n).window ≠ 0) (hs : (s.lane n).seqRx = none)
    (ht : windowCloseTick (s.prt p) (s.lane n) < s.mast.tick) :
    Goes (.wakeSequenceSeen n) s [.port, .out, .regs] fun t =>
      (t.lane n = { s.lane n with
        seqRx := some s.mast.tick, missRun := 0
        guard := if windowCloseTick (s.prt p) (s.lane n) + nsTicks (s.lane n).wakeG < s.mast.tick
          then max (s.lane n).guard (min (s.lane n).guardCeil (2 * (s.lane n).guard)) else (s.lane n).guard }
        ∧ (∀ k, k ≠ n → t.lane k = s.lane k) ∧ t.port.ports = s.port.ports)
      ∧ t.rgf .laneDozeCnt [n] 47 32 = satAdd 16 (s.rgf .laneDozeCnt [n] 47 32) 1
      ∧ t.rg .laneIntStatus [n] = s.rg .laneIntStatus [n] ||| 16 := by
  have seen := onLane_lateSeen n s
  have run : exec (.wakeSequenceSeen n) s = keep s
      (when (windowCloseTick (s.prt p) (s.lane n) + nsTicks (s.lane n).wakeG < s.mast.tick) (widenGuard n) (lateSeen n s)) := by
    change execWakeSequenceSeen n s = _
    simp only [execWakeSequenceSeen, Nat.mod_eq_of_lt hn, sequenceSeen, ho]
    have tick : (lateSeen n s).tick = s.mast.tick := congrArg Mast.tick seen.mast
    rw [← tick]
    exact congrArg (keep s) ((if_pos ⟨hd, hw, hs⟩).trans (if_neg (Nat.not_le.mpr ht)))
  by_cases hg : windowCloseTick (s.prt p) (s.lane n) + nsTicks (s.lane n).wakeG < s.mast.tick
  · have widened := seen.trans (onLane_widenGuard n _)
    rw [seen.lane] at widened
    simp only [when, hg, decide_true, if_true] at run ⊢
    exact goes_of_onLane run h widened ⟨widened.only, lateSeen_count n s, lateSeen_status n s⟩
  · simp only [when, hg, decide_false, Bool.false_eq_true, if_false] at run ⊢
    exact goes_of_onLane run h seen ⟨seen.only, lateSeen_count n s, lateSeen_status n s⟩

theorem goes_wakeSequenceSeen_retrain (hd : (s.lane n).rxDoze = 4) (hs : (s.lane n).seqRx = none) :
    Goes (.wakeSequenceSeen n) s [.port] fun t => t.lane n = { s.lane n with seqRx := some s.mast.tick }
      ∧ (∀ k, k ≠ n → t.lane k = s.lane k) ∧ t.port.ports = s.port.ports := by
  refine goes_of_setLane ?_ h
  change execWakeSequenceSeen n s = _
  simp only [execWakeSequenceSeen, Nat.mod_eq_of_lt hn, sequenceSeen, ho]
  exact congrArg (keep s) ((if_neg (by simp [hd])).trans (if_pos ⟨hd, hs⟩))

theorem goes_wakeWindowClose (hd : (s.lane n).rxDoze = 3) (hw : (s.lane n).window = 1) (hs : (s.lane n).seqRx = none)
    (ht : windowCloseTick (s.prt p) (s.lane n) ≤ s.mast.tick) :
    Goes (.wakeWindowClose n) s [.port] fun t => t.lane n = { s.lane n with window := 2 }
      ∧ (∀ k, k ≠ n → t.lane k = s.lane k) ∧ t.port.ports = s.port.ports := by
  refine goes_of_setLane ?_ h
  change execWakeWindowClose n s = _
  simp only [execWakeWindowClose, Nat.mod_eq_of_lt hn, windowClose, ho]
  exact congrArg (keep s) (if_pos ⟨hd, hw, hs, ht⟩)

theorem goes_wakeFailTimeout (hl : s.linkUp p = true) (hd : (s.lane n).rxDoze = 3 ∨ (s.lane n).rxDoze = 4) (hs : (s.lane n).seqRx = none)
    (ht : wakeFailTick (s.prt p) (s.lane n) ≤ s.mast.tick) :
    Goes (.wakeFailTimeout n) s [.mast, .port, .host, .cmd, .out, .flt, .regs, .power] (WentDown p 11 s) := by
  refine goes_of_linkDown ?_ h (lt_of_le_of_lt (portOf_le ho) hn) hl
  change execWakeFailTimeout n s = _
  simp only [execWakeFailTimeout, Nat.mod_eq_of_lt hn, wakeFail, ho]
  exact congrArg (keep s) (if_pos ⟨hd, hs, ht⟩)

end

/-! ### Receipt of WAKE_REQ (R101, R102) -/

/-- A lane whose transmitter answers a WAKE_REQ that ends, and with it the frame in transmission, at `stop`. -/
def Lane.answering (now stop : ℕ) (l : Lane) : Lane := { l with
  txDoze := 4, reqUntil := some (stop + nsTicks (150 + retrainNs l)), txDozeTick := if l.txDoze = 0 then now else l.txDozeTick, burstUntil := none }

/-- The end of a WAKE_REQ that lane n of port p receives now, or of the frame in transmission. -/
def State.reqStop (s : State) (n p : ℕ) : ℕ := max (s.mast.tick + reqRest (s.lane n)) (s.boundaryTick (s.prt p).txBusy16).toNat

theorem boundaryTick_congr {s t : State} (hm : t.mast = s.mast) (ht : t.time = s.time) (b : ℤ) : t.boundaryTick b = s.boundaryTick b := by
  simp only [State.boundaryTick, State.tick, State.inc48, hm, ht]

theorem goes_wakeReqRx {n p : ℕ} {s : State} (h : Live s) (hn : n < 512) (ho : s.portOf n = some p) (hl : s.linkUp p = true) :
    Goes (.wakeReqRx n) s [.port, .out, .regs] fun t =>
      (t.lane n = { s.lane n with
        txDoze := 4, guard := max (s.lane n).guard (min (s.lane n).guardCeil (2 * (s.lane n).guard))
        txDozeTick := if (s.lane n).txDoze = 0 then s.mast.tick else (s.lane n).txDozeTick, burstUntil := none
        reqUntil := some (max (s.mast.tick + reqRest (s.lane n)) (s.boundaryTick (s.prt p).txBusy16).toNat + nsTicks (150 + retrainNs (s.lane n))) }
        ∧ (∀ k, k ≠ n → t.lane k = s.lane k) ∧ t.port.ports = s.port.ports)
      ∧ t.rgf .laneDozeCnt [n] 31 16 = satAdd 16 (s.rgf .laneDozeCnt [n] 31 16) 1
      ∧ t.rg .laneIntStatus [n] = s.rg .laneIntStatus [n] ||| 32 := by
  have steady := steady_dozeNote n 31 16 5 s
  have noted := onLane_of_steady n steady
  have busy := boundaryTick_congr noted.mast (steady.frame.2 .time (by decide)) (s.prt p).txBusy16
  have run : exec (.wakeReqRx n) s = keep s (widenGuard n ((dozeNote n 31 16 5 s).setLane n
      ((s.lane n).answering s.mast.tick (s.reqStop n p)))) := by
    change execWakeReqRx n s = _
    simp only [execWakeReqRx, Nat.mod_eq_of_lt hn, wakeReqRx, ho, hl, Bool.not_true, Bool.false_eq_true, if_false]
    rw [State.reqStop, ← noted.lane, ← busy, ← noted.prt p, ← noted.mast]
    rfl
  have answered := noted.trans (onLane_setLane n ((s.lane n).answering s.mast.tick (s.reqStop n p)) _)
  have widened := answered.trans (onLane_widenGuard n _)
  rw [answered.lane] at widened
  exact goes_of_onLane run h widened ⟨widened.only, dozeNote_count 5 s (by decide) (by decide), dozeNote_status n 31 16 5 s⟩

/-! ### The end of a doze (R93, R99) -/

/-- What becomes of a direction of port p hangs on the lanes and the port's width. -/
theorem awake_congr {s t : State} {p : ℕ} (hl : t.port.lanes = s.port.lanes) (he : (t.prt p).entry = (s.prt p).entry) :
    t.txAwake p = s.txAwake p ∧ t.rxAwake p = s.rxAwake p := by
  simp only [State.txAwake, State.rxAwake, lanesOf_congr he, State.lane, hl, and_self]

/-- The partner's epoch has to be confirmed: it is open already, or a doze of more than 1 s has ended (R93). -/
def OwesAgree (p since : ℕ) (s : State) : Prop := (s.prt p).ver ≠ 0 ∧ since + secTicks < s.mast.tick ∨ (s.prt p).epochOld = true

/-- Port p carries only Hello until its partner's epoch is confirmed. -/
def epochOpen (p since : ℕ) (s : State) : State :=
  when ((s.prt p).ver != 0 && since + secTicks < s.mast.tick) (fun s => s.modPort p fun x => { x with epochOld := true }) s

/-- A port whose AGREE goes out now and is to be answered until `due`. -/
def Port.confirming (due : ℕ) (x : Port) : Port := { x with epochOld := false, epochDue := some due }

theorem afterDoze_eq (p since : ℕ) (s : State) : afterDoze p since s =
    if ((epochOpen p since s).prt p).epochOld ∧ (epochOpen p since s).txAwake p ∧ (epochOpen p since s).rxAwake p then
      sendHello 1 ((epochOpen p since s).prt p).ver 0 p ((epochOpen p since s).modPort p
        (Port.confirming ((epochOpen p since s).mast.tick + 10 * msTicks)))
    else epochOpen p since s := rfl

/-- The port after a doze: confirmation may be owed. -/
structure EpochOpen (p since : ℕ) (s t : State) : Prop where
  on : OnPort p [.port] s t
  lanes : t.port.lanes = s.port.lanes
  entry : (t.prt p).entry = (s.prt p).entry
  old : (t.prt p).epochOld = true ↔ OwesAgree p since s
  idle : ¬OwesAgree p since s → t = s

theorem epochOpen_facts (p since : ℕ) (s : State) : EpochOpen p since s (epochOpen p since s) := by
  by_cases hc : (s.prt p).ver ≠ 0 ∧ since + secTicks < s.mast.tick
  · have opened : epochOpen p since s = s.modPort p fun x => { x with epochOld := true } := by
      simp [epochOpen, when, hc]
    have port : (epochOpen p since s).prt p = { s.prt p with epochOld := true } := by rw [opened, prt_modPort, if_pos rfl]
    have owes : OwesAgree p since s := .inl hc
    exact ⟨opened ▸ onPort_modPort .., by rw [opened]; rfl, by rw [port], iff_of_true (by rw [port]) owes, fun h => absurd owes h⟩
  · have same : epochOpen p since s = s := by
      rw [epochOpen, when, if_neg]
      simpa using hc
    have old : (s.prt p).epochOld = true ↔ OwesAgree p since s := (or_iff_right hc).symm
    rw [same]
    exact ⟨OnPort.refl .., rfl, rfl, old, fun _ => rfl⟩

/-- What a doze that has ended leaves: lanes stand, and where the partner's epoch has to be confirmed an AGREE goes out as soon as every lane is
awake, due in 10 ms (R93). -/
structure DozeEnded (p since : ℕ) (s t : State) : Prop where
  on : OnPort p [.port, .out] s t
  lanes : t.port.lanes = s.port.lanes
  entry : (t.prt p).entry = (s.prt p).entry
  idle : ¬OwesAgree p since s → t = s
  owed : OwesAgree p since s → if s.txAwake p && s.rxAwake p
    then (t.prt p).epochDue = some (s.mast.tick + 8000000) ∧ (t.prt p).epochOld = false else (t.prt p).epochOld = true

theorem afterDoze_facts (p since : ℕ) (s : State) : DozeEnded p since s (afterDoze p since s) := by
  obtain ⟨on, lanes, entry, old, idle⟩ := epochOpen_facts p since s
  obtain ⟨tx, rx⟩ := awake_congr lanes entry
  rw [afterDoze_eq]
  generalize epochOpen p since s = u at *
  rw [tx, rx]
  by_cases ha : s.txAwake p = true ∧ s.rxAwake p = true
  · by_cases ho : OwesAgree p since s
    · rw [if_pos ⟨old.mpr ho, ha⟩]
      have due : (u.modPort p (Port.confirming (u.mast.tick + 10 * msTicks))).prt p = (u.prt p).confirming (u.mast.tick + 10 * msTicks) := prt_setPort_self ..
      obtain ⟨x, sent⟩ := sendHello_prt 1 (u.prt p).ver 0 p (u.modPort p (Port.confirming (u.mast.tick + 10 * msTicks)))
      refine ⟨(on.mono (by simp)).trans (((onPort_modPort ..).mono (by simp)).trans (onPort_sendHello ..)), lanes, ?_, fun h => absurd ho h, fun _ => ?_⟩
      · rw [sent, due]
        exact entry
      · rw [sent, due, on.mast.tick, ha.1, ha.2]
        exact ⟨rfl, rfl⟩
    · rw [if_neg fun h => ho (old.mp h.1)]
      exact ⟨on.mono (by simp), lanes, entry, idle, fun h => absurd h ho⟩
  · rw [if_neg fun h => ha h.2]
    refine ⟨on.mono (by simp), lanes, entry, idle, fun ho => ?_⟩
    rw [if_neg (by simpa using ha)]
    exact old.mpr ho

/-- A direction of lane n has become AWAKE in u, and its doze ends in t. -/
theorem DozeEnded.lane_awake {n p since : ℕ} {w : Lane} {s u t : State} (e : DozeEnded p since u t) (hp : u.port = (s.setLane n w).port)
    (hm : MastRuns s u) : t.lane n = w ∧ (∀ k, k ≠ n → t.lane k = s.lane k)
      ∧ (((s.prt p).ver ≠ 0 ∧ since + 800000000 < s.mast.tick ∨ (s.prt p).epochOld = true) →
        if t.txAwake p && t.rxAwake p then (t.prt p).epochDue = some (s.mast.tick + 8000000) else (t.prt p).epochOld = true) := by
  have lane : ∀ k, t.lane k = if k = n then w else s.lane k := fun k => by
    rw [State.lane, e.lanes, hp]
    exact lane_setLane ..
  have port : u.prt p = s.prt p := by
    rw [State.prt, hp]
    rfl
  obtain ⟨tx, rx⟩ := awake_congr e.lanes e.entry
  refine ⟨by rw [lane, if_pos rfl], fun k hk => by rw [lane, if_neg hk], fun owes => ?_⟩
  have owed := e.owed (by rwa [OwesAgree, port, hm.tick])
  rw [tx, rx, ← hm.tick]
  split at owed
  next ha => rw [if_pos ha]; exact owed.1
  next ha => rw [if_neg ha]; exact owed

/-- A lane whose transmitter, or receiver, is AWAKE after the wake sequence or a fast retrain. -/
def Lane.txUp (l : Lane) : Lane := { l with txDoze := 0, seqTx := none }
def Lane.txBack (l : Lane) : Lane := { l with txDoze := 0, reqUntil := none }
def Lane.rxUp (l : Lane) : Lane := { l with rxDoze := 0, seqRx := none, window := 0 }

section
variable {n p since : ℕ} {w : Lane} {i : Instr} {s : State} (h : Live s)
include h

/-- A row in which a transmitter becomes AWAKE. -/
theorem goes_of_txAwake (run : exec i s = keep s (afterDoze p since (s.setLane n w))) :
    Goes i s [.port, .out] fun t => t.lane n = w ∧ (∀ k, k ≠ n → t.lane k = s.lane k)
      ∧ (((s.prt p).ver ≠ 0 ∧ since + 800000000 < s.mast.tick ∨ (s.prt p).epochOld = true) →
        if t.txAwake p && t.rxAwake p then (t.prt p).epochDue = some (s.mast.tick + 8000000) else (t.prt p).epochOld = true) := by
  have ended := afterDoze_facts p since (s.setLane n w)
  exact goes_of_running run h (Frame.trans (Frame.mono (by simp) (steady_setLane ..).frame) ended.on.frame) ended.on.mast.running
    (ended.lane_awake rfl ⟨rfl, rfl⟩)

/-- A row in which a receiver becomes AWAKE: the Synce outputs follow its clock. -/
theorem goes_of_rxAwake (run : exec i s = keep s (afterDoze p since (synceUpdate (s.setLane n w)))) :
    Goes i s [.mast, .port, .out, .regs] fun t => t.lane n = w ∧ (∀ k, k ≠ n → t.lane k = s.lane k)
      ∧ (((s.prt p).ver ≠ 0 ∧ since + 800000000 < s.mast.tick ∨ (s.prt p).epochOld = true) →
        if t.txAwake p && t.rxAwake p then (t.prt p).epochDue = some (s.mast.tick + 8000000) else (t.prt p).epochOld = true) := by
  have ended := afterDoze_facts p since (synceUpdate (s.setLane n w))
  have clock : MastRuns s (synceUpdate (s.setLane n w)) := MastRuns.trans (t := s.setLane n w) ⟨rfl, rfl⟩ (mastRuns_synceUpdate _)
  exact goes_of_running run h (Frame.trans (Frame.mono (by simp) (steady_setLane n w s).frame)
    (Frame.trans (Frame.mono (by simp) (clockHolds_synceUpdate _).steady.frame) (Frame.mono (by simp) ended.on.frame)))
    (ended.on.mast.running.trans clock.running) (ended.lane_awake (synceUpdate_port _) clock)

end

section
variable {n p d : ℕ} {s : State} (hn : n < 512) (ho : s.portOf n = some p)
include hn ho

theorem exec_wakeSequenceEnd_tx (hd : (s.lane n).txDoze = 3) (hs : (s.lane n).seqTx = some d) (ht : d + 80 ≤ s.mast.tick) (hr : (s.lane n).rxDoze ≠ 3) :
    exec (.wakeSequenceEnd n) s = keep s (afterDoze p (s.lane n).txDozeTick (s.setLane n (s.lane n).txUp)) := by
  have due : d + nsTicks 100 ≤ s.tick := ht
  have awake : (afterDoze p (s.lane n).txDozeTick (s.setLane n (s.lane n).txUp)).lane n = (s.lane n).txUp :=
    ((afterDoze_facts ..).lane_awake rfl ⟨rfl, rfl⟩).1
  change execWakeSequenceEnd n s = _
  simp only [execWakeSequenceEnd, Nat.mod_eq_of_lt hn, sequenceEnd, ho, hd, hs, due, decide_true, and_self, if_true]
  refine congrArg (keep s) (if_neg ?_)
  rintro ⟨hx, -⟩
  exact hr ((congrArg Lane.rxDoze awake).symm.trans hx)

theorem exec_wakeSequenceEnd_rx (hd : (s.lane n).rxDoze = 3) (hs : (s.lane n).seqRx = some d) (ht : d + 80 ≤ s.mast.tick) (hx : (s.lane n).txDoze ≠ 3) :
    exec (.wakeSequenceEnd n) s = keep s (afterDoze p (s.lane n).rxDozeTick (synceUpdate (s.setLane n (s.lane n).rxUp))) := by
  have due : d + nsTicks 100 ≤ s.tick := ht
  change execWakeSequenceEnd n s = _
  simp only [execWakeSequenceEnd, Nat.mod_eq_of_lt hn, sequenceEnd, ho, hx, false_and, if_false, hd, hs, due, decide_true, and_self, if_true]
  rfl

theorem exec_fastRetrainDone_tx (hd : (s.lane n).txDoze = 4) (hs : (s.lane n).reqUntil = some d) (ht : d ≤ s.mast.tick) (hr : (s.lane n).rxDoze ≠ 4) :
    exec (.fastRetrainDone n) s = keep s (afterDoze p (s.lane n).txDozeTick (s.setLane n (s.lane n).txBack)) := by
  have due : d ≤ s.tick := ht
  have awake : (afterDoze p (s.lane n).txDozeTick (s.setLane n (s.lane n).txBack)).lane n = (s.lane n).txBack :=
    ((afterDoze_facts ..).lane_awake rfl ⟨rfl, rfl⟩).1
  change execFastRetrainDone n s = _
  simp only [execFastRetrainDone, Nat.mod_eq_of_lt hn, retrainDone, ho, hd, hs, due, decide_true, and_self, if_true]
  refine congrArg (keep s) (if_neg ?_)
  rintro ⟨hx, -⟩
  exact hr ((congrArg Lane.rxDoze awake).symm.trans hx)

theorem exec_fastRetrainDone_rx (hd : (s.lane n).rxDoze = 4) (hs : (s.lane n).seqRx = some d) (hx : (s.lane n).txDoze ≠ 4) :
    exec (.fastRetrainDone n) s = keep s (afterDoze p (s.lane n).rxDozeTick (synceUpdate (s.setLane n (s.lane n).rxUp))) := by
  change execFastRetrainDone n s = _
  simp only [execFastRetrainDone, Nat.mod_eq_of_lt hn, retrainDone, ho, hx, false_and, if_false, hd, hs, Option.isSome_some, and_self, if_true]
  rfl

end

/-- Settles O13: each event of a lane's doze has its lemma above. -/
theorem laneDoze : Obligations.LaneDoze := by
  intro n p s hn h ho
  refine ⟨fun hd ht => goes_laneDozeEntered h hn hd ht, fun hd hs ht hb => goes_wakeInstant h hn hd hs ht hb, fun hb => goes_wakeInstant_bursting h hn hb,
    fun hd hw ht => goes_wakeWindowOpen_silent h hn ho hd hw ht, fun hd hw ht hr => goes_wakeWindowOpen_miss h hn ho hd hw ht hr,
    fun hd hw ht hc hr => goes_wakeWindowOpen_suspend h hn ho hd hw ht hc hr,
    fun hd hw hs ht => goes_wakeSequenceSeen_inWindow h hn ho hd hw hs ht, fun hd hw hs ht => goes_wakeSequenceSeen_late h hn ho hd hw hs ht,
    fun hd hs => goes_wakeSequenceSeen_retrain h hn ho hd hs, fun hd hw hs ht => goes_wakeWindowClose h hn ho hd hw hs ht,
    fun hl hd hs ht => goes_wakeFailTimeout h hn ho hl hd hs ht, fun hl => goes_wakeReqRx h hn ho hl,
    fun d hd hs ht hr => goes_of_txAwake h (exec_wakeSequenceEnd_tx hn ho hd hs ht hr),
    fun d hd hs ht hx => goes_of_rxAwake h (exec_wakeSequenceEnd_rx hn ho hd hs ht hx),
    fun d hd hs ht hr => goes_of_txAwake h (exec_fastRetrainDone_tx hn ho hd hs ht hr),
    fun d hd hs hx => goes_of_rxAwake h (exec_fastRetrainDone_rx hn ho hd hs hx)⟩

end Sys2Proof.Machine
end

section
/-! ### Attempt timers (R85 to R87, R91) -/

namespace Sys2Proof.Machine

/-- What an operation on one port comes to: it leaves the port as x, the other ports and the lanes as before, and it may send and count. -/
structure OnlyPort (p : ℕ) (x : Port) (s t : State) : Prop where
  frame : Frame [.port, .out, .regs] s t
  prt : t.prt p = x
  others : ∀ k, k ≠ p → t.prt k = s.prt k
  lanes : t.port.lanes = s.port.lanes

section
variable {p : ℕ} {x y : Port} {s t u : State}

theorem OnlyPort.trans (f : OnlyPort p x s t) (g : OnlyPort p y t u) : OnlyPort p y s u :=
  ⟨Frame.trans f.frame g.frame, g.prt, fun k hk => (g.others k hk).trans (f.others k hk), g.lanes.trans f.lanes⟩

theorem OnlyPort.mast (h : OnlyPort p x s t) : t.mast = s.mast := h.frame.2 .mast (by decide)

theorem OnlyPort.lane (h : OnlyPort p x s t) (n : ℕ) : t.lane n = s.lane n := by rw [State.lane, State.lane, h.lanes]

theorem OnlyPort.onPort (h : OnlyPort p x s t) : OnPort p [.port, .out, .regs] s t := ⟨h.frame, mastRuns_of_eq h.mast, h.others⟩

theorem onlyPort_setPort (p : ℕ) (x : Port) (s : State) : OnlyPort p x s (s.setPort p x) :=
  ⟨Frame.mono (by simp) (frame_setPort p x s), prt_setPort_self .., fun _ hk => prt_setPort_ne s x hk, rfl⟩

theorem onlyPort_modPort (p : ℕ) (f : Port → Port) (s : State) : OnlyPort p (f (s.prt p)) s (s.modPort p f) := onlyPort_setPort ..

/-- What touches no port leaves port p as it was. -/
theorem onlyPort_of_steady (p : ℕ) (h : Steady [.out, .regs] s t) : OnlyPort p (s.prt p) s t :=
  have port : t.port = s.port := h.frame.2 .port (by decide)
  ⟨Frame.mono (by simp) h.frame, prt_congr port p, fun k _ => prt_congr port k, congrArg Ports.lanes port⟩

/-- What follows and touches no port leaves it at that. -/
theorem OnlyPort.steady (f : OnlyPort p x s t) (g : Steady [.out, .regs] t u) : OnlyPort p x s u := f.prt ▸ f.trans (onlyPort_of_steady p g)

/-- A row that changes one port, and may send and count. -/
theorem goes_of_onlyPort {i : Instr} {P : State → Prop} (run : exec i s = keep s t) (h : Live s) (on : OnlyPort p x s t) (hP : P t) :
    Goes i s [.port, .out, .regs] P := goes_of_running run h on.frame (by rw [on.mast]) hP

end

/-! TRAIN_TIMER. -/

/-- A Topsail port whose attempt has failed: the third in a row ends Topsail negotiation (R91). -/
def Port.topsailLost (x : Port) : Port :=
  { x with topsailFails := x.topsailFails + 1, topsailEnded := x.topsailEnded || 3 ≤ x.topsailFails + 1 }

/-- A port whose running attempt has failed: a Topsail attempt counts. -/
def Port.failed (x : Port) : Port := if x.topsail then x.topsailLost else x

theorem topsailFailed_eq (p : ℕ) (s : State) : topsailFailed p s = if !(s.prt p).topsail then s else
    when (3 ≤ (s.prt p).topsailFails + 1 && (s.prt p).curFallback) (raiseInt 10 .portIntStatus [p] 3) (s.setPort p (s.prt p).topsailLost) := rfl

theorem onlyPort_topsailFailed (p : ℕ) (s : State) : OnlyPort p (s.prt p).failed s (topsailFailed p s) := by
  rw [topsailFailed_eq]
  cases ht : (s.prt p).topsail
  · rw [Port.failed, if_neg (by simp [ht])]
    exact onlyPort_of_steady p (Steady.refl ..)
  · rw [Port.failed, if_pos ht]
    exact (onlyPort_setPort p (s.prt p).topsailLost s).steady (steady_when (steady_raiseInt ..))

/-- A port in LINK_ABSENT (R85). -/
def Port.absent (now cause missing : ℕ) (low : Bool) (x : Port) : Port := { x with
  state := 3, stage := 0, cause := cause, missing := missing, absentTick := now, absentLow := low, topsail := false }

theorem onlyPort_goAbsent (p cause missing : ℕ) (s : State) :
    ∃ low, OnlyPort p ((s.prt p).absent s.mast.tick cause missing low) s (goAbsent p cause missing s) :=
  ⟨(s.lanesOf p).any fun n => !(s.lane n).sig, (onlyPort_modPort p (Port.absent s.mast.tick cause missing _) s).steady (steady_raiseInt ..)⟩

/-- The cause that an attempt which fails leaves: NEGOTIATE where Topsail negotiation has ended and no fallback is allowed (R91). -/
def Port.failCause (cause : ℕ) (x : Port) : ℕ := if x.topsailEnded && !x.curFallback then 6 else cause

theorem onlyPort_attemptFails (p cause missing : ℕ) (s : State) :
    ∃ low, OnlyPort p ((s.prt p).failed.absent s.mast.tick ((s.prt p).failed.failCause cause) missing low) s (attemptFails p cause missing s) := by
  have counted := onlyPort_topsailFailed p s
  unfold attemptFails
  generalize topsailFailed p s = u at *
  obtain ⟨low, gone⟩ := onlyPort_goAbsent p ((u.prt p).failCause cause) missing u
  rw [counted.prt, counted.mast] at gone
  refine ⟨low, counted.trans ?_⟩
  simpa [counted.prt, Port.failCause] using gone

section
variable {p : ℕ} {s : State} (h : Live s) (hp : p < 512)
include h hp

theorem goes_trainTimerExpiry (hf : (s.prt p).formed = true) (ha : (s.prt p).state = 1) (hi : (s.prt p).idleTick = none)
    (ht : (s.prt p).startTick + attemptMs (s.prt p) * 800000 ≤ s.mast.tick) :
    Goes (.trainTimerExpiry p) s [.port, .out, .regs] fun t =>
      (t.prt p).cause = (if (t.prt p).topsailEnded && !(s.prt p).curFallback then 6 else expiryCause p s)
      ∧ ((s.prt p).topsail = true → (t.prt p).topsailEnded = ((s.prt p).topsailEnded || decide (3 ≤ (s.prt p).topsailFails + 1)))
      ∧ (t.prt p).state = 3 ∧ (t.prt p).stage = 0 ∧ (t.prt p).absentTick = s.mast.tick ∧ (t.prt p).topsail = false
      ∧ (t.prt p).missing = maskOf (s.prt p).lanes (fun k => !(s.lane (p + k)).aligned)
      ∧ (∀ k, k ≠ p → t.prt k = s.prt k) ∧ t.port.lanes = s.port.lanes := by
  have run : exec (.trainTimerExpiry p) s
      = keep s (attemptFails p (expiryCause p s) (maskOf (s.prt p).lanes fun k => !(s.lane (p + k)).aligned) s) := by
    change execTrainTimerExpiry p s = _
    rw [execTrainTimerExpiry, Nat.mod_eq_of_lt hp]
    exact congrArg (keep s) (if_pos ⟨hf, ha, hi, ht⟩)
  obtain ⟨low, on⟩ := onlyPort_attemptFails p (expiryCause p s) (maskOf (s.prt p).lanes fun k => !(s.lane (p + k)).aligned) s
  have kept : (s.prt p).failed.curFallback = (s.prt p).curFallback := by
    unfold Port.failed
    split <;> rfl
  refine goes_of_onlyPort run h on ?_
  rw [on.prt]
  refine ⟨?_, fun htop => ?_, rfl, rfl, rfl, rfl, rfl, on.others, on.lanes⟩
  · exact kept ▸ rfl
  · change (s.prt p).failed.topsailEnded = _
    rw [Port.failed, if_pos htop]
    rfl

theorem goes_backoffExpiry (hf : (s.prt p).formed = true) (ha : (s.prt p).state = 3)
    (ht : (s.prt p).absentTick + 8000000 * 2 ^ (s.prt p).backoff ≤ s.mast.tick) :
    Goes (.backoffExpiry p) s [.mast, .port, .out, .regs] fun t =>
      (t.prt p).state = 1 ∧ (t.prt p).stage = 1 ∧ (t.prt p).backoff = min 7 ((s.prt p).backoff + 1) ∧ (t.prt p).startTick = s.mast.tick
      ∧ ∀ k, k ≠ p → t.prt k = s.prt k := by
  have run : exec (.backoffExpiry p) s = keep s (endAbsent p s) := by
    change execBackoffExpiry p s = _
    rw [execBackoffExpiry, Nat.mod_eq_of_lt hp]
    exact congrArg (keep s) (if_pos ⟨hf, ha, ht⟩)
  have on : OnPort p [.mast, .port, .out, .regs] s (endAbsent p s) := ((onPort_modPort ..).mono (by simp)).trans (onPort_startAttempt ..)
  refine goes_of_running run h on.frame on.mast.running ?_
  rw [endAbsent, startAttempt_prt, prt_modPort, if_pos rfl]
  exact ⟨rfl, rfl, rfl, rfl, on.ports⟩

theorem goes_linkStable (hl : s.linkUp p = true) (ht : (s.prt p).upTick + 800000000 ≤ s.mast.tick) :
    Goes (.linkStable p) s [.port] fun t =>
      t.prt p = { s.prt p with backoff := 0 } ∧ (∀ k, k ≠ p → t.prt k = s.prt k) ∧ t.port.lanes = s.port.lanes := by
  have run : exec (.linkStable p) s = keep s (s.modPort p fun x => { x with backoff := 0 }) := by
    change execLinkStable p s = _
    rw [execLinkStable, Nat.mod_eq_of_lt hp]
    exact congrArg (keep s) (if_pos ⟨hl, ht⟩)
  obtain ⟨_, port, others, lanes⟩ := onlyPort_modPort p (fun x => { x with backoff := 0 }) s
  exact goes_of_keep run h (steady_setPort ..) ⟨port, others, lanes⟩

/-! RESTART. -/

omit h in
theorem exec_portRestart : exec (.portRestart p) s = keep s (portRestart p s) := by
  change execPortRestart p s = _
  rw [execPortRestart, Nat.mod_eq_of_lt hp]

omit h hp in
theorem portRestart_absent (hf : (s.prt p).formed = true) (hs : (s.prt p).state = 3) :
    portRestart p s = startAttempt p (s.modPort p restarted) := by
  have state : ((s.modPort p restarted).prt p).state = 3 := by rw [prt_modPort, if_pos rfl]; exact hs
  unfold portRestart
  simp only []
  rw [if_neg (by simp [hf])]
  split
  next h => exact absurd (state.symm.trans h) (by decide)
  next h => exact absurd (state.symm.trans h) (by decide)
  next => rfl
  next h => exact absurd state h

omit h hp in
theorem portRestart_up (hl : s.linkUp p = true) : portRestart p s = linkDown p 14 (s.modPort p restarted) := by
  obtain ⟨hf, hs⟩ := (linkUp_iff s p).mp hl
  have state : ((s.modPort p restarted).prt p).state = 2 := by rw [prt_modPort, if_pos rfl]; exact hs
  unfold portRestart
  simp only []
  rw [if_neg (by simp [hf])]
  split
  next h => exact absurd (state.symm.trans h) (by decide)
  next => rfl
  next h => exact absurd (state.symm.trans h) (by decide)
  next h _ => exact absurd state h

/-- RESTART starts the attempt of a port that is not LINK_UP again. -/
theorem goes_portRestart_attempt {x : Port} {u : State} (run : portRestart p s = startAttempt p u) (set : OnlyPort p x s u)
    (hb : x.backoff = 0) (ht : x.topsailFails = 0) :
    Goes (.portRestart p) s [.mast, .port, .out, .regs] fun t =>
      (t.prt p).state = 1 ∧ (t.prt p).stage = 1 ∧ (t.prt p).backoff = 0 ∧ (t.prt p).topsailFails = 0 ∧ (t.prt p).startTick = s.mast.tick
      ∧ ∀ k, k ≠ p → t.prt k = s.prt k := by
  have on : OnPort p [.mast, .port, .out, .regs] s (startAttempt p u) := (set.onPort.mono (by simp)).trans (onPort_startAttempt ..)
  refine goes_of_running ((exec_portRestart hp).trans (congrArg (keep s) run)) h on.frame on.mast.running ?_
  rw [startAttempt_prt, set.prt, set.mast]
  exact ⟨rfl, rfl, hb, ht, rfl, on.ports⟩

theorem goes_portRestart (hf : (s.prt p).formed = true) (hs : (s.prt p).state = 1 ∨ (s.prt p).state = 3) :
    Goes (.portRestart p) s [.mast, .port, .out, .regs] fun t =>
      (t.prt p).state = 1 ∧ (t.prt p).stage = 1 ∧ (t.prt p).backoff = 0 ∧ (t.prt p).topsailFails = 0 ∧ (t.prt p).startTick = s.mast.tick
      ∧ ∀ k, k ≠ p → t.prt k = s.prt k := by
  have set := onlyPort_modPort p restarted s
  rcases hs with hs | hs
  · refine goes_portRestart_attempt h hp (portRestart_attempt hf hs) (set.trans (onlyPort_modPort ..)) ?_ ?_ <;> rw [set.prt] <;> rfl
  · exact goes_portRestart_attempt h hp (portRestart_absent hf hs) set rfl rfl

theorem goes_portRestart_up (hl : s.linkUp p = true) :
    Goes (.portRestart p) s [.mast, .port, .host, .cmd, .out, .flt, .regs, .power] fun t => WentDown p 14 s t ∧ (t.prt p).backoff = 0 := by
  have set := onlyPort_modPort p restarted s
  have up : (s.modPort p restarted).linkUp p = true := by
    rw [linkUp_iff, set.prt]
    exact (linkUp_iff s p).mp hl
  obtain ⟨on, ⟨state, stage, told, start, lanes, others, losses, attempts⟩, _⟩ := wentDown_linkDown up hp 14
  refine goes_of_running ((exec_portRestart hp).trans (congrArg (keep s) (portRestart_up hl))) h
    (Frame.trans (Frame.mono (by simp) (onPort_modPort p restarted s).frame) on.frame) on.mast.running
    ⟨⟨state, stage, told, start, ?_, ?_, losses, attempts⟩, ?_⟩
  · intro n hn
    exact lanes n (by rwa [lanesOf_congr (s := s) (by rw [set.prt]; rfl)])
  · exact fun k hk => (others k hk).trans (set.others k hk)
  · rw [linkDown_up up, reattempt_prt, leaveLink_prt, set.prt]
    rfl

end

end Sys2Proof.Machine
end
section
/-! ### The Dravua Hello (R90 to R92) -/

namespace Sys2Proof.Machine

/-- The bytes of a Hello of a state, with its SELECT and CAUSE (Table 4-7). -/
def helloBytes (st sel cause p : ℕ) (s : State) : List Byte :=
  dravuaFrame p (bytesBE 1 1 ++ bytesBE 1 1 ++ bytesBE 1 3 ++ bytesBE 1 st ++ bytesBE 2 (s.deviceId % 4096) ++ bytesBE 2 p
    ++ bytesBE 1 (helloCaps p (s.prt p)) ++ bytesBE 1 sel ++ bytesBE 2 ((s.lane p).guard / 10) ++ bytesBE 2 (s.epoch (ekLane p))
    ++ bytesBE 1 cause ++ bytesBE 4 (s.prt p).helloSeq) s

theorem sendHello_sent (st sel cause p : ℕ) (s : State) :
    (sendHello st sel cause p s).out = { s.out with linkMsgs := s.out.linkMsgs ++ [(p, helloBytes st sel cause p s)] } := rfl

/-- A Hello goes to the address of R89, and names its TYPE and its state. -/
theorem helloBytes_fields (st sel cause p : ℕ) (s : State) : bytesNat (helloBytes st sel cause p s) 0 6 = 0x0180C200000E
    ∧ byteAt (helloBytes st sel cause p s) 14 = 1 ∧ byteAt (helloBytes st sel cause p s) 17 = st % 256 := by
  refine ⟨?_, rfl, ?_⟩
  · change ofBytesBE (bytesBE 6 dravuaMac) = _
    decide
  · change (BitVec.ofNat 8 (st / 256 ^ 0)).toNat = st % 256
    simp

/-- A port that has sent its Hello of now. -/
def Port.greeted (now : ℕ) (x : Port) : Port := { x with helloTick := now }

theorem sendHello_port (st sel cause p : ℕ) (s : State) :
    (sendHello st sel cause p s).prt p = { s.prt p with helloSeq := ((s.prt p).helloSeq + 1) % 2 ^ 32 } := prt_setPort_self ..

/-- A row that sends a Hello of a state, in its interval. -/
theorem goes_of_sendHello {i : Instr} {st sel p : ℕ} {s : State} (run : exec i s = keep s (sendHello st sel 0 p (s.modPort p (Port.greeted s.mast.tick))))
    (h : Live s) : Goes i s [.port, .out] fun t =>
      t.prt p = { s.prt p with helloSeq := ((s.prt p).helloSeq + 1) % 2 ^ 32, helloTick := s.mast.tick }
      ∧ (∀ k, k ≠ p → t.prt k = s.prt k) ∧ ∃ b, t.out = { s.out with linkMsgs := s.out.linkMsgs ++ [(p, b)] }
        ∧ bytesNat b 0 6 = 0x0180C200000E ∧ byteAt b 14 = 1 ∧ byteAt b 17 = st % 256 := by
  have on : OnPort p [.port, .out] s (sendHello st sel 0 p (s.modPort p (Port.greeted s.mast.tick))) :=
    ((onPort_modPort ..).mono (by simp)).trans (onPort_sendHello ..)
  refine goes_of_running run h on.frame on.mast.running ⟨?_, on.ports, _, sendHello_sent .., helloBytes_fields ..⟩
  rw [sendHello_port, prt_modPort, if_pos rfl]
  rfl

section
variable {p : ℕ} {s : State} (hp : p < 512)
include hp

theorem exec_helloProbeTimer : exec (.helloProbeTimer p) s = keep s (helloTimer p s) := by
  change execHelloProbeTimer p s = _
  rw [execHelloProbeTimer, Nat.mod_eq_of_lt hp]

theorem exec_helloProbeTimer_probe (hf : (s.prt p).formed = true) (hc : (s.prt p).isCpri = false) (ha : (s.prt p).state = 1)
    (hg : (s.prt p).stage = 7) (ht : (s.prt p).helloTick + 800000 ≤ s.mast.tick) :
    exec (.helloProbeTimer p) s = keep s (sendHello 0 0 0 p (s.modPort p (Port.greeted s.mast.tick))) := by
  have open' : ¬(!(s.prt p).formed ∨ (s.prt p).isCpri) := by simp [hf, hc]
  exact (exec_helloProbeTimer hp).trans (congrArg (keep s) ((if_neg open').trans (if_pos ⟨ha, hg, ht⟩)))

theorem exec_helloProbeTimer_agree (hc : (s.prt p).isCpri = false) (hl : s.linkUp p = true) (hv : (s.prt p).ver ≠ 0)
    (hx : s.txAwake p = true) (ht : (s.prt p).helloTick + 80000000 ≤ s.mast.tick) :
    exec (.helloProbeTimer p) s = keep s (sendHello 1 (s.prt p).ver 0 p (s.modPort p (Port.greeted s.mast.tick))) := by
  obtain ⟨hf, hs⟩ := (linkUp_iff s p).mp hl
  have open' : ¬(!(s.prt p).formed ∨ (s.prt p).isCpri) := by simp [hf, hc]
  have up : ¬((s.prt p).state = 1 ∧ (s.prt p).stage = 7 ∧ (s.prt p).helloTick + msTicks ≤ s.tick) := by simp [hs]
  exact (exec_helloProbeTimer hp).trans (congrArg (keep s) ((if_neg open').trans ((if_neg up).trans (if_pos ⟨hs, hv, hx, ht⟩))))

theorem exec_helloRx (b : List Byte) : exec (.helloRx p b) s = keep s (helloRx p b s) := by
  change execHelloRx p b s = _
  rw [execHelloRx, Nat.mod_eq_of_lt hp]

/-- A Hello that comes on a receive direction that is not AWAKE is lost (R101). -/
theorem goes_helloRx_asleep (b : List Byte) (h : Live s) (hx : s.rxAwake p = false) : Goes (.helloRx p b) s [] fun _ => True :=
  goes_unchanged ((exec_helloRx hp b).trans (congrArg (keep s) (if_pos (by simp [hx])))) h

end

/-- A byte of a frame's message, counted from the frame's first. -/
theorem byteAt_drop (b : List Byte) (n i : ℕ) : byteAt (b.drop n) i = byteAt b (n + i) := by
  simp only [byteAt, List.getD_eq_getElem?_getD, List.getElem?_drop]

theorem bytesNat_drop (b : List Byte) (n i k : ℕ) : bytesNat (b.drop n) i k = bytesNat b (n + i) k := by
  simp only [bytesNat, List.getD_eq_getElem?_getD, List.getElem?_drop, Nat.add_assoc]

/-- The highest of the versions that both sides carry. -/
def heardVersion (versions : ℕ) : ℕ := if versions / 2 = 1 then 2 else versions % 2

/-- A partner as its Hello tells of it. -/
def Port.met (b : List Byte) (x : Port) : Port := { x with partnerCaps := byteAt b 22, partnerDev := bytesNat b 18 2 % 4096 }

/-- What a Hello that a port hears does. -/
theorem helloRx_eq {p : ℕ} {s : State} (b : List Byte) (hf : (s.prt p).formed = true) (hx : s.rxAwake p = true) (hc : (s.prt p).isCpri = false)
    (hg : helloGood p b s = true) : helloRx p b s =
      if byteAt b 17 = 3 then linkDown p 13 s
      else if byteAt b 17 = 2 then s.setPort p { s.prt p with goRx := some s.tick }
      else
        let u := s.setPort p ((s.prt p).met b)
        if (s.prt p).state = 1 ∧ (s.prt p).stage = 7 then
          if heardVersion (byteAt b 16 % 4) = 0 then raiseInt 10 .portIntStatus [p] 4 (attemptFails p 7 0 u)
          else
            let u := sendHello 1 (heardVersion (byteAt b 16 % 4)) 0 p u
            if byteAt b 17 = 1 ∧ byteAt b 23 = heardVersion (byteAt b 16 % 4) ∧ u.mayLink p then
              helloAgreed p (heardVersion (byteAt b 16 % 4))
                (adoptGuard p (bytesNat b 24 2) (u.modPort p fun x => { x with partnerEpoch := bytesNat b 26 2 }))
            else u
        else if (s.prt p).state = 2 ∧ (s.prt p).ver ≠ 0 ∧ byteAt b 17 = 1 then
          let u := adoptGuard p (bytesNat b 24 2) u
          if u.epochHeld p then
            if bytesNat b 26 2 = (s.prt p).partnerEpoch then u.modPort p fun x => { x with epochOld := false, epochDue := none }
            else linkDown p 15 (raiseInt 10 .portIntStatus [p] 4 u)
          else u
        else u := by
  have heard : ¬(!(s.prt p).formed ∨ (s.prt p).isCpri ∨ !helloGood p b s ∨ !s.rxAwake p) := by simp [hf, hx, hc, hg]
  unfold helloRx
  simp only [if_neg heard, byteAt_drop, bytesNat_drop]
  rfl

/-! An event leaves command versions alone. -/

theorem pumpEvents_version (src : Source) (n : ℕ) (s : State) : (pumpEvents src n s).cmd.version = s.cmd.version := by
  induction n generalizing s with
  | zero => rfl
  | succ n ih =>
    simp only [pumpEvents]
    split
    · rfl
    · split
      · simp [ih, State.setSub]
      · simp [ih, State.setSub]
      · split
        · simp [ih, State.setSub]
        · rfl
      · rfl

theorem postEvent_version (k : ℕ) (l : List W) (s : State) : (postEvent k l s).cmd.version = s.cmd.version := by
  unfold postEvent
  split
  · simp
  · simp only []
    split
    · simp [State.setSub]
    · simp [pumpEvents_version, State.setSub]

theorem enterLink_version (p : ℕ) (s : State) : (enterLink p s).cmd.version = s.cmd.version := by
  rw [enterLink_eq, linkChange, postEvent_version, raiseInt_cmd, (onPort_modLanes ..).frame.2 .cmd (by decide)]
  rfl

/-! An AGREE of the common version. -/

theorem enterLink_lane (p k : ℕ) (s : State) :
    (enterLink p s).lane k = if k ∈ s.lanesOf p then awakeLane (s.lane k) else s.lane k := by
  rw [lane_congr (enterLink_port ..), lane_modLanes, lanesOf_congr (s := s) (by rw [prt_modPort, if_pos rfl]; rfl)]
  rfl

theorem enterLink_guard (p k : ℕ) (s : State) : ((enterLink p s).lane k).guard = (s.lane k).guard := by
  rw [enterLink_lane]
  split <;> rfl

theorem onPort_setVersion (p : ℕ) (src : Source) (v : ℕ) (s : State) : OnPort p [.cmd] s (s.setVersion src v) :=
  onPort_of_frame p ⟨rfl, fun q hq => by cases q <;> simp_all [Part.same]⟩ ⟨rfl, rfl⟩

/-- A port that has agreed on a version. -/
def Port.agreed (ver : ℕ) (x : Port) : Port := { x with ver := ver }

/-- A Topsail port whose attempt has not failed. -/
def Port.proven (x : Port) : Port := { x with topsailFails := 0 }

/-- Port p, in its attempt, knows a version, and so does the source that its partner is. -/
def versioned (p ver : ℕ) (s : State) : State :=
  (s.modPort p (Port.agreed ver)).setVersion (.dravua ((s.modPort p (Port.agreed ver)).prt p).partnerDev) (ver + 1)

/-- Port p is LINK_UP with a version; a Topsail attempt that comes to that has not failed. -/
def linkAgreed (p ver : ℕ) (s : State) : State :=
  when ((enterLink p (versioned p ver s)).prt p).topsail (fun s => s.modPort p Port.proven) (enterLink p (versioned p ver s))

theorem helloAgreed_eq (p ver : ℕ) (s : State) : helloAgreed p ver s = if (linkAgreed p ver s).topsailNext p
    then sendHello 2 ver 0 p ((linkAgreed p ver s).modPort p fun x => { x with goSent := some (linkAgreed p ver s).tick }) else linkAgreed p ver s := rfl

/-- What an agreement of version `ver` leaves. -/
structure Agreed (p ver : ℕ) (s t : State) : Prop where
  on : OnPort p [.port, .host, .cmd, .out, .regs] s t
  port : (t.prt p).entry = (s.prt p).entry ∧ (t.prt p).formed = (s.prt p).formed ∧ (t.prt p).state = 2 ∧ (t.prt p).ver = ver
    ∧ (t.prt p).partnerEpoch = (s.prt p).partnerEpoch
  version : t.cmdVersion (.dravua (s.prt p).partnerDev) = ver + 1
  guard : ∀ k, (t.lane k).guard = (s.lane k).guard

theorem agreed_enterLink (p ver : ℕ) (s : State) : Agreed p ver s (enterLink p (versioned p ver s)) := by
  have known : (versioned p ver s).prt p = (s.prt p).agreed ver := prt_setPort_self ..
  refine ⟨((onPort_modPort p (Port.agreed ver) s).mono (by simp)).trans
    (((onPort_setVersion p _ (ver + 1) _).mono (by simp)).trans (onPort_enterLink p (versioned p ver s))), ?_, ?_, fun k => ?_⟩
  · rw [enterLink_prt, known]
    exact ⟨rfl, rfl, rfl, rfl, rfl⟩
  · rw [State.cmdVersion, enterLink_version, versioned, prt_modPort, if_pos rfl]
    exact tget_tset_self ..
  · rw [enterLink_guard]
    rfl

theorem agreed_linkAgreed (p ver : ℕ) (s : State) : Agreed p ver s (linkAgreed p ver s) := by
  have linked := agreed_enterLink p ver s
  unfold linkAgreed
  generalize enterLink p (versioned p ver s) = u at *
  unfold when
  split
  · obtain ⟨on, port, version, guard⟩ := linked
    refine ⟨on.trans ((onPort_modPort ..).mono (by simp)), ?_, version, guard⟩
    rw [prt_modPort, if_pos rfl]
    exact port
  · exact linked

/-- On a port that is not configured for Topsail nothing follows. -/
theorem agreed_helloAgreed {p : ℕ} (ver : ℕ) {s : State} (hf : (s.prt p).forTopsail = false) : Agreed p ver s (helloAgreed p ver s) := by
  have linked := agreed_linkAgreed p ver s
  have done : (linkAgreed p ver s).topsailNext p = false := by
    have plain : ((linkAgreed p ver s).prt p).forTopsail = false := by
      rw [Port.forTopsail, Port.speed, linked.port.1]
      exact hf
    simp only [State.topsailNext, plain, Bool.false_and]
  rw [helloAgreed_eq, if_neg (by rw [done]; decide)]
  exact linked

section
variable {p : ℕ} {s : State} (h : Live s) (hp : p < 512) (b : List Byte) (hx : s.rxAwake p = true) (hc : (s.prt p).isCpri = false)
  (hg : helloGood p b s = true)
include h hp hx hc hg

theorem goes_helloRx_goodbye (hl : s.linkUp p = true) (hb : byteAt b 17 = 3) :
    Goes (.helloRx p b) s [.mast, .port, .host, .cmd, .out, .flt, .regs, .power] (WentDown p 13 s) := by
  obtain ⟨hf, _⟩ := (linkUp_iff s p).mp hl
  exact goes_of_linkDown ((exec_helloRx hp b).trans (congrArg (keep s) ((helloRx_eq b hf hx hc hg).trans (if_pos hb)))) h hp hl

/-- A port that knows its partner's epoch. -/
def Port.synced (epoch : ℕ) (x : Port) : Port := { x with partnerEpoch := epoch }

/-- The port answers its partner's AGREE, and adopts what the partner has told of itself. -/
def answered (ver p : ℕ) (b : List Byte) (s : State) : State :=
  adoptGuard p (bytesNat b 24 2) ((sendHello 1 ver 0 p (s.setPort p ((s.prt p).met b))).modPort p (Port.synced (bytesNat b 26 2)))

omit h hp hx hc hg in
theorem answered_prt (ver p : ℕ) (b : List Byte) (s : State) :
    ∃ q, (answered ver p b s).prt p = { (s.prt p).met b with helloSeq := q, partnerEpoch := bytesNat b 26 2 } := by
  obtain ⟨q, sent⟩ := sendHello_prt 1 ver 0 p (s.setPort p ((s.prt p).met b))
  refine ⟨q, ?_⟩
  rw [answered, adoptGuard, prt_modLanes, prt_modPort, if_pos rfl, sent, prt_setPort_self]
  rfl

omit h hp hx hc hg in
theorem onPort_answered (ver p : ℕ) (b : List Byte) (s : State) : OnPort p [.port, .host, .cmd, .out, .regs] s (answered ver p b s) := by
  have told : OnPort p [.port] s (s.setPort p ((s.prt p).met b)) := onPort_modPort p (Port.met b) s
  rw [answered, adoptGuard]
  exact (told.mono (by simp)).trans <| ((onPort_sendHello ..).mono (by simp)).trans <|
    ((onPort_modPort ..).mono (by simp)).trans ((onPort_modLanes ..).mono (by simp))

omit h in
theorem exec_helloRx_agree (hf : (s.prt p).formed = true) (ha : (s.prt p).state = 1) (hs : (s.prt p).stage = 7) (hv : byteAt b 16 % 4 = 3)
    (ht : byteAt b 17 = 1) (hsel : byteAt b 23 = 2) (hm : s.mayLink p = true) :
    exec (.helloRx p b) s = keep s (helloAgreed p 2 (answered 2 p b s)) := by
  have common : heardVersion (byteAt b 16 % 4) = 2 := by rw [hv]; rfl
  have may : (sendHello 1 2 0 p (s.setPort p ((s.prt p).met b))).mayLink p = true := by
    obtain ⟨q, sent⟩ := sendHello_prt 1 2 0 p (s.setPort p ((s.prt p).met b))
    rw [State.mayLink, sent, prt_setPort_self]
    exact hm
  rw [exec_helloRx hp b, helloRx_eq b hf hx hc hg, common, if_neg (by rw [ht]; decide), if_neg (by rw [ht]; decide)]
  exact congrArg (keep s) ((if_pos ⟨ha, hs⟩).trans ((if_neg (by decide)).trans (if_pos ⟨ht, hsel, may⟩)))

theorem goes_helloRx_agree (hf : (s.prt p).formed = true) (ha : (s.prt p).state = 1) (hs : (s.prt p).stage = 7) (hv : byteAt b 16 % 4 = 3)
    (ht : byteAt b 17 = 1) (hsel : byteAt b 23 = 2) (hn : (s.prt p).forTopsail = false) (hm : s.mayLink p = true) :
    Goes (.helloRx p b) s [.port, .host, .cmd, .out, .regs] fun t =>
      t.linkUp p = true ∧ (t.prt p).ver = 2 ∧ t.cmdVersion (.dravua (bytesNat b 18 2 % 4096)) = 3
      ∧ (t.prt p).partnerEpoch = bytesNat b 26 2 ∧ (∀ n ∈ s.lanesOf p, (t.lane n).guard = max (s.lane n).guard (10 * bytesNat b 24 2))
      ∧ ∀ k, k ≠ p → t.prt k = s.prt k := by
  have run := exec_helloRx_agree hp b hx hc hg hf ha hs hv ht hsel hm
  obtain ⟨q, port⟩ := answered_prt 2 p b s
  have before := onPort_answered 2 p b s
  have guards : ∀ n ∈ s.lanesOf p, ((answered 2 p b s).lane n).guard = max (s.lane n).guard (10 * bytesNat b 24 2) := fun n hn => by
    have mem : n ∈ ((sendHello 1 2 0 p (s.setPort p ((s.prt p).met b))).modPort p (Port.synced (bytesNat b 26 2))).lanesOf p := by
      rwa [lanesOf_congr (s := s)]
      obtain ⟨x, sent⟩ := sendHello_prt 1 2 0 p (s.setPort p ((s.prt p).met b))
      rw [prt_modPort, if_pos rfl, sent, prt_setPort_self]
      rfl
    rw [answered, adoptGuard, lane_modLanes, if_pos mem]
    rfl
  generalize answered 2 p b s = u at *
  obtain ⟨on, ⟨_, formed, state, ver, epoch⟩, version, guard⟩ := agreed_helloAgreed (p := p) 2 (s := u) (by rw [port]; exact hn)
  have path := before.trans on
  rw [port] at formed epoch version
  exact goes_of_running run h path.frame path.mast.running
    ⟨(linkUp_iff ..).mpr ⟨formed.trans hf, state⟩, ver, version, epoch, fun n hn => (guard n).trans (guards n hn), path.ports⟩

end

end Sys2Proof.Machine
end

section
/-! ### Topsail goes idle and retunes (R91), a missing AGREE (R93), low-power idle (R103) -/

namespace Sys2Proof.Machine

/-- A port whose transmitters are in electrical idle before a Topsail attempt. -/
def Port.idling (now : ℕ) (x : Port) : Port := { x with stage := 1, idleTick := some now }

/-- A port whose next attempt is Topsail's. -/
def Port.tuned (x : Port) : Port := { x with topsail := true }

section
variable {p : ℕ} {s : State} (h : Live s) (hp : p < 512)
include h hp

theorem goes_topsailGo {x y : ℕ} (hl : s.linkUp p = true) (hx : (s.prt p).goSent = some x) (hy : (s.prt p).goRx = some y)
    (hi : (s.prt p).idleTick = none) (ht : max x y + 80000 ≤ s.mast.tick) :
    Goes (.topsailGo p) s [.mast, .port, .host, .cmd, .out, .flt, .regs, .power] fun t =>
      (t.prt p).state = 1 ∧ (t.prt p).idleTick = some s.mast.tick ∧ ∀ k, k ≠ p → t.prt k = s.prt k := by
  have run : exec (.topsailGo p) s = keep s (linkChange p ((leaveLink p 0 s).modPort p (Port.idling s.tick))) := by
    change execTopsailGo p s = _
    rw [execTopsailGo, Nat.mod_eq_of_lt hp]
    have due : max x y + 100 * usTicks ≤ s.tick := by
      rwa [usTicks, State.tick]
    simp only [topsailGo, hx, hy, if_pos (And.intro hl (And.intro hi due))]
    rfl
  have left := onPort_leaveLink p 0 s
  have on : OnPort p linkParts s (linkChange p ((leaveLink p 0 s).modPort p (Port.idling s.tick))) :=
    left.trans (((onPort_modPort ..).mono (by simp)).trans ((onPort_linkChange ..).mono (by simp)))
  refine goes_of_running run h on.frame on.mast.running ?_
  rw [prt_congr (linkChange_port ..), prt_modPort, if_pos rfl, leaveLink_prt]
  exact ⟨rfl, rfl, on.ports⟩

theorem goes_topsailRetune {x : ℕ} (hi : (s.prt p).idleTick = some x) (ha : (s.prt p).state = 1) (ht : x + 80000 ≤ s.mast.tick) :
    Goes (.topsailRetune p) s [.mast, .port, .out, .regs] fun t =>
      (t.prt p).topsail = true ∧ (t.prt p).state = 1 ∧ (t.prt p).stage = 1 ∧ (t.prt p).idleTick = none
      ∧ (∀ n ∈ s.lanesOf p, (t.lane n).mode = 5 ∧ (t.lane n).stage = 1) ∧ ∀ k, k ≠ p → t.prt k = s.prt k := by
  have run : exec (.topsailRetune p) s = keep s (startAttempt p (s.setPort p (s.prt p).tuned)) := by
    change execTopsailRetune p s = _
    rw [execTopsailRetune, Nat.mod_eq_of_lt hp]
    have due : x + 100 * usTicks ≤ s.tick := by
      rwa [usTicks, State.tick]
    simp only [topsailRetune, Port.tuned, hi, if_pos (And.intro ha due)]
  have set := onlyPort_setPort p (s.prt p).tuned s
  have on : OnPort p [.mast, .port, .out, .regs] s (startAttempt p (s.setPort p (s.prt p).tuned)) :=
    (set.onPort.mono (by simp)).trans (onPort_startAttempt ..)
  have lanes : (s.setPort p (s.prt p).tuned).lanesOf p = s.lanesOf p := lanesOf_congr (by rw [set.prt]; rfl)
  refine goes_of_running run h on.frame on.mast.running ?_
  rw [startAttempt_prt, set.prt]
  refine ⟨rfl, rfl, rfl, rfl, fun n hn => ?_, on.ports⟩
  rw [startAttempt_lane (lanes ▸ hn), set.prt]
  exact ⟨rfl, rfl⟩

theorem goes_epochAgreeTimeout {x : ℕ} (hl : s.linkUp p = true) (hx : (s.prt p).epochDue = some x) (ht : x ≤ s.mast.tick) :
    Goes (.epochAgreeTimeout p) s [.mast, .port, .host, .cmd, .out, .flt, .regs, .power] (WentDown p 15 s) := by
  refine goes_of_linkDown ?_ h hp hl
  change execEpochAgreeTimeout p s = _
  rw [execEpochAgreeTimeout, Nat.mod_eq_of_lt hp]
  simp only [epochTimeout, hx]
  exact congrArg (keep s) (if_pos ht)

end

/-! Low-power idle. -/

/-- A lane one direction of which enters or leaves QUIET (R103). -/
def Lane.lpi (now : ℕ) (enter tx : Bool) (l : Lane) : Lane :=
  if tx then
    (if l.txDoze = (if enter then 0 else 5) then
      { l with txDoze := if enter then 5 else 0, txDozeTick := if enter then now else l.txDozeTick } else l)
  else if l.rxDoze = (if enter then 0 else 5) then
    { l with rxDoze := if enter then 5 else 0, rxDozeTick := if enter then now else l.rxDozeTick, sigLost := none } else l

/-- The lanes of port p enter or leave QUIET, and the Synce outputs follow. -/
def lpiLanes (p : ℕ) (enter tx : Bool) (s : State) : State := synceUpdate (s.modLanes p (Lane.lpi s.mast.tick enter tx))

/-- Since when a direction of port p has slept. -/
def State.lpiSince (s : State) (p : ℕ) (tx : Bool) : ℕ := if tx then (s.lane p).txDozeTick else (s.lane p).rxDozeTick

theorem ports_foldl_setLane (f : ℕ → Lane → Lane) (l : List ℕ) (s : State) :
    (l.foldl (fun s n => s.setLane n (f n (s.lane n))) s).port.ports = s.port.ports := by
  induction l generalizing s with
  | nil => rfl
  | cons n l ih => exact ih _

/-- What the lanes' change leaves. -/
structure LpiMoved (p : ℕ) (enter tx : Bool) (s t : State) : Prop where
  on : OnPort p [.mast, .port, .out, .regs] s t
  ports : t.port.ports = s.port.ports
  lanes : ∀ n, t.lane n = if n ∈ s.lanesOf p then (s.lane n).lpi s.mast.tick enter tx else s.lane n

theorem lpiMoved_lpiLanes (p : ℕ) (enter tx : Bool) (s : State) : LpiMoved p enter tx s (lpiLanes p enter tx s) := by
  refine ⟨((onPort_modLanes ..).mono (by simp)).trans ((onPort_synceUpdate ..).mono (by simp)), ?_, fun n => ?_⟩
  · rw [lpiLanes, synceUpdate_port]
    exact ports_foldl_setLane (fun _ => Lane.lpi s.mast.tick enter tx) (s.lanesOf p) s
  · rw [lpiLanes, lane_congr (synceUpdate_port _), lane_modLanes]

section
variable {p : ℕ} {s : State} (hp : p < 512) (enter tx : Bool)

/-- Port p leaves QUIET in a direction. -/
def lpiWakes (p : ℕ) (enter tx : Bool) (s : State) : Prop := enter = false ∧ (if tx then (s.lane p).txDoze else (s.lane p).rxDoze) = 5

include hp

theorem exec_lpiRequest (hl : s.linkUp p = true) (he : (s.prt p).lpiEn = true) : exec (.lpiRequest p enter tx) s
    = keep s (if !enter && (if tx then (s.lane p).txDoze else (s.lane p).rxDoze) == 5 then afterDoze p (s.lpiSince p tx) (lpiLanes p enter tx s)
      else lpiLanes p enter tx s) := by
  have on : ¬(!s.linkUp p ∨ !(s.prt p).lpiEn) := by simp [hl, he]
  change execLpiRequest p enter tx s = _
  rw [execLpiRequest, Nat.mod_eq_of_lt hp]
  exact congrArg (keep s) (if_neg on)

theorem goes_lpiRequest (h : Live s) (hl : s.linkUp p = true) (he : (s.prt p).lpiEn = true) :
    Goes (.lpiRequest p enter tx) s [.mast, .port, .out, .regs] fun t =>
      (enter = true ∨ (s.prt p).ver = 0 ∧ (s.prt p).epochOld = false → t.port.ports = s.port.ports)
      ∧ (enter = false → (if tx then (s.lane p).txDoze else (s.lane p).rxDoze) = 5 → (s.prt p).ver ≠ 0 →
          s.lpiSince p tx + 800000000 < s.mast.tick → t.txAwake p = true → t.rxAwake p = true →
          (t.prt p).epochDue = some (s.mast.tick + 8000000) ∧ (t.prt p).epochOld = false)
      ∧ (∀ n, n ∉ s.lanesOf p → t.lane n = s.lane n) ∧ ∀ n ∈ s.lanesOf p, t.lane n = (s.lane n).lpi s.mast.tick enter tx := by
  have run := exec_lpiRequest hp enter tx hl he
  obtain ⟨on, ports, lanes⟩ := lpiMoved_lpiLanes p enter tx s
  generalize lpiLanes p enter tx s = u at *
  have prt : u.prt p = s.prt p := by rw [State.prt, State.prt, ports]
  have read : ∀ t : State, t.port.lanes = u.port.lanes → (∀ n, n ∉ s.lanesOf p → t.lane n = s.lane n)
      ∧ ∀ n ∈ s.lanesOf p, t.lane n = (s.lane n).lpi s.mast.tick enter tx := fun t ht => by
    have lane : ∀ n, t.lane n = u.lane n := fun n => by rw [State.lane, State.lane, ht]
    exact ⟨fun n hn => by rw [lane, lanes, if_neg hn], fun n hn => by rw [lane, lanes, if_pos hn]⟩
  by_cases hw : lpiWakes p enter tx s
  · rw [if_pos (by simpa [lpiWakes] using hw)] at run
    have ended := afterDoze_facts p (s.lpiSince p tx) u
    obtain ⟨awakeTx, awakeRx⟩ := awake_congr ended.lanes ended.entry
    have path := on.trans (ended.on.mono (by simp))
    refine goes_of_running run h path.frame path.mast.running ⟨fun hq => ?_, fun _ _ hv hs hax hay => ?_, read _ ended.lanes⟩
    · have idle : ¬OwesAgree p (s.lpiSince p tx) u := by
        obtain hq | ⟨hv, ho⟩ := hq
        · exact absurd (hq.symm.trans hw.1) (by decide)
        · simp [OwesAgree, prt, hv, ho]
      rw [ended.idle idle, ports]
    · have owed := ended.owed (.inl ⟨by rwa [prt], by rw [on.mast.tick]; exact hs⟩)
      rw [← awakeTx, ← awakeRx, hax, hay, on.mast.tick] at owed
      exact owed
  · rw [if_neg (by simpa [lpiWakes] using hw)] at run
    exact goes_of_running run h on.frame on.mast.running ⟨fun _ => ports, fun h1 h2 => absurd ⟨h1, h2⟩ hw, read u rfl⟩

end

end Sys2Proof.Machine
end

section
/-! ### CPRI captures (R94 to R97) -/

namespace Sys2Proof.Machine

/-- A CPRI port with the alarms of the frame that has come. -/
def Port.alarmed (a : ℕ) (x : Port) : Port := { x with cpriAlarms := a }

/-- The capture of a port for the bytes that its receiver gives: its header word, then the captured bytes (Table 4-10). -/
def capturePkt (p : ℕ) (ctrl : Bool) (b : List Byte) (s : State) : Pkt := {
  bytes := wordBytes (cpriHeader (bytesNat b 0 4 / 2 ^ 20) (bytesNat b 0 4 / 4096 % 256) (bytesNat b 0 4 / 16 % 256)
    (if ctrl then 0 else (s.prt p).rxGroup) (s.prt p).option (bytesNat b 0 4 % 16) p (b.length - 4) ctrl) ++ b.drop 4
  inPort := p, tile := tileOf p, rx16 := s.now16, rxTick := s.mast.tick, tsEpoch := s.mast.tsEpoch, hold := s.holdoverMark, uncal := s.uncal p
  capture := true }

/-- The bytes are a whole group of basic frames, or a hyperframe of control words, of port p (R95). -/
def CaptureFits (p : ℕ) (ctrl : Bool) (b : List Byte) (s : State) : Prop :=
  if ctrl then b.length = 4 + 256 * cpriWord (s.prt p).option ∧ bytesNat b 0 4 / 16 % 256 = 0
  else b.length = 4 + cpriGroup (s.prt p).rxGroup * cpriIq (s.prt p).option ∧ bytesNat b 0 4 / 16 % 256 % cpriGroup (s.prt p).rxGroup = 0

/-- Port p has the alarms of the frame that has come, and an interrupt tells of them (R94). -/
def alarmsTold (p a : ℕ) (s : State) : State := when (a != 0) (raiseInt 10 .portIntStatus [p] 5) (s.modPort p (Port.alarmed a))

theorem onlyPort_alarmsTold (p a : ℕ) (s : State) : OnlyPort p ((s.prt p).alarmed a) s (alarmsTold p a s) :=
  (onlyPort_modPort ..).steady (steady_when (steady_raiseInt ..))

theorem alarmsTold_status (p a : ℕ) (s : State) : (alarmsTold p a s).rg .portIntStatus [p]
    = if a = 0 then s.rg .portIntStatus [p] else s.rg .portIntStatus [p] ||| 32 := by
  have signals := intSignalCnt_lt
  by_cases ha : a = 0
  · rw [alarmsTold, when, if_neg (by simp [ha]), if_pos ha]
    rfl
  · rw [alarmsTold, when, if_pos (by simp [ha]), if_neg ha, rg_raiseInt_self _ _ _ (by rw [regAddr_portIntStatus]; omega)]
    rfl

theorem uncal_modPort (p a : ℕ) (s : State) : (s.modPort p (Port.alarmed a)).uncal p = s.uncal p := by
  have lanes : (s.modPort p (Port.alarmed a)).lanesOf p = s.lanesOf p := lanesOf_congr (by rw [prt_modPort, if_pos rfl]; rfl)
  rw [State.uncal, State.uncal, lanes]
  rfl

theorem toFeed_pk (t : ℕ) (k : Pkt) {s u : State} (h : u.pk = s.pk) : (toFeed t k u).pk = (toFeed t k s).pk := by
  simp only [toFeed, State.modTl, State.setTl, State.tl, h]

theorem frame_toFeed (t : ℕ) (k : Pkt) (s : State) : Frame [.pk] s (toFeed t k s) :=
  ⟨rfl, fun q hq => by cases q <;> simp_all [Part.same, toFeed, State.modTl, State.setTl]⟩

section
variable {p : ℕ} {s : State} (hp : p < 512) (ctrl : Bool) (b : List Byte)
include hp

theorem exec_cpriCapture : exec (.cpriCapture p ctrl b) s = keep s (cpriCapture p ctrl b s) := by
  change execCpriCapture p ctrl b s = _
  rw [execCpriCapture, Nat.mod_eq_of_lt hp]

/-- Receive lanes that are not AWAKE lose the capture (R97). -/
theorem goes_cpriCapture_asleep (h : Live s) (hx : s.rxAwake p = false) : Goes (.cpriCapture p ctrl b) s [] fun _ => True :=
  goes_unchanged ((exec_cpriCapture hp ctrl b).trans (congrArg (keep s) (if_pos (by simp [hx])))) h

theorem exec_cpriCapture_taken (hl : s.linkUp p = true) (hx : s.rxAwake p = true) (ho : (s.prt p).option ≠ 0)
    (hw : s.awake (domTile (tileOf p)) = true) (hh : bytesNat b 0 4 / 4096 % 256 < 150) (hf : CaptureFits p ctrl b s) :
    exec (.cpriCapture p ctrl b) s = keep s (toFeed (tileOf p) (capturePkt p ctrl b s) (alarmsTold p (bytesNat b 0 4 % 16) s)) := by
  have pkt : capturePkt p ctrl b s = { capturePkt p ctrl b s with uncal := (s.modPort p (Port.alarmed (bytesNat b 0 4 % 16))).uncal p } := by
    rw [uncal_modPort]
    rfl
  rw [exec_cpriCapture hp, pkt, capturePkt, ← List.length_drop]
  refine congrArg (keep s) (if_neg ?_)
  cases ctrl <;> simp_all [CaptureFits]

theorem goes_cpriCapture (h : Live s) (hl : s.linkUp p = true) (hx : s.rxAwake p = true) (ho : (s.prt p).option ≠ 0)
    (hw : s.awake (domTile (tileOf p)) = true) (hh : bytesNat b 0 4 / 4096 % 256 < 150) (hf : CaptureFits p ctrl b s) :
    Goes (.cpriCapture p ctrl b) s [.port, .pk, .out, .regs] fun t =>
      t.pk = (toFeed (tileOf p) (capturePkt p ctrl b s) s).pk ∧ t.prt p = { s.prt p with cpriAlarms := bytesNat b 0 4 % 16 }
      ∧ (∀ k, k ≠ p → t.prt k = s.prt k) ∧ t.port.lanes = s.port.lanes
      ∧ t.rg .portIntStatus [p] = if bytesNat b 0 4 % 16 = 0 then s.rg .portIntStatus [p] else s.rg .portIntStatus [p] ||| 32 := by
  have told := onlyPort_alarmsTold p (bytesNat b 0 4 % 16) s
  have status := alarmsTold_status p (bytesNat b 0 4 % 16) s
  refine goes_of_running (exec_cpriCapture_taken hp ctrl b hl hx ho hw hh hf) h
    (Frame.trans (Frame.mono (by simp) told.frame) (Frame.mono (by simp) (frame_toFeed ..))) ?_
    ⟨toFeed_pk _ _ (told.frame.2 .pk (by decide)), told.prt, told.others, told.lanes, status⟩
  exact congrArg Mast.running told.mast

end

/-! CPRI transmit. -/

/-- The basic frame that port p sends next, and how many go together (R96). -/
def State.cpriStart (s : State) (p : ℕ) : ℤ := (s.prt p).cpriNext.getD (s.cpriNow p)
def State.cpriCount (s : State) (p : ℕ) : ℕ :=
  if s.cpriStart p % (cpriGroup (s.prt p).cpriGroup : ℤ) = 0 then cpriGroup (s.prt p).cpriGroup else 4

/-- The number of the basic frame that port p sends next, within 4,096 CPRI frames. -/
def State.cpriKey (s : State) (p : ℕ) : ℕ := (s.cpriStart p % (4096 * 38400)).toNat

/-- A CPRI port that has sent the n basic frames from frame i, whose number is `key`. -/
def Port.cpriSent (i : ℤ) (n key : ℕ) (x : Port) : Port := { x with cpriNext := some (i + n), cpriTx := x.cpriTx.filter fun c => c.1 != key }

/-- The control words of n basic frames from `bf`, as far as the control table holds them. -/
def Port.ctrlWords (bf n : ℕ) (x : Port) : List Byte := (x.cpriCtrl.drop (bf * cpriWord x.option)).take (n * cpriWord x.option)

/-- The bytes of n basic frames: the number of the first, the control words, then the IQ areas. -/
def Port.cpriFrames (bf n key : ℕ) (iq : List Byte) (x : Port) : List Byte :=
  bytesBE 4 key ++ x.ctrlWords bf n ++ List.replicate (n * cpriWord x.option - (x.ctrlWords bf n).length) 0 ++ iq

theorem cpriFrames_take (bf n key : ℕ) (iq : List Byte) (x : Port) : (x.cpriFrames bf n key iq).take 4 = bytesBE 4 key := by
  rw [Port.cpriFrames, List.append_assoc, List.append_assoc]
  exact List.take_left' (length_bytesBE ..)

theorem cpriFrames_drop (bf n key : ℕ) (iq : List Byte) (x : Port) : (x.cpriFrames bf n key iq).drop (4 + n * cpriWord x.option) = iq := by
  have words : (x.ctrlWords bf n).length ≤ n * cpriWord x.option := List.length_take_le ..
  refine List.drop_left' ?_
  simp only [List.length_append, length_bytesBE, List.length_replicate]
  omega

/-- Port p sends the basic frames that come. -/
def cpriSend (p : ℕ) (iq : List Byte) (s u : State) : State :=
  sendLink p ((s.prt p).cpriFrames (s.cpriStart p % 256).toNat (s.cpriCount p) (s.cpriKey p) iq)
    (u.modPort p (Port.cpriSent (s.cpriStart p) (s.cpriCount p) (s.cpriKey p)))

theorem onlyPort_cpriSend {p : ℕ} (iq : List Byte) {s u : State} (hu : Steady [.out, .regs] s u) :
    OnlyPort p ((s.prt p).cpriSent (s.cpriStart p) (s.cpriCount p) (s.cpriKey p)) s (cpriSend p iq s u) := by
  have set := onlyPort_modPort p (Port.cpriSent (s.cpriStart p) (s.cpriCount p) (s.cpriKey p)) u
  rw [prt_congr (hu.same (p := .port))] at set
  exact ((onlyPort_of_steady p hu).trans set).steady ((steady_linkMsgs ..).mono (by decide))

/-- The capture of the basic frame that comes. -/
def State.cpriDue (s : State) (p : ℕ) : Option (ℕ × List Byte) := (s.prt p).cpriTx.find? fun c => c.1 == s.cpriKey p

/-- Its bytes, or zeros where it is absent. -/
def State.cpriIqNext (s : State) (p : ℕ) : List Byte := match s.cpriDue p with
  | some c => c.2
  | none => List.replicate (s.cpriCount p * cpriIq (s.prt p).option) 0

/-- An absent capture is counted as an underrun. -/
def cpriCounted (p : ℕ) (s : State) : State := if (s.cpriDue p).isSome then s else s.bump .cpriCnt [p] 63 32

theorem steady_cpriCounted (p : ℕ) (s : State) : Steady [.out, .regs] s (cpriCounted p s) :=
  steady_ite (.refl ..) ((steady_bump ..).mono (by decide))

theorem cpriCounted_out (p : ℕ) (s : State) : (cpriCounted p s).out = s.out := by
  unfold cpriCounted
  split <;> rfl

section
variable {p : ℕ} {s : State} (hp : p < 512) (hl : s.linkUp p = true) (hx : s.txAwake p = true) (ho : (s.prt p).option ≠ 0)
  (hd : (s.timeline (s.prt p).cpriTimeline).configured = true) (hi : s.cpriStart p % s.cpriCount p = 0)
  (ht : s.cpri16 p (s.cpriStart p) ≤ s.now16)
include hp hl hx ho hd hi ht

theorem exec_cpriTxFrame : exec (.cpriTxFrame p) s = keep s (cpriSend p (s.cpriIqNext p) s (cpriCounted p s)) := by
  change execCpriTxFrame p s = _
  rw [execCpriTxFrame, Nat.mod_eq_of_lt hp]
  have sent : cpriTxFrame p s = match s.cpriDue p with
      | some c => cpriSend p c.2 s s
      | none => cpriSend p (List.replicate (s.cpriCount p * cpriIq (s.prt p).option) 0) s (s.bump .cpriCnt [p] 63 32) :=
    (if_neg (by simp [hl, hx, ho, hd])).trans (if_neg (not_or.mpr ⟨not_not.mpr hi, not_lt.mpr ht⟩))
  rw [sent, State.cpriIqNext, cpriCounted]
  cases s.cpriDue p <;> rfl

theorem goes_cpriTxFrame (h : Live s) : Goes (.cpriTxFrame p) s [.port, .out, .regs] fun t =>
    t.regs = (cpriCounted p s).regs
    ∧ t.prt p = (s.prt p).cpriSent (s.cpriStart p) (s.cpriCount p) (s.cpriKey p)
    ∧ (∃ m, t.out = { s.out with linkMsgs := s.out.linkMsgs ++ [(p, m)] } ∧ m.take 4 = bytesBE 4 (s.cpriKey p)
      ∧ m.drop (4 + s.cpriCount p * cpriWord (s.prt p).option) = s.cpriIqNext p)
    ∧ ∀ k, k ≠ p → t.prt k = s.prt k := by
  have on := onlyPort_cpriSend (p := p) (s.cpriIqNext p) (steady_cpriCounted p s)
  refine goes_of_onlyPort (exec_cpriTxFrame hp hl hx ho hd hi ht) h on
    ⟨rfl, on.prt, ⟨_, ?_, cpriFrames_take (s.cpriStart p % 256).toNat .., cpriFrames_drop ..⟩, on.others⟩
  rw [← cpriCounted_out p s]
  rfl

end

/-- Settles O12: each clause is the rule of its event. -/
theorem portProtocol : Obligations.PortProtocol := by
  unfold Obligations.PortProtocol
  intro p s hp h
  refine ⟨goes_trainTimerExpiry h hp, goes_backoffExpiry h hp, goes_linkStable h hp, goes_portRestart h hp, goes_portRestart_up h hp,
    fun hf hc ha hg ht => goes_of_sendHello (exec_helloProbeTimer_probe hp hf hc ha hg ht) h,
    fun hc hl hv hx ht => goes_of_sendHello (exec_helloProbeTimer_agree hp hc hl hv hx ht) h,
    fun b hl hx hc hg hb => goes_helloRx_goodbye h hp b hx hc hg hl hb, fun b _ hx => goes_helloRx_asleep hp b h hx,
    fun b hf hx hc hg ha hs hv ht hsel hn hm => goes_helloRx_agree h hp b hx hc hg hf ha hs hv ht hsel hn hm,
    fun x y hl hx hy hi ht => goes_topsailGo h hp hl hx hy hi ht, fun x hi ha ht => goes_topsailRetune h hp hi ha ht,
    fun x hl hx ht => goes_epochAgreeTimeout h hp hl hx ht, fun enter tx hl he => ?_,
    fun ctrl b hl hx ho hw hh hf => goes_cpriCapture hp ctrl b h hl hx ho hw hh hf, fun ctrl b _ hx => goes_cpriCapture_asleep hp ctrl b h hx,
    fun hl hx ho hd hi ht => ?_⟩
  · exact goes_lpiRequest hp enter tx h hl he
  · exact goes_cpriTxFrame hp hl hx ho hd hi ht h

end Sys2Proof.Machine
end

section
/-! ### Clusters: what a read gives after a write, and work for their domain -/

namespace Sys2Proof.Machine

theorem cluster_setCluster (s : State) (q j : ℕ) (v : Cluster) : (s.setCluster q v).cluster j = if j = q then v else s.cluster j := tget_tset ..

theorem cluster_congr {s t : State} (h : t.hk = s.hk) (q : ℕ) : t.cluster q = s.cluster q := by rw [State.cluster, State.cluster, h]

theorem enginesOk_congr {s t : State} (h : t.hk = s.hk) (q : ℕ) : t.enginesOk q = s.enginesOk q := by rw [State.enginesOk, State.enginesOk, cluster_congr h]

theorem steady_setCluster (q : ℕ) (v : Cluster) (s : State) : Steady [.hk] s (s.setCluster q v) :=
  steady_of_frame ⟨rfl, fun p hp => by cases p <;> simp_all [Part.same]⟩

theorem steady_work (d : ℕ) (s : State) : Steady [.power] s (work d s) := steady_of_frame (frame_work d s)

theorem cluster_work (d : ℕ) (s : State) (q : ℕ) : (work d s).cluster q = s.cluster q := cluster_congr (work_hk d s) q

theorem steady_modTl (k : ℕ) (f : TileState → TileState) (s : State) : Steady [.pk] s (s.modTl k f) := steady_of_frame (frame_modTl k f s)

theorem tl_modTl (s : State) (t j : ℕ) (f : TileState → TileState) : (s.modTl t f).tl j = if j = t then f (s.tl t) else s.tl j := tget_tset ..

theorem tl_congr {s t : State} (h : t.pk = s.pk) (k : ℕ) : t.tl k = s.tl k := by rw [State.tl, State.tl, h]

/-! ### The feed crossbar (R200, R95) -/

theorem nodup_eraseDups (l : List ℕ) : l.eraseDups.Nodup := by
  match l with
  | [] => simp
  | a :: l =>
    rw [List.eraseDups_cons]
    exact List.nodup_cons.mpr ⟨by simp, nodup_eraseDups _⟩
termination_by l.length
decreasing_by exact Nat.lt_succ_of_le (List.length_filter_le ..)

theorem steady_toCluster (q kind : ℕ) (k : Pkt) (s : State) : Steady [.hk, .power] s (toCluster q kind k s) :=
  ((steady_setCluster ..).mono (by decide)).trans ((steady_work ..).mono (by decide))

theorem toCluster_feed (q kind j : ℕ) (k : Pkt) (s : State) : ((toCluster q kind k s).cluster j).feed
    = if j = q then (s.cluster j).feed ++ [feedItem kind k s.mast.tick] else (s.cluster j).feed := by
  rw [toCluster, cluster_work, cluster_setCluster]
  split
  next h =>
    subst h
    rfl
  next => rfl

/-- A packet goes to each cluster of a list. -/
def toClusters (qs : List ℕ) (kind : ℕ) (k : Pkt) (s : State) : State := qs.foldl (fun s q => toCluster q kind k s) s

theorem steady_toClusters (qs : List ℕ) (kind : ℕ) (k : Pkt) (s : State) : Steady [.hk, .power] s (toClusters qs kind k s) :=
  steady_foldl qs (fun _ _ => steady_toCluster ..) s

/-- Each cluster of the list has the packet last at its feed input. -/
theorem toClusters_feed {qs : List ℕ} (h : qs.Nodup) (kind j : ℕ) (k : Pkt) (s : State) : ((toClusters qs kind k s).cluster j).feed
    = if j ∈ qs then (s.cluster j).feed ++ [feedItem kind k s.mast.tick] else (s.cluster j).feed := by
  induction qs generalizing s with
  | nil => rfl
  | cons q qs ih =>
    obtain ⟨hq, hqs⟩ := List.nodup_cons.mp h
    change ((toClusters qs kind k (toCluster q kind k s)).cluster j).feed = _
    rw [ih hqs, toCluster_feed, (steady_toCluster q kind k s).same (p := .mast)]
    by_cases hj : j = q
    · subst hj
      simp [hq]
    · simp [hj]

/-- A Tile whose feed link has given up its head. -/
def TileState.fed (rest : List Pkt) (tl : TileState) : TileState := { tl with feed := rest }

/-- The head of a Tile's feed link has gone to the clusters qs. -/
def FeedMoved (n kind : ℕ) (k : Pkt) (rest : List Pkt) (qs : List ℕ) (s t : State) : Prop :=
  t.tl n = { s.tl n with feed := rest } ∧ (∀ j, j ≠ n → t.tl j = s.tl j)
  ∧ ∀ q, (t.cluster q).feed = if q ∈ qs then (s.cluster q).feed ++ [feedItem kind k s.mast.tick] else (s.cluster q).feed

theorem feedMoved_toClusters {qs ps : List ℕ} (h : qs.Nodup) (hm : ∀ q, q ∈ qs ↔ q ∈ ps) (n kind : ℕ) (k : Pkt) (rest : List Pkt) (s : State) :
    FeedMoved n kind k rest ps s (toClusters qs kind k (s.modTl n (TileState.fed rest))) := by
  have pk : (toClusters qs kind k (s.modTl n (TileState.fed rest))).pk = (s.modTl n (TileState.fed rest)).pk := (steady_toClusters ..).same (p := .pk)
  refine ⟨?_, fun j hj => ?_, fun q => ?_⟩
  · rw [tl_congr pk, tl_modTl, if_pos rfl]
    rfl
  · rw [tl_congr pk, tl_modTl, if_neg hj]
  · simp only [toClusters_feed h, hm]
    rfl

section
variable {n : ℕ} {k : Pkt} {rest : List Pkt} {s : State} (hn : n < 16) (hf : (s.tl n).feed = k :: rest)
include hn hf

/-- A packet that is not a capture goes to the clusters that its binding names. -/
theorem exec_skeinFeedPacket : exec (.skeinFeedPacket n) s = keep s (
    if k.capture then toClusters [n / 4] 2 k (s.modTl n (TileState.fed rest))
    else
      let p := parse (s.parseCfgOf n k.inPort) k.bytes
      if p.dravua && p.dravuaType == 0x11 then
        let x := s.skein (bytesNat k.bytes (p.msgOff + 6) 2)
        if x.valid then toClusters [x.cluster] 1 k (s.modTl n (TileState.fed rest)) else (s.modTl n (TileState.fed rest)).bump .skDropCnt [0, 1] 47 0
      else match feedKey p k.inPort k.bytes with
        | none => (s.modTl n (TileState.fed rest)).bump .skDropCnt [0, 1] 47 0
        | some key =>
          let qs := ((s.bound key).map fun x => (s.skein x.1).cluster).eraseDups
          if qs.isEmpty then (s.modTl n (TileState.fed rest)).bump .skDropCnt [0, 1] 47 0 else toClusters qs 0 k (s.modTl n (TileState.fed rest))) := by
  change execSkeinFeedPacket n s = _
  rw [execSkeinFeedPacket, Nat.mod_eq_of_lt hn, feedPacket, hf]
  rfl

omit hn hf in
theorem goes_of_toClusters {kind : ℕ} {qs ps : List ℕ} (h : Live s) (hq : qs.Nodup) (hm : ∀ q, q ∈ qs ↔ q ∈ ps)
    (run : exec (.skeinFeedPacket n) s = keep s (toClusters qs kind k (s.modTl n (TileState.fed rest)))) :
    Goes (.skeinFeedPacket n) s [.pk, .hk, .power] (FeedMoved n kind k rest ps s) :=
  goes_of_keep run h (((steady_modTl ..).mono (by decide)).trans ((steady_toClusters ..).mono (by decide))) (feedMoved_toClusters hq hm ..)

theorem goes_feed_capture (h : Live s) (hc : k.capture = true) :
    Goes (.skeinFeedPacket n) s [.pk, .hk, .power] (FeedMoved n 2 k rest [n / 4] s) := by
  refine goes_of_toClusters h (List.nodup_singleton _) (fun _ => Iff.rfl) ?_
  rw [exec_skeinFeedPacket hn hf, if_pos hc]

theorem goes_feed_weights (h : Live s) (hc : k.capture = false) (hd : (parse (s.parseCfgOf n k.inPort) k.bytes).dravua = true)
    (ht : (parse (s.parseCfgOf n k.inPort) k.bytes).dravuaType = 0x11)
    (hv : (s.skein (bytesNat k.bytes ((parse (s.parseCfgOf n k.inPort) k.bytes).msgOff + 6) 2)).valid = true) :
    Goes (.skeinFeedPacket n) s [.pk, .hk, .power] (FeedMoved n 1 k rest
      [(s.skein (bytesNat k.bytes ((parse (s.parseCfgOf n k.inPort) k.bytes).msgOff + 6) 2)).cluster] s) := by
  refine goes_of_toClusters h (List.nodup_singleton _) (fun _ => Iff.rfl) ?_
  rw [exec_skeinFeedPacket hn hf, if_neg (by simp [hc]), if_pos (by simp [hd, ht]), if_pos hv]

theorem goes_feed_sections (h : Live s) {key : ℕ × ℕ × ℕ × ℕ} (hc : k.capture = false)
    (hw : ¬((parse (s.parseCfgOf n k.inPort) k.bytes).dravua = true ∧ (parse (s.parseCfgOf n k.inPort) k.bytes).dravuaType = 0x11))
    (hk : feedKey (parse (s.parseCfgOf n k.inPort) k.bytes) k.inPort k.bytes = some key) (hb : s.bound key ≠ []) :
    Goes (.skeinFeedPacket n) s [.pk, .hk, .power] (FeedMoved n 0 k rest ((s.bound key).map fun x => (s.skein x.1).cluster) s) := by
  have some' : ¬((s.bound key).map fun x => (s.skein x.1).cluster).eraseDups.isEmpty = true := by
    obtain ⟨x, l, hl⟩ := List.exists_cons_of_ne_nil hb
    simp [hl, List.eraseDups_cons]
  refine goes_of_toClusters h (nodup_eraseDups _) (fun _ => List.mem_eraseDups) ?_
  rw [exec_skeinFeedPacket hn hf, if_neg (by simp [hc]), if_neg (by simpa using hw), hk]
  exact congrArg (keep s) (if_neg some')

/-- A packet of no binding is dropped as NO_BIND (R200). -/
theorem goes_feed_unbound (h : Live s) (hc : k.capture = false)
    (hw : ¬((parse (s.parseCfgOf n k.inPort) k.bytes).dravua = true ∧ (parse (s.parseCfgOf n k.inPort) k.bytes).dravuaType = 0x11))
    (hb : ∀ key, feedKey (parse (s.parseCfgOf n k.inPort) k.bytes) k.inPort k.bytes = some key → s.bound key = []) :
    Goes (.skeinFeedPacket n) s [.pk, .regs] fun t => FeedMoved n 0 k rest [] s t ∧ t.regs = (s.bump .skDropCnt [0, 1] 47 0).regs := by
  have run : exec (.skeinFeedPacket n) s = keep s ((s.modTl n (TileState.fed rest)).bump .skDropCnt [0, 1] 47 0) := by
    rw [exec_skeinFeedPacket hn hf, if_neg (by simp [hc]), if_neg (by simpa using hw)]
    cases hk : feedKey (parse (s.parseCfgOf n k.inPort) k.bytes) k.inPort k.bytes with
    | none => rfl
    | some key =>
      simp only [hb key hk, List.map_nil]
      rfl
  exact goes_of_keep run h (((steady_modTl ..).mono (by decide)).trans ((steady_bump ..).mono (by decide)))
    ⟨feedMoved_toClusters List.nodup_nil (fun _ => Iff.rfl) n 0 k rest s, bump_regs_congr rfl ..⟩

end

/-! A full cluster (R254). -/

theorem regAddr_hkIntStatus (q : ℕ) : regAddr .hkIntStatus [q] = 0x20008 + q * 0x1000 := regAddr_one rfl rfl q
theorem regAddr_hkCnt0 (q : ℕ) : regAddr .hkCnt0 [q] = 0x20038 + q * 0x1000 := regAddr_one rfl rfl q

theorem steady_dropFeed (q : ℕ) (s : State) : Steady [.hk] s (dropFeed q s) := steady_setCluster ..

theorem goes_feedStallDrop {q : ℕ} {f : FeedItem} {rest : List FeedItem} {s : State} (h : Live s) (hq : q < 4)
    (hf : (s.cluster q).feed = f :: rest) (hfull : 8192 ≤ (s.cluster q).queue.length) (ht : f.since + 2 * usTicks ≤ s.mast.tick) :
    Goes (.feedStallDrop q) s [.hk, .out, .regs] fun t =>
      t.cluster q = { s.cluster q with feed := rest } ∧ (∀ j, j ≠ q → t.cluster j = s.cluster j)
      ∧ t.rgf .hkCnt0 [q] 31 16 = satAdd 16 (s.rgf .hkCnt0 [q] 31 16) 1 ∧ bitAt (t.rg .hkIntStatus [q]) 5 = true := by
  have run : exec (.feedStallDrop q) s = keep s (raiseInt 8 .hkIntStatus [q] 5 ((dropFeed q s).bump .hkCnt0 [q] 31 16)) := by
    have full : (s.queueFull q && f.since + 2 * usTicks ≤ s.tick) = true := by simp [State.queueFull, hfull, State.tick, ht]
    change execFeedStallDrop q s = _
    rw [execFeedStallDrop, Nat.mod_eq_of_lt hq, feedStall, hf]
    exact congrArg (keep s) (if_pos full)
  have signals := intSignalCnt_lt
  have hk : (raiseInt 8 .hkIntStatus [q] 5 ((dropFeed q s).bump .hkCnt0 [q] 31 16)).hk = (dropFeed q s).hk := raiseInt_hk ..
  refine goes_of_keep run h (((steady_dropFeed ..).mono (by decide)).trans (((steady_bump ..).mono (by decide)).trans
    ((steady_raiseInt ..).mono (by decide)))) ⟨?_, fun j hj => ?_, ?_, ?_⟩
  · rw [cluster_congr hk, dropFeed, cluster_setCluster, if_pos rfl, hf]
    rfl
  · rw [cluster_congr hk, dropFeed, cluster_setCluster, if_neg hj]
  · refine (RegsBut.rgf (regsBut_raised 8 .hkIntStatus [q] 5 _) ?_ 31 16).trans (rgf_bump_self (dropFeed q s) _ _ 1 (by decide) (by decide))
    simp only [List.mem_cons, List.not_mem_nil, or_false, not_or, regAddr_hkCnt0, regAddr_hkIntStatus]
    omega
  · rw [rg_raiseInt_self _ _ _ (by rw [regAddr_hkIntStatus]; omega)]
    exact bitAt_or_two_pow _ (by decide)

end Sys2Proof.Machine
end

section
/-! ### Events for a cluster (R252) -/

namespace Sys2Proof.Machine

/-- A cluster with an event last in its dispatch queue. -/
def Cluster.posted (e : HkEvent) (c : Cluster) : Cluster :=
  { c with queue := c.queue ++ [{ e with prio := fld (c.entry c.active e.opcode) 60 59, seq := c.nextSeq }], nextSeq := c.nextSeq + 1 }

/-- An event of HARDWARE source that a cluster takes stands last in its queue. -/
theorem postHook_taken {q op : ℕ} {e : HkEvent} {s : State} (hc : Clean s) (ht : HookTakes q op s) (ho : e.opcode = op) (hs : e.source = 0) :
    postHook q e s = work (domCluster q) (s.setCluster q ((s.cluster q).posted e)) := by
  subst ho
  obtain ⟨valid, room⟩ := ht
  have full : ¬8192 ≤ (s.cluster q).queue.length := not_le.mpr room
  simp only [postHook, clean_memRead hc, clean_data, hs, valid, Cluster.posted]
  simp [full]

/-- An event changes at most the queue of a cluster. -/
theorem postHook_cluster (q j : ℕ) (e : HkEvent) (s : State) :
    ∃ l n, (postHook q e s).cluster j = { s.cluster j with queue := l, nextSeq := n } := by
  have read : ∀ mem j, (memRead 8 q 2 mem 4 s).st.cluster j = s.cluster j := fun mem j => cluster_congr (by simp) j
  unfold postHook
  simp only []
  split
  · exact ⟨_, _, read _ j⟩
  · split
    · exact ⟨_, _, (cluster_congr (raiseInt_hk ..) j).trans (read _ j)⟩
    · simp only [cluster_work, cluster_setCluster, read]
      split
      next h =>
        subst h
        exact ⟨_, _, rfl⟩
      next => exact ⟨_, _, rfl⟩

theorem evWord0_fields (op bytes payload : ℕ) (e : HkEvent) (h : e.w0 = evWord0 op 0 bytes payload) : e.opcode = op % 256 ∧ e.source = 0 := by
  simp only [HkEvent.opcode, HkEvent.source, h, evWord0, fld, nfld, BitVec.toNat_ofNat]
  constructor <;> omega

/-! ### Instances of a Skein -/

theorem skein_setSkein (s : State) (k j : ℕ) (x : Skein) : (s.setSkein k x).skein j = if j = k then x else s.skein j := tget_tset ..

theorem skein_modSkein (s : State) (k j : ℕ) (f : Skein → Skein) : (s.modSkein k f).skein j = if j = k then f (s.skein k) else s.skein j := tget_tset ..

theorem skein_congr {s t : State} (h : t.sk = s.sk) (k : ℕ) : t.skein k = s.skein k := by rw [State.skein, State.skein, h]

theorem occ_of_instOf {x : Skein} {n : ℤ} {i : Instance} (h : x.instOf n = some i) : i.occ = n := by simpa using List.find?_some h

/-- A replaced instance is found under its own occurrence alone. -/
theorem instOf_setInst (x : Skein) (i : Instance) (m : ℤ) :
    (x.setInst i).instOf m = if m = i.occ then (x.instOf m).map fun _ => i else x.instOf m := by
  simp only [Skein.setInst, Skein.instOf]
  induction x.insts with
  | nil => simp
  | cons j l ih =>
    by_cases hj : j.occ = i.occ <;> by_cases hm : m = i.occ
    · subst hm
      simp [hj]
    · simpa [hj, hm, Ne.symm hm] using ih
    · subst hm
      simpa [hj] using ih
    · by_cases hjm : j.occ = m
      · simp [hm, hjm]
      · simpa [hj, hm, hjm] using ih

/-- A change of an instance, known by its occurrence. -/
theorem skein_modInst {s : State} {k : ℕ} {n : ℤ} {i : Instance} (h : (s.skein k).instOf n = some i) (f : Instance → Instance) (j : ℕ) :
    (s.modInst k n f).skein j = if j = k then (s.skein k).setInst (f i) else s.skein j := by
  rw [State.modInst, skein_modSkein, h]

theorem instOf_modInst {s : State} {k : ℕ} {n : ℤ} {i : Instance} (h : (s.skein k).instOf n = some i) {f : Instance → Instance}
    (hf : (f i).occ = i.occ) : ((s.modInst k n f).skein k).instOf n = some (f i) := by
  rw [skein_modInst h, if_pos rfl, instOf_setInst, if_pos (by rw [hf, occ_of_instOf h]), h]
  rfl

/-! ### Sections (R201 to R203) -/

theorem exec_sectionAdmit {q : ℕ} (hq : q < 4) (s : State) : exec (.sectionAdmit q) s = keep s (sectionAdmit q s) := by
  change execSectionAdmit q s = _
  rw [execSectionAdmit, Nat.mod_eq_of_lt hq]

section
variable {q : ℕ} {f : FeedItem} {rest : List FeedItem} {s : State} (hq : q < 4) (hf : (s.cluster q).feed = f :: rest)
  (hw : s.awake (domCluster q) = true)

/-- What an awake cluster does with the head of its feed input. -/
theorem sectionAdmit_eq (hf : (s.cluster q).feed = f :: rest) (hw : s.awake (domCluster q) = true) (hk : f.kind ≠ 1) : sectionAdmit q s =
    if s.queueFull q then s
    else if f.kind = 2 then
      postHook q { w0 := evWord0 6 0 f.bytes.length 0, w2 := f.w2, w3 := f.w3, pkt := f.bytes } (dropFeed q s)
    else if s.enginesOk q = 0 then
      (f.left.getD (admissionOrder (packetSections q f s))).foldl (fun s x => skCount q x.1 12 s) (dropFeed q s)
    else takeSections q f (packetSections q f s) (f.left.getD (admissionOrder (packetSections q f s))) f.sent s := by
  unfold sectionAdmit
  rw [hf]
  simp only [if_neg hk, hw, Bool.not_true, Bool.false_eq_true, if_false]

include hq hf hw

theorem goes_sectionAdmit_full (h : Live s) (hk : f.kind ≠ 1) (hfull : s.queueFull q = true) : Goes (.sectionAdmit q) s [] fun _ => True :=
  goes_unchanged ((exec_sectionAdmit hq s).trans (congrArg (keep s) ((sectionAdmit_eq hf hw hk).trans (if_pos hfull)))) h

omit hq hw in
theorem cluster_dropFeed (j : ℕ) : (dropFeed q s).cluster j = if j = q then { s.cluster q with feed := rest } else s.cluster j := by
  rw [dropFeed, cluster_setCluster, hf]
  rfl

theorem goes_sectionAdmit_capture (h : Live s) (hc : Clean s) (hk : f.kind = 2) (ht : HookTakes q 6 s) :
    Goes (.sectionAdmit q) s [.hk, .power] fun t =>
      (t.cluster q).feed = rest ∧ Posted q { w0 := evWord0 6 0 f.bytes.length 0, w2 := f.w2, w3 := f.w3, pkt := f.bytes } s t := by
  have room : s.queueFull q = false := by simpa [State.queueFull] using ht.2
  have dropped := cluster_dropFeed hf q
  rw [if_pos rfl] at dropped
  have takes : HookTakes q 6 (dropFeed q s) := by
    rw [HookTakes, dropped]
    exact ht
  obtain ⟨op, src⟩ := evWord0_fields 6 f.bytes.length 0 { w0 := evWord0 6 0 f.bytes.length 0, w2 := f.w2, w3 := f.w3, pkt := f.bytes } rfl
  have run : exec (.sectionAdmit q) s = keep s (work (domCluster q) ((dropFeed q s).setCluster q (((dropFeed q s).cluster q).posted
      { w0 := evWord0 6 0 f.bytes.length 0, w2 := f.w2, w3 := f.w3, pkt := f.bytes }))) := by
    rw [exec_sectionAdmit hq, sectionAdmit_eq hf hw (by rw [hk]; decide), room, if_neg (by decide), if_pos hk, postHook_taken (s := dropFeed q s) hc takes op src]
  refine goes_of_keep run h (((steady_dropFeed ..).mono (by decide)).trans (((steady_setCluster ..).mono (by decide)).trans
    ((steady_work ..).mono (by decide)))) ?_
  rw [Posted, cluster_work, cluster_setCluster, if_pos rfl, dropped]
  exact ⟨rfl, rfl⟩

end

/-! A section that is admitted. -/

/-- The PRBs of a section within a Skein, from the first to behind the last (R202). -/
def Skein.clipLo (x : Skein) (sec : Section) : ℕ := max sec.start x.startPrb
def Skein.clipHi (x : Skein) (sec : Section) : ℕ := min (sec.start + sec.nprb) (x.startPrb + x.numPrb)

/-- The STITCH event of an admitted section. -/
def State.stitchOf (s : State) (k slot : ℕ) (i : Instance) (sec : Section) (f : FeedItem) : HkEvent :=
  stitchEvent k slot i sec ((s.skein k).clipLo sec) ((s.skein k).clipHi sec - (s.skein k).clipLo sec) (recBytes sec.comp) (s.skein k).startPrb s.sk.nextOrder f

/-- An instance that has admitted a section (R203). -/
def Instance.taking (x : Skein) (slot : ℕ) (e : W) (sec : Section) (order : ℕ) (own : Contrib) (i : Instance) : Instance := { i with
  strands := tset {} i.strands slot {
    next := x.clipHi sec - x.startPrb, gap := own.gap || decide (own.next < x.clipLo sec - x.startPrb), bits := needBits e sec
    incomplete := own.incomplete ||| sec.incomplete }
  outstanding := i.outstanding ++ [{ order := order, slot := slot, first := x.clipLo sec - x.startPrb, nprb := x.clipHi sec - x.clipLo sec }]
  trace := i.trace ++ [(slot, x.clipLo sec - x.startPrb, x.clipHi sec - x.clipLo sec)]
  carried := i.carried ||| (sec.flags &&& 0xDB) }

/-- The next section of a cluster comes after the one that it has taken. -/
def ordered (o : ℕ) (s : State) : State := { s with sk := { s.sk with nextOrder := o } }

/-- Cluster q has taken a section. -/
def sectionTaken (q k slot : ℕ) (e : W) (i : Instance) (sec : Section) (f : FeedItem) (s : State) : State :=
  ordered (s.sk.nextOrder + 1) ((work (domCluster q) (s.setCluster q ((s.cluster q).posted (s.stitchOf k slot i sec f)))).modInst k i.occ
    fun j => j.taking (s.skein k) slot e sec s.sk.nextOrder (tget {} i.strands slot))

/-- What R201 asks of a section and its Strand, and R203 of the instance that it goes to. -/
structure SectionFits (k slot : ℕ) (e : W) (sec : Section) (n : ℤ) (i : Instance) (s : State) : Prop where
  typeOk : sec.typeOk = true
  whole : sec.whole = true
  comp : sec.comp = stComp e
  range : (s.skein k).clipLo sec < (s.skein k).clipHi sec
  mode : (s.timeline (s.skein k).tlNo).mode ≠ 2
  named : namedSymbol (s.timeline (s.skein k).tlNo) s.now16 sec.frame sec.sub sec.slot sec.sym = some n
  inst : (s.skein k).instOf n = some i
  occ : isOcc (s.timeline (s.skein k).tlNo) i.w1 n = true
  unclosing : i.closing = false
  unclosed : (s.skein k).isClosed (s.timeline (s.skein k).tlNo) n = false
  unmarked : i.fault = false
  active : ((s.skein k).strandState slot).st = 0
  proved : ((s.skein k).strandState slot).from_ = none

/-- No Strand has covered a PRB of the section, and none owns a bit that it needs (R203). -/
structure SectionFree (k slot : ℕ) (e : W) (sec : Section) (i : Instance) (s : State) : Prop where
  rising : (tget {} i.strands slot).next ≤ (s.skein k).clipLo sec - (s.skein k).startPrb
  others : ∀ y ∈ i.strands, y.1 ≠ slot → y.2.bits &&& needBits e sec = 0
  own : (∃ y ∈ i.strands, y.1 = slot) → stPartial e = true → (tget {} i.strands slot).bits = needBits e sec

section
variable {q k slot : ℕ} {e : W} {sec : Section} {n : ℤ} {i : Instance} {f : FeedItem} {s : State}

theorem judge_fits (h : SectionFits k slot e sec n i s) (sent : Bool) :
    judge q k slot e sec sent f s = (admitSection q k slot e i sec ((s.skein k).clipLo sec) ((s.skein k).clipHi sec - 1) f s, sent) := by
  obtain ⟨typeOk, whole, comp, range, mode, named, inst, occ, unclosing, unclosed, unmarked, active, proved⟩ := h
  have begins : ¬(s.skein k).clipHi sec ≤ (s.skein k).clipLo sec := not_le.mpr range
  unfold Skein.clipLo Skein.clipHi at *
  simp [judge, typeOk, whole, comp, begins, mode, named, inst, occ, unclosing, unclosed, unmarked, active, proved, when]

theorem admitSection_free (hc : Clean s) (ht : HookTakes q 0 s) (h : SectionFree k slot e sec i s)
    (hr : (s.skein k).clipLo sec < (s.skein k).clipHi sec) :
    admitSection q k slot e i sec ((s.skein k).clipLo sec) ((s.skein k).clipHi sec - 1) f s = sectionTaken q k slot e i sec f s := by
  have stop : (s.skein k).clipHi sec - 1 + 1 = (s.skein k).clipHi sec := by omega
  obtain ⟨op, src⟩ := evWord0_fields 0 f.bytes.length 0 (s.stitchOf k slot i sec f) rfl
  have taken := postHook_taken hc ht op src
  have others : (i.strands.any fun y => y.1 != slot && y.2.bits &&& needBits e sec != 0) = false := by
    simpa using h.others
  have own : ((i.strands.any fun y => y.1 == slot) && stPartial e && (tget {} i.strands slot).bits != needBits e sec) = false := by
    have := h.own
    simp
    grind
  have longer : ¬((postHook q (s.stitchOf k slot i sec f) s).cluster q).queue.length = (s.cluster q).queue.length := by
    rw [taken, cluster_work, cluster_setCluster, if_pos rfl]
    simp [Cluster.posted]
  unfold admitSection
  rw [stop]
  refine (if_neg (not_lt.mpr h.rising)).trans ((if_neg ?_).trans ((if_neg longer).trans ?_))
  · rw [others, own]
    decide
  · rw [sectionTaken, ← taken]
    rfl

/-- The only section of a packet that the cluster has not begun is the one that it takes. -/
theorem sectionAdmit_single (hc : Clean s) {rest : List FeedItem} (hf : (s.cluster q).feed = f :: rest) (hw : s.awake (domCluster q) = true)
    (hk : f.kind = 0) (hl : f.left = none) (he : s.enginesOk q ≠ 0) (hp : packetSections q f s = [(k, slot, e, [sec])]) (ht : HookTakes q 0 s)
    (fits : SectionFits k slot e sec n i s) (free : SectionFree k slot e sec i s) :
    sectionAdmit q s = dropFeed q (sectionTaken q k slot e i sec f s) := by
  have room : s.queueFull q = false := by simpa [State.queueFull] using ht.2
  have order : admissionOrder [(k, slot, e, [sec])] = [(k, slot, 0)] := rfl
  rw [sectionAdmit_eq hf hw (by rw [hk]; decide), room, if_neg (by decide), if_neg (by rw [hk]; decide), if_neg he, hp, hl, Option.getD_none, order,
    takeSections, room, if_neg (by decide)]
  simp only [List.find?_cons, beq_self_eq_true, Bool.and_self, List.getElem?_cons_zero, judge_fits fits, admitSection_free hc ht free fits.range,
    takeSections]

theorem sectionTaken_cluster : (sectionTaken q k slot e i sec f s).cluster q = (s.cluster q).posted (s.stitchOf k slot i sec f) := by
  refine (cluster_work (domCluster q) _ q).trans ?_
  rw [cluster_setCluster, if_pos rfl]

theorem steady_sectionTaken : Steady [.hk, .sk, .power] s (sectionTaken q k slot e i sec f s) := by
  have counted : ∀ (o : ℕ) (u : State), Steady [.sk] u (ordered o u) := fun o u =>
    steady_of_frame ⟨rfl, fun p hp => by cases p <;> simp_all [Part.same, ordered]⟩
  exact ((steady_setCluster ..).mono (by decide)).trans <| ((steady_work ..).mono (by decide)).trans <|
    ((steady_modInst ..).mono (by decide)).trans ((counted ..).mono (by decide))

theorem sectionTaken_inst (h : (s.skein k).instOf n = some i) : ((sectionTaken q k slot e i sec f s).skein k).instOf n
    = some (i.taking (s.skein k) slot e sec s.sk.nextOrder (tget {} i.strands slot)) := by
  have occ := occ_of_instOf h
  have before : ((work (domCluster q) (s.setCluster q ((s.cluster q).posted (s.stitchOf k slot i sec f)))).skein k).instOf i.occ = some i := by
    rw [skein_congr (work_sk ..), occ]
    exact h
  have after := instOf_modInst before (f := fun j => j.taking (s.skein k) slot e sec s.sk.nextOrder (tget {} i.strands slot)) rfl
  rw [occ] at after
  rw [← after, sectionTaken, occ]
  rfl

theorem goes_sectionAdmit_good (h : Live s) (hq : q < 4) (hc : Clean s) {rest : List FeedItem} (hf : (s.cluster q).feed = f :: rest)
    (hw : s.awake (domCluster q) = true) (hk : f.kind = 0) (hl : f.left = none) (he : s.enginesOk q ≠ 0)
    (hp : packetSections q f s = [(k, slot, e, [sec])]) (ht : HookTakes q 0 s) (fits : SectionFits k slot e sec n i s) (free : SectionFree k slot e sec i s) :
    Goes (.sectionAdmit q) s [.hk, .sk, .power] fun t => (t.cluster q).feed = rest ∧ Posted q (s.stitchOf k slot i sec f) s t
      ∧ (t.skein k).instOf n = some (i.taking (s.skein k) slot e sec s.sk.nextOrder (tget {} i.strands slot)) := by
  have run : exec (.sectionAdmit q) s = keep s (dropFeed q (sectionTaken q k slot e i sec f s)) := by
    rw [exec_sectionAdmit hq, sectionAdmit_single hc hf hw hk hl he hp ht fits free]
  have taken : ((sectionTaken q k slot e i sec f s).cluster q).feed = f :: rest := by
    rw [sectionTaken_cluster]
    exact hf
  have dropped := cluster_dropFeed taken q
  rw [if_pos rfl] at dropped
  refine goes_of_keep run h (steady_sectionTaken.trans ((steady_dropFeed ..).mono (by decide))) ⟨by rw [dropped], ?_, sectionTaken_inst fits.inst⟩
  rw [Posted, dropped, sectionTaken_cluster]
  rfl

end

end Sys2Proof.Machine
end

section
/-! ### Weights (R205) -/

namespace Sys2Proof.Machine

theorem pageField_setPageField (page v : ℕ) (w : W72) : pageField page (setPageField page v w) = v % 2 ^ 36 := by
  unfold pageField setPageField fld72 nfld
  have hw := w.isLt
  split <;> simp only [BitVec.toNat_ofNat] <;> omega

/-- A Skein one page of whose weights has a tag. -/
def Skein.tagged (page : ℕ) (m : ℤ) (x : Skein) : Skein := if page = 0 then { x with page0 := some m } else { x with page1 := some m }

/-- A page that is not claimed has the tag already. -/
theorem pageToWrite_kept {x : Skein} {m : ℤ} {page : ℕ} (h : x.pageToWrite m = some (page, false)) : x.tagged page m = x := by
  unfold Skein.pageToWrite at h
  unfold Skein.tagged
  by_cases h0 : x.page0 = some m
  · simp only [h0, if_true, Option.some.injEq, Prod.mk.injEq, and_true] at h
    rw [if_pos h.symm, ← h0]
  · by_cases h1 : x.page1 = some m
    · simp only [h0, h1, if_true, if_false, Option.some.injEq, Prod.mk.injEq, and_true] at h
      rw [if_neg (by omega), ← h1]
    · simp only [h0, h1, if_false] at h
      split at h
      · simp at h
      · split at h
        · simp at h
        · split at h <;> simp at h

theorem tagged_weightAddr (page : ℕ) (m : ℤ) (x : Skein) (slot g : ℕ) :
    (x.tagged page m).weightAddr slot g = x.weightAddr slot g ∧ (x.tagged page m).cluster = x.cluster := by
  unfold Skein.tagged
  split <;> exact ⟨rfl, rfl⟩

theorem tagged_bounds (page : ℕ) (m : ℤ) (x : Skein) : (x.tagged page m).numStrands = x.numStrands ∧ (x.tagged page m).groups = x.groups := by
  unfold Skein.tagged
  split <;> exact ⟨rfl, rfl⟩

/-! One weight. -/

theorem frame_qwrite (q a : ℕ) (v : W72) (s : State) : Frame [.sk, .flt] s (qwrite q a v s) := by
  refine Frame.trans (Frame.mono (by simp) (frame_memWrite 9 q 0 a s)) (t := memWrite 9 q 0 a s) ?_
  exact ⟨rfl, fun p hp => by cases p <;> simp_all [Part.same, qwrite]⟩

theorem steady_putWeight (k page slot g v : ℕ) (s : State) : Steady [.sk, .flt] s (putWeight k page slot g v s) := steady_of_frame (frame_qwrite ..)

theorem putWeight_skein (k page slot g v j : ℕ) (s : State) : (putWeight k page slot g v s).skein j = s.skein j := by
  simp [putWeight, qwrite, State.skein]

theorem putWeight_qword (k page slot g v q a : ℕ) (s : State) : (putWeight k page slot g v s).qword q a =
    if qKey q a = qKey (s.skein k).cluster ((s.skein k).weightAddr slot g)
    then setPageField page v (s.qword (s.skein k).cluster ((s.skein k).weightAddr slot g)) else s.qword q a := by
  simp [putWeight, qwrite, State.qword, tget_tset]

/-- A list of weights, one after another. -/
def putWeights {ι : Type} (k page : ℕ) (slot g v : ι → ℕ) (l : List ι) (s : State) : State :=
  l.foldl (fun s i => putWeight k page (slot i) (g i) (v i) s) s

section
variable {ι : Type} (k page : ℕ) (slot g v : ι → ℕ) (l : List ι) (s : State)

theorem steady_putWeights : Steady [.sk, .flt] s (putWeights k page slot g v l s) := steady_foldl l (fun _ _ => steady_putWeight ..) s

theorem putWeights_skein (j : ℕ) : (putWeights k page slot g v l s).skein j = s.skein j := by
  induction l generalizing s with
  | nil => rfl
  | cons i l ih => exact (ih _).trans (putWeight_skein ..)

/-- A quarter word that no weight of the list stands in. -/
theorem putWeights_qword {q a : ℕ} (h : ∀ i ∈ l, qKey q a ≠ qKey (s.skein k).cluster ((s.skein k).weightAddr (slot i) (g i))) :
    (putWeights k page slot g v l s).qword q a = s.qword q a := by
  induction l generalizing s with
  | nil => rfl
  | cons i l ih =>
    refine (ih (putWeight k page (slot i) (g i) (v i) s) fun j hj => ?_).trans ?_
    · rw [putWeight_skein]
      exact h j (List.mem_cons_of_mem _ hj)
    · rw [putWeight_qword, if_neg (h i List.mem_cons_self)]

/-- Weights in words of their own read as written. -/
theorem putWeights_read (apart : l.Pairwise fun i j => qKey (s.skein k).cluster ((s.skein k).weightAddr (slot i) (g i))
      ≠ qKey (s.skein k).cluster ((s.skein k).weightAddr (slot j) (g j))) : ∀ i ∈ l,
    pageField page ((putWeights k page slot g v l s).qword (s.skein k).cluster ((s.skein k).weightAddr (slot i) (g i))) = v i % 2 ^ 36 := by
  induction l generalizing s with
  | nil => simp
  | cons i l ih =>
    obtain ⟨first, others⟩ := List.pairwise_cons.mp apart
    have kept := putWeight_skein k page (slot i) (g i) (v i) k s
    intro j hj
    change pageField page ((putWeights k page slot g v l (putWeight k page (slot i) (g i) (v i) s)).qword _ _) = _
    rcases List.mem_cons.mp hj with rfl | hj
    · rw [putWeights_qword k page slot g v l _ (by rwa [kept]), putWeight_qword, if_pos rfl, pageField_setPageField]
    · have read := ih (putWeight k page (slot i) (g i) (v i) s) (by rwa [kept]) j hj
      rwa [kept] at read

end

/-! A page that is claimed. -/

theorem claimPage_eq (k page : ℕ) (m : ℤ) (s : State) : ∃ u, Steady [.sk, .flt] s u ∧ u.skein k = s.skein k
    ∧ claimPage k page m s = u.modSkein k (Skein.tagged page m) := by
  have kept : ∀ (l : List (ℕ × ℕ)) (f : State → ℕ × ℕ → ℕ) (u : State),
      Steady [.sk, .flt] u (l.foldl (fun s c => putWeight k page c.1 c.2 (f s c) s) u)
      ∧ (l.foldl (fun s c => putWeight k page c.1 c.2 (f s c) s) u).skein k = u.skein k := by
    intro l f u
    refine ⟨steady_foldl l (fun _ _ => steady_putWeight ..) u, ?_⟩
    induction l generalizing u with
    | nil => rfl
    | cons c l ih => exact (ih _).trans (putWeight_skein ..)
  obtain ⟨steady, skein⟩ := kept (s.skein k).weightCells (fun u c => if (if page = 0 then (s.skein k).page1 else (s.skein k).page0).isSome
    then pageField (1 - page) (u.qword (s.skein k).cluster ((s.skein k).weightAddr c.1 c.2)) else unity) s
  exact ⟨_, steady, skein, rfl⟩

/-- The page that a message writes is ready: it has the tag of the message's slot. -/
theorem claimed_facts {k page : ℕ} {m : ℤ} {claim : Bool} {s : State} (h : (s.skein k).pageToWrite m = some (page, claim)) :
    Steady [.sk, .flt] s (when claim (claimPage k page m) s) ∧ (when claim (claimPage k page m) s).skein k = (s.skein k).tagged page m := by
  cases claim
  · exact ⟨Steady.refl .., (pageToWrite_kept h).symm⟩
  · obtain ⟨u, steady, skein, eq⟩ := claimPage_eq k page m s
    rw [show when true (claimPage k page m) s = claimPage k page m s from rfl, eq]
    refine ⟨steady.trans ((steady_modSkein ..).mono (by decide)), ?_⟩
    rw [skein_modSkein, if_pos rfl, skein]

/-! The weights of a message lie in words of their own. -/

theorem qKey_inj {c a b : ℕ} (ha : a < b + 4194304) (hb : b < a + 4194304) (h : qKey c a = qKey c b) : a = b := by
  unfold qKey at h
  omega

theorem weightAddr_inj {x : Skein} {n g n' g' : ℕ} (hn : n < x.numStrands) (hn' : n' < x.numStrands) (hg : g < x.groups) (hg' : g' < x.groups)
    (h : qKey x.cluster (x.weightAddr n g) = qKey x.cluster (x.weightAddr n' g')) : n = n' ∧ g = g' := by
  have strands : x.numStrands < 512 := fld_lt x.w0 30 22
  have prbs : x.numPrb < 512 := fld_lt x.w0 43 35
  have groups : x.groups ≤ x.numPrb := by
    rcases Nat.eq_zero_or_pos x.numPrb with h0 | h0
    · simp [Skein.groups, h0]
    · rw [Skein.groups, Nat.div_le_iff_le_mul_add_pred (by omega)]
      nlinarith
  have cell : ∀ n < x.numStrands, n * x.groups ≤ 512 * 512 := fun n hn => Nat.mul_le_mul (by omega) (by omega)
  have cn := cell n hn
  have cn' := cell n' hn'
  have same := qKey_inj (c := x.cluster) (by unfold Skein.weightAddr; omega) (by unfold Skein.weightAddr; omega) h
  have place : g + n * x.groups = g' + n' * x.groups := by
    unfold Skein.weightAddr at same
    omega
  have pos : 0 < x.groups := by omega
  have slot : (g + n * x.groups) / x.groups = (g' + n' * x.groups) / x.groups := by rw [place]
  rw [Nat.add_mul_div_right _ _ pos, Nat.add_mul_div_right _ _ pos, Nat.div_eq_of_lt hg, Nat.div_eq_of_lt hg', Nat.zero_add, Nat.zero_add] at slot
  subst slot
  exact ⟨rfl, Nat.add_right_cancel place⟩

/-! A weight message. -/

/-- Weight i of the `ng` columns of a message, from Strand slot `first` and weight group `fg` on. -/
def msgSlot (first ng i : ℕ) : ℕ := first + i / ng
def msgGroup (fg ng i : ℕ) : ℕ := fg + i % ng

/-- The weights of a message are put into its page, one after another (R205). -/
def messageWeights (k page first fg n ng : ℕ) (v : ℕ → ℕ) (s : State) : State :=
  putWeights k page (msgSlot first ng) (msgGroup fg ng) v (List.range (n * ng)) s

theorem messageWeights_read {k page first fg n ng : ℕ} (v : ℕ → ℕ) {s : State} (hn : first + n ≤ (s.skein k).numStrands)
    (hg : fg + ng ≤ (s.skein k).groups) : ∀ a < n, ∀ g < ng,
      pageField page ((messageWeights k page first fg n ng v s).qword (s.skein k).cluster ((s.skein k).weightAddr (first + a) (fg + g)))
        = v (a * ng + g) % 2 ^ 36 := by
  have cell : ∀ i ∈ List.range (n * ng), msgSlot first ng i < (s.skein k).numStrands ∧ msgGroup fg ng i < (s.skein k).groups := fun i hi => by
    have below : i < n * ng := List.mem_range.mp hi
    have pos : 0 < ng := Nat.pos_of_ne_zero fun h => by simp [h] at below
    have row : i / ng < n := Nat.div_lt_of_lt_mul (by rwa [mul_comm])
    have column := Nat.mod_lt i pos
    unfold msgSlot msgGroup
    omega
  have apart : (List.range (n * ng)).Pairwise fun i j =>
      qKey (s.skein k).cluster ((s.skein k).weightAddr (msgSlot first ng i) (msgGroup fg ng i))
        ≠ qKey (s.skein k).cluster ((s.skein k).weightAddr (msgSlot first ng j) (msgGroup fg ng j)) := by
    refine List.Pairwise.imp_of_mem (fun {i j} hi hj hij he => hij ?_) (List.nodup_range (n := n * ng))
    obtain ⟨hs, hc⟩ := weightAddr_inj (cell i hi).1 (cell j hj).1 (cell i hi).2 (cell j hj).2 he
    have row : i / ng = j / ng := Nat.add_left_cancel hs
    have column : i % ng = j % ng := Nat.add_left_cancel hc
    rw [← Nat.div_add_mod i ng, row, column, Nat.div_add_mod]
  intro a ha g hg
  have pos : 0 < ng := by omega
  have below : a * ng + g < n * ng := by
    calc a * ng + g < (a + 1) * ng := by rw [Nat.succ_mul]; omega
      _ ≤ n * ng := Nat.mul_le_mul_right _ ha
  have row : (a * ng + g) / ng = a := by rw [mul_comm, Nat.mul_add_div pos, Nat.div_eq_of_lt hg, Nat.add_zero]
  have column : (a * ng + g) % ng = g := by rw [mul_comm, Nat.mul_add_mod, Nat.mod_eq_of_lt hg]
  have read := putWeights_read k page (msgSlot first ng) (msgGroup fg ng) v _ s apart (a * ng + g) (List.mem_range.mpr below)
  rwa [msgSlot, msgGroup, row, column] at read

theorem postHook_feed (q j : ℕ) (e : HkEvent) (s : State) : ((postHook q e s).cluster j).feed = (s.cluster j).feed := by
  obtain ⟨_, _, same⟩ := postHook_cluster q j e s
  rw [same]

section
variable {q : ℕ} {f : FeedItem} {rest : List FeedItem} {s : State} {page : ℕ} {claim : Bool} {sym m : ℤ}

/-- The Skein that a weight message at offset o names, and the count of its Strand slots (Table 9-6). -/
def msgSkein (b : List Byte) (o : ℕ) : ℕ := bytesNat b (o + 6) 2
def msgCount (b : List Byte) (o : ℕ) : ℕ := byteAt b (o + 14) + 1

/-- What R205 asks of a weight message at offset o, for a Skein x of this state. -/
structure MessageFits (b : List Byte) (o : ℕ) (x : Skein) (sym : ℤ) (s : State) : Prop where
  epoch : bytesNat b (o + 8) 2 = x.epoch
  named : namedSymbol (s.timeline x.tlNo) s.now16 (byteAt b (o + 10)) (byteAt b (o + 11) % 16) (byteAt b (o + 12) % 64) 0 = some sym
  slots : byteAt b (o + 13) + msgCount b o ≤ x.numStrands
  some' : 0 < bytesNat b (o + 18) 2
  groups : bytesNat b (o + 16) 2 + bytesNat b (o + 18) 2 ≤ x.groups
  length : o + 20 + 5 * msgCount b o * bytesNat b (o + 18) 2 ≤ b.length
  intime : ∀ i ∈ x.insts, i.ix < 2 → i.closing = false → i.occ / (s.timeline x.tlNo).symsPerSlot < sym / (s.timeline x.tlNo).symsPerSlot

/-- A message that fits claims its page, and its weights go there. -/
theorem weightMessage_fits {b : List Byte} {o : ℕ} (h : MessageFits b o (s.skein (msgSkein b o)) sym s)
    (hm : sym / (s.timeline (s.skein (msgSkein b o)).tlNo).symsPerSlot = m) (hp : (s.skein (msgSkein b o)).pageToWrite m = some (page, claim)) :
    weightMessage q o b s = messageWeights (msgSkein b o) page (byteAt b (o + 13)) (bytesNat b (o + 16) 2) (msgCount b o) (bytesNat b (o + 18) 2)
      (fun i => bytesNat b (o + 20 + 5 * i) 5 % 2 ^ 36)
      (when claim (claimPage (msgSkein b o) page m) s) := by
  subst hm
  obtain ⟨epoch, named, slots, some', groups, length, intime⟩ := h
  have early : ((s.skein (msgSkein b o)).insts.any fun i => i.ix < 2 && !i.closing
      && sym / (s.timeline (s.skein (msgSkein b o)).tlNo).symsPerSlot ≤ i.occ / (s.timeline (s.skein (msgSkein b o)).tlNo).symsPerSlot) = false := by
    rw [List.any_eq_false]
    intro i hi
    have := intime i hi
    simp only [Bool.and_eq_true, decide_eq_true_eq, Bool.not_eq_true', not_and, not_le]
    exact fun h => this h.1 h.2
  have shape : ¬((s.skein (msgSkein b o)).numStrands < byteAt b (o + 13) + msgCount b o || bytesNat b (o + 18) 2 = 0
      || (s.skein (msgSkein b o)).groups < bytesNat b (o + 16) 2 + bytesNat b (o + 18) 2
      || b.length < o + 20 + 5 * msgCount b o * bytesNat b (o + 18) 2) = true := by
    simp
    omega
  unfold msgSkein msgCount at *
  unfold weightMessage
  simp only [named, hp]
  rw [if_neg (not_not.mpr epoch), if_neg shape, early]
  rfl

/-- The message at offset o of the packet at the head of the feed input. -/
def FeedItem.msgOff (f : FeedItem) (s : State) : ℕ := (parse (s.parseCfgOf (tileOf f.inPort) f.inPort) f.bytes).msgOff

/-- The WEIGHT event of a message (Table 11-7). -/
def weightEvent (f : FeedItem) (o : ℕ) : HkEvent :=
  { w0 := evWord0 2 0 f.bytes.length 0, w1 := mk 63 48 (msgSkein f.bytes o), w2 := f.w2, w3 := f.w3, pkt := f.bytes }

theorem parseCfgOf_dropFeed (t x : ℕ) : (dropFeed q s).parseCfgOf t x = s.parseCfgOf t x := (rfl)

theorem msgOff_dropFeed : f.msgOff (dropFeed q s) = f.msgOff s := by rw [FeedItem.msgOff, FeedItem.msgOff, parseCfgOf_dropFeed]

/-- What a weight message of a valid Skein does. -/
def weightTaken (q : ℕ) (f : FeedItem) (o : ℕ) (s : State) : State :=
  postHook q (weightEvent f o) (if (s.skein (msgSkein f.bytes o)).valid then weightMessage q o f.bytes s else s.bump .skDropCnt [0, 1] 47 0)

theorem weightArrives_eq (hf : (s.cluster q).feed = f :: rest) (hk : f.kind = 1) (hw : s.awake (domCluster q) = true) :
    weightArrives q s = weightTaken q f (f.msgOff (dropFeed q s)) (dropFeed q s) := by
  unfold weightArrives
  rw [hf]
  simp only [hw, hk, ne_eq, not_true_eq_false, if_false, Bool.not_true, Bool.false_eq_true]
  rfl

theorem exec_weightMessage (hq : q < 4) (hf : (s.cluster q).feed = f :: rest) (hk : f.kind = 1) (hw : s.awake (domCluster q) = true)
    (hv : (s.skein (msgSkein f.bytes (f.msgOff s))).valid = true) : exec (.weightMessage q) s
      = keep s (postHook q (weightEvent f (f.msgOff s)) (weightMessage q (f.msgOff s) f.bytes (dropFeed q s))) := by
  change execWeightMessage q s = _
  rw [execWeightMessage, Nat.mod_eq_of_lt hq, weightArrives_eq hf hk hw, msgOff_dropFeed]
  exact congrArg (fun u => keep s (postHook q _ u)) (if_pos hv)

/-- A message fits as well when it has left the feed input. -/
theorem MessageFits.dropFeed {b : List Byte} {o : ℕ} {x : Skein} (h : MessageFits b o x sym s) : MessageFits b o x sym (dropFeed q s) :=
  ⟨h.epoch, h.named, h.slots, h.some', h.groups, h.length, h.intime⟩

theorem goes_weightMessage (h : Live s) (hq : q < 4) (hf : (s.cluster q).feed = f :: rest) (hk : f.kind = 1) (hw : s.awake (domCluster q) = true)
    (hv : (s.skein (msgSkein f.bytes (f.msgOff s))).valid = true)
    (fits : MessageFits f.bytes (f.msgOff s) (s.skein (msgSkein f.bytes (f.msgOff s))) sym s)
    (hm : sym / (s.timeline (s.skein (msgSkein f.bytes (f.msgOff s))).tlNo).symsPerSlot = m)
    (hp : (s.skein (msgSkein f.bytes (f.msgOff s))).pageToWrite m = some (page, claim)) :
    Goes (.weightMessage q) s [.hk, .sk, .host, .cmd, .out, .flt, .regs, .power] fun t =>
      (t.cluster q).feed = rest
      ∧ t.skein (msgSkein f.bytes (f.msgOff s)) = (s.skein (msgSkein f.bytes (f.msgOff s))).tagged page m
      ∧ ∀ a < msgCount f.bytes (f.msgOff s), ∀ g < bytesNat f.bytes (f.msgOff s + 18) 2,
          pageField page (t.qword (s.skein (msgSkein f.bytes (f.msgOff s))).cluster ((s.skein (msgSkein f.bytes (f.msgOff s))).weightAddr
            (byteAt f.bytes (f.msgOff s + 13) + a) (bytesNat f.bytes (f.msgOff s + 16) 2 + g)))
          = bytesNat f.bytes (f.msgOff s + 20 + 5 * (a * bytesNat f.bytes (f.msgOff s + 18) 2 + g)) 5 % 2 ^ 36 := by
  have run := exec_weightMessage hq hf hk hw hv
  have taken := cluster_dropFeed hf q
  rw [if_pos rfl] at taken
  generalize weightEvent f (f.msgOff s) = e at run
  generalize f.msgOff s = o at *
  generalize f.bytes = b at *
  have same : (dropFeed q s).skein (msgSkein b o) = s.skein (msgSkein b o) := rfl
  rw [weightMessage_fits (s := dropFeed q s) (page := page) (claim := claim) (sym := sym) fits.dropFeed hm hp] at run
  obtain ⟨ready, tagged⟩ := claimed_facts (s := dropFeed q s) hp
  have first := steady_dropFeed q s
  generalize dropFeed q s = d at *
  obtain ⟨_, _, slots, _, groups, _, _⟩ := fits
  rw [same] at tagged
  generalize when claim (claimPage (msgSkein b o) page m) d = u at *
  have base := tagged_weightAddr page m (s.skein (msgSkein b o))
  have read := messageWeights_read (k := msgSkein b o) (page := page) (s := u) (fun i => bytesNat b (o + 20 + 5 * i) 5 % 2 ^ 36)
    (by rw [tagged]; exact (tagged_bounds ..).1 ▸ slots) (by rw [tagged]; exact (tagged_bounds ..).2 ▸ groups)
  have put : Steady [.sk, .flt] u (messageWeights (msgSkein b o) page (byteAt b (o + 13)) (bytesNat b (o + 16) 2) (msgCount b o) (bytesNat b (o + 18) 2)
      (fun i => bytesNat b (o + 20 + 5 * i) 5 % 2 ^ 36) u) := steady_putWeights ..
  have kept := putWeights_skein (msgSkein b o) page (msgSlot (byteAt b (o + 13)) (bytesNat b (o + 18) 2)) (msgGroup (bytesNat b (o + 16) 2)
    (bytesNat b (o + 18) 2)) (fun i => bytesNat b (o + 20 + 5 * i) 5 % 2 ^ 36) (List.range (msgCount b o * bytesNat b (o + 18) 2)) u (msgSkein b o)
  rw [← messageWeights] at kept
  generalize messageWeights (msgSkein b o) page (byteAt b (o + 13)) (bytesNat b (o + 16) 2) (msgCount b o) (bytesNat b (o + 18) 2)
    (fun i => bytesNat b (o + 20 + 5 * i) 5 % 2 ^ 36) u = w at *
  have path : Steady [.hk, .sk, .flt] s w := (first.mono (by decide)).trans ((ready.mono (by decide)).trans (put.mono (by decide)))
  have posted := (steady_postHook q e w).same (p := .sk)
  refine goes_of_keep run h ((path.mono (by decide)).trans ((steady_postHook ..).mono (by decide))) ⟨?_, ?_, fun a ha g hg => ?_⟩
  · rw [postHook_feed, cluster_congr (put.same (p := .hk)), cluster_congr (ready.same (p := .hk)), taken]
  · rw [skein_congr posted, kept, tagged]
  · have value := read a ha g hg
    rw [tagged, (base _ _).1, (base 0 0).2, Nat.mod_mod] at value
    rw [← value, State.qword, State.qword, posted]

end

end Sys2Proof.Machine
end

section
/-! ### What a close leaves (R207, R208, R210) -/

namespace Sys2Proof.Machine

theorem tget_map_markWaits (f : WaitOn → WaitOn) (t : Tbl Engine) (e : ℕ) :
    (tget {} (t.map fun x : ℕ × Engine => (x.1, x.2.markWaits f)) e).failed = (tget {} t e).failed := by
  induction t with
  | nil => rfl
  | cons x t ih =>
    rw [List.map_cons, tget, tget]
    split
    · rfl
    · exact ih

theorem enginesOk_of_failed {s t : State} {q : ℕ} (h : ∀ e, (tget {} (t.cluster q).engines e).failed = (tget {} (s.cluster q).engines e).failed) :
    t.enginesOk q = s.enginesOk q := by simp only [State.enginesOk, h]

theorem enginesOk_markWaits (q j : ℕ) (f : WaitOn → WaitOn) (s : State) : (markWaits q f s).enginesOk j = s.enginesOk j := by
  refine enginesOk_of_failed fun e => ?_
  rw [markWaits, cluster_setCluster]
  split
  next h =>
    subst h
    exact tget_map_markWaits ..
  next => rfl

theorem enginesOk_postHook (q j : ℕ) (e : HkEvent) (s : State) : (postHook q e s).enginesOk j = s.enginesOk j := by
  obtain ⟨_, _, same⟩ := postHook_cluster q j e s
  exact enginesOk_of_failed fun e => by rw [same]

/-- What no close of an occurrence changes in a Skein. -/
def Skein.head (x : Skein) : W × W × W × ℕ × Bool × Option (ℕ × W × W) := (x.w0, x.w1, x.w2, x.epoch, x.destroying, x.rehomeAfter)

/-- What a step of a close of Skein k leaves: it touches instances of the occurrences A alone, and adds `new` to the record of closed ones. -/
structure CloseStep (k : ℕ) (A : Set ℤ) (new : List Closed) (s t : State) : Prop where
  steady : Steady closeParts s t
  engines : ∀ q, t.enginesOk q = s.enginesOk q
  others : ∀ j, j ≠ k → t.skein j = s.skein j
  head : (t.skein k).head = (s.skein k).head
  insts : ∀ n, n ∉ A → (t.skein k).instOf n = (s.skein k).instOf n
  closed : (t.skein k).closed = new ++ (s.skein k).closed

section
variable {k : ℕ} {A B : Set ℤ} {new more : List Closed} {s t u : State}

theorem CloseStep.refl (k : ℕ) (A : Set ℤ) (s : State) : CloseStep k A [] s s := ⟨.refl _ s, fun _ => rfl, fun _ _ => rfl, rfl, fun _ _ => rfl, rfl⟩

theorem CloseStep.trans (f : CloseStep k A new s t) (g : CloseStep k A more t u) : CloseStep k A (more ++ new) s u :=
  ⟨f.steady.trans g.steady, fun q => (g.engines q).trans (f.engines q), fun j hj => (g.others j hj).trans (f.others j hj), g.head.trans f.head,
    fun n hn => (g.insts n hn).trans (f.insts n hn), by rw [g.closed, f.closed, List.append_assoc]⟩

theorem CloseStep.mono (f : CloseStep k A new s t) (h : A ⊆ B) : CloseStep k B new s t :=
  ⟨f.steady, f.engines, f.others, f.head, fun n hn => f.insts n fun ha => hn (h ha), f.closed⟩

/-- What leaves the Skeins and the engines alone. -/
theorem closeStep_of_steady (k : ℕ) (A : Set ℤ) {l : List Part} (h : Steady l s t) (hl : ∀ p ∈ l, p ∈ closeParts)
    (he : ∀ q, t.enginesOk q = s.enginesOk q) (hs : .sk ∉ l := by decide) : CloseStep k A [] s t :=
  have same : t.sk = s.sk := h.frame.2 .sk hs
  ⟨h.mono hl, he, fun j _ => skein_congr same j, by rw [skein_congr same], fun _ _ => by rw [skein_congr same], by rw [skein_congr same]; rfl⟩

/-- A change of the Skein itself. -/
theorem closeStep_setSkein {x : Skein} (hh : x.head = (s.skein k).head) (hi : ∀ n, n ∉ A → x.instOf n = (s.skein k).instOf n)
    (hc : x.closed = new ++ (s.skein k).closed) : CloseStep k A new s (s.setSkein k x) := by
  have self : (s.setSkein k x).skein k = x := by rw [skein_setSkein, if_pos rfl]
  refine ⟨(steady_setSkein ..).mono (by decide), fun _ => rfl, fun j hj => ?_, ?_, ?_, ?_⟩
  · rw [skein_setSkein, if_neg hj]
  all_goals rw [self]
  · exact hh
  · exact hi
  · exact hc

theorem closeStep_modSkein {f : Skein → Skein} (hh : (f (s.skein k)).head = (s.skein k).head)
    (hi : ∀ n, n ∉ A → (f (s.skein k)).instOf n = (s.skein k).instOf n) (hc : (f (s.skein k)).closed = new ++ (s.skein k).closed) :
    CloseStep k A new s (s.modSkein k f) := closeStep_setSkein hh hi hc

/-- A change that touches neither instances nor the record of closed ones. -/
theorem closeStep_tally {f : Skein → Skein} (hh : (f (s.skein k)).head = (s.skein k).head) (hi : (f (s.skein k)).insts = (s.skein k).insts)
    (hc : (f (s.skein k)).closed = (s.skein k).closed) : CloseStep k A [] s (s.modSkein k f) :=
  closeStep_modSkein hh (fun _ _ => by rw [Skein.instOf, Skein.instOf, hi]) hc

theorem closeStep_modInst (k : ℕ) (n : ℤ) {f : Instance → Instance} (hf : ∀ i, (f i).occ = i.occ) (s : State) : CloseStep k {n} [] s (s.modInst k n f) := by
  refine closeStep_modSkein ?_ (fun m hm => ?_) ?_
  all_goals cases h : (s.skein k).instOf n with
    | none => rfl
    | some i => _
  · rfl
  · rw [instOf_setInst, if_neg]
    rw [hf, occ_of_instOf h]
    exact hm
  · rfl

/-! Counters, and the states of the Strands. -/

theorem closeStep_bump (k : ℕ) (A : Set ℤ) (r : RegId) (ix : List ℕ) (hi lo n : ℕ) (s : State) : CloseStep k A [] s (s.bump r ix hi lo n) :=
  closeStep_of_steady k A (steady_bump r ix hi lo n s) (by decide) fun _ => rfl

theorem closeStep_raiseInt (k : ℕ) (A : Set ℤ) (b : ℕ) (r : RegId) (ix : List ℕ) (bit : ℕ) (s : State) : CloseStep k A [] s (raiseInt b r ix bit s) :=
  closeStep_of_steady k A (steady_raiseInt b r ix bit s) (by decide) fun q => enginesOk_congr (raiseInt_hk ..) q

theorem closeStep_when {c : Bool} {f : State → State} (h : CloseStep k A [] s (f s)) : CloseStep k A [] s (when c f s) := by
  cases c
  · exact .refl ..
  · exact h

theorem closeStep_foldl {α : Type} (l : List α) {f : State → α → State} (h : ∀ s, ∀ x ∈ l, CloseStep k A [] s (f s x)) (s : State) :
    CloseStep k A [] s (l.foldl f s) := by
  induction l generalizing s with
  | nil => exact .refl ..
  | cons x l ih => exact (h s x List.mem_cons_self).trans (ih (fun s y hy => h s y (List.mem_cons_of_mem _ hy)) _)

theorem closeStep_skCount (q k code : ℕ) (A : Set ℤ) (s : State) : CloseStep k A [] s (skCount q k code s) := by
  have counted := closeStep_bump k A .skDropCnt [q, code] 47 0 1 s
  unfold skCount
  simp only []
  split
  · exact counted.trans (closeStep_tally (by rfl) (by rfl) (by rfl))
  · exact counted

theorem closeStep_countClose (k flags : ℕ) (A : Set ℤ) (s : State) : CloseStep k A [] s (countClose k flags s) := by
  unfold countClose
  exact (closeStep_bump ..).trans <| (closeStep_when (closeStep_bump ..)).trans <| (closeStep_when (closeStep_raiseInt ..)).trans <|
    closeStep_tally (by rfl) (by rfl) (by rfl)

theorem closeStep_strandsAtClose (k : ℕ) (n : ℤ) (w1 : W) (owners : List ℕ) (A : Set ℤ) (s : State) :
    CloseStep k A [] s (strandsAtClose k n w1 owners s) :=
  closeStep_foldl _ (fun _ _ _ => closeStep_tally (by rfl) (by rfl) (by rfl)) s

theorem closeStep_markWaits (k q : ℕ) (A : Set ℤ) (f : WaitOn → WaitOn) (s : State) : CloseStep k A [] s (markWaits q f s) :=
  closeStep_of_steady k A (steady_markWaits q f s) (by decide) fun j => enginesOk_markWaits q j f s

theorem closeStep_postHook (k q : ℕ) (A : Set ℤ) (e : HkEvent) (s : State) : CloseStep k A [] s (postHook q e s) :=
  closeStep_of_steady k A (steady_postHook q e s) (by decide) fun j => enginesOk_postHook q j e s

end

/-! The close of one occurrence. -/

theorem closeStep_postClose (k : ℕ) (n : ℤ) (s : State) : CloseStep k {n} [] s (postClose k n s) := by
  unfold postClose
  simp only []
  split
  · exact .refl ..
  · split
    · exact .refl ..
    · exact (closeStep_modInst k n (f := fun i => { i with posted := true }) (fun _ => rfl) s).trans (closeStep_postHook ..)

theorem postClose_inst {k : ℕ} {n : ℤ} {i : Instance} {s : State} (h : (s.skein k).instOf n = some i) :
    ∃ b, ((postClose k n s).skein k).instOf n = some { i with posted := b } := by
  unfold postClose
  simp only [h]
  split
  · exact ⟨i.posted, h⟩
  · refine ⟨true, ?_⟩
    rw [skein_congr (postHook_sk ..)]
    exact instOf_modInst h (f := fun i => { i with posted := true }) rfl

/-- An instance whose close has begun (R208). -/
structure Instance.Closing (tick src : ℕ) (noEvent : Bool) (ix : ℕ) (j : Instance) : Prop where
  closing : j.closing = true
  tick : j.closeTick = tick
  src : j.closeSrc = src
  noEvent : j.noEvent = noEvent
  disc : j.disc = false
  ix : j.ix = ix

/-- The record of a close (R216). -/
def Instance.record (i : Instance) (tick : ℕ) : Closed := { occ := i.occ, tick := tick, w1 := i.w1, opened := decide (i.ix < 2) }

/-- An instance at the begin of its close. -/
def Instance.begun (tick src : ℕ) (noEvent hold : Bool) (i : Instance) : Instance := { i with
  closing := true, closeTick := tick, closeSrc := src, noEvent := noEvent, disc := false, hold := hold }

/-- A Skein with a close in its record. -/
def Skein.recorded (c : Closed) (x : Skein) : Skein := { x with closed := c :: x.closed }

/-- A STRAND wait that the close of an instance satisfies is marked in every cluster. -/
def strandsMet (k : ℕ) (i : Instance) (s : State) : State := (List.range 4).foldl (fun s q => markWaits q (strandMet k i) s) s

theorem beginClose_eq (k : ℕ) (i : Instance) (tick src : ℕ) (noEvent : Bool) (s : State) : ∃ hold, beginClose k i tick src noEvent false s
    = postClose k i.occ (((strandsMet k i s).modInst k i.occ (Instance.begun tick src noEvent hold)).modSkein k (Skein.recorded (i.record tick))) :=
  ⟨_, rfl⟩

theorem beginClose_facts {k : ℕ} {i : Instance} {s : State} (h : (s.skein k).instOf i.occ = some i) (tick src : ℕ) (noEvent : Bool) :
    CloseStep k {i.occ} [i.record tick] s (beginClose k i tick src noEvent false s)
    ∧ ∃ j, ((beginClose k i tick src noEvent false s).skein k).instOf i.occ = some j ∧ j.Closing tick src noEvent i.ix := by
  obtain ⟨hold, eq⟩ := beginClose_eq k i tick src noEvent s
  have met : CloseStep k {i.occ} [] s (strandsMet k i s) := closeStep_foldl _ (fun _ _ _ => closeStep_markWaits ..) s
  have sk : (strandsMet k i s).skein k = s.skein k :=
    skein_congr ((steady_foldl (l := [.hk]) (List.range 4) (fun s q => steady_markWaits q (strandMet k i) s) s).same (p := .sk)) k
  have before : ((strandsMet k i s).skein k).instOf i.occ = some i := by rw [sk, h]
  have begun := instOf_modInst before (f := Instance.begun tick src noEvent hold) rfl
  have recorded : CloseStep k {i.occ} [i.record tick] ((strandsMet k i s).modInst k i.occ (Instance.begun tick src noEvent hold))
      (((strandsMet k i s).modInst k i.occ (Instance.begun tick src noEvent hold)).modSkein k (Skein.recorded (i.record tick))) :=
    closeStep_modSkein rfl (fun _ _ => rfl) rfl
  have after : ((((strandsMet k i s).modInst k i.occ (Instance.begun tick src noEvent hold)).modSkein k (Skein.recorded (i.record tick))).skein k).instOf i.occ
      = some (i.begun tick src noEvent hold) := by
    rw [skein_modSkein, if_pos rfl]
    exact begun
  obtain ⟨b, posted⟩ := postClose_inst after
  rw [eq]
  refine ⟨((met.trans (closeStep_modInst k i.occ (f := Instance.begun tick src noEvent hold) (fun _ => rfl) _)).trans recorded).trans (closeStep_postClose ..),
    _, posted, rfl, rfl, rfl, rfl, rfl, rfl⟩

/-- An empty instance of a Skein (R210). -/
def Skein.emptyInst (n : ℤ) (x : Skein) : Instance := { ix := 2, occ := n, w1 := x.w1, w2 := x.w2, epoch := x.epoch }

/-- A Skein with one more instance. -/
def Skein.withInst (i : Instance) (x : Skein) : Skein := { x with insts := x.insts ++ [i] }

theorem instOf_withInst {x : Skein} {i : Instance} (h : x.instOf i.occ = none) (m : ℤ) :
    (x.withInst i).instOf m = if m = i.occ then some i else x.instOf m := by
  unfold Skein.instOf Skein.withInst at *
  rw [List.find?_append]
  by_cases hm : m = i.occ
  · subst hm
    simp [h]
  · simp [hm, Ne.symm hm]

/-- The record of the close of an occurrence that no section opened. -/
def Skein.emptyRecord (n : ℤ) (tick : ℕ) (x : Skein) : Closed := { occ := n, tick := tick, w1 := x.w1, opened := false }

theorem closeEmpty_facts {k : ℕ} {n : ℤ} {s : State} (h : (s.skein k).instOf n = none) (tick src : ℕ) (noEvent : Bool) :
    CloseStep k {n} [(s.skein k).emptyRecord n tick] s (closeEmpty k n tick src noEvent s)
    ∧ if emitEmpty (s.skein k).w1 = true ∧ s.enginesOk (s.skein k).cluster ≠ 0 then
        ∃ j, ((closeEmpty k n tick src noEvent s).skein k).instOf n = some j ∧ j.Closing tick src noEvent 2
      else ((closeEmpty k n tick src noEvent s).skein k).instOf n = none := by
  by_cases he : emitEmpty (s.skein k).w1 = true ∧ s.enginesOk (s.skein k).cluster ≠ 0
  · have run : closeEmpty k n tick src noEvent s
        = beginClose k ((s.skein k).emptyInst n) tick src noEvent false (s.setSkein k ((s.skein k).withInst ((s.skein k).emptyInst n))) :=
      if_pos (by simpa using he)
    have found := instOf_withInst (x := s.skein k) (i := (s.skein k).emptyInst n) h
    have opened : CloseStep k {n} [] s (s.setSkein k ((s.skein k).withInst ((s.skein k).emptyInst n))) :=
      closeStep_setSkein rfl (fun m hm => (found m).trans (if_neg hm)) rfl
    obtain ⟨step, inst⟩ := beginClose_facts (k := k) (i := (s.skein k).emptyInst n) (s := s.setSkein k ((s.skein k).withInst ((s.skein k).emptyInst n)))
      (by rw [skein_setSkein, if_pos rfl, found, if_pos rfl]) tick src noEvent
    rw [run, if_pos he]
    exact ⟨opened.trans step, inst⟩
  · have run : closeEmpty k n tick src noEvent s = countClose k (0x20 + if noEvent then 8 else 0)
        (skCount (s.skein k).cluster k (if emitEmpty (s.skein k).w1 then 12 else 13)
          (strandsAtClose k n (s.skein k).w1 [] (s.setSkein k ((s.skein k).recorded ((s.skein k).emptyRecord n tick))))) :=
      if_neg (by simpa using he)
    have recorded : CloseStep k ∅ [(s.skein k).emptyRecord n tick] s (s.setSkein k ((s.skein k).recorded ((s.skein k).emptyRecord n tick))) :=
      closeStep_setSkein rfl (fun _ _ => rfl) rfl
    have step := ((recorded.trans (closeStep_strandsAtClose k n (s.skein k).w1 [] ∅ _)).trans
      (closeStep_skCount (s.skein k).cluster k (if emitEmpty (s.skein k).w1 then 12 else 13) ∅ _)).trans
      (closeStep_countClose k (0x20 + if noEvent then 8 else 0) ∅ _)
    rw [run, if_neg he]
    exact ⟨step.mono (Set.empty_subset _), (step.insts n (Set.notMem_empty n)).trans h⟩

end Sys2Proof.Machine
end

section
/-! ### The backstop of the closes (R207, R210, R219) -/

namespace Sys2Proof.Machine

/-- An instance whose close is put off (R219). -/
def Instance.putOff (how : ℕ × Bool) (i : Instance) : Instance := { i with deferred := some how }

section
variable {k : ℕ} {n m : ℤ} {i : Instance} {s t : State} (tick src : ℕ) (noEvent : Bool)

theorem closeOne_some (h : (s.skein k).instOf n = some i) : closeOne k n tick src noEvent s =
    if i.closing then s
    else if (tick : ℤ) < s.faultHold (s.skein k) i then s.modInst k n (Instance.putOff (i.deferred.getD (src, noEvent)))
    else beginClose k i tick (i.deferred.getD (src, noEvent)).1 (i.deferred.getD (src, noEvent)).2 false s := by
  unfold closeOne
  simp only [h]
  rfl

theorem closeOne_none (h : (s.skein k).instOf n = none) :
    closeOne k n tick src noEvent s = if (s.skein k).destroying then s else closeEmpty k n tick src noEvent s := by
  unfold closeOne
  simp only [h]

theorem closeOne_begins (h : (s.skein k).instOf n = some i) (hc : i.closing = false) (hh : s.faultHold (s.skein k) i ≤ tick) :
    CloseStep k {n} [i.record tick] s (closeOne k n tick src noEvent s) ∧ ∃ j, ((closeOne k n tick src noEvent s).skein k).instOf n = some j
      ∧ j.Closing tick (i.deferred.getD (src, noEvent)).1 (i.deferred.getD (src, noEvent)).2 i.ix := by
  have occ := occ_of_instOf h
  subst occ
  rw [closeOne_some tick src noEvent h, if_neg (by simp [hc]), if_neg (not_lt.mpr hh)]
  exact beginClose_facts h ..

theorem closeStep_closeOne (k : ℕ) (n : ℤ) (s : State) : ∃ new, CloseStep k {n} new s (closeOne k n tick src noEvent s) := by
  cases h : (s.skein k).instOf n with
  | none =>
    rw [closeOne_none tick src noEvent h]
    split
    · exact ⟨_, .refl ..⟩
    · exact ⟨_, (closeEmpty_facts h tick src noEvent).1⟩
  | some i =>
    rw [closeOne_some tick src noEvent h]
    split
    · exact ⟨_, .refl ..⟩
    · split
      · exact ⟨_, closeStep_modInst k n (f := Instance.putOff (i.deferred.getD (src, noEvent))) (fun _ => rfl) s⟩
      · have occ := occ_of_instOf h
        subst occ
        exact ⟨_, (beginClose_facts h ..).1⟩

/-- The close of occurrence m has begun at a tick, or is put off. -/
def Reached (k : ℕ) (tick : ℕ) (m : ℤ) (s : State) : Prop :=
  (∃ c ∈ (s.skein k).closed, c.occ = m ∧ c.tick = tick) ∨ ∃ y, (s.skein k).instOf m = some y ∧ y.deferred.isSome

/-- The close of occurrence m can begin, or has. -/
def Closable (k : ℕ) (tick : ℕ) (m : ℤ) (s : State) : Prop :=
  Reached k tick m s ∨ ((s.skein k).instOf m).all (fun y => !y.closing) = true ∧ ((s.skein k).instOf m = none → (s.skein k).destroying = false)

theorem reached_of_closed {new : List Closed} {A : Set ℤ} (h : CloseStep k A new s t) {c : Closed} (hc : c ∈ new) (ho : c.occ = m) (ht : c.tick = tick) :
    Reached k tick m t := .inl ⟨c, by rw [h.closed]; exact List.mem_append_left _ hc, ho, ht⟩

/-- What is reached stays so when another occurrence closes. -/
theorem Reached.step {new : List Closed} {A : Set ℤ} (r : Reached k tick m s) (h : CloseStep k A new s t) (hm : m ∉ A) : Reached k tick m t := by
  rcases r with ⟨c, hc, facts⟩ | ⟨y, hy, deferred⟩
  · exact .inl ⟨c, by rw [h.closed]; exact List.mem_append_right _ hc, facts⟩
  · exact .inr ⟨y, (h.insts m hm).trans hy, deferred⟩

theorem destroying_of_step {new : List Closed} {A : Set ℤ} (h : CloseStep k A new s t) : (t.skein k).destroying = (s.skein k).destroying :=
  congrArg (fun x : W × W × W × ℕ × Bool × Option (ℕ × W × W) => x.2.2.2.2.1) h.head

/-- Its own close tick reaches an occurrence that can close. -/
theorem Closable.reached (h : Closable k tick m s) : Reached k tick m (closeOne k m tick src noEvent s) := by
  cases hi : (s.skein k).instOf m with
  | none =>
    rcases h with (⟨c, hc, facts⟩ | ⟨y, hy, _⟩) | ⟨_, up⟩
    · obtain ⟨new, step⟩ := closeStep_closeOne tick src noEvent k m s
      exact .inl ⟨c, by rw [step.closed]; exact List.mem_append_right _ hc, facts⟩
    · exact absurd (hi.symm.trans hy) (by simp)
    · rw [closeOne_none tick src noEvent hi, if_neg (by simp [up hi])]
      exact reached_of_closed tick (closeEmpty_facts hi tick src noEvent).1 List.mem_cons_self rfl rfl
  | some i =>
    have occ := occ_of_instOf hi
    by_cases hc : i.closing = true
    · rw [closeOne_some tick src noEvent hi, if_pos hc]
      rcases h with r | ⟨all, _⟩
      · exact r
      · simp [hi, hc] at all
    · by_cases hh : (tick : ℤ) < s.faultHold (s.skein k) i
      · rw [closeOne_some tick src noEvent hi, if_neg hc, if_pos hh]
        exact .inr ⟨_, instOf_modInst hi (f := Instance.putOff (i.deferred.getD (src, noEvent))) rfl, rfl⟩
      · exact reached_of_closed tick (closeOne_begins tick src noEvent hi (by simpa using hc) (not_lt.mp hh)).1 List.mem_cons_self occ rfl

theorem Reached.closeOne (r : Reached k tick m s) (j : ℤ) : Reached k tick m (closeOne k j tick src noEvent s) := by
  by_cases hj : j = m
  · subst hj
    exact Closable.reached tick src noEvent (.inl r)
  · obtain ⟨new, step⟩ := closeStep_closeOne tick src noEvent k j s
    exact r.step tick step (Ne.symm hj)

theorem Closable.step (h : Closable k tick m s) {j : ℤ} (hj : m ≠ j) : Closable k tick m (closeOne k j tick src noEvent s) := by
  rcases h with r | other
  · exact .inl (r.closeOne tick src noEvent j)
  · obtain ⟨new, step⟩ := closeStep_closeOne tick src noEvent k j s
    right
    rwa [step.insts m hj, destroying_of_step step]

/-- The close tick is reached for each of a list of occurrences. -/
def closeAll (k : ℕ) (tick : ℕ) (l : List ℤ) (s : State) : State := l.foldl (fun s m => closeOne k m tick 1 true s) s

theorem closeStep_closeAll (k : ℕ) {l : List ℤ} {A : Set ℤ} (h : ∀ m ∈ l, m ∈ A) (s : State) : ∃ new, CloseStep k A new s (closeAll k tick l s) := by
  induction l generalizing s with
  | nil => exact ⟨[], .refl ..⟩
  | cons m l ih =>
    obtain ⟨hm, hl⟩ := List.forall_mem_cons.mp h
    obtain ⟨new, step⟩ := closeStep_closeOne tick 1 true k m s
    obtain ⟨more, rest⟩ := ih hl (closeOne k m tick 1 true s)
    exact ⟨_, (step.mono (by simpa using hm)).trans rest⟩

theorem Reached.closeAll (l : List ℤ) (h : Reached k tick m s) : Reached k tick m (closeAll k tick l s) := by
  induction l generalizing s with
  | nil => exact h
  | cons j l ih => exact ih (h.closeOne tick 1 true j)

theorem reached_closeAll {l : List ℤ} (hm : m ∈ l) (h : Closable k tick m s) : Reached k tick m (closeAll k tick l s) := by
  induction l generalizing s with
  | nil => exact absurd hm List.not_mem_nil
  | cons j l ih =>
    by_cases hj : m = j
    · subst hj
      exact (h.reached tick 1 true).closeAll tick l
    · exact ih (List.mem_of_ne_of_mem hj hm) (h.step tick 1 true hj)

theorem closeOccurrence_eq : closeOccurrence k n tick src noEvent s
    = closeOne k n tick src noEvent (closeAll k tick (s.unclosedBefore (s.skein k) n) s) := rfl

end

/-! Which occurrences close. -/

theorem faultHold_congr {s t : State} (hm : t.mast = s.mast) (ht : t.time = s.time) (hr : t.rig = s.rig) (x : Skein) (i : Instance) :
    t.faultHold x i = s.faultHold x i := by
  unfold State.faultHold State.boundaryAfter State.mastAt State.timeline State.tick State.inc48
  simp only [boundaryTick_congr hm ht]
  rw [hm, ht, hr]

theorem exists_instOf {x : Skein} {i : Instance} (h : i ∈ x.insts) : ∃ j, x.instOf i.occ = some j :=
  Option.isSome_iff_exists.mp (List.find?_isSome.mpr ⟨i, h, by simp⟩)

/-- The occurrences that close with a later one come before it; where no instance is open, occurrences close with no section. -/
theorem unclosedBefore_facts {s : State} {x : Skein} {n m : ℤ} (h : m ∈ s.unclosedBefore x n) :
    m < n ∧ (x.instOf m = none → x.destroying = false) := by
  unfold State.unclosedBefore at h
  simp only [List.mem_mergeSort, List.mem_append] at h
  rcases h with h | h
  · obtain ⟨i, hi, rfl⟩ := List.mem_map.mp h
    obtain ⟨mem, hc⟩ := List.mem_filter.mp hi
    simp only [Bool.and_eq_true, decide_eq_true_eq] at hc
    obtain ⟨j, hj⟩ := exists_instOf mem
    exact ⟨hc.2, fun hn => absurd (hn.symm.trans hj) (by simp)⟩
  · split at h
    next hc =>
      obtain ⟨mem, _⟩ := List.mem_filter.mp h
      obtain ⟨j, below, rfl⟩ : ∃ j < (n - x.unclosedFrom).toNat, x.unclosedFrom + (j : ℤ) = m := by simpa using mem
      refine ⟨by omega, fun _ => ?_⟩
      simp only [State.closesEmpty, Bool.and_eq_true, Bool.not_eq_true'] at hc
      exact hc.1.1
    next => exact absurd h List.not_mem_nil

/-- Of a list, a choice that keeps what it has or takes what comes is a member. -/
theorem foldl_choice_mem {α : Type} {g : Option α → α → Option α} (hg : ∀ a x, g a x = a ∨ g a x = some x) (l : List α) {a : Option α} {b : α}
    (h : l.foldl g a = some b) : a = some b ∨ b ∈ l := by
  induction l generalizing a with
  | nil => exact .inl h
  | cons x l ih =>
    rcases ih h with h | h
    · rcases hg a x with same | new
      · exact .inl (same ▸ h)
      · exact .inr (List.mem_cons.mpr (.inl (Option.some.inj (h.symm.trans new))))
    · exact .inr (List.mem_cons_of_mem _ h)

theorem nextToClose_empty {s : State} {x : Skein} {n : ℤ} (h : s.nextToClose x = some n) (hn : x.instOf n = none) : x.destroying = false := by
  unfold State.nextToClose at h
  have chosen := foldl_choice_mem (fun a m => by
    cases a with
    | none => exact .inr rfl
    | some b => exact (ite_eq_or_eq _ _ _).symm) _ h
  rcases chosen with h | h
  · exact absurd h (by simp)
  · rcases List.mem_append.mp h with h | h
    · obtain ⟨i, hi, rfl⟩ := List.mem_map.mp h
      obtain ⟨j, hj⟩ := exists_instOf (List.mem_filter.mp hi).1
      exact absurd (hn.symm.trans hj) (by simp)
    · split at h
      next hc =>
        simp only [State.closesEmpty, Bool.and_eq_true, Bool.not_eq_true'] at hc
        exact hc.1.1
      next => exact absurd h List.not_mem_nil

/-! The row. -/

/-- Word 1 that governs the close of occurrence n: the instance's copy, or the descriptor's. -/
def Skein.wordOf (x : Skein) (n : ℤ) : W := match x.instOf n with
  | some i => i.w1
  | none => x.w1

section
variable {k : ℕ} {n : ℤ} {s u : State} {A : Set ℤ} {new : List Closed}

theorem exec_closeBackstop (hk : k < 65536) (hv : (s.skein k).valid = true) (hn : s.nextToClose (s.skein k) = some n)
    (ht : s.closeDue (s.skein k) n ≤ s.mast.tick) : exec (.closeBackstop k) s
      = keep s (closeOccurrence k n (s.closeDue (s.skein k) n).toNat (if closeSrc ((s.skein k).wordOf n) = 0 then 1 else 2)
          (closeSrc ((s.skein k).wordOf n) == 0) s) := by
  change execCloseBackstop k s = _
  rw [execCloseBackstop, Nat.mod_eq_of_lt hk]
  unfold closeBackstop
  simp only [hv, hn, Bool.not_true, Bool.false_eq_true, if_false]
  exact congrArg (keep s) (if_neg (not_lt.mpr ht))

theorem CloseStep.word0 (h : CloseStep k A new s u) : (u.skein k).w0 = (s.skein k).w0 :=
  congrArg (fun x : W × W × W × ℕ × Bool × Option (ℕ × W × W) => x.1) h.head

theorem CloseStep.word1 (h : CloseStep k A new s u) : (u.skein k).w1 = (s.skein k).w1 :=
  congrArg (fun x : W × W × W × ℕ × Bool × Option (ℕ × W × W) => x.2.1) h.head

theorem CloseStep.faultHold (h : CloseStep k A new s u) (i : Instance) : u.faultHold (u.skein k) i = s.faultHold (s.skein k) i := by
  have tlNo : (u.skein k).tlNo = (s.skein k).tlNo := congrArg (fun w => fld w 62 60) h.word0
  rw [faultHold_congr (h.steady.same (p := .mast)) (h.steady.same (p := .time)) (h.steady.same (p := .rig)), State.faultHold, State.faultHold, tlNo]

theorem faultHold_le_closeDue {x : Skein} {i : Instance} (h : x.instOf n = some i) : s.faultHold x i ≤ s.closeDue x n := by
  simp only [State.closeDue, h]
  split
  · exact le_rfl
  · exact le_max_right ..

theorem goes_closeBackstop (h : Live s) (hk : k < 65536) (hv : (s.skein k).valid = true) (hn : s.nextToClose (s.skein k) = some n)
    (ht : s.closeDue (s.skein k) n ≤ s.mast.tick) :
    Goes (.closeBackstop k) s [.hk, .sk, .host, .cmd, .out, .flt, .regs, .power] fun t =>
      (∀ j, j ≠ k → t.skein j = s.skein j)
      ∧ (∀ m ∈ s.unclosedBefore (s.skein k) n, ((s.skein k).instOf m).all (fun y => !y.closing) = true →
          Reached k (s.closeDue (s.skein k) n).toNat m t)
      ∧ (∀ i, (s.skein k).instOf n = some i → i.closing = false →
          (∃ l, (t.skein k).closed = { occ := n, tick := (s.closeDue (s.skein k) n).toNat, w1 := i.w1, opened := decide (i.ix < 2) } :: l)
          ∧ ∃ j, (t.skein k).instOf n = some j ∧ j.Closing (s.closeDue (s.skein k) n).toNat
              (i.deferred.getD (if closeSrc i.w1 = 0 then 1 else 2, closeSrc i.w1 == 0)).1
              (i.deferred.getD (if closeSrc i.w1 = 0 then 1 else 2, closeSrc i.w1 == 0)).2 i.ix)
      ∧ ((s.skein k).instOf n = none →
          (∃ l, (t.skein k).closed = { occ := n, tick := (s.closeDue (s.skein k) n).toNat, w1 := (s.skein k).w1, opened := false } :: l)
          ∧ if emitEmpty (s.skein k).w1 = true ∧ s.enginesOk (s.skein k).cluster ≠ 0 then
              ∃ j, (t.skein k).instOf n = some j ∧ j.Closing (s.closeDue (s.skein k) n).toNat (if closeSrc ((s.skein k).wordOf n) = 0 then 1 else 2)
                (closeSrc ((s.skein k).wordOf n) == 0) 2
            else (t.skein k).instOf n = none) := by
  have run := exec_closeBackstop hk hv hn ht
  have hold : ∀ i, (s.skein k).instOf n = some i → s.faultHold (s.skein k) i ≤ (s.closeDue (s.skein k) n).toNat := fun i hi =>
    (faultHold_le_closeDue hi).trans (Int.self_le_toNat _)
  generalize (s.closeDue (s.skein k) n).toNat = tick at *
  obtain ⟨new, before⟩ := closeStep_closeAll tick k (A := {m | m < n}) (fun m hm => (unclosedBefore_facts hm).1) s
  have out : n ∉ {m | m < n} := lt_irrefl n
  have earlier : ∀ m ∈ s.unclosedBefore (s.skein k) n, ((s.skein k).instOf m).all (fun y => !y.closing) = true →
      Reached k tick m (closeAll k tick (s.unclosedBefore (s.skein k) n) s) := fun m hm ha =>
    reached_closeAll tick hm (.inr ⟨ha, (unclosedBefore_facts hm).2⟩)
  rw [closeOccurrence_eq] at run
  generalize closeAll k tick (s.unclosedBefore (s.skein k) n) s = u at *
  obtain ⟨more, last⟩ := closeStep_closeOne tick (if closeSrc ((s.skein k).wordOf n) = 0 then 1 else 2) (closeSrc ((s.skein k).wordOf n) == 0) k n u
  refine goes_of_keep run h (before.steady.trans last.steady) ⟨fun j hj => (last.others j hj).trans (before.others j hj),
    fun m hm ha => (earlier m hm ha).closeOne .., fun i hi hc => ?_, fun hi => ?_⟩
  · have word : (s.skein k).wordOf n = i.w1 := by rw [Skein.wordOf, hi]
    rw [word]
    obtain ⟨step, inst⟩ := closeOne_begins tick (if closeSrc i.w1 = 0 then 1 else 2) (closeSrc i.w1 == 0) ((before.insts n out).trans hi) hc
      ((before.faultHold i).trans_le (hold i hi))
    refine ⟨⟨(u.skein k).closed, ?_⟩, inst⟩
    rw [step.closed, Instance.record, occ_of_instOf hi]
    rfl
  · have up : (u.skein k).destroying = false := (destroying_of_step before).trans (nextToClose_empty hn hi)
    have none' : (u.skein k).instOf n = none := (before.insts n out).trans hi
    have cluster : (u.skein k).cluster = (s.skein k).cluster := congrArg (fun w => fld w 59 58) before.word0
    obtain ⟨step, inst⟩ := closeEmpty_facts none' tick (if closeSrc ((s.skein k).wordOf n) = 0 then 1 else 2) (closeSrc ((s.skein k).wordOf n) == 0)
    rw [closeOne_none _ _ _ none', if_neg (by simp [up])]
    rw [before.word1, cluster, before.engines] at inst
    refine ⟨⟨(u.skein k).closed, ?_⟩, inst⟩
    rw [step.closed, Skein.emptyRecord, before.word1]
    rfl

end

end Sys2Proof.Machine
end

section
/-! ### New homes (R219) -/

namespace Sys2Proof.Machine

theorem maskOf_lt (n : ℕ) (p : ℕ → Bool) : maskOf n p < 2 ^ n := by
  induction n with
  | zero => simp [maskOf]
  | succ n ih =>
    have next : maskOf (n + 1) p = if p n then maskOf n p + 2 ^ n else maskOf n p := by
      rw [maskOf, List.range_succ, List.foldl_append]
      rfl
    rw [next, pow_succ]
    split <;> omega

/-- An engine in service has its bit in ENGINES_OK, and there is one where the word is not 0. -/
theorem bitsOf_enginesOk_ne_nil {q : ℕ} {s : State} (h : s.enginesOk q ≠ 0) : bitsOf 16 (s.enginesOk q) ≠ [] := by
  obtain ⟨e, he⟩ := Nat.exists_testBit_of_ne_zero h
  have below : e < 16 := by
    by_contra hn
    have small : s.enginesOk q < 2 ^ e := lt_of_lt_of_le (maskOf_lt 16 _) (Nat.pow_le_pow_right (by decide) (not_lt.mp hn))
    rw [Nat.testBit_lt_two_pow small] at he
    exact absurd he (by decide)
  exact List.ne_nil_of_mem ((mem_bitsOf ..).mpr ⟨below, he⟩)

/-- A choice from a list that is not empty has a result. -/
theorem foldl_choice_isSome {α : Type} {g : Option α → α → Option α} (hg : ∀ a x, (g a x).isSome = true) {l : List α} (hl : l ≠ []) (a : Option α) :
    (l.foldl g a).isSome = true := by
  obtain ⟨l, x, rfl⟩ := List.eq_nil_or_concat l |>.resolve_left hl
  rw [List.concat_eq_append, List.foldl_append]
  exact hg ..

/-- A new home is an engine in service. -/
theorem newHome_inService {q : ℕ} {s : State} (h : s.enginesOk q ≠ 0) : s.newHome q < 16 ∧ (s.enginesOk q).testBit (s.newHome q) = true := by
  unfold State.newHome
  generalize hb : List.foldl _ none (bitsOf 16 (s.enginesOk q)) = b
  have found : b.isSome = true := by
    rw [← hb]
    refine foldl_choice_isSome (fun a x => ?_) (bitsOf_enginesOk_ne_nil h) none
    cases a with
    | none => rfl
    | some b =>
      simp only []
      split <;> rfl
  obtain ⟨e, rfl⟩ := Option.isSome_iff_exists.mp found
  have member := foldl_choice_mem (fun a x => by
    cases a with
    | none => exact .inr rfl
    | some b => exact (ite_eq_or_eq _ _ _).symm) _ hb
  rcases member with hn | member
  · exact absurd hn (by simp)
  · exact (mem_bitsOf ..).mp member

/-- A Skein with a new home: the close tick of a marked instance is not before its symbol boundary. -/
def Skein.rehomed (home b : ℕ) (x : Skein) : Skein := { x with
  w0 := ins x.w0 57 54 home, rehomeAfter := none
  insts := x.insts.map fun i => if i.fault && i.closing then { i with closeTick := max i.closeTick b } else i }

/-- The instances of a Skein whose close has been put off close now. -/
def closePutOff (k b : ℕ) (l : List Instance) (s : State) : State := l.foldl (fun s i => closeOne k i.occ b 0 false s) s

/-- A Skein gets its new home at tick b. -/
def rehomeOne (q k b : ℕ) (s : State) : State :=
  closePutOff k b ((s.skein k).insts.filter fun i => i.deferred.isSome) (memWrite 9 4 1 (4 * k) (s.setSkein k ((s.skein k).rehomed (s.newHome q) b)))

theorem closeStep_closePutOff (k b : ℕ) (l : List Instance) (s : State) : ∃ new, CloseStep k Set.univ new s (closePutOff k b l s) := by
  induction l generalizing s with
  | nil => exact ⟨[], .refl ..⟩
  | cons i l ih =>
    obtain ⟨new, step⟩ := closeStep_closeOne b 0 false k i.occ s
    obtain ⟨more, rest⟩ := ih (closeOne k i.occ b 0 false s)
    exact ⟨_, (step.mono (Set.subset_univ _)).trans rest⟩

/-- What new homes for the Skeins l of cluster q leave. -/
structure Rehomed (q : ℕ) (l : List ℕ) (s t : State) : Prop where
  steady : Steady closeParts s t
  engines : t.enginesOk q = s.enginesOk q
  others : ∀ j, j ∉ l → t.skein j = s.skein j
  homes : ∀ j ∈ l, (t.skein j).rehomeAfter = none ∧ (s.enginesOk q).testBit (t.skein j).home = true

theorem rehomed_rehomeOne {q : ℕ} {s : State} (h : s.enginesOk q ≠ 0) (k b : ℕ) : Rehomed q [k] s (rehomeOne q k b s) := by
  have set : Steady [.sk] s (s.setSkein k ((s.skein k).rehomed (s.newHome q) b)) := steady_setSkein ..
  have written : Steady [.flt] (s.setSkein k ((s.skein k).rehomed (s.newHome q) b))
      (memWrite 9 4 1 (4 * k) (s.setSkein k ((s.skein k).rehomed (s.newHome q) b))) := steady_of_frame (frame_memWrite ..)
  have sk : ∀ j, (memWrite 9 4 1 (4 * k) (s.setSkein k ((s.skein k).rehomed (s.newHome q) b))).skein j
      = if j = k then (s.skein k).rehomed (s.newHome q) b else s.skein j := fun j => by
    rw [skein_congr (written.same (p := .sk)), skein_setSkein]
  have hk : (memWrite 9 4 1 (4 * k) (s.setSkein k ((s.skein k).rehomed (s.newHome q) b))).hk = s.hk := written.same (p := .hk)
  unfold rehomeOne
  have first := (set.mono (m := closeParts) (by decide)).trans (written.mono (by decide))
  generalize memWrite 9 4 1 (4 * k) (s.setSkein k ((s.skein k).rehomed (s.newHome q) b)) = u at *
  obtain ⟨new, step⟩ := closeStep_closePutOff k b ((s.skein k).insts.filter fun i => i.deferred.isSome) u
  obtain ⟨below, serves⟩ := newHome_inService h
  refine ⟨first.trans step.steady, (step.engines q).trans (enginesOk_congr hk q), fun j hj => ?_, fun j hj => ?_⟩
  · have ne : j ≠ k := by simpa using hj
    rw [step.others j ne, sk, if_neg ne]
  · obtain rfl : j = k := by simpa using hj
    have rehome := congrArg (fun x : W × W × W × ℕ × Bool × Option (ℕ × W × W) => x.2.2.2.2.2) step.head
    have home : ((closePutOff j b ((s.skein j).insts.filter fun i => i.deferred.isSome) u).skein j).home = s.newHome q := by
      rw [Skein.home, step.word0, sk, if_pos rfl]
      exact (fld_ins_self _ 57 54 _ (by decide) (by decide)).trans (Nat.mod_eq_of_lt below)
    refine ⟨rehome.trans ?_, home ▸ serves⟩
    change (u.skein j).rehomeAfter = none
    rw [sk, if_pos rfl]
    rfl

theorem rehomed_foldl {q : ℕ} {s : State} (h : s.enginesOk q ≠ 0) (b : State → ℕ → ℕ) (l : List ℕ) :
    Rehomed q l s (l.foldl (fun s k => rehomeOne q k (b s k) s) s) := by
  induction l generalizing s with
  | nil => exact ⟨.refl .., rfl, fun _ _ => rfl, fun j hj => absurd hj List.not_mem_nil⟩
  | cons k l ih =>
    have one := rehomed_rehomeOne h k (b s k)
    have rest := ih (s := rehomeOne q k (b s k) s) (by rwa [one.engines])
    refine ⟨one.steady.trans rest.steady, rest.engines.trans one.engines, fun j hj => ?_, fun j hj => ?_⟩
    · obtain ⟨hk, hl⟩ := not_or.mp (mt List.mem_cons.mpr hj)
      exact (rest.others j hl).trans (one.others j (by simpa using hk))
    · rw [← one.engines]
      by_cases hl : j ∈ l
      · exact rest.homes j hl
      · have hk : j = k := (List.mem_cons.mp hj).resolve_right hl
        have first := one.homes j (by simp [hk])
        rw [← one.engines] at first
        exact (rest.others j hl).symm ▸ first

/-- A Skein of cluster q whose home has failed, and whose symbol boundary has come. -/
def State.rehomeDue (s : State) (q : ℕ) (x : Skein) : Bool := x.valid && x.cluster == q && match x.rehomeAfter with
  | some (a, _, _) => decide (s.boundaryAfter x.tlNo a ≤ s.mast.tick)
  | none => false

/-- The Skeins that leave a failed home together. -/
def State.rehomeOf (s : State) (q home : ℕ) : List ℕ := (s.sk.descs.filter fun x => s.rehomeDue q x.2 && x.2.home == home).map (·.1)

theorem regAddr_skIntStatus (q : ℕ) : regAddr .skIntStatus [q] = 0x30008 + q * 0x1000 := regAddr_one rfl rfl q

theorem postReassigned_status (q e : ℕ) (hi lo : W) (ks : List ℕ) (s : State) :
    bitAt ((postReassigned q e hi lo ks s).rg .skIntStatus [q]) 0 = true := by
  have signals := intSignalCnt_lt
  rw [postReassigned, rg_raiseInt_self _ _ _ (by rw [regAddr_skIntStatus]; omega)]
  exact bitAt_or_two_pow _ (by decide)

theorem steady_postReassigned (q e : ℕ) (hi lo : W) (ks : List ℕ) (s : State) : Steady [.host, .cmd, .out, .regs] s (postReassigned q e hi lo ks s) :=
  (steady_postEvent ..).trans ((steady_raiseInt ..).mono (by decide))

section
variable {q k0 : ℕ} {x0 : Skein} {s : State}

theorem exec_skeinRehome (hq : q < 4) (he : s.enginesOk q ≠ 0) (hf : s.sk.descs.find? (fun x => s.rehomeDue q x.2) = some (k0, x0)) :
    exec (.skeinRehome q) s = keep s (postReassigned q x0.home (x0.rehomeAfter.getD (0, 0, 0)).2.1 (x0.rehomeAfter.getD (0, 0, 0)).2.2
      (s.rehomeOf q x0.home) ((s.rehomeOf q x0.home).foldl
        (fun s k => rehomeOne q k (s.boundaryAfter (s.skein k).tlNo (x0.rehomeAfter.getD (0, 0, 0)).1).toNat s) s)) := by
  change execSkeinRehome q s = _
  rw [execSkeinRehome, Nat.mod_eq_of_lt hq]
  unfold skeinRehome
  simp only [if_neg he]
  split
  next hn => exact absurd (hf.symm.trans hn) (by simp)
  next x hx =>
    obtain ⟨rfl, rfl⟩ := Prod.mk.inj (Option.some.inj (hf.symm.trans hx))
    rfl

theorem goes_skeinRehome (h : Live s) (hq : q < 4) (he : s.enginesOk q ≠ 0) (hf : s.sk.descs.find? (fun x => s.rehomeDue q x.2) = some (k0, x0)) :
    Goes (.skeinRehome q) s [.hk, .sk, .host, .cmd, .out, .flt, .regs, .power] fun t =>
      (t.skein k0).rehomeAfter = none ∧ (s.enginesOk q).testBit (t.skein k0).home = true ∧ bitAt (t.rg .skIntStatus [q]) 0 = true
      ∧ ∀ k, k ∉ s.rehomeOf q x0.home → t.skein k = s.skein k := by
  have run := exec_skeinRehome hq he hf
  have due : s.rehomeDue q x0 = true := by simpa using List.find?_some hf
  have mine : k0 ∈ s.rehomeOf q x0.home :=
    List.mem_map.mpr ⟨(k0, x0), List.mem_filter.mpr ⟨List.mem_of_find?_eq_some hf, by simp [due]⟩, rfl⟩
  have moved := rehomed_foldl he (fun s k => (s.boundaryAfter (s.skein k).tlNo (x0.rehomeAfter.getD (0, 0, 0)).1).toNat) (s.rehomeOf q x0.home)
  generalize s.rehomeOf q x0.home = l at *
  generalize l.foldl _ s = u at *
  have told := steady_postReassigned q x0.home (x0.rehomeAfter.getD (0, 0, 0)).2.1 (x0.rehomeAfter.getD (0, 0, 0)).2.2 l u
  have sk := fun k => skein_congr (told.same (p := .sk)) k
  obtain ⟨after, home⟩ := moved.homes k0 mine
  refine goes_of_keep run h (moved.steady.trans (told.mono (by decide))) ⟨?_, ?_, postReassigned_status .., fun k hk => ?_⟩
  · rw [sk, after]
  · rw [sk, home]
  · rw [sk, moved.others k hk]

end

end Sys2Proof.Machine
end

section
/-! ### The close of an instance (R208 to R215, R241) -/

namespace Sys2Proof.Machine

/-! Clean accumulators read as stored. -/

theorem clean_readPrb {s : State} (h : Clean s) (k ix prb : ℕ) : ∃ acc, readPrb k ix prb s = (.ok acc, s) := by
  have words : ∀ (l : List ℕ) (q a : ℕ) (v : List ℤ), ∃ w, l.foldl (fun (st : Option ℕ × List ℤ × State) j =>
      let r := memRead 9 q 0 (a + j) 4 st.2.2
      let w := s.qword q (a + j) ^^^ BitVec.ofNat 72 r.diff
      (if st.1.isNone ∧ !r.ok then some (a + j) else st.1, st.2.1 ++ accOf w, r.st)) (none, v, s) = (none, w, s) := by
    intro l q a v
    induction l generalizing v with
    | nil => exact ⟨v, rfl⟩
    | cons j l ih =>
      rw [List.foldl_cons]
      simp only [clean_memRead h]
      exact ih _
  obtain ⟨w, read⟩ := words (List.range 12) (s.skein k).cluster ((s.skein k).accAddr ix prb) []
  unfold readPrb
  simp only [read, clean_memRead h]
  exact ⟨_, rfl⟩

theorem clean_closePrb {s : State} (h : Clean s) (k : ℕ) (i : Instance) (prb : ℕ) : ∃ b c, closePrb k i prb s = ((b, c, none), s) := by
  obtain ⟨acc, read⟩ := clean_readPrb h k i.ix prb
  unfold closePrb
  simp only [read]
  split
  · exact ⟨_, _, rfl⟩
  · split <;> exact ⟨_, _, rfl⟩

theorem clean_closePrbs {s : State} (h : Clean s) (k : ℕ) (i : Instance) (n : ℕ) : ∃ recs sat, closePrbs k i n s = ((recs, sat, []), s) := by
  induction n with
  | zero => exact ⟨[], 0, rfl⟩
  | succ n ih =>
    obtain ⟨recs, sat, before⟩ := ih
    obtain ⟨b, c, last⟩ := clean_closePrb h k i n
    unfold closePrbs at before ⊢
    rw [List.range_succ, List.foldl_append, before, List.foldl_cons, List.foldl_nil, last]
    exact ⟨_, _, rfl⟩

/-! Frames for the output port (R211). -/

/-- n frames of a flow wait last at the injection input of the Tile of their port. -/
def Injects (port queue flow n : ℕ) (s t : State) : Prop :=
  ∃ l, (t.tl (tileOf port)).inject = (s.tl (tileOf port)).inject ++ l ∧ l.length = n ∧ ∀ y ∈ l, y.2.eport = port ∧ y.2.queue = queue ∧ y.2.flow = flow

section
variable {port queue flow m n : ℕ} {s t u : State}

theorem injects_of_pk (h : t.pk = s.pk) : Injects port queue flow 0 s t := ⟨[], by rw [tl_congr h, List.append_nil], rfl, fun y hy => absurd hy List.not_mem_nil⟩

theorem Injects.trans (f : Injects port queue flow m s t) (g : Injects port queue flow n t u) : Injects port queue flow (m + n) s u := by
  obtain ⟨l, hl, len, all⟩ := f
  obtain ⟨l', hl', len', all'⟩ := g
  refine ⟨l ++ l', by rw [hl', hl, List.append_assoc], by rw [List.length_append, len, len'], fun y hy => ?_⟩
  rcases List.mem_append.mp hy with hy | hy
  · exact all y hy
  · exact all' y hy

theorem Injects.congr {u' : State} (f : Injects port queue flow n t u) (h : t.pk = s.pk) (hu : u'.pk = u.pk) : Injects port queue flow n s u' := by
  unfold Injects at f ⊢
  rw [tl_congr hu, ← tl_congr h]
  exact f

/-- A frame for an output port. -/
def framePkt (port queue flow : ℕ) (ts : Option ℕ) (b : List Byte) : Pkt :=
  { bytes := b, eport := port, queue := queue, flow := flow, ts := ts, injected := true }

theorem injects_injectFrame (port queue flow : ℕ) (ts : Option ℕ) (b : List Byte) (s : State) :
    Injects port queue flow 1 s (injectFrame port queue flow ts b s) := by
  refine ⟨[(port / 8, framePkt port queue flow ts b)], ?_, rfl, fun y hy => ?_⟩
  · rw [injectFrame, tl_congr (work_pk ..), tl_modTl, if_pos rfl]
    rfl
  · rw [List.mem_singleton.mp hy]
    exact ⟨rfl, rfl, rfl⟩

theorem steady_injectFrame (port queue flow : ℕ) (ts : Option ℕ) (b : List Byte) (s : State) :
    Steady [.pk, .power] s (injectFrame port queue flow ts b s) :=
  ((steady_modTl ..).mono (by decide)).trans ((steady_work ..).mono (by decide))

theorem injects_emitSum (k : ℕ) (i : Instance) (flags : ℕ) (recs : List (List Byte)) (s : State) :
    Injects (outPort i.w2) (outQueue i.w2) (outFlow i.w2)
      (((s.skein k).numPrb + (if outSplit i.w2 = 0 then (s.skein k).numPrb else outSplit i.w2) - 1)
        / if outSplit i.w2 = 0 then (s.skein k).numPrb else outSplit i.w2) s (emitSum k i flags recs s) := by
  have frames : ∀ (l : List ℕ) (b : State → ℕ → List Byte) (u : State), Injects (outPort i.w2) (outQueue i.w2) (outFlow i.w2) l.length u
      (l.foldl (fun s j => injectFrame (outPort i.w2) (outQueue i.w2) (outFlow i.w2) none (b s j) s) u) := by
    intro l b u
    induction l generalizing u with
    | nil => exact injects_of_pk rfl
    | cons j l ih =>
      rw [List.length_cons, Nat.add_comm]
      exact (injects_injectFrame ..).trans (ih _)
  have sent := frames (List.range (((s.skein k).numPrb + (if outSplit i.w2 = 0 then (s.skein k).numPrb else outSplit i.w2) - 1)
        / if outSplit i.w2 = 0 then (s.skein k).numPrb else outSplit i.w2))
  rw [List.length_range] at sent
  exact sent _ s

theorem steady_emitSum (k : ℕ) (i : Instance) (flags : ℕ) (recs : List (List Byte)) (s : State) : Steady [.pk, .power] s (emitSum k i flags recs s) :=
  steady_foldl _ (fun _ _ => steady_injectFrame ..) s

/-- The output of an instance: its sum, and its trace where it has one (R211, R215). -/
def emitted (k : ℕ) (i : Instance) (flags : ℕ) (recs : List (List Byte)) (s : State) : State :=
  when (orderTrace i.w1) (emitTrace k i) (emitSum k i flags recs s)

theorem steady_emitted (k : ℕ) (i : Instance) (flags : ℕ) (recs : List (List Byte)) (s : State) : Steady [.pk, .power] s (emitted k i flags recs s) :=
  (steady_emitSum ..).trans (steady_when (steady_injectFrame ..))

theorem injects_emitted (k : ℕ) (i : Instance) (flags : ℕ) (recs : List (List Byte)) (s : State) :
    Injects (outPort i.w2) (outQueue i.w2) (outFlow i.w2)
      (((s.skein k).numPrb + (if outSplit i.w2 = 0 then (s.skein k).numPrb else outSplit i.w2) - 1)
        / (if outSplit i.w2 = 0 then (s.skein k).numPrb else outSplit i.w2) + b2n (orderTrace i.w1)) s (emitted k i flags recs s) := by
  refine (injects_emitSum k i flags recs s).trans ?_
  unfold emitted when b2n
  split
  · exact injects_injectFrame ..
  · exact injects_of_pk rfl

end

/-! What is left of the instance. -/

theorem regAddr_skCloseCnt (q : ℕ) : regAddr .skCloseCnt [q] = 0x30018 + q * 0x1000 := regAddr_one rfl rfl q
theorem regAddr_hkEngineCnt (q e : ℕ) : regAddr .hkEngineCnt [q, e] = 0x20108 + (q * 0x1000 + e * 0x10) := regAddr_two rfl rfl q e

theorem countClose_count (k flags : ℕ) (s : State) : (countClose k flags s).rgf .skCloseCnt [(s.skein k).cluster] 63 32
    = satAdd 32 (s.rgf .skCloseCnt [(s.skein k).cluster] 63 32) 1 := by
  have signals := intSignalCnt_lt
  have low : ∀ (c : Bool) (q : ℕ) (u : State), (when c (fun s => s.bump .skCloseCnt [q] 31 0) u).rgf .skCloseCnt [q] 63 32 = u.rgf .skCloseCnt [q] 63 32 := by
    intro c q u
    cases c
    · rfl
    · exact rgf_bump_apart u _ _ 1 (by decide) (by decide) (by decide) (by decide)
  have told : ∀ (c : Bool) (q : ℕ) (u : State), (when c (raiseInt 9 .skIntStatus [q] 4) u).rgf .skCloseCnt [q] 63 32 = u.rgf .skCloseCnt [q] 63 32 := by
    intro c q u
    cases c
    · rfl
    · refine RegsBut.rgf (regsBut_raised 9 .skIntStatus [q] 4 u) ?_ 63 32
      simp only [List.mem_cons, List.not_mem_nil, or_false, not_or, regAddr_skCloseCnt, regAddr_skIntStatus]
      omega
  have counted := rgf_bump_self s .skCloseCnt [(s.skein k).cluster] (hi := 63) (lo := 32) 1 (by decide) (by decide)
  unfold countClose
  exact (told ..).trans ((low ..).trans counted)

theorem steady_retireClose (k ix : ℕ) (s : State) : Steady [.hk, .regs] s (retireClose k ix s) :=
  ((steady_setCluster ..).mono (by decide)).trans (steady_when ((steady_bump ..).mono (by decide)))

theorem regsBut_retireClose (k ix : ℕ) (s : State) :
    RegsBut [regAddr .hkEngineCnt [(s.skein k).cluster, (s.skein k).home]] s (retireClose k ix s) := by
  unfold retireClose
  exact regsBut_when _ _ _ fun x => regsBut_bump x 63 32 1 (List.mem_singleton.mpr rfl)

theorem retireClose_count (k ix : ℕ) (s : State) : (retireClose k ix s).rgf .skCloseCnt [(s.skein k).cluster] 63 32
    = s.rgf .skCloseCnt [(s.skein k).cluster] 63 32 := by
  have cluster : (s.skein k).cluster < 4 := fld_lt (s.skein k).w0 59 58
  have home : (s.skein k).home < 16 := fld_lt (s.skein k).w0 57 54
  refine RegsBut.rgf (regsBut_retireClose k ix s) ?_ 63 32
  simp only [List.mem_singleton, regAddr_skCloseCnt, regAddr_hkEngineCnt]
  omega

theorem strandsAtClose_skein (k : ℕ) (n : ℤ) (w1 : W) (owners : List ℕ) (s : State) :
    ∃ v, (strandsAtClose k n w1 owners s).skein k = { s.skein k with strandSt := v } := by
  have walk : ∀ (l : List ℕ) (f : State → ℕ → StrandState) (u : State), ∃ v, (l.foldl (fun s slot => setStrandState k slot (f s slot) s) u).skein k
      = { u.skein k with strandSt := v } := by
    intro l f u
    induction l generalizing u with
    | nil => exact ⟨_, rfl⟩
    | cons slot l ih =>
      obtain ⟨v, rest⟩ := ih (setStrandState k slot (f u slot) u)
      refine ⟨v, rest.trans ?_⟩
      rw [setStrandState, skein_modSkein, if_pos rfl]
  exact walk ..

theorem steady_qclear (q lo n : ℕ) (s : State) : Steady [.sk, .flt] s (qclear q lo n s) :=
  steady_of_frame ⟨rfl, fun p hp => by cases p <;> simp_all [Part.same, qclear]⟩

theorem steady_clearInstance (k : ℕ) (i : Instance) (s : State) : Steady [.sk, .flt] s (clearInstance k i s) := by
  unfold clearInstance
  exact (steady_when ((steady_qclear ..).trans (steady_qclear ..))).trans ((steady_modSkein ..).mono (by decide))

/-- A Skein without the instance that has closed. -/
def Skein.without (i : Instance) (x : Skein) : Skein := { x with insts := x.insts.filter fun j => j.occ != i.occ }

theorem clearInstance_skein (k : ℕ) (i : Instance) (s : State) : (clearInstance k i s).skein k = (s.skein k).without i := by
  unfold clearInstance when
  simp only [skein_modSkein, if_true]
  split <;> rfl

/-- A Skein whose next instance is counted. -/
def Skein.counted (x : Skein) : Skein := { x with seq := (x.seq + 1) % 2 ^ 32 }

theorem countClose_skein (k flags : ℕ) (s : State) : (countClose k flags s).skein k = (s.skein k).counted := by
  have sk : ∀ (a b : Bool) (q : ℕ) (u : State),
      (when a (raiseInt 9 .skIntStatus [q] 4) (when b (fun s => s.bump .skCloseCnt [q] 31 0) u)).sk = u.sk := fun a b q u =>
    ((steady_when (l := [.regs]) (steady_bump ..)).mono (m := [.out, .regs]) (by decide) |>.trans (steady_when (steady_raiseInt ..))).same (p := .sk)
  unfold countClose
  simp only [skein_modSkein, if_true]
  rw [skein_congr (sk ..)]
  rfl

/-- A Skein with INEXACT_PRBS of an instance counted (R241). -/
def Skein.inexactBy (n : ℕ) (x : Skein) : Skein := { x with inexact := satAdd 48 x.inexact n }

/-- What the end of an instance leaves of its Skein (R208 step 6). -/
structure Freed (k : ℕ) (i : Instance) (s t : State) : Prop where
  steady : Steady [.sk, .out, .flt, .regs] s t
  insts : (t.skein k).insts = (s.skein k).insts.filter fun j => j.occ != i.occ
  seq : (t.skein k).seq = ((s.skein k).seq + 1) % 2 ^ 32
  inexact : (t.skein k).inexact = satAdd 48 (s.skein k).inexact (s.inexactPrbs (s.skein k) i)
  count : t.rgf .skCloseCnt [(s.skein k).cluster] 63 32 = satAdd 32 (s.rgf .skCloseCnt [(s.skein k).cluster] 63 32) 1

theorem settleSkein_stays {k : ℕ} {s : State} (hd : (s.skein k).destroying = false) (hm : (s.skein k).move = none) : settleSkein k s = s := by
  unfold settleSkein
  simp only [hd, hm, Bool.false_eq_true, if_false]
  split <;> rfl

/-- The state whose Skein has lost an instance, with its Strands walked (R208 step 6, R216). -/
def instanceLeft (k : ℕ) (i : Instance) (s : State) : State :=
  when (!i.disc) (strandsAtClose k i.occ i.w1 ((i.strands.filter fun y => y.2.bits != 0).map (·.1)))
    (clearInstance k i (s.modSkein k (Skein.inexactBy (s.inexactPrbs (s.skein k) i))))

section
variable {k : ℕ} {i : Instance} {s : State}

theorem freeInstance_eq (flags : ℕ) : freeInstance k i flags s = settleSkein k (countClose k flags (instanceLeft k i s)) := rfl

theorem steady_instanceLeft : Steady [.sk, .flt] s (instanceLeft k i s) :=
  ((steady_modSkein ..).mono (by decide)).trans ((steady_clearInstance ..).trans (steady_when ((steady_strandsAtClose ..).mono (by decide))))

theorem instanceLeft_skein : ∃ v, (instanceLeft k i s).skein k
    = { ((s.skein k).inexactBy (s.inexactPrbs (s.skein k) i)).without i with strandSt := v } := by
  have cleared : (clearInstance k i (s.modSkein k (Skein.inexactBy (s.inexactPrbs (s.skein k) i)))).skein k
      = ((s.skein k).inexactBy (s.inexactPrbs (s.skein k) i)).without i := by rw [clearInstance_skein, skein_modSkein, if_pos rfl]
  rw [← cleared]
  unfold instanceLeft when
  split
  · exact strandsAtClose_skein ..
  · exact ⟨_, rfl⟩

theorem freed_freeInstance (flags : ℕ) (hd : (s.skein k).destroying = false) (hm : (s.skein k).move = none) : Freed k i s (freeInstance k i flags s) := by
  obtain ⟨v, left⟩ := instanceLeft_skein (k := k) (i := i) (s := s)
  have same : (instanceLeft k i s).regs = s.regs := steady_instanceLeft.same (p := .regs)
  have counted := countClose_skein k flags (instanceLeft k i s)
  have count := countClose_count k flags (instanceLeft k i s)
  rw [left] at counted count
  rw [freeInstance_eq, settleSkein_stays (by rw [counted]; exact hd) (by rw [counted]; exact hm)]
  refine ⟨(steady_instanceLeft.mono (by decide)).trans ((steady_countClose ..).mono (by decide)), ?_, ?_, ?_, count.trans ?_⟩
  · rw [counted]
    rfl
  · rw [counted]
    rfl
  · rw [counted]
    rfl
  · simp only [State.rgf, State.rg, same]
    rfl

end

/-- A Skein with SATURATED_PRBS of an instance counted (R241). -/
def Skein.saturatedBy (n : ℕ) (x : Skein) : Skein := { x with sat := satAdd 48 x.sat n }

section
variable {k : ℕ} {i : Instance} {s : State}

theorem finishClose_eq {recs : List (List Byte)} (he : i.contrib ≠ 0 ∨ emitEmpty i.w1 = true) : finishClose k i recs s
    = freeInstance k i (i.flags (s.skein k)) (retireClose k i.ix (emitted k i (i.flags (s.skein k)) recs s)) := by
  have emits : ¬(i.contrib = 0 ∧ (!emitEmpty i.w1) = true) := by
    rintro ⟨none, quiet⟩
    simp_all
  unfold finishClose
  simp only [if_neg emits]
  rfl

theorem clean_instanceClose (h : Clean s) (hf : (s.skein k).firstClosing = some i) (hr : s.closeReady k i = true) :
    ∃ recs sat, instanceClose k s = finishClose k i recs (s.modSkein k (Skein.saturatedBy sat)) := by
  obtain ⟨recs, sat, closed⟩ := clean_closePrbs h k i (s.skein k).numPrb
  refine ⟨recs, sat, ?_⟩
  unfold instanceClose closeInstance
  simp only [hf, hr, closed, if_true]
  rfl

theorem exec_instanceClose (hk : k < 65536) : exec (.instanceClose k) s = keep s (instanceClose k s) := by
  change execInstanceClose k s = _
  rw [execInstanceClose, Nat.mod_eq_of_lt hk]

theorem goes_instanceClose (h : Live s) (hk : k < 65536) (hc : Clean s) (hf : (s.skein k).firstClosing = some i) (hr : s.closeReady k i = true)
    (hd : (s.skein k).destroying = false) (hm : (s.skein k).move = none) (he : i.contrib ≠ 0 ∨ emitEmpty i.w1 = true) :
    Goes (.instanceClose k) s [.pk, .hk, .sk, .host, .cmd, .out, .flt, .regs, .power] fun t =>
      (t.skein k).insts = (s.skein k).insts.filter (fun j => j.occ != i.occ) ∧ (t.skein k).seq = ((s.skein k).seq + 1) % 2 ^ 32
      ∧ (t.skein k).inexact = satAdd 48 (s.skein k).inexact (s.inexactPrbs (s.skein k) i)
      ∧ t.rgf .skCloseCnt [(s.skein k).cluster] 63 32 = satAdd 32 (s.rgf .skCloseCnt [(s.skein k).cluster] 63 32) 1
      ∧ Injects (outPort i.w2) (outQueue i.w2) (outFlow i.w2)
          (((s.skein k).numPrb + (if outSplit i.w2 = 0 then (s.skein k).numPrb else outSplit i.w2) - 1)
            / (if outSplit i.w2 = 0 then (s.skein k).numPrb else outSplit i.w2) + b2n (orderTrace i.w1)) s t := by
  have run := exec_instanceClose (s := s) hk
  obtain ⟨recs, sat, closed⟩ := clean_instanceClose hc hf hr
  have noted : Steady [.sk] s (s.modSkein k (Skein.saturatedBy sat)) := steady_modSkein ..
  have skein : (s.modSkein k (Skein.saturatedBy sat)).skein k = (s.skein k).saturatedBy sat := by rw [skein_modSkein, if_pos rfl]
  have inexact : (s.modSkein k (Skein.saturatedBy sat)).inexactPrbs ((s.skein k).saturatedBy sat) i = s.inexactPrbs (s.skein k) i := rfl
  rw [closed, finishClose_eq he] at run
  generalize s.modSkein k (Skein.saturatedBy sat) = u at *
  have sent := injects_emitted k i (i.flags (u.skein k)) recs u
  have emits := steady_emitted k i (i.flags (u.skein k)) recs u
  generalize emitted k i (i.flags (u.skein k)) recs u = v at *
  have retires := steady_retireClose k i.ix v
  have count := retireClose_count k i.ix v
  generalize retireClose k i.ix v = w at *
  have sk : w.sk = u.sk := (retires.same (p := .sk)).trans (emits.same (p := .sk))
  have kept : w.skein k = (s.skein k).saturatedBy sat := (skein_congr sk k).trans skein
  have freed := freed_freeInstance (k := k) (i := i) (s := w) (i.flags (u.skein k)) (by rw [kept]; exact hd) (by rw [kept]; exact hm)
  generalize freeInstance k i (i.flags (u.skein k)) w = t at *
  have steady : Steady [.pk, .hk, .sk, .host, .cmd, .out, .flt, .regs, .power] s t :=
    (noted.mono (by decide)).trans ((emits.mono (by decide)).trans ((retires.mono (by decide)).trans (freed.steady.mono (by decide))))
  refine goes_of_keep run h steady ⟨?_, ?_, ?_, ?_, ?_⟩
  · exact freed.insts.trans (by rw [kept]; rfl)
  · exact freed.seq.trans (by rw [kept]; rfl)
  · rw [freed.inexact, kept, ← inexact]
    simp only [State.inexactPrbs, State.qword, sk]
    rfl
  · have cluster : (w.skein k).cluster = (s.skein k).cluster := by rw [kept]; rfl
    have before : (v.skein k).cluster = (s.skein k).cluster := by rw [skein_congr (emits.same (p := .sk)), skein]; rfl
    have regs : v.regs = s.regs := (emits.same (p := .regs)).trans (noted.same (p := .regs))
    have counted := freed.count
    rw [before] at count
    rw [cluster, count] at counted
    rw [counted, State.rgf, State.rg, regs]
    rfl
  · have pk : t.pk = v.pk := (freed.steady.same (p := .pk)).trans (retires.same (p := .pk))
    rw [skein] at sent
    exact sent.congr (noted.same (p := .pk)) pk

end

end Sys2Proof.Machine
end

section
/-! ### Obligation O22: events of Skeins -/

namespace Sys2Proof.Machine

theorem goes_imp {c : Instr} {s : State} {l : List Part} {P Q : State → Prop} (g : Goes c s l P) (h : ∀ t, P t → Q t) : Goes c s l Q := by
  obtain ⟨t, run, frame, holds⟩ := g
  exact ⟨t, run, frame, h t holds⟩

/-- Settles O22: each clause is the rule of its event. -/
theorem skeinWork : Obligations.SkeinWork := by
  intro s h
  refine ⟨fun n k rest hn hf => ⟨fun hc => goes_feed_capture hn hf h hc, fun hc hd ht hv => goes_feed_weights hn hf h hc hd ht hv,
      fun key hc hw hk hb => goes_feed_sections hn hf h hc hw hk hb, fun hc hw hb => goes_feed_unbound hn hf h hc hw hb⟩,
    fun q f rest hq hf hfull ht => goes_feedStallDrop h hq hf hfull ht,
    fun q f rest hq hf hk hw hfull => goes_sectionAdmit_full hq hf hw h hk hfull,
    fun q f rest k slot e sec n i hq hc hf hk hl hw he hp ht => ?_,
    fun q f rest hq hc hf hk hw ht => goes_sectionAdmit_capture hq hf hw h hc hk ht,
    fun q f rest sym page claim hq hf hk hw => ?_, fun k n hk => ?_,
    fun k i hk hc => ?_,
    fun q k0 x0 hq he => ?_⟩
  · intro x d p0 p1 rel own need typeOk whole comp range mode named inst occ unclosing unclosed unmarked active proved rising others own'
    exact goes_sectionAdmit_good h hq hc hf hw hk hl he hp ht
      ⟨typeOk, whole, comp, range, mode, named, inst, occ, unclosing, unclosed, unmarked, active, proved⟩ ⟨rising, others, own'⟩
  · intro o b k x d first count fg ng hv epoch named slots some' groups length intime hp
    exact goes_weightMessage h hq hf hk hw hv ⟨epoch, named, slots, some', groups, length, intime⟩ rfl hp
  · intro x due hv hn ht
    refine goes_imp (goes_closeBackstop h hk hv hn ht) fun t ⟨others, earlier, opened, empty⟩ => ⟨others, earlier, fun i hi hc => ?_, fun hi => ?_⟩
    · obtain ⟨closed, j, hj, begun⟩ := opened i hi hc
      exact ⟨closed, j, hj, begun.closing, begun.tick, begun.src, begun.noEvent, begun.disc⟩
    · obtain ⟨closed, inst⟩ := empty hi
      refine ⟨closed, ?_⟩
      split at inst
      next emits =>
        obtain ⟨j, hj, begun⟩ := inst
        rw [if_pos emits]
        exact ⟨j, hj, begun.closing, begun.ix, begun.tick⟩
      next quiet => rwa [if_neg quiet]
  · intro x size hf hr hd hm he
    exact goes_instanceClose h hk hc hf hr hd hm he
  · intro due hf
    exact goes_skeinRehome h hq he hf

end Sys2Proof.Machine
end

section
/-! ### The tables of the ingress pipeline

Most commands of this family do one thing in every Tile that they name. `read_eachTile` says once what a walk over Tiles leaves to read where
its step works on its own Tile; tiles, status registers and epochs are all read through it. -/

namespace Sys2Proof.Machine

/-! A walk over the Tiles of a mask. -/

/-- What a walk over distinct Tiles leaves at each key, when its step changes what is read at its own Tile alone. -/
theorem read_eachTile {α : Type} (r : State → ℕ → α) {f : ℕ → State → State} {g : ℕ → α → α}
    (step : ∀ t s k, r (f t s) k = if k = t then g t (r s t) else r s k) {l : List ℕ} (hl : l.Nodup) (s : State) (k : ℕ) :
    r (eachTile l f s) k = if k ∈ l then g k (r s k) else r s k := by
  induction l generalizing s with
  | nil => rfl
  | cons t l ih =>
    obtain ⟨ht, hl⟩ := List.nodup_cons.mp hl
    refine (ih hl (f t s)).trans ?_
    rw [step]
    by_cases hk : k = t
    · subst hk
      simp [ht]
    · simp [hk]

theorem frame_eachTile {m : List Part} {f : ℕ → State → State} (h : ∀ t s, Frame m s (f t s)) (l : List ℕ) (s : State) :
    Frame m s (eachTile l f s) := frame_foldl l (fun s t => h t s) s

/-- A walk changes the registers that its steps change: one of each Tile, and those that they share. -/
theorem regsBut_eachTile {own : ℕ → ℕ} {shared : List ℕ} {f : ℕ → State → State} (h : ∀ t s, RegsBut (own t :: shared) s (f t s)) (l : List ℕ)
    (s : State) : RegsBut (l.map own ++ shared) s (eachTile l f s) := by
  induction l generalizing s with
  | nil => exact RegsBut.refl _ s
  | cons t l ih =>
    refine RegsBut.trans (RegsBut.mono (fun a ha => ?_) (h t s)) (RegsBut.mono (fun a ha => List.mem_cons_of_mem _ ha) (ih (f t s)))
    rcases List.mem_cons.mp ha with rfl | common
    · simp
    · exact List.mem_append_right _ common

/-- Two steps that agree on every Tile with a property that no step takes away walk alike. -/
theorem eachTile_congr {f g : ℕ → State → State} {good : ℕ → State → Prop} (same : ∀ t s, good t s → f t s = g t s)
    (keeps : ∀ t k s, good k s → good k (g t s)) (l : List ℕ) {s : State} (h : ∀ t ∈ l, good t s) : eachTile l f s = eachTile l g s := by
  induction l generalizing s with
  | nil => rfl
  | cons t l ih =>
    obtain ⟨ht, hl⟩ := List.forall_mem_cons.mp h
    change eachTile l f (f t s) = eachTile l g (g t s)
    rw [same t s ht]
    exact ih fun k hk => keeps t k s (hl k hk)

theorem nodup_tilesOf (c : Cmd) : (tilesOf c).Nodup := nodup_bitsOf ..

theorem tilesOf_lt {c : Cmd} {k : ℕ} (h : k ∈ tilesOf c) : k < 16 := ((mem_bitsOf ..).mp h).1

theorem mask_ne_zero {c : Cmd} (h : tilesOf c ≠ []) : fld (c.p 0) 63 48 ≠ 0 := fun zero => h (by rw [tilesOf, zero]; decide)

/-! Tiles and epochs after a write. -/

@[simp] theorem note_tl (c : Cmd) (s : State) (k : ℕ) : (noteIntake c s).tl k = s.tl k := tl_congr (noteIntake_pk c s) k

@[simp] theorem note_epoch (c : Cmd) (s : State) (k : ℕ) : (noteIntake c s).epoch k = s.epoch k := by rw [State.epoch, State.epoch, noteIntake_epochs]

theorem tl_memWrite (b n mem addr : ℕ) (s : State) (k : ℕ) : (memWrite b n mem addr s).tl k = s.tl k := tl_congr (memWrite_pk ..) k

theorem tl_memWriteN (b n mem addr m : ℕ) (s : State) (k : ℕ) : (memWriteN b n mem addr m s).tl k = s.tl k := tl_congr (memWriteN_pk ..) k

theorem epoch_congr {s t : State} (h : t.epochs = s.epochs) (k : ℕ) : t.epoch k = s.epoch k := by rw [State.epoch, State.epoch, h]

theorem epoch_bumpEpoch (k d : ℕ) (s : State) (j : ℕ) : (bumpEpoch k d s).epoch j = if j = k then (s.epoch k + 1) % 65536 else s.epoch j := by
  rw [State.epoch, bumpEpoch, tget_tset]
  split <;> rfl

theorem ekClass_inj (j k b : ℕ) : ekClass j b = ekClass k b ↔ j = k := by
  unfold ekClass
  omega

/-! ### How a command of this family completes -/

/-- A command whose body is done with u inside its frame completes; the packet path, the epochs and the registers are those of u. -/
theorem completes_of_frame {i : Instr} {code : ℕ} {dom : Cmd → State → Option ℕ} {body : CmdBody} {c : Cmd} {s u : State} {res : List W}
    {l : List Part} {ra : List ℕ} (hx : exec i s = commandRow (runCommand code dom body c) c s) (h : Taken code dom c s)
    (hb : body c (noteIntake c s) = .done res u) (hf : Frame ([.host, .out, .regs] ++ l) (noteIntake c s) u)
    (hr : RegsBut ra (noteIntake c s) u) (hm : .mast ∉ [.host, .out, .regs] ++ l := by decide) :
    Completes i c s res l ra fun t => t.pk = u.pk ∧ t.epochs = u.epochs ∧ RegsBut (cmdRegs c) u t := by
  refine completes_of_done hx h hb ?_ (fun p hp _ => hf.2 p hp) (RegsBut.mono (by simp +contextual) hr) ⟨?_, ?_, ?_⟩
  · rw [show u.mast = (noteIntake c s).mast from hf.2 .mast hm, noteIntake_mast]
    exact h.1.2
  · simp [cntAccepted]
  · simp [cntAccepted]
  · exact RegsBut.trans (regsBut_bump _ _ _ _ (by simp [cmdRegs]))
      (RegsBut.trans (regsBut_sendReply _ _ _ _ _ _ (by simp [cmdRegs])) (RegsBut.of_eq rfl))

/-- As above, of a command that changes no register of its own: its frame says so. -/
theorem completes_of_quiet {i : Instr} {code : ℕ} {dom : Cmd → State → Option ℕ} {body : CmdBody} {c : Cmd} {s u : State} {res : List W}
    {l : List Part} (hx : exec i s = commandRow (runCommand code dom body c) c s) (h : Taken code dom c s)
    (hb : body c (noteIntake c s) = .done res u) (hf : Frame l (noteIntake c s) u) (hr : .regs ∉ l := by decide)
    (hm : .mast ∉ [.host, .out, .regs] ++ l := by decide) :
    Completes i c s res l [] fun t => t.pk = u.pk ∧ t.epochs = u.epochs :=
  completes_imp (completes_of_frame hx h hb (Frame.mono (by simp +contextual) hf) (RegsBut.of_eq (hf.2 .regs hr)) hm)
    fun _ ⟨pk, epochs, _⟩ => ⟨pk, epochs⟩

end Sys2Proof.Machine
end

section
namespace Sys2Proof.Machine

/-! ### CLASS_RULE_WRITE (R111, R112, R116) -/

/-- The rules and hit counters of a Tile that commits a rule. -/
def TileState.withRule (i : ℕ) (ws : List W) (tl : TileState) : TileState :=
  { tl with rules := tset [] tl.rules i (if ws.all (· == 0) then [] else ws), hits := tset 0 tl.hits i 0 }

/-- The rule that was committed reads as written, with a hit counter of 0; every other rule and counter stands. -/
theorem withRule_reads (i : ℕ) (ws : List W) (tl : TileState) :
    tget [] (tl.withRule i ws).rules i = (if ws.all (· == 0) then [] else ws) ∧ tget 0 (tl.withRule i ws).hits i = 0
    ∧ ∀ j, j ≠ i → tget [] (tl.withRule i ws).rules j = tget [] tl.rules j ∧ tget 0 (tl.withRule i ws).hits j = tget 0 tl.hits j :=
  ⟨tget_tset_self .., tget_tset_self .., fun _ hj => ⟨tget_tset_ne _ _ _ _ hj, tget_tset_ne _ _ _ _ hj⟩⟩

/-- As above, of a commit through staging: the staging registers keep the rule's words. -/
def TileState.stagedRule (i : ℕ) (ws : List W) (tl : TileState) : TileState := { tl.withRule i ws with stage := ws }

/-- A commit through staging (R112). -/
def stagedCommit (i : ℕ) (ws : List W) (t : ℕ) (s : State) : State :=
  raiseInt 11 .pipeIntStatus [t] 6 ((memWriteN 11 t 0 (8 * i) 8 s).modTl t (TileState.stagedRule i ws))

/-- A commit into the inactive bank (R114, R116). -/
def bankedCommit (i : ℕ) (ws : List W) (t : ℕ) (s : State) : State :=
  bumpEpoch (ekClass t (ruleBank i)) (domTile t) ((memWriteN 11 t 0 (8 * i) 8 s).modTl t (TileState.withRule i ws))

section
variable (i : ℕ) (ws : List W) (t : ℕ) (s : State)

theorem commitRule_staged (h : (s.tl t).staged = true) : commitRule i ws t s = stagedCommit i ws t s := by
  simp only [commitRule, h, stagedCommit, State.modTl, tl_memWriteN, TileState.stagedRule, TileState.withRule, if_true]

theorem commitRule_banked (h : (s.tl t).staged = false) : commitRule i ws t s = bankedCommit i ws t s := by
  simp only [commitRule, h, bankedCommit, State.modTl, tl_memWriteN, TileState.withRule, Bool.false_eq_true, if_false]

theorem tl_stagedCommit (k : ℕ) : (stagedCommit i ws t s).tl k = if k = t then (s.tl t).stagedRule i ws else s.tl k := by
  rw [stagedCommit, tl_congr (raiseInt_pk ..), tl_modTl, tl_memWriteN, tl_memWriteN]

theorem tl_bankedCommit (k : ℕ) : (bankedCommit i ws t s).tl k = if k = t then (s.tl t).withRule i ws else s.tl k := by
  rw [bankedCommit, tl_congr (bumpEpoch_pk ..), tl_modTl, tl_memWriteN, tl_memWriteN]

theorem frame_written (f : TileState → TileState) : Frame [.pk, .flt] s ((memWriteN 11 t 0 (8 * i) 8 s).modTl t f) :=
  Frame.trans (Frame.mono (by simp) (frame_memWriteN ..)) (Frame.mono (by simp) (frame_modTl ..))

theorem frame_stagedCommit : Frame [.out, .regs, .pk, .flt] s (stagedCommit i ws t s) :=
  Frame.trans (Frame.mono (by simp) (frame_written i t s _)) (Frame.mono (by simp) (steady_raiseInt ..).frame)

theorem frame_bankedCommit : Frame [.pk, .flt, .epochs] s (bankedCommit i ws t s) :=
  Frame.trans (Frame.mono (by simp) (frame_written i t s _)) (Frame.mono (by simp) (frame_bumpEpoch ..))

theorem regsBut_stagedCommit : RegsBut [regAddr .pipeIntStatus [t], regAddr .intSignalCnt []] s (stagedCommit i ws t s) :=
  RegsBut.trans (RegsBut.of_eq ((frame_written i t s _).2 .regs (by decide))) (regsBut_raised _ _ _ _ _)

theorem regAddr_pipeIntStatus : regAddr .pipeIntStatus [t] = 0x80000 + t * 0x1000 := regAddr_one rfl rfl t

theorem pipeIntStatus_ne_signalCnt : regAddr .pipeIntStatus [t] ≠ regAddr .intSignalCnt [] := by
  have count : regAddr .intSignalCnt [] < 0x80000 := by decide
  rw [regAddr_pipeIntStatus]
  omega

theorem pipeIntStatus_notMem_cmdRegs (h : t < 16) (c : Cmd) : regAddr .pipeIntStatus [t] ∉ cmdRegs c := by
  have function := fnIntStatus_ge ((srcFn c.src).getD 0)
  have source := srcCode_le c.src
  have count : regAddr .cmdSrcCnt [srcCode c.src] = 0x30 + srcCode c.src * 8 := regAddr_one rfl rfl _
  simp only [cmdRegs, List.mem_cons, List.not_mem_nil, or_false, not_or, count, regAddr_pipeIntStatus]
  omega

theorem rg_stagedCommit (k : ℕ) : (stagedCommit i ws t s).rg .pipeIntStatus [k]
    = if k = t then s.rg .pipeIntStatus [t] ||| 0x40 else s.rg .pipeIntStatus [k] := by
  split
  next same =>
    subst same
    refine (rg_raiseInt_self 11 6 _ (pipeIntStatus_ne_signalCnt k)).trans ?_
    rw [State.rg, State.rg, (show _ = s.regs from (frame_written i k s _).2 .regs (by decide))]
    rfl
  next apart =>
    refine regsBut_stagedCommit i ws t s .pipeIntStatus [k] ?_
    simp only [List.mem_cons, List.not_mem_nil, or_false, not_or, regAddr_pipeIntStatus]
    exact ⟨by omega, regAddr_pipeIntStatus k ▸ pipeIntStatus_ne_signalCnt k⟩

theorem epoch_bankedCommit (k : ℕ) : (bankedCommit i ws t s).epoch (ekClass k (ruleBank i))
    = if k = t then (s.epoch (ekClass t (ruleBank i)) + 1) % 65536 else s.epoch (ekClass k (ruleBank i)) := by
  have before := fun j => epoch_congr (show _ = s.epochs from (frame_written i t s (TileState.withRule i ws)).2 .epochs (by decide)) j
  simp only [bankedCommit, epoch_bumpEpoch, ekClass_inj, before]

end

/-- A step that keeps its own Tile's classifier mode keeps that of every Tile. -/
theorem staged_kept {f : ℕ → State → State} {g : TileState → TileState} (step : ∀ t s k, (f t s).tl k = if k = t then g (s.tl t) else s.tl k)
    (hg : ∀ tl, (g tl).staged = tl.staged) (t : ℕ) (s : State) (k : ℕ) : ((f t s).tl k).staged = (s.tl k).staged := by
  rw [step]
  split
  next same => rw [same, hg]
  next => rfl

theorem eachTile_staged (i : ℕ) (ws : List W) {l : List ℕ} {s : State} (h : ∀ k ∈ l, (s.tl k).staged = true) :
    eachTile l (commitRule i ws) s = eachTile l (stagedCommit i ws) s :=
  eachTile_congr (good := fun k s => (s.tl k).staged = true) (commitRule_staged i ws)
    (fun t k s => (staged_kept (tl_stagedCommit i ws) (fun _ => rfl) t s k).trans) l h

theorem eachTile_banked (i : ℕ) (ws : List W) {l : List ℕ} {s : State} (h : ∀ k ∈ l, (s.tl k).staged = false) :
    eachTile l (commitRule i ws) s = eachTile l (bankedCommit i ws) s :=
  eachTile_congr (good := fun k s => (s.tl k).staged = false) (commitRule_banked i ws)
    (fun t k s => (staged_kept (tl_bankedCommit i ws) (fun _ => rfl) t s k).trans) l h

theorem exec_classRuleWrite (c : Cmd) (s : State) :
    exec (.classRuleWrite c) s = commandRow (runCommand 0x0400 maskDomain classRuleWriteBody c) c s := rfl

/-- The operands of a CLASS_RULE_WRITE are good (R111, R288). -/
def RuleGood (c : Cmd) : Prop :=
  tilesOf c ≠ [] ∧ fld (c.p 0) 31 13 = 0 ∧ (bitAt (c.p 1) 63 = false ∨ fld (c.p 1) 62 60 < 6 ∧ actionOk (c.p 1) = true)

theorem classRuleWriteBody_done {c : Cmd} {s : State} (h : RuleGood c)
    (free : ∀ k ∈ tilesOf c, (s.tl k).staged = true ∨ (s.tl k).active ≠ ruleBank (ruleIndex c)) :
    classRuleWriteBody c s = .done
      (if (tilesOf c).all fun k => (s.tl k).staged then []
        else (tilesOf c).map (ruleResult (eachTile (tilesOf c) (commitRule (ruleIndex c) (ruleWords c)) s)))
      (eachTile (tilesOf c) (commitRule (ruleIndex c) (ruleWords c)) s) := by
  obtain ⟨named, zero, word⟩ := h
  have first : (ruleWords c).getD 0 0 = c.p 1 := rfl
  have mask := mask_ne_zero named
  have fits : (!bitAt (c.p 1) 63 || (decide (fld (c.p 1) 62 60 < 6) && actionOk (c.p 1))) = true := by
    rcases word with h | ⟨h, h'⟩ <;> simp [*]
  have good : firstBad [(0, fld (c.p 0) 31 13 == 0 && fld (c.p 0) 63 48 != 0),
      (1, !bitAt (c.p 1) 63 || (decide (fld (c.p 1) 62 60 < 6) && actionOk (c.p 1)))] = none := by
    rw [fits]
    simp [firstBad, zero, mask]
  have clear : ¬((tilesOf c).any fun k => !(s.tl k).staged && ruleBank (ruleIndex c) == (s.tl k).active) = true := by
    simp only [List.any_eq_true, Bool.and_eq_true, Bool.not_eq_true', beq_iff_eq, not_exists, not_and]
    intro k hk bank active
    rcases free k hk with staged | inactive
    · simp [bank] at staged
    · exact inactive active.symm
  simp only [classRuleWriteBody, first, checked, good, if_neg clear]

theorem completes_classRuleWrite_staged {c : Cmd} {s : State} (h : Taken 0x0400 maskDomain c s) (good : RuleGood c)
    (hs : ∀ k ∈ tilesOf c, (s.tl k).staged = true) :
    Completes (.classRuleWrite c) c s [] [.pk, .flt] ((tilesOf c).map (fun k => regAddr .pipeIntStatus [k]) ++ [regAddr .intSignalCnt []]) fun t =>
      (∀ k, t.tl k = if k ∈ tilesOf c then (s.tl k).stagedRule (ruleIndex c) (ruleWords c) else s.tl k)
      ∧ ∀ k ∈ tilesOf c, t.rg .pipeIntStatus [k] = s.rg .pipeIntStatus [k] ||| 0x40 := by
  have done := classRuleWriteBody_done (s := noteIntake c s) good (by simp +contextual [hs])
  have all : ((tilesOf c).all fun k => ((noteIntake c s).tl k).staged) = true := by simpa using hs
  rw [all, if_pos rfl, eachTile_staged _ _ (by simpa using hs)] at done
  refine completes_imp (completes_of_frame (exec_classRuleWrite c s) h done (Frame.mono (by simp) (frame_eachTile (frame_stagedCommit _ _) _ _))
    (regsBut_eachTile (regsBut_stagedCommit _ _) _ _)) fun t ⟨pk, _, regs⟩ => ⟨fun k => ?_, fun k hk => ?_⟩
  · rw [tl_congr pk, read_eachTile State.tl (tl_stagedCommit _ _) (nodup_tilesOf c), note_tl]
  · rw [regs _ _ (pipeIntStatus_notMem_cmdRegs k (tilesOf_lt hk) c),
      read_eachTile (fun s k => s.rg .pipeIntStatus [k]) (g := fun _ w => w ||| 0x40) (rg_stagedCommit _ _) (nodup_tilesOf c), if_pos hk, note_rg]

theorem completes_classRuleWrite_banked {c : Cmd} {s : State} (h : Taken 0x0400 maskDomain c s) (good : RuleGood c)
    (hs : ∀ k ∈ tilesOf c, (s.tl k).staged = false ∧ (s.tl k).active ≠ ruleBank (ruleIndex c)) :
    ∃ res, Completes (.classRuleWrite c) c s res [.pk, .flt, .epochs] [] fun t =>
      (∀ k, t.tl k = if k ∈ tilesOf c then (s.tl k).withRule (ruleIndex c) (ruleWords c) else s.tl k)
      ∧ (∀ k ∈ tilesOf c, t.epoch (ekClass k (ruleBank (ruleIndex c))) = (s.epoch (ekClass k (ruleBank (ruleIndex c))) + 1) % 65536)
      ∧ res.length = (tilesOf c).length := by
  have banked : ∀ k ∈ tilesOf c, ((noteIntake c s).tl k).staged = false := fun k hk => by rw [note_tl]; exact (hs k hk).1
  have done := classRuleWriteBody_done (s := noteIntake c s) good fun k hk => by rw [note_tl]; exact .inr (hs k hk).2
  have mixed : ¬((tilesOf c).all fun k => ((noteIntake c s).tl k).staged) = true := by
    obtain ⟨k, hk⟩ := List.exists_mem_of_ne_nil _ good.1
    simp only [List.all_eq_true, not_forall]
    exact ⟨k, hk, by rw [banked k hk]; decide⟩
  rw [if_neg mixed, eachTile_banked _ _ banked] at done
  refine ⟨_, completes_imp (completes_of_quiet (exec_classRuleWrite c s) h done (frame_eachTile (frame_bankedCommit _ _) _ _))
    fun t ⟨pk, epochs⟩ => ⟨fun k => ?_, fun k hk => ?_, List.length_map _⟩⟩
  · rw [tl_congr pk, read_eachTile State.tl (tl_bankedCommit _ _) (nodup_tilesOf c), note_tl]
  · rw [epoch_congr epochs, read_eachTile (fun s k => s.epoch (ekClass k (ruleBank (ruleIndex c)))) (g := fun _ e => (e + 1) % 65536)
      (epoch_bankedCommit _ _) (nodup_tilesOf c), if_pos hk, note_epoch]

end Sys2Proof.Machine
end

section
namespace Sys2Proof.Machine

/-! ### CLASS_MODE, CLASS_BANK_SWAP and CLASS_COUNTER_READ (R111, R114, R115) -/

/-- The rules that stay valid where a classifier goes to staging: those of the bank that was active; the others lose VALID (R114). -/
def keptRules (active : ℕ) (rules : Tbl (List W)) : Tbl (List W) :=
  (rules.map fun x => if ruleBank x.1 = active then x else (x.1, ins (x.2.getD 0 0) 63 63 0 :: x.2.drop 1)).filter fun x => !(x.2.all (· == 0))

theorem bitAt_ins_top (w : W) : bitAt (ins w 63 63 0) 63 = false := by
  have clear : fld (ins w 63 63 0) 63 63 = 0 := fld_ins_self w 63 63 0 (by decide) (by decide)
  rw [bitAt, BitVec.getLsbD, Nat.testBit_eq_decide_div_mod_eq]
  simpa [fld, nfld] using clear

theorem keptRules_invalid {active : ℕ} {rules : Tbl (List W)} {x : ℕ × List W} (hx : x ∈ keptRules active rules) (hb : ruleBank x.1 ≠ active) :
    bitAt (x.2.getD 0 0) 63 = false := by
  obtain ⟨y, _, rfl⟩ := List.mem_map.mp (List.mem_filter.mp hx).1
  by_cases same : ruleBank y.1 = active
  · rw [if_pos same] at hb
    exact absurd same hb
  · rw [if_neg same]
    exact bitAt_ins_top _

/-- A Tile's classifier in banked mode, and in staging (R114). -/
def TileState.toBanked (tl : TileState) : TileState := if tl.staged then { tl with staged := false, active := 0 } else tl
def TileState.toStaged (tl : TileState) : TileState := if !tl.staged then { tl with staged := true, rules := keptRules tl.active tl.rules } else tl

theorem switchMode_same {banked : Bool} {t : ℕ} {s : State} (h : banked = !(s.tl t).staged) : switchMode banked t s = s := if_pos h

theorem switchMode_banked {t : ℕ} {s : State} (h : (s.tl t).staged = true) :
    switchMode true t s = bumpEpoch (ekClass t 1) (domTile t) (s.modTl t TileState.toBanked) := by
  simp [switchMode, h, State.modTl, TileState.toBanked]

theorem switchMode_staged {t : ℕ} {s : State} (h : (s.tl t).staged = false) : switchMode false t s = s.modTl t TileState.toStaged := by
  simp [switchMode, h, State.modTl, TileState.toStaged, keptRules]

theorem tl_switchMode_banked (t : ℕ) (s : State) (k : ℕ) : (switchMode true t s).tl k = if k = t then (s.tl t).toBanked else s.tl k := by
  cases h : (s.tl t).staged
  · rw [switchMode_same (by rw [h]; rfl), TileState.toBanked, h]
    split <;> simp [*]
  · rw [switchMode_banked h, tl_congr (bumpEpoch_pk ..), tl_modTl]

theorem tl_switchMode_staged (t : ℕ) (s : State) (k : ℕ) : (switchMode false t s).tl k = if k = t then (s.tl t).toStaged else s.tl k := by
  cases h : (s.tl t).staged
  · rw [switchMode_staged h, tl_modTl]
  · rw [switchMode_same (by rw [h]; rfl), TileState.toStaged, h]
    split <;> simp [*]

theorem frame_setTl (t : ℕ) (v : TileState) (s : State) : Frame [.pk] s (s.setTl t v) := frame_modTl t (fun _ => v) s

theorem frame_switchMode (banked : Bool) (t : ℕ) (s : State) : Frame [.pk, .epochs] s (switchMode banked t s) := by
  simp only [switchMode]
  split
  · exact Frame.refl _ s
  · split
    · exact Frame.trans (Frame.mono (by simp) (frame_setTl ..)) (Frame.mono (by simp) (frame_bumpEpoch ..))
    · exact Frame.mono (by simp) (frame_setTl ..)

theorem exec_classMode (c : Cmd) (s : State) : exec (.classMode c) s = commandRow (runCommand 0x0401 maskDomain classModeBody c) c s := rfl

/-- No Tile that a CLASS_MODE takes from staging holds a valid rule in bank 1 (R114). -/
def BankOneClear (c : Cmd) (s : State) : Prop :=
  ∀ k ∈ tilesOf c, (s.tl k).staged = true → ∀ x ∈ (s.tl k).rules, 4096 ≤ x.1 → bitAt (x.2.getD 0 0) 63 = false

theorem classModeBody_done {c : Cmd} {s : State} (ht : tilesOf c ≠ []) (h0 : fld (c.p 0) 47 1 = 0)
    (free : bitAt (c.p 0) 0 = true → BankOneClear c s) :
    classModeBody c s = .done [] (eachTile (tilesOf c) (switchMode (bitAt (c.p 0) 0)) s) := by
  have good : firstBad [(0, fld (c.p 0) 63 48 != 0 && fld (c.p 0) 47 1 == 0)] = none := by simp [firstBad, mask_ne_zero ht, h0]
  have clear : ¬(bitAt (c.p 0) 0 && (tilesOf c).any (fun k => (s.tl k).staged
      && (s.tl k).rules.any fun x => decide (4096 ≤ x.1) && bitAt (x.2.getD 0 0) 63)) = true := by
    simp only [Bool.and_eq_true, List.any_eq_true, decide_eq_true_eq, not_and, not_exists]
    intro banked k hk staged x hx high valid
    exact absurd valid (by rw [free banked k hk staged x hx high]; decide)
  simp only [classModeBody, checked, good, if_neg clear]

theorem completes_classMode {c : Cmd} {s : State} {g : TileState → TileState} (h : Taken 0x0401 maskDomain c s) (ht : tilesOf c ≠ [])
    (h0 : fld (c.p 0) 47 1 = 0)
    (free : bitAt (c.p 0) 0 = true → BankOneClear c s)
    (hg : ∀ t s k, (switchMode (bitAt (c.p 0) 0) t s).tl k = if k = t then g (s.tl t) else s.tl k) :
    Completes (.classMode c) c s [] [.pk, .epochs] [] fun t => ∀ k, t.tl k = if k ∈ tilesOf c then g (s.tl k) else s.tl k := by
  have done := classModeBody_done (s := noteIntake c s) ht h0 (by simpa only [BankOneClear, note_tl] using free)
  refine completes_imp (completes_of_quiet (exec_classMode c s) h done (frame_eachTile (frame_switchMode _) _ _)) fun t ⟨pk, _⟩ k => ?_
  rw [tl_congr pk, read_eachTile State.tl hg (nodup_tilesOf c), note_tl]

theorem completes_classMode_banked {c : Cmd} {s : State} (h : Taken 0x0401 maskDomain c s) (ht : tilesOf c ≠ []) (h0 : fld (c.p 0) 47 1 = 0)
    (hb : bitAt (c.p 0) 0 = true) (free : BankOneClear c s) :
    Completes (.classMode c) c s [] [.pk, .epochs] [] fun t =>
      ∀ k, t.tl k = if k ∈ tilesOf c ∧ (s.tl k).staged then { s.tl k with staged := false, active := 0 } else s.tl k := by
  refine completes_imp (completes_classMode h ht h0 (fun _ => free) (hb ▸ tl_switchMode_banked)) fun t tiles k => ?_
  rw [tiles, TileState.toBanked, ite_and]

theorem completes_classMode_staged {c : Cmd} {s : State} (h : Taken 0x0401 maskDomain c s) (ht : tilesOf c ≠ []) (h0 : fld (c.p 0) 47 1 = 0)
    (hb : bitAt (c.p 0) 0 = false) :
    Completes (.classMode c) c s [] [.pk, .epochs] [] fun t =>
      ∀ k, t.tl k = if k ∈ tilesOf c ∧ !(s.tl k).staged then
        { s.tl k with staged := true, rules := keptRules (s.tl k).active (s.tl k).rules } else s.tl k := by
  refine completes_imp (completes_classMode h ht h0 (by simp [hb]) (hb ▸ tl_switchMode_staged)) fun t tiles k => ?_
  rw [tiles, TileState.toStaged, ite_and]

theorem exec_classBankSwap (c : Cmd) (s : State) :
    exec (.classBankSwap c) s = commandRow (runCommand 0x0402 tileDomain classBankSwapBody c) c s := rfl

theorem frame_swapBank (t : ℕ) (s : State) : Frame [.pk, .epochs] s (swapBank t s) :=
  Frame.trans (Frame.mono (by simp) (frame_setTl ..)) (Frame.mono (by simp) (frame_bumpEpoch ..))

theorem tl_swapBank (t : ℕ) (s : State) (k : ℕ) : (swapBank t s).tl k = if k = t then { s.tl t with active := 1 - (s.tl t).active } else s.tl k :=
  (tl_congr (bumpEpoch_pk ..) k).trans (tl_modTl s t k fun tl => { tl with active := 1 - tl.active })

theorem epoch_swapBank (t : ℕ) (s : State) : (swapBank t s).epoch (ekClass t (s.tl t).active) = (s.epoch (ekClass t (s.tl t).active) + 1) % 65536 :=
  epoch_bumpEpoch_self ..

theorem completes_classBankSwap {c : Cmd} {s : State} {n : ℕ} (hn : n = fld (c.p 0) 63 60) (h : Taken 0x0402 tileDomain c s) (hs : (s.tl n).staged = false)
    (h0 : fld (c.p 0) 59 16 = 0) (he : fld (c.p 0) 15 0 = s.epoch (ekClass n (1 - (s.tl n).active))) :
    Completes (.classBankSwap c) c s [] [.pk, .epochs] [] fun t =>
      t.tl n = { s.tl n with active := 1 - (s.tl n).active } ∧ (∀ k, k ≠ n → t.tl k = s.tl k)
      ∧ t.epoch (ekClass n (s.tl n).active) = (s.epoch (ekClass n (s.tl n).active) + 1) % 65536 := by
  have done : classBankSwapBody c (noteIntake c s) = .done [] (swapBank n (noteIntake c s)) := by
    have good : firstBad [(0, !(s.tl n).staged && fld (c.p 0) 59 16 == 0)] = none := by simp [firstBad, hs, h0]
    simp [classBankSwapBody, checked, ← hn, good, he]
  refine completes_imp (completes_of_quiet (exec_classBankSwap c s) h done (frame_swapBank ..)) fun t ⟨pk, epochs⟩ => ⟨?_, fun k hk => ?_, ?_⟩
  · rw [tl_congr pk, tl_swapBank, if_pos rfl, note_tl]
  · rw [tl_congr pk, tl_swapBank, if_neg hk, note_tl]
  · have advanced := epoch_swapBank n (noteIntake c s)
    rw [note_tl, note_epoch] at advanced
    rw [epoch_congr epochs, advanced]

theorem exec_classCounterRead (c : Cmd) (s : State) :
    exec (.classCounterRead c) s = commandRow (runCommand 0x0403 tileDomain classCounterReadBody c) c s := rfl

theorem completes_classCounterRead {c : Cmd} {s : State} (h : Taken 0x0403 tileDomain c s) (h1 : 0 < readCount c) (h2 : readCount c < 8192)
    (h3 : readFirst c + readCount c ≤ 8192) (h0 : fld (c.p 0) 59 48 = 0) :
    Completes (.classCounterRead c) c s
      ((List.range (readCount c)).map fun k => BitVec.ofNat 64 (tget 0 (s.tl (fld (c.p 0) 63 60)).hits (readFirst c + k))) [] []
      fun _ => True := by
  have done : classCounterReadBody c (noteIntake c s) = .done
      ((List.range (readCount c)).map fun k => BitVec.ofNat 64 (tget 0 (s.tl (fld (c.p 0) 63 60)).hits (readFirst c + k))) (noteIntake c s) := by
    simp [classCounterReadBody, checked, firstBad, h0, h1, h2, h3]
  exact completes_imp (completes_of_quiet (exec_classCounterRead c s) h done (Frame.refl ..)) fun _ _ => trivial

end Sys2Proof.Machine
end

section
namespace Sys2Proof.Machine

/-! ### POLICER_SET, INDIR_WRITE, CPU_CODE_WRITE and ENCAP_WRITE (R125, R127, R128, R131) -/

theorem exec_policerSet (c : Cmd) (s : State) : exec (.policerSet c) s = commandRow (runCommand 0x0404 word0Tile policerSetBody c) c s := rfl

theorem policerSetBody_done {c : Cmd} {s : State} (h0 : c.n 0 < 16) (h1 : c.n 1 < 65536) (h2 : c.n 2 < 2) (h3 : c.n 3 < 2)
    (h4 : c.n 4 < 33554432) (h5 : c.n 5 < 16777216) (h6 : c.n 6 < 33554432) (h7 : c.n 7 < 16777216) (h8 : -32 ≤ (c.p 8).toInt)
    (h8' : (c.p 8).toInt ≤ 31) (h9 : c.n 9 < 3) :
    policerSetBody c s = .done [] ((memWriteN 11 (c.n 0) 1 (4 * c.n 1) 4 s).modTl (c.n 0) fun tl =>
      { tl with policers := tset {} tl.policers (c.n 1) (policerOf c (memWriteN 11 (c.n 0) 1 (4 * c.n 1) 4 s).tick) }) := by
  simp [policerSetBody, checked, firstBad, *]

theorem completes_policerSet {c : Cmd} {s : State} (h : Taken 0x0404 word0Tile c s) (h0 : c.n 0 < 16) (h1 : c.n 1 < 65536) (h2 : c.n 2 < 2)
    (h3 : c.n 3 < 2) (h4 : c.n 4 < 33554432) (h5 : c.n 5 < 16777216) (h6 : c.n 6 < 33554432) (h7 : c.n 7 < 16777216)
    (h8 : -32 ≤ (c.p 8).toInt) (h8' : (c.p 8).toInt ≤ 31) (h9 : c.n 9 < 3) :
    Completes (.policerSet c) c s [] [.pk, .flt] [] fun t =>
      ∀ k, t.tl k = if k = c.n 0 then
        { s.tl (c.n 0) with policers := tset {} (s.tl (c.n 0)).policers (c.n 1) (policerOf c s.mast.tick) } else s.tl k := by
  have done := policerSetBody_done (s := noteIntake c s) h0 h1 h2 h3 h4 h5 h6 h7 h8 h8' h9
  have now : (memWriteN 11 (c.n 0) 1 (4 * c.n 1) 4 (noteIntake c s)).tick = s.mast.tick := by rw [State.tick, memWriteN_mast, noteIntake_mast]
  rw [now] at done
  refine completes_imp (completes_of_quiet (exec_policerSet c s) h done (Frame.trans (Frame.mono (by simp) (frame_memWriteN ..))
    (Frame.mono (by simp) (frame_modTl ..)))) fun t ⟨pk, _⟩ k => ?_
  rw [tl_congr pk, tl_modTl, tl_memWriteN, tl_memWriteN, note_tl, note_tl]

theorem exec_indirWrite (c : Cmd) (s : State) : exec (.indirWrite c) s = commandRow (runCommand 0x0405 maskDomain indirWriteBody c) c s := rfl

theorem completes_indirWrite {c : Cmd} {s : State} (h : Taken 0x0405 maskDomain c s) (ht : tilesOf c ≠ []) (hi : readFirst c < 512)
    (h0 : fld (c.p 0) 47 32 = 0) :
    Completes (.indirWrite c) c s [] [.pk, .flt] [] fun t =>
      ∀ k, t.tl k = if k ∈ tilesOf c then { s.tl k with indir := tset 0 (s.tl k).indir (readFirst c) (c.p 1) } else s.tl k := by
  have done : indirWriteBody c (noteIntake c s) = .done [] (eachTile (tilesOf c) (fun t s =>
      (memWrite 11 t 2 (readFirst c) s).modTl t fun tl => { tl with indir := tset 0 tl.indir (readFirst c) (c.p 1) }) (noteIntake c s)) := by
    simp [indirWriteBody, checked, firstBad, mask_ne_zero ht, hi, h0]
  refine completes_imp (completes_of_quiet (exec_indirWrite c s) h done (frame_eachTile (fun t s => Frame.trans (Frame.mono (by simp) (frame_memWrite ..))
    (Frame.mono (by simp) (frame_modTl ..))) _ _)) fun t ⟨pk, _⟩ k => ?_
  rw [tl_congr pk, read_eachTile State.tl (g := fun _ tl => { tl with indir := tset 0 tl.indir (readFirst c) (c.p 1) })
    (fun t s k => by rw [tl_modTl, tl_memWrite, tl_memWrite]) (nodup_tilesOf c), note_tl]

theorem exec_cpuCodeWrite (c : Cmd) (s : State) : exec (.cpuCodeWrite c) s = commandRow (runCommand 0x0406 noDomain cpuCodeWriteBody c) c s := rfl

theorem completes_cpuCodeWrite {c : Cmd} {s : State} (h : Taken 0x0406 noDomain c s) (hi : c.n 0 < 4096)
    (hw : ¬(bitAt (c.p 1) 63 = true ∧ bitAt (c.p 1) 62 = true ∧ fld (c.p 1) 49 46 = 0)) :
    Completes (.cpuCodeWrite c) c s [] [.pk, .flt] [] fun t => t.pk = { s.pk with cpu := tset 0 s.pk.cpu (c.n 0) (c.p 1) } := by
  let u := memWrite 11 0 4 (c.n 0) (noteIntake c s)
  have path : u.pk = s.pk := (memWrite_pk ..).trans (noteIntake_pk ..)
  have done : cpuCodeWriteBody c (noteIntake c s) = .done [] { u with pk := { u.pk with cpu := tset 0 u.pk.cpu (c.n 0) (c.p 1) } } := by
    have good : firstBad [(0, decide (c.n 0 < 4096)), (1, !(bitAt (c.p 1) 63 && bitAt (c.p 1) 62 && fld (c.p 1) 49 46 == 0))] = none := by
      simp_all [firstBad]
    simp only [cpuCodeWriteBody, checked, good, u]
  have code : Frame [.pk] u { u with pk := { u.pk with cpu := tset 0 u.pk.cpu (c.n 0) (c.p 1) } } :=
    ⟨rfl, fun p hp => by cases p <;> simp_all [Part.same]⟩
  refine completes_imp (completes_of_quiet (exec_cpuCodeWrite c s) h done (Frame.trans (Frame.mono (by simp) (frame_memWrite ..)) (Frame.mono (by simp) code)))
    fun t ⟨pk, _⟩ => ?_
  rw [pk, path]

theorem exec_encapWrite (c : Cmd) (s : State) : exec (.encapWrite c) s = commandRow (runCommand 0x0407 maskDomain encapWriteBody c) c s := rfl

/-- The entry that an ENCAP_WRITE carries (Table 5-8). -/
def encapOf (c : Cmd) : Encap := { typ := fld (c.p 1) 63 56, tmpl := ((c.params.drop 2).flatMap wordBytes).take (fld (c.p 1) 7 0) }

theorem encapWriteBody_done {c : Cmd} {s : State} (ht : tilesOf c ≠ []) (h1 : 1 ≤ readFirst c) (h2 : readFirst c < 256) (h0 : fld (c.p 0) 47 32 = 0)
    (h3 : 1 ≤ fld (c.p 1) 63 56) (h4 : fld (c.p 1) 63 56 ≤ 8) (h5 : fld (c.p 1) 7 0 ≤ 96) (h6 : c.params.length = 2 + (fld (c.p 1) 7 0 + 7) / 8) :
    encapWriteBody c s = .done [] (eachTile (tilesOf c) (fun t s =>
      (memWriteN 11 t 3 (16 * readFirst c) 13 s).modTl t fun tl => { tl with encap := tset {} tl.encap (readFirst c) (encapOf c) }) s) := by
  have good : firstBad [(0, fld (c.p 0) 63 48 != 0 && decide (1 ≤ readFirst c) && decide (readFirst c < 256) && fld (c.p 0) 47 32 == 0),
      (1, decide (1 ≤ fld (c.p 1) 63 56) && decide (fld (c.p 1) 63 56 ≤ 8) && decide (fld (c.p 1) 7 0 ≤ 96)
        && decide (c.params.length = 2 + (fld (c.p 1) 7 0 + 7) / 8))] = none := by
    simp [firstBad, mask_ne_zero ht, h1, h2, h0, h3, h4, h5, h6]
  simp only [encapWriteBody, checked, good]
  rfl

theorem completes_encapWrite {c : Cmd} {s : State} (h : Taken 0x0407 maskDomain c s) (ht : tilesOf c ≠ []) (h1 : 1 ≤ readFirst c) (h2 : readFirst c < 256)
    (h0 : fld (c.p 0) 47 32 = 0) (h3 : 1 ≤ fld (c.p 1) 63 56) (h4 : fld (c.p 1) 63 56 ≤ 8) (h5 : fld (c.p 1) 7 0 ≤ 96)
    (h6 : c.params.length = 2 + (fld (c.p 1) 7 0 + 7) / 8) :
    Completes (.encapWrite c) c s [] [.pk, .flt] [] fun t =>
      ∀ k, t.tl k = if k ∈ tilesOf c then { s.tl k with encap := tset {} (s.tl k).encap (readFirst c) (encapOf c) } else s.tl k := by
  have done := encapWriteBody_done (s := noteIntake c s) ht h1 h2 h0 h3 h4 h5 h6
  refine completes_imp (completes_of_quiet (exec_encapWrite c s) h done (frame_eachTile (fun t s => Frame.trans (Frame.mono (by simp) (frame_memWriteN ..))
    (Frame.mono (by simp) (frame_modTl ..))) _ _)) fun t ⟨pk, _⟩ k => ?_
  rw [tl_congr pk, read_eachTile State.tl (g := fun _ tl => { tl with encap := tset {} tl.encap (readFirst c) (encapOf c) })
    (fun t s k => by rw [tl_modTl, tl_memWriteN, tl_memWriteN]) (nodup_tilesOf c), note_tl]

end Sys2Proof.Machine
end

section
/-! ### Obligation O14: the tables of the pipeline -/

namespace Sys2Proof.Machine

/-- Settles O14: each command has its rule above, which gives every Tile after it; the tables then read as they were written. -/
theorem pipelineTables : Obligations.PipelineTables := by
  intro c s named w0ok
  refine ⟨fun h ht h0 hw hs => ?_, fun h ht h0 hw hs => ?_, fun h ht h0 hb free => completes_classMode_banked h ht h0 hb free,
    fun h ht h0 hb => ?_, fun h hs h0 he => completes_classBankSwap rfl h hs h0 he,
    fun h h1 h2 h3 h0 => completes_classCounterRead h h1 h2 h3 h0, fun h h0 h1 h2 h3 h4 h5 h6 h7 h8 h8' h9 => ?_,
    fun h ht hi h0 => ?_, fun h hi hw => ?_, fun h ht h1 h2 h0 h3 h4 h5 h6 => ?_⟩
  · refine completes_imp (completes_classRuleWrite_staged h ⟨ht, h0, hw⟩ hs) fun t ⟨tiles, status⟩ => ⟨fun k hk => ?_, fun k hk => ?_⟩
    · obtain ⟨rule, hit, others⟩ := withRule_reads (ruleIndex c) (ruleWords c) (s.tl k)
      rw [tiles, if_pos hk]
      exact ⟨rfl, rule, hit, others, status k hk⟩
    · rw [tiles, if_neg hk]
  · obtain ⟨res, completes⟩ := completes_classRuleWrite_banked h ⟨ht, h0, hw⟩ hs
    refine ⟨res, completes_imp completes fun t ⟨tiles, epochs, length⟩ => ⟨fun k hk => ?_, fun k hk => ?_, length⟩⟩
    · obtain ⟨rule, hit, others⟩ := withRule_reads (ruleIndex c) (ruleWords c) (s.tl k)
      rw [tiles, if_pos hk]
      exact ⟨rfl, rule, hit, others, epochs k hk⟩
    · rw [tiles, if_neg hk]
  · refine completes_imp (completes_classMode_staged h ht h0 hb) fun t tiles k => ?_
    rw [tiles]
    refine ⟨?_, fun hk hs => ?_⟩
    · split <;> rfl
    · rw [if_pos ⟨hk, by simp [hs]⟩]
      exact fun x hx hb => keptRules_invalid hx hb
  · refine completes_imp (completes_policerSet h h0 h1 h2 h3 h4 h5 h6 h7 h8 h8' h9) fun t tiles => ⟨?_, fun k hk => ?_, ?_⟩
    · rw [tiles, if_pos rfl]
    · rw [tiles, if_neg hk]
    · rw [tiles, if_pos rfl]
      exact ⟨tget_tset_self .., fun i hi => tget_tset_ne _ _ _ _ hi⟩
  · refine completes_imp (completes_indirWrite h ht hi h0) fun t tiles => ⟨fun k hk => ?_, fun k hk => ?_⟩
    · rw [tiles, if_pos hk]
      exact ⟨rfl, tget_tset_self .., fun i hi => tget_tset_ne _ _ _ _ hi⟩
    · rw [tiles, if_neg hk]
  · refine completes_imp (completes_cpuCodeWrite h hi hw) fun t pk => ?_
    rw [pk]
    exact ⟨rfl, tget_tset_self .., fun i hi => tget_tset_ne _ _ _ _ hi⟩
  · refine completes_imp (completes_encapWrite h ht h1 h2 h0 h3 h4 h5 h6) fun t tiles => ⟨fun k hk => ?_, fun k hk => ?_⟩
    · rw [tiles, if_pos hk]
      exact ⟨rfl, tget_tset_self .., fun i hi => tget_tset_ne _ _ _ _ hi⟩
    · rw [tiles, if_neg hk]

end Sys2Proof.Machine
end

section
/-! ### The commands on the forwarding tables (chapter 6, R170)

Those that complete at once walk the Tiles that they name; `completes_walk` says what such a walk leaves of every Tile. L2_FLUSH and
L2_RESEED are answered later, and begin by `goes_of_later`. -/

namespace Sys2Proof.Machine

/-- A command whose body walks the Tiles that it names, each step changing its own Tile alone. -/
theorem completes_walk {i : Instr} {code : ℕ} {dom : Cmd → State → Option ℕ} {body : CmdBody} {c : Cmd} {s : State} {l : List Part}
    {f : ℕ → State → State} {g : TileState → TileState} (hx : exec i s = commandRow (runCommand code dom body c) c s) (h : Taken code dom c s)
    (hb : body c (noteIntake c s) = .done [] (eachTile (tilesOf c) f (noteIntake c s))) (hf : ∀ t s, Frame l s (f t s))
    (hg : ∀ t s k, (f t s).tl k = if k = t then g (s.tl t) else s.tl k) (hr : .regs ∉ l := by decide)
    (hm : .mast ∉ [.host, .out, .regs] ++ l := by decide) :
    Completes i c s [] l [] fun t => (∀ k, t.tl k = if k ∈ tilesOf c then g (s.tl k) else s.tl k)
      ∧ t.epochs = (eachTile (tilesOf c) f (noteIntake c s)).epochs := by
  refine completes_imp (completes_of_quiet hx h hb (frame_eachTile hf _ _) hr hm) fun t ⟨pk, epochs⟩ => ⟨fun k => ?_, epochs⟩
  rw [tl_congr pk, read_eachTile State.tl (g := fun _ => g) hg (nodup_tilesOf c), note_tl]

/-- A command that is accepted and answered later, once what it begins in the packet path has ended. -/
theorem goes_of_later {i : Instr} {code : ℕ} {dom : Cmd → State → Option ℕ} {body : CmdBody} {c : Cmd} {s u : State} {kind key : ℕ}
    (hx : exec i s = commandRow (runCommand code dom body c) c s) (h : Taken code dom c s)
    (hb : body c (noteIntake c s) = .later (openCmd kind key c u)) (hu : Frame [.pk] (noteIntake c s) u) :
    Goes i s [.pk, .cmd, .regs] fun t => t.pk = u.pk
      ∧ t.cmd = { (noteIntake c s).cmd with opened := s.cmd.opened ++ [{ cmd := c, kind := kind, key := key }] }
      ∧ RegsBut [regAddr .cmdSrcCnt [srcCode c.src]] s t := by
  let v := cntAccepted c (openCmd kind key c u)
  have taken : exec i s = keep s v := by rw [hx, commandRow_turn h.2.2.2.2.1, runCommand_taken h, hb]; rfl
  have noted : Frame [.pk, .cmd, .regs] s (noteIntake c s) := ⟨by simp, fun p hp => by cases p <;> simp_all [Part.same]⟩
  have opened : Frame [.cmd] u (openCmd kind key c u) := ⟨by simp, fun p hp => by cases p <;> simp_all [Part.same]⟩
  have frame : Frame [.pk, .cmd, .regs] s v := Frame.trans noted <| Frame.trans (Frame.mono (by simp) hu) <|
    Frame.trans (Frame.mono (by simp) opened) (Frame.mono (by simp) (steady_bump ..).frame)
  refine goes_of_running taken h.1 frame (congrArg Mast.running (frame.2 .mast (by decide))) ⟨rfl, ?_, ?_⟩
  · have cmd : u.cmd = (noteIntake c s).cmd := hu.2 .cmd (by decide)
    simp [v, cntAccepted, openCmd, cmd]
  · exact RegsBut.trans (RegsBut.of_eq ((hu.2 .regs (by decide)).trans (noteIntake_regs c s)))
      (regsBut_bump (openCmd kind key c u) _ _ _ (List.mem_singleton.mpr rfl))

/-! L2_ENTRY_WRITE and L2_ENTRY_DELETE (R142). -/

/-- The request of a host write (kind 1) or a host delete, posted at a tick. -/
def hostReqOf (kind : ℕ) (c : Cmd) (now : ℕ) : LearnReq :=
  let k := if kind = 1 then (ins (c.p 1) 25 0 0, ins (c.p 2) 63 48 0) else l2Key (fld (c.p 1) 59 48) (fld (c.p 1) 47 0) 0
  { kind := kind, w0 := k.1, w1 := k.2, tick := now }

/-- A Tile to whose learn queue a request was posted. -/
def TileState.posted (r : LearnReq) (tl : TileState) : TileState := { tl with learnQ := tl.learnQ ++ [r] }

theorem hostReqBody_done (kind : ℕ) {c : Cmd} {s : State} (ht : tilesOf c ≠ []) (h0 : fld (c.p 0) 47 0 = 0)
    (room : ∀ k ∈ tilesOf c, (s.tl k).hostReqs < 64) :
    hostReqBody kind c s = .done [] (eachTile (tilesOf c) (fun t u => u.modTl t (TileState.posted (hostReqOf kind c s.tick))) s) := by
  have good : firstBad [(0, fld (c.p 0) 63 48 != 0 && fld (c.p 0) 47 0 == 0)] = none := by simp [firstBad, mask_ne_zero ht, h0]
  have free : ¬((tilesOf c).any fun t => 64 ≤ (s.tl t).hostReqs) = true := by simpa using room
  simp only [hostReqBody, checked, good, if_neg free]
  rfl

theorem completes_hostReq {i : Instr} {code kind : ℕ} {c : Cmd} {s : State}
    (hx : exec i s = commandRow (runCommand code maskDomain (hostReqBody kind) c) c s) (h : Taken code maskDomain c s)
    (ht : tilesOf c ≠ []) (h0 : fld (c.p 0) 47 0 = 0) (room : ∀ k ∈ tilesOf c, (s.tl k).hostReqs < 64) :
    Completes i c s [] [.pk] [] fun t =>
      ∀ k, t.tl k = if k ∈ tilesOf c then (s.tl k).posted (hostReqOf kind c s.mast.tick) else s.tl k := by
  have done := hostReqBody_done kind (s := noteIntake c s) ht h0 (by simpa using room)
  rw [note_tick] at done
  exact completes_imp (completes_walk hx h done (fun t u => frame_modTl t _ u) fun t u k => tl_modTl u t k _) fun _ ⟨tiles, _⟩ => tiles

theorem exec_l2EntryWrite (c : Cmd) (s : State) :
    exec (.l2EntryWrite c) s = commandRow (runCommand 0x0500 maskDomain (hostReqBody 1) c) c s := rfl

theorem exec_l2EntryDelete (c : Cmd) (s : State) :
    exec (.l2EntryDelete c) s = commandRow (runCommand 0x0501 maskDomain (hostReqBody 2) c) c s := rfl

/-! L2_FLUSH and L2_RESEED begin (R142, R146). -/

/-- The flush that an L2_FLUSH begins at a tick. -/
def flushOf (c : Cmd) (now : ℕ) : Flush :=
  { byPort := bitAt (c.p 0) 31, byVid := bitAt (c.p 0) 30, port := fld (c.p 0) 20 12, vid := fld (c.p 0) 11 0, start := now }

/-- A Tile in which a flush runs. -/
def TileState.flushing (f : Flush) (tl : TileState) : TileState := { tl with flush := some f }

theorem l2FlushBody_later {c : Cmd} {s : State} (ht : tilesOf c ≠ []) (hb : bitAt (c.p 0) 31 = true ∨ bitAt (c.p 0) 30 = true)
    (free : ∀ k ∈ tilesOf c, (s.tl k).flush = none) :
    l2FlushBody c s = .later (openCmd 0x0502 (fld (c.p 0) 63 48) c
      (eachTile (tilesOf c) (fun t u => u.modTl t (TileState.flushing (flushOf c s.tick))) s)) := by
  have good : firstBad [(0, fld (c.p 0) 63 48 != 0 && (bitAt (c.p 0) 31 || bitAt (c.p 0) 30))] = none := by
    rcases hb with hb | hb <;> simp [firstBad, mask_ne_zero ht, hb]
  have idle : ¬((tilesOf c).any fun t => (s.tl t).flush.isSome) = true := by simpa using free
  simp only [l2FlushBody, checked, good, if_neg idle]
  rfl

theorem exec_l2Flush (c : Cmd) (s : State) : exec (.l2Flush c) s = commandRow (runCommand 0x0502 maskDomain l2FlushBody c) c s := rfl

theorem goes_l2Flush {c : Cmd} {s : State} (h : Taken 0x0502 maskDomain c s) (ht : tilesOf c ≠ [])
    (hb : bitAt (c.p 0) 31 = true ∨ bitAt (c.p 0) 30 = true) (free : ∀ k ∈ tilesOf c, (s.tl k).flush = none) :
    Goes (.l2Flush c) s [.pk, .cmd, .regs] fun t =>
      (∀ k, t.tl k = if k ∈ tilesOf c then (s.tl k).flushing (flushOf c s.mast.tick) else s.tl k)
      ∧ t.cmd = { (noteIntake c s).cmd with opened := s.cmd.opened ++ [{ cmd := c, kind := 0x0502, key := fld (c.p 0) 63 48 }] }
      ∧ RegsBut [regAddr .cmdSrcCnt [srcCode c.src]] s t := by
  have later := l2FlushBody_later (s := noteIntake c s) ht hb (by simpa using free)
  rw [note_tick] at later
  refine goes_imp (goes_of_later (exec_l2Flush c s) h later (frame_eachTile (fun t u => frame_modTl t _ u) _ _))
    fun t ⟨pk, cmd, regs⟩ => ⟨fun k => ?_, cmd, regs⟩
  rw [tl_congr pk, read_eachTile State.tl (g := fun _ => TileState.flushing (flushOf c s.mast.tick)) (fun t u k => tl_modTl u t k _)
    (nodup_tilesOf c), note_tl]

/-- The reseed that an L2_RESEED begins at a tick. -/
def reseedOf (c : Cmd) (now : ℕ) : Reseed :=
  { seed := fld (c.p 0) 31 0, epoch := fld (c.p 0) 47 32, image := imageOf (c.n 1) c.host, start := now }

/-- A Tile in which a reseed runs: a rehash request ends with it. -/
def TileState.reseeding (r : Reseed) (tl : TileState) : TileState := { tl with reseed := some r, rehash := false }

theorem l2ReseedBody_later {c : Cmd} {s : State} (h0 : fld (c.p 0) 59 48 = 0) (free : (s.tl (fld (c.p 0) 63 60)).reseed = none)
    (fits : ∀ x ∈ imageOf (c.n 1) c.host, l2Set (fld (c.p 0) 31 0) (l2Vid x.2) (l2Mac x.2) = x.1 / 4) :
    l2ReseedBody c s = .later (openCmd 0x0504 (fld (c.p 0) 63 60) c
      (s.modTl (fld (c.p 0) 63 60) (TileState.reseeding (reseedOf c s.tick)))) := by
  have placed : (imageOf (c.n 1) c.host).find? (fun x => l2Set (fld (c.p 0) 31 0) (l2Vid x.2) (l2Mac x.2) != x.1 / 4) = none :=
    List.find?_eq_none.mpr fun x hx => by simp [fits x hx]
  simp only [l2ReseedBody, checked, firstBad, h0, free, placed]
  rfl

theorem exec_l2Reseed (c : Cmd) (s : State) : exec (.l2Reseed c) s = commandRow (runCommand 0x0504 tileDomain l2ReseedBody c) c s := rfl

theorem goes_l2Reseed {c : Cmd} {s : State} (h : Taken 0x0504 tileDomain c s) (h0 : fld (c.p 0) 59 48 = 0)
    (free : (s.tl (fld (c.p 0) 63 60)).reseed = none)
    (fits : ∀ x ∈ imageOf (c.n 1) c.host, l2Set (fld (c.p 0) 31 0) (l2Vid x.2) (l2Mac x.2) = x.1 / 4) :
    Goes (.l2Reseed c) s [.pk, .cmd, .regs] fun t =>
      (∀ k, t.tl k = if k = fld (c.p 0) 63 60 then (s.tl (fld (c.p 0) 63 60)).reseeding (reseedOf c s.mast.tick) else s.tl k)
      ∧ t.cmd = { (noteIntake c s).cmd with opened := s.cmd.opened ++ [{ cmd := c, kind := 0x0504, key := fld (c.p 0) 63 60 }] }
      ∧ RegsBut [regAddr .cmdSrcCnt [srcCode c.src]] s t := by
  have later := l2ReseedBody_later (s := noteIntake c s) h0 (by simpa using free) fits
  rw [note_tick] at later
  refine goes_imp (goes_of_later (exec_l2Reseed c s) h later (frame_modTl ..)) fun t ⟨pk, cmd, regs⟩ => ⟨fun k => ?_, cmd, regs⟩
  rw [tl_congr pk, tl_modTl, note_tl, note_tl]

/-! L2_DUMP and L2_REHASH_ACK (R145, R146). -/

theorem exec_l2Dump (c : Cmd) (s : State) : exec (.l2Dump c) s = commandRow (runCommand 0x0503 tileDomain l2DumpBody c) c s := rfl

@[simp] theorem note_l2At (c : Cmd) (s : State) (t set way : ℕ) : (noteIntake c s).l2At t set way = s.l2At t set way := by
  rw [State.l2At, State.l2At, note_tl, note_tick]
  rfl

theorem completes_l2Dump {c : Cmd} {s : State} (h : Taken 0x0503 tileDomain c s) (hc : Clean s) (h1 : 0 < readCount c) (h2 : readCount c ≤ 1023)
    (h3 : readFirst c + readCount c ≤ 32768) (h0 : fld (c.p 0) 59 48 = 0) :
    Completes (.l2Dump c) c s ((List.range (4 * readCount c)).flatMap fun i =>
      [(s.l2At (fld (c.p 0) 63 60) (readFirst c + i / 4) (i % 4)).1, (s.l2At (fld (c.p 0) 63 60) (readFirst c + i / 4) (i % 4)).2]) [] []
      fun _ => True := by
  have clean : Clean (noteIntake c s) := by simpa only [Clean, noteIntake_flt] using hc
  have done : l2DumpBody c (noteIntake c s) = .done ((List.range (4 * readCount c)).flatMap fun i =>
      [(s.l2At (fld (c.p 0) 63 60) (readFirst c + i / 4) (i % 4)).1, (s.l2At (fld (c.p 0) 63 60) (readFirst c + i / 4) (i % 4)).2])
      (noteIntake c s) := by
    simp [l2DumpBody, checked, firstBad, h0, h1, h2, h3, mgmtReads, clean_memReadN clean]
  exact completes_imp (completes_of_quiet (exec_l2Dump c s) h done (Frame.refl ..)) fun _ _ => trivial

theorem exec_l2RehashAck (c : Cmd) (s : State) :
    exec (.l2RehashAck c) s = commandRow (runCommand 0x0505 tileDomain l2RehashAckBody c) c s := rfl

theorem completes_l2RehashAck {c : Cmd} {s : State} (h : Taken 0x0505 tileDomain c s) (h0 : fld (c.p 0) 59 0 = 0) :
    Completes (.l2RehashAck c) c s [] [.pk] [] fun t =>
      ∀ k, t.tl k = if k = fld (c.p 0) 63 60 then { s.tl (fld (c.p 0) 63 60) with rehash := false } else s.tl k := by
  have done : l2RehashAckBody c (noteIntake c s)
      = .done [] ((noteIntake c s).modTl (fld (c.p 0) 63 60) fun tl => { tl with rehash := false }) := by
    simp [l2RehashAckBody, checked, firstBad, h0]
  refine completes_imp (completes_of_quiet (exec_l2RehashAck c s) h done (frame_modTl ..)) fun t ⟨pk, _⟩ k => ?_
  rw [tl_congr pk, tl_modTl, note_tl, note_tl]

end Sys2Proof.Machine
end

section
namespace Sys2Proof.Machine

/-! ### LPM_WRITE, LPM_SYNC and FLOOD_SET_WRITE (R154, R155, R170) -/

/-- A run of words written to consecutive keys of a table, from the key of place j on. -/
theorem tget_writeRun {α : Type} [DecidableEq α] (d : α) {key : ℕ → ℕ} {b : ℕ} (hkey : ∀ i, key i = b + i) (ws : List α) (j : ℕ)
    (m : Tbl α) (a : ℕ) : tget d ((ws.zipIdx j).foldl (fun m x => tset d m (key x.2) x.1) m) a
      = if b + j ≤ a ∧ a < b + j + ws.length then ws.getD (a - (b + j)) d else tget d m a := by
  induction ws generalizing j m with
  | nil => rw [if_neg (by simp)]; rfl
  | cons w ws ih =>
    rw [List.zipIdx_cons, List.foldl_cons, ih, tget_tset, hkey, List.length_cons]
    rcases lt_trichotomy a (b + j) with below | rfl | above
    · rw [if_neg (by omega), if_neg (by omega), if_neg (by omega)]
    · rw [if_neg (by omega), if_pos rfl, if_pos (by omega), Nat.sub_self]; rfl
    · by_cases inside : a < b + j + (ws.length + 1)
      · rw [if_pos (by omega), if_pos (by omega), show a - (b + j) = (a - (b + (j + 1))) + 1 by omega]; rfl
      · rw [if_neg (by omega), if_neg (by omega), if_neg (by omega)]

theorem lpmKey_add (st a i : ℕ) : lpmKey st (a + i) = lpmKey st a + i := (Nat.add_assoc ..).symm

/-- A Tile whose route words an LPM_WRITE has written, with its EPOCH, VALID and seed. -/
def TileState.routed (c : Cmd) (tl : TileState) : TileState := { tl with
  lpm := (c.params.drop 2).zipIdx.foldl (fun m x => tset 0 m (lpmKey (fld (c.p 0) 31 28) (fld (c.p 0) 27 0 + x.2)) x.1) tl.lpm
  lpmEpoch := fld (c.p 1) 63 48, lpmValid := bitAt (c.p 1) 47, emSeed := fld (c.p 1) 31 0 }

theorem routed_reads (c : Cmd) (tl : TileState) (a : ℕ) : tget 0 (tl.routed c).lpm a
    = if lpmKey (fld (c.p 0) 31 28) (fld (c.p 0) 27 0) ≤ a
        ∧ a < lpmKey (fld (c.p 0) 31 28) (fld (c.p 0) 27 0) + (c.params.drop 2).length
      then (c.params.drop 2).getD (a - lpmKey (fld (c.p 0) 31 28) (fld (c.p 0) 27 0)) 0 else tget 0 tl.lpm a := by
  simpa only [Nat.add_zero, TileState.routed] using tget_writeRun 0 (lpmKey_add (fld (c.p 0) 31 28) (fld (c.p 0) 27 0)) (c.params.drop 2) 0 tl.lpm a

/-- What an LPM_WRITE does in a Tile. -/
def writeRoutes (c : Cmd) (t : ℕ) (s : State) : State :=
  ((memWriteN 12 t (fld (c.p 0) 31 28) (fld (c.p 0) 27 0) (c.params.drop 2).length s).modTl t (TileState.routed c)).setEpoch (ekLpm t)
    (fld (c.p 1) 63 48)

theorem tl_writeRoutes (c : Cmd) (t : ℕ) (s : State) (k : ℕ) : (writeRoutes c t s).tl k = if k = t then (s.tl t).routed c else s.tl k := by
  rw [writeRoutes, tl_congr (State.setEpoch_pk ..), tl_modTl, tl_memWriteN, tl_memWriteN]

theorem epoch_setEpoch (s : State) (k v j : ℕ) : (s.setEpoch k v).epoch j = if j = k then v % 65536 else s.epoch j := by
  rw [State.epoch, State.setEpoch, tget_tset]
  split <;> rfl

theorem epoch_writeRoutes (c : Cmd) (t : ℕ) (s : State) (k : ℕ) :
    (writeRoutes c t s).epoch (ekLpm k) = if k = t then fld (c.p 1) 63 48 else s.epoch (ekLpm k) := by
  have own : ekLpm k = ekLpm t ↔ k = t := Nat.add_left_cancel_iff
  rw [writeRoutes, epoch_setEpoch, epoch_congr (show _ = s.epochs by simp)]
  simp only [own, Nat.mod_eq_of_lt (show fld (c.p 1) 63 48 < 65536 from fld_lt ..)]

theorem frame_writeRoutes (c : Cmd) (t : ℕ) (s : State) : Frame [.pk, .flt, .epochs] s (writeRoutes c t s) :=
  Frame.trans (Frame.mono (by simp) (frame_memWriteN ..)) <|
    Frame.trans (Frame.mono (by simp) (frame_modTl ..)) (Frame.mono (by simp) (steady_setEpoch ..).frame)

theorem exec_lpmWrite (c : Cmd) (s : State) : exec (.lpmWrite c) s = commandRow (runCommand 0x0506 maskDomain lpmWriteBody c) c s := rfl

theorem completes_lpmWrite {c : Cmd} {s : State} (h : Taken 0x0506 maskDomain c s) (ht : tilesOf c ≠ []) (h0 : fld (c.p 0) 47 32 = 0)
    (fits : fld (c.p 0) 27 0 + (c.params.drop 2).length ≤ lpmWords (fld (c.p 0) 31 28)) :
    Completes (.lpmWrite c) c s [] [.pk, .flt, .epochs] [] fun t =>
      (∀ k, t.tl k = if k ∈ tilesOf c then (s.tl k).routed c else s.tl k)
      ∧ ∀ k ∈ tilesOf c, t.epoch (ekLpm k) = fld (c.p 1) 63 48 := by
  have good : firstBad [(0, fld (c.p 0) 63 48 != 0 && fld (c.p 0) 47 32 == 0
      && decide (fld (c.p 0) 27 0 + (c.params.drop 2).length ≤ lpmWords (fld (c.p 0) 31 28)))] = none := by
    simp only [firstBad, decide_eq_true fits]
    simp [mask_ne_zero ht, h0]
  have done : lpmWriteBody c (noteIntake c s) = .done [] (eachTile (tilesOf c) (writeRoutes c) (noteIntake c s)) := by
    simp only [lpmWriteBody, checked, good]
    rfl
  refine completes_imp (completes_walk (exec_lpmWrite c s) h done (frame_writeRoutes c) (tl_writeRoutes c)) fun t ⟨tiles, epochs⟩ =>
    ⟨tiles, fun k hk => ?_⟩
  rw [epoch_congr epochs, read_eachTile (fun s k => s.epoch (ekLpm k)) (g := fun _ _ => fld (c.p 1) 63 48) (epoch_writeRoutes c)
    (nodup_tilesOf c), if_pos hk]

theorem exec_lpmSync (c : Cmd) (s : State) : exec (.lpmSync c) s = commandRow (runCommand 0x0507 noDomain lpmSyncBody c) c s := rfl

theorem completes_lpmSync {c : Cmd} {s : State} (h : Taken 0x0507 noDomain c s) : Completes (.lpmSync c) c s [] [] [] fun _ => True :=
  completes_imp (completes_of_quiet (exec_lpmSync c s) h rfl (Frame.refl ..)) fun _ _ => trivial

theorem exec_floodSetWrite (c : Cmd) (s : State) :
    exec (.floodSetWrite c) s = commandRow (runCommand 0x0508 maskDomain floodSetWriteBody c) c s := rfl

/-- A Tile with a flood set (KIND 0) or the flood set of a VID (KIND 1) written. -/
def TileState.flooded (c : Cmd) (tl : TileState) : TileState :=
  if bitAt (c.p 0) 31 then { tl with vlanFlood := tset 0 tl.vlanFlood (fld (c.p 0) 11 0) (c.n 1) }
  else { tl with floodSets := tset (List.replicate 8 0) tl.floodSets (fld (c.p 0) 11 0) (c.params.drop 1) }

/-- What a FLOOD_SET_WRITE does in a Tile. -/
def writeFlood (c : Cmd) (t : ℕ) (s : State) : State :=
  (if bitAt (c.p 0) 31 then memWrite 12 t 10 (32768 + fld (c.p 0) 11 0) s else memWriteN 12 t 10 (8 * fld (c.p 0) 11 0) 8 s).modTl t
    (TileState.flooded c)

theorem frame_writeFlood (c : Cmd) (t : ℕ) (s : State) : Frame [.pk, .flt] s (writeFlood c t s) := by
  refine Frame.trans (Frame.mono (l := [.flt]) (by simp) ?_) (Frame.mono (by simp) (frame_modTl ..))
  split
  · exact frame_memWrite ..
  · exact frame_memWriteN ..

theorem tl_writeFlood (c : Cmd) (t : ℕ) (s : State) (k : ℕ) : (writeFlood c t s).tl k = if k = t then (s.tl t).flooded c else s.tl k := by
  rw [writeFlood, tl_modTl]
  split_ifs
  · rw [tl_memWrite]
  · rw [tl_memWriteN]
  · rw [tl_memWrite]
  · rw [tl_memWriteN]

theorem floodSetWriteBody_done {c : Cmd} {s : State} (ht : tilesOf c ≠ []) (h0 : fld (c.p 0) 47 32 = 0) (h1 : fld (c.p 0) 30 12 = 0)
    (hl : c.params.length = if bitAt (c.p 0) 31 then 2 else 9) (hn : bitAt (c.p 0) 31 = true → c.n 1 < 4096) :
    floodSetWriteBody c s = .done [] (eachTile (tilesOf c) (writeFlood c) s) := by
  have fits : (!bitAt (c.p 0) 31 || decide (c.n 1 < 4096)) = true := by
    cases hb : bitAt (c.p 0) 31
    · rfl
    · simp [hn hb]
  have good : firstBad [(0, fld (c.p 0) 63 48 != 0 && fld (c.p 0) 47 32 == 0 && fld (c.p 0) 30 12 == 0
      && c.params.length == (if bitAt (c.p 0) 31 then 2 else 9)), (1, !bitAt (c.p 0) 31 || decide (c.n 1 < 4096))] = none := by
    rw [fits, hl]
    simp [firstBad, mask_ne_zero ht, h0, h1]
  simp only [floodSetWriteBody, checked, good]
  refine congrArg (fun f => CmdResult.done [] (eachTile (tilesOf c) f s)) (funext fun t => funext fun u => ?_)
  unfold writeFlood TileState.flooded
  cases bitAt (c.p 0) 31 <;> simp only [Bool.false_eq_true, if_false, if_true]

theorem completes_floodSetWrite {c : Cmd} {s : State} (h : Taken 0x0508 maskDomain c s) (ht : tilesOf c ≠ []) (h0 : fld (c.p 0) 47 32 = 0)
    (h1 : fld (c.p 0) 30 12 = 0) (hl : c.params.length = if bitAt (c.p 0) 31 then 2 else 9) (hn : bitAt (c.p 0) 31 = true → c.n 1 < 4096) :
    Completes (.floodSetWrite c) c s [] [.pk, .flt] [] fun t => ∀ k, t.tl k = if k ∈ tilesOf c then (s.tl k).flooded c else s.tl k :=
  completes_imp (completes_walk (exec_floodSetWrite c s) h (floodSetWriteBody_done ht h0 h1 hl hn) (frame_writeFlood c) (tl_writeFlood c))
    fun _ ⟨tiles, _⟩ => tiles

end Sys2Proof.Machine
end

section
namespace Sys2Proof.Machine

/-! ### A flush and a reseed end (R142, R147) -/

theorem exec_l2FlushDone {k : ℕ} (hk : k < 16) (s : State) : exec (.l2FlushDone k) s = keep s (l2FlushDone k s) := by
  change keep s (l2FlushDone (k % 16) s) = _
  rw [Nat.mod_eq_of_lt hk]

/-- A Tile that a flush has gone through at a tick. -/
def TileState.flushed (f : Flush) (now : ℕ) (tl : TileState) : TileState := { tl with
  flush := none, l2 := tl.l2.filter (fun x => !f.removes x.2)
  reseed := tl.reseed.map fun r => { r with image := r.image.filter fun x => decide (4 * r.loaded now ≤ x.1) || !f.removes x.2 } }

/-- The end of a flush in a Tile writes the words of the entries that go, changes the Tile, and answers the commands that are done. -/
theorem l2FlushDone_eq {k : ℕ} {s : State} {f : Flush} (hf : (s.tl k).flush = some f) (ht : f.start + 16384 ≤ s.mast.tick) :
    ∃ u, Frame [.flt] s u ∧ Steady [.host, .cmd, .out, .regs] (u.setTl k ((s.tl k).flushed f s.mast.tick)) (l2FlushDone k s) := by
  have due : ¬s.tick < f.start + 16384 := not_lt.mpr ht
  have answers : ∀ (keys : List ℕ) (v : State), Steady [.host, .cmd, .out, .regs] v (keys.foldl (fun s k =>
      if (bitsOf 16 k).all fun u => (s.tl u).flush.isNone then closeCmd 0x0502 k .ok 0 [] s else s) v) := fun keys v =>
    steady_foldl keys (fun s k => steady_ite (steady_closeCmd ..) (.refl _ s)) v
  have written := fun gone : List (ℕ × W × W) => frame_foldl gone (fun s x => frame_memWriteN 12 k 0 (2 * x.1) 2 s) s
  simp only [l2FlushDone, hf, if_neg due, TileState.flushed]
  cases (s.tl k).reseed with
  | none => exact ⟨_, written _, answers _ _⟩
  | some r => exact ⟨_, written _, answers _ _⟩

theorem goes_l2FlushDone {k : ℕ} {s : State} {f : Flush} (hk : k < 16) (h : Live s) (hf : (s.tl k).flush = some f)
    (ht : f.start + 16384 ≤ s.mast.tick) :
    Goes (.l2FlushDone k) s [.pk, .host, .cmd, .out, .flt, .regs] fun t =>
      ∀ j, t.tl j = if j = k then (s.tl k).flushed f s.mast.tick else s.tl j := by
  obtain ⟨u, written, answered⟩ := l2FlushDone_eq hf ht
  have whole : Steady [.pk, .host, .cmd, .out, .flt, .regs] s (l2FlushDone k s) :=
    ((steady_of_frame written).mono (by simp)).trans <| ((steady_of_frame (frame_setTl ..)).mono (by simp)).trans (answered.mono (by simp))
  refine goes_of_keep (exec_l2FlushDone hk s) h whole fun j => ?_
  rw [tl_congr (answered.frame.2 .pk (by decide))]
  refine (tl_modTl u k j fun _ => (s.tl k).flushed f s.mast.tick).trans ?_
  rw [tl_congr (written.2 .pk (by decide))]

theorem exec_reseedDone {k : ℕ} (hk : k < 16) (s : State) : exec (.reseedDone k) s = keep s (reseedDone k s) := by
  change keep s (reseedDone (k % 16) s) = _
  rw [Nat.mod_eq_of_lt hk]

theorem regAddr_ftIntStatus (k : ℕ) : regAddr .ftIntStatus [k] = 0x90000 + k * 0x1000 := regAddr_one rfl rfl k

theorem ftIntStatus_ne_signalCnt (k : ℕ) : regAddr .ftIntStatus [k] ≠ regAddr .intSignalCnt [] := by
  have count : regAddr .intSignalCnt [] < 0x90000 := by decide
  rw [regAddr_ftIntStatus]
  omega

/-- Answers to waiting commands leave every register below those of the functions alone. -/
theorem rg_closeCmd {r : RegId} {ix : List ℕ} (hr : regAddr r ix < 0x100000008) (kind key : ℕ) (st : Status) (d : ℕ) (res : List W)
    (s : State) : (closeCmd kind key st d res s).rg r ix = s.rg r ix := by
  have answers : ∀ (l : List OpenCmd) (u : State), (l.foldl (fun s o => sendReply o.cmd true st d res s) u).rg r ix = u.rg r ix := by
    intro l
    induction l with
    | nil => exact fun _ => rfl
    | cons o l ih =>
      refine fun u => (ih _).trans (regsBut_sendReply o.cmd true st d res u (List.mem_singleton.mpr rfl) r ix fun hm => ?_)
      have beyond := fnIntStatus_ge ((srcFn o.cmd.src).getD 0)
      rw [← List.mem_singleton.mp hm] at beyond
      omega
  exact answers _ _

/-- A Tile whose reseed is complete: image, seed and epoch are its own. -/
def TileState.reseeded (r : Reseed) (tl : TileState) : TileState := { tl with reseed := none, l2 := r.image, l2Seed := r.seed, l2Epoch := r.epoch }

/-- The epoch of the new table advances, and the L2_RESEED is answered, before the interrupt. -/
def reseedAnswered (k : ℕ) (r : Reseed) (s : State) : State :=
  closeCmd 0x0504 k .ok 0 [] (bumpEpoch (ekL2 k) (domTile k) (s.modTl k (TileState.reseeded r)))

theorem reseedDone_eq {k : ℕ} {s : State} {r : Reseed} (hr : (s.tl k).reseed = some r) (hl : r.loaded s.mast.tick = 32768) :
    reseedDone k s = raiseInt 12 .ftIntStatus [k] 3 (reseedAnswered k r s) := by
  simp [reseedDone, hr, State.tick, hl, reseedAnswered, State.modTl, TileState.reseeded]

theorem steady_reseedAnswered (k : ℕ) (r : Reseed) (s : State) : Steady [.pk, .host, .cmd, .out, .epochs, .regs] s (reseedAnswered k r s) :=
  ((steady_of_frame (frame_modTl ..)).mono (by simp)).trans <|
    ((steady_of_frame (frame_bumpEpoch ..)).mono (by simp)).trans ((steady_closeCmd ..).mono (by simp))

theorem tl_reseedAnswered (k : ℕ) (r : Reseed) (s : State) (j : ℕ) :
    (reseedAnswered k r s).tl j = if j = k then (s.tl k).reseeded r else s.tl j := by
  rw [reseedAnswered, tl_congr (closeCmd_pk ..), tl_congr (bumpEpoch_pk ..), tl_modTl]

theorem goes_reseedDone {k : ℕ} {s : State} {r : Reseed} (hk : k < 16) (h : Live s) (hr : (s.tl k).reseed = some r)
    (hl : r.loaded s.mast.tick = 32768) :
    Goes (.reseedDone k) s [.pk, .host, .cmd, .out, .flt, .epochs, .regs] fun t =>
      (∀ j, t.tl j = if j = k then (s.tl k).reseeded r else s.tl j)
      ∧ t.epoch (ekL2 k) = (s.epoch (ekL2 k) + 1) % 65536 ∧ t.rg .ftIntStatus [k] = s.rg .ftIntStatus [k] ||| 8 := by
  have steady : Steady [.pk, .host, .cmd, .out, .flt, .epochs, .regs] s (reseedDone k s) := by
    rw [reseedDone_eq hr hl]
    exact ((steady_reseedAnswered k r s).mono (by simp)).trans ((steady_raiseInt ..).mono (by simp))
  refine goes_of_keep (exec_reseedDone hk s) h steady ?_
  rw [reseedDone_eq hr hl]
  refine ⟨fun j => ?_, ?_, ?_⟩
  · rw [tl_congr (raiseInt_pk ..), tl_reseedAnswered]
  · rw [epoch_congr (raiseInt_epochs ..), reseedAnswered, epoch_congr (closeCmd_epochs ..), epoch_bumpEpoch, if_pos rfl]
    rfl
  · have below : regAddr .ftIntStatus [k] < 0x100000008 := by rw [regAddr_ftIntStatus]; omega
    rw [rg_raiseInt_self _ _ _ (ftIntStatus_ne_signalCnt k), reseedAnswered, rg_closeCmd below]
    rfl

end Sys2Proof.Machine
end

section
/-! ### Obligation O15: the commands on the forwarding tables -/

namespace Sys2Proof.Machine

/-- Settles O15: each command and each end has its rule above, which gives every Tile after it; the tables then read as they were written. -/
theorem l2Commands : Obligations.L2Commands := by
  intro c s named n
  refine ⟨fun h ht h0 room => completes_hostReq (exec_l2EntryWrite c s) h ht h0 room,
    fun h ht h0 room => completes_hostReq (exec_l2EntryDelete c s) h ht h0 room,
    fun h ht hb free => goes_l2Flush h ht hb free, fun k f hk h hf ht => ?_,
    fun h hc h1 h2 h3 h0 => completes_l2Dump h hc h1 h2 h3 h0, fun h h0 free fits => ?_, fun k r hk h hr hl => ?_, fun h h0 => ?_,
    fun h ht h0 fits => ?_, completes_lpmSync, fun h ht h0 h1 hb hl => ?_, fun h ht h0 h1 hb hl hn => ?_⟩
  · refine goes_imp (goes_l2FlushDone hk h hf ht) fun t tiles => ⟨?_, fun j hj => ?_⟩
    · rw [tiles, if_pos rfl]; rfl
    · rw [tiles, if_neg hj]
  · refine goes_imp (goes_l2Reseed h h0 free fits) fun t ⟨tiles, cmd, regs⟩ => ⟨?_, fun k hk => ?_, cmd, regs⟩
    · rw [tiles, if_pos rfl]; rfl
    · rw [tiles, if_neg hk]
  · refine goes_imp (goes_reseedDone hk h hr hl) fun t ⟨tiles, epoch, raised⟩ => ⟨?_, fun j hj => ?_, epoch, raised⟩
    · rw [tiles, if_pos rfl]; rfl
    · rw [tiles, if_neg hj]
  · refine completes_imp (completes_l2RehashAck h h0) fun t tiles => ⟨?_, fun k hk => ?_⟩
    · rw [tiles, if_pos rfl]
    · rw [tiles, if_neg hk]
  · refine completes_imp (completes_lpmWrite h ht h0 fits) fun t ⟨tiles, epochs⟩ => ⟨fun k hk => ?_, fun k hk => ?_⟩
    · rw [tiles, if_pos hk]
      exact ⟨rfl, epochs k hk, routed_reads c (s.tl k)⟩
    · rw [tiles, if_neg hk]
  · refine completes_imp (completes_floodSetWrite h ht h0 h1 (by simp [hb, hl]) (by simp [hb])) fun t tiles => ⟨fun k hk => ?_, fun k hk => ?_⟩
    · rw [tiles, if_pos hk, TileState.flooded, hb]
      exact ⟨rfl, tget_tset_self .., fun j hj => tget_tset_ne _ _ _ _ hj⟩
    · rw [tiles, if_neg hk]
  · refine completes_imp (completes_floodSetWrite h ht h0 h1 (by simp [hb, hl]) fun _ => hn) fun t tiles => ⟨fun k hk => ?_, fun k hk => ?_⟩
    · rw [tiles, if_pos hk, TileState.flooded, hb]
      exact ⟨rfl, tget_tset_self .., fun j hj => tget_tset_ne _ _ _ _ hj⟩
    · rw [tiles, if_neg hk]

end Sys2Proof.Machine
end

section
/-! ### The L2 table with clean memories

Where no stored word carries an error a search reads the set alone, the purge of a set finds nothing, and a write changes the entry alone
(R156). -/

namespace Sys2Proof.Machine

/-- Write entry i of a Tile's table. -/
def putEntry (t i : ℕ) (e : W × W) (s : State) : State := s.modTl t fun tl => { tl with l2 := tset (0, 0) tl.l2 i e }

theorem steady_putEntry (t i : ℕ) (e : W × W) (s : State) : Steady [.pk] s (putEntry t i e s) := steady_of_frame (frame_modTl ..)

theorem tl_putEntry (t i : ℕ) (e : W × W) (s : State) (k : ℕ) :
    (putEntry t i e s).tl k = if k = t then { s.tl t with l2 := tset (0, 0) (s.tl t).l2 i e } else s.tl k := tl_modTl ..

theorem l2At_idle {s : State} {t : ℕ} (h : (s.tl t).reseed = none) (set way : ℕ) :
    s.l2At t set way = tget (0, 0) (s.tl t).l2 (4 * set + way) := by
  simp only [State.l2At, h]

/-- An entry holds a key: it is valid, with the key's VID and address. -/
def HoldsKey (k e : W × W) : Prop := l2Valid e = true ∧ l2Vid e = l2Vid k ∧ l2Mac e = l2Mac k

section
variable {s : State} (hc : Clean s)
include hc

theorem clean_l2Put (t set way : ℕ) (e : W × W) : l2Put t set way e s = putEntry t (4 * set + way) e s := by
  rw [l2Put, clean_memWriteN hc, putEntry]

theorem clean_l2Purge (t set : ℕ) : l2Purge t set s = s := by
  have good : eccDecode 64 (eccSyndrome 64 0) ≠ .uncorrectable := by decide
  simp [l2Purge, hc.1, good, when]

theorem clean_l2Way (t set vid mac : ℕ) (ws : List ℕ) : l2Way t set vid mac ws s
    = (ws.find? fun w => l2Valid (s.l2At t set w) && l2Vid (s.l2At t set w) == vid && l2Mac (s.l2At t set w) == mac, s) := by
  induction ws with
  | nil => rfl
  | cons w ws ih =>
    simp only [l2Way, clean_memReadN hc, List.find?_cons, ih]
    cases l2Valid (s.l2At t set w)
    · rfl
    · simp only [when, Bool.not_true, Bool.false_eq_true, if_false, if_true, Bool.true_and]
      cases l2Vid (s.l2At t set w) == vid && l2Mac (s.l2At t set w) == mac
      · exact ih
      · rfl

end

/-- Where way w of the set of a key lies in a Tile's table. -/
def State.placeOf (s : State) (t : ℕ) (k : W × W) (w : ℕ) : ℕ := 4 * l2Set (s.tl t).l2Seed (l2Vid k) (l2Mac k) + w

/-- The entry there. -/
def State.entryOf (s : State) (t : ℕ) (k : W × W) (w : ℕ) : W × W := tget (0, 0) (s.tl t).l2 (s.placeOf t k w)

/-- The set of a key does not hold it. -/
def Absent (s : State) (t : ℕ) (k : W × W) : Prop := ∀ v < 4, ¬HoldsKey k (s.entryOf t k v)

/-- Way w is the first of the set of a key to hold it. -/
def FirstAt (s : State) (t : ℕ) (k : W × W) (w : ℕ) : Prop :=
  w < 4 ∧ HoldsKey k (s.entryOf t k w) ∧ ∀ v < w, ¬HoldsKey k (s.entryOf t k v)

/-- Does an entry hold a key, as a search asks it. -/
theorem holdsKey_iff (k e : W × W) : HoldsKey k e ↔ (l2Valid e && l2Vid e == l2Vid k && l2Mac e == l2Mac k) = true := by
  simp [HoldsKey, and_assoc]

section
variable {s : State} {t : ℕ} {k : W × W} (hc : Clean s) (hr : (s.tl t).reseed = none)
include hc hr

/-- A search of the set of a key. -/
theorem clean_search : l2Way t (l2Set (s.tl t).l2Seed (l2Vid k) (l2Mac k)) (l2Vid k) (l2Mac k) [0, 1, 2, 3] s
    = ((List.range 4).find? fun w =>
        l2Valid (s.entryOf t k w) && l2Vid (s.entryOf t k w) == l2Vid k && l2Mac (s.entryOf t k w) == l2Mac k, s) := by
  simp only [clean_l2Way hc, l2At_idle hr]
  rfl

theorem search_absent (h : Absent s t k) :
    l2Way t (l2Set (s.tl t).l2Seed (l2Vid k) (l2Mac k)) (l2Vid k) (l2Mac k) [0, 1, 2, 3] s = (none, s) := by
  rw [clean_search hc hr, List.find?_eq_none.mpr fun v hv => (holdsKey_iff ..).not.mp (h v (List.mem_range.mp hv))]

theorem search_first {w : ℕ} (h : FirstAt s t k w) :
    l2Way t (l2Set (s.tl t).l2Seed (l2Vid k) (l2Mac k)) (l2Vid k) (l2Mac k) [0, 1, 2, 3] s = (some w, s) := by
  obtain ⟨way, holds, first⟩ := h
  rw [clean_search hc hr, List.find?_range_eq_some.mpr ⟨(holdsKey_iff ..).mp holds, List.mem_range.mpr way, fun v hv => ?_⟩]
  rw [Bool.not_eq_true']
  exact Bool.eq_false_iff.mpr ((holdsKey_iff ..).not.mp (first v hv))

end

end Sys2Proof.Machine
end

section
namespace Sys2Proof.Machine

/-! ### Learn and host requests applied (R139, R142) -/

section
variable {s : State} {n w : ℕ} {r : LearnReq} (hc : Clean s) (hr : (s.tl n).reseed = none)
include hc hr

/-- A key that its set does not hold takes the free way, and is counted. -/
theorem applyLearn_new (ha : Absent s n (r.w0, r.w1)) (hf : s.freeWay n (l2Set (s.tl n).l2Seed (l2Vid (r.w0, r.w1)) (l2Mac (r.w0, r.w1))) = some w) :
    applyLearn n r s = learnNotify n (l2Vid (r.w0, r.w1)) (l2Mac (r.w0, r.w1)) 0 (l2Port (r.w0, r.w1))
      ((putEntry n (s.placeOf n (r.w0, r.w1) w) (r.w0 ||| mk 63 63 1 ||| mk 60 60 1, r.w1) s).bump .l2Cnt0 [n] 63 32) := by
  simp only [applyLearn, search_absent hc hr ha, clean_l2Purge hc, hf, clean_l2Put hc]
  rfl

/-- A key at the same port is hit again. -/
theorem applyLearn_again (ha : FirstAt s n (r.w0, r.w1) w) (hp : l2Port (s.entryOf n (r.w0, r.w1) w) = l2Port (r.w0, r.w1)) :
    applyLearn n r s = putEntry n (s.placeOf n (r.w0, r.w1) w)
      (ins (s.entryOf n (r.w0, r.w1) w).1 60 60 1, (s.entryOf n (r.w0, r.w1) w).2) s := by
  rw [State.entryOf, State.placeOf, ← l2At_idle hr] at hp
  simp only [applyLearn, search_first hc hr ha, if_pos hp, clean_l2Purge hc, clean_l2Put hc]
  rw [State.entryOf, State.placeOf, l2At_idle hr]

/-- A static entry at another port stays, and the attempt is counted. -/
theorem applyLearn_static (ha : FirstAt s n (r.w0, r.w1) w) (hp : l2Port (s.entryOf n (r.w0, r.w1) w) ≠ l2Port (r.w0, r.w1))
    (hs : l2Static (s.entryOf n (r.w0, r.w1) w) = true) : applyLearn n r s = s.bump .l2Cnt2 [n] 63 48 := by
  rw [State.entryOf, State.placeOf, ← l2At_idle hr] at hp hs
  simp only [applyLearn, search_first hc hr ha, if_neg hp, hs, if_true]

/-- A host write of a key that its set does not hold takes the free way. -/
theorem applyHostReq_new (ha : Absent s n (r.w0, r.w1)) (hk : r.kind = 1) (hv : l2Valid (r.w0, r.w1) = true)
    (hf : s.freeWay n (l2Set (s.tl n).l2Seed (l2Vid (r.w0, r.w1)) (l2Mac (r.w0, r.w1))) = some w) :
    applyHostReq n r s = putEntry n (s.placeOf n (r.w0, r.w1) w) (r.w0, r.w1) s := by
  simp only [applyHostReq, search_absent hc hr ha, clean_l2Purge hc, hf, clean_l2Put hc]
  rw [if_pos (by simp [hk, hv])]
  rfl

/-- A host request on an entry that is there sets or clears it. -/
theorem applyHostReq_first (ha : FirstAt s n (r.w0, r.w1) w) : applyHostReq n r s
    = putEntry n (s.placeOf n (r.w0, r.w1) w) (if r.kind = 1 ∧ l2Valid (r.w0, r.w1) then (r.w0, r.w1) else (0, 0)) s := by
  simp only [applyHostReq, search_first hc hr ha, clean_l2Purge hc, clean_l2Put hc]
  rfl

end

end Sys2Proof.Machine
end

section
namespace Sys2Proof.Machine

/-! ### The learn engine takes the head of the queue (R138, R139) -/

/-- What stays in the learn filter when a request leaves it, with those that wait behind. -/
def filterLeft (r : LearnReq) (rest : List LearnReq) (f : List (W × W)) : List (W × W) :=
  if r.kind = 0 && !(rest.any fun q => q.kind == 0 && q.w0 == r.w0 && q.w1 == r.w1) then f.erase (r.w0, r.w1) else f

/-- The learn engine has taken request r from the queue of Tile n. -/
def takeRequest (n : ℕ) (r : LearnReq) (rest : List LearnReq) (s : State) : State :=
  s.modTl n fun tl => { tl with learnQ := rest, filter := filterLeft r rest tl.filter, lastLearn := s.mast.tick }

/-- The request at the head of a learn queue may be applied: four clocks after it was posted, two after the last one, in a Tile that is
awake and does not reseed. -/
structure LearnDue (n : ℕ) (r : LearnReq) (rest : List LearnReq) (s : State) : Prop where
  tile : n < 16
  live : Live s
  clean : Clean s
  awake : s.awake (domTile n) = true
  head : (s.tl n).learnQ = r :: rest
  idle : (s.tl n).reseed = none
  posted : r.tick + 2 ≤ s.mast.tick
  spaced : (s.tl n).lastLearn + 1 ≤ s.mast.tick

/-- The request has left the queue at this tick, and no other Tile has changed. -/
def TookRequest (n : ℕ) (rest : List LearnReq) (s t : State) : Prop :=
  (t.tl n).learnQ = rest ∧ (t.tl n).lastLearn = s.mast.tick ∧ ∀ j, j ≠ n → t.tl j = s.tl j

/-- Entry i of a Tile's table is e, and every other entry is as before. -/
def EntryIs (n i : ℕ) (e : W × W) (s t : State) : Prop :=
  ∀ j, tget (0, 0) (t.tl n).l2 j = if j = i then e else tget (0, 0) (s.tl n).l2 j

section
variable {n : ℕ} {r : LearnReq} {rest : List LearnReq} {s : State}

theorem tl_takeRequest (k : ℕ) : (takeRequest n r rest s).tl k = if k = n then
    { s.tl n with learnQ := rest, filter := filterLeft r rest (s.tl n).filter, lastLearn := s.mast.tick } else s.tl k := tl_modTl ..

theorem steady_takeRequest : Steady [.pk] s (takeRequest n r rest s) := steady_of_frame (frame_modTl ..)

theorem tookRequest_takeRequest : TookRequest n rest s (takeRequest n r rest s) := by
  refine ⟨?_, ?_, fun j hj => ?_⟩
  · rw [tl_takeRequest, if_pos rfl]
  · rw [tl_takeRequest, if_pos rfl]
  · rw [tl_takeRequest, if_neg hj]

theorem takeRequest_l2 : ((takeRequest n r rest s).tl n).l2 = (s.tl n).l2 := by rw [tl_takeRequest, if_pos rfl]

theorem takeRequest_seed : ((takeRequest n r rest s).tl n).l2Seed = (s.tl n).l2Seed := by rw [tl_takeRequest, if_pos rfl]

theorem takeRequest_reseed : ((takeRequest n r rest s).tl n).reseed = (s.tl n).reseed := by rw [tl_takeRequest, if_pos rfl]

@[simp] theorem placeOf_takeRequest (k : W × W) (w : ℕ) : (takeRequest n r rest s).placeOf n k w = s.placeOf n k w := by
  rw [State.placeOf, takeRequest_seed, State.placeOf]

@[simp] theorem entryOf_takeRequest (k : W × W) (w : ℕ) : (takeRequest n r rest s).entryOf n k w = s.entryOf n k w := by
  rw [State.entryOf, takeRequest_l2, placeOf_takeRequest, State.entryOf]

theorem freeWay_takeRequest (h : (s.tl n).reseed = none) (set : ℕ) : (takeRequest n r rest s).freeWay n set = s.freeWay n set := by
  simp only [State.freeWay, l2At_idle h, l2At_idle (takeRequest_reseed.trans h), takeRequest_l2]

theorem absent_takeRequest {k : W × W} (h : Absent s n k) : Absent (takeRequest n r rest s) n k := by
  simpa only [Absent, entryOf_takeRequest] using h

theorem firstAt_takeRequest {k : W × W} {w : ℕ} (h : FirstAt s n k w) : FirstAt (takeRequest n r rest s) n k w := by
  simpa only [FirstAt, entryOf_takeRequest] using h

theorem LearnDue.taken_clean (d : LearnDue n r rest s) : Clean (takeRequest n r rest s) := d.clean

theorem LearnDue.taken_idle (d : LearnDue n r rest s) : ((takeRequest n r rest s).tl n).reseed = none := takeRequest_reseed.trans d.idle

/-- What has one entry more written leaves the request taken, and that entry as written. -/
theorem written_facts {i : ℕ} {e : W × W} {t : State} (h : t.pk = (putEntry n i e (takeRequest n r rest s)).pk) :
    TookRequest n rest s t ∧ EntryIs n i e s t := by
  obtain ⟨queue, last, others⟩ := tookRequest_takeRequest (n := n) (r := r) (rest := rest) (s := s)
  have own : t.tl n = { (takeRequest n r rest s).tl n with l2 := tset (0, 0) ((takeRequest n r rest s).tl n).l2 i e } := by
    rw [tl_congr h, tl_putEntry, if_pos rfl]
  refine ⟨⟨?_, ?_, fun j hj => ?_⟩, fun j => ?_⟩
  · rw [own, queue]
  · rw [own, last]
  · rw [tl_congr h, tl_putEntry, if_neg hj, others j hj]
  · rw [own, takeRequest_l2, tget_tset]

theorem steady_learnNotify (t vid mac old new : ℕ) (s : State) : Steady [.host, .cmd, .out, .regs] s (learnNotify t vid mac old new s) :=
  steady_when (steady_postEvent ..)

theorem regsBut_learnNotify (t vid mac old new : ℕ) (s : State) : RegsBut (eventRegs 6 s) s (learnNotify t vid mac old new s) := by
  unfold learnNotify when
  split
  · exact regsBut_postEvent _ _ _ fun a ha => ha
  · exact RegsBut.refl _ _

theorem l2Cnt0_notMem_eventRegs (hn : n < 16) : regAddr .l2Cnt0 [n] ∉ eventRegs 6 s := by
  have signals : regAddr .intSignalCnt [] < 0x90028 := by decide
  have commands : regAddr .cmdIntStatus [] < 0x90028 := by decide
  have lost : regAddr .eventLostCnt [] < 0x90028 := by decide
  have own : regAddr .l2Cnt0 [n] = 0x90028 + n * 0x1000 := regAddr_one rfl rfl n
  refine notMem_eventRegs ?_ ?_ ?_ ?_ <;> omega

theorem exec_learnApply (hn : n < 16) (s : State) : exec (.learnApply n) s = keep s (learnApply n s) := by
  change keep s (learnApply (n % 16) s) = _
  rw [Nat.mod_eq_of_lt hn]

theorem learnApply_due (d : LearnDue n r rest s) : learnApply n s
    = if r.kind = 0 then applyLearn n r (takeRequest n r rest s) else applyHostReq n r (takeRequest n r rest s) := by
  have ready : ¬((s.tl n).reseed.isSome || decide (s.tick < r.tick + 2) || decide (s.tick < (s.tl n).lastLearn + 1)
      || !s.awake (domTile n)) = true := by
    simp [d.idle, d.awake, State.tick, not_lt.mpr d.posted, not_lt.mpr d.spaced]
  simp only [learnApply, d.head, if_neg ready]
  rfl

end

section
variable {n : ℕ} {r : LearnReq} {rest : List LearnReq} {s : State} (d : LearnDue n r rest s)
include d

theorem goes_learnApply_put {i : ℕ} {e : W × W} (h : learnApply n s = putEntry n i e (takeRequest n r rest s)) :
    Goes (.learnApply n) s [.pk] fun t => TookRequest n rest s t ∧ EntryIs n i e s t := by
  refine goes_of_keep (h ▸ exec_learnApply d.tile s) d.live (steady_takeRequest.trans (steady_putEntry ..)) (written_facts rfl)

/-- A key that is learned is counted, and notified where the Tile's configuration says so. -/
theorem goes_learnApply_new {w : ℕ} (hk : r.kind = 0) (ha : Absent s n (r.w0, r.w1))
    (hf : s.freeWay n (l2Set (s.tl n).l2Seed (l2Vid (r.w0, r.w1)) (l2Mac (r.w0, r.w1))) = some w) :
    Goes (.learnApply n) s [.pk, .host, .cmd, .out, .regs] fun t =>
      TookRequest n rest s t ∧ EntryIs n (s.placeOf n (r.w0, r.w1) w) (r.w0 ||| mk 63 63 1 ||| mk 60 60 1, r.w1) s t
      ∧ t.rgf .l2Cnt0 [n] 63 32 = satAdd 32 (s.rgf .l2Cnt0 [n] 63 32) 1 := by
  have applied := learnApply_due d
  rw [if_pos hk, applyLearn_new d.taken_clean d.taken_idle (absent_takeRequest ha)
    (by rw [takeRequest_seed, freeWay_takeRequest d.idle, hf]), placeOf_takeRequest] at applied
  generalize hv : (putEntry n _ _ (takeRequest n r rest s)).bump .l2Cnt0 [n] 63 32 = v at applied
  have counted : Steady [.pk, .regs] s v := hv ▸ (steady_takeRequest.mono (by simp)).trans
    (((steady_putEntry ..).mono (by simp)).trans ((steady_bump ..).mono (by simp)))
  have notified := steady_learnNotify n (l2Vid (r.w0, r.w1)) (l2Mac (r.w0, r.w1)) 0 (l2Port (r.w0, r.w1)) v
  have whole := (counted.mono (by simp)).trans (notified.mono (m := [.pk, .host, .cmd, .out, .regs]) (by simp))
  refine goes_of_keep (applied ▸ exec_learnApply d.tile s) d.live whole ?_
  obtain ⟨took, entry⟩ := written_facts ((notified.frame.2 .pk (by decide)).trans ((congrArg State.pk hv).symm.trans rfl))
  refine ⟨took, entry, ?_⟩
  rw [RegsBut.rgf (regsBut_learnNotify _ _ _ _ _ v) (l2Cnt0_notMem_eventRegs d.tile), ← hv]
  exact rgf_bump_self _ _ _ _ (by decide) (by decide)

theorem goes_learnApply_again {w : ℕ} (hk : r.kind = 0) (ha : FirstAt s n (r.w0, r.w1) w)
    (hp : l2Port (s.entryOf n (r.w0, r.w1) w) = l2Port (r.w0, r.w1)) :
    Goes (.learnApply n) s [.pk] fun t => TookRequest n rest s t ∧ EntryIs n (s.placeOf n (r.w0, r.w1) w)
      (ins (s.entryOf n (r.w0, r.w1) w).1 60 60 1, (s.entryOf n (r.w0, r.w1) w).2) s t := by
  have applied := learnApply_due d
  rw [if_pos hk, applyLearn_again d.taken_clean d.taken_idle (firstAt_takeRequest ha) (by rw [entryOf_takeRequest, hp]),
    placeOf_takeRequest, entryOf_takeRequest] at applied
  exact goes_learnApply_put d applied

theorem goes_learnApply_static {w : ℕ} (hk : r.kind = 0) (ha : FirstAt s n (r.w0, r.w1) w)
    (hp : l2Port (s.entryOf n (r.w0, r.w1) w) ≠ l2Port (r.w0, r.w1)) (hs : l2Static (s.entryOf n (r.w0, r.w1) w) = true) :
    Goes (.learnApply n) s [.pk, .regs] fun t =>
      TookRequest n rest s t ∧ (t.tl n).l2 = (s.tl n).l2 ∧ t.regs = (s.bump .l2Cnt2 [n] 63 48).regs := by
  have applied := learnApply_due d
  rw [if_pos hk, applyLearn_static d.taken_clean d.taken_idle (firstAt_takeRequest ha) (by rwa [entryOf_takeRequest])
    (by rw [entryOf_takeRequest, hs])] at applied
  exact goes_of_keep (applied ▸ exec_learnApply d.tile s) d.live ((steady_takeRequest.mono (by simp)).trans ((steady_bump ..).mono (by simp)))
    ⟨tookRequest_takeRequest, takeRequest_l2, rfl⟩

theorem goes_learnApply_write {w : ℕ} (hk : r.kind = 1) (hv : l2Valid (r.w0, r.w1) = true) (ha : Absent s n (r.w0, r.w1))
    (hf : s.freeWay n (l2Set (s.tl n).l2Seed (l2Vid (r.w0, r.w1)) (l2Mac (r.w0, r.w1))) = some w) :
    Goes (.learnApply n) s [.pk] fun t => TookRequest n rest s t ∧ EntryIs n (s.placeOf n (r.w0, r.w1) w) (r.w0, r.w1) s t := by
  have applied := learnApply_due d
  rw [if_neg (by omega), applyHostReq_new d.taken_clean d.taken_idle (absent_takeRequest ha) hk hv
    (by rw [takeRequest_seed, freeWay_takeRequest d.idle, hf]), placeOf_takeRequest] at applied
  exact goes_learnApply_put d applied

theorem goes_learnApply_host {w : ℕ} (hk : r.kind = 1 ∨ r.kind = 2) (ha : FirstAt s n (r.w0, r.w1) w) :
    Goes (.learnApply n) s [.pk] fun t => TookRequest n rest s t
      ∧ EntryIs n (s.placeOf n (r.w0, r.w1) w) (if r.kind = 1 ∧ l2Valid (r.w0, r.w1) then (r.w0, r.w1) else (0, 0)) s t := by
  have applied := learnApply_due d
  rw [if_neg (by omega), applyHostReq_first d.taken_clean d.taken_idle (firstAt_takeRequest ha), placeOf_takeRequest] at applied
  exact goes_learnApply_put d applied

end

end Sys2Proof.Machine
end

section
namespace Sys2Proof.Machine

/-! ### The ageing sweep (R143) -/

/-- What a visit leaves of an entry. -/
def sweptEntry (e : W × W) : W × W :=
  if l2Valid e = false ∨ l2Static e = true then e
  else if l2Hit e then (ins (ins e.1 60 60 0) 59 59 0, e.2)
  else if l2Mark e then (0, 0) else (ins e.1 59 59 1, e.2)

theorem sweptEntry_ageing {e : W × W} (h : ¬(l2Valid e = false ∨ l2Static e = true)) : sweptEntry e
    = if l2Hit e then (ins (ins e.1 60 60 0) 59 59 0, e.2) else if l2Mark e then (0, 0) else (ins e.1 59 59 1, e.2) := if_neg h

/-- An entry where a visit comes to it, and where it does not. -/
theorem sweptEntry_where (p : Prop) [Decidable p] (e : W × W) : (if p then sweptEntry e else e)
    = if ¬p ∨ l2Valid e = false ∨ l2Static e = true then e
      else if l2Hit e then (ins (ins e.1 60 60 0) 59 59 0, e.2) else if l2Mark e then (0, 0) else (ins e.1 59 59 1, e.2) := by
  by_cases h : p
  · simp only [h, sweptEntry, if_true, not_true, false_or]
  · rw [if_neg h, if_pos (.inl h)]

/-- The parts that a visit touches: the table, the count of removed entries, the event of a removal. -/
abbrev sweepParts : List Part := [.pk, .host, .cmd, .out, .regs]

/-- From s to t the listed entries of a Tile's table have been visited, and nothing else of any Tile has changed. -/
structure Swept (n : ℕ) (l : List ℕ) (s t : State) : Prop where
  steady : Steady sweepParts s t
  others : ∀ k, k ≠ n → t.tl k = s.tl k
  table : ∃ m, t.tl n = { s.tl n with l2 := m }
  entries : ∀ j, tget (0, 0) (t.tl n).l2 j = if j ∈ l then sweptEntry (tget (0, 0) (s.tl n).l2 j) else tget (0, 0) (s.tl n).l2 j

section
variable {n : ℕ} {l m : List ℕ} {s t u : State}

theorem Swept.refl (n : ℕ) (s : State) : Swept n [] s s := ⟨.refl _ s, fun _ _ => rfl, ⟨_, rfl⟩, fun _ => (if_neg List.not_mem_nil).symm⟩

theorem Swept.trans (f : Swept n l s t) (g : Swept n m t u) (h : ∀ j ∈ l, j ∉ m) : Swept n (l ++ m) s u where
  steady := f.steady.trans g.steady
  others k hk := (g.others k hk).trans (f.others k hk)
  table := by
    obtain ⟨a, ha⟩ := f.table
    obtain ⟨b, hb⟩ := g.table
    exact ⟨b, by rw [hb, ha]⟩
  entries j := by
    rw [g.entries, f.entries]
    by_cases hl : j ∈ l
    · rw [if_neg (h j hl), if_pos hl, if_pos (List.mem_append_left _ hl)]
    · simp only [hl, if_false, List.mem_append, false_or]

theorem Swept.clean (f : Swept n l s t) (h : Clean s) : Clean t := by
  rw [Clean, show t.flt = s.flt from f.steady.frame.2 .flt (by decide)]
  exact h

theorem Swept.reseed (f : Swept n l s t) : (t.tl n).reseed = (s.tl n).reseed := by
  obtain ⟨m, hm⟩ := f.table
  rw [hm]

/-- A visit that leaves its entry as it was. -/
theorem swept_idle {i : ℕ} (h : sweptEntry (tget (0, 0) (s.tl n).l2 i) = tget (0, 0) (s.tl n).l2 i) : Swept n [i] s s := by
  refine ⟨.refl _ s, fun _ _ => rfl, ⟨_, rfl⟩, fun j => ?_⟩
  split
  next own => rw [List.mem_singleton.mp own, h]
  next => rfl

/-- A visit that writes its entry. -/
theorem swept_put {i : ℕ} {e : W × W} (he : sweptEntry (tget (0, 0) (s.tl n).l2 i) = e)
    (ht : Steady [.host, .cmd, .out, .regs] (putEntry n i e s) t) : Swept n [i] s t := by
  have tiles := tl_congr (ht.frame.2 .pk (by decide))
  refine ⟨((steady_putEntry ..).mono (by simp)).trans (ht.mono (by simp)), fun k hk => ?_, ⟨tset (0, 0) (s.tl n).l2 i e, ?_⟩, fun j => ?_⟩
  · rw [tiles, tl_putEntry, if_neg hk]
  · rw [tiles, tl_putEntry, if_pos rfl]
  · rw [tiles, tl_putEntry, if_pos rfl, tget_tset]
    by_cases hj : j = i
    · rw [if_pos hj, if_pos (List.mem_singleton.mpr hj), hj, he]
    · rw [if_neg hj, if_neg (List.mem_singleton.not.mpr hj)]

/-- A removal is counted, and told where the Tile's configuration says so. -/
theorem steady_removed (c : Bool) (n : ℕ) (p : List W) (s : State) :
    Steady [.host, .cmd, .out, .regs] s (when c (postEvent 5 p) (s.bump .l2Cnt1 [n] 63 32)) :=
  ((steady_bump ..).mono (by simp)).trans (steady_when (steady_postEvent ..))

theorem swept_sweepEntry (hc : Clean s) (hr : (s.tl n).reseed = none) (set w : ℕ) : Swept n [4 * set + w] s (sweepEntry n set w s) := by
  simp only [sweepEntry, l2At_idle hr, clean_l2Put hc]
  split
  next kept => exact swept_idle (if_pos (by simpa using kept))
  next ages =>
    have swept := sweptEntry_ageing (e := tget (0, 0) (s.tl n).l2 (4 * set + w)) (by simpa using ages)
    split
    next hit => exact swept_put (swept.trans (if_pos hit)) (.refl ..)
    next quiet =>
      rw [if_neg quiet] at swept
      split
      next unmarked => exact swept_put (swept.trans (if_neg (by simpa using unmarked))) (.refl ..)
      next marked => exact swept_put (swept.trans (if_pos (by simpa using marked))) (steady_removed ..)

theorem swept_ways (hc : Clean s) (hr : (s.tl n).reseed = none) (set : ℕ) {ws : List ℕ} (hw : ws.Nodup) :
    Swept n (ws.map (4 * set + ·)) s (ws.foldl (fun s w => sweepEntry n set w s) s) := by
  induction ws generalizing s with
  | nil => exact .refl n s
  | cons w ws ih =>
    obtain ⟨fresh, hw⟩ := List.nodup_cons.mp hw
    have first := swept_sweepEntry hc hr set w
    refine first.trans (ih (first.clean hc) (first.reseed.trans hr) hw) fun j hj hm => ?_
    obtain ⟨v, hv, place⟩ := List.mem_map.mp hm
    rw [List.mem_singleton.mp hj] at place
    exact fresh (Nat.add_left_cancel place ▸ hv)

theorem exec_ageSweepVisit (hn : n < 16) (s : State) : exec (.ageSweepVisit n) s = keep s (ageSweep n s) := by
  change keep s (ageSweep (n % 16) s) = _
  rw [Nat.mod_eq_of_lt hn]

/-- Entries of a set. -/
theorem mem_set_iff (j set : ℕ) : j ∈ [0, 1, 2, 3].map (4 * set + ·) ↔ j / 4 = set := by
  simp only [List.map_cons, List.map_nil, List.mem_cons, List.not_mem_nil, or_false]
  omega

theorem goes_ageSweepVisit (h : Live s) (hn : n < 16) (hc : Clean s) (ha : s.awake (domTile n) = true) (hr : (s.tl n).reseed = none)
    (hp : s.rgf .l2Cfg [n] 31 16 ≠ 0) (hd : (s.tl n).sweepTick + s.rgf .l2Cfg [n] 31 16 * 390625 ≤ 16 * s.mast.tick) :
    Goes (.ageSweepVisit n) s sweepParts fun t =>
      (t.tl n).sweepPos = ((s.tl n).sweepPos + 1) % 32768 ∧ (t.tl n).sweepTick = (s.tl n).sweepTick + s.rgf .l2Cfg [n] 31 16 * 390625
      ∧ (∀ j, j ≠ n → t.tl j = s.tl j) ∧ ∀ j, tget (0, 0) (t.tl n).l2 j
        = if j / 4 = (s.tl n).sweepPos then sweptEntry (tget (0, 0) (s.tl n).l2 j) else tget (0, 0) (s.tl n).l2 j := by
  have visited := swept_ways hc hr (s.tl n).sweepPos (ws := [0, 1, 2, 3]) (by decide)
  have due : ¬(decide (s.rgf .l2Cfg [n] 31 16 = 0) || (s.tl n).reseed.isSome
      || decide (16 * s.tick < (s.tl n).sweepTick + s.rgf .l2Cfg [n] 31 16 * 390625) || !s.awake (domTile n)) = true := by
    simp [hp, hr, ha, State.tick, not_lt.mpr hd]
  have swept : ageSweep n s = ([0, 1, 2, 3].foldl (fun u w => sweepEntry n (s.tl n).sweepPos w u) s).modTl n fun tl =>
      { tl with sweepPos := (tl.sweepPos + 1) % 32768, sweepTick := (s.tl n).sweepTick + s.rgf .l2Cfg [n] 31 16 * 390625 } := if_neg due
  generalize [0, 1, 2, 3].foldl (fun u w => sweepEntry n (s.tl n).sweepPos w u) s = u at visited swept
  obtain ⟨m, table⟩ := visited.table
  refine goes_of_keep (swept ▸ exec_ageSweepVisit hn s) h (visited.steady.trans ((steady_of_frame (frame_modTl ..)).mono (by simp)))
    ⟨?_, ?_, fun j hj => ?_, fun j => ?_⟩
  · rw [tl_modTl_self, table]
  · rw [tl_modTl_self]
  · rw [tl_modTl, if_neg hj, visited.others j hj]
  · rw [tl_modTl_self, visited.entries]
    simp only [mem_set_iff]

end

end Sys2Proof.Machine
end

section
/-! ### Obligation O16: learning and ageing -/

namespace Sys2Proof.Machine

/-- Settles O16: a request that is due has its rule above by what its set holds; a visit of the sweep ages the four entries of its set. -/
theorem learning : Obligations.Learning := by
  intro n s hn h hc ha tl at_ same
  refine ⟨fun r rest head idle posted spaced => ?_, fun hr hp hd => ?_⟩
  · have due : LearnDue n r rest s := ⟨hn, h, hc, ha, head, idle, posted, spaced⟩
    exact ⟨fun w hk absent free => goes_learnApply_new due hk absent free,
      fun w hk hw holds first port => goes_learnApply_again due hk ⟨hw, holds, first⟩ port,
      fun w hk hw holds first port static => goes_learnApply_static due hk ⟨hw, holds, first⟩ port static,
      fun w hk valid absent free => goes_learnApply_write due hk valid absent free,
      fun w hk hw holds first => goes_learnApply_host due hk ⟨hw, holds, first⟩⟩
  · exact goes_imp (goes_ageSweepVisit h hn hc ha hr hp hd) fun t ⟨pos, tick, others, entries⟩ =>
      ⟨pos, tick, others, fun j => (entries j).trans (sweptEntry_where ..)⟩

end Sys2Proof.Machine
end

section
/-! ### BufferAndCrossbar fails: a grant window answers a timestamp action

R401 has a slice discard a packet whose words read as uncorrectable when they are staged for launch. The packet's egress queue had accepted
it, so R27 wants an ABORTED entry in the transmit-timestamp queue of its port. Those queues stand in the part `mast`, which the frame of a
grant window leaves out. -/

namespace Sys2Proof.Machine

/-- A packet of one cell for port 511 that carries the timestamp action under the identifier 7. -/
def stampedPkt : Pkt := { bytes := List.replicate 60 0, tile := 15, eport := 511, ts := some 7 }

/-- The reference to it, as stored packet 0 of its slice. -/
def stampedRef : Ref := { id := 0, port := 511, queue := 0, cells := 1, len := 64, mirror := false }

/-- A part that is up, at the end of a grant window: slice 15 has pulled the packet into cell 0, its cell's pull credit is taken, and plane 0
has accepted slice 15 for Tile 15. Two bits are flipped in the first word of the cell. -/
def stampedState : State :=
  { boot := { stage := 10, ready := true }, mast := { running := true, tick := 8 }, power := { floating := false }
    pk := { slices := [(15, { stored := [(0, { pkt := stampedPkt, cells := [(0, false, 1)], first := 16 * 511 })]
                              pulled := [(4 * 15, [stampedRef])] })]
            tiles := [(15, { credit := 1 })], tports := [(511, { out := 1 })], xbar := { accepts := [(0, 15, 15)] } }
    flt := { ecc := [(eccKey 13 15 0 0, 3)] } }

/-- The step answers a next state in which port p has an answer to a timestamp action waiting. -/
def leavesAnswer (c : Instr) (p : Nat) (s : State) : Bool :=
  match exec c s with
  | .next t => !(t.txts p).entries.isEmpty
  | _ => false

/-- A step whose frame leaves out the Mast block pushes no timestamp. -/
theorem not_goes_of_leavesAnswer {c : Instr} {s : State} {l : List Part} {p : Nat} {P : State → Prop} (h : leavesAnswer c p s = true)
    (hs : (s.txts p).entries = []) (hl : .mast ∉ l) : ¬ Goes c s l P := by
  rintro ⟨t, ht, frame, -⟩
  have mast : t.mast = s.mast := frame.2 .mast hl
  have txts : t.txts p = s.txts p := by rw [State.txts, mast, State.txts]
  simp [leavesAnswer, ht, txts, hs] at h

/-- No plane of the state has a detected fault. -/
theorem detected_stampedState : ∀ p < 12, (stampedState.plane p).detected = 0 := fun _ _ => rfl

/-- The grant window stages the packet, finds its word uncorrectable, discards it and pushes the ABORTED entry. -/
theorem stampedState_leavesAnswer : leavesAnswer .grantWindow 511 stampedState = true := by decide +kernel

/-- Refutes O17: the clause of a grant window without a detected fault fails where the window discards a packet that it stages (R401); the
answer to the packet's timestamp action (R27) changes the part `mast`, which the clause's frame leaves out. -/
theorem not_bufferAndCrossbar : ¬ Obligations.BufferAndCrossbar := by
  unfold Obligations.BufferAndCrossbar
  intro h
  obtain ⟨_, _, _, _, _, _, window, -⟩ := h { src := .pf0, clock := 0, w0 := 0, w1 := 0, params := [] } stampedState
  exact not_goes_of_leavesAnswer stampedState_leavesAnswer rfl (by decide) (window (by decide) (by decide) detected_stampedState)

end Sys2Proof.Machine
end

section
/-! ### The commands on Skeins (R198 to R200, Table 13-12)

A command places a Skein by `placeSkein`, frees it by `freeSkein`, and ends its last instance's wait by `settleSkein`. Each gets its rule
once; the clauses of the statement are assembled from them. -/

namespace Sys2Proof.Machine

/-! How the commands of this family end -/

/-- A command whose body is done with u inside its frame completes, and the Skeins are those of u. -/
theorem completes_of_skeins {i : Instr} {code : ℕ} {dom : Cmd → State → Option ℕ} {body : CmdBody} {c : Cmd} {s u : State} {res : List W}
    {l : List Part} (hx : exec i s = commandRow (runCommand code dom body c) c s) (h : Taken code dom c s)
    (hb : body c (noteIntake c s) = .done res u) (hf : Frame l (noteIntake c s) u) (hr : .regs ∉ l := by decide) (hm : .mast ∉ l := by decide) :
    Completes i c s res l [] fun t => t.sk = u.sk := by
  refine completes_of_done hx h hb ?_ (fun p hp _ => hf.2 p fun hl => hp (List.mem_append_right _ hl)) (RegsBut.of_eq (hf.2 .regs hr)) ?_
  · rw [show u.mast = (noteIntake c s).mast from hf.2 .mast hm, noteIntake_mast]
    exact h.1.2
  · simp [cntAccepted]

/-- A command that is accepted and answered later, whose body leaves u inside its frame: u stands but for the count and the waiting command. -/
theorem goes_of_opened {i : Instr} {code : ℕ} {dom : Cmd → State → Option ℕ} {body : CmdBody} {c : Cmd} {s u : State} {kind key : ℕ}
    {l : List Part} (hx : exec i s = commandRow (runCommand code dom body c) c s) (h : Taken code dom c s)
    (hb : body c (noteIntake c s) = .later (openCmd kind key c u)) (hu : Frame l (noteIntake c s) u)
    (hl : .cmd ∉ l ∧ .regs ∉ l ∧ .mast ∉ l ∧ .time ∉ l := by decide) :
    Goes i s (l ++ [.cmd, .regs]) fun t => Frame [.cmd, .regs] u t
      ∧ t.cmd = { (noteIntake c s).cmd with opened := s.cmd.opened ++ [{ cmd := c, kind := kind, key := key }] }
      ∧ RegsBut [regAddr .cmdSrcCnt [srcCode c.src]] s t := by
  obtain ⟨hcmd, hregs, hmast, htime⟩ := hl
  have taken : exec i s = keep s (cntAccepted c (openCmd kind key c u)) := by rw [hx, commandRow_turn h.2.2.2.2.1, runCommand_taken h, hb]; rfl
  have noted : Frame [.cmd] s (noteIntake c s) := ⟨by simp, fun p hp => by cases p <;> simp_all [Part.same]⟩
  have opened : Frame [.cmd] u (openCmd kind key c u) := ⟨by simp, fun p hp => by cases p <;> simp_all [Part.same]⟩
  have after : Frame [.cmd, .regs] u (cntAccepted c (openCmd kind key c u)) :=
    Frame.trans (Frame.mono (by simp) opened) (Frame.mono (by simp) (steady_bump ..).frame)
  have frame : Frame (l ++ [.cmd, .regs]) s (cntAccepted c (openCmd kind key c u)) :=
    Frame.trans (Frame.mono (by simp) noted) (Frame.trans (Frame.mono (by simp +contextual) hu) (Frame.mono (by simp) after))
  refine goes_of_running taken h.1 frame (congrArg Mast.running (frame.2 .mast (by simp [hmast]))) ⟨after, ?_, ?_⟩ (by simp [htime])
  · have cmd : u.cmd = (noteIntake c s).cmd := hu.2 .cmd hcmd
    simp [cntAccepted, openCmd, cmd]
  · exact RegsBut.trans (RegsBut.of_eq ((hu.2 .regs hregs).trans (noteIntake_regs c s)))
      (regsBut_bump (openCmd kind key c u) _ _ _ (List.mem_singleton.mpr rfl))

/-- The count of a source's commands is no register of a function. -/
theorem cmdSrcCnt_ne_fnIntStatus (c : Cmd) (f : ℕ) : regAddr .cmdSrcCnt [srcCode c.src] ≠ regAddr .fnIntStatus [f] := by
  have source := srcCode_le c.src
  have count : regAddr .cmdSrcCnt [srcCode c.src] = 0x30 + srcCode c.src * 8 := regAddr_one rfl rfl _
  have beyond := fnIntStatus_ge f
  omega

/-- A command that is taken and refused by its body is answered so, and the refusal is counted (R287, R289). -/
theorem bodyRefused_of_refuse {i : Instr} {code : ℕ} {dom : Cmd → State → Option ℕ} {body : CmdBody} {c : Cmd} {s : State} {st : Status} {d : ℕ}
    (hx : exec i s = commandRow (runCommand code dom body c) c s) (h : Taken code dom c s)
    (hb : body c (noteIntake c s) = .refuse st d) : BodyRefused i c s st d := by
  have reply : RegsBut [regAddr .fnIntStatus [(srcFn c.src).getD 0]] (cntRefused c (noteIntake c s)) (refuse c st d (noteIntake c s)) :=
    regsBut_sendReply _ _ _ _ _ _ (by simp)
  refine ⟨{ refuse c st d (noteIntake c s) with pending := s.pending, time := s.time }, ?_, ?_, ⟨by simp, fun p hp => ?_⟩, ?_, ?_⟩
  · rw [hx, commandRow_turn h.2.2.2.2.1, runCommand_refused h hb]
    exact keep_live' h.1 (by simp)
  · exact answers_congr rfl (answers_sendReply c st d [] (cntRefused c (noteIntake c s)))
  · cases p <;> simp_all [Part.same]
  · exact RegsBut.trans (RegsBut.of_eq (noteIntake_regs c s)) (RegsBut.trans (regsBut_bump _ _ _ _ (by simp [cmdRegs]))
      (RegsBut.trans (RegsBut.mono (by simp [cmdRegs]) reply) (RegsBut.of_eq rfl)))
  · calc (refuse c st d (noteIntake c s)).rgf .cmdSrcCnt [srcCode c.src] 31 16
        = (cntRefused c (noteIntake c s)).rgf .cmdSrcCnt [srcCode c.src] 31 16 := RegsBut.rgf reply (by simpa using cmdSrcCnt_ne_fnIntStatus c _) _ _
      _ = satAdd 16 ((noteIntake c s).rgf .cmdSrcCnt [srcCode c.src] 31 16) 1 := rgf_bump_self _ _ _ _ (by decide) (by decide)
      _ = satAdd 16 (s.rgf .cmdSrcCnt [srcCode c.src] 31 16) 1 := by rw [State.rgf, note_rg, State.rgf]

/-! What a body sees of the Skeins stands after the note at the intake -/

@[simp] theorem note_skein (c : Cmd) (s : State) (k : ℕ) : (noteIntake c s).skein k = s.skein k := skein_congr (noteIntake_sk c s) k

@[simp] theorem note_timeline (c : Cmd) (s : State) (t : ℕ) : (noteIntake c s).timeline t = s.timeline t := by
  rw [State.timeline, noteIntake_rig, State.timeline]

@[simp] theorem note_now16 (c : Cmd) (s : State) : (noteIntake c s).now16 = s.now16 := by rw [State.now16, noteIntake_time, State.now16]

@[simp] theorem note_fit (c : Cmd) (s : State) (q n : ℕ) : (noteIntake c s).fit q n = s.fit q n := by
  simp only [State.fit, State.regions, noteIntake_sk]

@[simp] theorem note_bindings (c : Cmd) (s : State) : (noteIntake c s).bindings = s.bindings := by
  have strand : (noteIntake c s).strand = s.strand := by
    funext x n
    rw [State.strand, noteIntake_sk, State.strand]
  have pairs : (noteIntake c s).pairsOf = s.pairsOf := by
    funext k
    rw [State.pairsOf, note_skein, strand, State.pairsOf]
  rw [State.bindings, noteIntake_sk, pairs, State.bindings]

@[simp] theorem note_bindClash (c : Cmd) (s : State) (es : List W) : bindClash (noteIntake c s) es = bindClash s es := by
  rw [bindClash, State.bindKeys, note_bindings, bindClash, State.bindKeys]

/-! ### Homes (R199) -/

section
variable {α : Type}

theorem terase_terase (t : Tbl α) (a : ℕ) : terase (terase t a) a = terase t a := by
  induction t with
  | nil => rfl
  | cons x r ih =>
    obtain ⟨k, v⟩ := x
    by_cases h : a = k <;> simpa [terase, h] using ih

variable [DecidableEq α]

/-- Writing what an unlisted key reads as takes the key out. -/
theorem tset_default (d : α) (t : Tbl α) (a : ℕ) : tset d t a d = terase t a := by
  induction t with
  | nil => simp [tset, terase]
  | cons x r ih =>
    obtain ⟨k, v⟩ := x
    rcases lt_trichotomy a k with below | rfl | above
    · simp [tset, terase, below, below.ne]
    · simp [tset, terase]
    · simp [tset, terase, above.not_gt, above.ne', ih]

/-- A key that is taken out leaves no trace of what was written there. -/
theorem terase_tset (d : α) (t : Tbl α) (a : ℕ) (v : α) : terase (tset d t a v) a = terase t a := by
  induction t with
  | nil => by_cases hv : v = d <;> simp [tset, terase, hv]
  | cons x r ih =>
    obtain ⟨k, w⟩ := x
    rcases lt_trichotomy a k with below | rfl | above
    · by_cases hv : v = d <;> simp [tset, terase, below, below.ne, hv, terase_terase]
    · by_cases hv : v = d <;> simp [tset, terase, hv, terase_terase]
    · simp [tset, terase, above.not_gt, above.ne', ih]

end

/-- The next home depends on the engines in service and on the descriptors alone. -/
theorem newHome_congr {s t : State} (hk : t.hk = s.hk) (descs : t.sk.descs = s.sk.descs) (q : ℕ) : t.newHome q = s.newHome q := by
  have engines : t.enginesOk q = s.enginesOk q := by rw [State.enginesOk, State.cluster, hk, State.enginesOk, State.cluster]
  have homed : t.homed q = s.homed q := by
    funext e
    rw [State.homed, descs, State.homed]
  rw [State.newHome, engines, homed, State.newHome]

/-- The engine that a Skein k gets in cluster q by the homes of the other Skeins. -/
def State.homeFor (s : State) (k q : ℕ) : ℕ := (s.setSkein k {}).newHome q

/-- The home of a Skein does not depend on its own descriptor. -/
theorem homeFor_written {s u : State} {k : ℕ} {v : Skein} (hk : u.hk = s.hk) (descs : u.sk.descs = tset {} s.sk.descs k v) (q : ℕ) :
    u.homeFor k q = s.homeFor k q :=
  newHome_congr (s := s.setSkein k {}) (t := u.setSkein k {}) hk
    (by rw [State.setSkein, State.setSkein, descs, tset_default, terase_tset, tset_default]) q

@[simp] theorem note_homeFor (c : Cmd) (s : State) (k q : ℕ) : (noteIntake c s).homeFor k q = s.homeFor k q :=
  newHome_congr (s := s.setSkein k {}) (t := (noteIntake c s).setSkein k {}) (noteIntake_hk c s)
    (by rw [State.setSkein, State.setSkein, noteIntake_sk]) q

/-! ### Placing and freeing (R199, R205) -/

/-- Word 0 of Skein k placed in cluster q: CLUSTER and HOME. -/
def State.placedWord (s : State) (k q : ℕ) (w0 : W) : W := ins (ins w0 59 58 q) 57 54 (s.homeFor k q)

/-- The symbol after the one that runs, on the timeline of a Skein. -/
def State.nextSymbol (s : State) (x : Skein) : ℤ := (s.timeline x.tlNo).symAt s.now16 + 1

/-- A Skein placed at a base: its pages are empty, and nothing of its former place is left. -/
def Skein.placedAt (w0 : W) (base : ℕ) (since : ℤ) (x : Skein) : Skein := { x with
  w0 := w0, qbase := base, page0 := none, page1 := none, strandSt := [], move := none, destroying := false, closed := [], rehomeAfter := none
  floor16 := none, since := since }

theorem placedAt_kept {x : Skein} (h : x.destroying = false) (w0 : W) (base : ℕ) (since : ℤ) : x.placedAt w0 base since = { x with
    w0 := w0, qbase := base, page0 := none, page1 := none, strandSt := [], move := none, rehomeAfter := none, closed := [], floor16 := none
    since := since } := by
  rw [Skein.placedAt, ← h]

theorem steady_placeSkein (k q base : ℕ) (s : State) : Steady [.sk, .flt] s (placeSkein k q base s) :=
  (steady_qclear ..).trans (((steady_setSkein ..).mono (by decide)).trans ((steady_of_frame (frame_memWriteN ..)).mono (by decide)))

theorem placeSkein_skein (k q base : ℕ) (s : State) (j : ℕ) : (placeSkein k q base s).skein j
    = if j = k then (s.skein k).placedAt (s.placedWord k q (s.skein k).w0) base (s.nextSymbol (s.skein k)) else s.skein j :=
  (skein_congr (memWriteN_sk ..) j).trans (skein_setSkein ..)

theorem placeSkein_strands (k q base : ℕ) (s : State) : (placeSkein k q base s).sk.strands = s.sk.strands := by
  rw [placeSkein, memWriteN_sk]
  rfl

theorem steady_setStrands (l : Tbl W) (s : State) : Steady [.sk] s { s with sk := { s.sk with strands := l } } :=
  steady_of_frame ⟨rfl, fun p hp => by cases p <;> simp_all [Part.same]⟩

theorem steady_freeSkein (k : ℕ) (s : State) : Steady [.sk, .flt] s (freeSkein k s) :=
  (steady_qclear ..).trans (((steady_setStrands ..).mono (by decide)).trans (((steady_setSkein ..).mono (by decide)).trans
    ((steady_of_frame (frame_memWriteN ..)).mono (by decide))))

theorem freeSkein_skein (k : ℕ) (s : State) (j : ℕ) : (freeSkein k s).skein j = if j = k then {} else s.skein j :=
  (skein_congr (memWriteN_sk ..) j).trans (skein_setSkein ..)

/-- Taking keys out of a table leaves every other key alone. -/
theorem tget_filter {α : Type} (d : α) (p : ℕ → Bool) (t : Tbl α) (a : ℕ) :
    tget d (t.filter fun x => p x.1) a = if p a then tget d t a else d := by
  induction t with
  | nil => simp [tget]
  | cons x t ih =>
    obtain ⟨k, v⟩ := x
    by_cases hk : a = k
    · subst hk
      by_cases hp : p a <;> simp [tget, hp, ih]
    · by_cases hp : p k <;> simp [tget, hp, hk, ih]

/-- The Strands of a freed Skein are gone from the table, the others stand. -/
theorem freeSkein_strands (k : ℕ) (s : State) (a : ℕ) : tget 0 (freeSkein k s).sk.strands a
    = if (s.skein k).strandBase ≤ a ∧ a < (s.skein k).strandBase + (s.skein k).numStrands then 0 else tget 0 s.sk.strands a := by
  have kept : (freeSkein k s).sk.strands
      = s.sk.strands.filter fun e => !(decide ((s.skein k).strandBase ≤ e.1) && decide (e.1 < (s.skein k).strandBase + (s.skein k).numStrands)) :=
    by rw [freeSkein, memWriteN_sk]; rfl
  rw [kept, tget_filter 0 fun a => !(decide ((s.skein k).strandBase ≤ a) && decide (a < (s.skein k).strandBase + (s.skein k).numStrands))]
  simp only [Bool.not_eq_true', Bool.and_eq_false_iff, decide_eq_false_iff_not, ite_not, ← not_and_or]

/-! What waits for a Skein's last instance (R199) -/

theorem settleSkein_open {k : ℕ} {s : State} (hi : (s.skein k).insts ≠ []) : settleSkein k s = s := by
  simp [settleSkein, hi]

theorem settleSkein_frees {k : ℕ} {s : State} (hi : (s.skein k).insts = []) (hm : (s.skein k).move = none) (hd : (s.skein k).destroying = true) :
    settleSkein k s = freeSkein k s := by
  simp [settleSkein, hi, hm, hd]

/-- A Skein that leaves its place for another in cluster q. -/
def moveSkein (k q base : ℕ) (s : State) : State :=
  placeSkein k q base (qclear (s.skein k).cluster (s.skein k).qbase (s.skein k).footprint s)

theorem settleSkein_moves {k q base : ℕ} {s : State} (hi : (s.skein k).insts = []) (hm : (s.skein k).move = some (q, base)) :
    settleSkein k s = closeCmd 0x0703 k .ok 0 [((moveSkein k q base s).skein k).w0] (moveSkein k q base s) := by
  simp [settleSkein, hi, hm, moveSkein]

theorem closeCmd_unopened {kind key : ℕ} {s : State} (h : ∀ o ∈ s.cmd.opened, ¬(o.kind = kind ∧ o.key = key)) (st : Status) (d : ℕ) (res : List W) :
    closeCmd kind key st d res s = s := by
  have mine : s.cmd.opened.filter (fun o => o.kind == kind && o.key == key) = [] := List.filter_eq_nil_iff.mpr (by simpa using h)
  have others : s.cmd.opened.filter (fun o => !(o.kind == kind && o.key == key)) = s.cmd.opened := 
    List.filter_eq_self.mpr fun o ho => by simpa [imp_iff_not_or] using h o ho
  simp only [closeCmd, mine, others, List.foldl_nil]

theorem steady_moveSkein (k q base : ℕ) (s : State) : Steady [.sk, .flt] s (moveSkein k q base s) := (steady_qclear ..).trans (steady_placeSkein ..)

theorem moveSkein_skein (k q base : ℕ) (s : State) (j : ℕ) : (moveSkein k q base s).skein j
    = if j = k then (s.skein k).placedAt (s.placedWord k q (s.skein k).w0) base (s.nextSymbol (s.skein k)) else s.skein j := placeSkein_skein ..

/-! ### SKEIN_CREATE (R198) -/

/-- The Strand entries of a create's block. -/
def strandsOf (c : Cmd) : List W := (c.params.drop 5).take (skeinOf c).numStrands

/-- The new Skein of a create's block with its footprint, before it is placed. -/
def createdSkein (c : Cmd) : Skein :=
  { skeinOf c with footprint := footprintOf (skeinOf c).numPrb (skeinOf c).numStrands (skeinOf c).groups }

@[simp] theorem createdSkein_w0 (c : Cmd) : (createdSkein c).w0 = (skeinOf c).w0 := rfl

@[simp] theorem createdSkein_tlNo (c : Cmd) : (createdSkein c).tlNo = (skeinOf c).tlNo := by rw [Skein.tlNo, createdSkein_w0, Skein.tlNo]

/-- A run of words written to consecutive keys from b on. -/
def putRun (b : ℕ) (es : List W) (t : Tbl W) : Tbl W := (List.range es.length).foldl (fun t i => tset 0 t (b + i) (es.getD i 0)) t

theorem tget_putRun (b : ℕ) (es : List W) (t : Tbl W) (a : ℕ) :
    tget 0 (putRun b es t) a = if b ≤ a ∧ a < b + es.length then es.getD (a - b) 0 else tget 0 t a := by
  have upto : ∀ n, tget 0 ((List.range n).foldl (fun t i => tset 0 t (b + i) (es.getD i 0)) t) a
      = if b ≤ a ∧ a < b + n then es.getD (a - b) 0 else tget 0 t a := by
    intro n
    induction n with
    | zero => rw [if_neg (by omega)]; rfl
    | succ n ih =>
      rw [List.range_succ, List.foldl_append, List.foldl_cons, List.foldl_nil, tget_tset, ih]
      by_cases last : a = b + n
      · rw [if_pos last, if_pos (by omega), last, Nat.add_sub_cancel_left]
      · rw [if_neg last]
        exact if_congr (by omega) rfl rfl
  exact upto _

/-- The state in which a create has written its Skein's descriptor and Strands. -/
def enterSkein (c : Cmd) (s : State) : State :=
  let t := s.setSkein (fld (c.p 0) 15 0) (createdSkein c)
  memWriteN 9 4 2 (skeinOf c).strandBase (strandsOf c).length
    { t with sk := { t.sk with strands := putRun (skeinOf c).strandBase (strandsOf c) s.sk.strands } }

theorem steady_enterSkein (c : Cmd) (s : State) : Steady [.sk, .flt] s (enterSkein c s) :=
  ((steady_setSkein ..).mono (by decide)).trans (((steady_setStrands ..).mono (by decide)).trans
    ((steady_of_frame (frame_memWriteN ..)).mono (by decide)))

theorem enterSkein_sk (c : Cmd) (s : State) : (enterSkein c s).sk = { s.sk with
    descs := tset {} s.sk.descs (fld (c.p 0) 15 0) (createdSkein c), strands := putRun (skeinOf c).strandBase (strandsOf c) s.sk.strands } :=
  memWriteN_sk ..

theorem enterSkein_skein (c : Cmd) (s : State) (j : ℕ) : (enterSkein c s).skein j = if j = fld (c.p 0) 15 0 then createdSkein c else s.skein j := by
  rw [State.skein, enterSkein_sk, tget_tset, State.skein]

/-- The Skein that a create leaves at a base. -/
theorem placed_enterSkein (c : Cmd) (q base : ℕ) (s : State) (j : ℕ) : (placeSkein (fld (c.p 0) 15 0) q base (enterSkein c s)).skein j
    = if j = fld (c.p 0) 15 0 then (createdSkein c).placedAt (s.placedWord (fld (c.p 0) 15 0) q (skeinOf c).w0) base (s.nextSymbol (skeinOf c))
      else s.skein j := by
  have home : (enterSkein c s).homeFor (fld (c.p 0) 15 0) q = s.homeFor (fld (c.p 0) 15 0) q :=
    homeFor_written ((steady_enterSkein c s).same (p := .hk)) (congrArg Skeins.descs (enterSkein_sk c s)) q
  have symbol : (enterSkein c s).nextSymbol (createdSkein c) = s.nextSymbol (skeinOf c) := by
    have rig : (enterSkein c s).rig = s.rig := (steady_enterSkein c s).same (p := .rig)
    have time : (enterSkein c s).time = s.time := (steady_enterSkein c s).same (p := .time)
    rw [State.nextSymbol, State.timeline, State.now16, rig, time, createdSkein_tlNo, State.nextSymbol, State.timeline, State.now16]
  rw [placeSkein_skein, enterSkein_skein, if_pos rfl, enterSkein_skein, symbol, State.placedWord, home, createdSkein_w0, State.placedWord]
  by_cases hj : j = fld (c.p 0) 15 0
  · rw [if_pos hj, if_pos hj]
  · rw [if_neg hj, if_neg hj, if_neg hj]

theorem exec_skeinCreate (c : Cmd) (s : State) :
    exec (.skeinCreate c) s = commandRow (runCommand 0x0700 createDomain skeinCreateBody c) c s := rfl

theorem strandBad_none {es : List W} (h : ∀ e ∈ es, strandBad e = false) :
    (List.range es.length).find? (fun i => strandBad (es.getD i 0)) = none := by
  refine List.find?_eq_none.mpr fun i hi => ?_
  have inside := List.mem_range.mp hi
  rw [List.getD_eq_getElem _ _ inside, h _ (List.getElem_mem inside)]
  exact Bool.false_ne_true

/-- The checks on the Strands stand as variables while the body is walked: the kernel must not compute them on entries whose number is a
field of a 64-bit word. -/
theorem skeinCreateBody_done {c : Cmd} {s : State} {base : ℕ} (hv : (s.skein (fld (c.p 0) 15 0)).valid = false)
    (hd : descBad (s.timeline (skeinOf c).tlNo) (skeinOf c) = none) (he : ∀ e ∈ strandsOf c, strandBad e = false)
    (hf : s.fit (skeinOf c).cluster (createdSkein c).footprint = some base) (hi : indexClash (strandsOf c) = none)
    (hk : bindClash s (strandsOf c) = none) (ht : (s.timeline (skeinOf c).tlNo).configured = true) :
    skeinCreateBody c s = .done [s.placedWord (fld (c.p 0) 15 0) (skeinOf c).cluster (skeinOf c).w0,
        mk 63 48 (skeinOf c).epoch ||| mk 47 26 base ||| mk 25 9 (createdSkein c).footprint]
      (placeSkein (fld (c.p 0) 15 0) (skeinOf c).cluster base (enterSkein c s)) := by
  have good := strandBad_none he
  have word : ((placeSkein (fld (c.p 0) 15 0) (skeinOf c).cluster base (enterSkein c s)).skein (fld (c.p 0) 15 0)).w0
      = s.placedWord (fld (c.p 0) 15 0) (skeinOf c).cluster (skeinOf c).w0 := by rw [placed_enterSkein, if_pos rfl]; rfl
  rw [← word]
  unfold strandsOf at good hi hk
  unfold createdSkein at hf ⊢
  unfold enterSkein strandsOf createdSkein skeinCreateBody
  generalize @List.find? ℕ = find at good ⊢
  generalize indexClash = index at hi ⊢
  generalize bindClash = bind at hk ⊢
  as_aux_lemma =>
    simp only [hv, hd, good, hf, hi, hk, ht, Bool.false_eq_true, Bool.not_true, if_false]
    rfl

/-- As above, for a Strand entry that is refused. -/
theorem skeinCreateBody_badStrand {c : Cmd} {s : State} {i : ℕ} (hv : (s.skein (fld (c.p 0) 15 0)).valid = false)
    (hd : descBad (s.timeline (skeinOf c).tlNo) (skeinOf c) = none)
    (hb : (List.range (strandsOf c).length).find? (fun i => strandBad ((strandsOf c).getD i 0)) = some i) :
    skeinCreateBody c s = .refuse .skeinInvalid (5 + i) := by
  unfold strandsOf at hb
  unfold skeinCreateBody
  generalize @List.find? ℕ = find at hb ⊢
  as_aux_lemma => simp only [hv, hd, hb, Bool.false_eq_true, if_false]

/-- The clause of a create that is not refused. -/
theorem completes_skeinCreate {c : Cmd} {s : State} {base : ℕ} (h : Taken 0x0700 createDomain c s)
    (hv : (s.skein (fld (c.p 0) 15 0)).valid = false) (hd : descBad (s.timeline (skeinOf c).tlNo) (skeinOf c) = none)
    (he : ∀ e ∈ strandsOf c, strandBad e = false) (hf : s.fit (skeinOf c).cluster (createdSkein c).footprint = some base)
    (hi : indexClash (strandsOf c) = none) (hk : bindClash s (strandsOf c) = none) (ht : (s.timeline (skeinOf c).tlNo).configured = true) :
    Completes (.skeinCreate c) c s [s.placedWord (fld (c.p 0) 15 0) (skeinOf c).cluster (skeinOf c).w0,
        mk 63 48 (skeinOf c).epoch ||| mk 47 26 base ||| mk 25 9 (createdSkein c).footprint] [.sk, .flt] [] fun t =>
      (∀ j, t.skein j = if j = fld (c.p 0) 15 0
        then (createdSkein c).placedAt (s.placedWord (fld (c.p 0) 15 0) (skeinOf c).cluster (skeinOf c).w0) base (s.nextSymbol (skeinOf c))
        else s.skein j)
      ∧ ∀ a, tget 0 t.sk.strands a = if (skeinOf c).strandBase ≤ a ∧ a < (skeinOf c).strandBase + (strandsOf c).length
        then (strandsOf c).getD (a - (skeinOf c).strandBase) 0 else tget 0 s.sk.strands a := by
  have done := skeinCreateBody_done (s := noteIntake c s) (base := base) (by simpa using hv) (by simpa using hd) he (by simpa using hf) hi
    (by simpa using hk) (by simpa using ht)
  simp only [State.placedWord, note_homeFor] at done
  refine completes_imp (completes_of_skeins (exec_skeinCreate c s) h done ((steady_enterSkein ..).trans (steady_placeSkein ..)).frame)
    fun t sk => ⟨fun j => ?_, fun a => ?_⟩
  · rw [skein_congr sk, placed_enterSkein]
    simp only [State.placedWord, State.nextSymbol, note_homeFor, note_skein, note_timeline, note_now16]
  · rw [sk, placeSkein_strands, enterSkein_sk, tget_putRun, noteIntake_sk]

/-- The clause of a Strand entry outside Table 9-5 or R226. -/
theorem refused_skeinCreate {c : Cmd} {s : State} {i : ℕ} (h : Taken 0x0700 createDomain c s)
    (hv : (s.skein (fld (c.p 0) 15 0)).valid = false) (hd : descBad (s.timeline (skeinOf c).tlNo) (skeinOf c) = none)
    (hb : (List.range (strandsOf c).length).find? (fun i => strandBad ((strandsOf c).getD i 0)) = some i) :
    BodyRefused (.skeinCreate c) c s .skeinInvalid (5 + i) := by
  refine bodyRefused_of_refuse (exec_skeinCreate c s) h ?_
  exact skeinCreateBody_badStrand (by simpa using hv) (by simpa using hd) hb

/-! ### SKEIN_MODIFY, SKEIN_DESTROY and SKEIN_MOVE (R199) -/

theorem exec_skeinModify (c : Cmd) (s : State) :
    exec (.skeinModify c) s = commandRow (runCommand 0x0701 skeinDomain skeinModifyBody c) c s := rfl

theorem exec_skeinDestroy (c : Cmd) (s : State) :
    exec (.skeinDestroy c) s = commandRow (runCommand 0x0702 skeinDomain skeinDestroyBody c) c s := rfl

theorem exec_skeinMove (c : Cmd) (s : State) : exec (.skeinMove c) s = commandRow (runCommand 0x0703 moveDomain skeinMoveBody c) c s := rfl

/-- A Skein with words 1 and 2 and EPOCH of a modify's block. -/
def Skein.modified (c : Cmd) (x : Skein) : Skein := { x with w1 := c.p 1, w2 := c.p 2, epoch := fld (c.p 3) 63 48 }

section
variable {c : Cmd} {s : State} {k : ℕ}

theorem skeinModifyBody_done (hk : fld (c.p 0) 15 0 = k) (hv : (s.skein k).valid = true) (hd : (s.skein k).destroying = false)
    (hb : descBad (s.timeline (s.skein k).tlNo) ((s.skein k).modified c) = none) :
    skeinModifyBody c s = .done [] (memWriteN 9 4 1 (4 * k + 1) 3 (s.setSkein k ((s.skein k).modified c))) := by
  unfold Skein.modified at hb
  simp only [skeinModifyBody, hk]
  rw [if_neg (by simp [hv, hd]), hb]
  rfl

theorem completes_skeinModify (h : Taken 0x0701 skeinDomain c s) (hk : fld (c.p 0) 15 0 = k) (hv : (s.skein k).valid = true)
    (hd : (s.skein k).destroying = false) (hb : descBad (s.timeline (s.skein k).tlNo) ((s.skein k).modified c) = none) :
    Completes (.skeinModify c) c s [] [.sk, .flt] [] fun t => ∀ j, t.skein j = if j = k then (s.skein k).modified c else s.skein j := by
  have done := skeinModifyBody_done (s := noteIntake c s) hk (by simpa using hv) (by simpa using hd) (by simpa using hb)
  refine completes_imp (completes_of_skeins (exec_skeinModify c s) h done (Frame.trans (Frame.mono (by simp) (steady_setSkein ..).frame)
    (Frame.mono (by simp) (frame_memWriteN ..)))) fun t sk j => ?_
  rw [skein_congr sk, skein_congr (memWriteN_sk ..), skein_setSkein, note_skein, note_skein]

theorem skeinDestroyBody_done (hk : fld (c.p 0) 15 0 = k) (hv : (s.skein k).valid = true) (hd : (s.skein k).destroying = false) :
    skeinDestroyBody c s = .done [] (settleSkein k (s.setSkein k { s.skein k with destroying := true })) := by
  simp [skeinDestroyBody, hk, hv, hd]

theorem completes_skeinDestroy_free (h : Taken 0x0702 skeinDomain c s) (hk : fld (c.p 0) 15 0 = k) (hv : (s.skein k).valid = true)
    (hd : (s.skein k).destroying = false) (hm : (s.skein k).move = none) (hi : (s.skein k).insts = []) :
    Completes (.skeinDestroy c) c s [] [.sk, .flt] [] fun t => (∀ j, t.skein j = if j = k then {} else s.skein j)
      ∧ ∀ a, tget 0 t.sk.strands a = if (s.skein k).strandBase ≤ a ∧ a < (s.skein k).strandBase + (s.skein k).numStrands then 0
        else tget 0 s.sk.strands a := by
  have stopped : ((noteIntake c s).setSkein k { s.skein k with destroying := true }).skein k = { s.skein k with destroying := true } := by
    rw [skein_setSkein, if_pos rfl]
  have done := skeinDestroyBody_done (s := noteIntake c s) hk (by simpa using hv) (by simpa using hd)
  rw [note_skein, settleSkein_frees (by rw [stopped]; exact hi) (by rw [stopped]; exact hm) (by rw [stopped])] at done
  refine completes_imp (completes_of_skeins (exec_skeinDestroy c s) h done
    (((steady_setSkein ..).mono (by decide)).trans (steady_freeSkein ..)).frame) fun t sk => ⟨fun j => ?_, fun a => ?_⟩
  · rw [skein_congr sk, freeSkein_skein, skein_setSkein, note_skein]
    split <;> rfl
  · rw [sk, freeSkein_strands, stopped, State.setSkein, noteIntake_sk]
    rfl

theorem completes_skeinDestroy_stop (h : Taken 0x0702 skeinDomain c s) (hk : fld (c.p 0) 15 0 = k) (hv : (s.skein k).valid = true)
    (hd : (s.skein k).destroying = false) (hi : (s.skein k).insts ≠ []) :
    Completes (.skeinDestroy c) c s [] [.sk] [] fun t => ∀ j, t.skein j = if j = k then { s.skein k with destroying := true } else s.skein j := by
  have done := skeinDestroyBody_done (s := noteIntake c s) hk (by simpa using hv) (by simpa using hd)
  rw [note_skein, settleSkein_open (by rw [skein_setSkein, if_pos rfl]; exact hi)] at done
  refine completes_imp (completes_of_skeins (exec_skeinDestroy c s) h done (steady_setSkein ..).frame) fun t sk j => ?_
  rw [skein_congr sk, skein_setSkein, note_skein]

/-- A Skein that leaves for another place: it is stopped, and the place is held (R199). -/
def Skein.leaving (q base : ℕ) (x : Skein) : Skein := { x with destroying := true, move := some (q, base) }

theorem skeinMoveBody_open {q base : ℕ} (hk : fld (c.p 0) 15 0 = k) (hq : fld (c.p 0) 17 16 = q) (hv : (s.skein k).valid = true)
    (hd : (s.skein k).destroying = false) (hf : s.fit q (s.skein k).footprint = some base) (hi : (s.skein k).insts ≠ []) :
    skeinMoveBody c s = .later (openCmd 0x0703 k c (s.setSkein k ((s.skein k).leaving q base))) := by
  simp [skeinMoveBody, hk, hq, hv, hd, hf, hi, Skein.leaving]

theorem goes_skeinMove_open {q base : ℕ} (h : Taken 0x0703 moveDomain c s) (hk : fld (c.p 0) 15 0 = k) (hq : fld (c.p 0) 17 16 = q)
    (hv : (s.skein k).valid = true) (hd : (s.skein k).destroying = false) (hf : s.fit q (s.skein k).footprint = some base)
    (hi : (s.skein k).insts ≠ []) :
    Goes (.skeinMove c) s [.sk, .cmd, .regs] fun t => (∀ j, t.skein j = if j = k then (s.skein k).leaving q base else s.skein j)
      ∧ t.cmd = { (noteIntake c s).cmd with opened := s.cmd.opened ++ [{ cmd := c, kind := 0x0703, key := k }] }
      ∧ RegsBut [regAddr .cmdSrcCnt [srcCode c.src]] s t := by
  have later := skeinMoveBody_open (s := noteIntake c s) hk hq (by simpa using hv) (by simpa using hd) (by simpa using hf) (by simpa using hi)
  refine goes_imp (goes_of_opened (exec_skeinMove c s) h later (steady_setSkein ..).frame) fun t ⟨frame, cmd, regs⟩ => ⟨fun j => ?_, cmd, regs⟩
  rw [skein_congr (frame.2 .sk (by decide)), skein_setSkein, note_skein, note_skein]

/-- A Skein that leaves without an instance stands at its new place as if it had never left. -/
theorem moveSkein_leaving (q base : ℕ) (j : ℕ) : (moveSkein k q base (s.setSkein k ((s.skein k).leaving q base))).skein j
    = if j = k then (s.skein k).placedAt (s.placedWord k q (s.skein k).w0) base (s.nextSymbol (s.skein k)) else s.skein j := by
  have home : (s.setSkein k ((s.skein k).leaving q base)).homeFor k q = s.homeFor k q := homeFor_written (State.setSkein_hk ..) rfl q
  rw [moveSkein_skein, skein_setSkein, skein_setSkein, if_pos rfl, State.placedWord, home]
  split <;> rfl

theorem skeinMoveBody_done {q base : ℕ} (hk : fld (c.p 0) 15 0 = k) (hq : fld (c.p 0) 17 16 = q) (hv : (s.skein k).valid = true)
    (hd : (s.skein k).destroying = false) (hf : s.fit q (s.skein k).footprint = some base) (hi : (s.skein k).insts = [])
    (ho : ∀ o ∈ s.cmd.opened, ¬(o.kind = 0x0703 ∧ o.key = k)) :
    skeinMoveBody c s = .done [s.placedWord k q (s.skein k).w0] (moveSkein k q base (s.setSkein k ((s.skein k).leaving q base))) := by
  have left : (s.setSkein k ((s.skein k).leaving q base)).skein k = (s.skein k).leaving q base := by rw [skein_setSkein, if_pos rfl]
  have cmd : (moveSkein k q base (s.setSkein k ((s.skein k).leaving q base))).cmd = s.cmd := (steady_moveSkein ..).same (p := .cmd)
  have settled : settleSkein k (s.setSkein k ((s.skein k).leaving q base)) = moveSkein k q base (s.setSkein k ((s.skein k).leaving q base)) := by
    rw [settleSkein_moves (by rw [left]; exact hi) (by rw [left]; rfl), closeCmd_unopened (by rwa [cmd])]
  have word : ((moveSkein k q base (s.setSkein k ((s.skein k).leaving q base))).skein k).w0 = s.placedWord k q (s.skein k).w0 := by
    rw [moveSkein_leaving, if_pos rfl]
    rfl
  rw [← word, ← settled]
  simp [skeinMoveBody, hk, hq, hv, hd, hf, hi, Skein.leaving]

theorem completes_skeinMove {q base : ℕ} (h : Taken 0x0703 moveDomain c s) (hk : fld (c.p 0) 15 0 = k) (hq : fld (c.p 0) 17 16 = q)
    (hv : (s.skein k).valid = true) (hd : (s.skein k).destroying = false) (hf : s.fit q (s.skein k).footprint = some base)
    (hi : (s.skein k).insts = []) (ho : ∀ o ∈ s.cmd.opened, ¬(o.kind = 0x0703 ∧ o.key = k)) :
    Completes (.skeinMove c) c s [s.placedWord k q (s.skein k).w0] [.sk, .flt] [] fun t => (∀ j, t.skein j = if j = k
        then (s.skein k).placedAt (s.placedWord k q (s.skein k).w0) base (s.nextSymbol (s.skein k)) else s.skein j)
      ∧ t.sk.strands = s.sk.strands := by
  have done := skeinMoveBody_done (s := noteIntake c s) hk hq (by simpa using hv) (by simpa using hd) (by simpa using hf) (by simpa using hi)
    (by simpa using ho)
  have word : (noteIntake c s).placedWord k q ((noteIntake c s).skein k).w0 = s.placedWord k q (s.skein k).w0 := by
    simp only [State.placedWord, note_homeFor, note_skein]
  rw [word] at done
  refine completes_imp (completes_of_skeins (exec_skeinMove c s) h done
    (((steady_setSkein ..).mono (by decide)).trans (steady_moveSkein ..)).frame) fun t sk => ⟨fun j => ?_, ?_⟩
  · rw [skein_congr sk, moveSkein_leaving, word]
    simp only [State.nextSymbol, note_skein, note_timeline, note_now16]
  · rw [sk, moveSkein, placeSkein_strands, qclear, State.setSkein, noteIntake_sk]

/-! ### SKEIN_READ (Table 13-12, R224, R241) -/

theorem exec_skeinRead (c : Cmd) (s : State) : exec (.skeinRead c) s = commandRow (runCommand 0x0704 noDomain skeinReadBody c) c s := rfl

/-- The result block of a read: the descriptor, SEQ and the counters. -/
def skeinReport (x : Skein) : List W :=
  [x.w0, x.w1, x.w2, (if x.valid then mk 63 48 x.epoch ||| mk 47 26 x.qbase ||| mk 25 9 x.footprint else 0 : W), BitVec.ofNat 64 x.seq]
    ++ ((List.range 8).map fun i => BitVec.ofNat 64 (tget 0 x.counts (i + 2)))
    ++ [BitVec.ofNat 64 x.weightNone, BitVec.ofNat 64 x.inexact, BitVec.ofNat 64 x.sat]

/-- A Skein whose counters are clear. -/
def Skein.uncounted (x : Skein) : Skein := { x with counts := [], weightNone := 0, inexact := 0, sat := 0 }

theorem completes_skeinRead (h : Taken 0x0704 noDomain c s) (hc : Clean s) (hk : fld (c.p 0) 15 0 = k) :
    Completes (.skeinRead c) c s (skeinReport (s.skein k)) [.sk] [] fun t =>
      ∀ j, t.skein j = if j = k then (if bitAt (c.p 0) 63 then (s.skein k).uncounted else s.skein k) else s.skein j := by
  have clean : Clean (noteIntake c s) := by simpa only [Clean, noteIntake_flt] using hc
  have done : skeinReadBody c (noteIntake c s) = .done (skeinReport (s.skein k))
      (when (bitAt (c.p 0) 63) (fun u => u.setSkein k (s.skein k).uncounted) (noteIntake c s)) := by
    simp only [skeinReadBody, mgmtReads, clean_memReadN clean, hk, note_skein]
    rfl
  refine completes_imp (completes_of_skeins (exec_skeinRead c s) h done (steady_when (steady_setSkein ..)).frame) fun t sk j => ?_
  rw [skein_congr sk, when]
  by_cases clear : bitAt (c.p 0) 63 = true
  · rw [if_pos clear, if_pos clear, skein_setSkein, note_skein]
  · rw [if_neg clear, if_neg clear, note_skein]
    split
    next same => rw [same]
    next => rfl

end

/-- Where the Skeins of t are those of s but for Skein k. -/
theorem skeins_but {k : ℕ} {x : Skein} {s t : State} (h : ∀ j, t.skein j = if j = k then x else s.skein j) :
    t.skein k = x ∧ ∀ j, j ≠ k → t.skein j = s.skein j :=
  ⟨(h k).trans (if_pos rfl), fun j hj => (h j).trans (if_neg hj)⟩

/-- Settles O21: each clause is the rule of its command. -/
theorem skeinCommands : Obligations.SkeinCommands := by
  unfold Obligations.SkeinCommands
  intro c s
  refine ⟨fun base h hv hd he hf hi hb ht => ?_, fun i h hv hd hb => refused_skeinCreate h hv hd hb, fun h hv hd hb => ?_,
    fun h hv hd hm hi => ?_, fun h hv hd hi => ?_, fun base h hv hd hf => ⟨fun hi ho => ?_, fun hi => ?_⟩, fun h hc => ?_⟩
  · refine completes_imp (completes_skeinCreate h hv hd he hf hi hb ht) fun t ⟨descs, strands⟩ => ?_
    obtain ⟨own, others⟩ := skeins_but descs
    exact ⟨own, others, strands⟩
  · exact completes_imp (completes_skeinModify h rfl hv hd hb) fun t descs => skeins_but descs
  · refine completes_imp (completes_skeinDestroy_free h rfl hv hd hm hi) fun t ⟨descs, strands⟩ => ?_
    obtain ⟨own, others⟩ := skeins_but descs
    exact ⟨own, others, strands⟩
  · exact completes_imp (completes_skeinDestroy_stop h rfl hv hd hi) fun t descs => skeins_but descs
  · refine completes_imp (completes_skeinMove h rfl rfl hv hd hf hi ho) fun t ⟨descs, strands⟩ => ?_
    obtain ⟨own, others⟩ := skeins_but descs
    exact ⟨own.trans (placedAt_kept hd ..), others, strands⟩
  · refine goes_imp (goes_skeinMove_open h rfl rfl hv hd hf hi) fun t ⟨descs, cmd, regs⟩ => ?_
    obtain ⟨own, others⟩ := skeins_but descs
    exact ⟨own, others, cmd, regs⟩
  · refine completes_imp (completes_skeinRead h hc rfl) fun t descs => ?_
    obtain ⟨own, others⟩ := skeins_but descs
    exact ⟨others, own⟩

end Sys2Proof.Machine
end
